-- ==== Sys2Proof/Word.lean ====
section
/-!
DEFINITION. The word types of the control space and of the memories, and their plainest arithmetic.
-/
namespace Sys2Proof

/-- A control-space register or engine register: 32 bits, little-endian (R9). -/
abbrev Word := BitVec 32

/-- One byte of the buffer DRAM, of a vault page or of a serial frame. -/
abbrev Byte := BitVec 8

end Sys2Proof
end

