-- ==== Sys2Proof/Syntax.lean ====
section
/-!
DEFINITION. The commands of the Aktan: one constructor for each row of the opcode table, in the table's order, with the row's
operands. An operand that is not a register's value is what the outside of the digital part decides or measures: the head
and channel signals, the tries of a decoder, the data on a link, the place that firmware chose.
-/
namespace Sys2Proof

/-- A requester (R25, R47): an engine role, an engine core, the Solder mailbox, or the host. -/
inductive Req where
  | role (r : Fin 16)
  | core (c : Fin 4)
  | mailbox
  | host
  deriving DecidableEq, Repr, Inhabited

/-- How much of a capture span was stored (R155, R156): nothing, a part, all of it, or more than a slot holds. -/
inductive Cover where
  | none | part | whole | over
  deriving DecidableEq, Repr, Inhabited

/-- What a decoder meets in one decode (R151): the unsatisfied checks after each local iteration, one list for each
global iteration, and the information part it converges to (R112), first bit most significant. -/
structure DecRun where
  us : List (List Nat)
  info : Nat
  deriving DecidableEq, Repr, Inhabited

/-- The result of one action of the retry ladder (R163): the STATUS of its completion and U at its stop. -/
structure LadderTry where
  status : Nat
  u : Nat
  ta : Bool
  deriving DecidableEq, Repr, Inhabited

/-- The fields of a 64-byte submission entry (NVMe 2.0) that the Aktan acts on: opcode, the flag byte (fuse and PSDT), CID,
NSID and CDW10 to CDW15. -/
structure Sqe where
  opc : Nat
  flags : Nat
  cid : Nat
  nsid : Nat
  d10 : Nat
  d11 : Nat
  d12 : Nat
  d13 : Nat
  d14 : Nat
  d15 : Nat
  deriving DecidableEq, Repr, Inhabited

/-- What a COPY_RESP says (R379 to R382). -/
inductive CopyAns where
  | accept
  | pieceOk (piece : Nat)
  | resend (piece : Nat)
  | refused
  | done
  | mismatch
  | aborted
  | unreach
  deriving DecidableEq, Repr, Inhabited

/-- What a Solder packet of domain scope carries (R370, R378 to R385). A DATA packet's copy flit is given by its fields. -/
inductive Body where
  | data (id piece : Nat) (comp last : Bool) (ofs : Nat) (flits : List Nat)
  | copyReq (id ns chunk md : Nat)
  | copyResp (id : Nat) (ans : CopyAns)
  | copyEnd (id digest : Nat)
  | lease (type req ma dur : Nat)
  | mbReq (wr : Bool) (addr data : Nat)
  | mbResp (status data : Nat)
  deriving DecidableEq, Repr, Inhabited

/-- A Solder packet of domain scope (R370): DST, SRC, VC (00b VC0, 01b VC1, 10b and 11b VC2), TAG and what it carries. -/
structure Pkt where
  dst : Nat
  src : Nat
  vc : Nat
  tag : Nat
  body : Body
  deriving DecidableEq, Repr, Inhabited

/-- How a packet reaches a Solder port (R369, R376): its LSEQ, the symbols corrected in its frames, and whether its CRC or
its frame fails. -/
structure Rx where
  lseq : Nat
  corr : Nat
  crcBad : Bool
  frameBad : Bool
  deriving DecidableEq, Repr, Inhabited

/-- What goes wrong in a command's data (R231, R246): nothing, a PCIe error, uncorrectable DRAM data, a guard, application tag
or reference tag check, or a sector of the media not recovered, named by its offset in the command. -/
inductive HostErr where
  | none
  | xfer
  | internal
  | guard
  | app
  | ref
  | unrec (ofs : Nat)
  deriving DecidableEq, Repr, Inhabited

/-- The commands (spec/opcode_table.json). -/
inductive Instr where
  /-- R12. A write to a register that has no row of its own sets, clears or ignores its fields by access type, discarding
  partial or locked writes. -/
  | registerWrite (r : Req) (a : BitVec 25) (v : Word) (be : Fin 16)
  /-- R12. A read of a register with an RC field returns its value and then clears the field. -/
  | readClear (r : Req) (a : BitVec 25) (be : Fin 16)
  /-- R36. A read of INV_NOW_LO or INV_WALL_LO captures all 64 bits for the requester, so that the HI half reads the same
  capture. -/
  | captureRead (r : Req) (wall : Bool)
  /-- R26. An access to an unmapped address reads zero or is discarded, and sets SYS_ERR.UNMAPPED and SYS_ERR_ADDR. -/
  | unmappedAccess (r : Req) (wr : Bool) (a : BitVec 25)
  /-- R27. An access to a block held in reset or powered off reads zero or is discarded, and sets SYS_ERR.BLK_DOWN. -/
  | blockDownAccess (r : Req) (wr : Bool) (a : BitVec 25)
  /-- R28. A host access to a denied region or block is refused, sets HOST_DENIED and raises Patina trigger 1. -/
  | hostAccessRefused (wr : Bool) (a : BitVec 25)
  /-- R340. A control-space access not completed 4 µs after it reached its block times out, sets ACC_TO and records CLK_TO_INFO.
  -/
  | accessTimeout (r : Req) (wr : Bool) (addr : BitVec 25)
  /-- R401. A rail rises from below its reset level, or a post-save power-on is requested, and the AON, DEV and CTL domains are
  cleared. -/
  | powerOn (straps : Fin 16) (dual : Bool)
  /-- R327. A clock source completes 65,536 cycles without a missing edge and becomes stable. -/
  | sourceStable (k : Fin 5)
  /-- R403. The main die leaves a DEV-clearing reset once the save is done, DEVRST# is high, FRC is stable and 10 µs have
  passed, and start-up runs. -/
  | devResetRelease
  /-- R405. A write of RST_CTL.CORE_REL releases cores 1–3 from reset, or holds them in it. -/
  | coreRelease (v : Fin 8)
  /-- R401. DEVRST# held low past its 1 µs filter triggers a DEV-clearing reset with the sequence of R402. -/
  | devrstAssert
  /-- R404. The watchdog reaches zero while EN is 1b and raises a watchdog reset. -/
  | watchdogExpiry (stage1 : Bool)
  /-- R404. A write of RST_WDT_KICK reloads the watchdog with PERIOD_MS. -/
  | watchdogKick
  /-- R401. A write of RST_CTL.FATAL raises a DEV-clearing fatal reset. -/
  | fatalReset
  /-- R411. A write of RST_CTL.FLT_REL releases the FLT# ball. -/
  | faultRelease
  /-- R15. The main die toggles the stage-link heartbeat every 1 µs. -/
  | heartbeatToggle
  /-- R15. The power die sees no heartbeat toggle for 16 µs, floats the spindle, retracts and clamps the actuators, zeroes the
  microactuators and latches HB_LOST. -/
  | heartbeatLoss
  /-- R44. A write that sets INV_CFG.EN starts Invar in the INVALID state. -/
  | invarEnable
  /-- R44. A write that clears INV_CFG.EN invalidates angle, clears every head lock and flushes both rings. -/
  | invarDisable
  /-- R83. A lane's servo window ends with the SAM found, which reports a sync to Invar, or missed, which sets MISS and reports
  the miss to Invar and Quench. -/
  | samSearch (a l : Fin 2) (mark chk : Bool) (idx period : Nat) (dev : Int)
  /-- R38. A head completes four consecutive good wedges and locks, which may change the angle source to SERVO and set ALIGNED.
  -/
  | headLock (a l : Fin 2)
  /-- R38. A head misses two consecutive wedges, or its lead lane rejects four track numbers in a row, and it loses lock, with
  any change of primary or source. -/
  | headLockLoss (a l : Fin 2)
  /-- R44. HOLD_LEFT reaches zero in HOLD, and angle becomes INVALID. -/
  | holdoverExpiry
  /-- R46. A write of INV_SKEW takes effect at once, or at the primary head's next sync for the primary surface. -/
  | skewWrite (surf : Fin 32) (v : Word)
  /-- R53. A write of INV_RING_W3 commits the staged entry, which is judged for invalid angle, class, lateness and a full ring.
  -/
  | ringEntryCommit (r : Req) (a : Fin 2) (w3 : Word)
  /-- R54. A write of INV_RING_CANCEL removes every tagged entry with that TAG from the ring. -/
  | ringCancel (a : Fin 2) (tag : Nat)
  /-- R123. A WG_OPEN entry fires and WCH writes the fragment when the TAG matches a ready descriptor; otherwise the entry is
  dropped, held or refused. -/
  | wgOpen (a : Fin 2)
  /-- R123. A WG_CLOSE entry fires and closes the write gate; the frame completes when this is its last fragment. -/
  | wgClose (a : Fin 2)
  /-- R128. An AE_ON entry fires and sets the channel's assist state. -/
  | aeOn (a : Fin 2)
  /-- R128. An AE_OFF entry fires and clears the channel's assist state. -/
  | aeOff (a : Fin 2)
  /-- R147. An RG_OPEN entry fires and opens the read gate, which enables capture. -/
  | rgOpen (a : Fin 2)
  /-- R147. An RG_CLOSE entry fires and closes the read gate. -/
  | rgClose (a : Fin 2)
  /-- R57. A QUIET_OPEN entry fires and opens a quiet window, or is deferred while a gate of the channel is open. -/
  | quietOpen (a : Fin 2)
  /-- R57. A deferred quiet window opens at the first tick at which both gates of the channel are closed. -/
  | quietOpenDeferred (ch : Fin 4)
  /-- R57. A QUIET_CLOSE entry fires and ends the window, or cancels a deferred open. -/
  | quietClose (a : Fin 2)
  /-- R284. An ENG_WAKE entry fires and sets source 0 of the named role. -/
  | engWake (a : Fin 2)
  /-- R49. A DMA_START entry fires and starts the named DMA channel. -/
  | dmaStart (a : Fin 2)
  /-- R49. A CORE_IRQ entry fires and interrupts the named core with the given vector. -/
  | coreIrq (a : Fin 2)
  /-- R68. A COMMUT entry fires in ring A and commands the next commutation step while commutation is ring-timed. -/
  | commut
  /-- R58. A wall timer's interval expires, which sets FIRED, interrupts a core and re-arms the timer when PERIODIC. -/
  | wallTimerExpiry (n : Fin 8)
  /-- R63. Clearing QCH_RW_STAT.OVF ends the channel's overflow hold. -/
  | rewriteOvfClear (ch : Fin 4)
  /-- R62. A write of QCH_RW_POP removes the oldest rewrite record. -/
  | rewritePop (ch : Fin 4)
  /-- R443. The count of good wedges for an automatic release reaches its limit and releases that trigger's hold. -/
  | quenchAutoRelease (a : Fin 2) (i : Fin 8)
  /-- R61. A write of QCH_REL releases the actuator, or is refused with REL_REFUSED while a holding condition is present. -/
  | quenchRelease (v : Fin 4)
  /-- R61. A write of QCH_CTL.HOLD holds or frees an actuator, taking down any open gate with a record. -/
  | quenchHold (v : Fin 4)
  /-- R440. A write of 1b to QCH_CTL.SWREQ raises trigger 111b on the actuator. -/
  | swreq (v : Fin 4)
  /-- R59. A write of QCH_TEST.PULSE while OUT_HOLD is 1b injects a test pulse and records its latency in QCH_LAT. -/
  | quenchTestPulse (ns : Nat)
  /-- R70. SPN_CTL.CMD START moves Babbitt to SENSE, or is refused. -/
  | cmdStart
  /-- R70. SPN_CTL.CMD STOP floats the bridge and enters STOPPING, or is refused. -/
  | cmdStop
  /-- R70. SPN_CTL.CMD FLOAT floats the bridge and enters OFF. -/
  | cmdFloat
  /-- R74. The 2 ms phase sample ends, and Babbitt catches the spindle forward or brakes it. -/
  | senseDone (fwd low : Bool) (rpm16 : Nat)
  /-- R70. In BRAKE, speed is below 3 % and the minimum time has elapsed, so Babbitt goes to LOCATE or OFF. -/
  | brakeDone (rpm16 : Nat)
  /-- R72. The test pulses of LOCATE end, and Babbitt drives the found sector or judges the attempt ambiguous. -/
  | locateAttemptDone (rises : Vector Nat 6) (pos neg : Nat)
  /-- R72. The 20 ms wait after an ambiguous attempt ends, and LOCATE is tried again. -/
  | locateRetry
  /-- R73. The open-loop rate reaches 10 % of TARGET without observer lock, and Babbitt retries or fails the start. -/
  | rampTimeout
  /-- R67. A zero crossing of the floating phase is accepted or rejected by the observer. -/
  | zeroCrossing (ofs : Int) (rising zero : Bool)
  /-- R67. Six consecutive accepted crossings lock the observer, which Babbitt reports to Invar. -/
  | observerLock (rpm16 : Nat)
  /-- R67. Two windows without an accepted crossing lose observer lock, and a driving state enters REACQ with ROTOR_LOST. -/
  | observerLockLoss
  /-- R68. The sequencer commutes at crossing plus DELAY, or falls back from ring-timed commutation with RING_MISS. -/
  | selfTimedCommutation
  /-- R70. ACCEL or SLEW reaches TARGET and enters RUN or COAST_MEAS. -/
  | speedReached (ms : Option Nat)
  /-- R77. COAST_MS elapses, and Babbitt computes KE, J and the hold-up energy and enters RUN. -/
  | coastMeasDone (ke drop : Nat)
  /-- R80. A write of SPN_SPEED.TARGET updates E at once and starts SLEW, or waits for the dirty cap when TARGET is lowered. -/
  | speedTargetWrite (v : Nat)
  /-- R80. BUF reports dirty data within the cap for the lowered TARGET, and Babbitt enters SLEW. -/
  | slewEntry
  /-- R76. REACQ passes 50 electrical revolutions without lock and sets REACQ_FAIL. -/
  | reacqTimeout
  /-- R76. Both actuators are parked after REACQ_FAIL, and Babbitt starts to brake. -/
  | reacqBrake
  /-- R76. 500 ms after REACQ_FAIL with an actuator not parked, Babbitt requests its retract. -/
  | reacqRetractTimeout
  /-- R70. Speed falls below 3 % in STOPPING, and Babbitt shorts the windings and enters BRAKE. -/
  | stoppingDone (rpm16 : Nat)
  /-- R70. Speed falls below FLOOR in RECTIFY, and Babbitt floats the bridge and sets RECT_DONE. -/
  | rectifyFloor (rpm16 : Nat)
  /-- R70. The supplies and lines recover in RECTIFY, and Babbitt re-enters SENSE. -/
  | rectifyRecovery
  /-- R78. Babbitt recomputes SPN_HOLDUP once per revolution or after a relevant write. -/
  | holdupUpdate (rpm16 : Nat)
  /-- R79. A firmware write of SPN_J sets J and VALID and clears MEASURED. -/
  | spnJWrite (w : Nat)
  /-- R310. SPN_CTL.PERMIT changes, and a lapse holds the speed or ends the start. -/
  | spinPermitChange (b : Bool)
  /-- R98. Setting SRV_CFG.EN reads the preamp ID and sends MODE sleep. -/
  | servoEnable (a : Fin 2)
  /-- R38. Clearing SRV_CFG.EN stops demodulation and drops the actuator's head locks. -/
  | servoDisable (a : Fin 2)
  /-- R99. A preamp serial frame ends, freeing a queue place; the next frame starts and the state of the source is updated. -/
  | preampFrameDone (a : Fin 2) (data : Nat)
  /-- R99. A write of SRV_PA_CMD.GO queues a read or write frame to the preamp. -/
  | paCmdGo (a : Fin 2) (v : Word)
  /-- R99. A write of SRV_HSEL queues a head-select frame, or refuses it with HS_REFUSED. -/
  | headSelect (a : Fin 2) (v : Word)
  /-- R100. HS_SETTLE ticks pass after a head select, and SRV trusts the lane's servo and data. -/
  | hsSettleDone (a l : Fin 2)
  /-- R86. A lane completes its position word, and the hardware loop updates the drive codes and Quench compares PES. -/
  | positionWord (a l : Fin 2) (ba bb bc bd t rro : Nat) (vel ref : Int)
  /-- R90. A write of SRV_COEF_CTL.SWAP requests a bank exchange, made at once while the actuator has no position word due. -/
  | coefSwap (a : Fin 2)
  /-- R91. In twin-head mode the lead passes to the other lane at that lane's next position word. -/
  | leadHandover (a : Fin 2)
  /-- R92. The shock sensor is sampled, compared with QCH_SHOCK, and fed forward to the VCM stage. -/
  | shockSample (x y z r : BitVec 8)
  /-- R92. FALL_MS of near-zero linear samples requests SWREQ, unloads the loaded actuators and sets FREEFALL. -/
  | freefallDetect (a : Fin 2)
  /-- R103. Px_FLT# asserts, which acts through Quench trigger 011b, and SRV reads FAULT. -/
  | preampFault (a : Fin 2)
  /-- R104. A write of SRV_SEEK.GO requests a permit or starts the trajectory, or is refused. -/
  | seekGo (a : Fin 2) (v : Word)
  /-- R104. No grant arrives within GRANT_WAIT, and the seek falls back to the FALLBACK profile. -/
  | seekGrantTimeout (a : Fin 2)
  /-- R104. The seek trajectory ends and the actuator enters SETTLE. -/
  | trajectoryEnd (a : Fin 2)
  /-- R104. SETTLE_N good lead wedges complete the seek with SEEK_DONE. -/
  | seekSettleDone (a : Fin 2)
  /-- R104. SETTLE_N + 64 wedges pass without settling, and the seek fails. -/
  | seekSettleTimeout (a : Fin 2)
  /-- R106. ACT_CTL LOAD enters LOADING and sends MODE active, or is refused. -/
  | cmdLoad (a : Fin 2)
  /-- R106. LOAD_TO elapses in LOADING or ACQUIRE, and ACT sets LOAD_FAIL and unloads. -/
  | loadTimeout (a : Fin 2)
  /-- R106. ACT_CTL UNLOAD drives the heads to the ramp. -/
  | cmdUnload (a : Fin 2)
  /-- R106. The back-EMF stays below 20 mV for 10 ms at the stop, and ACT clamps and parks. -/
  | unloadPark (a : Fin 2)
  /-- R106. UNLOAD_TO elapses in UNLOADING, and ACT retracts. -/
  | unloadTimeout (a : Fin 2)
  /-- R107. ACT_CTL RETRACT starts a retract from the hold-up bus. -/
  | cmdRetract (a : Fin 2)
  /-- R106. The retract request wire or a supply-reset line starts a retract. -/
  | retractRequest (a : Fin 2)
  /-- R107. The back-EMF stays below 20 mV for 2 ms, and the retract holds HOLD_MA towards the stop. -/
  | retractHoldStart (a : Fin 2)
  /-- R107. HOLD_MS ends, and ACT clamps, sets RET_DONE and parks. -/
  | retractDone (a : Fin 2)
  /-- R121. A write of WCH_FQ_W7 commits a write descriptor, or refuses it. -/
  | writeDescriptorCommit (r : Req) (ch : Fin 4) (w7 : Word)
  /-- R121. WCH has read, checked, scrambled and encoded the frame, and the descriptor becomes ready. -/
  | descriptorReady (ch : Fin 4) (tag : Nat)
  /-- R88. At WR_END, or at a WG_OPEN inside the guard, SRV forces the lane's write gate low and sets WR_OVERRUN. -/
  | wrEndGuard (a l : Fin 2)
  /-- R124. The role sets WCH_CTL.WR_ACTIVE before a command's first WG_OPEN. -/
  | wrActiveSet (ch : Fin 4)
  /-- R124. A clear of WR_ACTIVE is accepted when the gate is closed, assist is off and the queue is empty; otherwise it sets
  WA_REFUSED. -/
  | wrActiveClear (ch : Fin 4)
  /-- R121. A write of WCH_CQ_POP removes the oldest completion and frees its place. -/
  | writeCompletionPop (ch : Fin 4)
  /-- R120. WCH_TP_CTL.SAVE writes the accumulator, mask and pad to DRAM, or is refused. -/
  | wchTpSave (ch : Fin 4)
  /-- R120. WCH_TP_CTL.RESTORE loads the accumulator and mask from DRAM, or is refused. -/
  | wchTpRestore (ch : Fin 4)
  /-- R120. WCH_TP_CTL.CLEAR zeroes the accumulator and mask, or is refused. -/
  | wchTpClear (ch : Fin 4)
  /-- R117. A write of a rate-zone entry, SRV_WIN or WEDGES re-evaluates VALID of every entry. -/
  | rateZoneWrite (a : Fin 2) (h : Fin 10) (z : Fin 64) (w : Fin 4) (v : Word)
  /-- R133. A write of TPR_SELn.SEND clears READY and queues the preamp write and assist frames, clamped to TPR_LIM. -/
  | tprSend (ch : Fin 4) (v : Word)
  /-- R146. A write of RCH_FQ_W7 commits a read descriptor, or refuses it. -/
  | readDescriptorCommit (r : Req) (ch : Fin 4) (w7 : Word)
  /-- R155. A descriptor's capture span ends, and the frame is queued for in-line decode or completes with a missed-mark, not-
  read or incomplete status. -/
  | captureSpanEnd (ch : Fin 4) (tag : Nat) (cover : Cover) (samples : Nat) (m : List (Int × Nat)) (rs : List (List (Int ×
    Nat))) (run g0 g1 : Nat) (taps : List Nat) (ovf : Nat × Nat × Nat)
  /-- R151. An in-line decode converges or stops, and the result is checked, written and posted. -/
  | inlineDecodeDone (ch : Fin 4) (run : DecRun)
  /-- R155. A write of RCH_CQ_POP removes the oldest read completion. -/
  | readCompletionPop (ch : Fin 4)
  /-- R141. A write of RCH_SEL.LOAD clears READY and requests the copy of the per-head entry into the active set. -/
  | activeSetLoad (ch : Fin 4) (v : Word)
  /-- R141. No capture span is open, so the entry is copied into the active set and READY is set. -/
  | activeSetCopy (ch : Fin 4)
  /-- R142. A write of RCH_XBAR changes the read-pair routing, or is refused with XBAR_REFUSED. -/
  | xbarWrite (v : Word)
  /-- R158. A write of RCH_DJ_W1 queues a deep-decoder job, or refuses it. -/
  | deepJobCommit (r : Req) (w1 : Word)
  /-- R158. A free deep decoder with a permit takes the next job in priority and commit order. -/
  | deepJobStart
  /-- R159. A deep job ends in its mode, writes results and posts a deep completion. -/
  | deepJobDone (d : Fin 6) (marks : List (Int × Nat)) (screens : List Nat) (runs : List DecRun)
  /-- R158. A write of RCH_DJ_CQ_POP removes the oldest deep completion. -/
  | deepCompletionPop
  /-- R157. RCH_SB_PINCTL.PIN pins a sample slot, or is refused at 32 pinned. -/
  | sampleSlotPin (ch : Fin 4) (k : Fin 64)
  /-- R157. RCH_SB_PINCTL.UNPIN unpins a sample slot. -/
  | sampleSlotUnpin (ch : Fin 4) (k : Fin 64)
  /-- R162. RCH_TP_CTL.REBUILD recovers a member from the read parity accumulator, or is refused. -/
  | rebuild (ch : Fin 4) (k : Fin 64)
  /-- R162. RCH_TP_CTL.SAVE stores the read parity accumulator to DRAM. -/
  | rchTpSave (ch : Fin 4)
  /-- R162. RCH_TP_CTL.RESTORE loads the read parity accumulator from DRAM. -/
  | rchTpRestore (ch : Fin 4)
  /-- R162. RCH_TP_CTL.CLEAR zeroes the read parity accumulator, mask and parity bit. -/
  | rchTpClear (ch : Fin 4)
  /-- R164. A write of RCH_DEC_MAP rebinds in-line decoders, restarting or requeuing work, or is refused. -/
  | decoderRebind (v : Word)
  /-- R163. The channel-format role climbs the recovery steps for a frame not accepted in line. -/
  | retryLadder (ch : Fin 4) (k : Fin 64) (limited : Bool) (first : LadderTry) (tries : List LadderTry)
  /-- R135. The channel-format role rewrites every frame recorded in the FIFO or not completed with 00b. -/
  | frameRewrite (ch : Fin 4) (tag slot : Nat)
  /-- R174. A write of XLT_LK_W3 commits a lookup to the walker. -/
  | lookupCommit (r : Req) (w3 : Word)
  /-- R175. The walker covers the range, fills LIST_MAX or meets a fault, and posts the lookup completion. -/
  | lookupDone (tag : Nat) (bad : List (Nat × Nat))
  /-- R175. A write of XLT_LK_CQ_POP removes the oldest lookup completion. -/
  | lookupCompletionPop
  /-- R179. A write of XLT_UPD_ADDR submits a journal record, which is checked and then applied, or refused. -/
  | recordCommit (addr : Nat)
  /-- R179. The walks in the named chunks finish, the entries are written and XLT_JSEQ is advanced. -/
  | recordApplied
  /-- R190. A write of XCC_CTL.INV_ALL invalidates every line and lock, and sets INV_CLEAN on completion. -/
  | invAll
  /-- R190. A write that sets XCC_CTL.EN enables the cache, or is refused with EN_REFUSED. -/
  | cacheEnable
  /-- R191. XCC_INV_HI.GO invalidates the line range, losing its locks. -/
  | rangeInvalidate (last : Fin 1048576)
  /-- R188. XCC_LOCK with UNLOCK 0b installs and locks a line, or is refused. -/
  | lineLock (l : Fin 1048576)
  /-- R188. XCC_LOCK with UNLOCK 1b clears a line's lock. -/
  | lineUnlock (l : Fin 1048576)
  /-- R192. A write of XCC_CTL.WAY_DIS invalidates and bypasses ways, or is refused. -/
  | wayDisable (v : Fin 256)
  /-- R185. XL1 writes a checkpoint to the vault and copies it to the media. -/
  | checkpoint
  /-- R186. At start-up, XL1 loads the checkpoint, replays the journal and rebuilds from the media if needed. -/
  | mapRebuild (p0 p1 p2 p3 : Bool) (recs : List Nat) (images : List (Nat × Nat × Bool)) (seqs : List Nat)
  /-- R183. XL1 merges a chunk's media-cache sectors into a free band. -/
  | cleaning (addr old new : Nat) (units : List Nat)
  /-- R205. XL1 compresses, writes, verifies and maps a cold range as a compressed run. -/
  | compaction (ns n m : Nat) (done same : Bool) (srcs : List (Nat × Nat)) (addr : Nat)
  /-- R184. XL1 relocates a hard sector to the media cache or marks it UNREC. -/
  | sectorRelocation (recovered : Bool) (addr old unit : Nat)
  /-- R197. A write of CMP_JQ_W7 queues a compression job, or refuses it. -/
  | cmpJobCommit (r : Req) (w7 : Word)
  /-- R198. An engine holding a permit takes its next job. -/
  | cmpJobStart (e : Fin 2)
  /-- R199. A job ends with one status, saving its context when it succeeds. -/
  | cmpJobDone (e : Fin 2)
  /-- R208. CMP_CTL.ABORT stops and aborts every job of the engine. -/
  | cmpAbort (v : Fin 4)
  /-- R208. Clearing CMP_CTL.EN or setting ENG_DIS aborts the jobs of the affected engines. -/
  | cmpDisable (en : Bool) (dis : Fin 4)
  /-- R199. A write of CMP_CQ_POP removes the oldest completion. -/
  | cmpCompletionPop
  /-- R220. A host doorbell write updates the tail or head and starts a fetch, or raises an event when invalid. -/
  | mmioDoorbell (c : Fin 2) (cq : Bool) (q : Nat) (v : BitVec 16)
  /-- R219. At each FAST or SLOW period the HQ role reads the shadow doorbells and writes EventIdx. -/
  | shadowDoorbellPoll (c : Fin 2) (l : List (Bool × Nat × Nat))
  /-- R219. IDLE time passes with no entries, and the controller drops to SLOW polling. -/
  | pollIdleTimeout (c : Fin 2)
  /-- R217. Submission entries arrive from host memory and are parsed and admitted to RLT. -/
  | commandFetch (c : Fin 2) (q : Nat) (e : Sqe) (ranges : List (Nat × Nat))
  /-- R228. No earlier command blocks a command any longer, and it is granted. -/
  | rltGrant (c : Fin 2) (q i : Nat)
  /-- R222. A command's completion entry is queued to the writer, fixing its outcome and possibly freezing a strict queue. -/
  | commandCommit (c : Fin 2) (q i : Nat) (vaulted : Bool)
  /-- R221. The completion writer posts a waiting entry once its completion queue has room. -/
  | cqEntryPost (c : Fin 2) (q : Nat)
  /-- R234. Admin opcode 0x00 deletes a submission queue and completes its held commands with 0x08. -/
  | deleteIoSq (c : Fin 2) (i : Nat)
  /-- R234. Admin opcode 0x01 creates a submission queue in ACTIVE. -/
  | createIoSq (c : Fin 2) (i : Nat)
  /-- R215. Admin opcode 0x02 returns a supported log page. -/
  | getLogPage (c : Fin 2) (i : Nat)
  /-- R216. Admin opcode 0x04 deletes a completion queue. -/
  | deleteIoCq (c : Fin 2) (i : Nat)
  /-- R216. Admin opcode 0x05 creates a completion queue. -/
  | createIoCq (c : Fin 2) (i : Nat)
  /-- R213. Admin opcode 0x06 returns the Identify data. -/
  | identify (c : Fin 2) (i : Nat)
  /-- R237. Admin opcode 0x08 aborts the named command according to its state. -/
  | abort (c : Fin 2) (i : Nat)
  /-- R215. Admin opcode 0x09 sets a supported feature of NVMe 2.0. -/
  | setFeatures (c : Fin 2) (i data : Nat)
  /-- R232. Set Features 0xC1 enables or disables Strict Error Mode on a submission queue. -/
  | strictErrorMode (c : Fin 2) (i : Nat)
  /-- R354. Set Features 0xC0 writes the Assay duty percentage. -/
  | assayDuty (c : Fin 2) (i : Nat)
  /-- R319. Set Features 0x02 sets the controller's requested power state. -/
  | powerManagement (c : Fin 2) (i : Nat)
  /-- R324. Set Features 0x0C sets the APST table. -/
  | autonomousPowerStateTransition (c : Fin 2) (i : Nat) (table : List Nat)
  /-- R215. Admin opcode 0x0A returns a feature's setting. -/
  | getFeatures (c : Fin 2) (i : Nat)
  /-- R213. Admin opcode 0x0C leaves a request outstanding for an asynchronous event. -/
  | asynchronousEventRequest (c : Fin 2) (i : Nat)
  /-- R214. Admin opcode 0x0D creates or deletes a zoned or conventional namespace. -/
  | namespaceManagement (c : Fin 2) (i size cap fmt pi base : Nat) (recs : List Nat)
  /-- R214. Admin opcode 0x15 attaches a namespace to controllers. -/
  | namespaceAttachment (c : Fin 2) (i : Nat) (list : List (Fin 2))
  /-- R214. Admin opcode 0x11 downloads part of a firmware image. -/
  | firmwareImageDownload (c : Fin 2) (i : Nat) (data : List Byte)
  /-- R392. Firmware Commit action 000b checks the image and replaces the slot's image. -/
  | fwCommitReplace (c : Fin 2) (i : Nat)
  /-- R392. Firmware Commit action 001b replaces the image and appends a pending record. -/
  | fwCommitReplacePending (c : Fin 2) (i : Nat)
  /-- R392. Firmware Commit action 010b appends a pending record for the existing image. -/
  | fwCommitPending (c : Fin 2) (i : Nat)
  /-- R241. Firmware Commit action 011b verifies the image and starts activation without a reset. -/
  | fwCommitActivate (c : Fin 2) (i : Nat)
  /-- R241. The fetched commands commit, and the drain phase ends. -/
  | activationDrainEnd
  /-- R242. The drain reaches 500 ms, and commands without an applied record complete with Command Interrupted. -/
  | activationDrainLimit
  /-- R300. The engines stop at clean boundaries and the cores stop, which ends the stop phase. -/
  | activationStopEnd
  /-- R301. The new images are loaded and checked, which ends the load phase. -/
  | activationLoadEnd
  /-- R241. The engines restart at the warm entry and fetching resumes, and the Firmware Commit commits or falls back. -/
  | activationResume (ok : Bool)
  /-- R219. Admin opcode 0x7C enables shadow doorbells. -/
  | doorbellBufferConfig (c : Fin 2) (i : Nat)
  /-- R398. Format NVM with SES 000b deallocates every LBA. -/
  | formatNvm (c : Fin 2) (i : Nat) (recs : List Nat)
  /-- R398. Format NVM with SES 001b draws a new key when encrypted, then deallocates. -/
  | formatUserDataErase (c : Fin 2) (i : Nat) (recs : List Nat)
  /-- R398. Format NVM with SES 010b draws a new key, or is refused for an unencrypted namespace. -/
  | formatCryptoErase (c : Fin 2) (i : Nat) (recs : List Nat)
  /-- R398. Sanitize crypto erase replaces every key and deallocates. -/
  | sanitizeCryptoErase (c : Fin 2) (i : Nat) (recs : List Nat)
  /-- R398. Sanitize block erase writes fill frames everywhere, then deallocates. -/
  | sanitizeBlockErase (c : Fin 2) (i : Nat) (recs : List Nat)
  /-- R398. Sanitize overwrite is refused as not supported. -/
  | sanitizeOverwrite (c : Fin 2) (i : Nat)
  /-- R236. Thaw Queue action 01b releases held commands and resumes fetching. -/
  | thawResume (c : Fin 2) (i : Nat)
  /-- R236. Thaw Queue action 10b completes held commands with 0xC0 and resumes. -/
  | thawDiscardHeld (c : Fin 2) (i : Nat)
  /-- R236. Thaw Queue action 11b also discards every submitted entry up to the tail. -/
  | thawDiscardAll (c : Fin 2) (i : Nat) (cids : List Nat)
  /-- R395. Security Send 0001h enables encryption for an empty namespace. -/
  | enable (c : Fin 2) (i : Nat)
  /-- R399. Security Send 0002h delivers a debug unlock token. -/
  | debugToken (c : Fin 2) (i : Nat) (good : Bool) (scope : Fin 4)
  /-- R394. Security Send 0010h supplies a nonce and starts an attestation report. -/
  | attest (c : Fin 2) (i : Nat) (nonce : BitVec 256)
  /-- R395. Security Receive 0010h returns the report, or Report Not Ready. -/
  | reportReceive (c : Fin 2) (i : Nat)
  /-- R395. Security Receive 0011h returns the identity key and certificate. -/
  | identityReceive (c : Fin 2) (i : Nat)
  /-- R395. Security Receive 0012h returns the per-namespace encryption state. -/
  | keyInfoReceive (c : Fin 2) (i : Nat)
  /-- R399. Security Receive 0013h returns a fresh debug challenge nonce. -/
  | challengeReceive (c : Fin 2) (i : Nat)
  /-- R395. Security Receive protocol 00h lists the supported protocols. -/
  | protocolList (c : Fin 2) (i : Nat)
  /-- R225. NVM opcode 0x00 commits once every covered write is durable. -/
  | flush (c : Fin 2) (q i : Nat)
  /-- R223. NVM opcode 0x01 places data in segments and commits after its record is applied. -/
  | write (c : Fin 2) (q i : Nat) (data : List Byte) (recs : List Nat) (err : HostErr)
  /-- R19. NVM opcode 0x02 returns the data current at its grant. -/
  | read (c : Fin 2) (q i : Nat) (media : List (List Byte)) (err : HostErr)
  /-- R223. NVM opcode 0x04 marks its LBAs UNREC. -/
  | writeUncorrectable (c : Fin 2) (q i : Nat) (recs : List Nat)
  /-- R214. NVM opcode 0x05 compares data and fails with Compare Failure on a difference. -/
  | compare (c : Fin 2) (q i : Nat) (media : List (List Byte)) (data : List Byte) (err : HostErr)
  /-- R223. NVM opcode 0x08 makes its LBAs read as zeros. -/
  | writeZeroes (c : Fin 2) (q i : Nat) (recs : List Nat)
  /-- R223. NVM opcode 0x09 deallocates ranges. -/
  | datasetManagement (c : Fin 2) (q i : Nat) (recs : List Nat)
  /-- R214. NVM opcode 0x0C reads and checks data without transfer. -/
  | verify (c : Fin 2) (q i : Nat) (media : List (List Byte)) (err : HostErr)
  /-- R181. Zone Management Send Close closes a zone and saves its parity accumulator. -/
  | zoneClose (c : Fin 2) (q i : Nat) (recs : List Nat)
  /-- R181. Zone Management Send Finish fills the missing parity members and makes the zone Full. -/
  | zoneFinish (c : Fin 2) (q i : Nat) (recs : List Nat)
  /-- R214. Zone Management Send Open opens a zone explicitly. -/
  | zoneOpen (c : Fin 2) (q i : Nat) (recs : List Nat)
  /-- R182. Zone Management Send Reset frees the zone's extents in one record. -/
  | zoneReset (c : Fin 2) (q i : Nat) (recs : List Nat)
  /-- R214. Zone Management Send Offline takes the zone offline. -/
  | zoneOffline (c : Fin 2) (q i : Nat) (recs : List Nat)
  /-- R214. Opcode 0x7A reports zone descriptors. -/
  | zoneManagementReceive (c : Fin 2) (q i : Nat)
  /-- R180. Opcode 0x7D writes at the write pointer current when its record is applied. -/
  | zoneAppend (c : Fin 2) (q i : Nat) (data : List Byte) (recs : List Nat) (err : HostErr)
  /-- R213. CC.EN set to 1 readies the controller within CAP.TO. -/
  | controllerEnable (c : Fin 2) (asqs acqs : Fin 4097) (ams : Fin 8)
  /-- R239. CC.EN 1 to 0 aborts the controller's commands, deletes its queues and frees its RLT entries. -/
  | controllerReset (c : Fin 2)
  /-- R239. A function-level reset acts on its controller as a controller reset. -/
  | functionLevelReset (c : Fin 2)
  /-- R240. CC.SHN 01b stops fetching, makes data durable, checkpoints and sets SHST. -/
  | normalShutdown (c : Fin 2)
  /-- R240. CC.SHN 10b acts as a normal shutdown without the checkpoint. -/
  | abruptShutdown (c : Fin 2)
  /-- R401. A host write of NSSR raises a DEV-clearing reset. -/
  | nvmSubsystemReset (c : Fin 2)
  /-- R239. PERST_p# resets controller p and retrains port p. -/
  | perstAssert (p : Fin 2)
  /-- R239. A hot reset received on port p acts as PERST#. -/
  | hotReset (p : Fin 2)
  /-- R429. Link training on port p begins after PERST#, DEV release and REFCLK become stable. -/
  | linkTrainingStart (p : Fin 2) (ltssm : BitVec 6)
  /-- R251. BUF allocates consecutive clean units with REF 1. -/
  | allocClean (r : Req) (n : Fin 512)
  /-- R254. BUF allocates dirty units, or refuses them by the cap. -/
  | allocDirty (r : Req) (n : Fin 512)
  /-- R251. BUF adds one to the reference count of each named unit. -/
  | ref (r : Req) (n : Fin 512) (addr : Nat)
  /-- R251. BUF drops a reference and frees each unit that reaches zero. -/
  | unref (r : Req) (n : Fin 512) (addr : Nat)
  /-- R251. BUF clears the DIRTY bit of the named units. -/
  | clean (r : Req) (n : Fin 512) (addr : Nat)
  /-- R252. BUF clears DIRTY and then drops a reference. -/
  | cleanUnref (r : Req) (n : Fin 512) (addr : Nat)
  /-- R251. BUF allocates a named free unit as dirty during replay. -/
  | restore (r : Req) (n : Fin 512) (addr : Nat)
  /-- R258. GO with OP copy starts a DMA copy job. -/
  | dmaCopy (c : Fin 32)
  /-- R258. GO with OP fill starts a DMA fill job. -/
  | dmaFill (c : Fin 32)
  /-- R259. A DMA job completes with DONE, or halts at an uncorrectable line. -/
  | dmaJobEnd (c : Fin 32)
  /-- R249. The patrol scrubber reads the next line and corrects or poisons it. -/
  | scrubRead (ce ue : Bool)
  /-- R264. MEM_REPAIR.GO copies a row to a spare, or sets REPAIR_FAIL. -/
  | rowRepair (array row : Nat)
  /-- R250. A write of MEM_RETIREi removes a 2 MiB region from allocation and scrub. -/
  | regionRetire (i : Fin 16) (v : Word)
  /-- R267. A vault command with OP 0001b reads a page. -/
  | vaultReadPage (r : Req) (tag block page data spare : Nat)
  /-- R267. A vault command with OP 0010b programs a page, refused in region 6. -/
  | vaultProgramPage (r : Req) (tag block page data spare : Nat)
  /-- R267. A vault command with OP 0011b erases a block. -/
  | vaultEraseBlock (r : Req) (tag block : Nat)
  /-- R267. A vault command completes and posts its status, updating the save map. -/
  | vaultCommandDone (tag maxbits : Nat) (failed : Bool)
  /-- R267. A write of VLT_CQ_POP removes the oldest vault completion. -/
  | vaultCompletionPop
  /-- R317. The save trailer is written, Patina copies its records, and the die resets or requests power-on. -/
  | saveTrailerDone
  /-- R272. At start-up, firmware replays a found save into the map and the buffer. -/
  | saveReplay (at_ : Nat) (recs : List Nat) (lost : Nat) (free : List Nat)
  /-- R278. A microword with SEQ NEXT executes its fields and continues at PC + 1. -/
  | next (n : Fin 18)
  /-- R278. A microword with SEQ JUMP continues at NADDR. -/
  | jump (n : Fin 18)
  /-- R278. A microword with SEQ BRANCH continues at NADDR when its condition holds. -/
  | branch (n : Fin 18)
  /-- R278. A microword with SEQ CALL pushes PC + 1 and continues at NADDR. -/
  | call (n : Fin 18)
  /-- R278. A microword with SEQ CCALL calls when its condition holds. -/
  | ccall (n : Fin 18)
  /-- R278. A microword with SEQ RET pops the return address. -/
  | ret (n : Fin 18)
  /-- R278. A microword with SEQ CRET returns when its condition holds. -/
  | cret (n : Fin 18)
  /-- R278. A microword with SEQ DISPATCH continues at NADDR[12:4] with G[ASEL][3:0]. -/
  | dispatch (n : Fin 18)
  /-- R278. A microword with SEQ WAIT repeats until its condition holds. -/
  | wait (n : Fin 18)
  /-- R278. A microword with SEQ LOOP decrements LC and branches while it is non-zero. -/
  | loop (n : Fin 18)
  /-- R286. A microword with SEQ RETI commits, clears the edge source and returns to the base level. -/
  | reti (n : Fin 18)
  /-- R278. A microword with SEQ HALT commits and halts the engine. -/
  | halt (n : Fin 18)
  /-- R276. The data of an engine's bus read returns into BRD. -/
  | busReadReturn (n : Fin 18) (int : Bool)
  /-- R285. At a base word boundary, an enabled pending source switches the engine to the interrupt level. -/
  | interruptEntry (n : Fin 18)
  /-- R290. A base commit gap beyond CGAP × 1,024 clocks is a role fault. -/
  | commitGapExceeded (n : Fin 18)
  /-- R286. An interrupt level running ILIM × 256 clocks without RETI is a role fault. -/
  | interruptLimitExceeded (n : Fin 18)
  /-- R293. ENG_MIG.GO starts a planned migration with preload, or is refused. -/
  | migrationGo (v : Word)
  /-- R293. The loader finishes the target's image, and the migration moves to freeze or transfer. -/
  | migrationPreloadDone (last : Nat)
  /-- R293. The source reaches a clean base boundary, its state is transferred, and the target starts. -/
  | migrationFreeze (last : Nat)
  /-- R298. ENG_ROLEr_CTL.START loads a role image and cold-starts its engine, or is refused. -/
  | roleStart (r : Fin 16)
  /-- R298. The image is loaded, and the engine runs from the cold entry. -/
  | roleLoadDone (r : Fin 16)
  /-- R274. ENG_SEn_CTL.HALT stops a running engine at its next clean boundary. -/
  | engineHalt (n : Fin 18)
  /-- R274. ENG_SEn_CTL.RESUME returns a halted engine to RUN. -/
  | engineResume (n : Fin 18)
  /-- R296. ENG_SEn_CTL.SPARE returns a TEST or FAULTED engine to SPARE, serving any waiting fault. -/
  | engineSpare (n : Fin 18)
  /-- R296. ENG_SEn_CTL.RETIRE takes a TEST or FAULTED engine out of service. -/
  | engineRetire (n : Fin 18)
  /-- R274. Clearing ENG_CTL.EN halts every engine in RUN. -/
  | enginesDisable
  /-- R284. A write of ENG_ROLEr_DB stores a value and sets source 1 of the role. -/
  | roleDoorbell (r : Fin 16) (v : Word)
  /-- R299. A control-store window write is accepted, or discarded with CS_BUSY while the engine runs or loads. -/
  | controlStoreWrite (n : Fin 18) (p : Fin 3) (w : Fin 8192) (hi : Bool) (v : Word)
  /-- R305. A write of BUL_RQ_W1 submits, renews or replaces a slot's request, which is granted, queued or refused. -/
  | permitRequest (r : Req) (w1 : Word)
  /-- R305. A request with RELEASE withdraws the slot's request or ends its grant. -/
  | permitRelease (r : Req) (k : Fin 32)
  /-- R306. A waiting request's deadline passes, and it becomes blocking. -/
  | requestDeadline (k : Fin 24)
  /-- R307. A grant ends DUR wedges after it was made, and its holder reacts to the lapse. -/
  | grantExpiry (k : Fin 24)
  /-- R202. A hardware requester releases its permit after one idle wedge. -/
  | permitIdleRelease (k : Fin 24)
  /-- R312. A write of BUL_LEASEk records a lease in or out, or refuses a lease out. -/
  | leaseWrite (k : Fin 16) (w0 w1 : Word)
  /-- R311. A lease reaches its end plus or minus the guard, and Bullion clears VALID. -/
  | leaseEnd (k : Fin 16)
  /-- R314. A rail falls below warning, and Bullion freezes and records the dip. -/
  | supplyWarning (rail : Fin 2)
  /-- R313. Both rails stay above warning for 100 µs, and the freeze ends. -/
  | supplyWarningClear
  /-- R316. A rail reaches its reset level, and the power-loss sequence starts. -/
  | supplyResetLevel (rail : Fin 2)
  /-- R315. VIN12 current above OC12_MA for OC_US raises an emergency. -/
  | overCurrent (present : Bool)
  /-- R315. A write of BUL_CTL.EMERG raises an emergency. -/
  | emergencyWrite
  /-- R315. Clearing BUL_STAT.EMERG ends the emergency, or is discarded while its cause persists. -/
  | emergencyClear
  /-- R316. The hold-up bus falls below 6.0 V, and the power die turns every regulator off. -/
  | holdupCollapse (pages : Nat)
  /-- R323. A power-state request starts a transition, is held, or completes at once. -/
  | powerStateRequest (v : Word)
  /-- R321. A step of a power-state transition reaches its condition, and the next step starts or the transition ends. -/
  | powerStepDone
  /-- R322. A step is refused or times out, and the transition rolls back. -/
  | powerStepRefused (cause : Fin 16)
  /-- R324. A controller idle for ITPT ms moves its request to ITPS. -/
  | apstIdleTimeout (c : Fin 2)
  /-- R325. 1 s after a rolled-back raise, the raise is tried again, or WAKE_FAIL is set. -/
  | wakeRetry
  /-- R329. Setting CLK_PLLp.EN starts a PLL locking. -/
  | pllEnable (p : Fin 2)
  /-- R329. A PLL achieves lock. -/
  | pllLock (i : Fin 6)
  /-- R331. A PLL out of lock for 1 µs fails and is handled under its policy. -/
  | pllUnlock (p : Fin 2)
  /-- R330. A channel synthesizer loses lock, and Quench is raised when the channel is write-active. -/
  | synthUnlock (n : Fin 4)
  /-- R331. A clock monitor's window ends, and a second failing window declares a failure. -/
  | monitorWindow (k : Fin 5) (count : Nat)
  /-- R335. A write of CLK_MUXd.SEL starts a glitch-free switch, or is refused. -/
  | clockSwitch (d sel : Fin 8)
  /-- R335. A glitch-free switch completes, and BUSY clears. -/
  | clockSwitchDone (d : Fin 8)
  /-- R336. CLK_FORCE switches a domain without waiting, stopping it for 16 cycles. -/
  | forcedSwitch (v : BitVec 8)
  /-- R338. A block idle for 16 cycles has its clock gated. -/
  | clockGate (i : Fin 24)
  /-- R339. A write of CLK_GATE_FORCE holds blocks gated once pending accesses end. -/
  | gateForce (v : BitVec 24)
  /-- R343. Constantan converts every site each millisecond and evaluates its conditions. -/
  | temperatureConversion (t : Vector (BitVec 11) 12) (ro : BitVec 11)
  /-- R344. A write of THM_CTL.RESUME leaves STOPPED when TMAX is at or below RESUME_C. -/
  | thermalResume
  /-- R344. 60 s at or below RESUME_C with AUTO_RESUME leaves STOPPED. -/
  | autoResume
  /-- R348. CAL re-evaluates every item each millisecond and sets its due bits. -/
  | calDueEvaluation
  /-- R348. A write of CAL_DONE records the run: LAST_T, VALID and the due bit. -/
  | calDone (v : Word)
  /-- R349. CAL_ACC_CTL.GO clears and starts the sample accumulators. -/
  | accumulate (v : Word)
  /-- R349. The accumulation ends, and ACC_DONE is set. -/
  | accDone (span : List (BitVec 6)) (held : Nat)
  /-- R350. A write of CAL_APPLY_W1 checks and writes a correction, or refuses it and counts FAILS. -/
  | calApply (r : Req) (w1 : Word)
  /-- R353. Assay starts a test step when the device is idle and within its duty. -/
  | assayStepStart (test : Fin 16) (unit : BitVec 8) (detail : BitVec 16)
  /-- R356. A test step completes with pass or fail, repairing, retiring or substituting the unit. -/
  | assayStepDone (pass : Bool) (unit detail us : Nat)
  /-- R355. Host I/O arrives, and Assay abandons the step and returns its units within 40 µs. -/
  | assayYield (t us : Nat)
  /-- R358. A write of ASY_CHSUB substitutes CH(2a + 1) for CH(2a), or is refused. -/
  | channelSubstitution (v : Fin 4)
  /-- R362. A trigger leaves the queue, and Patina snapshots a new record or adds to REPEAT. -/
  | patinaRecord
  /-- R359. A write of PAT_SW.GO raises trigger 0. -/
  | patinaSw (detail : BitVec 24)
  /-- R363. 128 waiting records, or a shutdown, copy a page of records to the vault ring. -/
  | patinaVaultCopy (failed : Bool)
  /-- R364. A write of PAT_OPSEC_HI sets the count and rebases and stamps the EARLY records. -/
  | opsecWrite (hi : Byte)
  /-- R366. The TAP instruction BYPASS selects the bypass register. -/
  | bypass
  /-- R366. The TAP instruction IDCODE returns 0x1726_0B47. -/
  | idcode
  /-- R366. The TAP instruction SAMPLE/PRELOAD samples and preloads the boundary cells. -/
  | samplePreload (balls : Nat)
  /-- R366. The TAP instruction EXTEST drives the boundary cells while DEVRST# is asserted. -/
  | extest
  /-- R366. The TAP instruction CLAMP holds the outputs while DEVRST# is asserted. -/
  | clamp
  /-- R366. The TAP instruction HIGHZ floats the outputs while DEVRST# is asserted. -/
  | highz
  /-- R375. Both enables and FABRIC_EN are set, and a DISABLED port starts TRAIN. -/
  | portEnable (p : Fin 4)
  /-- R375. The receiver locks and adapts, and the port enters ALIGN. -/
  | trainLock (p : Fin 4)
  /-- R375. 10 ms without lock sends the port DOWN. -/
  | trainTimeout (p : Fin 4)
  /-- R375. Four aligned frames move the port to HELLO. -/
  | frameAlign (p : Fin 4)
  /-- R375. 1 ms without alignment sends the port DOWN. -/
  | alignTimeout (p : Fin 4)
  /-- R375. In HELLO the port sends a HELLO every 10 µs. -/
  | helloSend (p : Fin 4)
  /-- R375. A HELLO is received, bringing the port UP, or setting MISWIRE. -/
  | hello (p : Fin 4) (node : Fin 512) (port : Fin 4) (xdimM1 : Fin 32) (ydimM1 : Fin 16)
  /-- R375. 1 ms without a HELLO sends the port DOWN. -/
  | helloTimeout (p : Fin 4)
  /-- R375. An UP port fails, re-routes its replay buffer and goes DOWN. -/
  | linkFailure (p : Fin 4) (unc : Nat)
  /-- R375. 100 ms in DOWN returns the port to TRAIN. -/
  | downRetry (p : Fin 4)
  /-- R375. An enable cleared, a supply loss or Assay disables the port. -/
  | portDisable (p : Fin 4)
  /-- R372. A packet for another node is routed, detoured or dropped. -/
  | packetForward (p : Fin 4) (r : Rx) (reserved : Bool) (k : Pkt)
  /-- R376. A LACK acknowledges packets or requests a replay. -/
  | lack (p : Fin 4) (r : Rx) (next : Fin 256) (nak : Bool)
  /-- R376. Every 256 ns, or after a discard, the receiver sends a LACK. -/
  | lackSend (p : Fin 4)
  /-- R376. 2 µs without acknowledgement replays from the oldest unacknowledged packet. -/
  | replayTimeout (p : Fin 4)
  /-- R380. A DATA packet delivers part of a copy piece to the destination. -/
  | data (p : Fin 4) (r : Rx) (src : Fin 512) (id : Fin 256) (piece : Fin 32) (comp last : Bool) (ofs : BitVec 16) (decOk : Bool)
  /-- R379. A COPY_REQ is accepted or refused by the destination. -/
  | copyReq (p : Fin 4) (r : Rx) (src : Fin 512) (id : Fin 256) (ns : Fin 16) (chunk : BitVec 19) (md : BitVec 8) (band : Nat)
  /-- R382. A COPY_RESP returns a credit, a resend, or the copy's outcome to the source. -/
  | copyResp (p : Fin 4) (r : Rx) (src : Fin 512) (id : Fin 256) (ans : CopyAns) (data : List (List Nat)) (digest : Nat)
  /-- R381. A COPY_END carries the digest, and the destination commits or discards the copy. -/
  | copyEnd (p : Fin 4) (r : Rx) (src : Fin 512) (id : Fin 256) (digest own : BitVec 256) (addr : Nat)
  /-- R383. A LEASE_REQ enters the lender's receive queue. -/
  | leaseReq (p : Fin 4) (r : Rx) (src : Fin 512) (req : Fin 256) (ma : BitVec 12) (dur : BitVec 16)
  /-- R383. A LEASE_GRANT makes the borrower write its lease-in entry. -/
  | leaseGrant (p : Fin 4) (r : Rx) (src : Fin 512) (req : Fin 256) (ma : BitVec 12) (dur : BitVec 16) (k : Fin 16)
  /-- R383. A LEASE_DENY enters the borrower's receive queue. -/
  | leaseDeny (p : Fin 4) (r : Rx) (src : Fin 512) (req : Fin 256) (ma : BitVec 12) (dur : BitVec 16)
  /-- R385. An MB_REQ is performed as a mailbox access, or denied. -/
  | mbReq (p : Fin 4) (r : Rx) (src : Fin 512) (tag : BitVec 16) (wr : Bool) (addr : BitVec 25) (data : Word)
  /-- R385. An MB_RESP sets the requester's SLD_MB_RESP. -/
  | mbResp (p : Fin 4) (r : Rx) (tag : BitVec 16) (status : Fin 8) (data : Word)
  /-- R378. A write of SLD_CP_W3 starts a zone copy, or refuses it. -/
  | copyCommit (r : Req) (w3 : Word)
  /-- R380. An incomplete piece after PIECE_MS is answered RESEND. -/
  | pieceTimeout (src : Fin 512) (id : Fin 256) (piece : Fin 32)
  /-- R382. No answer within COPY_MS ends the copy with TIMEOUT. -/
  | copyTimeout (src : Option (Fin 512)) (id : Fin 256)
  /-- R382. A write of SLD_CP_CQ_POP removes the oldest copy completion. -/
  | copyCompletionPop
  /-- R385. A write of SLD_MB_W2 sends a remote register access. -/
  | mailboxCommit (r : Req) (w2 : Word)
  /-- R385. No answer within TO_US sets the requester's status to timeout. -/
  | mailboxTimeout (r : Req)
  /-- R383. A write of SLD_MSG_W2 sends a lease message, or refuses it. -/
  | messageSend (r : Req) (w2 : Word)
  /-- R383. A write of SLD_RXQ_POP removes the oldest received message. -/
  | rxqPop
  /-- R400. A write of SEC_LOCK.LOCK sets the configuration lock. -/
  | configLock
  /-- R387. A fuse command with OP 0001b blows bits up to the target count, or is refused. -/
  | rollbackAdvance (v : BitVec 7)
  /-- R386. A fuse command with OP 0010b revokes a signing key, or is refused. -/
  | keyRevoke (v : BitVec 7)
  /-- R389. SEC_VFY_CTL.GO checks an image and reports the result. -/
  | imageVerify
  /-- R391. A committed record is appended, which may advance the rollback count. -/
  | activationRecordCommit (slot : Fin 2)
  /-- R394. SEC_ATT_CTL.GO starts signing a report. -/
  | attestationStart
  /-- R394. A report is signed, and ATT_DONE is set. -/
  | attestationDone
  /-- R397. A key command with OP generate draws, wraps and stores a new media key. -/
  | keyGenerate (n : Fin 4) (fail : Bool)
  /-- R397. A key command with OP load unwraps a namespace key. -/
  | keyLoad (n : Fin 4) (bad : Bool)
  /-- R397. A key command with OP erase destroys a namespace key. -/
  | keyErase (n : Fin 4) (fail : Bool)
  /-- R397. A key command with OP unload removes a loaded key. -/
  | keyUnload (n : Fin 4)
  /-- R399. SEC_DBG_CTL.GO checks a token and unlocks debug, or refuses it. -/
  | debugUnlock (good : Bool) (scope : Fin 4)
  /-- R399. A read of SEC_DBG_CHAL0 draws a new nonce. -/
  | debugChallenge
  /-- R433. A recovery header and image arrive on DBG_RX and are acknowledged and checked, or refused. -/
  | recoveryHeader (len crc : Word) (image : List Byte)
  /-- R433. A gap over 100 ms discards the partly received recovery image. -/
  | recoveryGapTimeout (got : List Byte)
  /-- R434. Viarum READ32 reads words as host accesses. -/
  | read32 (seq : Byte) (crcOk : Bool) (payload : List Byte)
  /-- R434. Viarum WRITE32 writes words as host accesses. -/
  | write32 (seq : Byte) (crcOk : Bool) (payload : List Byte)
  /-- R434. Viarum PATINA returns Patina records. -/
  | patina (seq : Byte) (crcOk : Bool) (payload : List Byte)
  /-- R434. Viarum LOG returns log page bytes. -/
  | log (c : Fin 2) (seq : Byte) (crcOk : Bool) (payload : List Byte)
  /-- R434. Viarum INFO returns identity, version, power state and reset cause. -/
  | info (seq : Byte) (crcOk : Bool) (payload : List Byte)
  /-- R434. A gap over 10 ms inside a frame discards the frame. -/
  | viarumGapTimeout (got : List Byte)
  /-- R212. The SMBus basic management command returns the health status. -/
  | nvmeMiBasic
  /-- R212. Once per second the NVMe-MI status flags and temperature are updated. -/
  | miStatusUpdate
  /-- R432. The 50 ms minimum low period ends, and ACTLED is released when no command is outstanding. -/
  | actledHoldExpiry
  /-- R353. The duty window of ASY_CFG.WINDOW_S seconds ends, ASY_USED starts again from zero, and Assay leaves the duty-spent
  state. -/
  | assayDutyWindowEnd
  /-- R202. A hardware requester (deep decoder, CMP engine, VLT, DMA path or Solder port) renews its Bullion grant on its own
  while its queue has work. -/
  | hardwarePermitRenewal (k : Fin 24)
  /-- R156. A read descriptor's capture span opens at its angle, and the capture takes the sample slot that holds the oldest
  unpinned capture. -/
  | captureSpanStart (ch : Fin 4) (tag : Nat)
  /-- R99. A lane's microactuator output finishes slewing to 0 V, and SRV sends the head-select frame it had withheld. -/
  | microactuatorAtZero (a l : Fin 2)
  /-- R330. A channel synthesizer regains lock to Invar, which ends the condition of a Quench trigger 111b raised by CLK. -/
  | synthLock (n : Fin 4)
  /-- R429. Link training on a host port completes and HIF_PORTp.LINK_UP is set, so the port's controller becomes reachable. -/
  | pcieLinkUp (p : Fin 2) (speed width : Fin 6) (ltssm : BitVec 6)
  /-- R366. TRST# is asserted and the IEEE 1149.1 TAP is reset on its own, apart from the main die. -/
  | tapReset
  deriving DecidableEq, Repr, Inhabited

end Sys2Proof
end

