-- ==== Sys2Proof/Decode.lean ====
section
/-!
DEFINITION. The words of the opcode table. The table gives no row of this block any bits (every row's list of fields is empty),
so no word spells a command: commands reach the block as the register accesses, packets, pins and events that the rows name.
-/
namespace Sys2Proof

/-- The command that a word of `nbits` bits spells by the table's bits: none. -/
def decodeTableWord (nbits w : Nat) : Option Instr :=
  match nbits, w with
  | _, _ => none

end Sys2Proof
end

