-- ==== Sys2Proof/Config.lean ====
section
/-!
DEFINITION. What the manual leaves open: values with no body, so that no proof can lean on one. Each is named in a row
of notes/assumptions. The values that the rows below apply them to are the operands the value depends on.
-/
namespace Sys2Proof.Config

/-- The quotient where a rule divides by a field that holds 0 and states no result. -/
opaque quotZero : Nat → Nat

/-- Free value number `n` of a run: a result the manual leaves undefined or does not state. -/
opaque freeValue : Nat → Nat

/-- The parity bits of a codeword, as a number, from the code (0 or 1) and the information part (R115): the manual gives
the shape of the base matrices and the window that shows them, and not their entries. -/
opaque ldpcParity : Nat → Nat → Nat

/-- Entry (row, column) of the base matrix of a code as the WCH_CODE window shows it (R115). -/
opaque baseMatrix : Nat → Nat → Nat → Nat

/-- The bits a compress job adds to its stream (R194), first bit first: from the context's history (newest byte first), the
input bytes, LEVEL, TABLES, BLOCK_KIB and FINAL. The manual says what the output depends on, and not the match search. -/
opaque deflate : List Nat → List Nat → Nat → Nat → Nat → Bool → List Bool

/-- SHAKE256 with a 32-byte output (FIPS 202), of bytes, as a little-endian number: the standard is named by 16_security.md and
not given in the spec. -/
opaque shake256 : List Byte → Nat

/-- Whether an SLH-DSA-SHAKE-256s signature (FIPS 205) verifies: public key, message, signature. -/
opaque slhVerify : Nat → List Byte → Nat → Bool

/-- The signature that SEC makes with the identity key (R393, R394), of a message. -/
opaque slhSign : List Byte → Nat

/-- KEY_DIGEST0 to KEY_DIGEST3 of the fuse array (R386). -/
opaque keyDigest : Nat → Nat

/-- SERIAL of the fuse array (R386). -/
opaque serial : Nat

/-- The identity public key of R393, and the Boavo certificate over it. -/
opaque identityKey : Nat
opaque certificate : List Byte

/-- AES-256-XTS of R396 (IEEE 1619): encrypt (true) or decrypt one sector under key number `key` with the LBA as tweak. -/
opaque xts : Bool → Nat → Nat → List Byte → List Byte

end Sys2Proof.Config
end

