-- ==== Sys2Proof/Machine/Tab.lean ====
section
/-!
DEFINITION. Finite tables kept as lists of key and value pairs in one canonical form: keys strictly rising, and no
entry that equals what an unlisted key reads as. Registers, memories and every other sparse store of the state are such
tables.
-/
namespace Sys2Proof.Machine

/-- A sparse store: keys strictly rising, no entry equal to the value of an unlisted key (`tabWf`). -/
abbrev Tab (α : Type) := List (Nat × α)

/-- The value at key `k`; `d` is what an unlisted key reads as. -/
def tabLook {α : Type} (d : α) : Tab α → Nat → α
  | [], _ => d
  | (j, v) :: t, k => if j = k then v else tabLook d t k

/-- Insert or replace the entry of key `k`. -/
def tabIns {α : Type} (k : Nat) (v : α) : Tab α → Tab α
  | [] => [(k, v)]
  | (j, w) :: t =>
    if k < j then (k, v) :: (j, w) :: t
    else if j = k then (k, v) :: t
    else (j, w) :: tabIns k v t

/-- Remove the entry of key `k`. -/
def tabDel {α : Type} (k : Nat) : Tab α → Tab α
  | [] => []
  | (j, w) :: t => if j = k then tabDel k t else (j, w) :: tabDel k t

/-- Store `v` at key `k`: storing what an unlisted key reads as removes the entry. -/
def tabPut {α : Type} [DecidableEq α] (d : α) (t : Tab α) (k : Nat) (v : α) : Tab α :=
  if v = d then tabDel k t else tabIns k v t

/-- Whether the keys rise strictly, starting above `lo` when it is given. -/
def tabSorted {α : Type} (lo : Option Nat) : Tab α → Bool
  | [] => true
  | (j, _) :: t => (match lo with | none => true | some l => decide (l < j)) && tabSorted (some j) t

/-- The canonical form, where every unlisted key reads as `d`. -/
def tabWf {α : Type} [DecidableEq α] (d : α) (t : Tab α) : Bool :=
  tabSorted none t && t.all fun e => decide (e.2 ≠ d)

end Sys2Proof.Machine
end

