-- ==== Sys2Proof/Machine/RegField.lean ====
section
/-!
DEFINITION. A register field of the control space: where it lies, how wide it is, its reset value and how software
may access it (R9 to R13). The values themselves are kept in `State.regs`, keyed by `Fld.key`.
-/
namespace Sys2Proof.Machine

/-- The access types of R12. -/
inductive Acc where
  | rw | ro | w1c | w1s | rc | rwl
  deriving DecidableEq, Repr

/-- A register field: the BAR2 offset of its register, its lowest bit, its width in bits, its reset value (R13), its
access type (R12), and the ranges of encodings that are not reserved (an empty list: none is reserved, R11). -/
structure Fld where
  addr : Nat
  lo : Nat
  width : Nat
  rst : Nat
  acc : Acc
  legal : List (Nat × Nat)
  deriving DecidableEq, Repr

/-- The control space is 32 MiB (R24): the register copies of requester bank `b` are kept above it. -/
def bankSize : Nat := 0x2000000

/-- The key of a field in `State.regs`: its register's offset (bank included) and its lowest bit. -/
def Fld.key (f : Fld) : Nat := f.addr * 32 + f.lo

/-- The same field in the copy of requester bank `b` (R47: staging words are banked by requester). -/
def Fld.inBank (f : Fld) (b : Nat) : Fld := { f with addr := f.addr + bankSize * b }

/-- Whether an encoding is one the manual does not reserve (R11). -/
def Fld.isLegal (f : Fld) (v : Nat) : Bool :=
  f.legal.isEmpty || f.legal.any fun r => r.1 ≤ v && v ≤ r.2

/-- The value the block acts on when the field holds `v`: a reserved encoding acts as the reset value (R11). -/
def Fld.acting (f : Fld) (v : Nat) : Nat := if f.isLegal v then v else f.rst

/-- The block of the control space that a field lies in, in units of 512 KiB (R24), whichever requester's copy it is. -/
def Fld.blk (f : Fld) : Nat := f.key / 32 % bankSize / 0x80000

end Sys2Proof.Machine
end

