-- ==== Sys2Proof/Machine/Fields.lean ====
section
/-!
DEFINITION. The register fields of the control space, block by block: for each field its BAR2 offset, lowest bit,
width, reset value, access type (R12) and, where the manual reserves encodings (R11), the encodings that are not
reserved. Every line is read off the field table of its register in the chapter named beside it. The index of a register array is
taken modulo its length, so that no index leads into another register.
-/
namespace Sys2Proof.Machine

/-- Reset layout of the vault regions (R266): first block of region `r`. -/
def vltRegionBase (r : Nat) : Nat := [0, 16, 32, 64, 96, 352, 864, 1184].getD r 0
/-- Reset layout of the vault regions (R266): blocks in region `r`. -/
def vltRegionBlocks (r : Nat) : Nat := [16, 16, 32, 32, 256, 512, 320, 16].getD r 0
/-- PRIO of a Bullion slot at reset (R304). -/
def bulSlotPrio (s : Nat) : Nat :=
  [3, 2, 2, 2, 2, 2, 2, 1, 1, 1, 1, 1, 1, 0, 0, 1, 0, 1, 1, 1, 1, 0, 0, 0].getD s 0
/-- Reset values of CAL_LIMi (13_clocks_thermal_calibration.md, CAL registers). -/
def calLimStep (i : Nat) : Nat := [0x10, 0x08, 0x08, 0x20, 0x08].getD i 0
def calLimHi (i : Nat) : Nat := [0x07F, 0x0A0, 0x03F, 0x1FF, 0x0FF].getD i 0
def calLimLo (i : Nat) : Nat := [0x380, 0x020, 0x3C0, 0x200, 0x000].getD i 0

/-! ### SYS -/
-- SYS_ID (01_architecture.md)
def SYS_ID_PART : Fld := ⟨0, 16, 16, 0x7260, .ro, []⟩
def SYS_ID_MAIN_REV : Fld := ⟨0, 12, 4, 1, .ro, []⟩
def SYS_ID_PWR_REV : Fld := ⟨0, 8, 4, 1, .ro, []⟩
-- SYS_STRAP (01_architecture.md)
def SYS_STRAP_X2_ACTIVE : Fld := ⟨4, 5, 1, 0, .ro, []⟩
def SYS_STRAP_DUALPORTEN : Fld := ⟨4, 4, 1, 0, .ro, []⟩
def SYS_STRAP_BOOT_SRC : Fld := ⟨4, 3, 1, 0, .ro, []⟩
def SYS_STRAP_FABRIC_EN : Fld := ⟨4, 2, 1, 0, .ro, []⟩
def SYS_STRAP_ASSIST : Fld := ⟨4, 1, 1, 0, .ro, []⟩
def SYS_STRAP_PORT_MODE : Fld := ⟨4, 0, 1, 0, .ro, []⟩
-- SYS_HOST_WMASK (01_architecture.md)
def SYS_HOST_WMASK_HWE : Fld := ⟨8, 0, 24, 0, .rwl, []⟩
-- SYS_ERR (01_architecture.md)
def SYS_ERR_HOST_DENIED : Fld := ⟨0xc, 2, 1, 0, .w1c, []⟩
def SYS_ERR_BLK_DOWN : Fld := ⟨0xc, 1, 1, 0, .w1c, []⟩
def SYS_ERR_UNMAPPED : Fld := ⟨0xc, 0, 1, 0, .w1c, []⟩
-- SYS_ERR_ADDR (01_architecture.md)
def SYS_ERR_ADDR_SRC : Fld := ⟨0x10, 26, 2, 0, .ro, []⟩
def SYS_ERR_ADDR_WR : Fld := ⟨0x10, 25, 1, 0, .ro, []⟩
def SYS_ERR_ADDR_ADDR : Fld := ⟨0x10, 0, 25, 0, .ro, []⟩

/-! ### INV -/
-- INV_CFG (02_angle_time.md)
def INV_CFG_EN : Fld := ⟨0x100000, 31, 1, 0, .rw, []⟩
def INV_CFG_WEDGES : Fld := ⟨0x100000, 16, 11, 0x280, .rw, []⟩
def INV_CFG_JUMP_TOL : Fld := ⟨0x100000, 8, 8, 0x40, .rw, []⟩
def INV_CFG_WR_TOL : Fld := ⟨0x100000, 0, 8, 0x10, .rw, []⟩
-- INV_PREF (02_angle_time.md)
def INV_PREF_AGREE_TOL : Fld := ⟨0x100004, 24, 8, 8, .rw, []⟩
def INV_PREF_PREF_B : Fld := ⟨0x100004, 8, 5, 0xa, .rw, []⟩
def INV_PREF_PREF_A : Fld := ⟨0x100004, 0, 5, 0, .rw, []⟩
-- INV_SRC (02_angle_time.md)
def INV_SRC_VALID : Fld := ⟨0x100008, 31, 1, 0, .ro, []⟩
def INV_SRC_ALIGNED : Fld := ⟨0x100008, 30, 1, 0, .ro, []⟩
def INV_SRC_SRC : Fld := ⟨0x100008, 28, 2, 0, .ro, []⟩
def INV_SRC_PRI_SURF : Fld := ⟨0x100008, 16, 5, 0, .ro, []⟩
def INV_SRC_HOLD_LEFT : Fld := ⟨0x100008, 0, 11, 0, .ro, []⟩
-- INV_LOCK (02_angle_time.md)
def INV_LOCK_LOCKED : Fld := ⟨0x10000c, 0, 32, 0, .ro, []⟩
-- INV_NOW_LO (02_angle_time.md)
def INV_NOW_LO_STAMP : Fld := ⟨0x100010, 0, 32, 0, .ro, []⟩
-- INV_NOW_HI (02_angle_time.md)
def INV_NOW_HI_STAMP : Fld := ⟨0x100014, 0, 32, 0, .ro, []⟩
-- INV_PERIOD (02_angle_time.md)
def INV_PERIOD_PERIOD : Fld := ⟨0x100018, 0, 24, 0, .ro, []⟩
-- INV_ELEC_OFS (02_angle_time.md)
def INV_ELEC_OFS_OFS : Fld := ⟨0x10001c, 0, 23, 0, .ro, []⟩
-- INV_ELEC_NOW (02_angle_time.md)
def INV_ELEC_NOW_ANGLE : Fld := ⟨0x100020, 0, 16, 0, .ro, []⟩
-- INV_STAT (02_angle_time.md)
def INV_STAT_FLUSH : Fld := ⟨0x100024, 11, 1, 0, .w1c, []⟩
def INV_STAT_QUIET_CONFLICT : Fld := ⟨0x100024, 10, 1, 0, .w1c, []⟩
def INV_STAT_FULL : Fld := ⟨0x100024, 8, 2, 0, .w1c, []⟩
def INV_STAT_DROP : Fld := ⟨0x100024, 6, 2, 0, .w1c, []⟩
def INV_STAT_LATE : Fld := ⟨0x100024, 4, 2, 0, .w1c, []⟩
def INV_STAT_STEP : Fld := ⟨0x100024, 3, 1, 0, .w1c, []⟩
def INV_STAT_DISAGREE : Fld := ⟨0x100024, 2, 1, 0, .w1c, []⟩
def INV_STAT_SRC_CHG : Fld := ⟨0x100024, 1, 1, 0, .w1c, []⟩
def INV_STAT_SKEW_NEW : Fld := ⟨0x100024, 0, 1, 0, .w1c, []⟩
-- INV_IEN (02_angle_time.md)
def INV_IEN_FLUSH : Fld := ⟨0x100028, 11, 1, 0, .rw, []⟩
def INV_IEN_QUIET_CONFLICT : Fld := ⟨0x100028, 10, 1, 0, .rw, []⟩
def INV_IEN_FULL : Fld := ⟨0x100028, 8, 2, 0, .rw, []⟩
def INV_IEN_DROP : Fld := ⟨0x100028, 6, 2, 0, .rw, []⟩
def INV_IEN_LATE : Fld := ⟨0x100028, 4, 2, 0, .rw, []⟩
def INV_IEN_STEP : Fld := ⟨0x100028, 3, 1, 0, .rw, []⟩
def INV_IEN_DISAGREE : Fld := ⟨0x100028, 2, 1, 0, .rw, []⟩
def INV_IEN_SRC_CHG : Fld := ⟨0x100028, 1, 1, 0, .rw, []⟩
def INV_IEN_SKEW_NEW : Fld := ⟨0x100028, 0, 1, 0, .rw, []⟩
-- INV_WALL_LO (02_angle_time.md)
def INV_WALL_LO_NS : Fld := ⟨0x100040, 0, 32, 0, .ro, []⟩
-- INV_WALL_HI (02_angle_time.md)
def INV_WALL_HI_NS : Fld := ⟨0x100044, 0, 32, 0, .ro, []⟩
-- INV_WTMR_STAT (02_angle_time.md)
def INV_WTMR_STAT_WALL_DEGRADED : Fld := ⟨0x100048, 8, 1, 1, .ro, []⟩
def INV_WTMR_STAT_FIRED : Fld := ⟨0x100048, 0, 8, 0, .w1c, []⟩
-- INV_WTMR (02_angle_time.md)
def INV_WTMR_ARM (n : Nat) : Fld := ⟨0x100060 + 4 * (n % 8), 31, 1, 0, .rw, []⟩
def INV_WTMR_PERIODIC (n : Nat) : Fld := ⟨0x100060 + 4 * (n % 8), 30, 1, 0, .rw, []⟩
def INV_WTMR_INTERVAL (n : Nat) : Fld := ⟨0x100060 + 4 * (n % 8), 0, 30, 0, .rw, []⟩
-- INV_SKEW (02_angle_time.md)
def INV_SKEW_VALUE (s : Nat) : Fld := ⟨0x100100 + 4 * (s % 32), 0, 23, 0, .rw, []⟩
-- INV_SKEW_MEAS (02_angle_time.md)
def INV_SKEW_MEAS_NEW (s : Nat) : Fld := ⟨0x100180 + 4 * (s % 32), 31, 1, 0, .rc, []⟩
def INV_SKEW_MEAS_VALUE (s : Nat) : Fld := ⟨0x100180 + 4 * (s % 32), 0, 23, 0, .ro, []⟩
-- INV_RING_W (02_angle_time.md)
def INV_RING_W (a w : Nat) : Fld := ⟨0x101000 + 0x100 * (a % 2) + 4 * (w % 4), 0, 32, 0, .rw, []⟩
-- INV_RING_RESP (02_angle_time.md)
def INV_RING_RESP_DONE (a : Nat) : Fld := ⟨0x101010 + 0x100 * (a % 2), 31, 1, 0, .ro, []⟩
def INV_RING_RESP_RESULT (a : Nat) : Fld := ⟨0x101010 + 0x100 * (a % 2), 0, 3, 0, .ro, []⟩
-- INV_RING_STAT (02_angle_time.md)
def INV_RING_STAT_COUNT (a : Nat) : Fld := ⟨0x101014 + 0x100 * (a % 2), 16, 13, 0, .ro, []⟩
def INV_RING_STAT_HWM (a : Nat) : Fld := ⟨0x101014 + 0x100 * (a % 2), 0, 13, 0, .rc, []⟩
-- INV_RING_CANCEL (02_angle_time.md)
def INV_RING_CANCEL_TAG (a : Nat) : Fld := ⟨0x101018 + 0x100 * (a % 2), 0, 24, 0, .rw, []⟩
-- INV_QUIET (02_angle_time.md)
def INV_QUIET_OPEN (a : Nat) : Fld := ⟨0x10101c + 0x100 * (a % 2), 0, 2, 0, .ro, []⟩

/-! ### QCH -/
-- QCH_CTL (02_angle_time.md)
def QCH_CTL_SWREQ : Fld := ⟨0x180000, 8, 2, 0, .w1s, []⟩
def QCH_CTL_HOLD : Fld := ⟨0x180000, 0, 2, 3, .rw, []⟩
-- QCH_EN (02_angle_time.md)
def QCH_EN_EN : Fld := ⟨0x180004, 0, 4, 0xf, .rwl, []⟩
-- QCH_STAT (02_angle_time.md)
def QCH_STAT_REL_REFUSED : Fld := ⟨0x180008, 16, 1, 0, .w1c, []⟩
def QCH_STAT_CH_HELD : Fld := ⟨0x180008, 0, 4, 0xf, .ro, []⟩
-- QCH_CAUSE (02_angle_time.md)
def QCH_CAUSE_CAUSE (a : Nat) : Fld := ⟨0x18000c + 4 * (a % 2), 0, 8, 0, .w1c, []⟩
-- QCH_REL (02_angle_time.md)
def QCH_REL_REL : Fld := ⟨0x180014, 0, 2, 0, .w1s, []⟩
-- QCH_HOLD (02_angle_time.md)
def QCH_HOLD_SHOCK_HOLD : Fld := ⟨0x180018, 24, 8, 0x40, .rw, []⟩
def QCH_HOLD_PES_HOLD : Fld := ⟨0x180018, 16, 8, 2, .rw, []⟩
def QCH_HOLD_MISS_HOLD : Fld := ⟨0x180018, 8, 8, 2, .rw, []⟩
-- QCH_PES_LIM (02_angle_time.md)
def QCH_PES_LIM_LIM_B : Fld := ⟨0x18001c, 8, 8, 0x20, .rw, []⟩
def QCH_PES_LIM_LIM_A : Fld := ⟨0x18001c, 0, 8, 0x20, .rw, []⟩
-- QCH_SHOCK (02_angle_time.md)
def QCH_SHOCK_ROT_TH : Fld := ⟨0x180020, 8, 8, 0x14, .rw, []⟩
def QCH_SHOCK_LIN_TH : Fld := ⟨0x180020, 0, 8, 0x10, .rw, []⟩
-- QCH_LAT (02_angle_time.md)
def QCH_LAT_NS : Fld := ⟨0x180024, 0, 8, 0, .ro, []⟩
-- QCH_TEST (02_angle_time.md)
def QCH_TEST_PULSE : Fld := ⟨0x180028, 1, 1, 0, .w1s, []⟩
def QCH_TEST_OUT_HOLD : Fld := ⟨0x180028, 0, 1, 0, .rw, []⟩
-- QCH_RW_STAT (02_angle_time.md)
def QCH_RW_STAT_OVF (n : Nat) : Fld := ⟨0x180040 + 0x10 * (n % 4), 8, 1, 0, .w1c, []⟩
def QCH_RW_STAT_COUNT (n : Nat) : Fld := ⟨0x180040 + 0x10 * (n % 4), 0, 6, 0, .ro, []⟩
-- QCH_RWREC_LO (02_angle_time.md)
def QCH_RWREC_LO_REASON (n : Nat) : Fld := ⟨0x180044 + 0x10 * (n % 4), 28, 4, 0, .ro, []⟩
def QCH_RWREC_LO_PARTIAL (n : Nat) : Fld := ⟨0x180044 + 0x10 * (n % 4), 27, 1, 0, .ro, []⟩
def QCH_RWREC_LO_PES_SIGN (n : Nat) : Fld := ⟨0x180044 + 0x10 * (n % 4), 26, 1, 0, .ro, []⟩
def QCH_RWREC_LO_TAG (n : Nat) : Fld := ⟨0x180044 + 0x10 * (n % 4), 0, 24, 0, .ro, []⟩
-- QCH_RWREC_HI (02_angle_time.md)
def QCH_RWREC_HI_ANGLE (n : Nat) : Fld := ⟨0x180048 + 0x10 * (n % 4), 0, 32, 0, .ro, []⟩
-- QCH_RW_POP (02_angle_time.md)
def QCH_RW_POP_POP (n : Nat) : Fld := ⟨0x18004c + 0x10 * (n % 4), 0, 1, 0, .w1s, []⟩

/-! ### SPN -/
-- SPN_CTL (03_spindle.md)
def SPN_CTL_RING_EN : Fld := ⟨0x200000, 8, 1, 0, .rw, []⟩
def SPN_CTL_PERMIT : Fld := ⟨0x200000, 4, 1, 0, .rw, []⟩
def SPN_CTL_CMD : Fld := ⟨0x200000, 0, 3, 0, .rw, [(0, 3)]⟩
-- SPN_SPEED (03_spindle.md)
def SPN_SPEED_TARGET : Fld := ⟨0x200004, 0, 17, 0x1c200, .rw, [(0x15180, 0x1c200)]⟩
-- SPN_MOTOR (03_spindle.md)
def SPN_MOTOR_COAST_MS : Fld := ⟨0x200008, 8, 8, 0x64, .rw, []⟩
def SPN_MOTOR_RAMP : Fld := ⟨0x200008, 4, 4, 6, .rw, [(1, 0xf)]⟩
def SPN_MOTOR_POLE_PAIRS : Fld := ⟨0x200008, 0, 4, 6, .rw, [(2, 8)]⟩
-- SPN_DRIVE (03_spindle.md)
def SPN_DRIVE_DELAY : Fld := ⟨0x20000c, 24, 8, 0x80, .rw, []⟩
def SPN_DRIVE_ZC_WIN : Fld := ⟨0x20000c, 16, 8, 0x40, .rw, []⟩
def SPN_DRIVE_TEST_US : Fld := ⟨0x20000c, 8, 8, 0x28, .rw, []⟩
def SPN_DRIVE_ASYM_MIN : Fld := ⟨0x20000c, 0, 8, 0x10, .rw, []⟩
-- SPN_ILIM (03_spindle.md)
def SPN_ILIM_KP : Fld := ⟨0x200010, 28, 4, 4, .rw, []⟩
def SPN_ILIM_BRAKE_MA : Fld := ⟨0x200010, 16, 12, 0x3e8, .rw, []⟩
def SPN_ILIM_KI : Fld := ⟨0x200010, 12, 4, 8, .rw, []⟩
def SPN_ILIM_ACCEL_MA : Fld := ⟨0x200010, 0, 12, 0x5dc, .rw, []⟩
-- SPN_HU_CFG (03_spindle.md)
def SPN_HU_CFG_ETA : Fld := ⟨0x200014, 24, 8, 0xcd, .rw, []⟩
def SPN_HU_CFG_HU_V : Fld := ⟨0x200014, 16, 8, 0x64, .rw, []⟩
def SPN_HU_CFG_FLOOR : Fld := ⟨0x200014, 8, 8, 0x12, .rw, []⟩
def SPN_HU_CFG_RESERVE : Fld := ⟨0x200014, 0, 8, 0x14, .rw, []⟩
-- SPN_STAT (03_spindle.md)
def SPN_STAT_STATE : Fld := ⟨0x200018, 28, 4, 0, .ro, []⟩
def SPN_STAT_AT_SPEED : Fld := ⟨0x200018, 27, 1, 0, .ro, []⟩
def SPN_STAT_DIR : Fld := ⟨0x200018, 26, 1, 0, .ro, []⟩
def SPN_STAT_OBS_LOCK : Fld := ⟨0x200018, 25, 1, 0, .ro, []⟩
def SPN_STAT_RECT_DONE : Fld := ⟨0x200018, 9, 1, 0, .w1c, []⟩
def SPN_STAT_STOP_DONE : Fld := ⟨0x200018, 8, 1, 0, .w1c, []⟩
def SPN_STAT_CMD_REFUSED : Fld := ⟨0x200018, 7, 1, 0, .w1c, []⟩
def SPN_STAT_PERMIT_LAPSE : Fld := ⟨0x200018, 6, 1, 0, .w1c, []⟩
def SPN_STAT_J_NEW : Fld := ⟨0x200018, 5, 1, 0, .w1c, []⟩
def SPN_STAT_RING_MISS : Fld := ⟨0x200018, 4, 1, 0, .w1c, []⟩
def SPN_STAT_REACQ_FAIL : Fld := ⟨0x200018, 3, 1, 0, .w1c, []⟩
def SPN_STAT_ROTOR_LOST : Fld := ⟨0x200018, 2, 1, 0, .w1c, []⟩
def SPN_STAT_START_FAIL : Fld := ⟨0x200018, 1, 1, 0, .w1c, []⟩
def SPN_STAT_START_DONE : Fld := ⟨0x200018, 0, 1, 0, .w1c, []⟩
-- SPN_IEN (03_spindle.md)
def SPN_IEN_RECT_DONE : Fld := ⟨0x20001c, 9, 1, 0, .rw, []⟩
def SPN_IEN_STOP_DONE : Fld := ⟨0x20001c, 8, 1, 0, .rw, []⟩
def SPN_IEN_CMD_REFUSED : Fld := ⟨0x20001c, 7, 1, 0, .rw, []⟩
def SPN_IEN_PERMIT_LAPSE : Fld := ⟨0x20001c, 6, 1, 0, .rw, []⟩
def SPN_IEN_J_NEW : Fld := ⟨0x20001c, 5, 1, 0, .rw, []⟩
def SPN_IEN_RING_MISS : Fld := ⟨0x20001c, 4, 1, 0, .rw, []⟩
def SPN_IEN_REACQ_FAIL : Fld := ⟨0x20001c, 3, 1, 0, .rw, []⟩
def SPN_IEN_ROTOR_LOST : Fld := ⟨0x20001c, 2, 1, 0, .rw, []⟩
def SPN_IEN_START_FAIL : Fld := ⟨0x20001c, 1, 1, 0, .rw, []⟩
def SPN_IEN_START_DONE : Fld := ⟨0x20001c, 0, 1, 0, .rw, []⟩
-- SPN_SPEED_MEAS (03_spindle.md)
def SPN_SPEED_MEAS_SRC : Fld := ⟨0x200020, 31, 1, 0, .ro, []⟩
def SPN_SPEED_MEAS_RPM16 : Fld := ⟨0x200020, 0, 17, 0, .ro, []⟩
-- SPN_KE (03_spindle.md)
def SPN_KE_KT : Fld := ⟨0x200024, 16, 16, 0, .ro, []⟩
def SPN_KE_KE : Fld := ⟨0x200024, 0, 16, 0, .ro, []⟩
-- SPN_J (03_spindle.md)
def SPN_J_VALID : Fld := ⟨0x200028, 31, 1, 0, .rw, []⟩
def SPN_J_MEASURED : Fld := ⟨0x200028, 30, 1, 0, .ro, []⟩
def SPN_J_J : Fld := ⟨0x200028, 0, 20, 0, .rw, []⟩
-- SPN_HOLDUP (03_spindle.md)
def SPN_HOLDUP_E_MJ : Fld := ⟨0x20002c, 0, 24, 0, .ro, []⟩
-- SPN_LAST_START (03_spindle.md)
def SPN_LAST_START_SECTOR : Fld := ⟨0x200030, 26, 3, 7, .ro, []⟩
def SPN_LAST_START_PATH : Fld := ⟨0x200030, 24, 2, 0, .ro, []⟩
def SPN_LAST_START_TRIES : Fld := ⟨0x200030, 20, 2, 0, .ro, []⟩
def SPN_LAST_START_SENSE_RPM16 : Fld := ⟨0x200030, 0, 17, 0, .ro, []⟩
-- SPN_MEAS (03_spindle.md)
def SPN_MEAS_ACCEL_MS : Fld := ⟨0x200034, 16, 16, 0, .ro, []⟩
def SPN_MEAS_COAST_DROP : Fld := ⟨0x200034, 0, 16, 0, .ro, []⟩

/-! ### SRV -/
-- SRV_CFG (04_servo_actuators.md)
def SRV_CFG_EN (a : Nat) : Fld := ⟨0x300000 + 0x80000 * (a % 2), 31, 1, 0, .rw, []⟩
def SRV_CFG_SYM_TICKS (a : Nat) : Fld := ⟨0x300000 + 0x80000 * (a % 2), 26, 2, 0, .rw, []⟩
def SRV_CFG_SAM_TOL (a : Nat) : Fld := ⟨0x300000 + 0x80000 * (a % 2), 24, 2, 1, .rw, [(0, 2)]⟩
def SRV_CFG_SAM_WIN (a : Nat) : Fld := ⟨0x300000 + 0x80000 * (a % 2), 16, 8, 8, .rw, []⟩
def SRV_CFG_TRK_TOL (a : Nat) : Fld := ⟨0x300000 + 0x80000 * (a % 2), 12, 4, 2, .rw, []⟩
def SRV_CFG_SAM_PAT (a : Nat) : Fld := ⟨0x300000 + 0x80000 * (a % 2), 0, 12, 0xb4d, .rw, []⟩
-- SRV_WIN (04_servo_actuators.md)
def SRV_WIN_WR_END (a : Nat) : Fld := ⟨0x300004 + 0x80000 * (a % 2), 16, 12, 0xfe0, .rw, []⟩
def SRV_WIN_WR_START (a : Nat) : Fld := ⟨0x300004 + 0x80000 * (a % 2), 0, 12, 0x148, .rw, []⟩
-- SRV_TWIN (04_servo_actuators.md)
def SRV_TWIN_SWAP_EN (a : Nat) : Fld := ⟨0x300008 + 0x80000 * (a % 2), 8, 1, 1, .rw, []⟩
def SRV_TWIN_LEAD (a : Nat) : Fld := ⟨0x300008 + 0x80000 * (a % 2), 4, 1, 0, .rw, []⟩
def SRV_TWIN_TWIN_EN (a : Nat) : Fld := ⟨0x300008 + 0x80000 * (a % 2), 0, 1, 0, .rw, []⟩
-- SRV_HSEL (04_servo_actuators.md)
def SRV_HSEL_BUSY (a : Nat) : Fld := ⟨0x30000c + 0x80000 * (a % 2), 31, 1, 0, .ro, []⟩
def SRV_HSEL_HEAD1 (a : Nat) : Fld := ⟨0x30000c + 0x80000 * (a % 2), 8, 4, 0xf, .rw, [(0, 9), (0xf, 0xf)]⟩
def SRV_HSEL_HEAD0 (a : Nat) : Fld := ⟨0x30000c + 0x80000 * (a % 2), 0, 4, 0xf, .rw, [(0, 9), (0xf, 0xf)]⟩
-- SRV_TGT (04_servo_actuators.md)
def SRV_TGT_TARGET (a n : Nat) : Fld := ⟨0x300010 + 0x80000 * (a % 2) + 4 * (n % 2), 0, 32, 0, .rw, []⟩
-- SRV_POS (04_servo_actuators.md)
def SRV_POS_POS (a n : Nat) : Fld := ⟨0x300018 + 0x80000 * (a % 2) + 4 * (n % 2), 0, 32, 0, .ro, []⟩
-- SRV_PES (04_servo_actuators.md)
def SRV_PES_VALID (a n : Nat) : Fld := ⟨0x300020 + 0x80000 * (a % 2) + 4 * (n % 2), 31, 1, 0, .ro, []⟩
def SRV_PES_MISS (a n : Nat) : Fld := ⟨0x300020 + 0x80000 * (a % 2) + 4 * (n % 2), 30, 1, 0, .ro, []⟩
def SRV_PES_WEDGE (a n : Nat) : Fld := ⟨0x300020 + 0x80000 * (a % 2) + 4 * (n % 2), 16, 10, 0, .ro, []⟩
def SRV_PES_PES (a n : Nat) : Fld := ⟨0x300020 + 0x80000 * (a % 2) + 4 * (n % 2), 0, 16, 0, .ro, []⟩
-- SRV_STAT (04_servo_actuators.md)
def SRV_STAT_SEEK_STATE (a : Nat) : Fld := ⟨0x300028 + 0x80000 * (a % 2), 28, 4, 0, .ro, []⟩
def SRV_STAT_WR_OVERRUN (a : Nat) : Fld := ⟨0x300028 + 0x80000 * (a % 2), 11, 1, 0, .w1c, []⟩
def SRV_STAT_HS_REFUSED (a : Nat) : Fld := ⟨0x300028 + 0x80000 * (a % 2), 10, 1, 0, .w1c, []⟩
def SRV_STAT_PA_FAULT (a : Nat) : Fld := ⟨0x300028 + 0x80000 * (a % 2), 9, 1, 0, .w1c, []⟩
def SRV_STAT_FREEFALL (a : Nat) : Fld := ⟨0x300028 + 0x80000 * (a % 2), 8, 1, 0, .w1c, []⟩
def SRV_STAT_LEAD_SWAP (a : Nat) : Fld := ⟨0x300028 + 0x80000 * (a % 2), 7, 1, 0, .w1c, []⟩
def SRV_STAT_MA_SAT (a : Nat) : Fld := ⟨0x300028 + 0x80000 * (a % 2), 6, 1, 0, .w1c, []⟩
def SRV_STAT_TRK_IMPL (a : Nat) : Fld := ⟨0x300028 + 0x80000 * (a % 2), 5, 1, 0, .w1c, []⟩
def SRV_STAT_IDX_CHK (a : Nat) : Fld := ⟨0x300028 + 0x80000 * (a % 2), 4, 1, 0, .w1c, []⟩
def SRV_STAT_GRANT_FALLBACK (a : Nat) : Fld := ⟨0x300028 + 0x80000 * (a % 2), 3, 1, 0, .w1c, []⟩
def SRV_STAT_SEEK_FAIL (a : Nat) : Fld := ⟨0x300028 + 0x80000 * (a % 2), 2, 1, 0, .w1c, []⟩
def SRV_STAT_SEEK_REFUSED (a : Nat) : Fld := ⟨0x300028 + 0x80000 * (a % 2), 1, 1, 0, .w1c, []⟩
def SRV_STAT_SEEK_DONE (a : Nat) : Fld := ⟨0x300028 + 0x80000 * (a % 2), 0, 1, 0, .w1c, []⟩
-- SRV_IEN (04_servo_actuators.md)
def SRV_IEN_WR_OVERRUN (a : Nat) : Fld := ⟨0x30002c + 0x80000 * (a % 2), 11, 1, 0, .rw, []⟩
def SRV_IEN_HS_REFUSED (a : Nat) : Fld := ⟨0x30002c + 0x80000 * (a % 2), 10, 1, 0, .rw, []⟩
def SRV_IEN_PA_FAULT (a : Nat) : Fld := ⟨0x30002c + 0x80000 * (a % 2), 9, 1, 0, .rw, []⟩
def SRV_IEN_FREEFALL (a : Nat) : Fld := ⟨0x30002c + 0x80000 * (a % 2), 8, 1, 0, .rw, []⟩
def SRV_IEN_LEAD_SWAP (a : Nat) : Fld := ⟨0x30002c + 0x80000 * (a % 2), 7, 1, 0, .rw, []⟩
def SRV_IEN_MA_SAT (a : Nat) : Fld := ⟨0x30002c + 0x80000 * (a % 2), 6, 1, 0, .rw, []⟩
def SRV_IEN_TRK_IMPL (a : Nat) : Fld := ⟨0x30002c + 0x80000 * (a % 2), 5, 1, 0, .rw, []⟩
def SRV_IEN_IDX_CHK (a : Nat) : Fld := ⟨0x30002c + 0x80000 * (a % 2), 4, 1, 0, .rw, []⟩
def SRV_IEN_GRANT_FALLBACK (a : Nat) : Fld := ⟨0x30002c + 0x80000 * (a % 2), 3, 1, 0, .rw, []⟩
def SRV_IEN_SEEK_FAIL (a : Nat) : Fld := ⟨0x30002c + 0x80000 * (a % 2), 2, 1, 0, .rw, []⟩
def SRV_IEN_SEEK_REFUSED (a : Nat) : Fld := ⟨0x30002c + 0x80000 * (a % 2), 1, 1, 0, .rw, []⟩
def SRV_IEN_SEEK_DONE (a : Nat) : Fld := ⟨0x30002c + 0x80000 * (a % 2), 0, 1, 0, .rw, []⟩
-- SRV_SEEK (04_servo_actuators.md)
def SRV_SEEK_GO (a : Nat) : Fld := ⟨0x300030 + 0x80000 * (a % 2), 31, 1, 0, .w1s, []⟩
def SRV_SEEK_PROFILE (a : Nat) : Fld := ⟨0x300030 + 0x80000 * (a % 2), 16, 4, 0, .rw, []⟩
def SRV_SEEK_GRANT_WAIT (a : Nat) : Fld := ⟨0x300030 + 0x80000 * (a % 2), 8, 8, 0x10, .rw, []⟩
-- SRV_SEEK_TIME (04_servo_actuators.md)
def SRV_SEEK_TIME_WEDGES (a : Nat) : Fld := ⟨0x300034 + 0x80000 * (a % 2), 0, 16, 0, .ro, []⟩
-- SRV_COEF_CTL (04_servo_actuators.md)
def SRV_COEF_CTL_LOADED (a : Nat) : Fld := ⟨0x300038 + 0x80000 * (a % 2), 2, 1, 0, .ro, []⟩
def SRV_COEF_CTL_ACTIVE (a : Nat) : Fld := ⟨0x300038 + 0x80000 * (a % 2), 1, 1, 0, .ro, []⟩
def SRV_COEF_CTL_SWAP (a : Nat) : Fld := ⟨0x300038 + 0x80000 * (a % 2), 0, 1, 0, .w1s, []⟩
-- SRV_TWIN_OFS (04_servo_actuators.md)
def SRV_TWIN_OFS_OFS (a : Nat) : Fld := ⟨0x30003c + 0x80000 * (a % 2), 0, 32, 0, .ro, []⟩
-- SRV_PA_CFG (04_servo_actuators.md)
def SRV_PA_CFG_DUAL (a : Nat) : Fld := ⟨0x300040 + 0x80000 * (a % 2), 31, 1, 0, .rw, []⟩
def SRV_PA_CFG_HS_SETTLE (a : Nat) : Fld := ⟨0x300040 + 0x80000 * (a % 2), 12, 12, 0x400, .rw, []⟩
def SRV_PA_CFG_SCK_DIV (a : Nat) : Fld := ⟨0x300040 + 0x80000 * (a % 2), 0, 4, 7, .rw, []⟩
-- SRV_PA_MAP (04_servo_actuators.md)
def SRV_PA_MAP_FAULT (a : Nat) : Fld := ⟨0x300044 + 0x80000 * (a % 2), 24, 7, 4, .rw, []⟩
def SRV_PA_MAP_MODE (a : Nat) : Fld := ⟨0x300044 + 0x80000 * (a % 2), 16, 7, 3, .rw, []⟩
def SRV_PA_MAP_HSEL1 (a : Nat) : Fld := ⟨0x300044 + 0x80000 * (a % 2), 8, 7, 2, .rw, []⟩
def SRV_PA_MAP_HSEL0 (a : Nat) : Fld := ⟨0x300044 + 0x80000 * (a % 2), 0, 7, 1, .rw, []⟩
-- SRV_PA_CMD (04_servo_actuators.md)
def SRV_PA_CMD_GO (a : Nat) : Fld := ⟨0x300048 + 0x80000 * (a % 2), 31, 1, 0, .w1s, []⟩
def SRV_PA_CMD_RD (a : Nat) : Fld := ⟨0x300048 + 0x80000 * (a % 2), 16, 1, 0, .rw, []⟩
def SRV_PA_CMD_ADDR (a : Nat) : Fld := ⟨0x300048 + 0x80000 * (a % 2), 8, 7, 0, .rw, []⟩
def SRV_PA_CMD_DATA (a : Nat) : Fld := ⟨0x300048 + 0x80000 * (a % 2), 0, 8, 0, .rw, []⟩
-- SRV_PA_RESP (04_servo_actuators.md)
def SRV_PA_RESP_DONE (a : Nat) : Fld := ⟨0x30004c + 0x80000 * (a % 2), 31, 1, 0, .rc, []⟩
def SRV_PA_RESP_DATA (a : Nat) : Fld := ⟨0x30004c + 0x80000 * (a % 2), 0, 8, 0, .ro, []⟩
-- SRV_PA_FAULT (04_servo_actuators.md)
def SRV_PA_FAULT_CAUSE (a : Nat) : Fld := ⟨0x300050 + 0x80000 * (a % 2), 0, 8, 0, .ro, []⟩
-- SRV_PA_MAP_ID (04_servo_actuators.md)
def SRV_PA_MAP_ID_ID (a : Nat) : Fld := ⟨0x300054 + 0x80000 * (a % 2), 0, 7, 0, .rw, []⟩
-- SRV_SHOCK (04_servo_actuators.md)
def SRV_SHOCK_FF_EN (a : Nat) : Fld := ⟨0x300060 + 0x80000 * (a % 2), 31, 1, 1, .rw, []⟩
def SRV_SHOCK_FALL_EN (a : Nat) : Fld := ⟨0x300060 + 0x80000 * (a % 2), 30, 1, 1, .rw, []⟩
def SRV_SHOCK_FF_GAIN (a : Nat) : Fld := ⟨0x300060 + 0x80000 * (a % 2), 8, 16, 0, .rw, []⟩
def SRV_SHOCK_FALL_MS (a : Nat) : Fld := ⟨0x300060 + 0x80000 * (a % 2), 0, 8, 0x32, .rw, []⟩
-- SRV_SHOCK_NOW (04_servo_actuators.md)
def SRV_SHOCK_NOW_ROT (a : Nat) : Fld := ⟨0x300064 + 0x80000 * (a % 2), 24, 8, 0, .ro, []⟩
def SRV_SHOCK_NOW_Z (a : Nat) : Fld := ⟨0x300064 + 0x80000 * (a % 2), 16, 8, 0, .ro, []⟩
def SRV_SHOCK_NOW_Y (a : Nat) : Fld := ⟨0x300064 + 0x80000 * (a % 2), 8, 8, 0, .ro, []⟩
def SRV_SHOCK_NOW_X (a : Nat) : Fld := ⟨0x300064 + 0x80000 * (a % 2), 0, 8, 0, .ro, []⟩
-- SRV_PROF_W0 (04_servo_actuators.md)
def SRV_PROF_W0_FALLBACK (a p : Nat) : Fld := ⟨0x300100 + 0x80000 * (a % 2) + 8 * (p % 16), 28, 4, 0, .rw, []⟩
def SRV_PROF_W0_IPK_MA (a p : Nat) : Fld := ⟨0x300100 + 0x80000 * (a % 2) + 8 * (p % 16), 16, 12, 0x258, .rw, []⟩
def SRV_PROF_W0_VMAX (a p : Nat) : Fld := ⟨0x300100 + 0x80000 * (a % 2) + 8 * (p % 16), 0, 16, 0x100, .rw, []⟩
-- SRV_PROF_W1 (04_servo_actuators.md)
def SRV_PROF_W1_DUR_WEDGES (a p : Nat) : Fld := ⟨0x300104 + 0x80000 * (a % 2) + 8 * (p % 16), 16, 16, 0x400, .rw, []⟩
def SRV_PROF_W1_SETTLE_N (a p : Nat) : Fld := ⟨0x300104 + 0x80000 * (a % 2) + 8 * (p % 16), 8, 8, 4, .rw, []⟩
def SRV_PROF_W1_SETTLE_LIM (a p : Nat) : Fld := ⟨0x300104 + 0x80000 * (a % 2) + 8 * (p % 16), 0, 8, 0x10, .rw, []⟩
-- SRV_COEF (04_servo_actuators.md)
def SRV_COEF_COEF (a i : Nat) : Fld := ⟨0x300200 + 0x80000 * (a % 2) + 4 * (i % 30), 0, 24, 0, .rw, []⟩
-- SRV_HEAD_CFG (04_servo_actuators.md)
def SRV_HEAD_CFG_SRDR (a h : Nat) : Fld := ⟨0x300400 + 0x80000 * (a % 2) + 8 * (h % 10), 30, 2, 0, .rw, [(0, 2)]⟩
def SRV_HEAD_CFG_MA_GAIN (a h : Nat) : Fld := ⟨0x300400 + 0x80000 * (a % 2) + 8 * (h % 10), 0, 16, 0x3c00, .rw, []⟩
-- SRV_HEAD_LIM (04_servo_actuators.md)
def SRV_HEAD_LIM_STROKE (a h : Nat) : Fld := ⟨0x300404 + 0x80000 * (a % 2) + 8 * (h % 10), 16, 16, 0, .rw, []⟩
-- SRV_LIN (04_servo_actuators.md)
def SRV_LIN_CORR (a h i : Nat) : Fld := ⟨0x300800 + 0x80000 * (a % 2) + 0x80 * (h % 10) + 4 * (i % 32), 0, 8, 0, .rw, []⟩

/-! ### ACT -/
-- ACT_CTL (04_servo_actuators.md)
def ACT_CTL_CMD_B : Fld := ⟨0x400000, 8, 3, 0, .rw, [(0, 3)]⟩
def ACT_CTL_CMD_A : Fld := ⟨0x400000, 0, 3, 0, .rw, [(0, 3)]⟩
-- ACT_STAT (04_servo_actuators.md)
def ACT_STAT_STATE_B : Fld := ⟨0x400004, 28, 4, 0, .ro, []⟩
def ACT_STAT_STATE_A : Fld := ⟨0x400004, 24, 4, 0, .ro, []⟩
def ACT_STAT_CMD_REFUSED : Fld := ⟨0x400004, 8, 1, 0, .w1c, []⟩
def ACT_STAT_LOAD_FAIL : Fld := ⟨0x400004, 6, 2, 0, .w1c, []⟩
def ACT_STAT_UNLOAD_TO : Fld := ⟨0x400004, 4, 2, 0, .w1c, []⟩
def ACT_STAT_RET_DONE : Fld := ⟨0x400004, 2, 2, 0, .w1c, []⟩
def ACT_STAT_PARKED : Fld := ⟨0x400004, 0, 2, 3, .ro, []⟩
-- ACT_VCM (04_servo_actuators.md)
def ACT_VCM_ILIM_MA (a : Nat) : Fld := ⟨0x400008 + 4 * (a % 2), 16, 12, 0x7d0, .rw, []⟩
def ACT_VCM_RES_MOHM (a : Nat) : Fld := ⟨0x400008 + 4 * (a % 2), 0, 16, 0x1b58, .rw, []⟩
-- ACT_LOAD (04_servo_actuators.md)
def ACT_LOAD_LOAD_VEL : Fld := ⟨0x400010, 24, 8, 0xc, .rw, []⟩
def ACT_LOAD_UNLOAD_VEL : Fld := ⟨0x400010, 16, 8, 0xc, .rw, []⟩
def ACT_LOAD_LOAD_TO : Fld := ⟨0x400010, 8, 8, 0x14, .rw, []⟩
def ACT_LOAD_UNLOAD_TO : Fld := ⟨0x400010, 0, 8, 0x14, .rw, []⟩
-- ACT_RETRACT (04_servo_actuators.md)
def ACT_RETRACT_RET_VEL : Fld := ⟨0x400014, 24, 8, 0xa, .rw, []⟩
def ACT_RETRACT_HOLD_MS : Fld := ⟨0x400014, 16, 8, 0x32, .rw, []⟩
def ACT_RETRACT_HOLD_MA : Fld := ⟨0x400014, 4, 12, 0xc8, .rw, []⟩
-- ACT_MA (04_servo_actuators.md)
def ACT_MA_VMAX : Fld := ⟨0x400018, 16, 8, 0xf0, .rw, []⟩
def ACT_MA_SLEW : Fld := ⟨0x400018, 8, 8, 0x32, .rw, []⟩
-- ACT_MEAS (04_servo_actuators.md)
def ACT_MEAS_IVCM (a : Nat) : Fld := ⟨0x400020 + 4 * (a % 2), 16, 16, 0, .ro, []⟩
def ACT_MEAS_BEMF (a : Nat) : Fld := ⟨0x400020 + 4 * (a % 2), 0, 16, 0, .ro, []⟩
-- ACT_MA_OUT (04_servo_actuators.md)
def ACT_MA_OUT_CODE (n : Nat) : Fld := ⟨0x400030 + 4 * (n % 4), 0, 16, 0, .ro, []⟩

/-! ### WCH -/
-- WCH_CTL (05_write_path.md)
def WCH_CTL_EN (n : Nat) : Fld := ⟨0x500000 + 0x10000 * (n % 4), 31, 1, 0, .rw, []⟩
def WCH_CTL_RW_LIM (n : Nat) : Fld := ⟨0x500000 + 0x10000 * (n % 4), 8, 4, 8, .rw, []⟩
def WCH_CTL_WR_ACTIVE (n : Nat) : Fld := ⟨0x500000 + 0x10000 * (n % 4), 0, 1, 0, .rw, []⟩
-- WCH_STAT (05_write_path.md)
def WCH_STAT_FQ_COUNT (n : Nat) : Fld := ⟨0x500004 + 0x10000 * (n % 4), 24, 5, 0, .ro, []⟩
def WCH_STAT_CQ_COUNT (n : Nat) : Fld := ⟨0x500004 + 0x10000 * (n % 4), 16, 6, 0, .ro, []⟩
def WCH_STAT_EARLY_CLOSE (n : Nat) : Fld := ⟨0x500004 + 0x10000 * (n % 4), 8, 1, 0, .w1c, []⟩
def WCH_STAT_OVERLAP (n : Nat) : Fld := ⟨0x500004 + 0x10000 * (n % 4), 7, 1, 0, .w1c, []⟩
def WCH_STAT_TP_REFUSED (n : Nat) : Fld := ⟨0x500004 + 0x10000 * (n % 4), 6, 1, 0, .w1c, []⟩
def WCH_STAT_WA_REFUSED (n : Nat) : Fld := ⟨0x500004 + 0x10000 * (n % 4), 5, 1, 0, .w1c, []⟩
def WCH_STAT_OVERRUN (n : Nat) : Fld := ⟨0x500004 + 0x10000 * (n % 4), 4, 1, 0, .w1c, []⟩
def WCH_STAT_ORPHAN (n : Nat) : Fld := ⟨0x500004 + 0x10000 * (n % 4), 3, 1, 0, .w1c, []⟩
def WCH_STAT_UNDERRUN (n : Nat) : Fld := ⟨0x500004 + 0x10000 * (n % 4), 2, 1, 0, .w1c, []⟩
def WCH_STAT_NOT_READY (n : Nat) : Fld := ⟨0x500004 + 0x10000 * (n % 4), 1, 1, 0, .w1c, []⟩
def WCH_STAT_RZ_BAD (n : Nat) : Fld := ⟨0x500004 + 0x10000 * (n % 4), 0, 1, 0, .w1c, []⟩
-- WCH_IEN (05_write_path.md)
def WCH_IEN_EARLY_CLOSE (n : Nat) : Fld := ⟨0x500008 + 0x10000 * (n % 4), 8, 1, 0, .rw, []⟩
def WCH_IEN_OVERLAP (n : Nat) : Fld := ⟨0x500008 + 0x10000 * (n % 4), 7, 1, 0, .rw, []⟩
def WCH_IEN_TP_REFUSED (n : Nat) : Fld := ⟨0x500008 + 0x10000 * (n % 4), 6, 1, 0, .rw, []⟩
def WCH_IEN_WA_REFUSED (n : Nat) : Fld := ⟨0x500008 + 0x10000 * (n % 4), 5, 1, 0, .rw, []⟩
def WCH_IEN_OVERRUN (n : Nat) : Fld := ⟨0x500008 + 0x10000 * (n % 4), 4, 1, 0, .rw, []⟩
def WCH_IEN_ORPHAN (n : Nat) : Fld := ⟨0x500008 + 0x10000 * (n % 4), 3, 1, 0, .rw, []⟩
def WCH_IEN_UNDERRUN (n : Nat) : Fld := ⟨0x500008 + 0x10000 * (n % 4), 2, 1, 0, .rw, []⟩
def WCH_IEN_NOT_READY (n : Nat) : Fld := ⟨0x500008 + 0x10000 * (n % 4), 1, 1, 0, .rw, []⟩
def WCH_IEN_RZ_BAD (n : Nat) : Fld := ⟨0x500008 + 0x10000 * (n % 4), 0, 1, 0, .rw, []⟩
-- WCH_FQ_W (05_write_path.md)
def WCH_FQ_W (n w : Nat) : Fld := ⟨0x500010 + 0x10000 * (n % 4) + 4 * (w % 8), 0, 32, 0, .rw, []⟩
-- WCH_FQ_RESP (05_write_path.md)
def WCH_FQ_RESP_DONE (n : Nat) : Fld := ⟨0x500030 + 0x10000 * (n % 4), 31, 1, 0, .ro, []⟩
def WCH_FQ_RESP_RESULT (n : Nat) : Fld := ⟨0x500030 + 0x10000 * (n % 4), 0, 3, 0, .ro, []⟩
-- WCH_CQ (05_write_path.md)
def WCH_CQ_VALID (n : Nat) : Fld := ⟨0x500034 + 0x10000 * (n % 4), 31, 1, 0, .ro, []⟩
def WCH_CQ_STATUS (n : Nat) : Fld := ⟨0x500034 + 0x10000 * (n % 4), 24, 2, 0, .ro, []⟩
def WCH_CQ_TAG (n : Nat) : Fld := ⟨0x500034 + 0x10000 * (n % 4), 0, 24, 0, .ro, []⟩
-- WCH_CQ_POP (05_write_path.md)
def WCH_CQ_POP_POP (n : Nat) : Fld := ⟨0x500038 + 0x10000 * (n % 4), 0, 1, 0, .w1s, []⟩
-- WCH_TP_CTL (05_write_path.md)
def WCH_TP_CTL_BUSY (n : Nat) : Fld := ⟨0x500040 + 0x10000 * (n % 4), 31, 1, 0, .ro, []⟩
def WCH_TP_CTL_CLEAR (n : Nat) : Fld := ⟨0x500040 + 0x10000 * (n % 4), 2, 1, 0, .w1s, []⟩
def WCH_TP_CTL_RESTORE (n : Nat) : Fld := ⟨0x500040 + 0x10000 * (n % 4), 1, 1, 0, .w1s, []⟩
def WCH_TP_CTL_SAVE (n : Nat) : Fld := ⟨0x500040 + 0x10000 * (n % 4), 0, 1, 0, .w1s, []⟩
-- WCH_TP_ADDR (05_write_path.md)
def WCH_TP_ADDR_ADDR (n : Nat) : Fld := ⟨0x500044 + 0x10000 * (n % 4), 0, 28, 0, .rw, []⟩
-- WCH_TP_MASK_LO (05_write_path.md)
def WCH_TP_MASK_LO_MASK (n : Nat) : Fld := ⟨0x500048 + 0x10000 * (n % 4), 0, 32, 0, .ro, []⟩
-- WCH_TP_MASK_HI (05_write_path.md)
def WCH_TP_MASK_HI_MASK (n : Nat) : Fld := ⟨0x50004c + 0x10000 * (n % 4), 0, 32, 0, .ro, []⟩
-- WCH_RZ_W0 (05_write_path.md)
def WCH_RZ_W0_START_TRK (a h z : Nat) : Fld := ⟨0x504000 + 0x20000 * (a % 2) + 0x400 * (h % 10) + 0x10 * (z % 64), 0, 24, 0, .rw, []⟩
-- WCH_RZ_W1 (05_write_path.md)
def WCH_RZ_W1_VALID (a h z : Nat) : Fld := ⟨0x504004 + 0x20000 * (a % 2) + 0x400 * (h % 10) + 0x10 * (z % 64), 31, 1, 0, .ro, []⟩
def WCH_RZ_W1_CODE (a h z : Nat) : Fld := ⟨0x504004 + 0x20000 * (a % 2) + 0x400 * (h % 10) + 0x10 * (z % 64), 24, 4, 0, .rw, [(0, 1)]⟩
def WCH_RZ_W1_BPW (a h z : Nat) : Fld := ⟨0x504004 + 0x20000 * (a % 2) + 0x400 * (h % 10) + 0x10 * (z % 64), 0, 17, 0, .rw, []⟩
-- WCH_RZ_W2 (05_write_path.md)
def WCH_RZ_W2_SPT (a h z : Nat) : Fld := ⟨0x504008 + 0x20000 * (a % 2) + 0x400 * (h % 10) + 0x10 * (z % 64), 16, 12, 0, .rw, []⟩
def WCH_RZ_W2_TRK_SKEW (a h z : Nat) : Fld := ⟨0x504008 + 0x20000 * (a % 2) + 0x400 * (h % 10) + 0x10 * (z % 64), 0, 10, 0, .rw, []⟩
-- WCH_RZ_W3 (05_write_path.md)
def WCH_RZ_W3_PC2 (a h z : Nat) : Fld := ⟨0x50400c + 0x20000 * (a % 2) + 0x400 * (h % 10) + 0x10 * (z % 64), 8, 5, 0, .rw, []⟩
def WCH_RZ_W3_PC1 (a h z : Nat) : Fld := ⟨0x50400c + 0x20000 * (a % 2) + 0x400 * (h % 10) + 0x10 * (z % 64), 0, 5, 0, .rw, []⟩

/-! ### RCH -/
-- RCH_CTL (06_read_path.md)
def RCH_CTL_EN (n : Nat) : Fld := ⟨0x600000 + 0x10000 * (n % 4), 31, 1, 0, .rw, []⟩
def RCH_CTL_ADAPT (n : Nat) : Fld := ⟨0x600000 + 0x10000 * (n % 4), 30, 1, 0, .rw, []⟩
def RCH_CTL_AUTOPIN (n : Nat) : Fld := ⟨0x600000 + 0x10000 * (n % 4), 29, 1, 1, .rw, []⟩
def RCH_CTL_TA_EN (n : Nat) : Fld := ⟨0x600000 + 0x10000 * (n % 4), 28, 1, 1, .rw, []⟩
def RCH_CTL_INQ_LIM (n : Nat) : Fld := ⟨0x600000 + 0x10000 * (n % 4), 24, 4, 3, .rw, [(1, 3)]⟩
def RCH_CTL_MU (n : Nat) : Fld := ⟨0x600000 + 0x10000 * (n % 4), 8, 8, 0xc, .rw, []⟩
-- RCH_STAT (06_read_path.md)
def RCH_STAT_FQ_COUNT (n : Nat) : Fld := ⟨0x600004 + 0x10000 * (n % 4), 24, 5, 0, .ro, []⟩
def RCH_STAT_CQ_COUNT (n : Nat) : Fld := ⟨0x600004 + 0x10000 * (n % 4), 16, 6, 0, .ro, []⟩
def RCH_STAT_TP_REFUSED (n : Nat) : Fld := ⟨0x600004 + 0x10000 * (n % 4), 8, 1, 0, .w1c, []⟩
def RCH_STAT_TA_SEEN (n : Nat) : Fld := ⟨0x600004 + 0x10000 * (n % 4), 7, 1, 0, .w1c, []⟩
def RCH_STAT_PIN_FULL (n : Nat) : Fld := ⟨0x600004 + 0x10000 * (n % 4), 6, 1, 0, .w1c, []⟩
def RCH_STAT_SB_TRUNC (n : Nat) : Fld := ⟨0x600004 + 0x10000 * (n % 4), 5, 1, 0, .w1c, []⟩
def RCH_STAT_OVERFLOW (n : Nat) : Fld := ⟨0x600004 + 0x10000 * (n % 4), 4, 1, 0, .w1c, []⟩
def RCH_STAT_DROPPED (n : Nat) : Fld := ⟨0x600004 + 0x10000 * (n % 4), 3, 1, 0, .w1c, []⟩
def RCH_STAT_MISS (n : Nat) : Fld := ⟨0x600004 + 0x10000 * (n % 4), 2, 1, 0, .w1c, []⟩
def RCH_STAT_MISCORR (n : Nat) : Fld := ⟨0x600004 + 0x10000 * (n % 4), 1, 1, 0, .w1c, []⟩
def RCH_STAT_FAIL (n : Nat) : Fld := ⟨0x600004 + 0x10000 * (n % 4), 0, 1, 0, .w1c, []⟩
-- RCH_IEN (06_read_path.md)
def RCH_IEN_TP_REFUSED (n : Nat) : Fld := ⟨0x600008 + 0x10000 * (n % 4), 8, 1, 0, .rw, []⟩
def RCH_IEN_TA_SEEN (n : Nat) : Fld := ⟨0x600008 + 0x10000 * (n % 4), 7, 1, 0, .rw, []⟩
def RCH_IEN_PIN_FULL (n : Nat) : Fld := ⟨0x600008 + 0x10000 * (n % 4), 6, 1, 0, .rw, []⟩
def RCH_IEN_SB_TRUNC (n : Nat) : Fld := ⟨0x600008 + 0x10000 * (n % 4), 5, 1, 0, .rw, []⟩
def RCH_IEN_OVERFLOW (n : Nat) : Fld := ⟨0x600008 + 0x10000 * (n % 4), 4, 1, 0, .rw, []⟩
def RCH_IEN_DROPPED (n : Nat) : Fld := ⟨0x600008 + 0x10000 * (n % 4), 3, 1, 0, .rw, []⟩
def RCH_IEN_MISS (n : Nat) : Fld := ⟨0x600008 + 0x10000 * (n % 4), 2, 1, 0, .rw, []⟩
def RCH_IEN_MISCORR (n : Nat) : Fld := ⟨0x600008 + 0x10000 * (n % 4), 1, 1, 0, .rw, []⟩
def RCH_IEN_FAIL (n : Nat) : Fld := ⟨0x600008 + 0x10000 * (n % 4), 0, 1, 0, .rw, []⟩
-- RCH_FQ_W (06_read_path.md)
def RCH_FQ_W (n w : Nat) : Fld := ⟨0x600010 + 0x10000 * (n % 4) + 4 * (w % 8), 0, 32, 0, .rw, []⟩
-- RCH_FQ_RESP (06_read_path.md)
def RCH_FQ_RESP_DONE (n : Nat) : Fld := ⟨0x600030 + 0x10000 * (n % 4), 31, 1, 0, .ro, []⟩
def RCH_FQ_RESP_RESULT (n : Nat) : Fld := ⟨0x600030 + 0x10000 * (n % 4), 0, 3, 0, .ro, []⟩
-- RCH_CQ_W0 (06_read_path.md)
def RCH_CQ_W0_VALID (n : Nat) : Fld := ⟨0x600034 + 0x10000 * (n % 4), 31, 1, 0, .ro, []⟩
def RCH_CQ_W0_STATUS (n : Nat) : Fld := ⟨0x600034 + 0x10000 * (n % 4), 24, 4, 0, .ro, []⟩
def RCH_CQ_W0_TAG (n : Nat) : Fld := ⟨0x600034 + 0x10000 * (n % 4), 0, 24, 0, .ro, []⟩
-- RCH_CQ_W1 (06_read_path.md)
def RCH_CQ_W1_GITER (n : Nat) : Fld := ⟨0x600038 + 0x10000 * (n % 4), 28, 4, 0, .ro, []⟩
def RCH_CQ_W1_LITER (n : Nat) : Fld := ⟨0x600038 + 0x10000 * (n % 4), 20, 8, 0, .ro, []⟩
def RCH_CQ_W1_MARK_OFS (n : Nat) : Fld := ⟨0x600038 + 0x10000 * (n % 4), 8, 12, 0, .ro, []⟩
def RCH_CQ_W1_SLOT (n : Nat) : Fld := ⟨0x600038 + 0x10000 * (n % 4), 0, 6, 0, .ro, []⟩
-- RCH_CQ_W2 (06_read_path.md)
def RCH_CQ_W2_UNSAT (n : Nat) : Fld := ⟨0x60003c + 0x10000 * (n % 4), 18, 14, 0, .ro, []⟩
def RCH_CQ_W2_TA (n : Nat) : Fld := ⟨0x60003c + 0x10000 * (n % 4), 17, 1, 0, .ro, []⟩
def RCH_CQ_W2_PIN (n : Nat) : Fld := ⟨0x60003c + 0x10000 * (n % 4), 16, 1, 0, .ro, []⟩
def RCH_CQ_W2_NS (n : Nat) : Fld := ⟨0x60003c + 0x10000 * (n % 4), 12, 4, 0, .ro, []⟩
def RCH_CQ_W2_KIND (n : Nat) : Fld := ⟨0x60003c + 0x10000 * (n % 4), 8, 4, 0, .ro, []⟩
-- RCH_CQ_POP (06_read_path.md)
def RCH_CQ_POP_POP (n : Nat) : Fld := ⟨0x600040 + 0x10000 * (n % 4), 0, 1, 0, .w1s, []⟩
-- RCH_SEL (06_read_path.md)
def RCH_SEL_LOAD (n : Nat) : Fld := ⟨0x600050 + 0x10000 * (n % 4), 31, 1, 0, .w1s, []⟩
def RCH_SEL_READY (n : Nat) : Fld := ⟨0x600050 + 0x10000 * (n % 4), 30, 1, 0, .ro, []⟩
def RCH_SEL_HEAD (n : Nat) : Fld := ⟨0x600050 + 0x10000 * (n % 4), 8, 4, 0, .rw, [(0, 9)]⟩
def RCH_SEL_RZ (n : Nat) : Fld := ⟨0x600050 + 0x10000 * (n % 4), 0, 6, 0, .rw, []⟩
-- RCH_SYNC (06_read_path.md)
def RCH_SYNC_RS_TOL (n : Nat) : Fld := ⟨0x600054 + 0x10000 * (n % 4), 28, 4, 4, .rw, []⟩
def RCH_SYNC_RELAX_TOL (n : Nat) : Fld := ⟨0x600054 + 0x10000 * (n % 4), 20, 6, 0xc, .rw, []⟩
def RCH_SYNC_MARK_TOL (n : Nat) : Fld := ⟨0x600054 + 0x10000 * (n % 4), 8, 6, 6, .rw, []⟩
def RCH_SYNC_SYNC_WIN (n : Nat) : Fld := ⟨0x600054 + 0x10000 * (n % 4), 0, 6, 0x14, .rw, [(1, 0x20)]⟩
-- RCH_FRAME_OFS (06_read_path.md)
def RCH_FRAME_OFS_VALID (n : Nat) : Fld := ⟨0x600058 + 0x10000 * (n % 4), 31, 1, 0, .ro, []⟩
def RCH_FRAME_OFS_HEAD (n : Nat) : Fld := ⟨0x600058 + 0x10000 * (n % 4), 12, 4, 0, .ro, []⟩
def RCH_FRAME_OFS_OFS (n : Nat) : Fld := ⟨0x600058 + 0x10000 * (n % 4), 0, 12, 0, .ro, []⟩
-- RCH_ACT_W0 (06_read_path.md)
def RCH_ACT_W0_CTF_FC (n : Nat) : Fld := ⟨0x600060 + 0x10000 * (n % 4), 24, 8, 0, .rw, []⟩
def RCH_ACT_W0_CTF_BOOST (n : Nat) : Fld := ⟨0x600060 + 0x10000 * (n % 4), 16, 8, 0, .rw, []⟩
def RCH_ACT_W0_AGC_TGT (n : Nat) : Fld := ⟨0x600060 + 0x10000 * (n % 4), 8, 8, 0, .rw, []⟩
def RCH_ACT_W0_EQ_SET (n : Nat) : Fld := ⟨0x600060 + 0x10000 * (n % 4), 0, 8, 0, .rw, []⟩
-- RCH_ACT_W1 (06_read_path.md)
def RCH_ACT_W1_OFS0 (n : Nat) : Fld := ⟨0x600064 + 0x10000 * (n % 4), 24, 8, 0, .rw, []⟩
def RCH_ACT_W1_OFS1 (n : Nat) : Fld := ⟨0x600064 + 0x10000 * (n % 4), 16, 8, 0, .rw, []⟩
def RCH_ACT_W1_ASYM0 (n : Nat) : Fld := ⟨0x600064 + 0x10000 * (n % 4), 8, 8, 0, .rw, []⟩
def RCH_ACT_W1_ASYM1 (n : Nat) : Fld := ⟨0x600064 + 0x10000 * (n % 4), 0, 8, 0, .rw, []⟩
-- RCH_ACT_W2 (06_read_path.md)
def RCH_ACT_W2_GLOBAL_MAX (n : Nat) : Fld := ⟨0x600068 + 0x10000 * (n % 4), 28, 4, 0, .rw, [(1, 8)]⟩
def RCH_ACT_W2_LOCAL_MAX (n : Nat) : Fld := ⟨0x600068 + 0x10000 * (n % 4), 24, 4, 0, .rw, [(1, 6)]⟩
def RCH_ACT_W2_NMS (n : Nat) : Fld := ⟨0x600068 + 0x10000 * (n % 4), 16, 8, 0, .rw, []⟩
def RCH_ACT_W2_LLR_SCALE (n : Nat) : Fld := ⟨0x600068 + 0x10000 * (n % 4), 8, 8, 0, .rw, []⟩
def RCH_ACT_W2_TA_LIM (n : Nat) : Fld := ⟨0x600068 + 0x10000 * (n % 4), 0, 8, 0, .rw, []⟩
-- RCH_AGC (06_read_path.md)
def RCH_AGC_GAIN1 (n : Nat) : Fld := ⟨0x600070 + 0x10000 * (n % 4), 8, 8, 0, .ro, []⟩
def RCH_AGC_GAIN0 (n : Nat) : Fld := ⟨0x600070 + 0x10000 * (n % 4), 0, 8, 0, .ro, []⟩
-- RCH_SB_STAT (06_read_path.md)
def RCH_SB_STAT_NEXT (n : Nat) : Fld := ⟨0x600080 + 0x10000 * (n % 4), 24, 6, 0, .ro, []⟩
def RCH_SB_STAT_PINNED (n : Nat) : Fld := ⟨0x600080 + 0x10000 * (n % 4), 16, 6, 0, .ro, []⟩
-- RCH_SB_PIN_LO (06_read_path.md)
def RCH_SB_PIN_LO_PIN (n : Nat) : Fld := ⟨0x600084 + 0x10000 * (n % 4), 0, 32, 0, .ro, []⟩
-- RCH_SB_PIN_HI (06_read_path.md)
def RCH_SB_PIN_HI_PIN (n : Nat) : Fld := ⟨0x600088 + 0x10000 * (n % 4), 0, 32, 0, .ro, []⟩
-- RCH_SB_PINCTL (06_read_path.md)
def RCH_SB_PINCTL_PIN (n : Nat) : Fld := ⟨0x60008c + 0x10000 * (n % 4), 7, 1, 0, .w1s, []⟩
def RCH_SB_PINCTL_UNPIN (n : Nat) : Fld := ⟨0x60008c + 0x10000 * (n % 4), 6, 1, 0, .w1s, []⟩
def RCH_SB_PINCTL_SLOT (n : Nat) : Fld := ⟨0x60008c + 0x10000 * (n % 4), 0, 6, 0, .rw, []⟩
-- RCH_TP_CTL (06_read_path.md)
def RCH_TP_CTL_BUSY (n : Nat) : Fld := ⟨0x600090 + 0x10000 * (n % 4), 31, 1, 0, .ro, []⟩
def RCH_TP_CTL_PAR_SEEN (n : Nat) : Fld := ⟨0x600090 + 0x10000 * (n % 4), 30, 1, 0, .ro, []⟩
def RCH_TP_CTL_SB_SLOT (n : Nat) : Fld := ⟨0x600090 + 0x10000 * (n % 4), 8, 6, 0, .rw, []⟩
def RCH_TP_CTL_REBUILD (n : Nat) : Fld := ⟨0x600090 + 0x10000 * (n % 4), 3, 1, 0, .w1s, []⟩
def RCH_TP_CTL_CLEAR (n : Nat) : Fld := ⟨0x600090 + 0x10000 * (n % 4), 2, 1, 0, .w1s, []⟩
def RCH_TP_CTL_RESTORE (n : Nat) : Fld := ⟨0x600090 + 0x10000 * (n % 4), 1, 1, 0, .w1s, []⟩
def RCH_TP_CTL_SAVE (n : Nat) : Fld := ⟨0x600090 + 0x10000 * (n % 4), 0, 1, 0, .w1s, []⟩
-- RCH_TP_ADDR (06_read_path.md)
def RCH_TP_ADDR_ADDR (n : Nat) : Fld := ⟨0x600094 + 0x10000 * (n % 4), 0, 28, 0, .rw, []⟩
-- RCH_TP_MASK_LO (06_read_path.md)
def RCH_TP_MASK_LO_MASK (n : Nat) : Fld := ⟨0x600098 + 0x10000 * (n % 4), 0, 32, 0, .ro, []⟩
-- RCH_TP_MASK_HI (06_read_path.md)
def RCH_TP_MASK_HI_MASK (n : Nat) : Fld := ⟨0x60009c + 0x10000 * (n % 4), 0, 32, 0, .ro, []⟩
-- RCH_DEC_STAT (06_read_path.md)
def RCH_DEC_STAT_BUSY (d : Nat) : Fld := ⟨0x640000 + 0x100 * (d % 6), 31, 1, 0, .ro, []⟩
def RCH_DEC_STAT_DEEP (d : Nat) : Fld := ⟨0x640000 + 0x100 * (d % 6), 30, 1, 0, .ro, []⟩
def RCH_DEC_STAT_FAULT (d : Nat) : Fld := ⟨0x640000 + 0x100 * (d % 6), 29, 1, 0, .w1c, []⟩
def RCH_DEC_STAT_CH (d : Nat) : Fld := ⟨0x640000 + 0x100 * (d % 6), 24, 2, 0, .ro, []⟩
def RCH_DEC_STAT_TAG (d : Nat) : Fld := ⟨0x640000 + 0x100 * (d % 6), 0, 24, 0, .ro, []⟩
-- RCH_DEC_CNT (06_read_path.md)
def RCH_DEC_CNT_FRAMES (d : Nat) : Fld := ⟨0x640004 + 0x100 * (d % 6), 0, 32, 0, .rc, []⟩
-- RCH_DEC_ITER (06_read_path.md)
def RCH_DEC_ITER_LOCAL (d : Nat) : Fld := ⟨0x640008 + 0x100 * (d % 6), 0, 32, 0, .rc, []⟩
-- RCH_DEC_MAP (06_read_path.md)
def RCH_DEC_MAP_CH3 : Fld := ⟨0x650000, 12, 3, 3, .rw, [(0, 5)]⟩
def RCH_DEC_MAP_CH2 : Fld := ⟨0x650000, 8, 3, 2, .rw, [(0, 5)]⟩
def RCH_DEC_MAP_CH1 : Fld := ⟨0x650000, 4, 3, 1, .rw, [(0, 5)]⟩
def RCH_DEC_MAP_CH0 : Fld := ⟨0x650000, 0, 3, 0, .rw, [(0, 5)]⟩
-- RCH_XBAR (06_read_path.md)
def RCH_XBAR_SRC : Fld := ⟨0x650004, 0, 4, 0, .rw, []⟩
-- RCH_DEEP_CFG (06_read_path.md)
def RCH_DEEP_CFG_DEEP_MA : Fld := ⟨0x650008, 24, 8, 0x28, .rw, []⟩
def RCH_DEEP_CFG_SCREEN_LIM : Fld := ⟨0x650008, 16, 8, 0x20, .rw, []⟩
def RCH_DEEP_CFG_NMS_B : Fld := ⟨0x650008, 8, 8, 0x28, .rw, []⟩
def RCH_DEEP_CFG_LLR_SCALE_B : Fld := ⟨0x650008, 0, 8, 0xc, .rw, []⟩
-- RCH_LADDER (06_read_path.md)
def RCH_LADDER_REREAD_MAX : Fld := ⟨0x65000c, 28, 4, 3, .rw, []⟩
def RCH_LADDER_REV_MAX : Fld := ⟨0x65000c, 16, 8, 8, .rw, []⟩
def RCH_LADDER_MISFRAME : Fld := ⟨0x65000c, 8, 8, 0x20, .rw, []⟩
def RCH_LADDER_OFFTRACK : Fld := ⟨0x65000c, 0, 8, 0x10, .rw, []⟩
-- RCH_STOP (06_read_path.md)
def RCH_STOP_ET_MIN : Fld := ⟨0x650010, 8, 8, 0x10, .rw, []⟩
def RCH_STOP_ET_DEEP : Fld := ⟨0x650010, 7, 1, 0, .rw, []⟩
def RCH_STOP_ET_INL : Fld := ⟨0x650010, 6, 1, 1, .rw, []⟩
def RCH_STOP_STALL_L : Fld := ⟨0x650010, 0, 4, 2, .rw, [(1, 6)]⟩
-- RCH_DJ_W0 (06_read_path.md)
def RCH_DJ_W0_MODE : Fld := ⟨0x650014, 28, 4, 0, .rw, []⟩
def RCH_DJ_W0_CH : Fld := ⟨0x650014, 26, 2, 0, .rw, []⟩
def RCH_DJ_W0_RELEASE : Fld := ⟨0x650014, 24, 1, 0, .rw, []⟩
def RCH_DJ_W0_SLOT : Fld := ⟨0x650014, 18, 6, 0, .rw, []⟩
def RCH_DJ_W0_SLOT2 : Fld := ⟨0x650014, 12, 6, 0, .rw, []⟩
def RCH_DJ_W0_GMAX : Fld := ⟨0x650014, 8, 4, 0, .rw, [(0, 8)]⟩
-- RCH_DJ_W1 (06_read_path.md)
def RCH_DJ_W1_PRIO : Fld := ⟨0x650018, 31, 1, 0, .rw, []⟩
def RCH_DJ_W1_TAG : Fld := ⟨0x650018, 0, 24, 0, .rw, []⟩
-- RCH_DJ_RESP (06_read_path.md)
def RCH_DJ_RESP_DONE : Fld := ⟨0x65001c, 31, 1, 0, .ro, []⟩
def RCH_DJ_RESP_RESULT : Fld := ⟨0x65001c, 0, 3, 0, .ro, []⟩
-- RCH_DJ_CQ_W0 (06_read_path.md)
def RCH_DJ_CQ_W0_VALID : Fld := ⟨0x650020, 31, 1, 0, .ro, []⟩
def RCH_DJ_CQ_W0_DEC : Fld := ⟨0x650020, 28, 3, 0, .ro, []⟩
def RCH_DJ_CQ_W0_STATUS : Fld := ⟨0x650020, 24, 4, 0, .ro, []⟩
def RCH_DJ_CQ_W0_CH : Fld := ⟨0x650020, 22, 2, 0, .ro, []⟩
def RCH_DJ_CQ_W0_SLOT : Fld := ⟨0x650020, 16, 6, 0, .ro, []⟩
def RCH_DJ_CQ_W0_OFFSET : Fld := ⟨0x650020, 12, 4, 0, .ro, []⟩
def RCH_DJ_CQ_W0_GITER : Fld := ⟨0x650020, 8, 4, 0, .ro, []⟩
def RCH_DJ_CQ_W0_MODE : Fld := ⟨0x650020, 4, 4, 0, .ro, []⟩
-- RCH_DJ_CQ_W1 (06_read_path.md)
def RCH_DJ_CQ_W1_TAG : Fld := ⟨0x650024, 0, 24, 0, .ro, []⟩
-- RCH_DJ_CQ_POP (06_read_path.md)
def RCH_DJ_CQ_POP_POP : Fld := ⟨0x650028, 0, 1, 0, .w1s, []⟩
-- RCH_GSTAT (06_read_path.md)
def RCH_GSTAT_DJ_COUNT : Fld := ⟨0x65002c, 8, 5, 0, .ro, []⟩
def RCH_GSTAT_XBAR_REFUSED : Fld := ⟨0x65002c, 2, 1, 0, .w1c, []⟩
def RCH_GSTAT_MAP_REFUSED : Fld := ⟨0x65002c, 1, 1, 0, .w1c, []⟩
def RCH_GSTAT_PERMIT_WAIT : Fld := ⟨0x65002c, 0, 1, 0, .w1c, []⟩
-- RCH_SB_WIN (06_read_path.md)
def RCH_SB_WIN_CH : Fld := ⟨0x650030, 6, 2, 0, .rw, []⟩
def RCH_SB_WIN_SLOT : Fld := ⟨0x650030, 0, 6, 0, .rw, []⟩
-- RCH_HZ_W0 (06_read_path.md)
def RCH_HZ_W0_CTF_FC (h z : Nat) : Fld := ⟨0x660000 + 0x400 * (h % 20) + 0x10 * (z % 64), 24, 8, 0x70, .rw, []⟩
def RCH_HZ_W0_CTF_BOOST (h z : Nat) : Fld := ⟨0x660000 + 0x400 * (h % 20) + 0x10 * (z % 64), 16, 8, 0x3c, .rw, []⟩
def RCH_HZ_W0_AGC_TGT (h z : Nat) : Fld := ⟨0x660000 + 0x400 * (h % 20) + 0x10 * (z % 64), 8, 8, 0x50, .rw, []⟩
def RCH_HZ_W0_EQ_SET (h z : Nat) : Fld := ⟨0x660000 + 0x400 * (h % 20) + 0x10 * (z % 64), 0, 8, 0, .rw, []⟩
-- RCH_HZ_W1 (06_read_path.md)
def RCH_HZ_W1_OFS0 (h z : Nat) : Fld := ⟨0x660004 + 0x400 * (h % 20) + 0x10 * (z % 64), 24, 8, 0, .rw, []⟩
def RCH_HZ_W1_OFS1 (h z : Nat) : Fld := ⟨0x660004 + 0x400 * (h % 20) + 0x10 * (z % 64), 16, 8, 0, .rw, []⟩
def RCH_HZ_W1_ASYM0 (h z : Nat) : Fld := ⟨0x660004 + 0x400 * (h % 20) + 0x10 * (z % 64), 8, 8, 0, .rw, []⟩
def RCH_HZ_W1_ASYM1 (h z : Nat) : Fld := ⟨0x660004 + 0x400 * (h % 20) + 0x10 * (z % 64), 0, 8, 0, .rw, []⟩
-- RCH_HZ_W2 (06_read_path.md)
def RCH_HZ_W2_GLOBAL_MAX (h z : Nat) : Fld := ⟨0x660008 + 0x400 * (h % 20) + 0x10 * (z % 64), 28, 4, 3, .rw, [(1, 8)]⟩
def RCH_HZ_W2_LOCAL_MAX (h z : Nat) : Fld := ⟨0x660008 + 0x400 * (h % 20) + 0x10 * (z % 64), 24, 4, 6, .rw, [(1, 6)]⟩
def RCH_HZ_W2_NMS (h z : Nat) : Fld := ⟨0x660008 + 0x400 * (h % 20) + 0x10 * (z % 64), 16, 8, 0x30, .rw, []⟩
def RCH_HZ_W2_LLR_SCALE (h z : Nat) : Fld := ⟨0x660008 + 0x400 * (h % 20) + 0x10 * (z % 64), 8, 8, 0x10, .rw, []⟩
def RCH_HZ_W2_TA_LIM (h z : Nat) : Fld := ⟨0x660008 + 0x400 * (h % 20) + 0x10 * (z % 64), 0, 8, 8, .rw, []⟩
-- RCH_EQ (06_read_path.md)
def RCH_EQ_TAP (e k : Nat) : Fld := ⟨0x670000 + 0x100 * (e % 256) + 4 * (k % 53), 0, 10, 0, .rw, []⟩

/-! ### TPR -/
-- TPR_CTL (05_write_path.md)
def TPR_CTL_EN : Fld := ⟨0x700000, 31, 1, 0, .rw, []⟩
def TPR_CTL_MODE : Fld := ⟨0x700000, 0, 1, 0, .ro, []⟩
-- TPR_STAT (05_write_path.md)
def TPR_STAT_CLAMP : Fld := ⟨0x700004, 8, 4, 0, .w1c, []⟩
def TPR_STAT_READY : Fld := ⟨0x700004, 0, 4, 0, .ro, []⟩
-- TPR_LIM (05_write_path.md)
def TPR_LIM_LB_MAX : Fld := ⟨0x700008, 24, 8, 0xa0, .rwl, []⟩
def TPR_LIM_LP_MAX : Fld := ⟨0x700008, 16, 8, 0x78, .rwl, []⟩
def TPR_LIM_STO_MAX : Fld := ⟨0x700008, 8, 8, 0x64, .rwl, []⟩
def TPR_LIM_WC_MAX : Fld := ⟨0x700008, 0, 8, 0x3c, .rwl, []⟩
-- TPR_PA_MAP0 (05_write_path.md)
def TPR_PA_MAP0_WCUR : Fld := ⟨0x70000c, 24, 7, 0x10, .rw, []⟩
def TPR_PA_MAP0_WOS : Fld := ⟨0x70000c, 16, 7, 0x11, .rw, []⟩
def TPR_PA_MAP0_ABIAS : Fld := ⟨0x70000c, 8, 7, 0x12, .rw, []⟩
def TPR_PA_MAP0_APEAK : Fld := ⟨0x70000c, 0, 7, 0x13, .rw, []⟩
-- TPR_PA_MAP1 (05_write_path.md)
def TPR_PA_MAP1_PWID : Fld := ⟨0x700010, 24, 7, 0x14, .rw, []⟩
def TPR_PA_MAP1_PPHS : Fld := ⟨0x700010, 16, 7, 0x15, .rw, []⟩
def TPR_PA_MAP1_CH1_OFS : Fld := ⟨0x700010, 8, 7, 0x20, .rw, []⟩
-- TPR_SEL (05_write_path.md)
def TPR_SEL_SEND (n : Nat) : Fld := ⟨0x700020 + 4 * (n % 4), 31, 1, 0, .w1s, []⟩
def TPR_SEL_HEAD (n : Nat) : Fld := ⟨0x700020 + 4 * (n % 4), 8, 4, 0, .rw, [(0, 9)]⟩
def TPR_SEL_RZ (n : Nat) : Fld := ⟨0x700020 + 4 * (n % 4), 0, 6, 0, .rw, []⟩
-- TPR_HZ_W0 (05_write_path.md)
def TPR_HZ_W0_ABIAS (h z : Nat) : Fld := ⟨0x701000 + 0x200 * (h % 20) + 8 * (z % 64), 24, 8, 0, .rw, []⟩
def TPR_HZ_W0_APEAK (h z : Nat) : Fld := ⟨0x701000 + 0x200 * (h % 20) + 8 * (z % 64), 16, 8, 0, .rw, []⟩
def TPR_HZ_W0_PWID (h z : Nat) : Fld := ⟨0x701000 + 0x200 * (h % 20) + 8 * (z % 64), 8, 8, 0x10, .rw, []⟩
def TPR_HZ_W0_PPHS (h z : Nat) : Fld := ⟨0x701000 + 0x200 * (h % 20) + 8 * (z % 64), 0, 8, 0, .rw, []⟩
-- TPR_HZ_W1 (05_write_path.md)
def TPR_HZ_W1_WCUR (h z : Nat) : Fld := ⟨0x701004 + 0x200 * (h % 20) + 8 * (z % 64), 24, 8, 0, .rw, []⟩
def TPR_HZ_W1_WOS (h z : Nat) : Fld := ⟨0x701004 + 0x200 * (h % 20) + 8 * (z % 64), 16, 8, 0, .rw, []⟩
def TPR_HZ_W1_PREHEAT (h z : Nat) : Fld := ⟨0x701004 + 0x200 * (h % 20) + 8 * (z % 64), 8, 8, 0x60, .rw, []⟩
def TPR_HZ_W1_REHEAT (h z : Nat) : Fld := ⟨0x701004 + 0x200 * (h % 20) + 8 * (z % 64), 0, 8, 0x18, .rw, []⟩

/-! ### XLT -/
-- XLT_CFG (07_translation.md)
def XLT_CFG_EN : Fld := ⟨0x800000, 31, 1, 0, .rw, []⟩
def XLT_CFG_LIST_MAX : Fld := ⟨0x800000, 16, 8, 0x40, .rw, [(1, 0xff)]⟩
def XLT_CFG_DEPTH_MAX : Fld := ⟨0x800000, 0, 6, 0x18, .rw, [(1, 0x20)]⟩
-- XLT_STAT (07_translation.md)
def XLT_STAT_LK_BUSY : Fld := ⟨0x800004, 24, 5, 0, .ro, []⟩
def XLT_STAT_CQ_COUNT : Fld := ⟨0x800004, 16, 6, 0, .ro, []⟩
def XLT_STAT_REBUILT : Fld := ⟨0x800004, 5, 1, 0, .w1c, []⟩
def XLT_STAT_UPD_DONE : Fld := ⟨0x800004, 4, 1, 0, .w1c, []⟩
def XLT_STAT_UPD_REFUSED : Fld := ⟨0x800004, 3, 1, 0, .w1c, []⟩
def XLT_STAT_STRUCT_FAULT : Fld := ⟨0x800004, 2, 1, 0, .w1c, []⟩
def XLT_STAT_CRC_FAULT : Fld := ⟨0x800004, 1, 1, 0, .w1c, []⟩
def XLT_STAT_LK_DONE : Fld := ⟨0x800004, 0, 1, 0, .w1c, []⟩
-- XLT_IEN (07_translation.md)
def XLT_IEN_REBUILT : Fld := ⟨0x800008, 5, 1, 0, .rw, []⟩
def XLT_IEN_UPD_DONE : Fld := ⟨0x800008, 4, 1, 0, .rw, []⟩
def XLT_IEN_UPD_REFUSED : Fld := ⟨0x800008, 3, 1, 0, .rw, []⟩
def XLT_IEN_STRUCT_FAULT : Fld := ⟨0x800008, 2, 1, 0, .rw, []⟩
def XLT_IEN_CRC_FAULT : Fld := ⟨0x800008, 1, 1, 0, .rw, []⟩
def XLT_IEN_LK_DONE : Fld := ⟨0x800008, 0, 1, 0, .rw, []⟩
-- XLT_MAP_BASE (07_translation.md)
def XLT_MAP_BASE_BASE : Fld := ⟨0x80000c, 0, 8, 0, .rw, []⟩
-- XLT_ZCFG (07_translation.md)
def XLT_ZCFG_RELOC_MAX : Fld := ⟨0x800010, 24, 8, 0x10, .rw, []⟩
def XLT_ZCFG_MAX_ACTIVE : Fld := ⟨0x800010, 9, 9, 0x80, .rw, [(1, 0x100)]⟩
def XLT_ZCFG_MAX_OPEN : Fld := ⟨0x800010, 0, 9, 0x80, .rw, [(1, 0x100)]⟩
-- XLT_JSEQ (07_translation.md)
def XLT_JSEQ_JSEQ : Fld := ⟨0x800014, 0, 32, 0, .rw, []⟩
-- XLT_JRN_PERS (07_translation.md)
def XLT_JRN_PERS_JSEQ : Fld := ⟨0x800018, 0, 32, 0, .rw, []⟩
-- XLT_FAULT (07_translation.md)
def XLT_FAULT_REASON : Fld := ⟨0x80001c, 28, 4, 0, .w1c, []⟩
def XLT_FAULT_INDEX : Fld := ⟨0x80001c, 0, 20, 0, .ro, []⟩
-- XLT_NS_BASE (07_translation.md)
def XLT_NS_BASE_CHUNK_BASE (m : Nat) : Fld := ⟨0x800020 + 8 * (m % 4), 0, 19, 0, .rw, []⟩
-- XLT_NS_CFG (07_translation.md)
def XLT_NS_CFG_EN (m : Nat) : Fld := ⟨0x800024 + 8 * (m % 4), 31, 1, 0, .rw, []⟩
def XLT_NS_CFG_ZONED (m : Nat) : Fld := ⟨0x800024 + 8 * (m % 4), 30, 1, 0, .rw, []⟩
def XLT_NS_CFG_CHUNKS (m : Nat) : Fld := ⟨0x800024 + 8 * (m % 4), 0, 20, 0, .rw, [(1, 0x80000)]⟩
-- XLT_LK_W (07_translation.md)
def XLT_LK_W (w : Nat) : Fld := ⟨0x800040 + 4 * (w % 4), 0, 32, 0, .rw, []⟩
-- XLT_LK_RESP (07_translation.md)
def XLT_LK_RESP_DONE : Fld := ⟨0x800050, 31, 1, 0, .ro, []⟩
def XLT_LK_RESP_RESULT : Fld := ⟨0x800050, 0, 2, 0, .ro, []⟩
-- XLT_LK_CQ_W0 (07_translation.md)
def XLT_LK_CQ_W0_VALID : Fld := ⟨0x800054, 31, 1, 0, .ro, []⟩
def XLT_LK_CQ_W0_STATUS : Fld := ⟨0x800054, 28, 3, 0, .ro, []⟩
def XLT_LK_CQ_W0_TAG : Fld := ⟨0x800054, 0, 24, 0, .ro, []⟩
-- XLT_LK_CQ_W1 (07_translation.md)
def XLT_LK_CQ_W1_FRAGS : Fld := ⟨0x800058, 24, 8, 0, .ro, []⟩
def XLT_LK_CQ_W1_NEXT : Fld := ⟨0x800058, 0, 16, 0, .ro, []⟩
-- XLT_LK_CQ_POP (07_translation.md)
def XLT_LK_CQ_POP_POP : Fld := ⟨0x80005c, 0, 1, 0, .w1s, []⟩
-- XLT_UPD_ADDR (07_translation.md)
def XLT_UPD_ADDR_ADDR : Fld := ⟨0x800060, 0, 28, 0, .rw, []⟩
-- XLT_UPD_RESP (07_translation.md)
def XLT_UPD_RESP_DONE : Fld := ⟨0x800064, 31, 1, 0, .ro, []⟩
def XLT_UPD_RESP_BUSY : Fld := ⟨0x800064, 30, 1, 0, .ro, []⟩
def XLT_UPD_RESP_RESULT : Fld := ⟨0x800064, 0, 3, 0, .ro, []⟩
-- XLT_WALK_CNT (07_translation.md)
def XLT_WALK_CNT_STEPS : Fld := ⟨0x800068, 0, 32, 0, .rc, []⟩
-- XLT_FAULT_CHUNK (07_translation.md)
def XLT_FAULT_CHUNK_INDEX : Fld := ⟨0x80006c, 0, 20, 0, .ro, []⟩
-- XLT_POLICY (07_translation.md)
def XLT_POLICY_CLEAN_HI : Fld := ⟨0x800070, 24, 8, 0x4b, .rw, []⟩
def XLT_POLICY_CLEAN_FULL : Fld := ⟨0x800070, 16, 8, 0x5f, .rw, []⟩
def XLT_POLICY_POOL_LOW : Fld := ⟨0x800070, 0, 16, 0x40, .rw, []⟩

/-! ### XCC -/
-- XCC_CTL (07_translation.md)
def XCC_CTL_EN : Fld := ⟨0x880000, 31, 1, 0, .rw, []⟩
def XCC_CTL_INV_ALL : Fld := ⟨0x880000, 8, 1, 0, .w1s, []⟩
def XCC_CTL_WAY_DIS : Fld := ⟨0x880000, 0, 8, 0, .rw, []⟩
-- XCC_STAT (07_translation.md)
def XCC_STAT_INV_CLEAN : Fld := ⟨0x880004, 31, 1, 0, .ro, []⟩
def XCC_STAT_BUSY : Fld := ⟨0x880004, 30, 1, 0, .ro, []⟩
def XCC_STAT_WAY_REFUSED : Fld := ⟨0x880004, 4, 1, 0, .w1c, []⟩
def XCC_STAT_LOCK_REFUSED : Fld := ⟨0x880004, 3, 1, 0, .w1c, []⟩
def XCC_STAT_EN_REFUSED : Fld := ⟨0x880004, 2, 1, 0, .w1c, []⟩
def XCC_STAT_CRC_ERR : Fld := ⟨0x880004, 1, 1, 0, .w1c, []⟩
def XCC_STAT_LOCK_LOST : Fld := ⟨0x880004, 0, 1, 0, .w1c, []⟩
-- XCC_INV_LO (07_translation.md)
def XCC_INV_LO_FIRST : Fld := ⟨0x880008, 0, 20, 0, .rw, []⟩
-- XCC_INV_HI (07_translation.md)
def XCC_INV_HI_GO : Fld := ⟨0x88000c, 31, 1, 0, .w1s, []⟩
def XCC_INV_HI_LAST : Fld := ⟨0x88000c, 0, 20, 0, .rw, []⟩
-- XCC_LOCK (07_translation.md)
def XCC_LOCK_GO : Fld := ⟨0x880010, 31, 1, 0, .w1s, []⟩
def XCC_LOCK_UNLOCK : Fld := ⟨0x880010, 30, 1, 0, .rw, []⟩
def XCC_LOCK_LINE : Fld := ⟨0x880010, 0, 20, 0, .rw, []⟩
-- XCC_LOCK_LOST_CNT (07_translation.md)
def XCC_LOCK_LOST_CNT_COUNT : Fld := ⟨0x880014, 0, 16, 0, .rc, []⟩
-- XCC_CRC_CNT (07_translation.md)
def XCC_CRC_CNT_COUNT : Fld := ⟨0x880018, 0, 16, 0, .rc, []⟩
-- XCC_HITS (07_translation.md)
def XCC_HITS_COUNT : Fld := ⟨0x88001c, 0, 32, 0, .rc, []⟩
-- XCC_MISSES (07_translation.md)
def XCC_MISSES_COUNT : Fld := ⟨0x880020, 0, 32, 0, .rc, []⟩
-- XCC_VHITS (07_translation.md)
def XCC_VHITS_COUNT : Fld := ⟨0x880024, 0, 32, 0, .rc, []⟩
-- XCC_LOCKED (07_translation.md)
def XCC_LOCKED_COUNT : Fld := ⟨0x880028, 0, 14, 0, .ro, []⟩

/-! ### CMP -/
-- CMP_CTL (08_compression.md)
def CMP_CTL_EN : Fld := ⟨0x900000, 31, 1, 0, .rw, []⟩
def CMP_CTL_ENG_DIS : Fld := ⟨0x900000, 8, 2, 0, .rw, []⟩
def CMP_CTL_ABORT : Fld := ⟨0x900000, 0, 2, 0, .w1s, []⟩
-- CMP_CFG (08_compression.md)
def CMP_CFG_PERMIT_MA : Fld := ⟨0x900004, 24, 8, 0x23, .rw, []⟩
def CMP_CFG_BLOCK_KIB : Fld := ⟨0x900004, 16, 8, 0x40, .rw, [(1, 0xff)]⟩
-- CMP_POLICY (08_compression.md)
def CMP_POLICY_COLD_H : Fld := ⟨0x900008, 16, 16, 0x2d0, .rw, []⟩
def CMP_POLICY_MIN_SAVE : Fld := ⟨0x900008, 8, 8, 0x19, .rw, []⟩
def CMP_POLICY_MIG_LEVEL : Fld := ⟨0x900008, 4, 4, 3, .rw, []⟩
def CMP_POLICY_CPT_LEVEL : Fld := ⟨0x900008, 0, 4, 3, .rw, []⟩
-- CMP_STAT (08_compression.md)
def CMP_STAT_Q0_COUNT : Fld := ⟨0x90000c, 24, 5, 0, .ro, []⟩
def CMP_STAT_Q1_COUNT : Fld := ⟨0x90000c, 16, 5, 0, .ro, []⟩
def CMP_STAT_CQ_COUNT : Fld := ⟨0x90000c, 8, 6, 0, .ro, []⟩
def CMP_STAT_PERMIT_WAIT : Fld := ⟨0x90000c, 5, 1, 0, .w1c, []⟩
def CMP_STAT_DMA_ERR : Fld := ⟨0x90000c, 4, 1, 0, .w1c, []⟩
def CMP_STAT_STREAM_ERR : Fld := ⟨0x90000c, 3, 1, 0, .w1c, []⟩
def CMP_STAT_NOT_SMALLER : Fld := ⟨0x90000c, 2, 1, 0, .w1c, []⟩
def CMP_STAT_FAIL : Fld := ⟨0x90000c, 1, 1, 0, .w1c, []⟩
def CMP_STAT_DONE : Fld := ⟨0x90000c, 0, 1, 0, .w1c, []⟩
-- CMP_IEN (08_compression.md)
def CMP_IEN_PERMIT_WAIT : Fld := ⟨0x900010, 5, 1, 0, .rw, []⟩
def CMP_IEN_DMA_ERR : Fld := ⟨0x900010, 4, 1, 0, .rw, []⟩
def CMP_IEN_STREAM_ERR : Fld := ⟨0x900010, 3, 1, 0, .rw, []⟩
def CMP_IEN_NOT_SMALLER : Fld := ⟨0x900010, 2, 1, 0, .rw, []⟩
def CMP_IEN_FAIL : Fld := ⟨0x900010, 1, 1, 0, .rw, []⟩
def CMP_IEN_DONE : Fld := ⟨0x900010, 0, 1, 0, .rw, []⟩
-- CMP_ENG_STAT (08_compression.md)
def CMP_ENG_STAT_BUSY (e : Nat) : Fld := ⟨0x900014 + 4 * (e % 2), 31, 1, 0, .ro, []⟩
def CMP_ENG_STAT_PERMIT (e : Nat) : Fld := ⟨0x900014 + 4 * (e % 2), 30, 1, 0, .ro, []⟩
def CMP_ENG_STAT_CTX_VALID (e : Nat) : Fld := ⟨0x900014 + 4 * (e % 2), 28, 2, 0, .ro, []⟩
def CMP_ENG_STAT_CTX_DIR (e : Nat) : Fld := ⟨0x900014 + 4 * (e % 2), 26, 2, 0, .ro, []⟩
def CMP_ENG_STAT_TAG (e : Nat) : Fld := ⟨0x900014 + 4 * (e % 2), 0, 24, 0, .ro, []⟩
-- CMP_JQ_W (08_compression.md)
def CMP_JQ_W (w : Nat) : Fld := ⟨0x900020 + 4 * (w % 8), 0, 32, 0, .rw, []⟩
-- CMP_JQ_RESP (08_compression.md)
def CMP_JQ_RESP_DONE : Fld := ⟨0x900040, 31, 1, 0, .ro, []⟩
def CMP_JQ_RESP_RESULT : Fld := ⟨0x900040, 0, 3, 0, .ro, []⟩
-- CMP_CQ_W0 (08_compression.md)
def CMP_CQ_W0_VALID : Fld := ⟨0x900044, 31, 1, 0, .ro, []⟩
def CMP_CQ_W0_ENG : Fld := ⟨0x900044, 30, 1, 0, .ro, []⟩
def CMP_CQ_W0_STATUS : Fld := ⟨0x900044, 24, 4, 0, .ro, []⟩
def CMP_CQ_W0_TAG : Fld := ⟨0x900044, 0, 24, 0, .ro, []⟩
-- CMP_CQ_W1 (08_compression.md)
def CMP_CQ_W1_OUT_BYTES : Fld := ⟨0x900048, 0, 24, 0, .ro, []⟩
-- CMP_CQ_W2 (08_compression.md)
def CMP_CQ_W2_IN_BYTES : Fld := ⟨0x90004c, 0, 24, 0, .ro, []⟩
-- CMP_CQ_W3 (08_compression.md)
def CMP_CQ_W3_RUN_CRC : Fld := ⟨0x900050, 0, 32, 0, .ro, []⟩
-- CMP_CQ_POP (08_compression.md)
def CMP_CQ_POP_POP : Fld := ⟨0x900054, 0, 1, 0, .w1s, []⟩
-- CMP_ENG_IN (08_compression.md)
def CMP_ENG_IN_KIB (e : Nat) : Fld := ⟨0x900060 + 8 * (e % 2), 0, 32, 0, .rc, []⟩
-- CMP_ENG_OUT (08_compression.md)
def CMP_ENG_OUT_KIB (e : Nat) : Fld := ⟨0x900064 + 8 * (e % 2), 0, 32, 0, .rc, []⟩

/-! ### HIF -/
-- HIF_CTL (09_host_queues.md)
def HIF_CTL_EN : Fld := ⟨0xa00000, 31, 1, 0, .rw, []⟩
def HIF_CTL_MAX_OUT : Fld := ⟨0xa00000, 0, 14, 0x2000, .rw, [(1, 0x2000)]⟩
-- HIF_STAT (09_host_queues.md)
def HIF_STAT_RLT_FULL : Fld := ⟨0xa00004, 5, 1, 0, .w1c, []⟩
def HIF_STAT_FREEZE : Fld := ⟨0xa00004, 4, 1, 0, .w1c, []⟩
def HIF_STAT_CID_CONFLICT : Fld := ⟨0xa00004, 3, 1, 0, .w1c, []⟩
def HIF_STAT_XFER_ERR : Fld := ⟨0xa00004, 2, 1, 0, .w1c, []⟩
def HIF_STAT_ABORT_LATE : Fld := ⟨0xa00004, 1, 1, 0, .w1c, []⟩
def HIF_STAT_OUT_FULL : Fld := ⟨0xa00004, 0, 1, 0, .w1c, []⟩
-- HIF_IEN (09_host_queues.md)
def HIF_IEN_RLT_FULL : Fld := ⟨0xa00008, 5, 1, 0, .rw, []⟩
def HIF_IEN_FREEZE : Fld := ⟨0xa00008, 4, 1, 0, .rw, []⟩
def HIF_IEN_CID_CONFLICT : Fld := ⟨0xa00008, 3, 1, 0, .rw, []⟩
def HIF_IEN_XFER_ERR : Fld := ⟨0xa00008, 2, 1, 0, .rw, []⟩
def HIF_IEN_ABORT_LATE : Fld := ⟨0xa00008, 1, 1, 0, .rw, []⟩
def HIF_IEN_OUT_FULL : Fld := ⟨0xa00008, 0, 1, 0, .rw, []⟩
-- HIF_POLL (09_host_queues.md)
def HIF_POLL_SLOW : Fld := ⟨0xa0000c, 20, 12, 0x3e8, .rw, [(1, 0xfff)]⟩
def HIF_POLL_IDLE : Fld := ⟨0xa0000c, 12, 8, 0x19, .rw, []⟩
def HIF_POLL_FAST : Fld := ⟨0xa0000c, 0, 12, 0x190, .rw, [(0x32, 0xfff)]⟩
-- HIF_OUTST (09_host_queues.md)
def HIF_OUTST_HWM : Fld := ⟨0xa00010, 16, 14, 0, .rc, []⟩
def HIF_OUTST_COUNT : Fld := ⟨0xa00010, 0, 14, 0, .ro, []⟩
-- HIF_ACT (09_host_queues.md)
def HIF_ACT_PHASE : Fld := ⟨0xa00014, 28, 4, 0, .ro, []⟩
def HIF_ACT_LAST_MS : Fld := ⟨0xa00014, 0, 16, 0, .ro, []⟩
-- HIF_PORT (09_host_queues.md)
def HIF_PORT_LINK_UP (p : Nat) : Fld := ⟨0xa00020 + 4 * (p % 2), 31, 1, 0, .ro, []⟩
def HIF_PORT_SRIS (p : Nat) : Fld := ⟨0xa00020 + 4 * (p % 2), 30, 1, 0, .rw, []⟩
def HIF_PORT_SPEED (p : Nat) : Fld := ⟨0xa00020 + 4 * (p % 2), 24, 4, 0, .ro, []⟩
def HIF_PORT_WIDTH (p : Nat) : Fld := ⟨0xa00020 + 4 * (p % 2), 20, 4, 0, .ro, []⟩
def HIF_PORT_LTSSM (p : Nat) : Fld := ⟨0xa00020 + 4 * (p % 2), 0, 6, 0, .ro, []⟩
-- HIF_C_STAT (09_host_queues.md)
def HIF_C_STAT_EN (c : Nat) : Fld := ⟨0xa00100 + 0x40 * (c % 2), 31, 1, 0, .ro, []⟩
def HIF_C_STAT_RDY (c : Nat) : Fld := ⟨0xa00100 + 0x40 * (c % 2), 30, 1, 0, .ro, []⟩
def HIF_C_STAT_PP (c : Nat) : Fld := ⟨0xa00100 + 0x40 * (c % 2), 29, 1, 0, .ro, []⟩
def HIF_C_STAT_DBBUF (c : Nat) : Fld := ⟨0xa00100 + 0x40 * (c % 2), 28, 1, 0, .ro, []⟩
def HIF_C_STAT_FAST (c : Nat) : Fld := ⟨0xa00100 + 0x40 * (c % 2), 27, 1, 0, .ro, []⟩
def HIF_C_STAT_NSQ (c : Nat) : Fld := ⟨0xa00100 + 0x40 * (c % 2), 8, 8, 0, .ro, []⟩
def HIF_C_STAT_NCQ (c : Nat) : Fld := ⟨0xa00100 + 0x40 * (c % 2), 0, 8, 0, .ro, []⟩
-- HIF_C_FROZEN (09_host_queues.md)
def HIF_C_FROZEN_SQ (c k : Nat) : Fld := ⟨0xa00104 + 0x40 * (c % 2) + 4 * (k % 4), 0, 32, 0, .ro, []⟩
-- HIF_C_STRICT (09_host_queues.md)
def HIF_C_STRICT_SQ (c k : Nat) : Fld := ⟨0xa00114 + 0x40 * (c % 2) + 4 * (k % 4), 0, 32, 0, .ro, []⟩

/-! ### RLT -/
-- RLT_CTL (09_host_queues.md)
def RLT_CTL_EN : Fld := ⟨0xa80000, 31, 1, 0, .rw, []⟩
-- RLT_STAT (09_host_queues.md)
def RLT_STAT_HELD : Fld := ⟨0xa80004, 16, 13, 0, .ro, []⟩
def RLT_STAT_WAITING : Fld := ⟨0xa80004, 0, 14, 0, .ro, []⟩
-- RLT_HWM (09_host_queues.md)
def RLT_HWM_HELD : Fld := ⟨0xa80008, 0, 13, 0, .rc, []⟩
-- RLT_STALLS (09_host_queues.md)
def RLT_STALLS_COUNT : Fld := ⟨0xa8000c, 0, 32, 0, .rc, []⟩
-- RLT_FULLS (09_host_queues.md)
def RLT_FULLS_COUNT : Fld := ⟨0xa80010, 0, 32, 0, .rc, []⟩

/-! ### BUF -/
-- BUF_CTL (10_buffer_memory.md)
def BUF_CTL_EN : Fld := ⟨0xb00000, 31, 1, 0, .rw, []⟩
def BUF_CTL_DMA_MA : Fld := ⟨0xb00000, 16, 8, 0x14, .rw, []⟩
-- BUF_STAT (10_buffer_memory.md)
def BUF_STAT_WITHIN_CAP : Fld := ⟨0xb00004, 31, 1, 1, .ro, []⟩
def BUF_STAT_DMA_HALT : Fld := ⟨0xb00004, 4, 1, 0, .w1c, []⟩
def BUF_STAT_CC_STALL : Fld := ⟨0xb00004, 3, 1, 0, .w1c, []⟩
def BUF_STAT_RT_LATE : Fld := ⟨0xb00004, 2, 1, 0, .w1c, []⟩
def BUF_STAT_OVER_CAP : Fld := ⟨0xb00004, 1, 1, 0, .w1c, []⟩
def BUF_STAT_CAP_WAIT : Fld := ⟨0xb00004, 0, 1, 0, .w1c, []⟩
-- BUF_IEN (10_buffer_memory.md)
def BUF_IEN_DMA_HALT : Fld := ⟨0xb00008, 4, 1, 0, .rw, []⟩
def BUF_IEN_CC_STALL : Fld := ⟨0xb00008, 3, 1, 0, .rw, []⟩
def BUF_IEN_RT_LATE : Fld := ⟨0xb00008, 2, 1, 0, .rw, []⟩
def BUF_IEN_OVER_CAP : Fld := ⟨0xb00008, 1, 1, 0, .rw, []⟩
def BUF_IEN_CAP_WAIT : Fld := ⟨0xb00008, 0, 1, 0, .rw, []⟩
-- BUF_POOL_BASE (10_buffer_memory.md)
def BUF_POOL_BASE_BASE : Fld := ⟨0xb0000c, 0, 22, 0, .rw, []⟩
-- BUF_POOL_UNITS (10_buffer_memory.md)
def BUF_POOL_UNITS_UNITS : Fld := ⟨0xb00010, 0, 22, 0, .rw, []⟩
-- BUF_CAP_CFG (10_buffer_memory.md)
def BUF_CAP_CFG_MARGIN : Fld := ⟨0xb00014, 24, 8, 0xc0, .rwl, []⟩
def BUF_CAP_CFG_FIXED_MJ : Fld := ⟨0xb00014, 12, 12, 0x3e8, .rwl, []⟩
def BUF_CAP_CFG_MAX_MIB : Fld := ⟨0xb00014, 0, 11, 0x400, .rwl, [(0, 0x400)]⟩
-- BUF_SAVE_CFG (10_buffer_memory.md)
def BUF_SAVE_CFG_SAVE_MW : Fld := ⟨0xb00018, 16, 16, 0x1b58, .rwl, []⟩
def BUF_SAVE_CFG_RATE_MBPS : Fld := ⟨0xb00018, 0, 16, 0xc8, .rwl, []⟩
-- BUF_DIRTY (10_buffer_memory.md)
def BUF_DIRTY_UNITS : Fld := ⟨0xb0001c, 0, 22, 0, .ro, []⟩
-- BUF_CAP (10_buffer_memory.md)
def BUF_CAP_UNITS : Fld := ⟨0xb00020, 0, 22, 0, .ro, []⟩
-- BUF_SEG_W (10_buffer_memory.md)
def BUF_SEG_W (w : Nat) : Fld := ⟨0xb00030 + 4 * (w % 2), 0, 32, 0, .rw, []⟩
-- BUF_SEG_RESP (10_buffer_memory.md)
def BUF_SEG_RESP_DONE : Fld := ⟨0xb00038, 31, 1, 0, .ro, []⟩
def BUF_SEG_RESP_RESULT : Fld := ⟨0xb00038, 28, 3, 0, .ro, []⟩
def BUF_SEG_RESP_ADDR : Fld := ⟨0xb00038, 0, 22, 0, .ro, []⟩
-- BUF_JRN_RING (10_buffer_memory.md)
def BUF_JRN_RING_SIZE : Fld := ⟨0xb00040, 28, 4, 0, .rw, [(0, 5)]⟩
def BUF_JRN_RING_BASE : Fld := ⟨0xb00040, 0, 28, 0, .rw, []⟩
-- BUF_JRN_TAIL (10_buffer_memory.md)
def BUF_JRN_TAIL_OFS : Fld := ⟨0xb00048, 0, 19, 0, .rw, []⟩
-- BUF_JRN_HEAD (10_buffer_memory.md)
def BUF_JRN_HEAD_OFS : Fld := ⟨0xb0004c, 0, 19, 0, .rw, []⟩
-- BUF_DMA_DONE (10_buffer_memory.md)
def BUF_DMA_DONE_DONE : Fld := ⟨0xb00090, 0, 32, 0, .w1c, []⟩
-- BUF_CR (10_buffer_memory.md)
def BUF_CR_RT (c : Nat) : Fld := ⟨0xb00100 + 4 * (c % 24), 31, 1, (if 2 ≤ (c % 24) ∧ (c % 24) ≤ 15 then 1 else 0), .rw, []⟩
def BUF_CR_CREDITS (c : Nat) : Fld := ⟨0xb00100 + 4 * (c % 24), 16, 12, 0x40, .rw, [(1, 0xfff)]⟩
def BUF_CR_WEIGHT (c : Nat) : Fld := ⟨0xb00100 + 4 * (c % 24), 0, 8, 0x10, .rw, [(1, 0xff)]⟩
-- BUF_DMA_SRC (10_buffer_memory.md)
def BUF_DMA_SRC_SPACE (c : Nat) : Fld := ⟨0xb01000 + 0x10 * (c % 32), 31, 1, 0, .rw, []⟩
def BUF_DMA_SRC_RSV28 (c : Nat) : Fld := ⟨0xb01000 + 0x10 * (c % 32), 28, 3, 0, .rw, []⟩
def BUF_DMA_SRC_ADDR (c : Nat) : Fld := ⟨0xb01000 + 0x10 * (c % 32), 0, 28, 0, .rw, []⟩
-- BUF_DMA_DST (10_buffer_memory.md)
def BUF_DMA_DST_SPACE (c : Nat) : Fld := ⟨0xb01004 + 0x10 * (c % 32), 31, 1, 0, .rw, []⟩
def BUF_DMA_DST_RSV28 (c : Nat) : Fld := ⟨0xb01004 + 0x10 * (c % 32), 28, 3, 0, .rw, []⟩
def BUF_DMA_DST_ADDR (c : Nat) : Fld := ⟨0xb01004 + 0x10 * (c % 32), 0, 28, 0, .rw, []⟩
-- BUF_DMA_LEN (10_buffer_memory.md)
def BUF_DMA_LEN_BLOCKS (c : Nat) : Fld := ⟨0xb01008 + 0x10 * (c % 32), 0, 24, 0, .rw, []⟩
-- BUF_DMA_CTL (10_buffer_memory.md)
def BUF_DMA_CTL_GO (c : Nat) : Fld := ⟨0xb0100c + 0x10 * (c % 32), 31, 1, 0, .w1s, []⟩
def BUF_DMA_CTL_HALTED (c : Nat) : Fld := ⟨0xb0100c + 0x10 * (c % 32), 30, 1, 0, .ro, []⟩
def BUF_DMA_CTL_OP (c : Nat) : Fld := ⟨0xb0100c + 0x10 * (c % 32), 24, 2, 0, .rw, [(0, 1)]⟩

/-! ### MEM -/
-- MEM_CTL (10_buffer_memory.md)
def MEM_CTL_SCRUB_EN : Fld := ⟨0xb80000, 31, 1, 0, .rw, []⟩
def MEM_CTL_SCRUB_H : Fld := ⟨0xb80000, 16, 8, 0x18, .rw, [(1, 0xff)]⟩
-- MEM_STAT (10_buffer_memory.md)
def MEM_STAT_REPAIR_FAIL : Fld := ⟨0xb80004, 4, 1, 0, .w1c, []⟩
def MEM_STAT_POISON_WR : Fld := ⟨0xb80004, 3, 1, 0, .w1c, []⟩
def MEM_STAT_UE : Fld := ⟨0xb80004, 2, 1, 0, .w1c, []⟩
def MEM_STAT_CE : Fld := ⟨0xb80004, 1, 1, 0, .w1c, []⟩
def MEM_STAT_SCRUB_PASS : Fld := ⟨0xb80004, 0, 1, 0, .w1c, []⟩
-- MEM_IEN (10_buffer_memory.md)
def MEM_IEN_REPAIR_FAIL : Fld := ⟨0xb80008, 4, 1, 0, .rw, []⟩
def MEM_IEN_POISON_WR : Fld := ⟨0xb80008, 3, 1, 0, .rw, []⟩
def MEM_IEN_UE : Fld := ⟨0xb80008, 2, 1, 0, .rw, []⟩
def MEM_IEN_CE : Fld := ⟨0xb80008, 1, 1, 0, .rw, []⟩
def MEM_IEN_SCRUB_PASS : Fld := ⟨0xb80008, 0, 1, 0, .rw, []⟩
-- MEM_ERR (10_buffer_memory.md)
def MEM_ERR_VALID : Fld := ⟨0xb8000c, 31, 1, 0, .w1c, []⟩
def MEM_ERR_ARRAY : Fld := ⟨0xb8000c, 18, 6, 0, .ro, []⟩
def MEM_ERR_READER : Fld := ⟨0xb8000c, 16, 2, 0, .ro, []⟩
-- MEM_ERR_ADDR (10_buffer_memory.md)
def MEM_ERR_ADDR_ADDR : Fld := ⟨0xb80010, 0, 32, 0, .ro, []⟩
-- MEM_CE_CNT (10_buffer_memory.md)
def MEM_CE_CNT_COUNT : Fld := ⟨0xb80014, 0, 16, 0, .rc, []⟩
-- MEM_UE_CNT (10_buffer_memory.md)
def MEM_UE_CNT_COUNT : Fld := ⟨0xb80018, 0, 16, 0, .rc, []⟩
-- MEM_REPAIR (10_buffer_memory.md)
def MEM_REPAIR_GO : Fld := ⟨0xb80020, 31, 1, 0, .w1s, []⟩
def MEM_REPAIR_ARRAY : Fld := ⟨0xb80020, 24, 6, 0, .rw, [(0, 0xe)]⟩
def MEM_REPAIR_SPARES : Fld := ⟨0xb80020, 16, 8, 0, .ro, []⟩
def MEM_REPAIR_ROW : Fld := ⟨0xb80020, 0, 16, 0, .rw, []⟩
-- MEM_RETIRE (10_buffer_memory.md)
def MEM_RETIRE_VALID (i : Nat) : Fld := ⟨0xb80040 + 4 * (i % 16), 31, 1, 0, .rw, []⟩
def MEM_RETIRE_REGION (i : Nat) : Fld := ⟨0xb80040 + 4 * (i % 16), 0, 13, 0, .rw, []⟩
-- MEM_REMAP (10_buffer_memory.md)
def MEM_REMAP_VALID (s e : Nat) : Fld := ⟨0xb81000 + 0x20 * (s % 19) + 4 * (e % 8), 31, 1, 0, .rw, []⟩
def MEM_REMAP_WORD (s e : Nat) : Fld := ⟨0xb81000 + 0x20 * (s % 19) + 4 * (e % 8), 0, 13, 0, .rw, []⟩

/-! ### VLT -/
-- VLT_CTL (10_buffer_memory.md)
def VLT_CTL_EN : Fld := ⟨0xc00000, 31, 1, 0, .rw, []⟩
def VLT_CTL_PERMIT_MA : Fld := ⟨0xc00000, 16, 8, 0x1e, .rw, []⟩
def VLT_CTL_REFRESH_TH : Fld := ⟨0xc00000, 8, 8, 0x14, .rw, []⟩
-- VLT_STAT (10_buffer_memory.md)
def VLT_STAT_FQ_COUNT : Fld := ⟨0xc00004, 24, 5, 0, .ro, []⟩
def VLT_STAT_CQ_COUNT : Fld := ⟨0xc00004, 16, 6, 0, .ro, []⟩
def VLT_STAT_SAVE_FOUND : Fld := ⟨0xc00004, 3, 1, 0, .w1c, []⟩
def VLT_STAT_PERMIT_WAIT : Fld := ⟨0xc00004, 2, 1, 0, .w1c, []⟩
def VLT_STAT_FAIL : Fld := ⟨0xc00004, 1, 1, 0, .w1c, []⟩
def VLT_STAT_DONE : Fld := ⟨0xc00004, 0, 1, 0, .w1c, []⟩
-- VLT_IEN (10_buffer_memory.md)
def VLT_IEN_SAVE_FOUND : Fld := ⟨0xc00008, 3, 1, 0, .rw, []⟩
def VLT_IEN_PERMIT_WAIT : Fld := ⟨0xc00008, 2, 1, 0, .rw, []⟩
def VLT_IEN_FAIL : Fld := ⟨0xc00008, 1, 1, 0, .rw, []⟩
def VLT_IEN_DONE : Fld := ⟨0xc00008, 0, 1, 0, .rw, []⟩
-- VLT_REGION (10_buffer_memory.md)
def VLT_REGION_BASE (r : Nat) : Fld := ⟨0xc00010 + 4 * (r % 8), 16, 12, (vltRegionBase (r % 8)), .rwl, []⟩
def VLT_REGION_BLOCKS (r : Nat) : Fld := ⟨0xc00010 + 4 * (r % 8), 0, 12, (vltRegionBlocks (r % 8)), .rwl, []⟩
-- VLT_CMD_W (10_buffer_memory.md)
def VLT_CMD_W (w : Nat) : Fld := ⟨0xc00040 + 4 * (w % 4), 0, 32, 0, .rw, []⟩
-- VLT_RESP (10_buffer_memory.md)
def VLT_RESP_DONE : Fld := ⟨0xc00050, 31, 1, 0, .ro, []⟩
def VLT_RESP_RESULT : Fld := ⟨0xc00050, 0, 3, 0, .ro, []⟩
-- VLT_CQ_W0 (10_buffer_memory.md)
def VLT_CQ_W0_VALID : Fld := ⟨0xc00054, 31, 1, 0, .ro, []⟩
def VLT_CQ_W0_STATUS : Fld := ⟨0xc00054, 24, 4, 0, .ro, []⟩
def VLT_CQ_W0_TAG : Fld := ⟨0xc00054, 0, 24, 0, .ro, []⟩
-- VLT_CQ_W1 (10_buffer_memory.md)
def VLT_CQ_W1_MAXBITS : Fld := ⟨0xc00058, 0, 8, 0, .ro, []⟩
-- VLT_CQ_POP (10_buffer_memory.md)
def VLT_CQ_POP_POP : Fld := ⟨0xc0005c, 0, 1, 0, .w1s, []⟩
-- VLT_SAVE (10_buffer_memory.md)
def VLT_SAVE_ARMED : Fld := ⟨0xc00060, 31, 1, 0, .ro, []⟩
def VLT_SAVE_RUNNING : Fld := ⟨0xc00060, 30, 1, 0, .ro, []⟩
def VLT_SAVE_ERASED_PAGES : Fld := ⟨0xc00060, 0, 17, 0, .ro, []⟩
-- VLT_SAVE_MAP (10_buffer_memory.md)
def VLT_SAVE_MAP_ERASED (k : Nat) : Fld := ⟨0xc00080 + 4 * (k % 10), 0, 32, 0, .ro, []⟩

/-! ### ENG -/
-- ENG_CTL (11_engines.md)
def ENG_CTL_EN : Fld := ⟨0xd00000, 31, 1, 0, .rw, []⟩
def ENG_CTL_AUTO_MIG : Fld := ⟨0xd00000, 0, 1, 1, .rwl, []⟩
-- ENG_CFG (11_engines.md)
def ENG_CFG_CGAP : Fld := ⟨0xd00004, 24, 8, 0x10, .rwl, [(1, 0x20)]⟩
def ENG_CFG_ILIM : Fld := ⟨0xd00004, 16, 8, 0x10, .rwl, [(1, 0x40)]⟩
def ENG_CFG_IHOLD_MAX : Fld := ⟨0xd00004, 8, 8, 0x40, .rwl, [(1, 0x40)]⟩
-- ENG_STAT (11_engines.md)
def ENG_STAT_SPARES : Fld := ⟨0xd00008, 24, 2, 2, .ro, []⟩
def ENG_STAT_NO_SPARE : Fld := ⟨0xd00008, 4, 1, 0, .w1c, []⟩
def ENG_STAT_ROLE_FAULT : Fld := ⟨0xd00008, 3, 1, 0, .w1c, []⟩
def ENG_STAT_MIG_DONE : Fld := ⟨0xd00008, 2, 1, 0, .w1c, []⟩
def ENG_STAT_MIG_REFUSED : Fld := ⟨0xd00008, 1, 1, 0, .w1c, []⟩
def ENG_STAT_CS_BUSY : Fld := ⟨0xd00008, 0, 1, 0, .w1c, []⟩
-- ENG_IEN (11_engines.md)
def ENG_IEN_NO_SPARE : Fld := ⟨0xd0000c, 4, 1, 0, .rw, []⟩
def ENG_IEN_ROLE_FAULT : Fld := ⟨0xd0000c, 3, 1, 0, .rw, []⟩
def ENG_IEN_MIG_DONE : Fld := ⟨0xd0000c, 2, 1, 0, .rw, []⟩
def ENG_IEN_MIG_REFUSED : Fld := ⟨0xd0000c, 1, 1, 0, .rw, []⟩
def ENG_IEN_CS_BUSY : Fld := ⟨0xd0000c, 0, 1, 0, .rw, []⟩
-- ENG_MIG (11_engines.md)
def ENG_MIG_GO : Fld := ⟨0xd00010, 31, 1, 0, .w1s, []⟩
def ENG_MIG_TEST : Fld := ⟨0xd00010, 30, 1, 0, .rw, []⟩
def ENG_MIG_ROLE : Fld := ⟨0xd00010, 16, 4, 0, .rw, []⟩
def ENG_MIG_TARGET : Fld := ⟨0xd00010, 8, 5, 0x1f, .rw, [(0, 0x11), (0x1f, 0x1f)]⟩
-- ENG_MIG_STAT (11_engines.md)
def ENG_MIG_STAT_PHASE : Fld := ⟨0xd00014, 28, 4, 0, .ro, []⟩
def ENG_MIG_STAT_FAULT : Fld := ⟨0xd00014, 27, 1, 0, .ro, []⟩
def ENG_MIG_STAT_ROLE : Fld := ⟨0xd00014, 20, 4, 0, .ro, []⟩
def ENG_MIG_STAT_LAST : Fld := ⟨0xd00014, 0, 16, 0, .ro, []⟩
-- ENG_MAP (11_engines.md)
def ENG_MAP_VALID (r : Nat) : Fld := ⟨0xd00040 + 4 * (r % 16), 31, 1, 1, .ro, []⟩
def ENG_MAP_ENGINE (r : Nat) : Fld := ⟨0xd00040 + 4 * (r % 16), 0, 5, (r % 16), .ro, []⟩
-- ENG_SE_STAT (11_engines.md)
def ENG_SE_STAT_STATE (n : Nat) : Fld := ⟨0xd00100 + 0x10 * (n % 18), 29, 3, (if (n % 18) < 16 then 3 else 0), .ro, []⟩
def ENG_SE_STAT_LEVEL (n : Nat) : Fld := ⟨0xd00100 + 0x10 * (n % 18), 28, 1, 0, .ro, []⟩
def ENG_SE_STAT_ROLE (n : Nat) : Fld := ⟨0xd00100 + 0x10 * (n % 18), 24, 4, (if (n % 18) < 16 then (n % 18) else 0), .ro, []⟩
def ENG_SE_STAT_PC (n : Nat) : Fld := ⟨0xd00100 + 0x10 * (n % 18), 0, 13, 0, .ro, []⟩
-- ENG_SE_CTL (11_engines.md)
def ENG_SE_CTL_HALT (n : Nat) : Fld := ⟨0xd00104 + 0x10 * (n % 18), 31, 1, 0, .w1s, []⟩
def ENG_SE_CTL_RESUME (n : Nat) : Fld := ⟨0xd00104 + 0x10 * (n % 18), 30, 1, 0, .w1s, []⟩
def ENG_SE_CTL_SPARE (n : Nat) : Fld := ⟨0xd00104 + 0x10 * (n % 18), 29, 1, 0, .w1s, []⟩
def ENG_SE_CTL_RETIRE (n : Nat) : Fld := ⟨0xd00104 + 0x10 * (n % 18), 28, 1, 0, .w1s, []⟩
-- ENG_SE_FAULT (11_engines.md)
def ENG_SE_FAULT_FCODE (n : Nat) : Fld := ⟨0xd00108 + 0x10 * (n % 18), 28, 4, 0, .ro, []⟩
def ENG_SE_FAULT_FPC (n : Nat) : Fld := ⟨0xd00108 + 0x10 * (n % 18), 0, 13, 0, .ro, []⟩
-- ENG_ROLE_IMG (11_engines.md)
def ENG_ROLE_IMG_ADDR (r : Nat) : Fld := ⟨0xd00400 + 0x20 * (r % 16), 0, 28, 0, .rwl, []⟩
-- ENG_ROLE_CTL (11_engines.md)
def ENG_ROLE_CTL_START (r : Nat) : Fld := ⟨0xd00404 + 0x20 * (r % 16), 31, 1, 0, .w1s, []⟩
-- ENG_ROLE_IPEND (11_engines.md)
def ENG_ROLE_IPEND_PEND (r : Nat) : Fld := ⟨0xd00408 + 0x20 * (r % 16), 0, 16, 0, .ro, []⟩
-- ENG_ROLE_IEN (11_engines.md)
def ENG_ROLE_IEN_EN (r : Nat) : Fld := ⟨0xd0040c + 0x20 * (r % 16), 0, 16, 0, .rw, []⟩
-- ENG_ROLE_DB (11_engines.md)
def ENG_ROLE_DB_VALUE (r : Nat) : Fld := ⟨0xd00410 + 0x20 * (r % 16), 0, 32, 0, .rw, []⟩
-- ENG_CTX_G (11_engines.md)
def ENG_CTX_G_VALUE (r k : Nat) : Fld := ⟨0xd02000 + 0x80 * (r % 16) + 4 * (k % 32), 0, 32, 0, .ro, []⟩

/-! ### BUL -/
-- BUL_CTL (12_power.md)
def BUL_CTL_EN : Fld := ⟨0xe00000, 31, 1, 0, .rw, []⟩
def BUL_CTL_LEASE_EN : Fld := ⟨0xe00000, 8, 1, 0, .rw, []⟩
def BUL_CTL_EMERG : Fld := ⟨0xe00000, 0, 1, 0, .w1s, []⟩
-- BUL_BUDGET (12_power.md)
def BUL_BUDGET_I5_MA : Fld := ⟨0xe00004, 16, 12, 0x5dc, .rwl, [(0, 0xfa0)]⟩
def BUL_BUDGET_I12_MA : Fld := ⟨0xe00004, 0, 12, 0x7d0, .rwl, [(0, 0xfa0)]⟩
-- BUL_PS1 (12_power.md)
def BUL_PS1_MW : Fld := ⟨0xe00008, 0, 16, 0x2328, .rwl, []⟩
-- BUL_STAND (12_power.md)
def BUL_STAND_SPIN_MA : Fld := ⟨0xe0000c, 16, 12, 0x12c, .rw, []⟩
def BUL_STAND_PA_MA : Fld := ⟨0xe0000c, 0, 12, 0xfa, .rw, []⟩
-- BUL_ASSIST (12_power.md)
def BUL_ASSIST_MA5 : Fld := ⟨0xe00010, 0, 12, 0x96, .rw, []⟩
-- BUL_OC (12_power.md)
def BUL_OC_OC12_MA : Fld := ⟨0xe00014, 16, 12, 0x9c4, .rwl, []⟩
def BUL_OC_OC_US : Fld := ⟨0xe00014, 0, 8, 8, .rwl, [(1, 0xff)]⟩
-- BUL_USE (12_power.md)
def BUL_USE_I5 : Fld := ⟨0xe00018, 16, 12, 0, .ro, []⟩
def BUL_USE_I12 : Fld := ⟨0xe00018, 0, 12, 0, .ro, []⟩
-- BUL_CHARGE (12_power.md)
def BUL_CHARGE_MW : Fld := ⟨0xe0001c, 0, 16, 0, .ro, []⟩
-- BUL_STAT (12_power.md)
def BUL_STAT_FROZEN : Fld := ⟨0xe00020, 31, 1, 0, .ro, []⟩
def BUL_STAT_OVER : Fld := ⟨0xe00020, 30, 1, 0, .ro, []⟩
def BUL_STAT_LEASE_END : Fld := ⟨0xe00020, 7, 1, 0, .w1c, []⟩
def BUL_STAT_DEADLINE : Fld := ⟨0xe00020, 6, 1, 0, .w1c, []⟩
def BUL_STAT_WAIT : Fld := ⟨0xe00020, 5, 1, 0, .w1c, []⟩
def BUL_STAT_EXPIRED : Fld := ⟨0xe00020, 4, 1, 0, .w1c, []⟩
def BUL_STAT_REFUSED : Fld := ⟨0xe00020, 3, 1, 0, .w1c, []⟩
def BUL_STAT_OC : Fld := ⟨0xe00020, 2, 1, 0, .w1c, []⟩
def BUL_STAT_EMERG : Fld := ⟨0xe00020, 1, 1, 0, .w1c, []⟩
def BUL_STAT_GRANT : Fld := ⟨0xe00020, 0, 1, 0, .w1c, []⟩
-- BUL_IEN (12_power.md)
def BUL_IEN_LEASE_END : Fld := ⟨0xe00024, 7, 1, 0, .rw, []⟩
def BUL_IEN_DEADLINE : Fld := ⟨0xe00024, 6, 1, 0, .rw, []⟩
def BUL_IEN_WAIT : Fld := ⟨0xe00024, 5, 1, 0, .rw, []⟩
def BUL_IEN_EXPIRED : Fld := ⟨0xe00024, 4, 1, 0, .rw, []⟩
def BUL_IEN_REFUSED : Fld := ⟨0xe00024, 3, 1, 0, .rw, []⟩
def BUL_IEN_OC : Fld := ⟨0xe00024, 2, 1, 0, .rw, []⟩
def BUL_IEN_EMERG : Fld := ⟨0xe00024, 1, 1, 0, .rw, []⟩
def BUL_IEN_GRANT : Fld := ⟨0xe00024, 0, 1, 0, .rw, []⟩
-- BUL_LEASE_CFG (12_power.md)
def BUL_LEASE_CFG_LEND_MAX : Fld := ⟨0xe00028, 16, 12, 0, .rw, []⟩
def BUL_LEASE_CFG_GUARD : Fld := ⟨0xe00028, 8, 8, 0xa, .rw, []⟩
-- BUL_LEASE_TOT (12_power.md)
def BUL_LEASE_TOT_IN : Fld := ⟨0xe0002c, 16, 12, 0, .ro, []⟩
def BUL_LEASE_TOT_OUT : Fld := ⟨0xe0002c, 0, 12, 0, .ro, []⟩
-- BUL_RQ_W0 (12_power.md)
def BUL_RQ_W0_RSV30 : Fld := ⟨0xe00040, 30, 2, 0, .rw, []⟩
def BUL_RQ_W0_RELEASE : Fld := ⟨0xe00040, 29, 1, 0, .rw, []⟩
def BUL_RQ_W0_SLOT : Fld := ⟨0xe00040, 24, 5, 0, .rw, []⟩
def BUL_RQ_W0_I5_MA : Fld := ⟨0xe00040, 12, 12, 0, .rw, []⟩
def BUL_RQ_W0_I12_MA : Fld := ⟨0xe00040, 0, 12, 0, .rw, []⟩
-- BUL_RQ_W1 (12_power.md)
def BUL_RQ_W1_DUR : Fld := ⟨0xe00044, 16, 16, 0, .rw, []⟩
def BUL_RQ_W1_DL : Fld := ⟨0xe00044, 0, 16, 0, .rw, []⟩
-- BUL_RQ_RESP (12_power.md)
def BUL_RQ_RESP_DONE : Fld := ⟨0xe00048, 31, 1, 0, .ro, []⟩
def BUL_RQ_RESP_RESULT : Fld := ⟨0xe00048, 0, 3, 0, .ro, []⟩
-- BUL_SLOT_W0 (12_power.md)
def BUL_SLOT_W0_STATE (s : Nat) : Fld := ⟨0xe00100 + 8 * (s % 24), 30, 2, 0, .ro, []⟩
def BUL_SLOT_W0_PRIO (s : Nat) : Fld := ⟨0xe00100 + 8 * (s % 24), 28, 2, (bulSlotPrio (s % 24)), .rw, []⟩
def BUL_SLOT_W0_I5 (s : Nat) : Fld := ⟨0xe00100 + 8 * (s % 24), 12, 12, 0, .ro, []⟩
def BUL_SLOT_W0_I12 (s : Nat) : Fld := ⟨0xe00100 + 8 * (s % 24), 0, 12, 0, .ro, []⟩
-- BUL_SLOT_W1 (12_power.md)
def BUL_SLOT_W1_END (s : Nat) : Fld := ⟨0xe00104 + 8 * (s % 24), 0, 32, 0, .ro, []⟩
-- BUL_LEASE_W0 (12_power.md)
def BUL_LEASE_W0_VALID (k : Nat) : Fld := ⟨0xe00200 + 8 * (k % 16), 31, 1, 0, .rw, []⟩
def BUL_LEASE_W0_OUT (k : Nat) : Fld := ⟨0xe00200 + 8 * (k % 16), 30, 1, 0, .rw, []⟩
def BUL_LEASE_W0_PEER (k : Nat) : Fld := ⟨0xe00200 + 8 * (k % 16), 16, 9, 0, .rw, []⟩
def BUL_LEASE_W0_MA (k : Nat) : Fld := ⟨0xe00200 + 8 * (k % 16), 0, 12, 0, .rw, []⟩
-- BUL_LEASE_W1 (12_power.md)
def BUL_LEASE_W1_END (k : Nat) : Fld := ⟨0xe00204 + 8 * (k % 16), 0, 32, 0, .rw, []⟩

/-! ### PWR -/
-- PWR_CTL (12_power.md)
def PWR_CTL_WAKE_TRIES : Fld := ⟨0xe80000, 0, 4, 2, .rw, []⟩
-- PWR_STATE (12_power.md)
def PWR_STATE_CUR : Fld := ⟨0xe80004, 29, 3, 0, .ro, []⟩
def PWR_STATE_TARGET : Fld := ⟨0xe80004, 26, 3, 0, .ro, []⟩
def PWR_STATE_HELD : Fld := ⟨0xe80004, 23, 3, 0, .ro, []⟩
def PWR_STATE_HELD_V : Fld := ⟨0xe80004, 22, 1, 0, .ro, []⟩
def PWR_STATE_LAST_OP : Fld := ⟨0xe80004, 19, 3, 0, .ro, []⟩
def PWR_STATE_STEP : Fld := ⟨0xe80004, 12, 3, 0, .ro, []⟩
def PWR_STATE_RAISE : Fld := ⟨0xe80004, 11, 1, 0, .ro, []⟩
-- PWR_REQ (12_power.md)
def PWR_REQ_GO : Fld := ⟨0xe80008, 31, 1, 0, .w1s, []⟩
def PWR_REQ_SRC : Fld := ⟨0xe80008, 4, 4, 0, .rw, []⟩
def PWR_REQ_CTRL : Fld := ⟨0xe80008, 3, 1, 0, .rw, []⟩
def PWR_REQ_STATE : Fld := ⟨0xe80008, 0, 3, 0, .rw, [(0, 4)]⟩
-- PWR_STAT (12_power.md)
def PWR_STAT_HB_LOST : Fld := ⟨0xe8000c, 31, 1, 0, .w1c, []⟩
def PWR_STAT_DIP5 : Fld := ⟨0xe8000c, 6, 1, 0, .w1c, []⟩
def PWR_STAT_DIP12 : Fld := ⟨0xe8000c, 5, 1, 0, .w1c, []⟩
def PWR_STAT_HELD : Fld := ⟨0xe8000c, 4, 1, 0, .w1c, []⟩
def PWR_STAT_WAKE_FAIL : Fld := ⟨0xe8000c, 3, 1, 0, .w1c, []⟩
def PWR_STAT_ROLLBACK : Fld := ⟨0xe8000c, 2, 1, 0, .w1c, []⟩
def PWR_STAT_DONE : Fld := ⟨0xe8000c, 1, 1, 0, .w1c, []⟩
-- PWR_IEN (12_power.md)
def PWR_IEN_DIP5 : Fld := ⟨0xe80010, 6, 1, 0, .rw, []⟩
def PWR_IEN_DIP12 : Fld := ⟨0xe80010, 5, 1, 0, .rw, []⟩
def PWR_IEN_HELD : Fld := ⟨0xe80010, 4, 1, 0, .rw, []⟩
def PWR_IEN_WAKE_FAIL : Fld := ⟨0xe80010, 3, 1, 0, .rw, []⟩
def PWR_IEN_ROLLBACK : Fld := ⟨0xe80010, 2, 1, 0, .rw, []⟩
def PWR_IEN_DONE : Fld := ⟨0xe80010, 1, 1, 0, .rw, []⟩
-- PWR_REFUSE (12_power.md)
def PWR_REFUSE_STEP : Fld := ⟨0xe80014, 25, 3, 0, .ro, []⟩
def PWR_REFUSE_CAUSE : Fld := ⟨0xe80014, 20, 4, 0, .ro, []⟩
def PWR_REFUSE_FROM : Fld := ⟨0xe80014, 13, 3, 0, .ro, []⟩
def PWR_REFUSE_TO : Fld := ⟨0xe80014, 10, 3, 0, .ro, []⟩
-- PWR_WAKE_SRC (12_power.md)
def PWR_WAKE_SRC_SRC : Fld := ⟨0xe80018, 28, 4, 0, .ro, []⟩
def PWR_WAKE_SRC_MS : Fld := ⟨0xe80018, 0, 16, 0, .ro, []⟩
-- PWR_MON (12_power.md)
def PWR_MON_WARN_MV (r : Nat) : Fld := ⟨0xe80020 + 4 * (r % 2), 18, 14, (if (r % 2) = 0 then 0x2A30 else 0x11F8), .rwl, []⟩
def PWR_MON_RESET_MV (r : Nat) : Fld := ⟨0xe80020 + 4 * (r % 2), 4, 14, (if (r % 2) = 0 then 0x2580 else 0x10CC), .rwl, []⟩
def PWR_MON_HYST (r : Nat) : Fld := ⟨0xe80020 + 4 * (r % 2), 0, 4, (if (r % 2) = 0 then 4 else 2), .rwl, []⟩
-- PWR_VMEAS (12_power.md)
def PWR_VMEAS_V12 : Fld := ⟨0xe80028, 16, 16, 0, .ro, []⟩
def PWR_VMEAS_V5 : Fld := ⟨0xe80028, 0, 16, 0, .ro, []⟩
-- PWR_HU (12_power.md)
def PWR_HU_VHU : Fld := ⟨0xe8002c, 0, 16, 0, .ro, []⟩
-- PWR_STEP_TO (12_power.md)
def PWR_STEP_TO_FLUSH_S : Fld := ⟨0xe80030, 24, 8, 0x1e, .rw, []⟩
def PWR_STEP_TO_SPIN_S : Fld := ⟨0xe80030, 16, 8, 0x28, .rw, []⟩
def PWR_STEP_TO_STEP_MS : Fld := ⟨0xe80030, 0, 16, 0x7d0, .rw, []⟩
-- PWR_DIPS (12_power.md)
def PWR_DIPS_COUNT : Fld := ⟨0xe80034, 0, 16, 0, .rc, []⟩

/-! ### CLK -/
-- CLK_CTL (13_clocks_thermal_calibration.md)
def CLK_CTL_MON_EN : Fld := ⟨0xf00000, 31, 1, 1, .rwl, []⟩
def CLK_CTL_TOL : Fld := ⟨0xf00000, 8, 8, 8, .rwl, [(4, 0x20)]⟩
def CLK_CTL_POL_PLL : Fld := ⟨0xf00000, 1, 1, 0, .rwl, []⟩
def CLK_CTL_POL_MXO : Fld := ⟨0xf00000, 0, 1, 0, .rwl, []⟩
-- CLK_SRC_STAT (13_clocks_thermal_calibration.md)
def CLK_SRC_STAT_LOCK : Fld := ⟨0xf00004, 16, 6, 0, .ro, []⟩
def CLK_SRC_STAT_STABLE : Fld := ⟨0xf00004, 8, 5, 2, .ro, []⟩
def CLK_SRC_STAT_RUN : Fld := ⟨0xf00004, 0, 5, 6, .ro, []⟩
-- CLK_STAT (13_clocks_thermal_calibration.md)
def CLK_STAT_SW_REFUSED : Fld := ⟨0xf00008, 13, 1, 0, .w1c, []⟩
def CLK_STAT_ACC_TO : Fld := ⟨0xf00008, 12, 1, 0, .w1c, []⟩
def CLK_STAT_CHSYN_UNLOCK : Fld := ⟨0xf00008, 8, 4, 0, .w1c, []⟩
def CLK_STAT_REF_FAIL : Fld := ⟨0xf00008, 6, 2, 0, .w1c, []⟩
def CLK_STAT_SRC_FAIL : Fld := ⟨0xf00008, 5, 1, 0, .w1c, []⟩
def CLK_STAT_FRC_FAIL : Fld := ⟨0xf00008, 4, 1, 0, .w1c, []⟩
def CLK_STAT_PLL_FAIL : Fld := ⟨0xf00008, 3, 1, 0, .w1c, []⟩
def CLK_STAT_MXO_FAIL : Fld := ⟨0xf00008, 2, 1, 0, .w1c, []⟩
def CLK_STAT_COAST : Fld := ⟨0xf00008, 1, 1, 0, .w1c, []⟩
def CLK_STAT_CLK_FAIL : Fld := ⟨0xf00008, 0, 1, 0, .w1c, []⟩
-- CLK_IEN (13_clocks_thermal_calibration.md)
def CLK_IEN_SW_REFUSED : Fld := ⟨0xf0000c, 13, 1, 0, .rw, []⟩
def CLK_IEN_ACC_TO : Fld := ⟨0xf0000c, 12, 1, 0, .rw, []⟩
def CLK_IEN_CHSYN_UNLOCK : Fld := ⟨0xf0000c, 8, 4, 0, .rw, []⟩
def CLK_IEN_REF_FAIL : Fld := ⟨0xf0000c, 6, 2, 0, .rw, []⟩
def CLK_IEN_SRC_FAIL : Fld := ⟨0xf0000c, 5, 1, 0, .rw, []⟩
def CLK_IEN_FRC_FAIL : Fld := ⟨0xf0000c, 4, 1, 0, .rw, []⟩
def CLK_IEN_PLL_FAIL : Fld := ⟨0xf0000c, 3, 1, 0, .rw, []⟩
def CLK_IEN_MXO_FAIL : Fld := ⟨0xf0000c, 2, 1, 0, .rw, []⟩
def CLK_IEN_COAST : Fld := ⟨0xf0000c, 1, 1, 0, .rw, []⟩
-- CLK_MUX (13_clocks_thermal_calibration.md)
def CLK_MUX_BUSY (d : Nat) : Fld := ⟨0xf00010 + 4 * (d % 8), 31, 1, 0, .ro, []⟩
def CLK_MUX_SEL (d : Nat) : Fld := ⟨0xf00010 + 4 * (d % 8), 0, 3, (if (d % 8) = 0 ∨ (d % 8) = 1 then 0 else if (d % 8) = 3 then 3 else 7), .rw, []⟩
-- CLK_FORCE (13_clocks_thermal_calibration.md)
def CLK_FORCE_FORCE : Fld := ⟨0xf00030, 0, 8, 0, .w1s, []⟩
-- CLK_PLL (13_clocks_thermal_calibration.md)
def CLK_PLL_EN (p : Nat) : Fld := ⟨0xf00040 + 4 * (p % 2), 31, 1, 0, .rw, []⟩
def CLK_PLL_LOCK (p : Nat) : Fld := ⟨0xf00040 + 4 * (p % 2), 30, 1, 0, .ro, []⟩
def CLK_PLL_COASTING (p : Nat) : Fld := ⟨0xf00040 + 4 * (p % 2), 29, 1, 0, .ro, []⟩
def CLK_PLL_FREQ_MHZ (p : Nat) : Fld := ⟨0xf00040 + 4 * (p % 2), 0, 16, (if (p % 2) = 0 then 0x07D0 else 0x042B), .rwl, []⟩
-- CLK_CHSYN (13_clocks_thermal_calibration.md)
def CLK_CHSYN_EN (n : Nat) : Fld := ⟨0xf00050 + 4 * (n % 4), 31, 1, 0, .rw, []⟩
def CLK_CHSYN_LOCK (n : Nat) : Fld := ⟨0xf00050 + 4 * (n % 4), 30, 1, 0, .ro, []⟩
def CLK_CHSYN_MHZ (n : Nat) : Fld := ⟨0xf00050 + 4 * (n % 4), 0, 13, 0, .ro, []⟩
-- CLK_GATE_FORCE (13_clocks_thermal_calibration.md)
def CLK_GATE_FORCE_BLK : Fld := ⟨0xf00060, 0, 24, 0, .rw, []⟩
-- CLK_GATE_STAT (13_clocks_thermal_calibration.md)
def CLK_GATE_STAT_BLK : Fld := ⟨0xf00064, 0, 24, 0, .ro, []⟩
-- CLK_TO_INFO (13_clocks_thermal_calibration.md)
def CLK_TO_INFO_VALID : Fld := ⟨0xf00068, 31, 1, 0, .w1c, []⟩
def CLK_TO_INFO_SRC : Fld := ⟨0xf00068, 29, 2, 0, .ro, []⟩
def CLK_TO_INFO_WR : Fld := ⟨0xf00068, 28, 1, 0, .ro, []⟩
def CLK_TO_INFO_ADDR : Fld := ⟨0xf00068, 0, 25, 0, .ro, []⟩

/-! ### THM -/
-- THM_CTL (13_clocks_thermal_calibration.md)
def THM_CTL_EN : Fld := ⟨0xf40000, 31, 1, 1, .rwl, []⟩
def THM_CTL_DIODE : Fld := ⟨0xf40000, 30, 1, 0, .rw, []⟩
def THM_CTL_AUTO_RESUME : Fld := ⟨0xf40000, 29, 1, 1, .rw, []⟩
def THM_CTL_RESUME : Fld := ⟨0xf40000, 28, 1, 0, .w1s, []⟩
def THM_CTL_EXCL : Fld := ⟨0xf40000, 0, 12, 0, .rw, []⟩
-- THM_LIM (13_clocks_thermal_calibration.md)
def THM_LIM_CRIT_C : Fld := ⟨0xf40004, 24, 8, 0x73, .rwl, []⟩
def THM_LIM_STOP_C : Fld := ⟨0xf40004, 16, 8, 0x69, .rwl, []⟩
def THM_LIM_WARN_C : Fld := ⟨0xf40004, 8, 8, 0x5f, .rw, []⟩
def THM_LIM_RESUME_C : Fld := ⟨0xf40004, 0, 8, 0x55, .rw, []⟩
-- THM_RISE (13_clocks_thermal_calibration.md)
def THM_RISE_RISE1 : Fld := ⟨0xf40008, 24, 8, 0xc, .rwl, []⟩
def THM_RISE_RISE60 : Fld := ⟨0xf40008, 16, 8, 0x14, .rwl, []⟩
def THM_RISE_FLOOR_C : Fld := ⟨0xf40008, 8, 8, 0x55, .rw, []⟩
def THM_RISE_RO_MARGIN : Fld := ⟨0xf40008, 0, 8, 4, .rwl, []⟩
-- THM_STAT (13_clocks_thermal_calibration.md)
def THM_STAT_STATE : Fld := ⟨0xf4000c, 29, 3, 0, .ro, []⟩
def THM_STAT_RO_IN_USE : Fld := ⟨0xf4000c, 28, 1, 1, .ro, []⟩
def THM_STAT_CRIT_TRIP : Fld := ⟨0xf4000c, 7, 1, 0, .w1c, []⟩
def THM_STAT_RESUMED : Fld := ⟨0xf4000c, 6, 1, 0, .w1c, []⟩
def THM_STAT_STOP : Fld := ⟨0xf4000c, 5, 1, 0, .w1c, []⟩
def THM_STAT_RISE60 : Fld := ⟨0xf4000c, 4, 1, 0, .w1c, []⟩
def THM_STAT_RISE1 : Fld := ⟨0xf4000c, 3, 1, 0, .w1c, []⟩
def THM_STAT_WARN : Fld := ⟨0xf4000c, 2, 1, 0, .w1c, []⟩
def THM_STAT_IMPLAUS : Fld := ⟨0xf4000c, 1, 1, 0, .w1c, []⟩
-- THM_IEN (13_clocks_thermal_calibration.md)
def THM_IEN_RESUMED : Fld := ⟨0xf40010, 6, 1, 0, .rw, []⟩
def THM_IEN_STOP : Fld := ⟨0xf40010, 5, 1, 0, .rw, []⟩
def THM_IEN_RISE60 : Fld := ⟨0xf40010, 4, 1, 0, .rw, []⟩
def THM_IEN_RISE1 : Fld := ⟨0xf40010, 3, 1, 0, .rw, []⟩
def THM_IEN_WARN : Fld := ⟨0xf40010, 2, 1, 0, .rw, []⟩
def THM_IEN_IMPLAUS : Fld := ⟨0xf40010, 1, 1, 0, .rw, []⟩
def THM_IEN_RSV0 : Fld := ⟨0xf40010, 0, 1, 0, .rw, []⟩
-- THM_TMAX (13_clocks_thermal_calibration.md)
def THM_TMAX_PEAK : Fld := ⟨0xf40014, 16, 11, 0, .rc, []⟩
def THM_TMAX_SITE : Fld := ⟨0xf40014, 12, 4, 0xf, .ro, []⟩
def THM_TMAX_TMAX : Fld := ⟨0xf40014, 0, 11, 0, .ro, []⟩
-- THM_RISE_NOW (13_clocks_thermal_calibration.md)
def THM_RISE_NOW_R61 : Fld := ⟨0xf40018, 16, 16, 0, .ro, []⟩
def THM_RISE_NOW_R1 : Fld := ⟨0xf40018, 0, 16, 0, .ro, []⟩
-- THM_SENS (13_clocks_thermal_calibration.md)
def THM_SENS_VALID (k : Nat) : Fld := ⟨0xf40040 + 4 * (k % 16), 31, 1, 0, .ro, []⟩
def THM_SENS_IMPLAUS (k : Nat) : Fld := ⟨0xf40040 + 4 * (k % 16), 30, 1, 0, .ro, []⟩
def THM_SENS_T (k : Nat) : Fld := ⟨0xf40040 + 4 * (k % 16), 0, 11, 0, .ro, []⟩

/-! ### CAL -/
-- CAL_CTL (13_clocks_thermal_calibration.md)
def CAL_CTL_EN : Fld := ⟨0xf80000, 31, 1, 0, .rw, []⟩
def CAL_CTL_MAXFAIL : Fld := ⟨0xf80000, 0, 4, 3, .rw, [(1, 0xf)]⟩
-- CAL_STAT (13_clocks_thermal_calibration.md)
def CAL_STAT_HELD : Fld := ⟨0xf80004, 3, 1, 0, .w1c, []⟩
def CAL_STAT_ACC_DONE : Fld := ⟨0xf80004, 2, 1, 0, .w1c, []⟩
def CAL_STAT_APPLY_REFUSED : Fld := ⟨0xf80004, 1, 1, 0, .w1c, []⟩
def CAL_STAT_DUE : Fld := ⟨0xf80004, 0, 1, 0, .w1c, []⟩
-- CAL_IEN (13_clocks_thermal_calibration.md)
def CAL_IEN_HELD : Fld := ⟨0xf80008, 3, 1, 0, .rw, []⟩
def CAL_IEN_ACC_DONE : Fld := ⟨0xf80008, 2, 1, 0, .rw, []⟩
def CAL_IEN_APPLY_REFUSED : Fld := ⟨0xf80008, 1, 1, 0, .rw, []⟩
def CAL_IEN_DUE : Fld := ⟨0xf80008, 0, 1, 0, .rw, []⟩
-- CAL_ITEM (13_clocks_thermal_calibration.md)
def CAL_ITEM_DELTA (i : Nat) : Fld := ⟨0xf80010 + 4 * (i % 5), 24, 8, 0x20, .rw, []⟩
def CAL_ITEM_SENSOR (i : Nat) : Fld := ⟨0xf80010 + 4 * (i % 5), 20, 4, 0xe, .rw, [(0, 0xb), (0xe, 0xf)]⟩
def CAL_ITEM_DUE (i : Nat) : Fld := ⟨0xf80010 + 4 * (i % 5), 0, 20, 0, .ro, []⟩
-- CAL_HELD (13_clocks_thermal_calibration.md)
def CAL_HELD_HELD (i : Nat) : Fld := ⟨0xf80030 + 4 * (i % 5), 0, 20, 0, .w1c, []⟩
-- CAL_LIM (13_clocks_thermal_calibration.md)
def CAL_LIM_STEP_MAX (i : Nat) : Fld := ⟨0xf80050 + 4 * (i % 5), 24, 8, (calLimStep (i % 5)), .rwl, []⟩
def CAL_LIM_HI (i : Nat) : Fld := ⟨0xf80050 + 4 * (i % 5), 12, 10, (calLimHi (i % 5)), .rwl, []⟩
def CAL_LIM_LO (i : Nat) : Fld := ⟨0xf80050 + 4 * (i % 5), 0, 10, (calLimLo (i % 5)), .rwl, []⟩
-- CAL_DONE (13_clocks_thermal_calibration.md)
def CAL_DONE_GO : Fld := ⟨0xf80070, 31, 1, 0, .w1s, []⟩
def CAL_DONE_ITEM : Fld := ⟨0xf80070, 24, 3, 0, .rw, [(0, 4)]⟩
def CAL_DONE_HEAD : Fld := ⟨0xf80070, 16, 5, 0, .rw, []⟩
-- CAL_ACC_CTL (13_clocks_thermal_calibration.md)
def CAL_ACC_CTL_GO : Fld := ⟨0xf80080, 31, 1, 0, .w1s, []⟩
def CAL_ACC_CTL_SRC : Fld := ⟨0xf80080, 30, 1, 0, .rw, []⟩
def CAL_ACC_CTL_CH : Fld := ⟨0xf80080, 28, 2, 0, .rw, []⟩
def CAL_ACC_CTL_READER : Fld := ⟨0xf80080, 27, 1, 0, .rw, []⟩
def CAL_ACC_CTL_SLOT : Fld := ⟨0xf80080, 16, 6, 0, .rw, []⟩
def CAL_ACC_CTL_LOG2N : Fld := ⟨0xf80080, 0, 5, 0xf, .rw, [(0xa, 0x10)]⟩
-- CAL_ACC_SUM (13_clocks_thermal_calibration.md)
def CAL_ACC_SUM_VALUE : Fld := ⟨0xf80084, 0, 32, 0, .ro, []⟩
-- CAL_ACC_SQ (13_clocks_thermal_calibration.md)
def CAL_ACC_SQ_VALUE : Fld := ⟨0xf80088, 0, 32, 0, .ro, []⟩
-- CAL_ACC_PEAK (13_clocks_thermal_calibration.md)
def CAL_ACC_PEAK_POS : Fld := ⟨0xf8008c, 16, 16, 0, .ro, []⟩
def CAL_ACC_PEAK_NEG : Fld := ⟨0xf8008c, 0, 16, 0, .ro, []⟩
-- CAL_ACC_CLIP (13_clocks_thermal_calibration.md)
def CAL_ACC_CLIP_VALUE : Fld := ⟨0xf80090, 0, 32, 0, .ro, []⟩
-- CAL_ACC_CNT (13_clocks_thermal_calibration.md)
def CAL_ACC_CNT_VALUE : Fld := ⟨0xf80094, 0, 32, 0, .ro, []⟩
-- CAL_APPLY_W0 (13_clocks_thermal_calibration.md)
def CAL_APPLY_W0_TARGET : Fld := ⟨0xf800a0, 28, 4, 0, .rw, []⟩
def CAL_APPLY_W0_CH : Fld := ⟨0xf800a0, 26, 2, 0, .rw, []⟩
def CAL_APPLY_W0_READER : Fld := ⟨0xf800a0, 25, 1, 0, .rw, []⟩
def CAL_APPLY_W0_HEAD : Fld := ⟨0xf800a0, 20, 5, 0, .rw, []⟩
def CAL_APPLY_W0_RZ : Fld := ⟨0xf800a0, 14, 6, 0, .rw, []⟩
def CAL_APPLY_W0_TAP : Fld := ⟨0xf800a0, 8, 6, 0, .rw, []⟩
def CAL_APPLY_W0_SET : Fld := ⟨0xf800a0, 0, 8, 0, .rw, []⟩
-- CAL_APPLY_W1 (13_clocks_thermal_calibration.md)
def CAL_APPLY_W1_RSV10 : Fld := ⟨0xf800a4, 10, 22, 0, .rw, []⟩
def CAL_APPLY_W1_VALUE : Fld := ⟨0xf800a4, 0, 10, 0, .rw, []⟩
-- CAL_APPLY_RESP (13_clocks_thermal_calibration.md)
def CAL_APPLY_RESP_DONE : Fld := ⟨0xf800a8, 31, 1, 0, .ro, []⟩
def CAL_APPLY_RESP_RESULT : Fld := ⟨0xf800a8, 0, 3, 0, .ro, []⟩
-- CAL_HIST (13_clocks_thermal_calibration.md)
def CAL_HIST_COUNT (b : Nat) : Fld := ⟨0xf80100 + 4 * (b % 64), 0, 32, 0, .ro, []⟩
-- CAL_LAST (13_clocks_thermal_calibration.md)
def CAL_LAST_VALID (h i : Nat) : Fld := ⟨0xf81000 + 0x20 * (h % 20) + 4 * (i % 5), 31, 1, 0, .ro, []⟩
def CAL_LAST_FAILS (h i : Nat) : Fld := ⟨0xf81000 + 0x20 * (h % 20) + 4 * (i % 5), 27, 4, 0, .ro, []⟩
def CAL_LAST_LAST_T (h i : Nat) : Fld := ⟨0xf81000 + 0x20 * (h % 20) + 4 * (i % 5), 0, 11, 0, .ro, []⟩

/-! ### ASY -/
-- ASY_CTL (14_assay_patina.md)
def ASY_CTL_EN : Fld := ⟨0x1400000, 31, 1, 0, .rw, []⟩
def ASY_CTL_DUTY : Fld := ⟨0x1400000, 0, 7, 1, .rw, [(0, 0x64)]⟩
-- ASY_CFG (14_assay_patina.md)
def ASY_CFG_IDLE_US : Fld := ⟨0x1400004, 16, 16, 0x3e8, .rw, []⟩
def ASY_CFG_VERIFY_D : Fld := ⟨0x1400004, 8, 8, 0x1e, .rw, []⟩
def ASY_CFG_WINDOW_S : Fld := ⟨0x1400004, 0, 8, 0x3c, .rw, [(1, 0xff)]⟩
-- ASY_STAT (14_assay_patina.md)
def ASY_STAT_STATE : Fld := ⟨0x1400008, 28, 4, 0, .ro, []⟩
def ASY_STAT_SUB_REFUSED : Fld := ⟨0x1400008, 4, 1, 0, .w1c, []⟩
def ASY_STAT_SUB : Fld := ⟨0x1400008, 3, 1, 0, .w1c, []⟩
def ASY_STAT_FAIL : Fld := ⟨0x1400008, 2, 1, 0, .w1c, []⟩
def ASY_STAT_YIELD : Fld := ⟨0x1400008, 1, 1, 0, .w1c, []⟩
def ASY_STAT_PASS : Fld := ⟨0x1400008, 0, 1, 0, .w1c, []⟩
-- ASY_IEN (14_assay_patina.md)
def ASY_IEN_SUB_REFUSED : Fld := ⟨0x140000c, 4, 1, 0, .rw, []⟩
def ASY_IEN_SUB : Fld := ⟨0x140000c, 3, 1, 0, .rw, []⟩
def ASY_IEN_FAIL : Fld := ⟨0x140000c, 2, 1, 0, .rw, []⟩
def ASY_IEN_YIELD : Fld := ⟨0x140000c, 1, 1, 0, .rw, []⟩
def ASY_IEN_PASS : Fld := ⟨0x140000c, 0, 1, 0, .rw, []⟩
-- ASY_SEL (14_assay_patina.md)
def ASY_SEL_TEN : Fld := ⟨0x1400010, 0, 9, 0x1ff, .rw, []⟩
-- ASY_LAST (14_assay_patina.md)
def ASY_LAST_TEST : Fld := ⟨0x1400014, 28, 4, 0, .ro, []⟩
def ASY_LAST_RESULT : Fld := ⟨0x1400014, 24, 4, 0, .ro, []⟩
def ASY_LAST_UNIT : Fld := ⟨0x1400014, 16, 8, 0, .ro, []⟩
def ASY_LAST_DETAIL : Fld := ⟨0x1400014, 0, 16, 0, .ro, []⟩
-- ASY_USED (14_assay_patina.md)
def ASY_USED_US : Fld := ⟨0x1400018, 0, 32, 0, .ro, []⟩
-- ASY_YIELD (14_assay_patina.md)
def ASY_YIELD_WORST : Fld := ⟨0x140001c, 16, 16, 0, .rc, []⟩
def ASY_YIELD_LAST : Fld := ⟨0x140001c, 0, 16, 0, .ro, []⟩
-- ASY_CHSUB (14_assay_patina.md)
def ASY_CHSUB_SUB : Fld := ⟨0x1400020, 0, 2, 0, .rw, []⟩

/-! ### PAT -/
-- PAT_CTL (14_assay_patina.md)
def PAT_CTL_EN : Fld := ⟨0x1480000, 31, 1, 0, .rw, []⟩
def PAT_CTL_VAULT_EN : Fld := ⟨0x1480000, 30, 1, 0, .rw, []⟩
-- PAT_STAT (14_assay_patina.md)
def PAT_STAT_NEWEST : Fld := ⟨0x1480004, 16, 12, 0, .ro, []⟩
def PAT_STAT_UNSAVED : Fld := ⟨0x1480004, 4, 12, 0, .ro, []⟩
def PAT_STAT_LOST : Fld := ⟨0x1480004, 3, 1, 0, .w1c, []⟩
def PAT_STAT_VAULT_ERR : Fld := ⟨0x1480004, 2, 1, 0, .w1c, []⟩
def PAT_STAT_COPIED : Fld := ⟨0x1480004, 1, 1, 0, .w1c, []⟩
def PAT_STAT_REC : Fld := ⟨0x1480004, 0, 1, 0, .w1c, []⟩
-- PAT_IEN (14_assay_patina.md)
def PAT_IEN_LOST : Fld := ⟨0x1480008, 3, 1, 0, .rw, []⟩
def PAT_IEN_VAULT_ERR : Fld := ⟨0x1480008, 2, 1, 0, .rw, []⟩
def PAT_IEN_COPIED : Fld := ⟨0x1480008, 1, 1, 0, .rw, []⟩
def PAT_IEN_REC : Fld := ⟨0x1480008, 0, 1, 0, .rw, []⟩
-- PAT_TEN (14_assay_patina.md)
def PAT_TEN_EN (j : Nat) : Fld := ⟨0x148000c + 4 * (j % 2), 0, 32, 0xffffffff, .rw, []⟩
-- PAT_OPSEC_LO (14_assay_patina.md)
def PAT_OPSEC_LO_SEC : Fld := ⟨0x1480014, 0, 32, 0, .rw, []⟩
-- PAT_OPSEC_HI (14_assay_patina.md)
def PAT_OPSEC_HI_SEC : Fld := ⟨0x1480018, 0, 8, 0, .rw, []⟩
-- PAT_PCC (14_assay_patina.md)
def PAT_PCC_PCC : Fld := ⟨0x148001c, 0, 24, 0, .rw, []⟩
-- PAT_SW (14_assay_patina.md)
def PAT_SW_GO : Fld := ⟨0x1480020, 31, 1, 0, .w1s, []⟩
def PAT_SW_DETAIL : Fld := ⟨0x1480020, 0, 24, 0, .rw, []⟩
-- PAT_LOST (14_assay_patina.md)
def PAT_LOST_COUNT : Fld := ⟨0x1480024, 0, 16, 0, .rc, []⟩
-- PAT_TSET (14_assay_patina.md)
def PAT_TSET_SET (j : Nat) : Fld := ⟨0x1480040 + 4 * (j % 8), 0, 32, 0x88888888, .rw, []⟩
-- PAT_SET (14_assay_patina.md)
def PAT_SET_VALID (s k : Nat) : Fld := ⟨0x1480100 + 0x40 * (s % 8) + 4 * (k % 16), 31, 1, 0, .rw, []⟩
def PAT_SET_WORD (s k : Nat) : Fld := ⟨0x1480100 + 0x40 * (s % 8) + 4 * (k % 16), 0, 23, 0, .rw, []⟩

/-! ### SLD -/
-- SLD_CTL (15_solder_fabric.md)
def SLD_CTL_EN : Fld := ⟨0x1500000, 31, 1, 0, .rw, []⟩
-- SLD_TOPO (15_solder_fabric.md)
def SLD_TOPO_XDIM_M1 : Fld := ⟨0x1500004, 24, 5, 0, .rw, []⟩
def SLD_TOPO_YDIM_M1 : Fld := ⟨0x1500004, 20, 4, 0, .rw, []⟩
def SLD_TOPO_NODE : Fld := ⟨0x1500004, 0, 9, 0, .rw, []⟩
-- SLD_CFG (15_solder_fabric.md)
def SLD_CFG_PERMIT_MA : Fld := ⟨0x1500008, 24, 8, 0x1e, .rw, []⟩
def SLD_CFG_PIECE_MS : Fld := ⟨0x1500008, 16, 8, 0xa, .rw, []⟩
def SLD_CFG_COPY_MS : Fld := ⟨0x1500008, 0, 16, 0x2710, .rw, []⟩
-- SLD_STAT (15_solder_fabric.md)
def SLD_STAT_PERMIT_WAIT : Fld := ⟨0x150000c, 6, 1, 0, .w1c, []⟩
def SLD_STAT_MB_DENIED : Fld := ⟨0x150000c, 5, 1, 0, .w1c, []⟩
def SLD_STAT_RXQ : Fld := ⟨0x150000c, 4, 1, 0, .w1c, []⟩
def SLD_STAT_COPY_DONE : Fld := ⟨0x150000c, 3, 1, 0, .w1c, []⟩
def SLD_STAT_MISWIRE : Fld := ⟨0x150000c, 2, 1, 0, .w1c, []⟩
def SLD_STAT_LINK_DOWN : Fld := ⟨0x150000c, 1, 1, 0, .w1c, []⟩
def SLD_STAT_LINK_UP : Fld := ⟨0x150000c, 0, 1, 0, .w1c, []⟩
-- SLD_IEN (15_solder_fabric.md)
def SLD_IEN_PERMIT_WAIT : Fld := ⟨0x1500010, 6, 1, 0, .rw, []⟩
def SLD_IEN_MB_DENIED : Fld := ⟨0x1500010, 5, 1, 0, .rw, []⟩
def SLD_IEN_RXQ : Fld := ⟨0x1500010, 4, 1, 0, .rw, []⟩
def SLD_IEN_COPY_DONE : Fld := ⟨0x1500010, 3, 1, 0, .rw, []⟩
def SLD_IEN_MISWIRE : Fld := ⟨0x1500010, 2, 1, 0, .rw, []⟩
def SLD_IEN_LINK_DOWN : Fld := ⟨0x1500010, 1, 1, 0, .rw, []⟩
def SLD_IEN_LINK_UP : Fld := ⟨0x1500010, 0, 1, 0, .rw, []⟩
-- SLD_MB_CFG (15_solder_fabric.md)
def SLD_MB_CFG_RD_EN : Fld := ⟨0x1500014, 31, 1, 0, .rwl, []⟩
def SLD_MB_CFG_WR_EN : Fld := ⟨0x1500014, 30, 1, 0, .rwl, []⟩
def SLD_MB_CFG_TO_US : Fld := ⟨0x1500014, 0, 16, 0x64, .rw, []⟩
-- SLD_MB_WMASK (15_solder_fabric.md)
def SLD_MB_WMASK_MWE : Fld := ⟨0x1500018, 0, 24, 0, .rwl, []⟩
-- SLD_MB_W (15_solder_fabric.md)
def SLD_MB_W (w : Nat) : Fld := ⟨0x1500020 + 4 * (w % 3), 0, 32, 0, .rw, []⟩
-- SLD_MB_RESP (15_solder_fabric.md)
def SLD_MB_RESP_DONE : Fld := ⟨0x150002c, 31, 1, 0, .ro, []⟩
def SLD_MB_RESP_STATUS : Fld := ⟨0x150002c, 0, 3, 0, .ro, []⟩
-- SLD_MB_RDATA (15_solder_fabric.md)
def SLD_MB_RDATA_DATA : Fld := ⟨0x1500030, 0, 32, 0, .ro, []⟩
-- SLD_MSG_W (15_solder_fabric.md)
def SLD_MSG_W (w : Nat) : Fld := ⟨0x1500040 + 4 * (w % 3), 0, 32, 0, .rw, []⟩
-- SLD_MSG_RESP (15_solder_fabric.md)
def SLD_MSG_RESP_DONE : Fld := ⟨0x150004c, 31, 1, 0, .ro, []⟩
def SLD_MSG_RESP_RESULT : Fld := ⟨0x150004c, 0, 2, 0, .ro, []⟩
-- SLD_RXQ_W (15_solder_fabric.md)
def SLD_RXQ_W (w : Nat) : Fld := ⟨0x1500050 + 4 * (w % 3), 0, 32, 0, .ro, []⟩
-- SLD_RXQ_POP (15_solder_fabric.md)
def SLD_RXQ_POP_POP : Fld := ⟨0x150005c, 0, 1, 0, .w1s, []⟩
-- SLD_CP_W (15_solder_fabric.md)
def SLD_CP_W (w : Nat) : Fld := ⟨0x1500060 + 4 * (w % 4), 0, 32, 0, .rw, []⟩
-- SLD_CP_RESP (15_solder_fabric.md)
def SLD_CP_RESP_DONE : Fld := ⟨0x1500070, 31, 1, 0, .ro, []⟩
def SLD_CP_RESP_COPY_ID : Fld := ⟨0x1500070, 8, 8, 0, .ro, []⟩
def SLD_CP_RESP_RESULT : Fld := ⟨0x1500070, 0, 3, 0, .ro, []⟩
-- SLD_CP_CQ_W0 (15_solder_fabric.md)
def SLD_CP_CQ_W0_VALID : Fld := ⟨0x1500074, 31, 1, 0, .ro, []⟩
def SLD_CP_CQ_W0_STATUS : Fld := ⟨0x1500074, 24, 4, 0, .ro, []⟩
def SLD_CP_CQ_W0_TAG : Fld := ⟨0x1500074, 0, 24, 0, .ro, []⟩
-- SLD_CP_CQ_POP (15_solder_fabric.md)
def SLD_CP_CQ_POP_POP : Fld := ⟨0x1500078, 0, 1, 0, .w1s, []⟩
-- SLD_UNREACH (15_solder_fabric.md)
def SLD_UNREACH_COUNT : Fld := ⟨0x150007c, 0, 32, 0, .rc, []⟩
-- SLD_P_CTL (15_solder_fabric.md)
def SLD_P_CTL_EN (p : Nat) : Fld := ⟨0x1500100 + 0x40 * (p % 4), 31, 1, 1, .rw, []⟩
def SLD_P_CTL_PRBS (p : Nat) : Fld := ⟨0x1500100 + 0x40 * (p % 4), 30, 1, 0, .rw, []⟩
-- SLD_P_STAT (15_solder_fabric.md)
def SLD_P_STAT_STATE (p : Nat) : Fld := ⟨0x1500104 + 0x40 * (p % 4), 29, 3, 0, .ro, []⟩
def SLD_P_STAT_PEER_PORT (p : Nat) : Fld := ⟨0x1500104 + 0x40 * (p % 4), 9, 2, 0, .ro, []⟩
def SLD_P_STAT_PEER_NODE (p : Nat) : Fld := ⟨0x1500104 + 0x40 * (p % 4), 0, 9, 0, .ro, []⟩
-- SLD_P_FEC_CORR (15_solder_fabric.md)
def SLD_P_FEC_CORR_COUNT (p : Nat) : Fld := ⟨0x1500108 + 0x40 * (p % 4), 0, 32, 0, .rc, []⟩
-- SLD_P_FEC_UNC (15_solder_fabric.md)
def SLD_P_FEC_UNC_COUNT (p : Nat) : Fld := ⟨0x150010c + 0x40 * (p % 4), 0, 32, 0, .rc, []⟩
-- SLD_P_REPLAY (15_solder_fabric.md)
def SLD_P_REPLAY_COUNT (p : Nat) : Fld := ⟨0x1500110 + 0x40 * (p % 4), 0, 32, 0, .rc, []⟩
-- SLD_P_ERR (15_solder_fabric.md)
def SLD_P_ERR_COUNT (p : Nat) : Fld := ⟨0x1500114 + 0x40 * (p % 4), 0, 32, 0, .rc, []⟩
-- SLD_P_PRBS_ERR (15_solder_fabric.md)
def SLD_P_PRBS_ERR_COUNT (p : Nat) : Fld := ⟨0x1500118 + 0x40 * (p % 4), 0, 32, 0, .rc, []⟩

/-! ### SEC -/
-- SEC_LOCK (16_security.md)
def SEC_LOCK_LOCK : Fld := ⟨0x1600000, 0, 1, 0, .w1s, []⟩
-- SEC_STAT (16_security.md)
def SEC_STAT_SLOT : Fld := ⟨0x1600004, 30, 2, 0, .ro, []⟩
def SEC_STAT_KEY_IDX : Fld := ⟨0x1600004, 28, 2, 0, .ro, []⟩
def SEC_STAT_DBG_UNLOCKED : Fld := ⟨0x1600004, 27, 1, 0, .ro, []⟩
def SEC_STAT_DBG_FUSED : Fld := ⟨0x1600004, 26, 1, 0, .ro, []⟩
def SEC_STAT_RBCNT : Fld := ⟨0x1600004, 16, 7, 0, .ro, []⟩
def SEC_STAT_SIG_FAIL : Fld := ⟨0x1600004, 3, 1, 0, .w1c, []⟩
def SEC_STAT_RB_ADV : Fld := ⟨0x1600004, 2, 1, 0, .w1c, []⟩
def SEC_STAT_KEY_DONE : Fld := ⟨0x1600004, 1, 1, 0, .w1c, []⟩
def SEC_STAT_ATT_DONE : Fld := ⟨0x1600004, 0, 1, 0, .w1c, []⟩
-- SEC_BOOT (16_security.md)
def SEC_BOOT_TRIAL : Fld := ⟨0x1600008, 2, 1, 0, .ro, []⟩
def SEC_BOOT_SKIP : Fld := ⟨0x1600008, 0, 2, 0, .rw, []⟩
-- SEC_KEYREV (16_security.md)
def SEC_KEYREV_REVOKED : Fld := ⟨0x160000c, 0, 4, 0, .ro, []⟩
-- SEC_FUSE_CMD (16_security.md)
def SEC_FUSE_CMD_GO : Fld := ⟨0x1600010, 31, 1, 0, .w1s, []⟩
def SEC_FUSE_CMD_RESULT : Fld := ⟨0x1600010, 28, 3, 0, .ro, []⟩
def SEC_FUSE_CMD_OP : Fld := ⟨0x1600010, 24, 4, 0, .rw, []⟩
def SEC_FUSE_CMD_VALUE : Fld := ⟨0x1600010, 0, 7, 0, .rw, []⟩
-- SEC_VFY_ADDR (16_security.md)
def SEC_VFY_ADDR_ADDR : Fld := ⟨0x1600020, 0, 28, 0, .rw, []⟩
-- SEC_VFY_CTL (16_security.md)
def SEC_VFY_CTL_GO : Fld := ⟨0x1600024, 31, 1, 0, .w1s, []⟩
def SEC_VFY_CTL_RESULT : Fld := ⟨0x1600024, 28, 3, 0, .ro, []⟩
def SEC_VFY_CTL_SVN : Fld := ⟨0x1600024, 16, 8, 0, .ro, []⟩
-- SEC_ATT_ADDR (16_security.md)
def SEC_ATT_ADDR_ADDR : Fld := ⟨0x1600030, 0, 28, 0, .rw, []⟩
-- SEC_ATT_CTL (16_security.md)
def SEC_ATT_CTL_GO : Fld := ⟨0x1600034, 31, 1, 0, .w1s, []⟩
def SEC_ATT_CTL_BUSY : Fld := ⟨0x1600034, 30, 1, 0, .ro, []⟩
-- SEC_KEY_CMD (16_security.md)
def SEC_KEY_CMD_GO : Fld := ⟨0x1600040, 31, 1, 0, .w1s, []⟩
def SEC_KEY_CMD_RESULT : Fld := ⟨0x1600040, 28, 3, 0, .ro, []⟩
def SEC_KEY_CMD_OP : Fld := ⟨0x1600040, 24, 4, 0, .rw, []⟩
def SEC_KEY_CMD_NS : Fld := ⟨0x1600040, 0, 4, 0, .rw, []⟩
-- SEC_KEYSTORE (16_security.md)
def SEC_KEYSTORE_BLOCK1 : Fld := ⟨0x1600044, 16, 12, 0, .rwl, []⟩
def SEC_KEYSTORE_BLOCK0 : Fld := ⟨0x1600044, 0, 12, 0, .rwl, []⟩
-- SEC_NSKEY (16_security.md)
def SEC_NSKEY_ENC (m : Nat) : Fld := ⟨0x1600050 + 4 * (m % 4), 31, 1, 0, .ro, []⟩
def SEC_NSKEY_LOADED (m : Nat) : Fld := ⟨0x1600050 + 4 * (m % 4), 30, 1, 0, .ro, []⟩
def SEC_NSKEY_GEN (m : Nat) : Fld := ⟨0x1600050 + 4 * (m % 4), 0, 16, 0, .ro, []⟩
-- SEC_DBG_CTL (16_security.md)
def SEC_DBG_CTL_GO : Fld := ⟨0x1600060, 31, 1, 0, .w1s, []⟩
def SEC_DBG_CTL_RESULT : Fld := ⟨0x1600060, 28, 3, 0, .ro, []⟩
def SEC_DBG_CTL_ADDR : Fld := ⟨0x1600060, 0, 28, 0, .rw, []⟩
-- SEC_DBG_CHAL (16_security.md)
def SEC_DBG_CHAL_NONCE (k : Nat) : Fld := ⟨0x1600070 + 4 * (k % 8), 0, 32, 0, .ro, []⟩

/-! ### RST -/
-- RST_CAUSE (17_reset_persistence.md)
def RST_CAUSE_LAST : Fld := ⟨0x1680000, 28, 4, 0, .ro, []⟩
def RST_CAUSE_SAVE_RAN : Fld := ⟨0x1680000, 8, 1, 0, .w1c, []⟩
def RST_CAUSE_SEEN : Fld := ⟨0x1680000, 0, 6, 1, .w1c, []⟩
-- RST_CTL (17_reset_persistence.md)
def RST_CTL_FATAL : Fld := ⟨0x1680004, 31, 1, 0, .w1s, []⟩
def RST_CTL_FLT_REL : Fld := ⟨0x1680004, 30, 1, 0, .w1s, []⟩
def RST_CTL_CORE_REL : Fld := ⟨0x1680004, 1, 3, 0, .rw, []⟩
-- RST_WDT (17_reset_persistence.md)
def RST_WDT_EN : Fld := ⟨0x1680008, 31, 1, 1, .rwl, []⟩
def RST_WDT_PERIOD_MS : Fld := ⟨0x1680008, 0, 16, 0x1388, .rwl, [(1, 0xffff)]⟩
-- RST_WDT_KICK (17_reset_persistence.md)
def RST_WDT_KICK_KICK : Fld := ⟨0x168000c, 0, 1, 0, .w1s, []⟩
-- RST_WDT_LEFT (17_reset_persistence.md)
def RST_WDT_LEFT_MS : Fld := ⟨0x1680010, 0, 16, 0x1388, .ro, []⟩
-- RST_DEVCNT (17_reset_persistence.md)
def RST_DEVCNT_WDT : Fld := ⟨0x1680014, 16, 16, 0, .ro, []⟩
def RST_DEVCNT_DEV : Fld := ⟨0x1680014, 0, 16, 0, .ro, []⟩
-- RST_PORT (17_reset_persistence.md)
def RST_PORT_PERST : Fld := ⟨0x1680018, 16, 2, 0, .ro, []⟩
def RST_PORT_CNT1 : Fld := ⟨0x1680018, 8, 8, 0, .rc, []⟩
def RST_PORT_CNT0 : Fld := ⟨0x1680018, 0, 8, 0, .rc, []⟩

end Sys2Proof.Machine
end

