-- ==== Sys2Proof/Machine/RegMap.lean ====
section
/-!
DEFINITION. The register map of the control space (R24): every register of every block with its place, its array
dimensions, whether it is banked by requester, and its fields.
-/
namespace Sys2Proof.Machine

/-- The registers of the control space, by the name the manual gives them (array indices apart). -/
inductive RegName where
  | SYS_ID | SYS_STRAP | SYS_HOST_WMASK | SYS_ERR | SYS_ERR_ADDR | INV_CFG | INV_PREF | INV_SRC | INV_LOCK
  | INV_NOW_LO | INV_NOW_HI | INV_PERIOD | INV_ELEC_OFS | INV_ELEC_NOW | INV_STAT | INV_IEN | INV_WALL_LO
  | INV_WALL_HI | INV_WTMR_STAT | INV_WTMR | INV_SKEW | INV_SKEW_MEAS | INV_RING_W | INV_RING_RESP | INV_RING_STAT
  | INV_RING_CANCEL | INV_QUIET | QCH_CTL | QCH_EN | QCH_STAT | QCH_CAUSE | QCH_REL | QCH_HOLD | QCH_PES_LIM
  | QCH_SHOCK | QCH_LAT | QCH_TEST | QCH_RW_STAT | QCH_RWREC_LO | QCH_RWREC_HI | QCH_RW_POP | SPN_CTL | SPN_SPEED
  | SPN_MOTOR | SPN_DRIVE | SPN_ILIM | SPN_HU_CFG | SPN_STAT | SPN_IEN | SPN_SPEED_MEAS | SPN_KE | SPN_J | SPN_HOLDUP
  | SPN_LAST_START | SPN_MEAS | SRV_CFG | SRV_WIN | SRV_TWIN | SRV_HSEL | SRV_TGT | SRV_POS | SRV_PES | SRV_STAT
  | SRV_IEN | SRV_SEEK | SRV_SEEK_TIME | SRV_COEF_CTL | SRV_TWIN_OFS | SRV_PA_CFG | SRV_PA_MAP | SRV_PA_CMD
  | SRV_PA_RESP | SRV_PA_FAULT | SRV_PA_MAP_ID | SRV_SHOCK | SRV_SHOCK_NOW | SRV_PROF_W0 | SRV_PROF_W1 | SRV_COEF
  | SRV_HEAD_CFG | SRV_HEAD_LIM | SRV_LIN | ACT_CTL | ACT_STAT | ACT_VCM | ACT_LOAD | ACT_RETRACT | ACT_MA | ACT_MEAS
  | ACT_MA_OUT | WCH_CTL | WCH_STAT | WCH_IEN | WCH_FQ_W | WCH_FQ_RESP | WCH_CQ | WCH_CQ_POP | WCH_TP_CTL
  | WCH_TP_ADDR | WCH_TP_MASK_LO | WCH_TP_MASK_HI | WCH_RZ_W0 | WCH_RZ_W1 | WCH_RZ_W2 | WCH_RZ_W3 | RCH_CTL
  | RCH_STAT | RCH_IEN | RCH_FQ_W | RCH_FQ_RESP | RCH_CQ_W0 | RCH_CQ_W1 | RCH_CQ_W2 | RCH_CQ_POP | RCH_SEL | RCH_SYNC
  | RCH_FRAME_OFS | RCH_ACT_W0 | RCH_ACT_W1 | RCH_ACT_W2 | RCH_AGC | RCH_SB_STAT | RCH_SB_PIN_LO | RCH_SB_PIN_HI
  | RCH_SB_PINCTL | RCH_TP_CTL | RCH_TP_ADDR | RCH_TP_MASK_LO | RCH_TP_MASK_HI | RCH_DEC_STAT | RCH_DEC_CNT
  | RCH_DEC_ITER | RCH_DEC_MAP | RCH_XBAR | RCH_DEEP_CFG | RCH_LADDER | RCH_STOP | RCH_DJ_W0 | RCH_DJ_W1
  | RCH_DJ_RESP | RCH_DJ_CQ_W0 | RCH_DJ_CQ_W1 | RCH_DJ_CQ_POP | RCH_GSTAT | RCH_SB_WIN | RCH_HZ_W0 | RCH_HZ_W1
  | RCH_HZ_W2 | RCH_EQ | TPR_CTL | TPR_STAT | TPR_LIM | TPR_PA_MAP0 | TPR_PA_MAP1 | TPR_SEL | TPR_HZ_W0 | TPR_HZ_W1
  | XLT_CFG | XLT_STAT | XLT_IEN | XLT_MAP_BASE | XLT_ZCFG | XLT_JSEQ | XLT_JRN_PERS | XLT_FAULT | XLT_NS_BASE
  | XLT_NS_CFG | XLT_LK_W | XLT_LK_RESP | XLT_LK_CQ_W0 | XLT_LK_CQ_W1 | XLT_LK_CQ_POP | XLT_UPD_ADDR | XLT_UPD_RESP
  | XLT_WALK_CNT | XLT_FAULT_CHUNK | XLT_POLICY | XCC_CTL | XCC_STAT | XCC_INV_LO | XCC_INV_HI | XCC_LOCK
  | XCC_LOCK_LOST_CNT | XCC_CRC_CNT | XCC_HITS | XCC_MISSES | XCC_VHITS | XCC_LOCKED | CMP_CTL | CMP_CFG | CMP_POLICY
  | CMP_STAT | CMP_IEN | CMP_ENG_STAT | CMP_JQ_W | CMP_JQ_RESP | CMP_CQ_W0 | CMP_CQ_W1 | CMP_CQ_W2 | CMP_CQ_W3
  | CMP_CQ_POP | CMP_ENG_IN | CMP_ENG_OUT | HIF_CTL | HIF_STAT | HIF_IEN | HIF_POLL | HIF_OUTST | HIF_ACT | HIF_PORT
  | HIF_C_STAT | HIF_C_FROZEN | HIF_C_STRICT | RLT_CTL | RLT_STAT | RLT_HWM | RLT_STALLS | RLT_FULLS | BUF_CTL
  | BUF_STAT | BUF_IEN | BUF_POOL_BASE | BUF_POOL_UNITS | BUF_CAP_CFG | BUF_SAVE_CFG | BUF_DIRTY | BUF_CAP
  | BUF_SEG_W | BUF_SEG_RESP | BUF_JRN_RING | BUF_JRN_TAIL | BUF_JRN_HEAD | BUF_DMA_DONE | BUF_CR | BUF_DMA_SRC
  | BUF_DMA_DST | BUF_DMA_LEN | BUF_DMA_CTL | MEM_CTL | MEM_STAT | MEM_IEN | MEM_ERR | MEM_ERR_ADDR | MEM_CE_CNT
  | MEM_UE_CNT | MEM_REPAIR | MEM_RETIRE | MEM_REMAP | VLT_CTL | VLT_STAT | VLT_IEN | VLT_REGION | VLT_CMD_W
  | VLT_RESP | VLT_CQ_W0 | VLT_CQ_W1 | VLT_CQ_POP | VLT_SAVE | VLT_SAVE_MAP | ENG_CTL | ENG_CFG | ENG_STAT | ENG_IEN
  | ENG_MIG | ENG_MIG_STAT | ENG_MAP | ENG_SE_STAT | ENG_SE_CTL | ENG_SE_FAULT | ENG_ROLE_IMG | ENG_ROLE_CTL
  | ENG_ROLE_IPEND | ENG_ROLE_IEN | ENG_ROLE_DB | ENG_CTX_G | BUL_CTL | BUL_BUDGET | BUL_PS1 | BUL_STAND | BUL_ASSIST
  | BUL_OC | BUL_USE | BUL_CHARGE | BUL_STAT | BUL_IEN | BUL_LEASE_CFG | BUL_LEASE_TOT | BUL_RQ_W0 | BUL_RQ_W1
  | BUL_RQ_RESP | BUL_SLOT_W0 | BUL_SLOT_W1 | BUL_LEASE_W0 | BUL_LEASE_W1 | PWR_CTL | PWR_STATE | PWR_REQ | PWR_STAT
  | PWR_IEN | PWR_REFUSE | PWR_WAKE_SRC | PWR_MON | PWR_VMEAS | PWR_HU | PWR_STEP_TO | PWR_DIPS | CLK_CTL
  | CLK_SRC_STAT | CLK_STAT | CLK_IEN | CLK_MUX | CLK_FORCE | CLK_PLL | CLK_CHSYN | CLK_GATE_FORCE | CLK_GATE_STAT
  | CLK_TO_INFO | THM_CTL | THM_LIM | THM_RISE | THM_STAT | THM_IEN | THM_TMAX | THM_RISE_NOW | THM_SENS | CAL_CTL
  | CAL_STAT | CAL_IEN | CAL_ITEM | CAL_HELD | CAL_LIM | CAL_DONE | CAL_ACC_CTL | CAL_ACC_SUM | CAL_ACC_SQ
  | CAL_ACC_PEAK | CAL_ACC_CLIP | CAL_ACC_CNT | CAL_APPLY_W0 | CAL_APPLY_W1 | CAL_APPLY_RESP | CAL_HIST | CAL_LAST
  | ASY_CTL | ASY_CFG | ASY_STAT | ASY_IEN | ASY_SEL | ASY_LAST | ASY_USED | ASY_YIELD | ASY_CHSUB | PAT_CTL
  | PAT_STAT | PAT_IEN | PAT_TEN | PAT_OPSEC_LO | PAT_OPSEC_HI | PAT_PCC | PAT_SW | PAT_LOST | PAT_TSET | PAT_SET
  | SLD_CTL | SLD_TOPO | SLD_CFG | SLD_STAT | SLD_IEN | SLD_MB_CFG | SLD_MB_WMASK | SLD_MB_W | SLD_MB_RESP
  | SLD_MB_RDATA | SLD_MSG_W | SLD_MSG_RESP | SLD_RXQ_W | SLD_RXQ_POP | SLD_CP_W | SLD_CP_RESP | SLD_CP_CQ_W0
  | SLD_CP_CQ_POP | SLD_UNREACH | SLD_P_CTL | SLD_P_STAT | SLD_P_FEC_CORR | SLD_P_FEC_UNC | SLD_P_REPLAY | SLD_P_ERR
  | SLD_P_PRBS_ERR | SEC_LOCK | SEC_STAT | SEC_BOOT | SEC_KEYREV | SEC_FUSE_CMD | SEC_VFY_ADDR | SEC_VFY_CTL
  | SEC_ATT_ADDR | SEC_ATT_CTL | SEC_KEY_CMD | SEC_KEYSTORE | SEC_NSKEY | SEC_DBG_CTL | SEC_DBG_CHAL | RST_CAUSE
  | RST_CTL | RST_WDT | RST_WDT_KICK | RST_WDT_LEFT | RST_DEVCNT | RST_PORT
  deriving DecidableEq, Repr

/-- One register of the map: its first BAR2 offset, its dimensions as (stride, count) pairs, whether each requester has
its own copy, and its fields by its indices. -/
structure RegDef where
  name : RegName
  base : Nat
  dims : List (Nat × Nat)
  banked : Bool
  fields : Nat → Nat → Nat → List Fld

def regsSYS : List RegDef := [
  ⟨.SYS_ID, 0, [], false, fun _ _ _ => [SYS_ID_PART, SYS_ID_MAIN_REV, SYS_ID_PWR_REV]⟩,
  ⟨.SYS_STRAP, 4, [], false, fun _ _ _ => [SYS_STRAP_X2_ACTIVE, SYS_STRAP_DUALPORTEN, SYS_STRAP_BOOT_SRC, SYS_STRAP_FABRIC_EN, SYS_STRAP_ASSIST, SYS_STRAP_PORT_MODE]⟩,
  ⟨.SYS_HOST_WMASK, 8, [], false, fun _ _ _ => [SYS_HOST_WMASK_HWE]⟩,
  ⟨.SYS_ERR, 0xc, [], false, fun _ _ _ => [SYS_ERR_HOST_DENIED, SYS_ERR_BLK_DOWN, SYS_ERR_UNMAPPED]⟩,
  ⟨.SYS_ERR_ADDR, 0x10, [], false, fun _ _ _ => [SYS_ERR_ADDR_SRC, SYS_ERR_ADDR_WR, SYS_ERR_ADDR_ADDR]⟩]

def regsINV : List RegDef := [
  ⟨.INV_CFG, 0x100000, [], false, fun _ _ _ => [INV_CFG_EN, INV_CFG_WEDGES, INV_CFG_JUMP_TOL, INV_CFG_WR_TOL]⟩,
  ⟨.INV_PREF, 0x100004, [], false, fun _ _ _ => [INV_PREF_AGREE_TOL, INV_PREF_PREF_B, INV_PREF_PREF_A]⟩,
  ⟨.INV_SRC, 0x100008, [], false, fun _ _ _ => [INV_SRC_VALID, INV_SRC_ALIGNED, INV_SRC_SRC, INV_SRC_PRI_SURF, INV_SRC_HOLD_LEFT]⟩,
  ⟨.INV_LOCK, 0x10000c, [], false, fun _ _ _ => [INV_LOCK_LOCKED]⟩,
  ⟨.INV_NOW_LO, 0x100010, [], false, fun _ _ _ => [INV_NOW_LO_STAMP]⟩,
  ⟨.INV_NOW_HI, 0x100014, [], false, fun _ _ _ => [INV_NOW_HI_STAMP]⟩,
  ⟨.INV_PERIOD, 0x100018, [], false, fun _ _ _ => [INV_PERIOD_PERIOD]⟩,
  ⟨.INV_ELEC_OFS, 0x10001c, [], false, fun _ _ _ => [INV_ELEC_OFS_OFS]⟩,
  ⟨.INV_ELEC_NOW, 0x100020, [], false, fun _ _ _ => [INV_ELEC_NOW_ANGLE]⟩,
  ⟨.INV_STAT, 0x100024, [], false, fun _ _ _ => [INV_STAT_FLUSH, INV_STAT_QUIET_CONFLICT, INV_STAT_FULL, INV_STAT_DROP, INV_STAT_LATE, INV_STAT_STEP, INV_STAT_DISAGREE, INV_STAT_SRC_CHG, INV_STAT_SKEW_NEW]⟩,
  ⟨.INV_IEN, 0x100028, [], false, fun _ _ _ => [INV_IEN_FLUSH, INV_IEN_QUIET_CONFLICT, INV_IEN_FULL, INV_IEN_DROP, INV_IEN_LATE, INV_IEN_STEP, INV_IEN_DISAGREE, INV_IEN_SRC_CHG, INV_IEN_SKEW_NEW]⟩,
  ⟨.INV_WALL_LO, 0x100040, [], false, fun _ _ _ => [INV_WALL_LO_NS]⟩,
  ⟨.INV_WALL_HI, 0x100044, [], false, fun _ _ _ => [INV_WALL_HI_NS]⟩,
  ⟨.INV_WTMR_STAT, 0x100048, [], false, fun _ _ _ => [INV_WTMR_STAT_WALL_DEGRADED, INV_WTMR_STAT_FIRED]⟩,
  ⟨.INV_WTMR, 0x100060, [(4, 8)], false, fun n _ _ => [INV_WTMR_ARM n, INV_WTMR_PERIODIC n, INV_WTMR_INTERVAL n]⟩,
  ⟨.INV_SKEW, 0x100100, [(4, 32)], false, fun s _ _ => [INV_SKEW_VALUE s]⟩,
  ⟨.INV_SKEW_MEAS, 0x100180, [(4, 32)], false, fun s _ _ => [INV_SKEW_MEAS_NEW s, INV_SKEW_MEAS_VALUE s]⟩,
  ⟨.INV_RING_W, 0x101000, [(0x100, 2), (4, 4)], true, fun a w _ => [INV_RING_W a w]⟩,
  ⟨.INV_RING_RESP, 0x101010, [(0x100, 2)], true, fun a _ _ => [INV_RING_RESP_DONE a, INV_RING_RESP_RESULT a]⟩,
  ⟨.INV_RING_STAT, 0x101014, [(0x100, 2)], false, fun a _ _ => [INV_RING_STAT_COUNT a, INV_RING_STAT_HWM a]⟩,
  ⟨.INV_RING_CANCEL, 0x101018, [(0x100, 2)], false, fun a _ _ => [INV_RING_CANCEL_TAG a]⟩,
  ⟨.INV_QUIET, 0x10101c, [(0x100, 2)], false, fun a _ _ => [INV_QUIET_OPEN a]⟩]

def regsQCH : List RegDef := [
  ⟨.QCH_CTL, 0x180000, [], false, fun _ _ _ => [QCH_CTL_SWREQ, QCH_CTL_HOLD]⟩,
  ⟨.QCH_EN, 0x180004, [], false, fun _ _ _ => [QCH_EN_EN]⟩,
  ⟨.QCH_STAT, 0x180008, [], false, fun _ _ _ => [QCH_STAT_REL_REFUSED, QCH_STAT_CH_HELD]⟩,
  ⟨.QCH_CAUSE, 0x18000c, [(4, 2)], false, fun a _ _ => [QCH_CAUSE_CAUSE a]⟩,
  ⟨.QCH_REL, 0x180014, [], false, fun _ _ _ => [QCH_REL_REL]⟩,
  ⟨.QCH_HOLD, 0x180018, [], false, fun _ _ _ => [QCH_HOLD_SHOCK_HOLD, QCH_HOLD_PES_HOLD, QCH_HOLD_MISS_HOLD]⟩,
  ⟨.QCH_PES_LIM, 0x18001c, [], false, fun _ _ _ => [QCH_PES_LIM_LIM_B, QCH_PES_LIM_LIM_A]⟩,
  ⟨.QCH_SHOCK, 0x180020, [], false, fun _ _ _ => [QCH_SHOCK_ROT_TH, QCH_SHOCK_LIN_TH]⟩,
  ⟨.QCH_LAT, 0x180024, [], false, fun _ _ _ => [QCH_LAT_NS]⟩,
  ⟨.QCH_TEST, 0x180028, [], false, fun _ _ _ => [QCH_TEST_PULSE, QCH_TEST_OUT_HOLD]⟩,
  ⟨.QCH_RW_STAT, 0x180040, [(0x10, 4)], false, fun n _ _ => [QCH_RW_STAT_OVF n, QCH_RW_STAT_COUNT n]⟩,
  ⟨.QCH_RWREC_LO, 0x180044, [(0x10, 4)], false, fun n _ _ => [QCH_RWREC_LO_REASON n, QCH_RWREC_LO_PARTIAL n, QCH_RWREC_LO_PES_SIGN n, QCH_RWREC_LO_TAG n]⟩,
  ⟨.QCH_RWREC_HI, 0x180048, [(0x10, 4)], false, fun n _ _ => [QCH_RWREC_HI_ANGLE n]⟩,
  ⟨.QCH_RW_POP, 0x18004c, [(0x10, 4)], false, fun n _ _ => [QCH_RW_POP_POP n]⟩]

def regsSPN : List RegDef := [
  ⟨.SPN_CTL, 0x200000, [], false, fun _ _ _ => [SPN_CTL_RING_EN, SPN_CTL_PERMIT, SPN_CTL_CMD]⟩,
  ⟨.SPN_SPEED, 0x200004, [], false, fun _ _ _ => [SPN_SPEED_TARGET]⟩,
  ⟨.SPN_MOTOR, 0x200008, [], false, fun _ _ _ => [SPN_MOTOR_COAST_MS, SPN_MOTOR_RAMP, SPN_MOTOR_POLE_PAIRS]⟩,
  ⟨.SPN_DRIVE, 0x20000c, [], false, fun _ _ _ => [SPN_DRIVE_DELAY, SPN_DRIVE_ZC_WIN, SPN_DRIVE_TEST_US, SPN_DRIVE_ASYM_MIN]⟩,
  ⟨.SPN_ILIM, 0x200010, [], false, fun _ _ _ => [SPN_ILIM_KP, SPN_ILIM_BRAKE_MA, SPN_ILIM_KI, SPN_ILIM_ACCEL_MA]⟩,
  ⟨.SPN_HU_CFG, 0x200014, [], false, fun _ _ _ => [SPN_HU_CFG_ETA, SPN_HU_CFG_HU_V, SPN_HU_CFG_FLOOR, SPN_HU_CFG_RESERVE]⟩,
  ⟨.SPN_STAT, 0x200018, [], false, fun _ _ _ => [SPN_STAT_STATE, SPN_STAT_AT_SPEED, SPN_STAT_DIR, SPN_STAT_OBS_LOCK, SPN_STAT_RECT_DONE, SPN_STAT_STOP_DONE, SPN_STAT_CMD_REFUSED, SPN_STAT_PERMIT_LAPSE, SPN_STAT_J_NEW, SPN_STAT_RING_MISS, SPN_STAT_REACQ_FAIL, SPN_STAT_ROTOR_LOST, SPN_STAT_START_FAIL, SPN_STAT_START_DONE]⟩,
  ⟨.SPN_IEN, 0x20001c, [], false, fun _ _ _ => [SPN_IEN_RECT_DONE, SPN_IEN_STOP_DONE, SPN_IEN_CMD_REFUSED, SPN_IEN_PERMIT_LAPSE, SPN_IEN_J_NEW, SPN_IEN_RING_MISS, SPN_IEN_REACQ_FAIL, SPN_IEN_ROTOR_LOST, SPN_IEN_START_FAIL, SPN_IEN_START_DONE]⟩,
  ⟨.SPN_SPEED_MEAS, 0x200020, [], false, fun _ _ _ => [SPN_SPEED_MEAS_SRC, SPN_SPEED_MEAS_RPM16]⟩,
  ⟨.SPN_KE, 0x200024, [], false, fun _ _ _ => [SPN_KE_KT, SPN_KE_KE]⟩,
  ⟨.SPN_J, 0x200028, [], false, fun _ _ _ => [SPN_J_VALID, SPN_J_MEASURED, SPN_J_J]⟩,
  ⟨.SPN_HOLDUP, 0x20002c, [], false, fun _ _ _ => [SPN_HOLDUP_E_MJ]⟩,
  ⟨.SPN_LAST_START, 0x200030, [], false, fun _ _ _ => [SPN_LAST_START_SECTOR, SPN_LAST_START_PATH, SPN_LAST_START_TRIES, SPN_LAST_START_SENSE_RPM16]⟩,
  ⟨.SPN_MEAS, 0x200034, [], false, fun _ _ _ => [SPN_MEAS_ACCEL_MS, SPN_MEAS_COAST_DROP]⟩]

def regsSRV : List RegDef := [
  ⟨.SRV_CFG, 0x300000, [(0x80000, 2)], false, fun a _ _ => [SRV_CFG_EN a, SRV_CFG_SYM_TICKS a, SRV_CFG_SAM_TOL a, SRV_CFG_SAM_WIN a, SRV_CFG_TRK_TOL a, SRV_CFG_SAM_PAT a]⟩,
  ⟨.SRV_WIN, 0x300004, [(0x80000, 2)], false, fun a _ _ => [SRV_WIN_WR_END a, SRV_WIN_WR_START a]⟩,
  ⟨.SRV_TWIN, 0x300008, [(0x80000, 2)], false, fun a _ _ => [SRV_TWIN_SWAP_EN a, SRV_TWIN_LEAD a, SRV_TWIN_TWIN_EN a]⟩,
  ⟨.SRV_HSEL, 0x30000c, [(0x80000, 2)], false, fun a _ _ => [SRV_HSEL_BUSY a, SRV_HSEL_HEAD1 a, SRV_HSEL_HEAD0 a]⟩,
  ⟨.SRV_TGT, 0x300010, [(0x80000, 2), (4, 2)], false, fun a n _ => [SRV_TGT_TARGET a n]⟩,
  ⟨.SRV_POS, 0x300018, [(0x80000, 2), (4, 2)], false, fun a n _ => [SRV_POS_POS a n]⟩,
  ⟨.SRV_PES, 0x300020, [(0x80000, 2), (4, 2)], false, fun a n _ => [SRV_PES_VALID a n, SRV_PES_MISS a n, SRV_PES_WEDGE a n, SRV_PES_PES a n]⟩,
  ⟨.SRV_STAT, 0x300028, [(0x80000, 2)], false, fun a _ _ => [SRV_STAT_SEEK_STATE a, SRV_STAT_WR_OVERRUN a, SRV_STAT_HS_REFUSED a, SRV_STAT_PA_FAULT a, SRV_STAT_FREEFALL a, SRV_STAT_LEAD_SWAP a, SRV_STAT_MA_SAT a, SRV_STAT_TRK_IMPL a, SRV_STAT_IDX_CHK a, SRV_STAT_GRANT_FALLBACK a, SRV_STAT_SEEK_FAIL a, SRV_STAT_SEEK_REFUSED a, SRV_STAT_SEEK_DONE a]⟩,
  ⟨.SRV_IEN, 0x30002c, [(0x80000, 2)], false, fun a _ _ => [SRV_IEN_WR_OVERRUN a, SRV_IEN_HS_REFUSED a, SRV_IEN_PA_FAULT a, SRV_IEN_FREEFALL a, SRV_IEN_LEAD_SWAP a, SRV_IEN_MA_SAT a, SRV_IEN_TRK_IMPL a, SRV_IEN_IDX_CHK a, SRV_IEN_GRANT_FALLBACK a, SRV_IEN_SEEK_FAIL a, SRV_IEN_SEEK_REFUSED a, SRV_IEN_SEEK_DONE a]⟩,
  ⟨.SRV_SEEK, 0x300030, [(0x80000, 2)], false, fun a _ _ => [SRV_SEEK_GO a, SRV_SEEK_PROFILE a, SRV_SEEK_GRANT_WAIT a]⟩,
  ⟨.SRV_SEEK_TIME, 0x300034, [(0x80000, 2)], false, fun a _ _ => [SRV_SEEK_TIME_WEDGES a]⟩,
  ⟨.SRV_COEF_CTL, 0x300038, [(0x80000, 2)], false, fun a _ _ => [SRV_COEF_CTL_LOADED a, SRV_COEF_CTL_ACTIVE a, SRV_COEF_CTL_SWAP a]⟩,
  ⟨.SRV_TWIN_OFS, 0x30003c, [(0x80000, 2)], false, fun a _ _ => [SRV_TWIN_OFS_OFS a]⟩,
  ⟨.SRV_PA_CFG, 0x300040, [(0x80000, 2)], false, fun a _ _ => [SRV_PA_CFG_DUAL a, SRV_PA_CFG_HS_SETTLE a, SRV_PA_CFG_SCK_DIV a]⟩,
  ⟨.SRV_PA_MAP, 0x300044, [(0x80000, 2)], false, fun a _ _ => [SRV_PA_MAP_FAULT a, SRV_PA_MAP_MODE a, SRV_PA_MAP_HSEL1 a, SRV_PA_MAP_HSEL0 a]⟩,
  ⟨.SRV_PA_CMD, 0x300048, [(0x80000, 2)], false, fun a _ _ => [SRV_PA_CMD_GO a, SRV_PA_CMD_RD a, SRV_PA_CMD_ADDR a, SRV_PA_CMD_DATA a]⟩,
  ⟨.SRV_PA_RESP, 0x30004c, [(0x80000, 2)], false, fun a _ _ => [SRV_PA_RESP_DONE a, SRV_PA_RESP_DATA a]⟩,
  ⟨.SRV_PA_FAULT, 0x300050, [(0x80000, 2)], false, fun a _ _ => [SRV_PA_FAULT_CAUSE a]⟩,
  ⟨.SRV_PA_MAP_ID, 0x300054, [(0x80000, 2)], false, fun a _ _ => [SRV_PA_MAP_ID_ID a]⟩,
  ⟨.SRV_SHOCK, 0x300060, [(0x80000, 2)], false, fun a _ _ => [SRV_SHOCK_FF_EN a, SRV_SHOCK_FALL_EN a, SRV_SHOCK_FF_GAIN a, SRV_SHOCK_FALL_MS a]⟩,
  ⟨.SRV_SHOCK_NOW, 0x300064, [(0x80000, 2)], false, fun a _ _ => [SRV_SHOCK_NOW_ROT a, SRV_SHOCK_NOW_Z a, SRV_SHOCK_NOW_Y a, SRV_SHOCK_NOW_X a]⟩,
  ⟨.SRV_PROF_W0, 0x300100, [(0x80000, 2), (8, 16)], false, fun a p _ => [SRV_PROF_W0_FALLBACK a p, SRV_PROF_W0_IPK_MA a p, SRV_PROF_W0_VMAX a p]⟩,
  ⟨.SRV_PROF_W1, 0x300104, [(0x80000, 2), (8, 16)], false, fun a p _ => [SRV_PROF_W1_DUR_WEDGES a p, SRV_PROF_W1_SETTLE_N a p, SRV_PROF_W1_SETTLE_LIM a p]⟩,
  ⟨.SRV_COEF, 0x300200, [(0x80000, 2), (4, 30)], false, fun a i _ => [SRV_COEF_COEF a i]⟩,
  ⟨.SRV_HEAD_CFG, 0x300400, [(0x80000, 2), (8, 10)], false, fun a h _ => [SRV_HEAD_CFG_SRDR a h, SRV_HEAD_CFG_MA_GAIN a h]⟩,
  ⟨.SRV_HEAD_LIM, 0x300404, [(0x80000, 2), (8, 10)], false, fun a h _ => [SRV_HEAD_LIM_STROKE a h]⟩,
  ⟨.SRV_LIN, 0x300800, [(0x80000, 2), (0x80, 10), (4, 32)], false, fun a h i => [SRV_LIN_CORR a h i]⟩]

def regsACT : List RegDef := [
  ⟨.ACT_CTL, 0x400000, [], false, fun _ _ _ => [ACT_CTL_CMD_B, ACT_CTL_CMD_A]⟩,
  ⟨.ACT_STAT, 0x400004, [], false, fun _ _ _ => [ACT_STAT_STATE_B, ACT_STAT_STATE_A, ACT_STAT_CMD_REFUSED, ACT_STAT_LOAD_FAIL, ACT_STAT_UNLOAD_TO, ACT_STAT_RET_DONE, ACT_STAT_PARKED]⟩,
  ⟨.ACT_VCM, 0x400008, [(4, 2)], false, fun a _ _ => [ACT_VCM_ILIM_MA a, ACT_VCM_RES_MOHM a]⟩,
  ⟨.ACT_LOAD, 0x400010, [], false, fun _ _ _ => [ACT_LOAD_LOAD_VEL, ACT_LOAD_UNLOAD_VEL, ACT_LOAD_LOAD_TO, ACT_LOAD_UNLOAD_TO]⟩,
  ⟨.ACT_RETRACT, 0x400014, [], false, fun _ _ _ => [ACT_RETRACT_RET_VEL, ACT_RETRACT_HOLD_MS, ACT_RETRACT_HOLD_MA]⟩,
  ⟨.ACT_MA, 0x400018, [], false, fun _ _ _ => [ACT_MA_VMAX, ACT_MA_SLEW]⟩,
  ⟨.ACT_MEAS, 0x400020, [(4, 2)], false, fun a _ _ => [ACT_MEAS_IVCM a, ACT_MEAS_BEMF a]⟩,
  ⟨.ACT_MA_OUT, 0x400030, [(4, 4)], false, fun n _ _ => [ACT_MA_OUT_CODE n]⟩]

def regsWCH : List RegDef := [
  ⟨.WCH_CTL, 0x500000, [(0x10000, 4)], false, fun n _ _ => [WCH_CTL_EN n, WCH_CTL_RW_LIM n, WCH_CTL_WR_ACTIVE n]⟩,
  ⟨.WCH_STAT, 0x500004, [(0x10000, 4)], false, fun n _ _ => [WCH_STAT_FQ_COUNT n, WCH_STAT_CQ_COUNT n, WCH_STAT_EARLY_CLOSE n, WCH_STAT_OVERLAP n, WCH_STAT_TP_REFUSED n, WCH_STAT_WA_REFUSED n, WCH_STAT_OVERRUN n, WCH_STAT_ORPHAN n, WCH_STAT_UNDERRUN n, WCH_STAT_NOT_READY n, WCH_STAT_RZ_BAD n]⟩,
  ⟨.WCH_IEN, 0x500008, [(0x10000, 4)], false, fun n _ _ => [WCH_IEN_EARLY_CLOSE n, WCH_IEN_OVERLAP n, WCH_IEN_TP_REFUSED n, WCH_IEN_WA_REFUSED n, WCH_IEN_OVERRUN n, WCH_IEN_ORPHAN n, WCH_IEN_UNDERRUN n, WCH_IEN_NOT_READY n, WCH_IEN_RZ_BAD n]⟩,
  ⟨.WCH_FQ_W, 0x500010, [(0x10000, 4), (4, 8)], true, fun n w _ => [WCH_FQ_W n w]⟩,
  ⟨.WCH_FQ_RESP, 0x500030, [(0x10000, 4)], true, fun n _ _ => [WCH_FQ_RESP_DONE n, WCH_FQ_RESP_RESULT n]⟩,
  ⟨.WCH_CQ, 0x500034, [(0x10000, 4)], false, fun n _ _ => [WCH_CQ_VALID n, WCH_CQ_STATUS n, WCH_CQ_TAG n]⟩,
  ⟨.WCH_CQ_POP, 0x500038, [(0x10000, 4)], false, fun n _ _ => [WCH_CQ_POP_POP n]⟩,
  ⟨.WCH_TP_CTL, 0x500040, [(0x10000, 4)], false, fun n _ _ => [WCH_TP_CTL_BUSY n, WCH_TP_CTL_CLEAR n, WCH_TP_CTL_RESTORE n, WCH_TP_CTL_SAVE n]⟩,
  ⟨.WCH_TP_ADDR, 0x500044, [(0x10000, 4)], false, fun n _ _ => [WCH_TP_ADDR_ADDR n]⟩,
  ⟨.WCH_TP_MASK_LO, 0x500048, [(0x10000, 4)], false, fun n _ _ => [WCH_TP_MASK_LO_MASK n]⟩,
  ⟨.WCH_TP_MASK_HI, 0x50004c, [(0x10000, 4)], false, fun n _ _ => [WCH_TP_MASK_HI_MASK n]⟩,
  ⟨.WCH_RZ_W0, 0x504000, [(0x20000, 2), (0x400, 10), (0x10, 64)], false, fun a h z => [WCH_RZ_W0_START_TRK a h z]⟩,
  ⟨.WCH_RZ_W1, 0x504004, [(0x20000, 2), (0x400, 10), (0x10, 64)], false, fun a h z => [WCH_RZ_W1_VALID a h z, WCH_RZ_W1_CODE a h z, WCH_RZ_W1_BPW a h z]⟩,
  ⟨.WCH_RZ_W2, 0x504008, [(0x20000, 2), (0x400, 10), (0x10, 64)], false, fun a h z => [WCH_RZ_W2_SPT a h z, WCH_RZ_W2_TRK_SKEW a h z]⟩,
  ⟨.WCH_RZ_W3, 0x50400c, [(0x20000, 2), (0x400, 10), (0x10, 64)], false, fun a h z => [WCH_RZ_W3_PC2 a h z, WCH_RZ_W3_PC1 a h z]⟩]

def regsRCH : List RegDef := [
  ⟨.RCH_CTL, 0x600000, [(0x10000, 4)], false, fun n _ _ => [RCH_CTL_EN n, RCH_CTL_ADAPT n, RCH_CTL_AUTOPIN n, RCH_CTL_TA_EN n, RCH_CTL_INQ_LIM n, RCH_CTL_MU n]⟩,
  ⟨.RCH_STAT, 0x600004, [(0x10000, 4)], false, fun n _ _ => [RCH_STAT_FQ_COUNT n, RCH_STAT_CQ_COUNT n, RCH_STAT_TP_REFUSED n, RCH_STAT_TA_SEEN n, RCH_STAT_PIN_FULL n, RCH_STAT_SB_TRUNC n, RCH_STAT_OVERFLOW n, RCH_STAT_DROPPED n, RCH_STAT_MISS n, RCH_STAT_MISCORR n, RCH_STAT_FAIL n]⟩,
  ⟨.RCH_IEN, 0x600008, [(0x10000, 4)], false, fun n _ _ => [RCH_IEN_TP_REFUSED n, RCH_IEN_TA_SEEN n, RCH_IEN_PIN_FULL n, RCH_IEN_SB_TRUNC n, RCH_IEN_OVERFLOW n, RCH_IEN_DROPPED n, RCH_IEN_MISS n, RCH_IEN_MISCORR n, RCH_IEN_FAIL n]⟩,
  ⟨.RCH_FQ_W, 0x600010, [(0x10000, 4), (4, 8)], true, fun n w _ => [RCH_FQ_W n w]⟩,
  ⟨.RCH_FQ_RESP, 0x600030, [(0x10000, 4)], true, fun n _ _ => [RCH_FQ_RESP_DONE n, RCH_FQ_RESP_RESULT n]⟩,
  ⟨.RCH_CQ_W0, 0x600034, [(0x10000, 4)], false, fun n _ _ => [RCH_CQ_W0_VALID n, RCH_CQ_W0_STATUS n, RCH_CQ_W0_TAG n]⟩,
  ⟨.RCH_CQ_W1, 0x600038, [(0x10000, 4)], false, fun n _ _ => [RCH_CQ_W1_GITER n, RCH_CQ_W1_LITER n, RCH_CQ_W1_MARK_OFS n, RCH_CQ_W1_SLOT n]⟩,
  ⟨.RCH_CQ_W2, 0x60003c, [(0x10000, 4)], false, fun n _ _ => [RCH_CQ_W2_UNSAT n, RCH_CQ_W2_TA n, RCH_CQ_W2_PIN n, RCH_CQ_W2_NS n, RCH_CQ_W2_KIND n]⟩,
  ⟨.RCH_CQ_POP, 0x600040, [(0x10000, 4)], false, fun n _ _ => [RCH_CQ_POP_POP n]⟩,
  ⟨.RCH_SEL, 0x600050, [(0x10000, 4)], false, fun n _ _ => [RCH_SEL_LOAD n, RCH_SEL_READY n, RCH_SEL_HEAD n, RCH_SEL_RZ n]⟩,
  ⟨.RCH_SYNC, 0x600054, [(0x10000, 4)], false, fun n _ _ => [RCH_SYNC_RS_TOL n, RCH_SYNC_RELAX_TOL n, RCH_SYNC_MARK_TOL n, RCH_SYNC_SYNC_WIN n]⟩,
  ⟨.RCH_FRAME_OFS, 0x600058, [(0x10000, 4)], false, fun n _ _ => [RCH_FRAME_OFS_VALID n, RCH_FRAME_OFS_HEAD n, RCH_FRAME_OFS_OFS n]⟩,
  ⟨.RCH_ACT_W0, 0x600060, [(0x10000, 4)], false, fun n _ _ => [RCH_ACT_W0_CTF_FC n, RCH_ACT_W0_CTF_BOOST n, RCH_ACT_W0_AGC_TGT n, RCH_ACT_W0_EQ_SET n]⟩,
  ⟨.RCH_ACT_W1, 0x600064, [(0x10000, 4)], false, fun n _ _ => [RCH_ACT_W1_OFS0 n, RCH_ACT_W1_OFS1 n, RCH_ACT_W1_ASYM0 n, RCH_ACT_W1_ASYM1 n]⟩,
  ⟨.RCH_ACT_W2, 0x600068, [(0x10000, 4)], false, fun n _ _ => [RCH_ACT_W2_GLOBAL_MAX n, RCH_ACT_W2_LOCAL_MAX n, RCH_ACT_W2_NMS n, RCH_ACT_W2_LLR_SCALE n, RCH_ACT_W2_TA_LIM n]⟩,
  ⟨.RCH_AGC, 0x600070, [(0x10000, 4)], false, fun n _ _ => [RCH_AGC_GAIN1 n, RCH_AGC_GAIN0 n]⟩,
  ⟨.RCH_SB_STAT, 0x600080, [(0x10000, 4)], false, fun n _ _ => [RCH_SB_STAT_NEXT n, RCH_SB_STAT_PINNED n]⟩,
  ⟨.RCH_SB_PIN_LO, 0x600084, [(0x10000, 4)], false, fun n _ _ => [RCH_SB_PIN_LO_PIN n]⟩,
  ⟨.RCH_SB_PIN_HI, 0x600088, [(0x10000, 4)], false, fun n _ _ => [RCH_SB_PIN_HI_PIN n]⟩,
  ⟨.RCH_SB_PINCTL, 0x60008c, [(0x10000, 4)], false, fun n _ _ => [RCH_SB_PINCTL_PIN n, RCH_SB_PINCTL_UNPIN n, RCH_SB_PINCTL_SLOT n]⟩,
  ⟨.RCH_TP_CTL, 0x600090, [(0x10000, 4)], false, fun n _ _ => [RCH_TP_CTL_BUSY n, RCH_TP_CTL_PAR_SEEN n, RCH_TP_CTL_SB_SLOT n, RCH_TP_CTL_REBUILD n, RCH_TP_CTL_CLEAR n, RCH_TP_CTL_RESTORE n, RCH_TP_CTL_SAVE n]⟩,
  ⟨.RCH_TP_ADDR, 0x600094, [(0x10000, 4)], false, fun n _ _ => [RCH_TP_ADDR_ADDR n]⟩,
  ⟨.RCH_TP_MASK_LO, 0x600098, [(0x10000, 4)], false, fun n _ _ => [RCH_TP_MASK_LO_MASK n]⟩,
  ⟨.RCH_TP_MASK_HI, 0x60009c, [(0x10000, 4)], false, fun n _ _ => [RCH_TP_MASK_HI_MASK n]⟩,
  ⟨.RCH_DEC_STAT, 0x640000, [(0x100, 6)], false, fun d _ _ => [RCH_DEC_STAT_BUSY d, RCH_DEC_STAT_DEEP d, RCH_DEC_STAT_FAULT d, RCH_DEC_STAT_CH d, RCH_DEC_STAT_TAG d]⟩,
  ⟨.RCH_DEC_CNT, 0x640004, [(0x100, 6)], false, fun d _ _ => [RCH_DEC_CNT_FRAMES d]⟩,
  ⟨.RCH_DEC_ITER, 0x640008, [(0x100, 6)], false, fun d _ _ => [RCH_DEC_ITER_LOCAL d]⟩,
  ⟨.RCH_DEC_MAP, 0x650000, [], false, fun _ _ _ => [RCH_DEC_MAP_CH3, RCH_DEC_MAP_CH2, RCH_DEC_MAP_CH1, RCH_DEC_MAP_CH0]⟩,
  ⟨.RCH_XBAR, 0x650004, [], false, fun _ _ _ => [RCH_XBAR_SRC]⟩,
  ⟨.RCH_DEEP_CFG, 0x650008, [], false, fun _ _ _ => [RCH_DEEP_CFG_DEEP_MA, RCH_DEEP_CFG_SCREEN_LIM, RCH_DEEP_CFG_NMS_B, RCH_DEEP_CFG_LLR_SCALE_B]⟩,
  ⟨.RCH_LADDER, 0x65000c, [], false, fun _ _ _ => [RCH_LADDER_REREAD_MAX, RCH_LADDER_REV_MAX, RCH_LADDER_MISFRAME, RCH_LADDER_OFFTRACK]⟩,
  ⟨.RCH_STOP, 0x650010, [], false, fun _ _ _ => [RCH_STOP_ET_MIN, RCH_STOP_ET_DEEP, RCH_STOP_ET_INL, RCH_STOP_STALL_L]⟩,
  ⟨.RCH_DJ_W0, 0x650014, [], true, fun _ _ _ => [RCH_DJ_W0_MODE, RCH_DJ_W0_CH, RCH_DJ_W0_RELEASE, RCH_DJ_W0_SLOT, RCH_DJ_W0_SLOT2, RCH_DJ_W0_GMAX]⟩,
  ⟨.RCH_DJ_W1, 0x650018, [], true, fun _ _ _ => [RCH_DJ_W1_PRIO, RCH_DJ_W1_TAG]⟩,
  ⟨.RCH_DJ_RESP, 0x65001c, [], true, fun _ _ _ => [RCH_DJ_RESP_DONE, RCH_DJ_RESP_RESULT]⟩,
  ⟨.RCH_DJ_CQ_W0, 0x650020, [], false, fun _ _ _ => [RCH_DJ_CQ_W0_VALID, RCH_DJ_CQ_W0_DEC, RCH_DJ_CQ_W0_STATUS, RCH_DJ_CQ_W0_CH, RCH_DJ_CQ_W0_SLOT, RCH_DJ_CQ_W0_OFFSET, RCH_DJ_CQ_W0_GITER, RCH_DJ_CQ_W0_MODE]⟩,
  ⟨.RCH_DJ_CQ_W1, 0x650024, [], false, fun _ _ _ => [RCH_DJ_CQ_W1_TAG]⟩,
  ⟨.RCH_DJ_CQ_POP, 0x650028, [], false, fun _ _ _ => [RCH_DJ_CQ_POP_POP]⟩,
  ⟨.RCH_GSTAT, 0x65002c, [], false, fun _ _ _ => [RCH_GSTAT_DJ_COUNT, RCH_GSTAT_XBAR_REFUSED, RCH_GSTAT_MAP_REFUSED, RCH_GSTAT_PERMIT_WAIT]⟩,
  ⟨.RCH_SB_WIN, 0x650030, [], false, fun _ _ _ => [RCH_SB_WIN_CH, RCH_SB_WIN_SLOT]⟩,
  ⟨.RCH_HZ_W0, 0x660000, [(0x400, 20), (0x10, 64)], false, fun h z _ => [RCH_HZ_W0_CTF_FC h z, RCH_HZ_W0_CTF_BOOST h z, RCH_HZ_W0_AGC_TGT h z, RCH_HZ_W0_EQ_SET h z]⟩,
  ⟨.RCH_HZ_W1, 0x660004, [(0x400, 20), (0x10, 64)], false, fun h z _ => [RCH_HZ_W1_OFS0 h z, RCH_HZ_W1_OFS1 h z, RCH_HZ_W1_ASYM0 h z, RCH_HZ_W1_ASYM1 h z]⟩,
  ⟨.RCH_HZ_W2, 0x660008, [(0x400, 20), (0x10, 64)], false, fun h z _ => [RCH_HZ_W2_GLOBAL_MAX h z, RCH_HZ_W2_LOCAL_MAX h z, RCH_HZ_W2_NMS h z, RCH_HZ_W2_LLR_SCALE h z, RCH_HZ_W2_TA_LIM h z]⟩,
  ⟨.RCH_EQ, 0x670000, [(0x100, 256), (4, 53)], false, fun e k _ => [RCH_EQ_TAP e k]⟩]

def regsTPR : List RegDef := [
  ⟨.TPR_CTL, 0x700000, [], false, fun _ _ _ => [TPR_CTL_EN, TPR_CTL_MODE]⟩,
  ⟨.TPR_STAT, 0x700004, [], false, fun _ _ _ => [TPR_STAT_CLAMP, TPR_STAT_READY]⟩,
  ⟨.TPR_LIM, 0x700008, [], false, fun _ _ _ => [TPR_LIM_LB_MAX, TPR_LIM_LP_MAX, TPR_LIM_STO_MAX, TPR_LIM_WC_MAX]⟩,
  ⟨.TPR_PA_MAP0, 0x70000c, [], false, fun _ _ _ => [TPR_PA_MAP0_WCUR, TPR_PA_MAP0_WOS, TPR_PA_MAP0_ABIAS, TPR_PA_MAP0_APEAK]⟩,
  ⟨.TPR_PA_MAP1, 0x700010, [], false, fun _ _ _ => [TPR_PA_MAP1_PWID, TPR_PA_MAP1_PPHS, TPR_PA_MAP1_CH1_OFS]⟩,
  ⟨.TPR_SEL, 0x700020, [(4, 4)], false, fun n _ _ => [TPR_SEL_SEND n, TPR_SEL_HEAD n, TPR_SEL_RZ n]⟩,
  ⟨.TPR_HZ_W0, 0x701000, [(0x200, 20), (8, 64)], false, fun h z _ => [TPR_HZ_W0_ABIAS h z, TPR_HZ_W0_APEAK h z, TPR_HZ_W0_PWID h z, TPR_HZ_W0_PPHS h z]⟩,
  ⟨.TPR_HZ_W1, 0x701004, [(0x200, 20), (8, 64)], false, fun h z _ => [TPR_HZ_W1_WCUR h z, TPR_HZ_W1_WOS h z, TPR_HZ_W1_PREHEAT h z, TPR_HZ_W1_REHEAT h z]⟩]

def regsXLT : List RegDef := [
  ⟨.XLT_CFG, 0x800000, [], false, fun _ _ _ => [XLT_CFG_EN, XLT_CFG_LIST_MAX, XLT_CFG_DEPTH_MAX]⟩,
  ⟨.XLT_STAT, 0x800004, [], false, fun _ _ _ => [XLT_STAT_LK_BUSY, XLT_STAT_CQ_COUNT, XLT_STAT_REBUILT, XLT_STAT_UPD_DONE, XLT_STAT_UPD_REFUSED, XLT_STAT_STRUCT_FAULT, XLT_STAT_CRC_FAULT, XLT_STAT_LK_DONE]⟩,
  ⟨.XLT_IEN, 0x800008, [], false, fun _ _ _ => [XLT_IEN_REBUILT, XLT_IEN_UPD_DONE, XLT_IEN_UPD_REFUSED, XLT_IEN_STRUCT_FAULT, XLT_IEN_CRC_FAULT, XLT_IEN_LK_DONE]⟩,
  ⟨.XLT_MAP_BASE, 0x80000c, [], false, fun _ _ _ => [XLT_MAP_BASE_BASE]⟩,
  ⟨.XLT_ZCFG, 0x800010, [], false, fun _ _ _ => [XLT_ZCFG_RELOC_MAX, XLT_ZCFG_MAX_ACTIVE, XLT_ZCFG_MAX_OPEN]⟩,
  ⟨.XLT_JSEQ, 0x800014, [], false, fun _ _ _ => [XLT_JSEQ_JSEQ]⟩,
  ⟨.XLT_JRN_PERS, 0x800018, [], false, fun _ _ _ => [XLT_JRN_PERS_JSEQ]⟩,
  ⟨.XLT_FAULT, 0x80001c, [], false, fun _ _ _ => [XLT_FAULT_REASON, XLT_FAULT_INDEX]⟩,
  ⟨.XLT_NS_BASE, 0x800020, [(8, 4)], false, fun m _ _ => [XLT_NS_BASE_CHUNK_BASE m]⟩,
  ⟨.XLT_NS_CFG, 0x800024, [(8, 4)], false, fun m _ _ => [XLT_NS_CFG_EN m, XLT_NS_CFG_ZONED m, XLT_NS_CFG_CHUNKS m]⟩,
  ⟨.XLT_LK_W, 0x800040, [(4, 4)], true, fun w _ _ => [XLT_LK_W w]⟩,
  ⟨.XLT_LK_RESP, 0x800050, [], true, fun _ _ _ => [XLT_LK_RESP_DONE, XLT_LK_RESP_RESULT]⟩,
  ⟨.XLT_LK_CQ_W0, 0x800054, [], false, fun _ _ _ => [XLT_LK_CQ_W0_VALID, XLT_LK_CQ_W0_STATUS, XLT_LK_CQ_W0_TAG]⟩,
  ⟨.XLT_LK_CQ_W1, 0x800058, [], false, fun _ _ _ => [XLT_LK_CQ_W1_FRAGS, XLT_LK_CQ_W1_NEXT]⟩,
  ⟨.XLT_LK_CQ_POP, 0x80005c, [], false, fun _ _ _ => [XLT_LK_CQ_POP_POP]⟩,
  ⟨.XLT_UPD_ADDR, 0x800060, [], false, fun _ _ _ => [XLT_UPD_ADDR_ADDR]⟩,
  ⟨.XLT_UPD_RESP, 0x800064, [], false, fun _ _ _ => [XLT_UPD_RESP_DONE, XLT_UPD_RESP_BUSY, XLT_UPD_RESP_RESULT]⟩,
  ⟨.XLT_WALK_CNT, 0x800068, [], false, fun _ _ _ => [XLT_WALK_CNT_STEPS]⟩,
  ⟨.XLT_FAULT_CHUNK, 0x80006c, [], false, fun _ _ _ => [XLT_FAULT_CHUNK_INDEX]⟩,
  ⟨.XLT_POLICY, 0x800070, [], false, fun _ _ _ => [XLT_POLICY_CLEAN_HI, XLT_POLICY_CLEAN_FULL, XLT_POLICY_POOL_LOW]⟩]

def regsXCC : List RegDef := [
  ⟨.XCC_CTL, 0x880000, [], false, fun _ _ _ => [XCC_CTL_EN, XCC_CTL_INV_ALL, XCC_CTL_WAY_DIS]⟩,
  ⟨.XCC_STAT, 0x880004, [], false, fun _ _ _ => [XCC_STAT_INV_CLEAN, XCC_STAT_BUSY, XCC_STAT_WAY_REFUSED, XCC_STAT_LOCK_REFUSED, XCC_STAT_EN_REFUSED, XCC_STAT_CRC_ERR, XCC_STAT_LOCK_LOST]⟩,
  ⟨.XCC_INV_LO, 0x880008, [], false, fun _ _ _ => [XCC_INV_LO_FIRST]⟩,
  ⟨.XCC_INV_HI, 0x88000c, [], false, fun _ _ _ => [XCC_INV_HI_GO, XCC_INV_HI_LAST]⟩,
  ⟨.XCC_LOCK, 0x880010, [], false, fun _ _ _ => [XCC_LOCK_GO, XCC_LOCK_UNLOCK, XCC_LOCK_LINE]⟩,
  ⟨.XCC_LOCK_LOST_CNT, 0x880014, [], false, fun _ _ _ => [XCC_LOCK_LOST_CNT_COUNT]⟩,
  ⟨.XCC_CRC_CNT, 0x880018, [], false, fun _ _ _ => [XCC_CRC_CNT_COUNT]⟩,
  ⟨.XCC_HITS, 0x88001c, [], false, fun _ _ _ => [XCC_HITS_COUNT]⟩,
  ⟨.XCC_MISSES, 0x880020, [], false, fun _ _ _ => [XCC_MISSES_COUNT]⟩,
  ⟨.XCC_VHITS, 0x880024, [], false, fun _ _ _ => [XCC_VHITS_COUNT]⟩,
  ⟨.XCC_LOCKED, 0x880028, [], false, fun _ _ _ => [XCC_LOCKED_COUNT]⟩]

def regsCMP : List RegDef := [
  ⟨.CMP_CTL, 0x900000, [], false, fun _ _ _ => [CMP_CTL_EN, CMP_CTL_ENG_DIS, CMP_CTL_ABORT]⟩,
  ⟨.CMP_CFG, 0x900004, [], false, fun _ _ _ => [CMP_CFG_PERMIT_MA, CMP_CFG_BLOCK_KIB]⟩,
  ⟨.CMP_POLICY, 0x900008, [], false, fun _ _ _ => [CMP_POLICY_COLD_H, CMP_POLICY_MIN_SAVE, CMP_POLICY_MIG_LEVEL, CMP_POLICY_CPT_LEVEL]⟩,
  ⟨.CMP_STAT, 0x90000c, [], false, fun _ _ _ => [CMP_STAT_Q0_COUNT, CMP_STAT_Q1_COUNT, CMP_STAT_CQ_COUNT, CMP_STAT_PERMIT_WAIT, CMP_STAT_DMA_ERR, CMP_STAT_STREAM_ERR, CMP_STAT_NOT_SMALLER, CMP_STAT_FAIL, CMP_STAT_DONE]⟩,
  ⟨.CMP_IEN, 0x900010, [], false, fun _ _ _ => [CMP_IEN_PERMIT_WAIT, CMP_IEN_DMA_ERR, CMP_IEN_STREAM_ERR, CMP_IEN_NOT_SMALLER, CMP_IEN_FAIL, CMP_IEN_DONE]⟩,
  ⟨.CMP_ENG_STAT, 0x900014, [(4, 2)], false, fun e _ _ => [CMP_ENG_STAT_BUSY e, CMP_ENG_STAT_PERMIT e, CMP_ENG_STAT_CTX_VALID e, CMP_ENG_STAT_CTX_DIR e, CMP_ENG_STAT_TAG e]⟩,
  ⟨.CMP_JQ_W, 0x900020, [(4, 8)], true, fun w _ _ => [CMP_JQ_W w]⟩,
  ⟨.CMP_JQ_RESP, 0x900040, [], true, fun _ _ _ => [CMP_JQ_RESP_DONE, CMP_JQ_RESP_RESULT]⟩,
  ⟨.CMP_CQ_W0, 0x900044, [], false, fun _ _ _ => [CMP_CQ_W0_VALID, CMP_CQ_W0_ENG, CMP_CQ_W0_STATUS, CMP_CQ_W0_TAG]⟩,
  ⟨.CMP_CQ_W1, 0x900048, [], false, fun _ _ _ => [CMP_CQ_W1_OUT_BYTES]⟩,
  ⟨.CMP_CQ_W2, 0x90004c, [], false, fun _ _ _ => [CMP_CQ_W2_IN_BYTES]⟩,
  ⟨.CMP_CQ_W3, 0x900050, [], false, fun _ _ _ => [CMP_CQ_W3_RUN_CRC]⟩,
  ⟨.CMP_CQ_POP, 0x900054, [], false, fun _ _ _ => [CMP_CQ_POP_POP]⟩,
  ⟨.CMP_ENG_IN, 0x900060, [(8, 2)], false, fun e _ _ => [CMP_ENG_IN_KIB e]⟩,
  ⟨.CMP_ENG_OUT, 0x900064, [(8, 2)], false, fun e _ _ => [CMP_ENG_OUT_KIB e]⟩]

def regsHIF : List RegDef := [
  ⟨.HIF_CTL, 0xa00000, [], false, fun _ _ _ => [HIF_CTL_EN, HIF_CTL_MAX_OUT]⟩,
  ⟨.HIF_STAT, 0xa00004, [], false, fun _ _ _ => [HIF_STAT_RLT_FULL, HIF_STAT_FREEZE, HIF_STAT_CID_CONFLICT, HIF_STAT_XFER_ERR, HIF_STAT_ABORT_LATE, HIF_STAT_OUT_FULL]⟩,
  ⟨.HIF_IEN, 0xa00008, [], false, fun _ _ _ => [HIF_IEN_RLT_FULL, HIF_IEN_FREEZE, HIF_IEN_CID_CONFLICT, HIF_IEN_XFER_ERR, HIF_IEN_ABORT_LATE, HIF_IEN_OUT_FULL]⟩,
  ⟨.HIF_POLL, 0xa0000c, [], false, fun _ _ _ => [HIF_POLL_SLOW, HIF_POLL_IDLE, HIF_POLL_FAST]⟩,
  ⟨.HIF_OUTST, 0xa00010, [], false, fun _ _ _ => [HIF_OUTST_HWM, HIF_OUTST_COUNT]⟩,
  ⟨.HIF_ACT, 0xa00014, [], false, fun _ _ _ => [HIF_ACT_PHASE, HIF_ACT_LAST_MS]⟩,
  ⟨.HIF_PORT, 0xa00020, [(4, 2)], false, fun p _ _ => [HIF_PORT_LINK_UP p, HIF_PORT_SRIS p, HIF_PORT_SPEED p, HIF_PORT_WIDTH p, HIF_PORT_LTSSM p]⟩,
  ⟨.HIF_C_STAT, 0xa00100, [(0x40, 2)], false, fun c _ _ => [HIF_C_STAT_EN c, HIF_C_STAT_RDY c, HIF_C_STAT_PP c, HIF_C_STAT_DBBUF c, HIF_C_STAT_FAST c, HIF_C_STAT_NSQ c, HIF_C_STAT_NCQ c]⟩,
  ⟨.HIF_C_FROZEN, 0xa00104, [(0x40, 2), (4, 4)], false, fun c k _ => [HIF_C_FROZEN_SQ c k]⟩,
  ⟨.HIF_C_STRICT, 0xa00114, [(0x40, 2), (4, 4)], false, fun c k _ => [HIF_C_STRICT_SQ c k]⟩]

def regsRLT : List RegDef := [
  ⟨.RLT_CTL, 0xa80000, [], false, fun _ _ _ => [RLT_CTL_EN]⟩,
  ⟨.RLT_STAT, 0xa80004, [], false, fun _ _ _ => [RLT_STAT_HELD, RLT_STAT_WAITING]⟩,
  ⟨.RLT_HWM, 0xa80008, [], false, fun _ _ _ => [RLT_HWM_HELD]⟩,
  ⟨.RLT_STALLS, 0xa8000c, [], false, fun _ _ _ => [RLT_STALLS_COUNT]⟩,
  ⟨.RLT_FULLS, 0xa80010, [], false, fun _ _ _ => [RLT_FULLS_COUNT]⟩]

def regsBUF : List RegDef := [
  ⟨.BUF_CTL, 0xb00000, [], false, fun _ _ _ => [BUF_CTL_EN, BUF_CTL_DMA_MA]⟩,
  ⟨.BUF_STAT, 0xb00004, [], false, fun _ _ _ => [BUF_STAT_WITHIN_CAP, BUF_STAT_DMA_HALT, BUF_STAT_CC_STALL, BUF_STAT_RT_LATE, BUF_STAT_OVER_CAP, BUF_STAT_CAP_WAIT]⟩,
  ⟨.BUF_IEN, 0xb00008, [], false, fun _ _ _ => [BUF_IEN_DMA_HALT, BUF_IEN_CC_STALL, BUF_IEN_RT_LATE, BUF_IEN_OVER_CAP, BUF_IEN_CAP_WAIT]⟩,
  ⟨.BUF_POOL_BASE, 0xb0000c, [], false, fun _ _ _ => [BUF_POOL_BASE_BASE]⟩,
  ⟨.BUF_POOL_UNITS, 0xb00010, [], false, fun _ _ _ => [BUF_POOL_UNITS_UNITS]⟩,
  ⟨.BUF_CAP_CFG, 0xb00014, [], false, fun _ _ _ => [BUF_CAP_CFG_MARGIN, BUF_CAP_CFG_FIXED_MJ, BUF_CAP_CFG_MAX_MIB]⟩,
  ⟨.BUF_SAVE_CFG, 0xb00018, [], false, fun _ _ _ => [BUF_SAVE_CFG_SAVE_MW, BUF_SAVE_CFG_RATE_MBPS]⟩,
  ⟨.BUF_DIRTY, 0xb0001c, [], false, fun _ _ _ => [BUF_DIRTY_UNITS]⟩,
  ⟨.BUF_CAP, 0xb00020, [], false, fun _ _ _ => [BUF_CAP_UNITS]⟩,
  ⟨.BUF_SEG_W, 0xb00030, [(4, 2)], true, fun w _ _ => [BUF_SEG_W w]⟩,
  ⟨.BUF_SEG_RESP, 0xb00038, [], true, fun _ _ _ => [BUF_SEG_RESP_DONE, BUF_SEG_RESP_RESULT, BUF_SEG_RESP_ADDR]⟩,
  ⟨.BUF_JRN_RING, 0xb00040, [], false, fun _ _ _ => [BUF_JRN_RING_SIZE, BUF_JRN_RING_BASE]⟩,
  ⟨.BUF_JRN_TAIL, 0xb00048, [], false, fun _ _ _ => [BUF_JRN_TAIL_OFS]⟩,
  ⟨.BUF_JRN_HEAD, 0xb0004c, [], false, fun _ _ _ => [BUF_JRN_HEAD_OFS]⟩,
  ⟨.BUF_DMA_DONE, 0xb00090, [], false, fun _ _ _ => [BUF_DMA_DONE_DONE]⟩,
  ⟨.BUF_CR, 0xb00100, [(4, 24)], false, fun c _ _ => [BUF_CR_RT c, BUF_CR_CREDITS c, BUF_CR_WEIGHT c]⟩,
  ⟨.BUF_DMA_SRC, 0xb01000, [(0x10, 32)], false, fun c _ _ => [BUF_DMA_SRC_SPACE c, BUF_DMA_SRC_RSV28 c, BUF_DMA_SRC_ADDR c]⟩,
  ⟨.BUF_DMA_DST, 0xb01004, [(0x10, 32)], false, fun c _ _ => [BUF_DMA_DST_SPACE c, BUF_DMA_DST_RSV28 c, BUF_DMA_DST_ADDR c]⟩,
  ⟨.BUF_DMA_LEN, 0xb01008, [(0x10, 32)], false, fun c _ _ => [BUF_DMA_LEN_BLOCKS c]⟩,
  ⟨.BUF_DMA_CTL, 0xb0100c, [(0x10, 32)], false, fun c _ _ => [BUF_DMA_CTL_GO c, BUF_DMA_CTL_HALTED c, BUF_DMA_CTL_OP c]⟩]

def regsMEM : List RegDef := [
  ⟨.MEM_CTL, 0xb80000, [], false, fun _ _ _ => [MEM_CTL_SCRUB_EN, MEM_CTL_SCRUB_H]⟩,
  ⟨.MEM_STAT, 0xb80004, [], false, fun _ _ _ => [MEM_STAT_REPAIR_FAIL, MEM_STAT_POISON_WR, MEM_STAT_UE, MEM_STAT_CE, MEM_STAT_SCRUB_PASS]⟩,
  ⟨.MEM_IEN, 0xb80008, [], false, fun _ _ _ => [MEM_IEN_REPAIR_FAIL, MEM_IEN_POISON_WR, MEM_IEN_UE, MEM_IEN_CE, MEM_IEN_SCRUB_PASS]⟩,
  ⟨.MEM_ERR, 0xb8000c, [], false, fun _ _ _ => [MEM_ERR_VALID, MEM_ERR_ARRAY, MEM_ERR_READER]⟩,
  ⟨.MEM_ERR_ADDR, 0xb80010, [], false, fun _ _ _ => [MEM_ERR_ADDR_ADDR]⟩,
  ⟨.MEM_CE_CNT, 0xb80014, [], false, fun _ _ _ => [MEM_CE_CNT_COUNT]⟩,
  ⟨.MEM_UE_CNT, 0xb80018, [], false, fun _ _ _ => [MEM_UE_CNT_COUNT]⟩,
  ⟨.MEM_REPAIR, 0xb80020, [], false, fun _ _ _ => [MEM_REPAIR_GO, MEM_REPAIR_ARRAY, MEM_REPAIR_SPARES, MEM_REPAIR_ROW]⟩,
  ⟨.MEM_RETIRE, 0xb80040, [(4, 16)], false, fun i _ _ => [MEM_RETIRE_VALID i, MEM_RETIRE_REGION i]⟩,
  ⟨.MEM_REMAP, 0xb81000, [(0x20, 19), (4, 8)], false, fun s e _ => [MEM_REMAP_VALID s e, MEM_REMAP_WORD s e]⟩]

def regsVLT : List RegDef := [
  ⟨.VLT_CTL, 0xc00000, [], false, fun _ _ _ => [VLT_CTL_EN, VLT_CTL_PERMIT_MA, VLT_CTL_REFRESH_TH]⟩,
  ⟨.VLT_STAT, 0xc00004, [], false, fun _ _ _ => [VLT_STAT_FQ_COUNT, VLT_STAT_CQ_COUNT, VLT_STAT_SAVE_FOUND, VLT_STAT_PERMIT_WAIT, VLT_STAT_FAIL, VLT_STAT_DONE]⟩,
  ⟨.VLT_IEN, 0xc00008, [], false, fun _ _ _ => [VLT_IEN_SAVE_FOUND, VLT_IEN_PERMIT_WAIT, VLT_IEN_FAIL, VLT_IEN_DONE]⟩,
  ⟨.VLT_REGION, 0xc00010, [(4, 8)], false, fun r _ _ => [VLT_REGION_BASE r, VLT_REGION_BLOCKS r]⟩,
  ⟨.VLT_CMD_W, 0xc00040, [(4, 4)], true, fun w _ _ => [VLT_CMD_W w]⟩,
  ⟨.VLT_RESP, 0xc00050, [], true, fun _ _ _ => [VLT_RESP_DONE, VLT_RESP_RESULT]⟩,
  ⟨.VLT_CQ_W0, 0xc00054, [], false, fun _ _ _ => [VLT_CQ_W0_VALID, VLT_CQ_W0_STATUS, VLT_CQ_W0_TAG]⟩,
  ⟨.VLT_CQ_W1, 0xc00058, [], false, fun _ _ _ => [VLT_CQ_W1_MAXBITS]⟩,
  ⟨.VLT_CQ_POP, 0xc0005c, [], false, fun _ _ _ => [VLT_CQ_POP_POP]⟩,
  ⟨.VLT_SAVE, 0xc00060, [], false, fun _ _ _ => [VLT_SAVE_ARMED, VLT_SAVE_RUNNING, VLT_SAVE_ERASED_PAGES]⟩,
  ⟨.VLT_SAVE_MAP, 0xc00080, [(4, 10)], false, fun k _ _ => [VLT_SAVE_MAP_ERASED k]⟩]

def regsENG : List RegDef := [
  ⟨.ENG_CTL, 0xd00000, [], false, fun _ _ _ => [ENG_CTL_EN, ENG_CTL_AUTO_MIG]⟩,
  ⟨.ENG_CFG, 0xd00004, [], false, fun _ _ _ => [ENG_CFG_CGAP, ENG_CFG_ILIM, ENG_CFG_IHOLD_MAX]⟩,
  ⟨.ENG_STAT, 0xd00008, [], false, fun _ _ _ => [ENG_STAT_SPARES, ENG_STAT_NO_SPARE, ENG_STAT_ROLE_FAULT, ENG_STAT_MIG_DONE, ENG_STAT_MIG_REFUSED, ENG_STAT_CS_BUSY]⟩,
  ⟨.ENG_IEN, 0xd0000c, [], false, fun _ _ _ => [ENG_IEN_NO_SPARE, ENG_IEN_ROLE_FAULT, ENG_IEN_MIG_DONE, ENG_IEN_MIG_REFUSED, ENG_IEN_CS_BUSY]⟩,
  ⟨.ENG_MIG, 0xd00010, [], false, fun _ _ _ => [ENG_MIG_GO, ENG_MIG_TEST, ENG_MIG_ROLE, ENG_MIG_TARGET]⟩,
  ⟨.ENG_MIG_STAT, 0xd00014, [], false, fun _ _ _ => [ENG_MIG_STAT_PHASE, ENG_MIG_STAT_FAULT, ENG_MIG_STAT_ROLE, ENG_MIG_STAT_LAST]⟩,
  ⟨.ENG_MAP, 0xd00040, [(4, 16)], false, fun r _ _ => [ENG_MAP_VALID r, ENG_MAP_ENGINE r]⟩,
  ⟨.ENG_SE_STAT, 0xd00100, [(0x10, 18)], false, fun n _ _ => [ENG_SE_STAT_STATE n, ENG_SE_STAT_LEVEL n, ENG_SE_STAT_ROLE n, ENG_SE_STAT_PC n]⟩,
  ⟨.ENG_SE_CTL, 0xd00104, [(0x10, 18)], false, fun n _ _ => [ENG_SE_CTL_HALT n, ENG_SE_CTL_RESUME n, ENG_SE_CTL_SPARE n, ENG_SE_CTL_RETIRE n]⟩,
  ⟨.ENG_SE_FAULT, 0xd00108, [(0x10, 18)], false, fun n _ _ => [ENG_SE_FAULT_FCODE n, ENG_SE_FAULT_FPC n]⟩,
  ⟨.ENG_ROLE_IMG, 0xd00400, [(0x20, 16)], false, fun r _ _ => [ENG_ROLE_IMG_ADDR r]⟩,
  ⟨.ENG_ROLE_CTL, 0xd00404, [(0x20, 16)], false, fun r _ _ => [ENG_ROLE_CTL_START r]⟩,
  ⟨.ENG_ROLE_IPEND, 0xd00408, [(0x20, 16)], false, fun r _ _ => [ENG_ROLE_IPEND_PEND r]⟩,
  ⟨.ENG_ROLE_IEN, 0xd0040c, [(0x20, 16)], false, fun r _ _ => [ENG_ROLE_IEN_EN r]⟩,
  ⟨.ENG_ROLE_DB, 0xd00410, [(0x20, 16)], false, fun r _ _ => [ENG_ROLE_DB_VALUE r]⟩,
  ⟨.ENG_CTX_G, 0xd02000, [(0x80, 16), (4, 32)], false, fun r k _ => [ENG_CTX_G_VALUE r k]⟩]

def regsBUL : List RegDef := [
  ⟨.BUL_CTL, 0xe00000, [], false, fun _ _ _ => [BUL_CTL_EN, BUL_CTL_LEASE_EN, BUL_CTL_EMERG]⟩,
  ⟨.BUL_BUDGET, 0xe00004, [], false, fun _ _ _ => [BUL_BUDGET_I5_MA, BUL_BUDGET_I12_MA]⟩,
  ⟨.BUL_PS1, 0xe00008, [], false, fun _ _ _ => [BUL_PS1_MW]⟩,
  ⟨.BUL_STAND, 0xe0000c, [], false, fun _ _ _ => [BUL_STAND_SPIN_MA, BUL_STAND_PA_MA]⟩,
  ⟨.BUL_ASSIST, 0xe00010, [], false, fun _ _ _ => [BUL_ASSIST_MA5]⟩,
  ⟨.BUL_OC, 0xe00014, [], false, fun _ _ _ => [BUL_OC_OC12_MA, BUL_OC_OC_US]⟩,
  ⟨.BUL_USE, 0xe00018, [], false, fun _ _ _ => [BUL_USE_I5, BUL_USE_I12]⟩,
  ⟨.BUL_CHARGE, 0xe0001c, [], false, fun _ _ _ => [BUL_CHARGE_MW]⟩,
  ⟨.BUL_STAT, 0xe00020, [], false, fun _ _ _ => [BUL_STAT_FROZEN, BUL_STAT_OVER, BUL_STAT_LEASE_END, BUL_STAT_DEADLINE, BUL_STAT_WAIT, BUL_STAT_EXPIRED, BUL_STAT_REFUSED, BUL_STAT_OC, BUL_STAT_EMERG, BUL_STAT_GRANT]⟩,
  ⟨.BUL_IEN, 0xe00024, [], false, fun _ _ _ => [BUL_IEN_LEASE_END, BUL_IEN_DEADLINE, BUL_IEN_WAIT, BUL_IEN_EXPIRED, BUL_IEN_REFUSED, BUL_IEN_OC, BUL_IEN_EMERG, BUL_IEN_GRANT]⟩,
  ⟨.BUL_LEASE_CFG, 0xe00028, [], false, fun _ _ _ => [BUL_LEASE_CFG_LEND_MAX, BUL_LEASE_CFG_GUARD]⟩,
  ⟨.BUL_LEASE_TOT, 0xe0002c, [], false, fun _ _ _ => [BUL_LEASE_TOT_IN, BUL_LEASE_TOT_OUT]⟩,
  ⟨.BUL_RQ_W0, 0xe00040, [], true, fun _ _ _ => [BUL_RQ_W0_RSV30, BUL_RQ_W0_RELEASE, BUL_RQ_W0_SLOT, BUL_RQ_W0_I5_MA, BUL_RQ_W0_I12_MA]⟩,
  ⟨.BUL_RQ_W1, 0xe00044, [], true, fun _ _ _ => [BUL_RQ_W1_DUR, BUL_RQ_W1_DL]⟩,
  ⟨.BUL_RQ_RESP, 0xe00048, [], true, fun _ _ _ => [BUL_RQ_RESP_DONE, BUL_RQ_RESP_RESULT]⟩,
  ⟨.BUL_SLOT_W0, 0xe00100, [(8, 24)], false, fun s _ _ => [BUL_SLOT_W0_STATE s, BUL_SLOT_W0_PRIO s, BUL_SLOT_W0_I5 s, BUL_SLOT_W0_I12 s]⟩,
  ⟨.BUL_SLOT_W1, 0xe00104, [(8, 24)], false, fun s _ _ => [BUL_SLOT_W1_END s]⟩,
  ⟨.BUL_LEASE_W0, 0xe00200, [(8, 16)], false, fun k _ _ => [BUL_LEASE_W0_VALID k, BUL_LEASE_W0_OUT k, BUL_LEASE_W0_PEER k, BUL_LEASE_W0_MA k]⟩,
  ⟨.BUL_LEASE_W1, 0xe00204, [(8, 16)], false, fun k _ _ => [BUL_LEASE_W1_END k]⟩]

def regsPWR : List RegDef := [
  ⟨.PWR_CTL, 0xe80000, [], false, fun _ _ _ => [PWR_CTL_WAKE_TRIES]⟩,
  ⟨.PWR_STATE, 0xe80004, [], false, fun _ _ _ => [PWR_STATE_CUR, PWR_STATE_TARGET, PWR_STATE_HELD, PWR_STATE_HELD_V, PWR_STATE_LAST_OP, PWR_STATE_STEP, PWR_STATE_RAISE]⟩,
  ⟨.PWR_REQ, 0xe80008, [], false, fun _ _ _ => [PWR_REQ_GO, PWR_REQ_SRC, PWR_REQ_CTRL, PWR_REQ_STATE]⟩,
  ⟨.PWR_STAT, 0xe8000c, [], false, fun _ _ _ => [PWR_STAT_HB_LOST, PWR_STAT_DIP5, PWR_STAT_DIP12, PWR_STAT_HELD, PWR_STAT_WAKE_FAIL, PWR_STAT_ROLLBACK, PWR_STAT_DONE]⟩,
  ⟨.PWR_IEN, 0xe80010, [], false, fun _ _ _ => [PWR_IEN_DIP5, PWR_IEN_DIP12, PWR_IEN_HELD, PWR_IEN_WAKE_FAIL, PWR_IEN_ROLLBACK, PWR_IEN_DONE]⟩,
  ⟨.PWR_REFUSE, 0xe80014, [], false, fun _ _ _ => [PWR_REFUSE_STEP, PWR_REFUSE_CAUSE, PWR_REFUSE_FROM, PWR_REFUSE_TO]⟩,
  ⟨.PWR_WAKE_SRC, 0xe80018, [], false, fun _ _ _ => [PWR_WAKE_SRC_SRC, PWR_WAKE_SRC_MS]⟩,
  ⟨.PWR_MON, 0xe80020, [(4, 2)], false, fun r _ _ => [PWR_MON_WARN_MV r, PWR_MON_RESET_MV r, PWR_MON_HYST r]⟩,
  ⟨.PWR_VMEAS, 0xe80028, [], false, fun _ _ _ => [PWR_VMEAS_V12, PWR_VMEAS_V5]⟩,
  ⟨.PWR_HU, 0xe8002c, [], false, fun _ _ _ => [PWR_HU_VHU]⟩,
  ⟨.PWR_STEP_TO, 0xe80030, [], false, fun _ _ _ => [PWR_STEP_TO_FLUSH_S, PWR_STEP_TO_SPIN_S, PWR_STEP_TO_STEP_MS]⟩,
  ⟨.PWR_DIPS, 0xe80034, [], false, fun _ _ _ => [PWR_DIPS_COUNT]⟩]

def regsCLK : List RegDef := [
  ⟨.CLK_CTL, 0xf00000, [], false, fun _ _ _ => [CLK_CTL_MON_EN, CLK_CTL_TOL, CLK_CTL_POL_PLL, CLK_CTL_POL_MXO]⟩,
  ⟨.CLK_SRC_STAT, 0xf00004, [], false, fun _ _ _ => [CLK_SRC_STAT_LOCK, CLK_SRC_STAT_STABLE, CLK_SRC_STAT_RUN]⟩,
  ⟨.CLK_STAT, 0xf00008, [], false, fun _ _ _ => [CLK_STAT_SW_REFUSED, CLK_STAT_ACC_TO, CLK_STAT_CHSYN_UNLOCK, CLK_STAT_REF_FAIL, CLK_STAT_SRC_FAIL, CLK_STAT_FRC_FAIL, CLK_STAT_PLL_FAIL, CLK_STAT_MXO_FAIL, CLK_STAT_COAST, CLK_STAT_CLK_FAIL]⟩,
  ⟨.CLK_IEN, 0xf0000c, [], false, fun _ _ _ => [CLK_IEN_SW_REFUSED, CLK_IEN_ACC_TO, CLK_IEN_CHSYN_UNLOCK, CLK_IEN_REF_FAIL, CLK_IEN_SRC_FAIL, CLK_IEN_FRC_FAIL, CLK_IEN_PLL_FAIL, CLK_IEN_MXO_FAIL, CLK_IEN_COAST]⟩,
  ⟨.CLK_MUX, 0xf00010, [(4, 8)], false, fun d _ _ => [CLK_MUX_BUSY d, CLK_MUX_SEL d]⟩,
  ⟨.CLK_FORCE, 0xf00030, [], false, fun _ _ _ => [CLK_FORCE_FORCE]⟩,
  ⟨.CLK_PLL, 0xf00040, [(4, 2)], false, fun p _ _ => [CLK_PLL_EN p, CLK_PLL_LOCK p, CLK_PLL_COASTING p, CLK_PLL_FREQ_MHZ p]⟩,
  ⟨.CLK_CHSYN, 0xf00050, [(4, 4)], false, fun n _ _ => [CLK_CHSYN_EN n, CLK_CHSYN_LOCK n, CLK_CHSYN_MHZ n]⟩,
  ⟨.CLK_GATE_FORCE, 0xf00060, [], false, fun _ _ _ => [CLK_GATE_FORCE_BLK]⟩,
  ⟨.CLK_GATE_STAT, 0xf00064, [], false, fun _ _ _ => [CLK_GATE_STAT_BLK]⟩,
  ⟨.CLK_TO_INFO, 0xf00068, [], false, fun _ _ _ => [CLK_TO_INFO_VALID, CLK_TO_INFO_SRC, CLK_TO_INFO_WR, CLK_TO_INFO_ADDR]⟩]

def regsTHM : List RegDef := [
  ⟨.THM_CTL, 0xf40000, [], false, fun _ _ _ => [THM_CTL_EN, THM_CTL_DIODE, THM_CTL_AUTO_RESUME, THM_CTL_RESUME, THM_CTL_EXCL]⟩,
  ⟨.THM_LIM, 0xf40004, [], false, fun _ _ _ => [THM_LIM_CRIT_C, THM_LIM_STOP_C, THM_LIM_WARN_C, THM_LIM_RESUME_C]⟩,
  ⟨.THM_RISE, 0xf40008, [], false, fun _ _ _ => [THM_RISE_RISE1, THM_RISE_RISE60, THM_RISE_FLOOR_C, THM_RISE_RO_MARGIN]⟩,
  ⟨.THM_STAT, 0xf4000c, [], false, fun _ _ _ => [THM_STAT_STATE, THM_STAT_RO_IN_USE, THM_STAT_CRIT_TRIP, THM_STAT_RESUMED, THM_STAT_STOP, THM_STAT_RISE60, THM_STAT_RISE1, THM_STAT_WARN, THM_STAT_IMPLAUS]⟩,
  ⟨.THM_IEN, 0xf40010, [], false, fun _ _ _ => [THM_IEN_RESUMED, THM_IEN_STOP, THM_IEN_RISE60, THM_IEN_RISE1, THM_IEN_WARN, THM_IEN_IMPLAUS, THM_IEN_RSV0]⟩,
  ⟨.THM_TMAX, 0xf40014, [], false, fun _ _ _ => [THM_TMAX_PEAK, THM_TMAX_SITE, THM_TMAX_TMAX]⟩,
  ⟨.THM_RISE_NOW, 0xf40018, [], false, fun _ _ _ => [THM_RISE_NOW_R61, THM_RISE_NOW_R1]⟩,
  ⟨.THM_SENS, 0xf40040, [(4, 16)], false, fun k _ _ => [THM_SENS_VALID k, THM_SENS_IMPLAUS k, THM_SENS_T k]⟩]

def regsCAL : List RegDef := [
  ⟨.CAL_CTL, 0xf80000, [], false, fun _ _ _ => [CAL_CTL_EN, CAL_CTL_MAXFAIL]⟩,
  ⟨.CAL_STAT, 0xf80004, [], false, fun _ _ _ => [CAL_STAT_HELD, CAL_STAT_ACC_DONE, CAL_STAT_APPLY_REFUSED, CAL_STAT_DUE]⟩,
  ⟨.CAL_IEN, 0xf80008, [], false, fun _ _ _ => [CAL_IEN_HELD, CAL_IEN_ACC_DONE, CAL_IEN_APPLY_REFUSED, CAL_IEN_DUE]⟩,
  ⟨.CAL_ITEM, 0xf80010, [(4, 5)], false, fun i _ _ => [CAL_ITEM_DELTA i, CAL_ITEM_SENSOR i, CAL_ITEM_DUE i]⟩,
  ⟨.CAL_HELD, 0xf80030, [(4, 5)], false, fun i _ _ => [CAL_HELD_HELD i]⟩,
  ⟨.CAL_LIM, 0xf80050, [(4, 5)], false, fun i _ _ => [CAL_LIM_STEP_MAX i, CAL_LIM_HI i, CAL_LIM_LO i]⟩,
  ⟨.CAL_DONE, 0xf80070, [], false, fun _ _ _ => [CAL_DONE_GO, CAL_DONE_ITEM, CAL_DONE_HEAD]⟩,
  ⟨.CAL_ACC_CTL, 0xf80080, [], false, fun _ _ _ => [CAL_ACC_CTL_GO, CAL_ACC_CTL_SRC, CAL_ACC_CTL_CH, CAL_ACC_CTL_READER, CAL_ACC_CTL_SLOT, CAL_ACC_CTL_LOG2N]⟩,
  ⟨.CAL_ACC_SUM, 0xf80084, [], false, fun _ _ _ => [CAL_ACC_SUM_VALUE]⟩,
  ⟨.CAL_ACC_SQ, 0xf80088, [], false, fun _ _ _ => [CAL_ACC_SQ_VALUE]⟩,
  ⟨.CAL_ACC_PEAK, 0xf8008c, [], false, fun _ _ _ => [CAL_ACC_PEAK_POS, CAL_ACC_PEAK_NEG]⟩,
  ⟨.CAL_ACC_CLIP, 0xf80090, [], false, fun _ _ _ => [CAL_ACC_CLIP_VALUE]⟩,
  ⟨.CAL_ACC_CNT, 0xf80094, [], false, fun _ _ _ => [CAL_ACC_CNT_VALUE]⟩,
  ⟨.CAL_APPLY_W0, 0xf800a0, [], true, fun _ _ _ => [CAL_APPLY_W0_TARGET, CAL_APPLY_W0_CH, CAL_APPLY_W0_READER, CAL_APPLY_W0_HEAD, CAL_APPLY_W0_RZ, CAL_APPLY_W0_TAP, CAL_APPLY_W0_SET]⟩,
  ⟨.CAL_APPLY_W1, 0xf800a4, [], true, fun _ _ _ => [CAL_APPLY_W1_RSV10, CAL_APPLY_W1_VALUE]⟩,
  ⟨.CAL_APPLY_RESP, 0xf800a8, [], true, fun _ _ _ => [CAL_APPLY_RESP_DONE, CAL_APPLY_RESP_RESULT]⟩,
  ⟨.CAL_HIST, 0xf80100, [(4, 64)], false, fun b _ _ => [CAL_HIST_COUNT b]⟩,
  ⟨.CAL_LAST, 0xf81000, [(0x20, 20), (4, 5)], false, fun h i _ => [CAL_LAST_VALID h i, CAL_LAST_FAILS h i, CAL_LAST_LAST_T h i]⟩]

def regsASY : List RegDef := [
  ⟨.ASY_CTL, 0x1400000, [], false, fun _ _ _ => [ASY_CTL_EN, ASY_CTL_DUTY]⟩,
  ⟨.ASY_CFG, 0x1400004, [], false, fun _ _ _ => [ASY_CFG_IDLE_US, ASY_CFG_VERIFY_D, ASY_CFG_WINDOW_S]⟩,
  ⟨.ASY_STAT, 0x1400008, [], false, fun _ _ _ => [ASY_STAT_STATE, ASY_STAT_SUB_REFUSED, ASY_STAT_SUB, ASY_STAT_FAIL, ASY_STAT_YIELD, ASY_STAT_PASS]⟩,
  ⟨.ASY_IEN, 0x140000c, [], false, fun _ _ _ => [ASY_IEN_SUB_REFUSED, ASY_IEN_SUB, ASY_IEN_FAIL, ASY_IEN_YIELD, ASY_IEN_PASS]⟩,
  ⟨.ASY_SEL, 0x1400010, [], false, fun _ _ _ => [ASY_SEL_TEN]⟩,
  ⟨.ASY_LAST, 0x1400014, [], false, fun _ _ _ => [ASY_LAST_TEST, ASY_LAST_RESULT, ASY_LAST_UNIT, ASY_LAST_DETAIL]⟩,
  ⟨.ASY_USED, 0x1400018, [], false, fun _ _ _ => [ASY_USED_US]⟩,
  ⟨.ASY_YIELD, 0x140001c, [], false, fun _ _ _ => [ASY_YIELD_WORST, ASY_YIELD_LAST]⟩,
  ⟨.ASY_CHSUB, 0x1400020, [], false, fun _ _ _ => [ASY_CHSUB_SUB]⟩]

def regsPAT : List RegDef := [
  ⟨.PAT_CTL, 0x1480000, [], false, fun _ _ _ => [PAT_CTL_EN, PAT_CTL_VAULT_EN]⟩,
  ⟨.PAT_STAT, 0x1480004, [], false, fun _ _ _ => [PAT_STAT_NEWEST, PAT_STAT_UNSAVED, PAT_STAT_LOST, PAT_STAT_VAULT_ERR, PAT_STAT_COPIED, PAT_STAT_REC]⟩,
  ⟨.PAT_IEN, 0x1480008, [], false, fun _ _ _ => [PAT_IEN_LOST, PAT_IEN_VAULT_ERR, PAT_IEN_COPIED, PAT_IEN_REC]⟩,
  ⟨.PAT_TEN, 0x148000c, [(4, 2)], false, fun j _ _ => [PAT_TEN_EN j]⟩,
  ⟨.PAT_OPSEC_LO, 0x1480014, [], false, fun _ _ _ => [PAT_OPSEC_LO_SEC]⟩,
  ⟨.PAT_OPSEC_HI, 0x1480018, [], false, fun _ _ _ => [PAT_OPSEC_HI_SEC]⟩,
  ⟨.PAT_PCC, 0x148001c, [], false, fun _ _ _ => [PAT_PCC_PCC]⟩,
  ⟨.PAT_SW, 0x1480020, [], false, fun _ _ _ => [PAT_SW_GO, PAT_SW_DETAIL]⟩,
  ⟨.PAT_LOST, 0x1480024, [], false, fun _ _ _ => [PAT_LOST_COUNT]⟩,
  ⟨.PAT_TSET, 0x1480040, [(4, 8)], false, fun j _ _ => [PAT_TSET_SET j]⟩,
  ⟨.PAT_SET, 0x1480100, [(0x40, 8), (4, 16)], false, fun s k _ => [PAT_SET_VALID s k, PAT_SET_WORD s k]⟩]

def regsSLD : List RegDef := [
  ⟨.SLD_CTL, 0x1500000, [], false, fun _ _ _ => [SLD_CTL_EN]⟩,
  ⟨.SLD_TOPO, 0x1500004, [], false, fun _ _ _ => [SLD_TOPO_XDIM_M1, SLD_TOPO_YDIM_M1, SLD_TOPO_NODE]⟩,
  ⟨.SLD_CFG, 0x1500008, [], false, fun _ _ _ => [SLD_CFG_PERMIT_MA, SLD_CFG_PIECE_MS, SLD_CFG_COPY_MS]⟩,
  ⟨.SLD_STAT, 0x150000c, [], false, fun _ _ _ => [SLD_STAT_PERMIT_WAIT, SLD_STAT_MB_DENIED, SLD_STAT_RXQ, SLD_STAT_COPY_DONE, SLD_STAT_MISWIRE, SLD_STAT_LINK_DOWN, SLD_STAT_LINK_UP]⟩,
  ⟨.SLD_IEN, 0x1500010, [], false, fun _ _ _ => [SLD_IEN_PERMIT_WAIT, SLD_IEN_MB_DENIED, SLD_IEN_RXQ, SLD_IEN_COPY_DONE, SLD_IEN_MISWIRE, SLD_IEN_LINK_DOWN, SLD_IEN_LINK_UP]⟩,
  ⟨.SLD_MB_CFG, 0x1500014, [], false, fun _ _ _ => [SLD_MB_CFG_RD_EN, SLD_MB_CFG_WR_EN, SLD_MB_CFG_TO_US]⟩,
  ⟨.SLD_MB_WMASK, 0x1500018, [], false, fun _ _ _ => [SLD_MB_WMASK_MWE]⟩,
  ⟨.SLD_MB_W, 0x1500020, [(4, 3)], true, fun w _ _ => [SLD_MB_W w]⟩,
  ⟨.SLD_MB_RESP, 0x150002c, [], true, fun _ _ _ => [SLD_MB_RESP_DONE, SLD_MB_RESP_STATUS]⟩,
  ⟨.SLD_MB_RDATA, 0x1500030, [], true, fun _ _ _ => [SLD_MB_RDATA_DATA]⟩,
  ⟨.SLD_MSG_W, 0x1500040, [(4, 3)], true, fun w _ _ => [SLD_MSG_W w]⟩,
  ⟨.SLD_MSG_RESP, 0x150004c, [], true, fun _ _ _ => [SLD_MSG_RESP_DONE, SLD_MSG_RESP_RESULT]⟩,
  ⟨.SLD_RXQ_W, 0x1500050, [(4, 3)], false, fun w _ _ => [SLD_RXQ_W w]⟩,
  ⟨.SLD_RXQ_POP, 0x150005c, [], false, fun _ _ _ => [SLD_RXQ_POP_POP]⟩,
  ⟨.SLD_CP_W, 0x1500060, [(4, 4)], true, fun w _ _ => [SLD_CP_W w]⟩,
  ⟨.SLD_CP_RESP, 0x1500070, [], true, fun _ _ _ => [SLD_CP_RESP_DONE, SLD_CP_RESP_COPY_ID, SLD_CP_RESP_RESULT]⟩,
  ⟨.SLD_CP_CQ_W0, 0x1500074, [], false, fun _ _ _ => [SLD_CP_CQ_W0_VALID, SLD_CP_CQ_W0_STATUS, SLD_CP_CQ_W0_TAG]⟩,
  ⟨.SLD_CP_CQ_POP, 0x1500078, [], false, fun _ _ _ => [SLD_CP_CQ_POP_POP]⟩,
  ⟨.SLD_UNREACH, 0x150007c, [], false, fun _ _ _ => [SLD_UNREACH_COUNT]⟩,
  ⟨.SLD_P_CTL, 0x1500100, [(0x40, 4)], false, fun p _ _ => [SLD_P_CTL_EN p, SLD_P_CTL_PRBS p]⟩,
  ⟨.SLD_P_STAT, 0x1500104, [(0x40, 4)], false, fun p _ _ => [SLD_P_STAT_STATE p, SLD_P_STAT_PEER_PORT p, SLD_P_STAT_PEER_NODE p]⟩,
  ⟨.SLD_P_FEC_CORR, 0x1500108, [(0x40, 4)], false, fun p _ _ => [SLD_P_FEC_CORR_COUNT p]⟩,
  ⟨.SLD_P_FEC_UNC, 0x150010c, [(0x40, 4)], false, fun p _ _ => [SLD_P_FEC_UNC_COUNT p]⟩,
  ⟨.SLD_P_REPLAY, 0x1500110, [(0x40, 4)], false, fun p _ _ => [SLD_P_REPLAY_COUNT p]⟩,
  ⟨.SLD_P_ERR, 0x1500114, [(0x40, 4)], false, fun p _ _ => [SLD_P_ERR_COUNT p]⟩,
  ⟨.SLD_P_PRBS_ERR, 0x1500118, [(0x40, 4)], false, fun p _ _ => [SLD_P_PRBS_ERR_COUNT p]⟩]

def regsSEC : List RegDef := [
  ⟨.SEC_LOCK, 0x1600000, [], false, fun _ _ _ => [SEC_LOCK_LOCK]⟩,
  ⟨.SEC_STAT, 0x1600004, [], false, fun _ _ _ => [SEC_STAT_SLOT, SEC_STAT_KEY_IDX, SEC_STAT_DBG_UNLOCKED, SEC_STAT_DBG_FUSED, SEC_STAT_RBCNT, SEC_STAT_SIG_FAIL, SEC_STAT_RB_ADV, SEC_STAT_KEY_DONE, SEC_STAT_ATT_DONE]⟩,
  ⟨.SEC_BOOT, 0x1600008, [], false, fun _ _ _ => [SEC_BOOT_TRIAL, SEC_BOOT_SKIP]⟩,
  ⟨.SEC_KEYREV, 0x160000c, [], false, fun _ _ _ => [SEC_KEYREV_REVOKED]⟩,
  ⟨.SEC_FUSE_CMD, 0x1600010, [], false, fun _ _ _ => [SEC_FUSE_CMD_GO, SEC_FUSE_CMD_RESULT, SEC_FUSE_CMD_OP, SEC_FUSE_CMD_VALUE]⟩,
  ⟨.SEC_VFY_ADDR, 0x1600020, [], false, fun _ _ _ => [SEC_VFY_ADDR_ADDR]⟩,
  ⟨.SEC_VFY_CTL, 0x1600024, [], false, fun _ _ _ => [SEC_VFY_CTL_GO, SEC_VFY_CTL_RESULT, SEC_VFY_CTL_SVN]⟩,
  ⟨.SEC_ATT_ADDR, 0x1600030, [], false, fun _ _ _ => [SEC_ATT_ADDR_ADDR]⟩,
  ⟨.SEC_ATT_CTL, 0x1600034, [], false, fun _ _ _ => [SEC_ATT_CTL_GO, SEC_ATT_CTL_BUSY]⟩,
  ⟨.SEC_KEY_CMD, 0x1600040, [], false, fun _ _ _ => [SEC_KEY_CMD_GO, SEC_KEY_CMD_RESULT, SEC_KEY_CMD_OP, SEC_KEY_CMD_NS]⟩,
  ⟨.SEC_KEYSTORE, 0x1600044, [], false, fun _ _ _ => [SEC_KEYSTORE_BLOCK1, SEC_KEYSTORE_BLOCK0]⟩,
  ⟨.SEC_NSKEY, 0x1600050, [(4, 4)], false, fun m _ _ => [SEC_NSKEY_ENC m, SEC_NSKEY_LOADED m, SEC_NSKEY_GEN m]⟩,
  ⟨.SEC_DBG_CTL, 0x1600060, [], false, fun _ _ _ => [SEC_DBG_CTL_GO, SEC_DBG_CTL_RESULT, SEC_DBG_CTL_ADDR]⟩,
  ⟨.SEC_DBG_CHAL, 0x1600070, [(4, 8)], false, fun k _ _ => [SEC_DBG_CHAL_NONCE k]⟩]

def regsRST : List RegDef := [
  ⟨.RST_CAUSE, 0x1680000, [], false, fun _ _ _ => [RST_CAUSE_LAST, RST_CAUSE_SAVE_RAN, RST_CAUSE_SEEN]⟩,
  ⟨.RST_CTL, 0x1680004, [], false, fun _ _ _ => [RST_CTL_FATAL, RST_CTL_FLT_REL, RST_CTL_CORE_REL]⟩,
  ⟨.RST_WDT, 0x1680008, [], false, fun _ _ _ => [RST_WDT_EN, RST_WDT_PERIOD_MS]⟩,
  ⟨.RST_WDT_KICK, 0x168000c, [], false, fun _ _ _ => [RST_WDT_KICK_KICK]⟩,
  ⟨.RST_WDT_LEFT, 0x1680010, [], false, fun _ _ _ => [RST_WDT_LEFT_MS]⟩,
  ⟨.RST_DEVCNT, 0x1680014, [], false, fun _ _ _ => [RST_DEVCNT_WDT, RST_DEVCNT_DEV]⟩,
  ⟨.RST_PORT, 0x1680018, [], false, fun _ _ _ => [RST_PORT_PERST, RST_PORT_CNT1, RST_PORT_CNT0]⟩]

end Sys2Proof.Machine
end

