-- ==== Sys2Proof/Machine/Bits.lean ====
section
/-!
DEFINITION. Bit fields, two's complement and rounding: the arithmetic that the chapters share.
-/
namespace Sys2Proof.Machine

/-- Bits [lo + w − 1 : lo] of `v`. -/
def bits (v lo w : Nat) : Nat := v / 2 ^ lo % 2 ^ w

/-- Bit `i` of `v`. -/
def bitOf (v i : Nat) : Bool := v / 2 ^ i % 2 == 1

/-- `v` with bit `i` set. -/
def setBit (v i : Nat) : Nat := if bitOf v i then v else v + 2 ^ i

/-- `v` with bit `i` cleared. -/
def clrBit (v i : Nat) : Nat := if bitOf v i then v - 2 ^ i else v

/-- `v` with bit `i` put to `b`. -/
def putBit (v i : Nat) (b : Bool) : Nat := if b then setBit v i else clrBit v i

/-- `v` with bits [lo + w − 1 : lo] replaced by `x`. -/
def putBits (v lo w x : Nat) : Nat :=
  v % 2 ^ lo + x % 2 ^ w * 2 ^ lo + v / 2 ^ (lo + w) * 2 ^ (lo + w)

/-- 1 for true, 0 for false. -/
def b2n (b : Bool) : Nat := if b then 1 else 0

/-- The two's complement value of the `w`-bit pattern `v`. -/
def sgn (w v : Nat) : Int := if v < 2 ^ (w - 1) then (v : Int) else (v : Int) - 2 ^ w

/-- The `w`-bit two's complement pattern of `i`. -/
def unsgn (w : Nat) (i : Int) : Nat := (i % 2 ^ w).toNat

/-- The number of 1 bits among the low `w` bits of `v`. -/
def popcount : Nat → Nat → Nat
  | 0, _ => 0
  | w + 1, v => v % 2 + popcount w (v / 2)

/-- The lowest `i < w` whose bit of `v` is set. -/
def lowestBit (w v : Nat) : Option Nat := (List.range w).find? (bitOf v)

/-- `min`, with the name the manual uses: a count that stops at its largest value. -/
def sat (w v : Nat) : Nat := min v (2 ^ w - 1)

/-- Ceiling of a quotient. -/
def ceilDiv (a b : Nat) : Nat := (a + b - 1) / b

/-- `a` saturated to the range of a `w`-bit two's complement number. -/
def satInt (w : Nat) (a : Int) : Int := max (-(2 ^ (w - 1))) (min a (2 ^ (w - 1) - 1))

/-- The quotient rounded to the nearest integer, halves away from zero. -/
def roundDiv (a : Int) (b : Nat) : Int :=
  if a < 0 then -((((-a).toNat * 2 + b) / (2 * b) : Nat) : Int) else ((a.toNat * 2 + b) / (2 * b) : Nat)

/-- Element `i` of a vector, changed by `f`. -/
def vmod {α : Type} {n : Nat} (v : Vector α n) (i : Fin n) (f : α → α) : Vector α n := v.set i (f v[i])

end Sys2Proof.Machine
end

