-- ==== Sys2Proof/Machine/State.lean ====
section
/-!
DEFINITION. The state of the Aktan as plain data: every register (one sparse store keyed by field, `Machine/RegMap.lean`),
every queue, buffer, accumulator, timer, mode and pin the manual gives the part, and the queue of waiting commands.
-/
namespace Sys2Proof.Machine
/-! ### Invar and Quench (02_angle_time.md) -/

/-- The actions a ring entry can carry (R49). -/
inductive RingClass where
  | wgOpen | wgClose | aeOn | aeOff | rgOpen | rgClose | quietOpen | quietClose | engWake | dmaStart | coreIrq | commut
  deriving DecidableEq, Repr, Inhabited

/-- One pending entry of an event ring (R49): the 64-bit stamp (R6), the class, CHAN, TAGGED, LATE_DROP, PARAM and
TAG. -/
structure RingEntry where
  stamp : Nat
  cls : RingClass
  chan : Bool
  tagged : Bool
  lateDrop : Bool
  param : Nat
  tag : Nat
  deriving DecidableEq, Repr, Inhabited

/-- The counts of wedges towards and away from lock of the head on one surface (R38): good wedges in a row, bad wedges
in a row, and the index last read with a passing check since the lane began to demodulate the head. -/
structure LockRun where
  good : Nat
  bad : Nat
  lastIdx : Option Nat
  deriving DecidableEq, Repr, Inhabited

/-- Invar apart from its registers. `now` is the angle stamp (R6), `cnt` the count of ticks of R441, `wall` the wall counter in ns (R58), `slew` the phase
error that the running slew still has to remove (R41) and `slewAcc` the ticks counted towards its next correction of
one tick, `frac` the remainder of the tick division, `prim` the surface of the primary head (R39), `held` the skew of
the primary's surface that stays in force until that head's next sync (R46). `ring` holds the entries of rings A and B
in firing order (R48, R55); `rg` the read gates; `quiet` and `quietWait` the open and the deferred quiet windows per channel (R57);
`capNow` and `capWall` the 64-bit captures per
requester bank; `shockBad` whether a shock sample of the present wedge was beyond the thresholds (R443). -/
structure Inv where
  now : Nat
  cnt : Nat
  wall : Nat
  slew : Int
  slewAcc : Nat
  frac : Nat
  prim : Option Nat
  held : Option Nat
  locks : Vector LockRun 32
  ring : Vector (List RingEntry) 2
  rg : Vector Bool 4
  quiet : Vector Bool 4
  quietWait : Vector Bool 4
  capNow : Tab Nat
  capWall : Tab Nat
  shockBad : Bool
  deriving DecidableEq, Repr, Inhabited

/-- One record of a rewrite FIFO (R62, R64). -/
structure RwRec where
  reason : Nat
  part : Bool
  pesSign : Bool
  tag : Nat
  angle : Nat
  deriving DecidableEq, Repr, Inhabited

/-- The counts of good wedges towards the automatic releases of R60 and R443: triggers 000b, 001b, 010b and 100b. -/
structure RelCount where
  pes : Nat
  miss : Nat
  shock : Nat
  angle : Nat
  deriving DecidableEq, Repr, Inhabited

/-- Quench apart from its registers. Per actuator: `trig` the mask of triggers that hold it (R60), `cond` the mask of
the conditions 000b to 100b present now, `rel` the release counts, `engHold` whether ENG holds the request for a role
without an engine (R295, R440). `clkHold` marks the channels whose synthesizer raised trigger 111b and is still out of
lock (R440). `fifo` is the rewrite FIFO of each channel (R62). -/
structure Qch where
  trig : Vector Nat 2
  cond : Vector Nat 2
  rel : Vector RelCount 2
  engHold : Vector Bool 2
  clkHold : Vector Bool 4
  fifo : Vector (List RwRec) 4
  deriving DecidableEq, Repr, Inhabited
/-! ### Babbitt (03_spindle.md) -/

/-- What the spindle bridge does (R70, R81). -/
inductive Bridge where
  | float | drive | short | rectSync | rectPassive
  deriving DecidableEq, Repr, Inhabited

/-- Babbitt apart from its registers: accepted crossings in a row (R67), the commutation step driven (R65), the bridge,
whether BRAKE was entered from STOPPING, its minimum time in ms, whether the permit has been held throughout the present
spin-up (R77), whether a SLEW waits for the dirty cap (R80), ambiguous LOCATE attempts, whether LOCATE waits its 20 ms,
whether REACQ has failed and waits for the actuators to park (R76), and revolutions in a row within 0.1 % of TARGET. -/
structure Spn where
  run : Nat
  step : Nat
  bridge : Bridge
  stopBrake : Bool
  minMs : Nat
  win : Bool
  slewWait : Bool
  ambig : Nat
  locWait : Bool
  parkWait : Bool
  atRun : Nat
  deriving DecidableEq, Repr, Inhabited
/-! ### Servo and actuators (04_servo_actuators.md) -/

/-- The two past inputs and outputs of a biquad (R89), as exact numbers. -/
structure Biquad where
  x1 : Rat
  x2 : Rat
  y1 : Rat
  y2 : Rat
  deriving DecidableEq, Repr, Inhabited

/-- One demodulator lane: the head its preamp channel has selected (15 none), whether a head select is settling (R100)
and whether the microactuator is being slewed to 0 V for one (R99), the outcome of the last two SAM searches (newest
first, R91), the wedge index last read, the last position (R85), accepted and rejected track numbers in a row, whether
the last wedge formed a position word within the Quench limit (R443), position words at the microactuator limit (R94),
and the filter state of the microactuator stage. -/
structure Lane where
  sel : Nat
  settling : Bool
  zeroing : Bool
  found : Bool
  foundPrev : Bool
  idx : Nat
  pos : Option Nat
  acc : Nat
  rej : Nat
  wordOk : Bool
  limRun : Nat
  filt : Vector Biquad 2
  deriving DecidableEq, Repr, Inhabited

/-- The source of a preamp frame (R98, R99, R133). -/
inductive PaKind where
  | faultRead | idRead | headSelect (lane : Fin 2) | modeActive | modeIdle | modeSleep | command
  | temper (ch : Fin 4) (final : Bool)
  deriving DecidableEq, Repr, Inhabited

/-- A preamp serial frame (R96). -/
structure PaFrame where
  kind : PaKind
  rd : Bool
  addr : Nat
  data : Nat
  deriving DecidableEq, Repr, Inhabited

/-- One servo page: its lanes, the filter state of the VCM stage, the two coefficient banks (R90), the frame being sent,
the frames queued and those waiting with their sources for a place (R99), whether the ID read found no preamp (R98),
the seek's profile, the count of ticks at GO, the counts of SETTLE, whether the seek's grant has expired (R104), whether
a lead handover waits (R91), and misses in a row of the lead lane. -/
structure Srv where
  lanes : Vector Lane 2
  vcm : Vector Biquad 4
  bank0 : Tab Nat
  bank1 : Tab Nat
  sending : Option PaFrame
  queue : List PaFrame
  wait : List PaFrame
  noPreamp : Bool
  prof : Nat
  seekAt : Nat
  settleRun : Nat
  settleCnt : Nat
  expired : Bool
  handover : Bool
  leadMiss : Nat
  deriving DecidableEq, Repr, Inhabited

/-- One actuator's drive on the power die: the VCM current code in mA (R109) and the stage's output before the shock
feedforward, whether both VCM terminals are clamped low,
whether LOADING waits for the MODE active frame (R106), and whether a retract has reached its hold phase (R107). -/
structure Act where
  vcm : Int
  base : Int
  clamp : Bool
  modeWait : Bool
  holdPhase : Bool
  deriving DecidableEq, Repr, Inhabited

/-- The shock sensor as SRV and Quench use it: whether free fall has acted and waits to re-arm, and whether the
last sample of every linear axis lay within ±2 counts (R92). -/
structure Shock where
  fell : Bool
  calm : Bool
  deriving DecidableEq, Repr, Inhabited
/-! ### The write path (05_write_path.md) -/

/-- A write descriptor (R121) with the rate-zone values, CAP and WR_START it latched at its commit, whether it is ready, how many
fragments have been written, and the buffered frame: the information part of the codeword as a number of 33,024 bits,
first bit sent most significant (R112). -/
structure WDesc where
  pmode : Nat
  tag : Nat
  head : Nat
  rz : Nat
  startWedge : Nat
  slot : Nat
  startBit : Nat
  md : Bool
  dataAddr : Nat
  mdAddr : Nat
  hlba : Nat
  ns : Nat
  kind : Nat
  seq : Nat
  code : Nat
  bpw : Nat
  pc1 : Nat
  pc2 : Nat
  cap : Nat
  wrStart : Nat
  ready : Bool
  done : Nat
  info : Nat
  deriving DecidableEq, Repr, Inhabited

/-- One write channel apart from its registers: the descriptor queue (oldest first), the frame TAG and fragment index
whose gate is open, the completions (STATUS, TAG) held, the TAGs of the last abandoned frames (R126, oldest first), the
parity accumulator of 4,116 bytes as a number and its SLOT_MASK (R120), the assist state (R128), the REHEAT of the TPR
entry last sent, and the frames of a SEND that Temper has still to queue with SRV, as (address, data) (R133), and the failed rewrite attempts per slot (R135). -/
structure WChan where
  queue : List WDesc
  gate : Option (Nat × Nat)
  cq : List (Nat × Nat)
  abandoned : List Nat
  acc : Nat
  mask : Nat
  assist : Bool
  reheat : Nat
  tries : Tab Nat
  tprLeft : List (Nat × Nat)
  deriving DecidableEq, Repr, Inhabited

/-! ### The read path (06_read_path.md) -/

/-- A read descriptor (R146): the fields it shares with a write descriptor, with the rate-zone values of its commit, and
CHK. -/
structure RDesc where
  w : WDesc
  chk : Bool
  deriving DecidableEq, Repr, Inhabited

/-- A sample slot (R156): the order of its capture (0 when never used), the descriptor, the stamp of the first sample,
the offset in bits of the frame's mark (none when missed) and of each resync mark, the predicted position (R150), HEAD,
RZ and LOCAL_MAX of the active set, whether an asperity was flagged (R143), and the samples as one number, 12 bits each. -/
structure RSlot where
  seq : Nat
  desc : RDesc
  stamp : Nat
  mark : Option Int
  rs : List (Option Int)
  pred : Int
  head : Nat
  rz : Nat
  localMax : Nat
  ta : Bool
  samples : Nat
  deriving DecidableEq, Repr, Inhabited

/-- A read completion, as RCH_CQ_W0 to W2 show it (R155). -/
structure RCompl where
  status : Nat
  tag : Nat
  giter : Nat
  liter : Nat
  ofs : Int
  slot : Nat
  unsat : Nat
  ta : Bool
  pin : Bool
  ns : Nat
  kind : Nat
  deriving DecidableEq, Repr, Inhabited

/-- One read channel apart from its registers: the descriptors queued, the capture spans open with the slot each has taken (TAG,
slot; R156), the slots of the frames that wait for the in-line
decoder and of the one in decode (R154), the completions held, the sample slots and the mask of pinned ones, captures
made, the parity accumulator with its mask and parity bit (R162), the active equaliser taps (R144), and the angle in
ticks at which RCH_FRAME_OFS was recorded (R150). -/
structure RChan where
  queue : List RDesc
  opens : List (Nat × Nat)
  wait : List Nat
  cur : Option Nat
  cq : List RCompl
  slots : Tab RSlot
  pins : Nat
  seq : Nat
  acc : Nat
  mask : Nat
  par : Bool
  taps : Tab Nat
  ofsAt : Nat
  deriving DecidableEq, Repr, Inhabited

/-- A deep-decoder job (R158). -/
structure DJob where
  mode : Nat
  ch : Fin 4
  release : Bool
  slot : Nat
  slot2 : Nat
  gmax : Nat
  prio : Bool
  tag : Nat
  deriving DecidableEq, Repr, Inhabited

/-- A deep completion, as RCH_DJ_CQ_W0 and W1 show it. -/
structure DCompl where
  dec : Nat
  status : Nat
  ch : Nat
  slot : Nat
  ofs : Int
  giter : Nat
  mode : Nat
  tag : Nat
  deriving DecidableEq, Repr, Inhabited

/-- The deep decoders (R158): jobs queued in commit order, the job each decoder runs with the angle in ticks at which it
started (R164), and the completions held. -/
structure Deep where
  jobs : List DJob
  run : Vector (Option (DJob × Nat)) 6
  cq : List DCompl
  deriving DecidableEq, Repr, Inhabited
/-! ### Translation (07_translation.md) -/

/-- A line of the extent cache: its line address, its 64 bytes as a little-endian number, and its lock (R187, R188). -/
structure XLine where
  line : Nat
  data : Nat
  locked : Bool
  deriving DecidableEq, Repr, Inhabited

/-- A lookup committed (R174), and whether it waits for the record being applied to its chunk. -/
structure Lookup where
  ns : Nat
  tag : Nat
  lba : Nat
  countM1 : Nat
  segref : Bool
  list : Nat
  waits : Bool
  deriving DecidableEq, Repr, Inhabited

/-- A lookup completion, as XLT_LK_CQ_W0 and W1 show it (R175). -/
structure LkCompl where
  status : Nat
  tag : Nat
  frags : Nat
  next : Nat
  deriving DecidableEq, Repr, Inhabited

/-- XLT and XCC apart from their registers: lookups under way, completions held, the DRAM address of the record being
applied (R179), the main array keyed by set × 8 + way, the eviction buffer and the victim cache, newest first (R187). -/
structure Xlt where
  lookups : List Lookup
  cq : List LkCompl
  applying : Option Nat
  main : Tab (Option XLine)
  evb : List XLine
  vic : List XLine
  deriving DecidableEq, Repr, Inhabited

/-- A band-table entry (07_translation.md, Bands on the media). -/
structure Band where
  firstTrk : Nat
  ntrk : Nat
  surf : Nat
  type : Nat
  rz : Nat
  relocs : Nat
  live : Nat
  wp : Nat
  deriving DecidableEq, Repr, Inhabited

/-- A checkpoint (R185): the JSEQ and the SEQ when it began, the bytes of the pool and of the chunk table by window
offset, and the band table. -/
structure Ckpt where
  jseq : Nat
  seq : Nat
  map : Tab Byte
  bands : Tab Band
  deriving DecidableEq, Repr, Inhabited

/-- What role XL1 keeps: the present write sequence SEQ (R171), the band table by PBN, and the checkpoints of the two vault
slots (0, 1) and of the map-copy units on surfaces 0 and 10 (2, 3). -/
structure Xl1 where
  seq : Nat
  bands : Tab Band
  ckpts : Vector (Option Ckpt) 4
  deriving DecidableEq, Repr, Inhabited
/-! ### Compression (08_compression.md) -/

/-- A context of an engine (R195, R196): whether it is valid, its direction (true: decompress), whether its stream is
finished, the decompressor's place with its last-block flag, stored bytes left, code lengths and match, the bits pending
(first first), the history (newest byte first), the chain's totals, and the running CRC-32C register. -/
structure CCtx where
  valid : Bool
  dir : Bool
  fin : Bool
  blk : Nat
  bfinal : Bool
  left : Nat
  lens : List Nat
  mlen : Nat
  mdist : Nat
  pend : List Bool
  hist : List Nat
  inTotal : Nat
  outTotal : Nat
  crc : Nat
  deriving DecidableEq, Repr, Inhabited

/-- A compression job (R197). -/
structure CJob where
  op : Nat
  ctx : Fin 2
  cont : Bool
  restore : Bool
  save : Bool
  final : Bool
  stop : Bool
  prio : Bool
  tables : Nat
  level : Nat
  tag : Nat
  src : Nat
  srcLen : Nat
  dst : Nat
  dstLen : Nat
  state : Nat
  skip : Nat
  deriving DecidableEq, Repr, Inhabited

/-- A compression completion, as CMP_CQ_W0 to W3 show it. -/
structure CCompl where
  eng : Nat
  status : Nat
  tag : Nat
  outBytes : Nat
  inBytes : Nat
  crc : Nat
  deriving DecidableEq, Repr, Inhabited

/-- One engine: jobs queued (oldest first), the running job, its contexts, and the bytes not yet counted as a whole KiB of
input and of output. -/
structure CEng where
  queue : List CJob
  run : Option CJob
  ctx : Vector CCtx 2
  inRem : Nat
  outRem : Nat
  deriving DecidableEq, Repr, Inhabited

/-- Both engines and the completions held. -/
structure Cmp where
  eng : Vector CEng 2
  cq : List CCompl
  deriving DecidableEq, Repr, Inhabited
/-! ### Host interface (09_host_queues.md) -/

/-- Where a fetched command stands (R226): waiting for admission, admitted, or granted. -/
inductive CmdSt where
  | waiting | admitted | granted
  deriving DecidableEq, Repr, Inhabited

/-- A status of R231: SCT, SC, CRD and DNR. -/
structure HStat where
  sct : Nat
  sc : Nat
  crd : Nat
  dnr : Bool
  deriving DecidableEq, Repr, Inhabited

/-- A piece of a read as its grant found it (R19): sectors from `ofs` of the command, and where they are (LOC of R170, and
ADDR adjusted; 0 a gap), UNREC, and whether the map could not be read there. -/
structure Piece where
  ofs : Nat
  n : Nat
  loc : Nat
  addr : Nat
  unrec : Bool
  bad : Bool
  deriving DecidableEq, Repr, Inhabited

/-- A command fetched and not committed: controller, queue, its submission entry, whether it was fetched in Strict Error
Mode, its class of R227 (0 none, 1 R, 2 W, 3 A) and LBA ranges (first, count), where it stands, the write pointers of its
zones at its admission (R228), the number of its grant, the pieces its grant found, its outcome once there is one, DW0
and DW1 of its completion, the number of the last record that changes the map for it, the units its data lies in, and
the command its completion follows (R238). -/
structure HCmd where
  ctl : Fin 2
  sq : Nat
  e : Sqe
  strict : Bool
  cls : Nat
  ranges : List (Nat × Nat)
  st : CmdSt
  wps : List (Nat × Nat)
  gseq : Nat
  pieces : List Piece
  status : Option HStat
  dw0 : Nat
  jseq : Nat
  units : List Nat
  failLba : Nat
  follows : Option (Nat × Nat)
  deriving DecidableEq, Repr, Inhabited

/-- The Frozen Queue record of a queue (R235): FAILURES, CID, STATUS, ERR_COUNT and WALL_NS. -/
structure Frozen where
  failures : Nat
  cid : Nat
  status : Nat
  errCount : Nat
  wall : Nat
  deriving DecidableEq, Repr, Inhabited

/-- A submission queue (R216, R234): its size and completion queue, head and tail, Strict Error Mode, the freeze, and the
CID of the Delete I/O SQ that waits for its commands; a submission queue's place in the arbitration is an operand. -/
structure Sq where
  id : Nat
  size : Nat
  cq : Nat
  head : Nat
  tail : Nat
  strict : Bool
  frozen : Option Frozen
  deleting : Option Nat
  deriving DecidableEq, Repr, Inhabited

/-- A completion entry: DW0, SQID, CID and DW3[31:16] without the phase. -/
structure Cqe where
  dw0 : Nat
  sq : Nat
  cid : Nat
  status : Nat
  deriving DecidableEq, Repr, Inhabited

/-- A completion queue with the entries the writer holds for it (R221), its interrupt enable and vector. `tail` counts the
entries posted modulo twice the size: the phase is 1b in its first half. -/
structure Cq where
  id : Nat
  size : Nat
  head : Nat
  tail : Nat
  ien : Bool
  vector : Nat
  wait : List Cqe
  deriving DecidableEq, Repr, Inhabited

/-- An Error Information entry (R231): Error Count, SQID, CID, status and the first failing LBA of a media error. -/
structure ErrEntry where
  count : Nat
  sq : Nat
  cid : Nat
  status : Nat
  lba : Nat
  deriving DecidableEq, Repr, Inhabited

/-- A controller: its queues, the memory page size of CC, the shutdown status SHST, the Error Count and log (newest first),
the feature values set, the CIDs of Asynchronous Event Requests outstanding, the events not yet reported, the zones of the
Changed Zone List, and doorbells recorded during activation (SQ or CQ, queue, value). -/
structure Ctrl where
  sqs : List Sq
  cqs : List Cq
  ams : Nat
  shst : Nat
  errCount : Nat
  errLog : List ErrEntry
  feats : Tab (Option Nat)
  aers : List Nat
  events : List Nat
  zones : List Nat
  late : List (Bool × Nat × Nat)
  deriving DecidableEq, Repr, Inhabited

/-- A namespace as the host sees it (R213, R245): whether it exists, its size in LBAs, the controllers it is attached to,
LBA format, extended metadata, protection type and PIL. -/
structure NsInfo where
  live : Bool
  size : Nat
  attached : Nat
  fmt : Nat
  ext : Bool
  pi : Nat
  pil : Bool
  deriving DecidableEq, Repr, Inhabited

/-- HIF and RLT apart from their registers: the controllers, the commands fetched and not committed in fetch order, the
namespaces, whether admission is paused, the doorbell lines of the HQ roles and the host DMA line of BF0 (R284), the
commands committed last with their wall-counter instant (R238), the firmware activation under way (R241: its slot, its
Firmware Commit and its start), whether each port is in L1.2, the writes committed whose durability under R224 is not yet
seen, as (NS, JSEQ, units), the grants made, the bytes of Firmware Image Download, and the
NVMe-MI status of the last second (R212): flags, warnings, temperature and percentage used. -/
structure Hif where
  ctrl : Vector Ctrl 2
  cmds : List HCmd
  ns : Vector NsInfo 4
  full : Bool
  bell : Vector Bool 2
  dmaLine : Bool
  l12 : Vector Bool 2
  lastCommit : List (Fin 2 × Nat × Nat)
  lastAt : Nat
  writes : List (Nat × Nat × List Nat)
  grants : Nat
  fw : Tab Byte
  mi : Nat × Nat × Nat × Nat
  act : Option (Nat × HCmd × Nat)
  deriving DecidableEq, Repr, Inhabited

/-! ### Buffer, memory protection and vault (10_buffer_memory.md) -/

/-- The state of an allocated buffer unit (R250): DIRTY and the reference count. -/
structure BUnit where
  dirty : Bool
  ref : Nat
  deriving DecidableEq, Repr, Inhabited

/-- BUF apart from its registers: the allocated units of the pool, keyed by unit address. -/
structure Buf where
  units : Tab BUnit
  deriving DecidableEq, Repr, Inhabited

/-- MEM apart from its registers: the next line of the patrol scrubber (R249) and the rows mapped to spares at run
time, as (array, row) (R264). -/
structure Mem where
  scrub : Nat
  rows : List (Nat × Nat)
  deriving DecidableEq, Repr, Inhabited

/-- A page of the vault as programmed: 16,384 data bytes and 64 spare bytes, as little-endian numbers. -/
structure VPage where
  data : Nat
  spare : Nat
  deriving DecidableEq, Repr, Inhabited

/-- A vault command (R267). -/
structure VCmd where
  op : Nat
  tag : Nat
  block : Nat
  page : Nat
  data : Nat
  spare : Nat
  deriving DecidableEq, Repr, Inhabited

/-- The vault: its programmed pages, keyed by block × 256 + page (an unlisted page is erased), the commands queued, the
completions (STATUS, TAG, MAXBITS) held, pages programmed in the save-area block in use (R268), whether a save runs,
and the snapshot of the units it saves (R270). -/
structure Vlt where
  pages : Tab (Option VPage)
  queue : List VCmd
  cq : List (Nat × Nat × Nat)
  used : Nat
  saving : Bool
  snap : List Nat
  deriving DecidableEq, Repr, Inhabited
/-! ### Engines (11_engines.md) -/

/-- A staged effect of an engine level (R287): a bus write, or an EVOP action (R284). -/
inductive Eff where
  | write (addr val : Nat)
  | ack (src : Nat)
  | signal (role : Nat)
  | raise (core vector : Nat)
  deriving DecidableEq, Repr, Inhabited

/-- What a level of an engine keeps (R287 to R290): the staged writes and actions, the staged values of G16–G31, the
drain queue, BRD, the read outstanding with the staged value it returns if there is one, whether the last read ended in
error, LC, the flags (V, C, N, Z in bits 3 to 0), and the clocks of the present commit gap. -/
structure ELevel where
  staged : List Eff
  sreg : Tab (Option Nat)
  drain : List Eff
  brd : Nat
  reading : Option (Nat × Option Nat)
  rdErr : Bool
  lc : Nat
  flags : Nat
  gap : Nat
  deriving DecidableEq, Repr, Inhabited

/-- An engine apart from its registers: the control store, keyed by word × 3 + plane with spare word e at 8,192 + e (R25,
R265), the plane words found uncorrectable, the two levels, the registers (0–15 base bank, 16–31 G16–G31 as committed,
32–47 interrupt bank), the micro-stack (top first), the interrupt link, CAUSE, the run of IHOLD words and whether the last
base word had IHOLD, STALE, the clocks of the interrupt level, whether a HALT waits for a clean boundary, and the level
source whose handler's writes have not all left. -/
structure Engine where
  cs : Tab Nat
  bad : List Nat
  base : ELevel
  int : ELevel
  g : Tab Nat
  stack : List Nat
  link : Nat
  cause : Nat
  ihold : Nat
  lastHold : Bool
  stale : Bool
  iclk : Nat
  haltReq : Bool
  served : Option Nat
  deriving DecidableEq, Repr, Inhabited

/-- The rest of a role's context (R290) beside ENG_CTXr_Gk: LC, the flags, the stack and the next base address. -/
structure RoleCtx where
  lc : Nat
  flags : Nat
  stack : List Nat
  next : Nat
  deriving DecidableEq, Repr, Inhabited

/-- ENG apart from its registers: the engines, the role contexts, the migration's target and whether its source goes to
TEST, and the roles whose fault migration waits (R295). -/
structure Eng where
  se : Vector Engine 18
  ctx : Vector RoleCtx 16
  target : Nat
  test : Bool
  waiting : List Nat
  deriving DecidableEq, Repr, Inhabited
/-! ### Bullion (12_power.md) -/

/-- A grant: its amounts in mA and the count of ticks at which it ends (R307). -/
structure Grant where
  i5 : Nat
  i12 : Nat
  endAt : Nat
  deriving DecidableEq, Repr, Inhabited

/-- A waiting request: its amounts in mA, its duration in wedges, its deadline as a count of ticks, and whether the
deadline has passed (R305, R306). -/
structure Wait where
  i5 : Nat
  i12 : Nat
  dur : Nat
  dl : Nat
  blocking : Bool
  deriving DecidableEq, Repr, Inhabited

/-- A request slot: at most one grant, and at most one request that waits (a new one, or an increase, R307). -/
structure Slot where
  grant : Option Grant
  wait : Option Wait
  deriving DecidableEq, Repr, Inhabited

/-- Bullion apart from its registers: its 24 request slots (R304). -/
structure Bul where
  slots : Vector Slot 24
  deriving DecidableEq, Repr, Inhabited

/-! ### Supplies, power states and resets (12_power.md, 17_reset_persistence.md) -/

/-- What the main die does: it runs, it is unpowered, the save of R316, R346 or R402 runs, it is held in reset, or its boot
ROM waits for a recovery image (R4). -/
inductive Phase where
  | running | off | saving | held | rom
  deriving DecidableEq, Repr, Inhabited

/-- The main die's reset state: whether FRC is stable since power-on (R327), whether DEV has been cleared and the release
of R403 is awaited, whether a rail has reached its reset level (R316), whether an immediate stop has run (R346), the
RST_CAUSE.LAST code of the DEV-clearing reset under way, whether the save of the present sequence ran, and whether a
power-on of the module has been requested (R317). -/
structure Die where
  phase : Phase
  frc : Bool
  cleared : Bool
  loss : Bool
  crit : Bool
  reset : Option Nat
  ran : Bool
  request : Bool
  deriving DecidableEq, Repr, Inhabited

/-- The power die: whether it holds the state of R15 and R16, the level of the heartbeat wire, whether the input switch is
open and whether its regulators are off (R316). -/
structure Pd where
  safe : Bool
  beat : Bool
  swOpen : Bool
  regOff : Bool
  deriving DecidableEq, Repr, Inhabited

/-- Balls and service pins whose level the part keeps or acts on: the preamp fault inputs, DEVRST# held low, PERST_p#
asserted, FLT# held low (R411), the TAP instruction with the boundary cells (R366), CLKREQ# asserted, and ACTLED driven low with the wall
counter since when (R432). -/
structure Pins where
  paFault : Vector Bool 2
  devrst : Bool
  perst : Vector Bool 2
  flt : Bool
  tap : Nat
  cells : Nat
  clkreq : Bool
  led : Bool
  ledAt : Nat
  deriving DecidableEq, Repr, Inhabited

/-- A power-state request (R319, R323): its source (R326), controller, state, the controller's request before it, and the
queue and CID of the Set Features that made it. -/
structure PReq where
  src : Nat
  ctl : Fin 2
  st : Nat
  old : Nat
  cmd : Option (Nat × Nat)
  deriving DecidableEq, Repr, Inhabited

/-- A transition (R321, R322): states a and b, its request, the steps still to change with their new settings, those changed
with their settings before (newest first), whether it is being rolled back, whether it is the orderly stop of R345, and the
wall counter at its start. -/
structure PTrans where
  frm : Nat
  dest : Nat
  req : Option PReq
  plan : List (Nat × Nat)
  done : List (Nat × Nat)
  back : Bool
  stop : Bool
  began : Nat
  deriving DecidableEq, Repr, Inhabited

/-- Supplies and power states apart from their registers: whether each rail is below warning or below its reset level
(R313), the rectify-enable line, over-current present, each controller's request and last operational state (R319, R325),
the settings of steps S1 to S7 (0 nearest operation, R320), the transition under way, the held request, retries used and
the raise to be tried again (R325), the actuators loaded before S4 was lowered, the operating TARGET, and whether WAKE_FAIL
holds. -/
structure Pwr where
  below12 : Bool
  below5 : Bool
  reset12 : Bool
  reset5 : Bool
  rectEn : Bool
  oc : Bool
  req : Vector Nat 2
  lastOp : Vector Nat 2
  lvl : Vector Nat 7
  trans : Option PTrans
  held : Option PReq
  tries : Nat
  retry : Option PReq
  loaded : Vector Bool 2
  opTarget : Nat
  wakeFail : Bool
  deriving DecidableEq, Repr, Inhabited

/-! ### Clocks, temperature, calibration (13_clocks_thermal_calibration.md) -/

/-- CLK apart from its registers: the source each domain runs from, whether each is stopped, the monitors (MXO, FRC, SRC,
REFCLK0, REFCLK1) whose last window failed and those declared failed (R331), whether the PLL and synthesizer references
come from FRC ÷ 8 (R332), and which sources have stopped. -/
structure Clk where
  cur : Vector Nat 8
  halted : Vector Bool 8
  bad : Vector Bool 5
  failed : Vector Bool 5
  refFrc : Bool
  deriving DecidableEq, Repr, Inhabited

/-- Constantan apart from its registers: whether any site in use is at the critical limit (R343), TMAX of the last 1,000 ms
and of the last 60 s, newest first, and the conversions since a second was recorded. -/
structure Thm where
  critNow : Bool
  ms : List Int
  secs : List Int
  tick : Nat
  deriving DecidableEq, Repr, Inhabited

/-- CAL apart from its registers: the channel, reader and samples wanted by an accumulation under way (R349). -/
structure Cal where
  run : Bool
  deriving DecidableEq, Repr, Inhabited

/-! ### Assay and Patina (14_assay_patina.md) -/

/-- An Assay step (R356): the test, its unit and its detail. -/
structure AStep where
  test : Nat
  unit : Nat
  detail : Nat
  deriving DecidableEq, Repr, Inhabited

/-- Assay apart from its registers: the step under way, and the wall counter when the duty window began (R353). -/
structure Asy where
  step : Option AStep
  since : Nat
  deriving DecidableEq, Repr, Inhabited

/-- A Patina record (R361); `vault` is FLAGS [3], `since` whether it was made since the latest release of DEV reset. -/
structure PRec where
  opsec : Nat
  pcc : Nat
  trig : Nat
  early : Bool
  vault : Bool
  since : Bool
  rep : Nat
  detail : Nat
  vals : List (Nat × Nat)
  deriving DecidableEq, Repr, Inhabited

/-- Patina apart from its registers: triggers queued with their DETAIL (R359), the SRAM ring (record i at key i), whether a
record has been made since power-on, the records of the vault ring newest first (R363), the operating seconds at wall time
`opAt`, whether firmware has written PAT_OPSEC since the release (R364), and PAT_LOST as last read (R365). -/
structure Pat where
  queue : List (Nat × Nat)
  ring : Tab (Option PRec)
  vring : List PRec
  opBase : Nat
  opAt : Nat
  written : Bool
  lostRead : Nat
  deriving DecidableEq, Repr, Inhabited

/-! ### Solder (15_solder_fabric.md) -/

/-- One port apart from its registers (R376): the next LSEQ to send and the next one expected, the packets sent and not
acknowledged (oldest first), the packets that wait to be sent, whether a packet has been discarded since the last LACK, and
the replays since a packet was last acknowledged. -/
structure SPort where
  tx : Nat
  rx : Nat
  replay : List (Nat × Pkt)
  queue : List Pkt
  nak : Bool
  replays : Nat
  deriving DecidableEq, Repr, Inhabited

/-- A copy that runs here as source (R378 to R382): COPY_ID, TAG, the destination node, namespace, chunk and COMP, the
credits held, the next piece to be read, the pieces answered PIECE_OK, the RESENDs per piece, what the map said of the
chunk when it was read, and whether COPY_END has been sent. -/
structure SrcCopy where
  id : Nat
  tag : Nat
  node : Nat
  ns : Nat
  chunk : Nat
  comp : Bool
  credits : Nat
  next : Nat
  oks : List Nat
  resends : Tab Nat
  snap : List (Nat × Nat)
  ended : Bool
  deriving DecidableEq, Repr, Inhabited

/-- A copy that runs here as destination (R379 to R381): source node, COPY_ID, namespace, chunk, the band allocated, the
pieces written, the packets received of the others as (piece, OFS), the OFS of each piece's last packet, and the RESENDs
per piece. -/
structure DstCopy where
  node : Nat
  id : Nat
  ns : Nat
  chunk : Nat
  band : Nat
  oks : List Nat
  got : List (Nat × Nat)
  last : List (Nat × Nat)
  resends : Tab Nat
  deriving DecidableEq, Repr, Inhabited

/-- A message of SLD_RXQ (R383). -/
structure SMsg where
  type : Nat
  src : Nat
  req : Nat
  ma : Nat
  dur : Nat
  deriving DecidableEq, Repr, Inhabited

/-- SLD apart from its registers: the ports, the messages received, the copies as source and as destination, the
completions (STATUS, TAG) held, the mailbox accesses waiting as (requester bank, TAG), and the TAG of the next one. -/
structure Sld where
  ports : Vector SPort 4
  rxq : List SMsg
  srcs : List SrcCopy
  dsts : List DstCopy
  cq : List (Nat × Nat)
  mb : List (Nat × Nat)
  mbTag : Nat
  deriving DecidableEq, Repr, Inhabited

/-! ### Secure boot, identity, encryption (16_security.md) -/

/-- A firmware slot (R388, R390): the bytes of its image by offset, and its activation records (ACT_COUNT, STATE), newest
first, and whether it has failed to start (R392). -/
structure FwSlot where
  image : Tab Byte
  records : List (Nat × Nat)
  failed : Bool
  deriving DecidableEq, Repr, Inhabited

/-- SEC apart from its registers: the two firmware slots, the manifest of the running image, the keys wrapped in the store per
namespace as (number of the draw, GEN), whether the live copy of the store is in BLOCK1, the report being signed (R394: its
body) with whether another was asked for meanwhile, the report ready as (body, signature), the scope debug was unlocked
with, and whether the present challenge nonce can still be used (R399). -/
structure Sec where
  slots : Vector FwSlot 2
  run : Tab Byte
  keys : Vector (Option (Nat × Nat)) 4
  store1 : Bool
  att : Option (List Byte)
  again : Bool
  report : Option (List Byte × Nat)
  scope : Nat
  fresh : Bool
  deriving DecidableEq, Repr, Inhabited
/-! ### What leaves the part, and how a step can stop -/

/-- What the outside can see of a step: the write fragments sent to a preamp; what the recovery of a frame (R163) and the role's
work on it come to; interrupts to cores, which run outside the model; TDO; the completions, interrupts, shadow doorbells and
data that go to the host (R216 to R222); NVMe-MI answers (R212); Solder packets, hellos and acknowledgements (R370, R375,
R376); and the bytes sent on DBG_TX (R433, R434). -/
inductive Out where
  | writeFragment (ch : Fin 4) (tag wedge first stop frame : Nat)
  | frameRecovered (ch : Fin 4) (tag step : Nat)
  | frameLost (ch : Fin 4) (tag : Nat)
  | sectorMove (ch : Fin 4) (tag slot : Nat)
  | frameRewrite (ch : Fin 4) (tag slot : Nat)
  | coreIrq (core vector : Nat)
  | nmi (core : Nat)
  | jtag (value : Nat)
  | wallTimer (n : Nat)
  | cqe (ctl : Fin 2) (cq dw0 sqhd sq cid status phase : Nat)
  | msix (ctl : Fin 2) (vector : Nat)
  | eventIdx (ctl : Fin 2) (cq : Bool) (queue value : Nat)
  | hostData (ctl : Fin 2) (sq cid : Nat) (data : List Byte)
  | hostPage (ctl : Fin 2) (sq cid : Nat) (fields : List (Nat × Nat × Nat))
  | smbus (flags warnings temperature used : Nat)
  | keyInfo (ctl : Fin 2) (cid : Nat) (info : List (Bool × Nat))
  | solder (port : Fin 4) (lseq : Nat) (pkt : Pkt)
  | solderHello (port : Fin 4) (node xdim ydim : Nat)
  | solderLack (port : Fin 4) (next : Nat) (nak : Bool)
  | readData (r : Req) (value : Nat)
  | uart (data : List Byte)
  deriving DecidableEq, Repr

/-- No command ends in a fault: what the manual calls an error is a flag, an answer or a reset, and the machine goes on. -/
inductive Fault where
  deriving DecidableEq, Repr

/-- How a step can be refused. -/
inductive Refusal where
  /-- A command whose meaning has not been written; raised by no command of this model. Safe: the machine stops. -/
  | notModelled (mnemonic : String)
  deriving DecidableEq, Repr

/-- The Aktan. `pending` is the queue of commands, first in, first out; `regs` the register fields that differ from their reset
values, keyed by `Fld.key`; `dram` the bytes of the buffer DRAM that are not 0; `poison` the DRAM lines whose next read is
uncorrectable; `free` the number of the next free value (the model's own);
`out` what has left the part, oldest first. The rest is one record for each block or unit. -/
structure State where
  pending : List Instr
  regs : Tab Nat
  dram : Tab Byte
  poison : List Nat
  free : Nat
  out : List Out
  die : Die
  pd : Pd
  pins : Pins
  thm : Thm
  pwr : Pwr
  buf : Buf
  clk : Clk
  cal : Cal
  asy : Asy
  pat : Pat
  bul : Bul
  inv : Inv
  qch : Qch
  spn : Spn
  srv : Vector Srv 2
  act : Vector Act 2
  shock : Shock
  wch : Vector WChan 4
  rch : Vector RChan 4
  deep : Deep
  mem : Mem
  vlt : Vlt
  xlt : Xlt
  xl1 : Xl1
  cmp : Cmp
  eng : Eng
  hif : Hif
  sld : Sld
  sec : Sec
  deriving DecidableEq, Repr

/-! ### Reset -/

/-- A demodulator lane with no head selected (SRV_HSEL resets to 1111b). -/
def resetLane : Lane := { (default : Lane) with sel := 15 }

/-- A servo page at reset: no head on either lane. -/
def resetSrv : Srv := { (default : Srv) with lanes := Vector.replicate 2 resetLane }

/-- An actuator at reset: PARKED, its terminals clamped low (R409, R411). -/
def resetAct : Act := { (default : Act) with clamp := true }

/-- The clock domains at the release of DEV reset (R328): CORE and BUS on FRC, WALL on FRC ÷ 8, the rest stopped. -/
def resetClk : Clk :=
  { (default : Clk) with
    cur := #v[0, 0, 7, 3, 7, 7, 7, 7]
    halted := #v[false, false, true, false, true, true, true, true] }

/-- The balls at reset: FLT# low until firmware releases it (R411); the TAP holds IDCODE. -/
def resetPins : Pins := { (default : Pins) with flt := true, tap := 1 }

/-- The main die at the release of DEV reset: it runs, and FRC is stable (R403). -/
def resetDie : Die := { (default : Die) with phase := .running, frc := true }

/-- The machine right after reset: at the release of DEV reset after a power-on, every register at its reset value, every
queue and buffer empty, the straps low, the vault blank. -/
def State.reset : State :=
  { pending := [], regs := [], dram := [], poison := [], free := 0, out := []
    die := resetDie, pd := default, pins := resetPins, thm := default, pwr := default, buf := default, clk := resetClk
    cal := default, asy := default, pat := default, bul := default, inv := default, qch := default, spn := default
    srv := Vector.replicate 2 resetSrv, act := Vector.replicate 2 resetAct, shock := default
    wch := Vector.replicate 4 default, rch := Vector.replicate 4 default, deep := default, mem := default, vlt := default
    xlt := default, xl1 := default, cmp := default, eng := default, hif := default, sld := default, sec := default }

end Sys2Proof.Machine
end

