-- ==== Sys2Proof/Machine/Ops.lean ====
section
/-!
DEFINITION. The named operations every family shares: reading and writing a register field, the requester banks,
the Patina trigger queue, the outputs of the part, and the gate of the main die (R439).
-/
namespace Sys2Proof.Machine

/-- What a meaning answers. -/
abbrev Res := Host.Outcome State Fault Refusal

/-! ### Register fields -/

/-- The value a field holds, as a read returns it (R12): as many bits as the field has. -/
def State.raw (s : State) (f : Fld) : Nat := tabLook f.rst s.regs f.key % 2 ^ f.width

/-- The value the block acts on: a reserved encoding acts as the reset value (R11). -/
def State.get (s : State) (f : Fld) : Nat := f.acting (s.raw f)

/-- Whether a one-bit field reads 1b. -/
def State.flag (s : State) (f : Fld) : Bool := s.raw f == 1

/-- Bit `i` of a field. -/
def State.bit (s : State) (f : Fld) (i : Nat) : Bool := bitOf (s.raw f) i

/-- Put a field to `v`, cut to its width. -/
def State.set (s : State) (f : Fld) (v : Nat) : State :=
  { s with regs := tabPut f.rst s.regs f.key (v % 2 ^ f.width) }

/-- Put a field to the pattern of a two's complement value. -/
def State.setI (s : State) (f : Fld) (v : Int) : State := s.set f (unsgn f.width v)

/-- The two's complement value of a field. -/
def State.geti (s : State) (f : Fld) : Int := sgn f.width (s.raw f)

/-- Set a one-bit field. -/
def State.on (s : State) (f : Fld) : State := s.set f 1

/-- Clear a field. -/
def State.off (s : State) (f : Fld) : State := s.set f 0

/-- Set or clear a one-bit field. -/
def State.put (s : State) (f : Fld) (b : Bool) : State := s.set f (b2n b)

/-- Set bit `i` of a field. -/
def State.onBit (s : State) (f : Fld) (i : Nat) : State := s.set f (setBit (s.raw f) i)

/-- Clear bit `i` of a field. -/
def State.offBit (s : State) (f : Fld) (i : Nat) : State := s.set f (clrBit (s.raw f) i)

/-- Put bit `i` of a field to `b`. -/
def State.putBit (s : State) (f : Fld) (i : Nat) (b : Bool) : State := s.set f (Sys2Proof.Machine.putBit (s.raw f) i b)

/-- Add `n` to a counter that stops at its largest value. -/
def State.bump (s : State) (f : Fld) (n : Nat) : State := s.set f (sat f.width (s.raw f + n))

/-- The word that fields make up, each at its place. -/
def State.pack (s : State) (fs : List Fld) : Nat := fs.foldl (fun n f => n + s.raw f * 2 ^ f.lo) 0

/-! ### Requesters -/

/-- The bank of a requester's staging and response registers (R47): 1 to 16 the roles, 17 to 20 the cores, 21 the
Solder mailbox, 22 the host. Bank 0 is the shared copy. -/
def bankOf : Req → Nat
  | .role r => r.val + 1
  | .core c => c.val + 17
  | .mailbox => 21
  | .host => 22

/-- The code of a requester in SYS_ERR_ADDR.SRC (R31). -/
def srcOf : Req → Nat
  | .core _ => 0
  | .role _ => 1
  | .host => 2
  | .mailbox => 3

/-- A banked field in the copy of requester `r`. -/
def Fld.of (f : Fld) (r : Req) : Fld := f.inBank (bankOf r)

/-! ### Outputs and records -/

/-- Let the outside see `o`. -/
def State.emit (s : State) (o : Out) : State := { s with out := s.out ++ [o] }

/-- A Patina trigger with its DETAIL (R359): an enabled trigger enters the queue of 16 or is lost. -/
def patTrig (i detail : Nat) (s : State) : State :=
  if !s.bit (PAT_TEN_EN (i / 32)) (i % 32) then s
  else if s.pat.queue.length < 16 then { s with pat := { s.pat with queue := s.pat.queue ++ [(i, detail)] } }
  else (s.bump PAT_LOST_COUNT 1).on PAT_STAT_LOST

/-- The operating seconds (R364): the count firmware restored, or the count from the latest release of DEV reset, running on. -/
def State.opsec (s : State) : Nat := s.pat.opBase + (s.inv.wall - s.pat.opAt) / 1000000000

/-- The next free value of the model: a number nothing constrains (the spec states no value there). -/
def State.draw (s : State) : State × Nat := ({ s with free := s.free + 1 }, s.free)

/-- An edge source of a role (R284): 0 wake, 1 doorbell, 2 signal. -/
def roleEdge (r src : Nat) (s : State) : State := s.onBit (ENG_ROLE_IPEND_PEND r) src

/-! ### The main die -/

/-- Do `f` while the main die runs; while it is unpowered, saving, or held in reset nothing on it acts (R439, R16). -/
def live (s : State) (f : State → State) : State := if s.die.phase = .running then f s else s

/-- Do `f` when `c` holds; an event whose precondition is absent does not occur. -/
def State.when (s : State) (c : Bool) (f : State → State) : State := if c then f s else s

/-- Whether step Sk of R320 stands at its setting nearest operation. -/
def State.stepOn (s : State) (k : Nat) : Bool := s.pwr.lvl.toList.getD (k - 1) 0 == 0

end Sys2Proof.Machine
end

