-- ==== Sys2Proof/Machine/Gates.lean ====
section
/-!
DEFINITION. Gates and Quench: what takes a write gate down, what record is posted, what becomes of the frame, and how a
Quench trigger acts (R59 to R64, R123 to R128, R440).
-/
namespace Sys2Proof.Machine

/-! ### Geometry -/

/-- The actuator of a channel: CH0 and CH1 on A, CH2 and CH3 on B. -/
def actOf (ch : Fin 4) : Fin 2 := ⟨ch.val / 2, by omega⟩

/-- Channel 2a + l. -/
def chOf (a l : Fin 2) : Fin 4 := ⟨2 * a.val + l.val, by omega⟩

/-- The channel whose data and gate lane `l` of actuator `a` carries: under substitution CH(2a + 1) serves preamp
channel 0 (R358). -/
def chOfLane (a l : Fin 2) (s : State) : Fin 4 :=
  if l.val = 0 ∧ s.bit ASY_CHSUB_SUB a.val then chOf a 1 else chOf a l

/-- Wedges in a revolution. -/
def State.wedges (s : State) : Nat := s.get INV_CFG_WEDGES

/-- A stamp (R6) as a count of ticks since revolution 0. -/
def stampTicks (w st : Nat) : Nat := (st / 2 ^ 22 * w + bits st 12 10) * 4096 + st % 4096

/-- The stamp of a count of ticks. -/
def ticksStamp (w n : Nat) : Nat := n / (w * 4096) * 2 ^ 22 + n / 4096 % w * 2 ^ 12 + n % 4096

/-- The skew in force for a surface (R45, R46): a write to the primary's entry waits for that head's next sync. -/
def State.skew (s : State) (surf : Nat) : Int :=
  match s.inv.held with
  | some v => if s.inv.prim = some surf then sgn 23 v else s.geti (INV_SKEW_VALUE surf)
  | none => s.geti (INV_SKEW_VALUE surf)

/-- Tick in the revolution of device angle at a surface tick of a wedge (R45). -/
def State.deviceTick (s : State) (surf wedge tick : Nat) : Nat :=
  (((wedge * 4096 + tick : Nat) : Int) + s.skew surf).emod ((s.wedges * 4096 : Nat) : Int) |>.toNat

/-- Tick in the revolution of the present device angle. -/
def State.nowTick (s : State) : Nat := stampTicks s.wedges s.inv.now % (s.wedges * 4096)

/-- Tick within the wedge, on a surface, of the present device angle (R45). -/
def State.surfTick (s : State) (surf : Nat) : Nat :=
  (((s.nowTick : Nat) : Int) - s.skew surf).emod 4096 |>.toNat

/-- Stamp bits [43:12]: the low 22 bits of the revolution, and the wedge. -/
def State.stampWord (s : State) : Nat := bits s.inv.now 12 32

/-! ### What holds a channel -/

/-- Whether Quench or QCH_CTL.HOLD holds an actuator (R60, R61). -/
def State.actHeld (s : State) (a : Fin 2) : Bool := s.qch.trig[a] != 0 || s.bit QCH_CTL_HOLD a.val

/-- Whether a channel is held: by its actuator or by its overflow hold (R63). -/
def State.chHeld (s : State) (ch : Fin 4) : Bool :=
  s.actHeld (actOf ch) || s.flag (QCH_RW_STAT_OVF ch.val)

/-- REASON of a record posted because the channel is held: the lowest trigger index holding the actuator, and 1100b
when HOLD or an overflow hold alone holds the channel (R64). -/
def State.holdReason (s : State) (ch : Fin 4) : Nat :=
  (lowestBit 8 s.qch.trig[actOf ch]).getD 12

/-! ### Frames and records -/

/-- Post a completion of a write frame (R123). -/
def wchPost (ch : Fin 4) (status tag : Nat) (s : State) : State :=
  { s with wch := vmod s.wch ch fun c => { c with cq := c.cq ++ [(status, tag)] } }

/-- Abandon the frame with a TAG (R123): it leaves the queue, completes with `status`, and its TAG joins the last 16
abandoned ones (R126). A TAG with no queued frame changes nothing. -/
def wchAbandon (ch : Fin 4) (status tag : Nat) (s : State) : State :=
  if s.wch[ch].queue.any (fun d => d.tag == tag) then
    wchPost ch status tag
      { s with wch := vmod s.wch ch fun c =>
          { c with
            queue := c.queue.filter fun d => d.tag != tag
            abandoned := ((c.abandoned.filter fun t => t != tag) ++ [tag]).drop
              ((c.abandoned.filter fun t => t != tag).length - 15) } }
  else s

/-- Close a channel's gate without more. -/
def gateDown (ch : Fin 4) (s : State) : State :=
  { s with wch := vmod s.wch ch fun c => { c with gate := none } }

/-- Put a channel's assist state (R128). -/
def setAssist (ch : Fin 4) (b : Bool) (s : State) : State :=
  { s with wch := vmod s.wch ch fun c => { c with assist := b } }

/-- Take a channel's open write gate down with a record of `reason` and PARTIAL 1b, and clear its assist state; the
frame is abandoned with STATUS 01b (R61, R62, R123, R128). With no gate open only the assist state clears. A record
that meets a full FIFO is lost and sets OVF (R63). -/
def cutGate (ch : Fin 4) (reason : Nat) (pesSign : Bool) (s : State) : State :=
  match s.wch[ch].gate with
  | none => setAssist ch false s
  | some (tag, _) =>
    let s1 := wchAbandon ch 1 tag (gateDown ch (setAssist ch false s))
    let r : RwRec := { reason, part := true, pesSign, tag, angle := s.stampWord }
    if s1.qch.fifo[ch].length < 32 then
      { s1 with qch := { s1.qch with fifo := vmod s1.qch.fifo ch (· ++ [r]) } }
    else patTrig 5 ch.val (s1.on (QCH_RW_STAT_OVF ch.val))

/-- Post a rewrite record (R62). A record that meets a full FIFO is lost, sets OVF, and the overflow hold takes down an
open gate of the channel and clears its assist state; the records that causes are lost in turn (R63). -/
def postRec (ch : Fin 4) (r : RwRec) (s : State) : State :=
  if s.qch.fifo[ch].length < 32 then
    { s with qch := { s.qch with fifo := vmod s.qch.fifo ch (· ++ [r]) } }
  else
    cutGate ch 12 false (patTrig 5 ch.val (s.on (QCH_RW_STAT_OVF ch.val)))

/-- A WG_OPEN is dropped (R62, R123, R124): a record with PARTIAL 0b, the frame abandoned with STATUS 01b, and
WR_ACTIVE set. -/
def dropWg (ch : Fin 4) (reason tag : Nat) (s : State) : State :=
  postRec ch { reason, part := false, pesSign := false, tag, angle := s.stampWord }
    (wchAbandon ch 1 tag (s.on (WCH_CTL_WR_ACTIVE ch.val)))

/-! ### Quench triggers -/

/-- Clear the release count of one of the triggers that release automatically (R443). -/
def RelCount.clear (c : RelCount) (i : Nat) : RelCount :=
  match i with
  | 0 => { c with pes := 0 }
  | 1 => { c with miss := 0 }
  | 2 => { c with shock := 0 }
  | 4 => { c with angle := 0 }
  | _ => c

/-- Trigger `i` acts on actuator `a` (R59): it holds the actuator, its cause bit sets, open gates of both channels are
taken down with a record each, and their assist states clear. Triggers 000b to 011b act only while QCH_EN enables them. -/
def quenchAct (i : Nat) (pesSign : Bool) (a : Fin 2) (s : State) : State :=
  if i < 4 && !s.bit QCH_EN_EN i then s
  else
    let s1 := { s with qch := { s.qch with
      trig := vmod s.qch.trig a fun t => setBit t i
      rel := vmod s.qch.rel a fun c => c.clear i } }
    let s2 := s1.onBit (QCH_CAUSE_CAUSE a.val) i
    let s3 := patTrig 4 (a.val * 256 + s2.raw (QCH_CAUSE_CAUSE a.val)) s2
    cutGate (chOf a 1) (s3.holdReason (chOf a 1)) pesSign
      (cutGate (chOf a 0) (s3.holdReason (chOf a 0)) pesSign s3)

/-- A trigger whose scope is both actuators. -/
def quenchBoth (i : Nat) (s : State) : State := quenchAct i false 1 (quenchAct i false 0 s)

/-- Trigger 111b raised by a source that shows in SWREQ (R440). -/
def quenchReq (a : Fin 2) (s : State) : State := quenchAct 7 false a (s.onBit QCH_CTL_SWREQ a.val)

/-- Put the presence of condition `i` of actuator `a`. -/
def setCond (i : Nat) (b : Bool) (a : Fin 2) (s : State) : State :=
  { s with qch := { s.qch with cond := vmod s.qch.cond a fun c => putBit c i b } }

/-- Whether the condition of trigger `i` on actuator `a` is present (R59, R61, R440): the sampled conditions 000b to
010b and the angle error of the last sync, the preamp fault ball, the angle source, the emergency, the critical limit,
and for 111b the request ENG holds or the synthesizer that raised it. -/
def State.condNow (s : State) (i : Nat) (a : Fin 2) : Bool :=
  match i with
  | 3 => s.pins.paFault[a]
  | 4 => s.raw INV_SRC_SRC != 1 || bitOf s.qch.cond[a] 4
  | 5 => s.flag BUL_STAT_EMERG
  | 6 => s.thm.critNow
  | 7 => s.qch.engHold[a] || s.qch.clkHold[chOf a 0] || s.qch.clkHold[chOf a 1]
  | _ => bitOf s.qch.cond[a] i

/-- The mask of the triggers that hold actuator `a` and whose condition is present. -/
def State.condHeld (s : State) (a : Fin 2) : Bool :=
  (List.range 8).any fun i => bitOf s.qch.trig[a] i && s.condNow i a

/-- Whether QCH_REL releases trigger `i` (R60): 011b, 101b, 110b and 111b always, 000b to 010b when their hold count is
0, and 100b never. -/
def State.relByWrite (s : State) (i : Nat) : Bool :=
  match i with
  | 0 => s.raw QCH_HOLD_PES_HOLD == 0
  | 1 => s.raw QCH_HOLD_MISS_HOLD == 0
  | 2 => s.raw QCH_HOLD_SHOCK_HOLD == 0
  | 4 => false
  | _ => true

/-- Release trigger `i` of actuator `a`; once nothing but HOLD holds the actuator, SWREQ clears (R440). -/
def quenchRelease (i : Nat) (a : Fin 2) (s : State) : State :=
  let s1 := { s with qch := { s.qch with trig := vmod s.qch.trig a fun t => clrBit t i } }
  if i = 7 then s1.offBit QCH_CTL_SWREQ a.val else s1

/-- The limit of an automatic release (R60). -/
def State.relLimit (s : State) (i : Nat) : Nat :=
  match i with
  | 0 => s.raw QCH_HOLD_PES_HOLD
  | 1 => s.raw QCH_HOLD_MISS_HOLD
  | 2 => s.raw QCH_HOLD_SHOCK_HOLD
  | 4 => 4
  | _ => 0

/-- The count towards an automatic release (R443). -/
def RelCount.of (c : RelCount) (i : Nat) : Nat :=
  match i with
  | 0 => c.pes
  | 1 => c.miss
  | 2 => c.shock
  | 4 => c.angle
  | _ => 0

/-- Count one wedge for trigger `i` of actuator `a`: a good wedge adds one, a bad wedge breaks the run. -/
def relCountWedge (i : Nat) (good : Bool) (a : Fin 2) (s : State) : State :=
  let step (n : Nat) : Nat := if good then n + 1 else 0
  { s with qch := { s.qch with rel := vmod s.qch.rel a fun c =>
      match i with
      | 0 => { c with pes := step c.pes }
      | 1 => { c with miss := step c.miss }
      | 2 => { c with shock := step c.shock }
      | 4 => { c with angle := step c.angle }
      | _ => c } }

end Sys2Proof.Machine
end

