-- ==== Sys2Proof/Machine/Link.lean ====
section
/-!
DEFINITION. Solder links and routing (15_solder_fabric.md): the torus (R371), dimension-order routing and the detour (R372,
R374), and the replay buffer (R376).
-/
namespace Sys2Proof.Machine

/-- SLD_Pp_STAT.STATE codes (R375). -/
abbrev slpDisabled : Nat := 0
abbrev slpTrain : Nat := 1
abbrev slpAlign : Nat := 2
abbrev slpHello : Nat := 3
abbrev slpUp : Nat := 4
abbrev slpDown : Nat := 5

/-- Change SLD. -/
def modSld (f : Sld → Sld) (s : State) : State := { s with sld := f s.sld }

/-- Change one port. -/
def modPort (p : Fin 4) (f : SPort → SPort) (s : State) : State := modSld (fun v => { v with ports := vmod v.ports p f }) s

/-- Whether SLD is enabled: SLD_CTL.EN, with the fabric strapped in. -/
def State.sldOn (s : State) : Bool := s.flag SLD_CTL_EN && s.flag SYS_STRAP_FABRIC_EN

/-- Whether a port is UP. -/
def State.portUp (s : State) (p : Fin 4) : Bool := s.raw (SLD_P_STAT_STATE p.val) == slpUp

/-! ### The torus (R371) -/

/-- The device's own node. -/
def State.node (s : State) : Nat := s.raw SLD_TOPO_NODE
/-- XDIM. -/
def State.xdim (s : State) : Nat := s.raw SLD_TOPO_XDIM_M1 + 1
/-- YDIM. -/
def State.ydim (s : State) : Nat := s.raw SLD_TOPO_YDIM_M1 + 1

/-- The size of the dimension that a port leads along. -/
def State.portDim (s : State) (p : Fin 4) : Nat := if p.val < 2 then s.xdim else s.ydim

/-- The node at the other end of a port. -/
def State.peerNode (s : State) (p : Fin 4) : Nat :=
  let x := s.node % 32
  let y := s.node / 32
  match p with
  | 0 => y * 32 + (x + 1) % s.xdim
  | 1 => y * 32 + (x + s.xdim - 1) % s.xdim
  | 2 => (y + 1) % s.ydim * 32 + x
  | 3 => (y + s.ydim - 1) % s.ydim * 32 + x

/-- The peer's port at the other end of a port. -/
def peerPort (p : Fin 4) : Nat :=
  match p with
  | 0 => 1
  | 1 => 0
  | 2 => 3
  | 3 => 2

/-! ### Routing (R372, R374) -/

/-- The direction of the next hop in a dimension: none when it matches, else whether it is the rising one, which is the
shorter way around, or either when both are equal. -/
def hopDir (cur dst dim : Nat) : Option Bool :=
  let f := (dst + dim - cur % dim) % dim
  if f = 0 then none else some (decide (f ≤ dim - f))

/-- The next hop along X, and along Y. -/
def State.hopX (s : State) (dst : Nat) : Option (Fin 4) :=
  (hopDir (s.node % 32) (dst % 32) s.xdim).map fun up => if up then 0 else 1
def State.hopY (s : State) (dst : Nat) : Option (Fin 4) :=
  (hopDir (s.node / 32) (dst / 32) s.ydim).map fun up => if up then 2 else 3

/-- Whether a hop out of a port crosses the wrap link of its dimension. -/
def State.wraps (s : State) (p : Fin 4) : Bool :=
  let x := s.node % 32
  let y := s.node / 32
  match p with
  | 0 => x + 1 == s.xdim
  | 1 => x == 0
  | 2 => y + 1 == s.ydim
  | 3 => y == 0

/-- The detour of a packet blocked at a port: +Y or −Y with VC 10b, +X or −X with VC 11b. -/
def State.detour (s : State) (p : Fin 4) : Option (Fin 4 × Nat) :=
  if p.val < 2 then
    if s.portUp 2 then some (2, 2) else if s.portUp 3 then some (3, 2) else none
  else if s.portUp 0 then some (0, 3) else if s.portUp 1 then some (1, 3) else none

/-- The port and VC by which a packet goes on; `from` is the port it came in by, none at its own node. None: it is
dropped. -/
def State.route (s : State) (from_ : Option (Fin 4)) (k : Pkt) : Option (Fin 4 × Nat) :=
  if 2 ≤ k.vc then
    let h := if k.vc = 2 then (s.hopX k.dst).or (s.hopY k.dst) else (s.hopY k.dst).or (s.hopX k.dst)
    match h with
    | some p => if s.portUp p then some (p, k.vc) else none
    | none => none
  else
    match (s.hopX k.dst).or (s.hopY k.dst) with
    | none => none
    | some p =>
      if s.portUp p then
        let turned := 2 ≤ p.val && (match from_ with | some q => q.val < 2 | none => false)
        some (p, if s.wraps p then 1 else if turned then 0 else k.vc)
      else if k.dst = s.peerNode p then none
      else s.detour p

/-! ### Sending (R376, R377) -/

/-- Whether a packet is a DATA packet of this node, which only leaves under the port's permit (R377). -/
def State.ownData (s : State) (k : Pkt) : Bool := k.src == s.node && (match k.body with | .data .. => true | _ => false)

/-- The slot of a port's permit. -/
def portSlot (p : Fin 4) : Fin 24 := ⟨17 + p.val, by omega⟩

/-- Whether a port may send a packet now. -/
def State.maySend (s : State) (p : Fin 4) (k : Pkt) : Bool :=
  !s.ownData k || (s.bul.slots[portSlot p]).grant.isSome

/-- Put one packet on the line under the next LSEQ. -/
def portSend1 (p : Fin 4) (k : Pkt) (s : State) : State :=
  let q := (s.sld.ports[p]).tx
  (modPort p (fun v => { v with tx := (q + 1) % 256, replay := v.replay ++ [(q, k)] }) s).emit (.solder p q k)

/-- Send what a port holds, oldest first, while its replay buffer of 64 has room; DATA packets that lack the permit stay. -/
def portDrainGo (p : Fin 4) : List Pkt → State → State
  | [], s => s
  | k :: t, s =>
    if s.portUp p && (s.sld.ports[p]).replay.length < 64 && s.maySend p k then portDrainGo p t (portSend1 p k s)
    else portDrainGo p t (modPort p (fun v => { v with queue := v.queue ++ [k] }) s)

/-- Send what a port holds. -/
def portDrain (p : Fin 4) (s : State) : State :=
  portDrainGo p (s.sld.ports[p]).queue (modPort p (fun v => { v with queue := [] }) s)

/-- The packet that tells the SRC of a dropped request that its node is unreachable. -/
def State.unreach (s : State) (k : Pkt) : Option Pkt :=
  let ans (b : Body) : Option Pkt := some { dst := k.src, src := s.node, vc := 0, tag := k.tag, body := b }
  match k.body with
  | .data id .. => ans (.copyResp id .unreach)
  | .copyReq id .. => ans (.copyResp id .unreach)
  | .copyEnd id _ => ans (.copyResp id .unreach)
  | .mbReq .. => ans (.mbResp 2 0)
  | _ => none

/-- Hand a packet to the port it leaves by, or drop it; the second part is the packet dropped. -/
def hand (from_ : Option (Fin 4)) (k : Pkt) (s : State) : State × Option Pkt :=
  match s.route from_ k with
  | some (p, vc) => (portDrain p (modPort p (fun v => { v with queue := v.queue ++ [{ k with vc }] }) s), none)
  | none => (s.bump SLD_UNREACH_COUNT 1, some k)

/-- Route packets one after another: the requests of other nodes that are dropped are answered; those of this node that are
dropped are returned. -/
def handAll (from_ : Option (Fin 4)) : List Pkt → State → State × List Pkt
  | [], s => (s, [])
  | k :: t, s =>
    let h := hand from_ k s
    let s1 : State := match h.2 with
      | some d => if d.src = s.node then h.1 else
          match s.unreach d with
          | some a => (hand none a h.1).1
          | none => h.1
      | none => h.1
    let r := handAll from_ t s1
    (r.1, (h.2.toList.filter fun d => d.src == s.node) ++ r.2)

end Sys2Proof.Machine
end

