-- ==== Sys2Proof/Machine/Permit.lean ====
section
/-!
DEFINITION. Bullion's accounts and its walk (R302 to R308): what is in use on each rail, whether a grant fits, and which
waiting requests are granted. Every block that asks for, uses or ends a permit uses these.
-/
namespace Sys2Proof.Machine

/-- ACT_STAT.STATE of actuator `a` (R106): 0 PARKED, 1 LOADING, 2 ACQUIRE, 3 FOLLOW, 4 UNLOADING, 5 RETRACT. -/
def State.actSt (s : State) (a : Fin 2) : Nat :=
  if a.val = 0 then s.raw ACT_STAT_STATE_A else s.raw ACT_STAT_STATE_B

/-- Put ACT_STAT.STATE of actuator `a`; PARKED shows in ACT_STAT.PARKED. -/
def setActSt (a : Fin 2) (st : Nat) (s : State) : State :=
  (s.set (if a.val = 0 then ACT_STAT_STATE_A else ACT_STAT_STATE_B) st).putBit ACT_STAT_PARKED a.val (st == 0)

/-- Whether actuator `a` is in LOADING, ACQUIRE or FOLLOW. -/
def State.actUp (s : State) (a : Fin 2) : Bool := s.actSt a == 1 || s.actSt a == 2 || s.actSt a == 3

/-- Whether the spindle runs in the sense of R303: RUN or SLEW. -/
def State.spinRuns (s : State) : Bool := s.raw SPN_STAT_STATE == 7 || s.raw SPN_STAT_STATE == 8

/-- The amount of the grant on a slot, 0 without one. -/
def Slot.g12 (x : Slot) : Nat := match x.grant with | some g => g.i12 | none => 0
/-- The 5 V amount of the grant on a slot, 0 without one. -/
def Slot.g5 (x : Slot) : Nat := match x.grant with | some g => g.i5 | none => 0

/-- The standing allocation on 12 V that a grant on slot `k` replaces (R303): the running spindle for slot 0, the
tracking allocation of actuator A or B for slots 1 and 2. -/
def State.standing12 (s : State) (k : Nat) : Nat :=
  match k with
  | 0 => if s.spinRuns then s.raw BUL_STAND_SPIN_MA else 0
  | 1 => if s.actUp 0 then s.raw (SRV_PROF_W0_IPK_MA 0 0) else 0
  | 2 => if s.actUp 1 then s.raw (SRV_PROF_W0_IPK_MA 1 0) else 0
  | _ => 0

/-- 12 V in use (R302): each grant, and each standing allocation that no grant replaces. -/
def State.inUse12 (s : State) : Nat :=
  (List.finRange 24).foldl (fun n k =>
    n + (if (s.bul.slots[k]).grant.isSome then (s.bul.slots[k]).g12 else s.standing12 k.val)) 0

/-- 5 V in use (R302, R303): the preamp of each actuator that is not PARKED, and each grant. -/
def State.inUse5 (s : State) : Nat :=
  (List.finRange 24).foldl (fun n k => n + (s.bul.slots[k]).g5)
    ((if s.actSt 0 = 0 then 0 else s.raw BUL_STAND_PA_MA) + (if s.actSt 1 = 0 then 0 else s.raw BUL_STAND_PA_MA))

/-- Sum of 12 V amounts over the leases in effect with OUT as given (R311). -/
def State.leaseSum (s : State) (out : Bool) : Nat :=
  (List.range 16).foldl (fun n k =>
    n + (if s.flag (BUL_LEASE_W0_VALID k) && s.flag (BUL_LEASE_W0_OUT k) == out then s.raw (BUL_LEASE_W0_MA k) else 0)) 0

/-- The 12 V budget (R302), leases included. -/
def State.budget12 (s : State) : Nat := s.get BUL_BUDGET_I12_MA + s.leaseSum false - s.leaseSum true

/-- The 5 V budget (R302). -/
def State.budget5 (s : State) : Nat := s.get BUL_BUDGET_I5_MA

/-- The sum of grant charges at nominal voltages in mW (R302): a grant's amount less the standing allocation it
replaces, at least zero. -/
def State.chargeMw (s : State) : Nat :=
  (List.finRange 24).foldl (fun n k =>
    n + 12 * (if (s.bul.slots[k]).grant.isSome then (s.bul.slots[k]).g12 - s.standing12 k.val else 0)
      + 5 * (s.bul.slots[k]).g5) 0

/-- Put the grant of a slot. -/
def setGrant (k : Fin 24) (g : Option Grant) (s : State) : State :=
  { s with bul := { s.bul with slots := vmod s.bul.slots k fun x => { x with grant := g } } }

/-- Put the waiting request of a slot. -/
def setWait (k : Fin 24) (w : Option Wait) (s : State) : State :=
  { s with bul := { s.bul with slots := vmod s.bul.slots k fun x => { x with wait := w } } }

/-- The count of ticks of R441: Invar's while the source is not 00b, wall-counter time otherwise. -/
def State.ticks (s : State) : Nat := s.inv.cnt

/-- Whether every rail that amounts name stays within its budget (R302); in PS1 also the sum of grant charges. -/
def State.withinBudget (s : State) (i5 i12 : Nat) : Bool :=
  (i12 == 0 || s.inUse12 ≤ s.budget12) && (i5 == 0 || s.inUse5 ≤ s.budget5) &&
  (s.raw PWR_STATE_CUR != 1 || s.chargeMw ≤ s.raw BUL_PS1_MW)

/-- Whether Bullion grants at all now: enabled, not frozen (R314), and no emergency (R315). -/
def State.bulGrants (s : State) : Bool :=
  s.flag BUL_CTL_EN && !s.flag BUL_STAT_FROZEN && !s.flag BUL_STAT_EMERG

/-- What a grant does at its holder at once: a seek in REQ starts its trajectory (R104), a Solder port sends the DATA packets
it holds (R377). -/
def onGrant (k : Fin 24) (s : State) : State :=
  match k.val with
  | 1 => if s.raw (SRV_STAT_SEEK_STATE 0) = 1 then s.set (SRV_STAT_SEEK_STATE 0) 2 else s
  | 2 => if s.raw (SRV_STAT_SEEK_STATE 1) = 1 then s.set (SRV_STAT_SEEK_STATE 1) 2 else s
  | 17 => portDrain 0 s
  | 18 => portDrain 1 s
  | 19 => portDrain 2 s
  | 20 => portDrain 3 s
  | _ => s

/-- The state with the waiting request of slot `k` granted: a grant of its amounts, ending its duration from now. -/
def grantWait (k : Fin 24) (w : Wait) (s : State) : State :=
  setWait k none (setGrant k (some { i5 := w.i5, i12 := w.i12, endAt := s.ticks + w.dur * 4096 }) s)

/-- The order of R306: PRIO highest first, then deadline earliest first, then slot lowest first. -/
def waitBefore (s : State) (a b : Fin 24 × Wait) : Bool :=
  let pa := s.raw (BUL_SLOT_W0_PRIO a.1.val)
  let pb := s.raw (BUL_SLOT_W0_PRIO b.1.val)
  if pa != pb then pb < pa
  else if a.2.dl != b.2.dl then a.2.dl < b.2.dl
  else a.1.val < b.1.val

/-- Insert into the order of R306. -/
def waitInsert (s : State) (x : Fin 24 × Wait) : List (Fin 24 × Wait) → List (Fin 24 × Wait)
  | [] => [x]
  | y :: t => if waitBefore s x y then x :: y :: t else y :: waitInsert s x t

/-- The waiting requests in the order of R306. -/
def State.waiting (s : State) : List (Fin 24 × Wait) :=
  (List.finRange 24).foldl (fun l k =>
    match (s.bul.slots[k]).wait with
    | some w => waitInsert s (k, w) l
    | none => l) []

/-- One walk of R306 over the requests in order: each that fits is granted; a blocking request that does not fit bars
the rails it names to every later one. -/
def walkList : List (Fin 24 × Wait) → (bar5 bar12 : Bool) → State → State
  | [], _, _, s => s
  | (k, w) :: t, bar5, bar12, s =>
    let g := grantWait k w s
    if (w.i5 != 0 && bar5) || (w.i12 != 0 && bar12) || !g.withinBudget w.i5 w.i12 then
      walkList t (bar5 || (w.blocking && w.i5 != 0)) (bar12 || (w.blocking && w.i12 != 0)) s
    else walkList t bar5 bar12 (onGrant k (g.on BUL_STAT_GRANT))

/-- Bullion walks the waiting requests (R306); it grants nothing while disabled, frozen or in an emergency. -/
def bulWalk (s : State) : State := if s.bulGrants then walkList s.waiting false false s else s

/-- Whether the amount in use on a rail that is named exceeds that rail's budget (R307, R308). -/
def State.overNamed (s : State) (i5 i12 : Nat) : Bool :=
  (i12 != 0 && s.budget12 < s.inUse12) || (i5 != 0 && s.budget5 < s.inUse5)

/-- A request on slot `k` (R305, R307): the RESULT (0 granted, 1 queued, 4 renewal refused) and the state after. A
renewal within the grant is granted at once with a new duration; an increase or a new request joins the order and the
walk judges it; a queued request sets BUL_STAT.WAIT. -/
def bulRequest (k : Fin 24) (i5 i12 dur dl : Nat) (s : State) : State × Nat :=
  match (s.bul.slots[k]).grant with
  | some g =>
    if s.flag BUL_CTL_EN && (s.flag BUL_STAT_FROZEN || s.flag BUL_STAT_EMERG || s.overNamed i5 i12) then
      (s.on BUL_STAT_REFUSED, 4)
    else if s.flag BUL_CTL_EN && i5 ≤ g.i5 && i12 ≤ g.i12 then
      ((setGrant k (some { g with endAt := s.ticks + dur * 4096 }) s).on BUL_STAT_GRANT, 0)
    else
      let s1 := bulWalk (setWait k (some { i5, i12, dur, dl := s.ticks + dl * 4096, blocking := false }) s)
      if (s1.bul.slots[k]).wait.isNone then (s1, 0) else (s1.on BUL_STAT_WAIT, 1)
  | none =>
    let s1 := bulWalk (setWait k (some { i5, i12, dur, dl := s.ticks + dl * 4096, blocking := false }) s)
    if (s1.bul.slots[k]).wait.isNone then (s1, 0) else (s1.on BUL_STAT_WAIT, 1)

/-- Withdraw a slot's waiting request and end its grant (R305), then walk. -/
def bulRelease (k : Fin 24) (s : State) : State := bulWalk (setWait k none (setGrant k none s))

/-- Whether slot `k` holds a grant. -/
def State.granted (s : State) (k : Fin 24) : Bool := (s.bul.slots[k]).grant.isSome

/-- A hardware requester asks for its permit when it has none and none waits (R202): `ma` on 5 V for 64 wedges with a
deadline 64 wedges on. -/
def hwAsk (k : Fin 24) (ma : Nat) (s : State) : State :=
  if s.granted k || (s.bul.slots[k]).wait.isSome then s else (bulRequest k ma 0 64 64 s).1

end Sys2Proof.Machine
end

