-- ==== Sys2Proof/Machine/Angle.lean ====
section
/-!
DEFINITION. Invar's angle (R36 to R46): changes of source, the flush of the rings, head locks, the order of a ring, and
the advance of device angle.
-/
namespace Sys2Proof.Machine

/-! ### The rings -/

/-- The order of types at equal stamps (R55): close, then open, then other. -/
def RingClass.order : RingClass → Nat
  | .wgClose | .aeOff | .rgClose | .quietClose => 0
  | .wgOpen | .aeOn | .rgOpen | .quietOpen => 1
  | .engWake | .dmaStart | .coreIrq | .commut => 2

/-- The class a CLASS code names (R49); reserved codes name none. -/
def ringClassOf (c : Nat) : Option RingClass :=
  match c with
  | 1 => some .wgOpen
  | 2 => some .wgClose
  | 3 => some .aeOn
  | 4 => some .aeOff
  | 5 => some .rgOpen
  | 6 => some .rgClose
  | 7 => some .quietOpen
  | 8 => some .quietClose
  | 9 => some .engWake
  | 10 => some .dmaStart
  | 11 => some .coreIrq
  | 12 => some .commut
  | _ => none

/-- Insert an entry in firing order: by stamp, then type, then commit order (R48, R55). -/
def ringInsert (e : RingEntry) : List RingEntry → List RingEntry
  | [] => [e]
  | f :: t =>
    if e.stamp < f.stamp ∨ (e.stamp = f.stamp ∧ e.cls.order < f.cls.order) then e :: f :: t
    else f :: ringInsert e t

/-- Put the ring of actuator `a`. -/
def setRing (a : Fin 2) (l : List RingEntry) (s : State) : State :=
  { s with inv := { s.inv with ring := s.inv.ring.set a l } }

/-- The channel of an entry of ring `a`. -/
def RingEntry.ch (e : RingEntry) (a : Fin 2) : Fin 4 := chOf a (if e.chan then 1 else 0)

/-- Report a removed WG_OPEN as a dropped sector; other entries go without trace. -/
def dropRemoved (a : Fin 2) (reason : Nat) (s : State) (e : RingEntry) : State :=
  match e.cls with
  | .wgOpen => dropWg (e.ch a) reason e.tag (s.onBit INV_STAT_DROP a.val)
  | _ => s

/-- The flush on entry to INVALID (R50): both rings empty, each removed WG_OPEN reported with REASON 1011b, assist
enables and read gates deasserted, quiet windows ended. -/
def flushRings (s : State) : State :=
  let la := s.inv.ring[0]
  let lb := s.inv.ring[1]
  let s1 := { s with
    inv := { s.inv with
      ring := Vector.replicate 2 []
      rg := Vector.replicate 4 false
      quiet := Vector.replicate 4 false
      quietWait := Vector.replicate 4 false }
    wch := s.wch.map fun c => { c with assist := false } }
  patTrig 63 0 ((lb.foldl (dropRemoved 1 11) (la.foldl (dropRemoved 0 11) s1)).on INV_STAT_FLUSH)

/-! ### Sources -/

/-- INV_SRC.SRC codes (R37). -/
abbrev srcNone : Nat := 0
/-- Servo. -/
abbrev srcServo : Nat := 1
/-- Back-EMF. -/
abbrev srcBemf : Nat := 2
/-- Holdover. -/
abbrev srcHold : Nat := 3

/-- The stamp at which back-EMF angle starts after INVALID (R42, R44): in the revolution after the last stamp, at a wedge
that the manual leaves arbitrary. -/
def State.bemfStart (s : State) : Nat :=
  (s.inv.now / 2 ^ 22 + 1) * 2 ^ 22 + Config.freeValue s.free % s.wedges * 2 ^ 12

/-- Change the source (R44): SRC_CHG, HOLD_LEFT, and trigger 100b of both actuators whenever the new source is not
servo (R59); INVALID clears ALIGNED and flushes the rings; back-EMF out of INVALID starts the stamp in the next
revolution. -/
def setSource (new : Nat) (s : State) : State :=
  let old := s.raw INV_SRC_SRC
  if old = new then s
  else
    let s1 := (((s.set INV_SRC_SRC new).put INV_SRC_VALID (new != 0)).on INV_STAT_SRC_CHG).set INV_SRC_HOLD_LEFT
      (if new = srcHold then s.wedges else 0)
    let s2 := if new = srcServo then s1 else
      quenchBoth 4 { s1 with inv := { s1.inv with prim := none, held := none, slew := 0 } }
    if new = srcNone then flushRings (s2.off INV_SRC_ALIGNED)
    else if old = srcNone ∧ new = srcBemf then { s2 with free := s2.free + 1, inv := { s2.inv with now := s2.bemfStart } }
    else s2

/-! ### Head locks -/

/-- The surface of head `h` of actuator `a`: A0 to A9 on surfaces 0 to 9, B0 to B9 on 10 to 19. -/
def surfOf (a : Fin 2) (h : Nat) : Nat := a.val * 10 + h

/-- The surface that R39 names primary among the locked heads. -/
def State.bestPrim (s : State) : Option Nat :=
  let l := s.raw INV_LOCK_LOCKED
  if l = 0 then none
  else if bitOf l (s.raw INV_PREF_PREF_A) then some (s.raw INV_PREF_PREF_A)
  else if bitOf l (s.raw INV_PREF_PREF_B) then some (s.raw INV_PREF_PREF_B)
  else lowestBit 32 l

/-- Put the lock counts of a surface. -/
def setLock (surf : Nat) (r : LockRun) (s : State) : State :=
  if h : surf < 32 then { s with inv := { s.inv with locks := s.inv.locks.set surf r } } else s

/-- The lock counts of a surface. -/
def State.lockOf (s : State) (surf : Nat) : LockRun :=
  if h : surf < 32 then s.inv.locks[surf] else default

/-- The head on a surface loses lock (R38): its INV_LOCK bit and counts clear; a primary hands over at the next head's
sync (R39); with no head left the source falls to back-EMF or holdover (R44). -/
def unlockSurf (surf : Nat) (s : State) : State :=
  let s0 := setLock surf { (s.lockOf surf) with good := 0, bad := 0 } s
  if s0.bit INV_LOCK_LOCKED surf then
    let s1 := s0.offBit INV_LOCK_LOCKED surf
    let s2 := if s1.inv.prim = some surf then { s1 with inv := { s1.inv with prim := none, held := none } } else s1
    if s2.raw INV_LOCK_LOCKED = 0 ∧ s2.raw INV_SRC_SRC = srcServo then
      setSource (if s2.flag SPN_STAT_OBS_LOCK then srcBemf else srcHold) s2
    else s2
  else s0

/-- The lane stops demodulating the head on a surface (R38): lock lost at once, and the first wedge read afterwards has
no prediction. -/
def dropSurf (surf : Nat) (s : State) : State :=
  setLock surf { good := 0, bad := 0, lastIdx := none } (unlockSurf surf s)

/-- Babbitt reports observer lock (R44). -/
def invObsLock (s : State) : State :=
  if s.flag INV_CFG_EN ∧ (s.raw INV_SRC_SRC = srcNone ∨ s.raw INV_SRC_SRC = srcHold) then setSource srcBemf s else s

/-- Babbitt reports loss of observer lock (R44). -/
def invObsLoss (s : State) : State := if s.raw INV_SRC_SRC = srcBemf then setSource srcHold s else s

/-! ### The advance of angle -/

/-- Whether a lane of the actuator demodulates (R83): EN, the actuator up, and a head selected; lane 1 only in
twin-head mode (R93). -/
def State.twin (s : State) (a : Fin 2) : Bool :=
  s.flag (SRV_TWIN_TWIN_EN a.val) && s.flag (SRV_PA_CFG_DUAL a.val) && !s.bit ASY_CHSUB_SUB a.val &&
  (s.srv[a].lanes[0]).sel < 10 && (s.srv[a].lanes[1]).sel < 10 &&
  (s.srv[a].lanes[0]).sel != (s.srv[a].lanes[1]).sel

/-- Whether lane `l` of actuator `a` demodulates (R83, R93). -/
def State.demod (s : State) (a l : Fin 2) : Bool :=
  s.flag (SRV_CFG_EN a.val) && s.actUp a && (s.srv[a].lanes[l]).sel < 10 && (l.val = 0 || s.twin a)

/-- One wedge passes, as the counts of R441 see it: holdover runs down (R44), a wedge counts towards the release of a
shock hold, and of 000b and 001b while no lane of the actuator demodulates (R443). -/
def wedgePass (s : State) : State :=
  let good := !s.inv.shockBad
  let idle (a : Fin 2) (t : State) : State :=
    if t.demod a 0 || t.demod a 1 then t else relCountWedge 1 true a (relCountWedge 0 true a t)
  let s1 := idle 1 (idle 0 (relCountWedge 2 good 1 (relCountWedge 2 good 0 s)))
  let s2 := { s1 with inv := { s1.inv with shockBad := false } }
  if s2.raw INV_SRC_SRC = srcHold then s2.set INV_SRC_HOLD_LEFT (s2.raw INV_SRC_HOLD_LEFT - 1) else s2

/-- `n` wedges pass. -/
def wedgesPass : Nat → State → State
  | 0, s => s
  | n + 1, s => wedgesPass n (wedgePass s)

/-- Device angle moves on to a stamp; it never decreases (R36). Each wedge boundary crossed counts, and the ticks passed
join the count of R441. -/
def advanceTo (st : Nat) (s : State) : State :=
  if st ≤ s.inv.now then s
  else
    let t0 := stampTicks s.wedges s.inv.now
    let t1 := stampTicks s.wedges st
    wedgesPass (t1 / 4096 - t0 / 4096) { s with inv := { s.inv with now := st, cnt := s.inv.cnt + (t1 - t0) } }

/-- `n` ticks of wall-counter time pass while there is no angle source (R441). -/
def wallTicks (n : Nat) (s : State) : State :=
  wedgesPass ((s.inv.cnt + n) / 4096 - s.inv.cnt / 4096) { s with inv := { s.inv with cnt := s.inv.cnt + n } }

end Sys2Proof.Machine
end

