-- ==== Sys2Proof/Machine/Hold.lean ====
section
/-!
DEFINITION. Hold-up energy and the dirty cap: SPN_HOLDUP from the spindle's inertia (R78), the cap from the energy and
the erased save area (R253), and what follows when either changes (R80, R254).
-/
namespace Sys2Proof.Machine

/-- π as a ratio: 20 decimals, which is what the whole-number results of R77 and R78 are computed with. -/
def piNum : Nat := 314159265358979323846
/-- The denominator of `piNum`. -/
def piDen : Nat := 100000000000000000000

/-- The hold-up energy in mJ (R78): E = ETA/256 × ½ J (ω² − ω_f²) − RESERVE × 100 mJ, rounded down, 0 when negative and
0 while J is not valid; ω is the lower of the measured speed and TARGET. -/
def State.holdupMj (s : State) : Nat :=
  if s.flag SPN_J_VALID then
    let w := min (s.raw SPN_SPEED_MEAS_RPM16) (s.get SPN_SPEED_TARGET)
    let f := s.raw SPN_HU_CFG_FLOOR * 1600
    let e := s.raw SPN_HU_CFG_ETA * s.raw SPN_J_J * (w * w - f * f) * (piNum * piNum) * 4000
    let d := 256 * 2 * 100000000 * 3600 * 256 * (piDen * piDen)
    (e - s.raw SPN_HU_CFG_RESERVE * 100 * d) / d
  else 0

/-- Dirty units in the pool (R251). -/
def State.dirtyUnits (s : State) : Nat := (s.buf.units.filter fun u => u.2.dirty).length

/-- ERASED_PAGES (R268): 256 for each erased good block of the save area, less the pages already programmed in the block
in use. -/
def State.erasedPages (s : State) : Nat :=
  256 * (List.range 10).foldl (fun n k => n + popcount 32 (s.raw (VLT_SAVE_MAP_ERASED k))) 0 - s.vlt.used

/-- CAP of R253, in units of 4 KiB. -/
def State.cap (s : State) : Nat :=
  let eav := s.raw SPN_HOLDUP_E_MJ * s.raw BUF_CAP_CFG_MARGIN - s.raw BUF_CAP_CFG_FIXED_MJ * 256
  let n := eav * s.raw BUF_SAVE_CFG_RATE_MBPS * 1000000
  let d := 256 * (s.raw BUF_SAVE_CFG_SAVE_MW * 4096)
  let ce := if d = 0 then Config.quotZero n else n / d
  let cv := (s.erasedPages - 258) * 4
  min (s.get BUF_CAP_CFG_MAX_MIB * 256) (min ce cv)

/-- Dirty data within the cap, as BUF reports to Babbitt (R254). -/
def State.withinCap (s : State) : Bool := s.dirtyUnits ≤ s.cap

/-- After a change of E, of P or of the fields (R253): when CAP has fallen below the dirty data, OVER_CAP sets (R254). -/
def capRecompute (before : Bool) (s : State) : State :=
  if before && !s.withinCap then patTrig 28 s.dirtyUnits (s.on BUF_STAT_OVER_CAP) else s

/-- Change the state by `f`, then recompute the cap. -/
def withCap (f : State → State) (s : State) : State := capRecompute s.withinCap (f s)

/-- Babbitt updates E (R78); in RECTIFY it is frozen. -/
def holdupUpdate (s : State) : State :=
  if s.raw SPN_STAT_STATE = 11 then s else withCap (fun t => t.set SPN_HOLDUP_E_MJ t.holdupMj) s

end Sys2Proof.Machine
end

