-- ==== Sys2Proof/Machine/Mem.lean ====
section
/-!
DEFINITION. The buffer DRAM (R247): bytes at DRAM byte addresses below 15 GiB, kept as a canonical table; an access at
or above 15 GiB, and a read of a poisoned line, is an uncorrectable error (R247, R262).
-/
namespace Sys2Proof.Machine

/-- Usable DRAM: 15 GiB (R247). -/
def dramSize : Nat := 0x3C0000000

/-- The byte at a DRAM address. -/
def State.dramByte (s : State) (a : Nat) : Byte := tabLook 0 s.dram a

/-- `n` bytes from a DRAM address, lowest address first. -/
def State.dramBytes (s : State) (a : Nat) : Nat → List Byte
  | 0 => []
  | n + 1 => s.dramByte a :: s.dramBytes (a + 1) n

/-- A little-endian number of `n` bytes at a DRAM address. -/
def State.dramLe (s : State) (a : Nat) : Nat → Nat
  | 0 => 0
  | n + 1 => (s.dramByte a).toNat + 256 * s.dramLe (a + 1) n

/-- The bytes as a number whose most significant byte comes first. -/
def beNat (l : List Byte) : Nat := l.foldl (fun n b => n * 256 + b.toNat) 0

/-- The `n` bytes of a number, least significant first. -/
def leBytes (v : Nat) : Nat → List Byte
  | 0 => []
  | n + 1 => BitVec.ofNat 8 v :: leBytes (v / 256) n

/-- The `n` bytes of a number, most significant first. -/
def beBytes (v n : Nat) : List Byte := (leBytes v n).reverse

/-- Store bytes in a byte table. -/
def storeBytes (t : Tab Byte) (a : Nat) : List Byte → Tab Byte
  | [] => t
  | b :: l => storeBytes (tabPut 0 t a b) (a + 1) l

/-- The 64-byte lines that `n` bytes at `a` touch. -/
def linesOf (a n : Nat) : List Nat :=
  if n = 0 then [] else (List.range ((a + n - 1) / 64 - a / 64 + 1)).map fun i => a / 64 + i

/-- Whether `n` bytes at `a` lie in DRAM and touch no poisoned line: a read of them is correctable. -/
def State.dramOk (s : State) (a n : Nat) : Bool :=
  a + n ≤ dramSize && (linesOf a n).all fun l => !(s.poison.contains l)

/-- Store bytes at a DRAM address; nothing is stored at or above 15 GiB. A line written whole loses its poison; a write of
part of a poisoned line leaves it poisoned and sets POISON_WR (R262). -/
def State.dramWrite (s : State) (a : Nat) (l : List Byte) : State :=
  if a + l.length ≤ dramSize then
    let whole (p : Nat) : Bool := a ≤ p * 64 && p * 64 + 64 ≤ a + l.length
    let hit (p : Nat) : Bool := a < p * 64 + 64 && p * 64 < a + l.length
    let s1 : State :=
      { s with
        dram := storeBytes s.dram a l
        poison := s.poison.filter fun p => !whole p }
    if s.poison.any fun p => hit p && !whole p then s1.on MEM_STAT_POISON_WR else s1
  else s

/-- Store a little-endian number of `n` bytes. -/
def State.dramPut (s : State) (a v n : Nat) : State := s.dramWrite a (leBytes v n)

/-! ### Checks over bytes -/

/-- One bit of the reflected CRC-32C register (RFC 3720: polynomial 0x1EDC6F41, reflected 0x82F63B78). -/
def crc32cBit (c : Nat) : Nat := if c % 2 = 1 then (c / 2) ^^^ 0x82F63B78 else c / 2

/-- One byte of CRC-32C. -/
def crc32cByte (c : Nat) (b : Nat) : Nat :=
  crc32cBit (crc32cBit (crc32cBit (crc32cBit (crc32cBit (crc32cBit (crc32cBit (crc32cBit (c ^^^ b))))))))

/-- CRC-32C over bytes, continued from a register value. -/
def crc32cGo (c : Nat) (l : List Byte) : Nat := l.foldl (fun c b => crc32cByte c b.toNat) c

/-- CRC-32C (R112): initial value and final XOR 0xFFFF_FFFF. -/
def crc32c (l : List Byte) : Nat := crc32cGo 0xFFFFFFFF l ^^^ 0xFFFFFFFF

end Sys2Proof.Machine
end

