-- ==== Sys2Proof/Machine/Buffer.lean ====
section
/-!
DEFINITION. Buffer units (R251, R252, R254), the start of DMA jobs (R258), stored-word protection (R249, R250, R262 to
R264) and the vault's commands (R266 to R268).
-/
namespace Sys2Proof.Machine

/-! ### Buffer units (R251) -/

/-- Change the unit table. -/
def modUnits (f : Tab BUnit → Tab BUnit) (s : State) : State :=
  { s with buf := { s.buf with units := f s.buf.units } }

/-- What an unlisted unit reads as: free. -/
def freeUnit : BUnit := { dirty := false, ref := 0 }

/-- The state of a unit. -/
def State.unit (s : State) (u : Nat) : BUnit := tabLook freeUnit s.buf.units u

/-- Put the state of a unit; a unit without references is free whatever its DIRTY bit (R252). -/
def putUnit (u : Nat) (x : BUnit) (s : State) : State :=
  modUnits (fun t => tabPut freeUnit t u (if x.ref = 0 then freeUnit else x)) s

/-- Units of the pool that hold the state table and are never allocated. -/
def State.tableUnits (s : State) : Nat := ceilDiv (s.raw BUF_POOL_UNITS_UNITS * 2) 4096

/-- Whether a unit lies in the pool. -/
def State.inPool (s : State) (u : Nat) : Bool :=
  s.raw BUF_POOL_BASE_BASE ≤ u && u < s.raw BUF_POOL_BASE_BASE + s.raw BUF_POOL_UNITS_UNITS

/-- Whether a unit lies in a retired 2 MiB region (R250). -/
def State.retired (s : State) (u : Nat) : Bool :=
  (List.range 16).any fun i => s.flag (MEM_RETIRE_VALID i) && s.raw (MEM_RETIRE_REGION i) == u / 512

/-- Whether a unit can be allocated: in the pool past the state table, not retired, and free. -/
def State.allocable (s : State) (u : Nat) : Bool :=
  s.inPool u && s.raw BUF_POOL_BASE_BASE + s.tableUnits ≤ u && !s.retired u && (s.unit u).ref == 0

/-- The units that `n` consecutive units from `u` are. -/
def unitRun (u n : Nat) : List Nat := (List.range n).map (u + ·)

/-- The first units of the free runs of `n` units. -/
def State.freeRuns (s : State) (n : Nat) : List Nat :=
  (unitRun (s.raw BUF_POOL_BASE_BASE) (s.raw BUF_POOL_UNITS_UNITS)).filter fun u => (unitRun u n).all s.allocable

/-- The free run that BUF takes: which one, when there are several, the manual does not say. -/
def State.pickRun (s : State) (n : Nat) : Option Nat :=
  match s.freeRuns n with
  | [] => none
  | [u] => some u
  | u :: l => some ((u :: l).getD (Config.freeValue s.free % (l.length + 1)) u)

/-- Stage a unit operation (R251) and report its outcome. -/
def segResp (r : Req) (op n addr : Nat) (res first : Nat) (s : State) : State :=
  (((((s.set ((BUF_SEG_W 0).of r) (op * 2 ^ 28 + (n - 1) * 2 ^ 16)).set ((BUF_SEG_W 1).of r) addr).set
    (BUF_SEG_RESP_RESULT.of r) res).set (BUF_SEG_RESP_ADDR.of r) first).on (BUF_SEG_RESP_DONE.of r))

/-- An allocation of `n` units (R251, R254). -/
def segAlloc (r : Req) (dirty : Bool) (n addr : Nat) (s : State) : State :=
  let op := if dirty then 2 else 1
  if !s.flag BUF_CTL_EN then segResp r op n addr 5 0 s
  else if dirty && s.cap < s.dirtyUnits + n then segResp r op n addr 1 0 (s.on BUF_STAT_CAP_WAIT)
  else
    match s.pickRun n with
    | none => segResp r op n addr 2 0 s
    | some u =>
      segResp r op n addr 0 u ((unitRun u n).foldl (fun t v => putUnit v { dirty, ref := 1 } t) s.draw.1)

/-- An operation on named units: refused as a whole when one of them is free (or, for RESTORE, allocated), when a REF
would pass 16,383, or when the range leaves the pool. -/
def segNamed (r : Req) (op n addr : Nat) (f : BUnit → BUnit) (s : State) : State :=
  let us := unitRun addr n
  let bad (u : Nat) : Bool := s.inPool u && (if op = 7 then (s.unit u).ref != 0 else (s.unit u).ref == 0)
  if !s.flag BUF_CTL_EN then segResp r op n addr 5 0 s
  else if us.any bad then segResp r op n addr 3 0 s
  else if op == 3 && us.any (fun u => (s.unit u).ref == 16383) then segResp r op n addr 4 0 s
  else if !us.all s.inPool then segResp r op n addr 6 0 s
  else segResp r op n addr 0 0 (us.foldl (fun t u => putUnit u (f (t.unit u)) t) s)

/-- Drop a reference. -/
def BUnit.drop (x : BUnit) : BUnit := { x with ref := x.ref - 1 }

def execAllocClean (r : Req) (n : Fin 512) (s : State) : Res := .next (live s (segAlloc r false (n.val + 1) 0))
def execAllocDirty (r : Req) (n : Fin 512) (s : State) : Res := .next (live s (segAlloc r true (n.val + 1) 0))
def execRef (r : Req) (n : Fin 512) (addr : Nat) (s : State) : Res :=
  .next (live s (segNamed r 3 (n.val + 1) (addr % 2 ^ 22) fun x => { x with ref := x.ref + 1 }))
def execUnref (r : Req) (n : Fin 512) (addr : Nat) (s : State) : Res :=
  .next (live s (segNamed r 4 (n.val + 1) (addr % 2 ^ 22) BUnit.drop))
def execClean (r : Req) (n : Fin 512) (addr : Nat) (s : State) : Res :=
  .next (live s (segNamed r 5 (n.val + 1) (addr % 2 ^ 22) fun x => { x with dirty := false }))
def execCleanUnref (r : Req) (n : Fin 512) (addr : Nat) (s : State) : Res :=
  .next (live s (segNamed r 6 (n.val + 1) (addr % 2 ^ 22) fun x => { x with dirty := false, ref := x.ref - 1 }))
def execRestore (r : Req) (n : Fin 512) (addr : Nat) (s : State) : Res :=
  .next (live s (segNamed r 7 (n.val + 1) (addr % 2 ^ 22) fun _ => { dirty := true, ref := 1 }))

/-! ### DMA jobs (R258) -/

/-- GO on a channel: HALTED clears and the job starts; one of more than 1 MiB asks for the permit of slot 16. -/
def dmaGo (c : Nat) (s : State) : State :=
  let s1 := (s.off (BUF_DMA_CTL_HALTED c)).on (BUF_DMA_CTL_GO c)
  if s1.flag BUF_CTL_EN && 16384 < s1.raw (BUF_DMA_LEN_BLOCKS c) then hwAsk 16 (s1.raw BUF_CTL_DMA_MA * 10) s1 else s1

/-- GO on a running channel changes nothing; OP is that of the write. -/
def dmaStart (c op : Nat) (s : State) : State :=
  if s.flag (BUF_DMA_CTL_GO c) then s else dmaGo c (s.set (BUF_DMA_CTL_OP c) op)

def execDmaCopy (c : Fin 32) (s : State) : Res := .next (live s (dmaStart c.val 0))
def execDmaFill (c : Fin 32) (s : State) : Res := .next (live s (dmaStart c.val 1))

/-! ### Stored-word protection (R249, R250, R262 to R264) -/

/-- READER codes of MEM_ERR. -/
abbrev rdCore : Nat := 0
/-- An engine. -/
abbrev rdEngine : Nat := 1
/-- A client or a DMA channel. -/
abbrev rdClient : Nat := 2
/-- The scrubber. -/
abbrev rdScrub : Nat := 3

/-- An uncorrectable error (R263): counted, recorded when no record is held, and a Patina trigger. -/
def memUe (array reader addr : Nat) (s : State) : State :=
  let s1 := (s.on MEM_STAT_UE).bump MEM_UE_CNT_COUNT 1
  let s2 := if s1.flag MEM_ERR_VALID then s1 else
    (((s1.on MEM_ERR_VALID).set MEM_ERR_ARRAY array).set MEM_ERR_READER reader).set MEM_ERR_ADDR_ADDR addr
  patTrig 31 (addr % 2 ^ 32) s2

/-- An uncorrectable line of DRAM met by a reader; the line is poisoned (R262). -/
def dramUe (reader line : Nat) (s : State) : State :=
  memUe 0x3F reader line (if s.poison.contains line || dramSize ≤ line * 64 then s else { s with poison := line :: s.poison })

/-- A corrected error. -/
def memCe (s : State) : State := (s.on MEM_STAT_CE).bump MEM_CE_CNT_COUNT 1

/-- Lines of the usable DRAM. -/
def dramLines : Nat := dramSize / 64

/-- The patrol scrubber reads its next line (R249): `ce` when it finds a correctable error, `ue` an uncorrectable one. A
retired region is skipped; after the last line the pass is complete. -/
def scrubRead (ce ue : Bool) (s : State) : State :=
  let l := s.mem.scrub
  let s1 := { s with mem := { s.mem with scrub := if dramLines ≤ l + 1 then 0 else l + 1 } }
  let s2 := if s.retired (l / 64) then s1
    else if ue || s.poison.contains l then dramUe rdScrub l s1
    else if ce then memCe s1
    else s1
  if dramLines ≤ l + 1 then s2.on MEM_STAT_SCRUB_PASS else s2

def execScrubRead (ce ue : Bool) (s : State) : Res :=
  .next (live s fun s => s.when (s.flag MEM_CTL_SCRUB_EN && s.stepOn 7) (scrubRead ce ue))

/-- Spare rows of an array (R260). -/
def spareRows (array : Nat) : Nat :=
  match array with
  | 0 | 5 | 6 | 7 | 8 => 32
  | 9 | 10 | 11 => 8
  | _ => 4

/-- Spare rows left in an array. -/
def State.sparesLeft (s : State) (array : Nat) : Nat :=
  spareRows array - (s.mem.rows.filter fun x => x.1 == array).length

/-- A write of MEM_REPAIR with GO (R264). -/
def rowRepair (array row : Nat) (s : State) : State :=
  let s1 := (s.set MEM_REPAIR_ARRAY array).set MEM_REPAIR_ROW row
  let a := s1.get MEM_REPAIR_ARRAY
  if s1.sparesLeft a = 0 then patTrig 32 a (s1.on MEM_STAT_REPAIR_FAIL)
  else { s1 with mem := { s1.mem with rows := s1.mem.rows ++ [(a, row % 2 ^ 16)] } }

def execRowRepair (array row : Nat) (s : State) : Res := .next (live s (rowRepair array row))

/-- A write of MEM_RETIREi (R250). -/
def execRegionRetire (i : Fin 16) (v : Word) (s : State) : Res :=
  .next (live s fun s =>
    (s.put (MEM_RETIRE_VALID i.val) (bitOf v.toNat 31)).set (MEM_RETIRE_REGION i.val) (bits v.toNat 0 13))

/-! ### The vault (R266 to R268) -/

/-- Change the vault. -/
def modVlt (f : Vlt → Vlt) (s : State) : State := { s with vlt := f s.vlt }

/-- The block of region 6 by its place in the region, when the block lies there. -/
def State.saveBlock (s : State) (b : Nat) : Option Nat :=
  if s.raw (VLT_REGION_BASE 6) ≤ b ∧ b < s.raw (VLT_REGION_BASE 6) + s.raw (VLT_REGION_BLOCKS 6) then
    some (b - s.raw (VLT_REGION_BASE 6))
  else none

/-- The RESULT of a vault commit, in the order of R442 and R267. -/
def State.vltResult (s : State) (c : VCmd) : Nat :=
  if !s.flag VLT_CTL_EN then 4
  else if s.vlt.queue.any (fun x => x.tag == c.tag) then 5
  else if 16 ≤ s.vlt.queue.length ∨ 32 ≤ s.vlt.queue.length + s.vlt.cq.length then 1
  else if c.op = 0 ∨ 3 < c.op then 2
  else if (s.saveBlock c.block).isSome && (c.op == 2 || (c.op == 3 && s.vlt.saving)) then 3
  else 0

/-- The permit before a program or erase (R267). -/
def vltAsk (s : State) : State :=
  if s.vlt.queue.any (fun c => c.op != 1) then
    let s1 := hwAsk 15 (s.raw VLT_CTL_PERMIT_MA * 10) s
    if s1.granted 15 then s1 else s1.on VLT_STAT_PERMIT_WAIT
  else s

/-- Commit a vault command staged by requester `r`. -/
def vltCommit (r : Req) (c : VCmd) (s : State) : State :=
  let w : List Nat := [c.op * 2 ^ 28 + c.tag, c.block * 2 ^ 16 + c.page, c.data, c.spare]
  let s0 := w.zipIdx.foldl (fun t e => t.set ((VLT_CMD_W e.2).of r) e.1) s
  let res := s0.vltResult c
  let s1 := (s0.set (VLT_RESP_RESULT.of r) res).on (VLT_RESP_DONE.of r)
  if res = 0 then vltAsk (modVlt (fun v => { v with queue := v.queue ++ [c] }) s1) else s1

/-- A command from its fields, cut to their widths. -/
def vCmd (op tag block page data spare : Nat) : VCmd :=
  { op, tag := tag % 2 ^ 24, block := block % 4096, page := page % 256, data := data % 2 ^ 22, spare := spare % 2 ^ 30 }

def execVaultReadPage (r : Req) (tag block page data spare : Nat) (s : State) : Res :=
  .next (live s (vltCommit r (vCmd 1 tag block page data spare)))
def execVaultProgramPage (r : Req) (tag block page data spare : Nat) (s : State) : Res :=
  .next (live s (vltCommit r (vCmd 2 tag block page data spare)))
def execVaultEraseBlock (r : Req) (tag block : Nat) (s : State) : Res :=
  .next (live s (vltCommit r (vCmd 3 tag block 0 0 0)))

/-- Bytes as a little-endian number. -/
def leNat (l : List Byte) : Nat := l.foldr (fun b n => b.toNat + 256 * n) 0

/-- What a page holds: as programmed; an erased page reads as the manual leaves open. -/
def State.vPage (s : State) (k : Nat) : VPage :=
  match tabLook none s.vlt.pages k with
  | some p => p
  | none => { data := Config.freeValue s.free, spare := Config.freeValue (s.free + 1) }

/-- Put a page. -/
def putPage (k : Nat) (p : Option VPage) (s : State) : State :=
  modVlt (fun v => { v with pages := tabPut none v.pages k p }) s

/-- Post a vault completion (R267). -/
def vltPost (status tag maxbits : Nat) (s : State) : State :=
  let s1 := (modVlt (fun v => { v with
    queue := v.queue.filter fun c => c.tag != tag
    cq := v.cq ++ [(status, tag, maxbits)] }) s).on VLT_STAT_DONE
  if [2, 3, 4, 6].contains status then patTrig 34 tag (s1.on VLT_STAT_FAIL) else s1

/-- Put the save-map bit of a block of region 6 (R268). -/
def putSaveMap (i : Nat) (b : Bool) (s : State) : State := withCap (fun t => t.putBit (VLT_SAVE_MAP_ERASED (i / 32)) (i % 32) b) s

/-- A command does its work: `maxbits` the most bits a read corrected in 1 KiB (above 40: not corrected, R266), `failed`
when the dies report that a program or an erase failed. -/
def vltDone (c : VCmd) (maxbits : Nat) (failed : Bool) (s : State) : State :=
  match c.op with
  | 1 =>
    if 40 < maxbits then vltPost 2 c.tag (min maxbits 255) s
    else
      let p := s.vPage (c.block * 256 + c.page)
      let s1 := { s with free := s.free + 2 }
      vltPost (if s.raw VLT_CTL_REFRESH_TH < maxbits then 1 else 0) c.tag maxbits
        ((s1.dramPut (c.data * 4096) p.data 16384).dramPut (c.spare * 16) p.spare 64)
  | 2 =>
    if !s.dramOk (c.data * 4096) 16384 || !s.dramOk (c.spare * 16) 64 then vltPost 6 c.tag 0 s
    else if failed then vltPost 3 c.tag 0 s
    else
      vltPost 0 c.tag 0 (putPage (c.block * 256 + c.page)
        (some { data := leNat (s.dramBytes (c.data * 4096) 16384), spare := leNat (s.dramBytes (c.spare * 16) 64) }) s)
  | _ =>
    if failed then vltPost 4 c.tag 0 s
    else
      let s1 := modVlt (fun v => { v with pages := v.pages.filter fun e => e.1 / 256 != c.block }) s
      vltPost 0 c.tag 0 (match s.saveBlock c.block with | some i => putSaveMap i true s1 | none => s1)

/-- The command with a TAG completes; a program or an erase runs only under the permit, which is renewed while there is
work. -/
def vaultCommandDone (tag maxbits : Nat) (failed : Bool) (s : State) : State :=
  match s.vlt.queue.find? (fun c => c.tag == tag) with
  | none => s
  | some c =>
    if (c.op != 1 && !s.granted 15) || !s.stepOn 7 then s
    else
      let s1 := vltDone c maxbits failed s
      if s1.vlt.queue.any (fun c => c.op != 1) then (bulRequest 15 (s1.raw VLT_CTL_PERMIT_MA * 10) 0 64 64 s1).1 else s1

def execVaultCommandDone (tag maxbits : Nat) (failed : Bool) (s : State) : Res :=
  .next (live s (vaultCommandDone tag maxbits failed))

/-- A write of VLT_CQ_POP. -/
def execVaultCompletionPop (s : State) : Res := .next (live s (modVlt fun v => { v with cq := v.cq.tail }))

end Sys2Proof.Machine
end

