-- ==== Sys2Proof/Machine/Preamp.lean ====
section
/-!
DEFINITION. The preamp serial port of each actuator (R96 to R99): the frames queued and waiting, which is sent next, and
the frames that Temper adds (R133).
-/
namespace Sys2Proof.Machine

/-- Change the hidden part of a servo page. -/
def modSrv (a : Fin 2) (f : Srv → Srv) (s : State) : State := { s with srv := vmod s.srv a f }

/-- Change one lane. -/
def modLane (a l : Fin 2) (f : Lane → Lane) (s : State) : State :=
  modSrv a (fun v => { v with lanes := vmod v.lanes l f }) s

/-- One lane. -/
def State.lane (s : State) (a l : Fin 2) : Lane := s.srv[a].lanes[l]

/-- The microactuator output of lane `l` of actuator `a`: MAA0, MAA1, MAB0, MAB1. -/
def maOut (a l : Fin 2) : Fld := ACT_MA_OUT_CODE (2 * a.val + l.val)

/-- Priority classes of R99: the FAULT read, head selects, all others. -/
def PaKind.prio : PaKind → Nat
  | .faultRead => 0
  | .headSelect _ => 1
  | _ => 2

/-- Whether the head select of a lane is withheld (R99): its read or write gate is open, its servo window is open, or its
microactuator output has not reached 0 V. -/
def State.hselHeld (s : State) (a l : Fin 2) : Bool :=
  let ch := chOfLane a l s
  let t := s.surfTick (surfOf a (s.lane a l).sel)
  s.wch[ch].gate.isSome || s.inv.rg[ch] ||
  (s.demod a l && (4080 ≤ t || t < 296)) ||
  (s.lane a l).zeroing || s.raw (maOut a l) != 0

/-- Whether a queued frame may be sent now. -/
def State.paReady (s : State) (a : Fin 2) (f : PaFrame) : Bool :=
  match f.kind with
  | .headSelect l => !s.hselHeld a l
  | _ => true

/-- The first frame of a priority class that may be sent. -/
def State.paFirst (s : State) (a : Fin 2) (p : Nat) : Option PaFrame :=
  s.srv[a].queue.find? fun f => f.kind.prio == p && s.paReady a f

/-- The next frame to send, in the priority of R99. -/
def State.paNext (s : State) (a : Fin 2) : Option PaFrame :=
  match s.paFirst a 0 with
  | some f => some f
  | none =>
    match s.paFirst a 1 with
    | some f => some f
    | none => s.paFirst a 2

/-- With no frame on the wires, the next one starts. -/
def paKick (a : Fin 2) (s : State) : State :=
  if s.srv[a].sending.isSome then s
  else
    match s.paNext a with
    | none => s
    | some f => modSrv a (fun v => { v with sending := some f, queue := v.queue.erase f }) s

/-- Frames that hold a place, apart from the one kept for the FAULT read (R99). -/
def State.paCount (s : State) (a : Fin 2) : Nat :=
  (s.srv[a].queue.filter fun f => f.kind != .faultRead).length +
  (match s.srv[a].sending with
   | some f => if f.kind = .faultRead then 0 else 1
   | none => 0)

/-- A frame enters the queue: the GO of SRV_PA_CMD clears then (R99), and a head select starts the slew of the lane's
microactuator to 0 V. -/
def paEnter (a : Fin 2) (f : PaFrame) (s : State) : State :=
  let s1 := modSrv a (fun v => { v with queue := v.queue ++ [f] }) s
  match f.kind with
  | .command => s1.off (SRV_PA_CMD_GO a.val)
  | .headSelect l => if s1.raw (maOut a l) = 0 then s1 else modLane a l (fun x => { x with zeroing := true }) s1
  | _ => s1

/-- A frame is offered (R99): the FAULT read always has its place; any other waits with its source while 15 places are
taken. -/
def paOffer (a : Fin 2) (f : PaFrame) (s : State) : State :=
  if f.kind = .faultRead ∨ s.paCount a < 15 then paKick a (paEnter a f s)
  else modSrv a (fun v => { v with wait := v.wait ++ [f] }) s

/-- The waiting frame that enters next: by priority, then by first attempt (R99). -/
def paWaitNext (l : List PaFrame) : Option PaFrame :=
  match l.find? fun f => f.kind.prio == 1 with
  | some f => some f
  | none => l.head?

/-- While a place is free, waiting frames enter. -/
def paRefill (a : Fin 2) : Nat → State → State
  | 0, s => s
  | n + 1, s =>
    if s.paCount a < 15 then
      match paWaitNext s.srv[a].wait with
      | none => s
      | some f => paRefill a n (paEnter a f (modSrv a (fun v => { v with wait := v.wait.erase f }) s))
    else s

/-- Temper queues the frames of a SEND, in order, while the channel's gate is closed and its assist state off (R133). -/
def tprPush (ch : Fin 4) (s : State) : State :=
  let c := s.wch[ch]
  if c.tprLeft.isEmpty || c.gate.isSome || c.assist then s
  else
    let n := c.tprLeft.length
    let s1 := { s with wch := vmod s.wch ch fun c => { c with tprLeft := [] } }
    (List.zip (List.range n) c.tprLeft).foldl
      (fun t x => paOffer (actOf ch)
        { kind := .temper ch (x.1 + 1 == n), rd := false, addr := x.2.1, data := x.2.2 } t) s1

/-- After a gate or an assist state of actuator `a` has changed: withheld frames may start. -/
def framesSettle (a : Fin 2) (s : State) : State :=
  paKick a (tprPush (chOf a 1) (tprPush (chOf a 0) s))

/-- A frame that SRV sends of itself. -/
def modeFrame (a : Fin 2) (kind : PaKind) (data : Nat) (s : State) : State :=
  paOffer a { kind, rd := false, addr := s.raw (SRV_PA_MAP_MODE a.val), data } s

end Sys2Proof.Machine
end

