-- ==== Sys2Proof/Machine/Write.lean ====
section
/-!
DEFINITION. The write path (05_write_path.md): rate zones (R117), the layout of a track (R118), the frame (R111 to R116),
descriptors (R121), the gates WCH drives (R122 to R126), track parity (R119, R120) and Temper's settings (R133, R134).
-/
namespace Sys2Proof.Machine

/-- Change the hidden part of a write channel. -/
def modWch (ch : Fin 4) (f : WChan → WChan) (s : State) : State := { s with wch := vmod s.wch ch f }

/-! ### Rate zones and fragments -/

/-- The frame length of a code in bits (R111). -/
def frameLen (code : Nat) : Nat := if code = 1 then 40960 else 38880

/-- The bits a data region of actuator `a` holds at a density (R117). -/
def State.regionCap (s : State) (a bpw : Nat) : Nat :=
  (s.raw (SRV_WIN_WR_END a) - 1 - s.raw (SRV_WIN_WR_START a)) * bpw / 4096

/-- VALID of a rate-zone entry (R117): the rate within 6.0 Gbit/s at 7,200 rpm, CAP above 160, and the track within one
revolution. -/
def State.rzValid (s : State) (a h z : Nat) : Bool :=
  let bpw := s.raw (WCH_RZ_W1_BPW a h z)
  let cap := s.regionCap a bpw
  bpw * s.wedges * 120 ≤ 6000000000 && 160 < cap &&
  s.raw (WCH_RZ_W2_SPT a h z) * frameLen (s.get (WCH_RZ_W1_CODE a h z)) + (s.wedges - 1) * 160 ≤ s.wedges * cap

/-- A fragment of a frame: its wedge, its first region bit (the resync included) and the region bit after its last. -/
structure Frag where
  wedge : Nat
  first : Nat
  stop : Nat
  deriving DecidableEq, Repr, Inhabited

/-- The fragments of R118 from wedge `w`, region bit `b`, with `n` frame bits left; `re` when a resync was placed. -/
def fragGo (wedges cap : Nat) : Nat → Nat → Nat → Nat → Bool → List Frag
  | 0, _, _, _, _ => []
  | fuel + 1, w, b, n, re =>
    if n = 0 then []
    else
      let take := min n (cap - b)
      { wedge := w, first := if re then b - 160 else b, stop := b + take } ::
        fragGo wedges cap fuel ((w + 1) % wedges) 160 (n - take) true

/-- The fragments of a queued frame. -/
def State.frags (s : State) (d : WDesc) : List Frag :=
  fragGo s.wedges d.cap 1100 d.startWedge d.startBit (frameLen d.code) false

/-- The surface tick at which the last bit of a fragment ends, rounded up (R122). -/
def fragEnd (d : WDesc) (f : Frag) : Nat := d.wrStart + ceilDiv (f.stop * 4096) d.bpw

/-- Whether device angle has not yet reached a tick of the revolution: it lies ahead by less than half a revolution. -/
def State.isAhead (s : State) (t : Nat) : Bool :=
  let rev := s.wedges * 4096
  let d := (t + rev - s.nowTick % rev) % rev
  0 < d && d * 2 < rev

/-! ### The frame (R111 to R116) -/

/-- The scrambling sequence (R113), 28 bits at a time: `r` holds the last 31 bits, oldest in bit 30. -/
def scramGo : Nat → Nat → Nat → Nat
  | 0, _, acc => acc
  | n + 1, r, acc =>
    let b := (r % 2 ^ 28) ^^^ (r / 8)
    scramGo n (r % 8 * 2 ^ 28 + b) (acc * 2 ^ 28 + b)

/-- The 32,896 scrambling bits of DATA and HOST_MD for an HLBA, first bit most significant (R113). -/
def scramble (hlba : Nat) : Nat :=
  let seed := (hlba % 2 ^ 31) ^^^ 0x55555555
  scramGo 1175 (if seed = 0 then 1 else seed) 0 / 16

/-- One polarity step (R116): the payload so far, the running digital sum, and the next 64-bit block. -/
def polarStep (st : Nat × Int) (blk : Nat) : Nat × Int :=
  let ones : Int := popcount 64 blk
  let d0 : Int := -1 + (2 * ones - 64)
  let d1 : Int := 1 + (64 - 2 * ones)
  if (st.2 + d1).natAbs < (st.2 + d0).natAbs then
    (st.1 * 2 ^ 65 + 2 ^ 64 + (2 ^ 64 - 1 - blk), st.2 + d1)
  else (st.1 * 2 ^ 65 + blk, st.2 + d0)

/-- The coded payload of a codeword of `n` blocks of 64 bits (R116). -/
def polarise (n cw : Nat) : Nat :=
  ((List.range n).foldl (fun st i => polarStep st (cw / 2 ^ (64 * (n - 1 - i)) % 2 ^ 64)) (0, 0)).1

/-- The bits of a frame (R111), first bit most significant: preamble, sync mark, coded payload and pad. -/
def frameBits (code info : Nat) : Nat :=
  let par := if code = 1 then 6912 else 4864
  let blocks := if code = 1 then 624 else 592
  let cw := info * 2 ^ par + Config.ldpcParity code info % 2 ^ par
  let pre := 0x33333333333333333333333333333333333333333333333333333333333333333333333333333333
  ((pre * 2 ^ 48 + 0x3C5AF0C396E1) * 2 ^ (65 * blocks) + polarise blocks cw) * 2 ^ 32 + 0x33333333

/-- DATA, HOST_MD and CRC of a host frame as encoded (R112, R113): the first two scrambled, the CRC over them as read. -/
def State.frameFields (s : State) (d : WDesc) : Nat :=
  let data := s.dramBytes (d.dataAddr * 4096) 4096
  let md := if d.md then s.dramBytes (d.mdAddr * 16) 16 else List.replicate 16 0
  (beNat (data ++ md) ^^^ scramble d.hlba) * 2 ^ 32 + crc32c (data ++ md)

/-- The information part (R112) from the encoded DATA, HOST_MD and CRC (`f`, CRC lowest) and the descriptor. -/
def infoPart (d : WDesc) (f : Nat) : Nat :=
  let hl := if d.pmode = 2 then 2 ^ 48 - 1 else d.hlba
  let ns := if d.pmode = 2 then 0 else d.ns
  let kd := if d.pmode = 2 then 1 else d.kind
  ((((f / 2 ^ 32 * 2 ^ 48 + hl) * 16 + ns) * 16 + kd) * 2 ^ 40 + d.seq) * 2 ^ 32 + f % 2 ^ 32

/-! ### Descriptors (R121) -/

/-- The staged words W0 to W6 of requester `r`, and the word now written to W7, as a descriptor. -/
def State.wDesc (s : State) (r : Req) (ch : Fin 4) (w7 : Nat) : WDesc :=
  let w (i : Nat) : Nat := s.raw ((WCH_FQ_W ch.val i).of r)
  let a := (actOf ch).val
  let h := bits (w 1) 28 4
  let z := bits (w 1) 22 6
  let bpw := s.raw (WCH_RZ_W1_BPW a h z)
  { pmode := bits (w 0) 26 2, tag := bits (w 0) 0 24, head := h, rz := z
    startWedge := bits (w 1) 12 10, slot := bits (w 1) 0 12, startBit := bits (w 2) 0 17
    md := bitOf (w 3) 31, dataAddr := bits (w 3) 0 22, mdAddr := bits (w 4) 0 30
    hlba := w 5 + bits (w 6) 16 16 * 2 ^ 32, ns := bits (w 6) 12 4, kind := bits (w 6) 8 4
    seq := bits (w 6) 0 8 * 2 ^ 32 + w7
    code := s.get (WCH_RZ_W1_CODE a h z), bpw, pc1 := s.raw (WCH_RZ_W3_PC1 a h z), pc2 := s.raw (WCH_RZ_W3_PC2 a h z)
    cap := s.regionCap a bpw, wrStart := s.raw (SRV_WIN_WR_START a)
    ready := false, done := 0, info := 0 }

/-- The RESULT of a write-descriptor commit, in the order of R442 and R121. -/
def State.wCommitResult (s : State) (ch : Fin 4) (d : WDesc) : Nat :=
  let c := s.wch[ch]
  let a := (actOf ch).val
  if !s.flag (WCH_CTL_EN ch.val) then 4
  else if c.queue.any (fun x => x.tag == d.tag) then 5
  else if 16 ≤ c.queue.length ∨ 32 ≤ c.queue.length + c.cq.length then 1
  else if d.pmode = 3 ∨ 9 < d.head ∨ s.wedges ≤ d.startWedge ∨
      (s.rzValid a d.head d.rz ∧ d.cap ≤ d.startBit) ∨ (d.pmode = 1 ∧ d.slot % 65 = 64) ∨
      (d.pmode = 2 ∧ d.slot % 65 ≠ 64) ∨ 4 < d.ns ∨ 5 < d.kind then 6
  else if !s.rzValid a d.head d.rz then 2
  else if d.pmode = 2 ∧ c.mask ≠ 2 ^ 64 - 1 then 3
  else 0

/-- A write of WCH_FQ_W7 (R121): the staged descriptor is queued, and its TAG leaves the abandoned list (R126), or it is
refused; WCH_FQ_RESP reports. -/
def writeDescriptorCommit (r : Req) (ch : Fin 4) (w7 : Nat) (s : State) : State :=
  let s0 := s.set ((WCH_FQ_W ch.val 7).of r) w7
  let d := s.wDesc r ch w7
  let res := s.wCommitResult ch d
  let s1 := ((s0.set ((WCH_FQ_RESP_RESULT ch.val).of r) res).on ((WCH_FQ_RESP_DONE ch.val).of r))
  if res = 0 then
    modWch ch (fun c => { c with queue := c.queue ++ [d], abandoned := c.abandoned.filter fun t => t != d.tag }) s1
  else if res = 2 then s1.on (WCH_STAT_RZ_BAD ch.val)
  else s1

def execWriteDescriptorCommit (r : Req) (ch : Fin 4) (w7 : Word) (s : State) : Res :=
  .next (live s (writeDescriptorCommit r ch w7.toNat))

/-- Replace the queued descriptor with a TAG. -/
def modDesc (ch : Fin 4) (tag : Nat) (f : WDesc → WDesc) (s : State) : State :=
  modWch ch (fun c => { c with queue := c.queue.map fun d => if d.tag = tag then f d else d }) s

/-- The queued descriptor with a TAG. -/
def State.descOf (s : State) (ch : Fin 4) (tag : Nat) : Option WDesc := s.wch[ch].queue.find? fun d => d.tag == tag

/-- Whether the data of a descriptor can be read correctly. -/
def State.descReadable (s : State) (d : WDesc) : Bool :=
  d.pmode == 2 || (s.dramOk (d.dataAddr * 4096) 4096 && (!d.md || s.dramOk (d.mdAddr * 16) 16))

/-- A member frame joins the parity accumulator unless its bit is set already (R120). -/
def parityAdd (d : WDesc) (f : Nat) (c : WChan) : WChan :=
  if d.pmode = 1 ∧ !bitOf c.mask (d.slot % 65) then
    { c with acc := c.acc ^^^ f, mask := setBit c.mask (d.slot % 65) }
  else c

/-- WCH has read, checked, scrambled and encoded the frame (R121): the descriptor becomes ready; a parity frame takes
the accumulator (R119). Each channel buffers three frames. -/
def descriptorReady (ch : Fin 4) (tag : Nat) (s : State) : State :=
  match s.descOf ch tag with
  | none => s
  | some d =>
    if d.ready || !s.descReadable d || 3 ≤ (s.wch[ch].queue.filter fun x => x.ready).length then s
    else
      let f := if d.pmode = 2 then s.wch[ch].acc else s.frameFields d
      modWch ch (parityAdd d f) (modDesc ch tag (fun x => { x with ready := true, info := infoPart d f }) s)

def execDescriptorReady (ch : Fin 4) (tag : Nat) (s : State) : Res := .next (live s (descriptorReady ch tag))

/-! ### Write gates (R123 to R126, R88) -/

/-- The preamp channel that CHn drives (R358). -/
def laneOfCh (ch : Fin 4) (s : State) : Fin 2 :=
  if s.bit ASY_CHSUB_SUB (actOf ch).val then 0 else ⟨ch.val % 2, by omega⟩

/-- The surface of the head that the channel's preamp channel has selected. -/
def State.surfOfCh (s : State) (ch : Fin 4) : Nat :=
  surfOf (actOf ch) (s.lane (actOf ch) (laneOfCh ch s)).sel

/-- The guard cuts a channel's fragment (R88): the gate ball goes low, WR_OVERRUN and OVERRUN set, and the frame
completes with STATUS 10b. -/
def guardCut (ch : Fin 4) (tag : Nat) (s : State) : State :=
  let s1 := wchAbandon ch 2 tag (gateDown ch s)
  patTrig 15 ch.val ((s1.on (SRV_STAT_WR_OVERRUN (actOf ch).val)).on (WCH_STAT_OVERRUN ch.val))

/-- WCH cannot write the fragment of a WG_OPEN (R125): the flag that names the cause, trigger 111b, and the entry as a
rewrite record. -/
def wchRaise (ch : Fin 4) (flag : Fld) (patina : Bool) (tag : Nat) (s : State) : State :=
  let s1 := s.on flag
  let s2 := if patina then patTrig 13 ch.val s1 else s1
  let s3 := quenchAct 7 false (actOf ch) s2
  dropWg ch (s3.holdReason ch) tag s3

/-- A WG_OPEN that neither Quench nor a quiet window drops (R123, R125, R126). -/
def wgWrite (ch : Fin 4) (tag : Nat) (s : State) : State :=
  let c := s.wch[ch]
  if c.abandoned.contains tag then s
  else
    match s.descOf ch tag with
    | none => wchRaise ch (WCH_STAT_ORPHAN ch.val) true tag s
    | some d =>
      if !d.ready then wchRaise ch (WCH_STAT_UNDERRUN ch.val) true tag s
      else if !s.bit TPR_STAT_READY ch.val then wchRaise ch (WCH_STAT_NOT_READY ch.val) true tag s
      else
        match c.gate with
        | some (t, _) => if t = tag then s else wchRaise ch (WCH_STAT_OVERLAP ch.val) false tag s
        | none =>
          let t := s.surfTick (s.surfOfCh ch)
          let a := (actOf ch).val
          if t < s.raw (SRV_WIN_WR_START a) ∨ s.raw (SRV_WIN_WR_END a) ≤ t then guardCut ch tag s
          else
            let f := ((s.frags d)[d.done]?).getD default
            (modWch ch (fun c => { c with gate := some (tag, d.done) }) s).emit
              (.writeFragment ch tag f.wedge f.first f.stop (frameBits d.code d.info))

/-- A WG_OPEN reaches its stamp (R60, R57, R123, R356): dropped while Quench holds the channel, while QCH_TEST.OUT_HOLD
is 1b, or while a quiet window is open. -/
def wgOpenFire (ch : Fin 4) (tag : Nat) (s : State) : State :=
  let d := s.onBit INV_STAT_DROP (actOf ch).val
  if s.chHeld ch then dropWg ch (s.holdReason ch) tag d
  else if s.flag QCH_TEST_OUT_HOLD then dropWg ch 7 tag d
  else if s.inv.quiet[ch] then dropWg ch 10 tag (d.on INV_STAT_QUIET_CONFLICT)
  else wgWrite ch tag (s.on (WCH_CTL_WR_ACTIVE ch.val))

/-- The frame with a TAG has written its last fragment: it completes with 00b; a parity frame leaves the accumulator
and mask cleared (R120, R123). -/
def wchComplete (ch : Fin 4) (d : WDesc) (s : State) : State :=
  let s1 := wchPost ch 0 d.tag (modWch ch (fun c => { c with queue := c.queue.filter fun x => x.tag != d.tag }) s)
  if d.pmode = 2 then modWch ch (fun c => { c with acc := 0, mask := 0 }) s1 else s1

/-- A WG_CLOSE fires (R123, R444): it closes the gate of its TAG; before the fragment's last bit has ended it cuts the
frame with STATUS 11b. -/
def wgCloseFire (ch : Fin 4) (tag : Nat) (s : State) : State :=
  match s.wch[ch].gate with
  | none => s
  | some (t, k) =>
    if t ≠ tag then s
    else
      match s.descOf ch tag with
      | none => gateDown ch s
      | some d =>
        let fs := s.frags d
        let f := (fs[k]?).getD default
        if s.isAhead (s.deviceTick (surfOf (actOf ch) d.head) f.wedge (fragEnd d f)) then
          (wchAbandon ch 3 tag (gateDown ch s)).on (WCH_STAT_EARLY_CLOSE ch.val)
        else if fs.length ≤ k + 1 then wchComplete ch d (gateDown ch s)
        else modDesc ch tag (fun x => { x with done := k + 1 }) (gateDown ch s)

/-- At WR_END with the lane's write gate open (R88). -/
def execWrEndGuard (a l : Fin 2) (s : State) : Res :=
  .next (live s fun s =>
    match s.wch[chOfLane a l s].gate with
    | none => s
    | some (tag, _) => framesSettle a (guardCut (chOfLane a l s) tag s))

/-! ### Write-active state and completions (R124) -/

def execWrActiveSet (ch : Fin 4) (s : State) : Res := .next (live s fun s => s.on (WCH_CTL_WR_ACTIVE ch.val))

/-- A clear of WR_ACTIVE: accepted with the gate closed, the assist state off and the queue empty. -/
def wrActiveClear (ch : Fin 4) (s : State) : State :=
  let c := s.wch[ch]
  if c.gate.isNone && !c.assist && c.queue.isEmpty then
    modWch ch (fun c => { c with abandoned := [] }) (s.off (WCH_CTL_WR_ACTIVE ch.val))
  else s.on (WCH_STAT_WA_REFUSED ch.val)

def execWrActiveClear (ch : Fin 4) (s : State) : Res := .next (live s (wrActiveClear ch))

/-- A write of WCH_CQ_POP removes the oldest completion and frees its place. -/
def execWriteCompletionPop (ch : Fin 4) (s : State) : Res :=
  .next (live s (modWch ch fun c => { c with cq := c.cq.tail }))

/-! ### The parity accumulator (R120) -/

/-- Whether a member or parity descriptor is queued. -/
def State.wTpBusy (s : State) (ch : Fin 4) : Bool := s.wch[ch].queue.any fun d => d.pmode != 0

/-- Do `f` unless a member or parity descriptor is queued, which refuses it. -/
def wTp (ch : Fin 4) (f : State → State) (s : State) : State :=
  if s.wTpBusy ch then s.on (WCH_STAT_TP_REFUSED ch.val) else f s

/-- SAVE: the accumulator, the mask and the pad, 4,160 bytes. -/
def wchTpSave (ch : Fin 4) : State → State :=
  wTp ch fun s => s.dramWrite (s.raw (WCH_TP_ADDR_ADDR ch.val) * 64)
    (beBytes s.wch[ch].acc 4116 ++ leBytes s.wch[ch].mask 8 ++ List.replicate 36 0)

/-- RESTORE: load them. -/
def wchTpRestore (ch : Fin 4) : State → State :=
  wTp ch fun s =>
    let p := s.raw (WCH_TP_ADDR_ADDR ch.val) * 64
    modWch ch (fun c => { c with acc := beNat (s.dramBytes p 4116), mask := s.dramLe (p + 4116) 8 }) s

/-- CLEAR: zero them. -/
def wchTpClear (ch : Fin 4) : State → State := wTp ch (modWch ch fun c => { c with acc := 0, mask := 0 })

def execWchTpSave (ch : Fin 4) (s : State) : Res := .next (live s (wchTpSave ch))
def execWchTpRestore (ch : Fin 4) (s : State) : Res := .next (live s (wchTpRestore ch))
def execWchTpClear (ch : Fin 4) (s : State) : Res := .next (live s (wchTpClear ch))

/-! ### Rate-zone entries and Temper -/

/-- A write of word `w` of a rate-zone entry (R117); VALID is `State.rzValid`, re-evaluated from the fields. -/
def rateZoneWrite (a : Fin 2) (h z w v : Nat) (s : State) : State :=
  match w with
  | 0 => s.set (WCH_RZ_W0_START_TRK a.val h z) (bits v 0 24)
  | 1 => (s.set (WCH_RZ_W1_CODE a.val h z) (bits v 24 4)).set (WCH_RZ_W1_BPW a.val h z) (bits v 0 17)
  | 2 => (s.set (WCH_RZ_W2_SPT a.val h z) (bits v 16 12)).set (WCH_RZ_W2_TRK_SKEW a.val h z) (bits v 0 10)
  | 3 => (s.set (WCH_RZ_W3_PC2 a.val h z) (bits v 8 5)).set (WCH_RZ_W3_PC1 a.val h z) (bits v 0 5)
  | _ => s

def execRateZoneWrite (a : Fin 2) (h : Fin 10) (z : Fin 64) (w : Fin 4) (v : Word) (s : State) : Res :=
  .next (live s (rateZoneWrite a h.val z.val w.val v.toNat))

/-- A value limited to `m` (R134), and whether it was. -/
def clampTo (m v : Nat) : Nat × Bool := (min v m, m < v)

/-- The frames of a SEND for a channel (R133), each as its preamp address and value, limited under R134, and whether any
value was limited: HAMR sends six, MAMR three. -/
def State.tprFrames (s : State) (ch : Fin 4) : List (Nat × Nat) × Bool :=
  let mamr := s.flag SYS_STRAP_ASSIST
  let h := (actOf ch).val * 10 + s.get (TPR_SEL_HEAD ch.val)
  let z := s.raw (TPR_SEL_RZ ch.val)
  let o := if (laneOfCh ch s).val = 1 then s.raw TPR_PA_MAP1_CH1_OFS else 0
  let wc := clampTo (s.raw TPR_LIM_WC_MAX) (s.raw (TPR_HZ_W1_WCUR h z))
  let wo := clampTo (s.raw TPR_LIM_WC_MAX) (s.raw (TPR_HZ_W1_WOS h z))
  let ab := clampTo (s.raw (if mamr then TPR_LIM_STO_MAX else TPR_LIM_LB_MAX)) (s.raw (TPR_HZ_W0_ABIAS h z))
  let ap := clampTo (s.raw TPR_LIM_LP_MAX) (s.raw (TPR_HZ_W0_APEAK h z))
  let common := [((s.raw TPR_PA_MAP0_WCUR + o) % 128, wc.1), ((s.raw TPR_PA_MAP0_WOS + o) % 128, wo.1),
    ((s.raw TPR_PA_MAP0_ABIAS + o) % 128, ab.1)]
  if mamr then (common, wc.2 || wo.2 || ab.2)
  else (common ++ [((s.raw TPR_PA_MAP0_APEAK + o) % 128, ap.1),
    ((s.raw TPR_PA_MAP1_PWID + o) % 128, s.raw (TPR_HZ_W0_PWID h z)),
    ((s.raw TPR_PA_MAP1_PPHS + o) % 128, s.raw (TPR_HZ_W0_PPHS h z))], wc.2 || wo.2 || ab.2 || ap.2)

/-- A write of TPR_SELn with SEND (R133): READY clears, and Temper queues the frames of the entry. While TPR_CTL.EN is 0b
nothing is sent and READY stays 0b. -/
def tprSend (ch : Fin 4) (v : Nat) (s : State) : State :=
  let s1 := ((((s.set (TPR_SEL_HEAD ch.val) (bits v 8 4)).set (TPR_SEL_RZ ch.val) (bits v 0 6)).on
    (TPR_SEL_SEND ch.val)).offBit TPR_STAT_READY ch.val)
  if s1.flag TPR_CTL_EN then
    let fs := s1.tprFrames ch
    let h := (actOf ch).val * 10 + s1.get (TPR_SEL_HEAD ch.val)
    let s2 := if fs.2 then patTrig 14 ch.val (s1.onBit TPR_STAT_CLAMP ch.val) else s1
    tprPush ch (modWch ch
      (fun c => { c with tprLeft := fs.1, reheat := s1.raw (TPR_HZ_W1_REHEAT h (s1.raw (TPR_SEL_RZ ch.val))) }) s2)
  else s1

def execTprSend (ch : Fin 4) (v : Word) (s : State) : Res := .next (live s (tprSend ch v.toNat))

end Sys2Proof.Machine
end

