-- ==== Sys2Proof/Machine/Read.lean ====
section
/-!
DEFINITION. The read path (06_read_path.md): descriptors and capture, in-line decoding, the active set, routing, sample
slots, deep decoders, read track parity, decoder binding, and what the channel-format role does for a frame not accepted.
-/
namespace Sys2Proof.Machine

/-- Change one read channel. -/
def modRch (ch : Fin 4) (f : RChan → RChan) (s : State) : State := { s with rch := vmod s.rch ch f }

/-- Change the deep decoders. -/
def modDeep (f : Deep → Deep) (s : State) : State := { s with deep := f s.deep }

/-- A sample slot of a channel. -/
def State.sslot (s : State) (ch : Fin 4) (k : Nat) : RSlot := tabLook default s.rch[ch].slots k

/-! ### Descriptors (R146) -/

/-- The staged read descriptor of requester `r`. -/
def State.rDesc (s : State) (r : Req) (ch : Fin 4) : RDesc :=
  let w (i : Nat) : Nat := s.raw ((RCH_FQ_W ch.val i).of r)
  let a := (actOf ch).val
  let h := bits (w 1) 28 4
  let z := bits (w 1) 22 6
  let bpw := s.raw (WCH_RZ_W1_BPW a h z)
  { chk := bitOf (w 0) 25
    w := { pmode := bits (w 0) 26 2, tag := bits (w 0) 0 24, head := h, rz := z
           startWedge := bits (w 1) 12 10, slot := bits (w 1) 0 12, startBit := bits (w 2) 0 17
           md := bitOf (w 3) 31, dataAddr := bits (w 3) 0 22, mdAddr := bits (w 4) 0 30
           hlba := w 5 + bits (w 6) 16 16 * 2 ^ 32, ns := bits (w 6) 12 4, kind := bits (w 6) 8 4, seq := 0
           code := s.get (WCH_RZ_W1_CODE a h z), bpw, pc1 := 0, pc2 := 0
           cap := s.regionCap a bpw, wrStart := s.raw (SRV_WIN_WR_START a), ready := false, done := 0, info := 0 } }

/-- Completion places held: by descriptors queued, capturing, waiting or in decode, and by completions (R155). -/
def RChan.places (c : RChan) : Nat := c.queue.length + c.wait.length + b2n c.cur.isSome + c.cq.length

/-- The RESULT of a read-descriptor commit, in the order of R442 and R146. -/
def State.rCommitResult (s : State) (ch : Fin 4) (d : RDesc) : Nat :=
  let c := s.rch[ch]
  let a := (actOf ch).val
  let v := s.rzValid a d.w.head d.w.rz
  if !s.flag (RCH_CTL_EN ch.val) then 4
  else if c.queue.any (fun x => x.w.tag == d.w.tag) then 5
  else if 16 ≤ c.queue.length ∨ 32 ≤ c.places then 1
  else if d.w.pmode = 3 ∨ 9 < d.w.head ∨ s.wedges ≤ d.w.startWedge ∨ (v ∧ d.w.cap ≤ d.w.startBit) ∨
      (d.w.pmode = 1 ∧ d.w.slot % 65 = 64) ∨ (d.w.pmode = 2 ∧ d.w.slot % 65 ≠ 64) then 7
  else if !v then 2
  else if 8 < (s.frags d.w).length then 3
  else if !s.flag (RCH_SEL_READY ch.val) then 6
  else 0

/-- A write of RCH_FQ_W7: the staged descriptor is queued or refused. -/
def readDescriptorCommit (r : Req) (ch : Fin 4) (w7 : Nat) (s : State) : State :=
  let s0 := s.set ((RCH_FQ_W ch.val 7).of r) w7
  let d := s.rDesc r ch
  let res := s.rCommitResult ch d
  let s1 := (s0.set ((RCH_FQ_RESP_RESULT ch.val).of r) res).on ((RCH_FQ_RESP_DONE ch.val).of r)
  if res = 0 then modRch ch (fun c => { c with queue := c.queue ++ [d] }) s1 else s1

def execReadDescriptorCommit (r : Req) (ch : Fin 4) (w7 : Word) (s : State) : Res :=
  .next (live s (readDescriptorCommit r ch w7.toNat))

/-! ### Sample slots (R156, R157) -/

/-- Slots pinned. -/
def RChan.pinned (c : RChan) : Nat := popcount 64 c.pins

/-- The slot that the next capture takes: of the unpinned ones, the oldest capture (R156). -/
def RChan.nextSlot (c : RChan) : Nat :=
  ((List.range 64).foldl (fun (b : Option (Nat × Nat)) k =>
    if bitOf c.pins k then b
    else
      let q := (tabLook default c.slots k : RSlot).seq
      match b with
      | some (_, q') => if q < q' then some (k, q) else b
      | none => some (k, q)) none |>.map Prod.fst).getD 0

/-- Pin a slot, unless 32 are pinned already, which sets PIN_FULL (R157). -/
def pinSlot (ch : Fin 4) (k : Nat) (s : State) : State :=
  let c := s.rch[ch]
  if bitOf c.pins k then s
  else if 32 ≤ c.pinned then s.on (RCH_STAT_PIN_FULL ch.val)
  else modRch ch (fun c => { c with pins := setBit c.pins k }) s

/-- Unpin a slot. -/
def unpinSlot (ch : Fin 4) (k : Nat) (s : State) : State :=
  modRch ch (fun c => { c with pins := clrBit c.pins k }) s

/-- A write of RCH_SB_PINCTL that sets PIN and not UNPIN. -/
def execSampleSlotPin (ch : Fin 4) (k : Fin 64) (s : State) : Res :=
  .next (live s fun s => pinSlot ch k.val (s.set (RCH_SB_PINCTL_SLOT ch.val) k.val))

/-- A write of RCH_SB_PINCTL that sets UNPIN and not PIN. -/
def execSampleSlotUnpin (ch : Fin 4) (k : Fin 64) (s : State) : Res :=
  .next (live s fun s => unpinSlot ch k.val (s.set (RCH_SB_PINCTL_SLOT ch.val) k.val))

/-! ### Completions (R155) -/

/-- The RCH_STAT bit that a STATUS sets. -/
def rchStatFlag (ch : Fin 4) (status : Nat) (s : State) : State :=
  match status with
  | 1 => s.on (RCH_STAT_FAIL ch.val)
  | 2 | 4 => s.on (RCH_STAT_MISCORR ch.val)
  | 3 => s.on (RCH_STAT_MISS ch.val)
  | 5 => s.on (RCH_STAT_OVERFLOW ch.val)
  | 6 | 7 => s.on (RCH_STAT_DROPPED ch.val)
  | _ => s

/-- Whether a STATUS pins its slot under AUTOPIN (R155). -/
def pinStatus (status : Nat) : Bool := [1, 2, 3, 4, 5, 7].contains status

/-- Post an in-line completion for a capture: the slot is pinned under R157, and PIN reports whether it is. -/
def rchPost (ch : Fin 4) (c : RCompl) (s : State) : State :=
  let s1 := if pinStatus c.status && s.flag (RCH_CTL_AUTOPIN ch.val) then pinSlot ch c.slot s else s
  let s2 := rchStatFlag ch c.status s1
  modRch ch (fun x => { x with cq := x.cq ++ [{ c with pin := bitOf x.pins c.slot }] }) s2

/-- The decoder bound to a channel (R164). -/
def State.decOf (s : State) (ch : Fin 4) : Nat :=
  match ch.val with
  | 0 => s.get RCH_DEC_MAP_CH0
  | 1 => s.get RCH_DEC_MAP_CH1
  | 2 => s.get RCH_DEC_MAP_CH2
  | _ => s.get RCH_DEC_MAP_CH3

/-- The decoder takes the oldest waiting frame when it has none (R154). -/
def takeWaiting (ch : Fin 4) (s : State) : State :=
  modRch ch (fun c =>
    match c.cur, c.wait with
    | none, k :: t => { c with cur := some k, wait := t }
    | _, _ => c) s

/-! ### Capture (R147 to R150, R155) -/

/-- Whether an offset of `o` bits lies within ±SYNC_WIN ticks at a bit density. -/
def State.inSyncWin (s : State) (ch : Fin 4) (bpw : Nat) (o : Int) : Bool :=
  o.natAbs * 4096 ≤ s.get (RCH_SYNC_SYNC_WIN ch.val) * bpw

/-- The mark found (R148): of the positions with at most `tol` differing bits, the fewest, and among equals the
earliest. -/
def bestMark (tol : Nat) (l : List (Int × Nat)) : Option Int :=
  ((l.filter fun p => p.2 ≤ tol).foldl (fun (b : Option (Int × Nat)) p =>
    match b with
    | none => some p
    | some q => if p.2 < q.2 ∨ (p.2 = q.2 ∧ p.1 < q.1) then some p else b) none).map Prod.fst

/-- The mark search of a fragment over the differing bits met at each position, given in bits from nominal. -/
def State.markSearch (s : State) (ch : Fin 4) (bpw tol : Nat) (l : List (Int × Nat)) : Option Int :=
  bestMark tol (l.filter fun p => s.inSyncWin ch bpw p.1)

/-- Frame bits that come before the coded payload: preamble and sync mark (R111). -/
def payloadStart : Nat := 368

/-- Whether the first fragment of a frame holds no payload (R149). -/
def State.emptyFirst (s : State) (d : WDesc) : Bool :=
  match s.frags d with
  | f :: _ :: _ => f.stop - f.first ≤ payloadStart
  | _ => false

/-- The mark that counts for a frame (R148, R149), from the positions met in its mark's window and in the window of each
continuation fragment. -/
def State.frameMark (s : State) (ch : Fin 4) (d : WDesc) (m : List (Int × Nat)) (rs : List (List (Int × Nat))) :
    Option Int :=
  if s.emptyFirst d then s.markSearch ch d.bpw (s.raw (RCH_SYNC_RS_TOL ch.val)) (rs.headD [])
  else s.markSearch ch d.bpw (s.raw (RCH_SYNC_MARK_TOL ch.val)) m

/-- Ticks from the start of a frame's capture span to its end (R147): surface ticks, from wedge to wedge. -/
def State.spanTicks (s : State) (ch : Fin 4) (d : WDesc) : Nat :=
  let fs := s.frags d
  let f := fs.headD default
  let l := fs.getLastD default
  let start := d.wrStart + f.first * 4096 / d.bpw
  ((l.wedge + s.wedges - f.wedge) % s.wedges) * 4096 + fragEnd d l + 2 * s.get (RCH_SYNC_SYNC_WIN ch.val) - start

/-- The predicted position (R150): RCH_FRAME_OFS when it was recorded on the same head by a capture that ended no more
than 64 wedges before this span began; else nominal. -/
def State.predOfs (s : State) (ch : Fin 4) (d : WDesc) : Int :=
  if s.flag (RCH_FRAME_OFS_VALID ch.val) && s.raw (RCH_FRAME_OFS_HEAD ch.val) == d.head &&
      s.ticks ≤ s.rch[ch].ofsAt + s.spanTicks ch d + 64 * 4096 then
    s.geti (RCH_FRAME_OFS_OFS ch.val)
  else 0

/-- Record a found mark (R150). -/
def recordOfs (ch : Fin 4) (head : Nat) (o : Int) (s : State) : State :=
  modRch ch (fun c => { c with ofsAt := s.ticks })
    (((s.on (RCH_FRAME_OFS_VALID ch.val)).set (RCH_FRAME_OFS_HEAD ch.val) head).setI (RCH_FRAME_OFS_OFS ch.val) o)

/-- The frame in decode stops with 0101b when the waiting frames reach INQ_LIM (R154); `g`, `l` and `u` are its
iterations and unsatisfied checks at the stop. -/
def inlineOverflow (ch : Fin 4) (g l u : Nat) (s : State) : State :=
  let c := s.rch[ch]
  match c.cur with
  | some k =>
    if s.get (RCH_CTL_INQ_LIM ch.val) ≤ c.wait.length then
      let x := s.sslot ch k
      takeWaiting ch (rchPost ch
        { status := 5, tag := x.desc.w.tag, giter := g, liter := min l 255, ofs := x.mark.getD 0, slot := k, unsat := u,
          ta := x.ta, pin := false, ns := 0, kind := 0 }
        (modRch ch (fun c => { c with cur := none }) s))
    else s
  | none => s

/-- The slot of a descriptor's capture: the one it took when its span opened, else the next one. -/
def RChan.captureSlot (c : RChan) (tag : Nat) : Nat :=
  match c.opens.find? fun e => e.1 == tag with
  | some e => e.2
  | none => c.nextSlot

/-- A descriptor's capture span opens (R156): the capture takes the slot that holds the oldest unpinned capture, whose content
it replaces. -/
def captureSpanStart (ch : Fin 4) (tag : Nat) (s : State) : State :=
  match s.rch[ch].queue.find? (fun d => d.w.tag == tag) with
  | none => s
  | some d =>
    if s.rch[ch].opens.any (fun e => e.1 == tag) then s
    else
      modRch ch (fun c => { c with
        seq := c.seq + 1
        opens := c.opens ++ [(tag, c.nextSlot)]
        slots := tabPut default c.slots c.nextSlot { (default : RSlot) with seq := c.seq + 1, desc := d, stamp := s.inv.now } }) s

def execCaptureSpanStart (ch : Fin 4) (tag : Nat) (s : State) : Res := .next (live s (captureSpanStart ch tag))

/-- What the front end met in one capture span (R137 to R150): how much was stored, the samples, the differing bits
round the mark and each resync mark, the longest run at full scale, the gains, and the taps after adaptation. -/
def captureSpanEnd (ch : Fin 4) (tag : Nat) (cover : Cover) (samples : Nat) (m : List (Int × Nat))
    (rs : List (List (Int × Nat))) (run g0 g1 : Nat) (taps : List Nat) (ovf : Nat × Nat × Nat) (s : State) : State :=
  match s.rch[ch].queue.find? (fun d => d.w.tag == tag) with
  | none => s
  | some d =>
    let s1 := modRch ch (fun c => { c with
      queue := c.queue.filter fun x => x.w.tag != tag, opens := c.opens.filter fun e => e.1 != tag }) s
    let k := s.rch[ch].captureSlot tag
    let base : RCompl := { status := 6, tag, giter := 0, liter := 0, ofs := 0, slot := k, unsat := 0, ta := false,
                           pin := false, ns := 0, kind := 0 }
    match cover with
    | .none => rchPost ch base s1
    | cv =>
      let mark := s.frameMark ch d.w m rs
      let ta := s.flag (RCH_CTL_TA_EN ch.val) && s.raw (RCH_ACT_W2_TA_LIM ch.val) ≤ run
      let x : RSlot :=
        { seq := s1.rch[ch].seq + 1, desc := d, stamp := if s.rch[ch].opens.any (fun e => e.1 == tag) then (s.sslot ch k).stamp else s.inv.now, mark
          rs := rs.map (s.markSearch ch d.w.bpw (s.raw (RCH_SYNC_RS_TOL ch.val)))
          pred := s.predOfs ch d.w, head := s.get (RCH_SEL_HEAD ch.val), rz := s.raw (RCH_SEL_RZ ch.val)
          localMax := s.get (RCH_ACT_W2_LOCAL_MAX ch.val), ta, samples }
      let s2 := modRch ch (fun c =>
        { c with
          seq := c.seq + 1
          slots := tabPut default c.slots k x
          taps := if s.flag (RCH_CTL_ADAPT ch.val) then
              (taps.take 48).zipIdx.foldl (fun t e => tabPut 0 t e.2 (e.1 % 1024)) c.taps
            else c.taps })
        ((s1.set (RCH_AGC_GAIN0 ch.val) g0).set (RCH_AGC_GAIN1 ch.val) g1)
      let s3 := if ta then patTrig 17 ch.val (s2.on (RCH_STAT_TA_SEEN ch.val)) else s2
      let s4 := match mark with | some o => recordOfs ch d.w.head o s3 | none => s3
      match cv, mark with
      | .part, o => rchPost ch { base with status := 7, ta, ofs := o.getD 0 } s4
      | .over, o =>
        rchPost ch { base with status := 7, ta, ofs := o.getD 0 } (s4.on (RCH_STAT_SB_TRUNC ch.val))
      | _, none => rchPost ch { base with status := 3, ta } s4
      | _, some _ =>
        inlineOverflow ch ovf.1 ovf.2.1 ovf.2.2
          (takeWaiting ch (modRch ch (fun c => { c with wait := c.wait ++ [k] }) s4))

def execCaptureSpanEnd (ch : Fin 4) (tag : Nat) (cover : Cover) (samples : Nat) (m : List (Int × Nat))
    (rs : List (List (Int × Nat))) (run g0 g1 : Nat) (taps : List Nat) (ovf : Nat × Nat × Nat) (s : State) : Res :=
  .next (live s (captureSpanEnd ch tag cover samples m rs run g0 g1 taps ovf))

/-! ### Decoding (R151, R152) -/

/-- One run of local iterations (R151): it ends at convergence, at `lmax`, or when U has not fallen for `stall`
iterations in a row. Gives the iterations run, U at the end and whether it converged; none while the run goes on. -/
def localRun (lmax stall : Nat) : (l flat : Nat) → (best : Option Nat) → List Nat → Option (Nat × Nat × Bool)
  | _, _, _, [] => none
  | l, flat, best, u :: t =>
    if u = 0 then some (l + 1, 0, true)
    else
      let fell := match best with | none => true | some b => u < b
      let flat' := if fell then 0 else flat + 1
      if lmax ≤ l + 1 ∨ stall ≤ flat' then some (l + 1, u, false)
      else localRun lmax stall (l + 1) flat' (some u) t

/-- The global iterations (R151). Gives global iterations, local iterations in all, U at the stop and whether the decode
converged. -/
def globalRun (gmax lmax stall etMin : Nat) (et : Bool) :
    (g liter : Nat) → (last : Option Nat) → List (List Nat) → Option (Nat × Nat × Nat × Bool)
  | _, _, _, [] => none
  | g, liter, last, us :: t =>
    match localRun lmax stall 0 0 none us with
    | none => none
    | some (l, u, conv) =>
      if conv then some (g + 1, liter + l, 0, true)
      else if gmax ≤ g + 1 then some (g + 1, liter + l, u, false)
      else
        let early := match last with | none => false | some p => et && p ≤ u && etMin * 4 < u
        if early then some (g + 1, liter + l, u, false)
        else globalRun gmax lmax stall etMin et (g + 1) (liter + l) (some u) t

/-- What a decode comes to: STATUS, iterations, U, and the information part when it converged. -/
structure DecOut where
  status : Nat
  giter : Nat
  liter : Nat
  u : Nat
  conv : Bool
  info : Nat
  deriving DecidableEq, Repr

/-- The encoded fields of an information part that the parity accumulator holds: DATA, HOST_MD and CRC (R162). -/
def encFields (info : Nat) : Nat := info / 2 ^ 128 * 2 ^ 32 + info % 2 ^ 32

/-- The decoded HLBA of an information part (R112). -/
def infoHlba (info : Nat) : Nat := bits info 80 48
/-- The decoded NS. -/
def infoNs (info : Nat) : Nat := bits info 76 4
/-- The decoded KIND. -/
def infoKind (info : Nat) : Nat := bits info 72 4
/-- The decoded SEQ. -/
def infoSeq (info : Nat) : Nat := bits info 32 40

/-- DATA and HOST_MD descrambled with an HLBA (R113), as 4,112 bytes. -/
def descramble (enc hlba : Nat) : List Byte := beBytes ((enc / 2 ^ 32) ^^^ scramble hlba) 4112

/-- Whether encoded fields pass their CRC when descrambled with an HLBA (R114). -/
def crcOk (enc hlba : Nat) : Bool := crc32c (descramble enc hlba) == enc % 2 ^ 32

/-- Whether a converged frame is a parity frame (R152). -/
def isParityFrame (d : RDesc) (info : Nat) : Bool := d.w.pmode == 2 && infoKind info == 1

/-- The check of a converged frame (R152). -/
def convStatus (d : RDesc) (info : Nat) : Nat :=
  if isParityFrame d info then 0
  else if !crcOk (encFields info) (infoHlba info) then 2
  else if d.chk && (infoHlba info != d.w.hlba || infoNs info != d.w.ns || infoKind info != d.w.kind) then 4
  else 0

/-- A decode of a frame from what the decoder meets; none while the run has not ended. -/
def State.decode (s : State) (gmax lmax : Nat) (et : Bool) (d : RDesc) (run : DecRun) : Option DecOut :=
  match globalRun gmax lmax (s.get RCH_STOP_STALL_L) (s.raw RCH_STOP_ET_MIN) et 0 0 none run.us with
  | none => none
  | some (g, l, u, conv) =>
    let info := run.info % 2 ^ 33024
    some { status := if conv then convStatus d info else 1, giter := g, liter := l, u, conv, info }

/-- The record of R153. -/
def mdRecord (md : List Byte) (hlba ns kind seq : Nat) : List Byte :=
  md ++ leBytes hlba 6 ++ [BitVec.ofNat 8 (ns * 16 + kind)] ++ leBytes seq 5 ++ List.replicate 4 0

/-- Write DATA and the record of an accepted frame (R152, R153). -/
def writeFrame (d : RDesc) (plain : List Byte) (hlba ns kind seq : Nat) (s : State) : State :=
  let s1 := s.dramWrite (d.w.dataAddr * 4096) (plain.take 4096)
  if d.w.md then s1.dramWrite (d.w.mdAddr * 16) (mdRecord (plain.drop 4096) hlba ns kind seq) else s1

/-- An accepted frame of a parity group joins the read accumulator when its bit is 0b (R162). -/
def readParityAdd (d : RDesc) (enc : Nat) (c : RChan) : RChan :=
  let i := d.w.slot % 65
  if d.w.pmode ≠ 1 ∧ d.w.pmode ≠ 2 then c
  else if i = 64 then if c.par then c else { c with acc := c.acc ^^^ enc, par := true }
  else if bitOf c.mask i then c
  else { c with acc := c.acc ^^^ enc, mask := setBit c.mask i }

/-- What an accepted decode does to DRAM and the accumulator. -/
def acceptFrame (ch : Fin 4) (d : RDesc) (info : Nat) (s : State) : State :=
  let s1 := if isParityFrame d info then s else
    writeFrame d (descramble (encFields info) (infoHlba info)) (infoHlba info) (infoNs info) (infoKind info)
      (infoSeq info) s
  modRch ch (readParityAdd d (encFields info)) s1

/-- Count a decode of decoder `dec`. -/
def countDecode (dec liter : Nat) (s : State) : State :=
  (s.bump (RCH_DEC_CNT_FRAMES dec) 1).bump (RCH_DEC_ITER_LOCAL dec) liter

/-- The in-line decode of a channel ends. -/
def inlineDecodeDone (ch : Fin 4) (run : DecRun) (s : State) : State :=
  match s.rch[ch].cur with
  | none => s
  | some k =>
    let x := s.sslot ch k
    match s.decode (s.get (RCH_ACT_W2_GLOBAL_MAX ch.val)) (s.get (RCH_ACT_W2_LOCAL_MAX ch.val))
        (s.flag RCH_STOP_ET_INL) x.desc run with
    | none => s
    | some o =>
      let s1 := countDecode (s.decOf ch) o.liter (if o.status = 0 then acceptFrame ch x.desc o.info s else s)
      takeWaiting ch (rchPost ch
        { status := o.status, tag := x.desc.w.tag, giter := o.giter, liter := min o.liter 255, ofs := x.mark.getD 0,
          slot := k, unsat := o.u, ta := x.ta, pin := false
          ns := if o.conv then infoNs o.info else 0, kind := if o.conv then infoKind o.info else 0 }
        (modRch ch (fun c => { c with cur := none }) s1))

def execInlineDecodeDone (ch : Fin 4) (run : DecRun) (s : State) : Res := .next (live s (inlineDecodeDone ch run))

/-- A write of RCH_CQ_POP (R155). -/
def execReadCompletionPop (ch : Fin 4) (s : State) : Res :=
  .next (live s (modRch ch fun c => { c with cq := c.cq.tail }))

/-! ### The active set (R141) -/

/-- A write of RCH_SEL with LOAD. -/
def activeSetLoad (ch : Fin 4) (v : Nat) (s : State) : State :=
  (((s.set (RCH_SEL_HEAD ch.val) (bits v 8 4)).set (RCH_SEL_RZ ch.val) (bits v 0 6)).on (RCH_SEL_LOAD ch.val)).off
    (RCH_SEL_READY ch.val)

def execActiveSetLoad (ch : Fin 4) (v : Word) (s : State) : Res := .next (live s (activeSetLoad ch v.toNat))

/-- Whether a capture span of the channel is open now (R147). -/
def State.spanOpen (s : State) (ch : Fin 4) : Bool :=
  s.rch[ch].queue.any fun d =>
    let l := (s.frags d.w).getLastD default
    let rev := s.wedges * 4096
    let stop := s.deviceTick (surfOf (actOf ch) d.w.head) l.wedge
      (fragEnd d.w l + s.get (RCH_SYNC_SYNC_WIN ch.val))
    (stop + rev - s.nowTick % rev) % rev < s.spanTicks ch d.w

/-- The fields of an active set and of the table entry it is loaded from. -/
def actSetPairs (ch h z : Nat) : List (Fld × Fld) :=
  [(RCH_ACT_W0_CTF_FC ch, RCH_HZ_W0_CTF_FC h z), (RCH_ACT_W0_CTF_BOOST ch, RCH_HZ_W0_CTF_BOOST h z),
   (RCH_ACT_W0_AGC_TGT ch, RCH_HZ_W0_AGC_TGT h z), (RCH_ACT_W0_EQ_SET ch, RCH_HZ_W0_EQ_SET h z),
   (RCH_ACT_W1_OFS0 ch, RCH_HZ_W1_OFS0 h z), (RCH_ACT_W1_OFS1 ch, RCH_HZ_W1_OFS1 h z),
   (RCH_ACT_W1_ASYM0 ch, RCH_HZ_W1_ASYM0 h z), (RCH_ACT_W1_ASYM1 ch, RCH_HZ_W1_ASYM1 h z),
   (RCH_ACT_W2_GLOBAL_MAX ch, RCH_HZ_W2_GLOBAL_MAX h z), (RCH_ACT_W2_LOCAL_MAX ch, RCH_HZ_W2_LOCAL_MAX h z),
   (RCH_ACT_W2_NMS ch, RCH_HZ_W2_NMS h z), (RCH_ACT_W2_LLR_SCALE ch, RCH_HZ_W2_LLR_SCALE h z),
   (RCH_ACT_W2_TA_LIM ch, RCH_HZ_W2_TA_LIM h z)]

/-- The taps of an equaliser set (R144). -/
def State.eqTaps (s : State) (e : Nat) : Tab Nat :=
  (List.range 48).foldl (fun t k => tabPut 0 t k (s.raw (RCH_EQ_TAP e k))) []

/-- The copy of the entry into the active set; the taps are restored from its set (R144). -/
def activeSetCopy (ch : Fin 4) (s : State) : State :=
  if s.flag (RCH_SEL_LOAD ch.val) && !s.spanOpen ch then
    let h := (actOf ch).val * 10 + s.get (RCH_SEL_HEAD ch.val)
    let s1 := (actSetPairs ch.val h (s.raw (RCH_SEL_RZ ch.val))).foldl (fun t p => t.set p.1 (s.raw p.2)) s
    modRch ch (fun c => { c with taps := s1.eqTaps (s1.raw (RCH_ACT_W0_EQ_SET ch.val)) })
      ((s1.off (RCH_SEL_LOAD ch.val)).on (RCH_SEL_READY ch.val))
  else s

def execActiveSetCopy (ch : Fin 4) (s : State) : Res := .next (live s (activeSetCopy ch))

/-! ### Routing (R142) -/

/-- The preamp channel whose read pairs CHn takes under a routing. -/
def readPair (src : Nat) (ch : Fin 4) : Nat := (ch.val + b2n (bitOf src ch.val)) % 2

/-- Whether a routing and a set of enabled channels let two channels read one preamp channel. -/
def pairClash (src : Nat) (en : Fin 4 → Bool) : Bool :=
  (en 0 && en 1 && readPair src 0 == readPair src 1) || (en 2 && en 3 && readPair src 2 == readPair src 3)

/-- A write of RCH_XBAR: discarded with XBAR_REFUSED when two channels would share a preamp channel. -/
def xbarWrite (v : Nat) (s : State) : State :=
  if pairClash (v % 16) (fun c => s.flag (RCH_CTL_EN c.val)) then s.on RCH_GSTAT_XBAR_REFUSED
  else s.set RCH_XBAR_SRC v

def execXbarWrite (v : Word) (s : State) : Res := .next (live s (xbarWrite v.toNat))

/-- Put RCH_CTL.EN of a channel: setting it is discarded, with XBAR_REFUSED, when it would share a preamp channel. -/
def rchEnable (ch : Fin 4) (en : Bool) (s : State) : State :=
  if en && pairClash (s.raw RCH_XBAR_SRC) (fun c => c == ch || s.flag (RCH_CTL_EN c.val)) then
    s.on RCH_GSTAT_XBAR_REFUSED
  else s.put (RCH_CTL_EN ch.val) en

/-! ### Deep decoders (R158 to R161) -/

/-- Whether a decoder is deep: no channel is bound to it. -/
def State.isDeep (s : State) (d : Nat) : Bool := !(List.finRange 4).any fun c => s.decOf c == d

/-- The Bullion slot of a decoder: 7 to 12. -/
def decSlot (d : Fin 6) : Fin 24 := ⟨7 + d.val, by omega⟩

/-- Idle deep decoders, lowest first. -/
def State.idleDeep (s : State) : List (Fin 6) :=
  (List.finRange 6).filter fun d => s.isDeep d.val && !s.flag (RCH_DEC_STAT_FAULT d.val) && (s.deep.run[d]).isNone

/-- Deep decoders that have work but no permit ask for one (R158); while no idle one holds a grant the jobs wait and
PERMIT_WAIT sets. -/
def deepAsk (s : State) : State :=
  let want := s.idleDeep.take s.deep.jobs.length
  let s1 := want.foldl (fun t d => hwAsk (decSlot d) (s.raw RCH_DEEP_CFG_DEEP_MA * 10) t) s
  if !want.isEmpty && !want.any (fun d => s1.granted (decSlot d)) then s1.on RCH_GSTAT_PERMIT_WAIT else s1

/-- The staged deep job of requester `r`, with the word now written to W1. -/
def State.dJob (s : State) (r : Req) (w1 : Nat) : DJob :=
  { mode := s.raw (RCH_DJ_W0_MODE.of r)
    ch := ⟨s.raw (RCH_DJ_W0_CH.of r) % 4, by omega⟩
    release := s.flag (RCH_DJ_W0_RELEASE.of r)
    slot := s.raw (RCH_DJ_W0_SLOT.of r), slot2 := s.raw (RCH_DJ_W0_SLOT2.of r), gmax := s.get (RCH_DJ_W0_GMAX.of r)
    prio := bitOf w1 31, tag := bits w1 0 24 }

/-- Jobs queued or running. -/
def State.deepCount (s : State) : Nat :=
  s.deep.jobs.length + ((List.finRange 6).filter fun d => (s.deep.run[d]).isSome).length

/-- The RESULT of a deep-job commit (R158, R161, R442). -/
def State.djResult (s : State) (j : DJob) : Nat :=
  let c := s.rch[j.ch]
  if (List.finRange 6).all (fun d => !s.isDeep d.val) then 4
  else if 16 ≤ s.deepCount ∨ 32 ≤ s.deepCount + s.deep.cq.length then 1
  else if !bitOf c.pins j.slot || (s.sslot j.ch j.slot).desc.w.tag != j.tag ||
      (j.mode == 9 && (s.sslot j.ch j.slot2).desc.w.tag != j.tag) then 2
  else if 9 < j.mode then 3
  else 0

/-- A write of RCH_DJ_W1. -/
def deepJobCommit (r : Req) (w1 : Nat) (s : State) : State :=
  let j := s.dJob r w1
  let res := s.djResult j
  let s1 := (((s.set (RCH_DJ_W1_PRIO.of r) (bits w1 31 1)).set (RCH_DJ_W1_TAG.of r) (bits w1 0 24)).set
    (RCH_DJ_RESP_RESULT.of r) res).on (RCH_DJ_RESP_DONE.of r)
  if res = 0 then deepAsk (modDeep (fun d => { d with jobs := d.jobs ++ [j] }) s1) else s1

def execDeepJobCommit (r : Req) (w1 : Word) (s : State) : Res := .next (live s (deepJobCommit r w1.toNat))

/-- Whether two jobs name a common sample slot. -/
def DJob.shares (i j : DJob) : Bool :=
  let sl (x : DJob) : List Nat := if x.mode = 9 then [x.slot, x.slot2] else [x.slot]
  i.ch == j.ch && (sl i).any (sl j).contains

/-- Whether a job may start: no running job, and no job committed before it, names its slot. -/
def State.jobFree (s : State) (before : List DJob) (j : DJob) : Bool :=
  !before.any j.shares &&
  (List.finRange 6).all fun d => match s.deep.run[d] with | some (i, _) => !j.shares i | none => true

/-- The index of the first job of a priority that may start. -/
def State.nextJob (s : State) (prio : Bool) : Option Nat :=
  (List.range s.deep.jobs.length).find? fun i =>
    match s.deep.jobs[i]? with
    | some j => j.prio == prio && s.jobFree (s.deep.jobs.take i) j
    | none => false

/-- The lowest-numbered free deep decoder that holds a permit takes the next job; a permit is renewed while there is
work (R158). -/
def deepJobStart (s : State) : State :=
  match s.idleDeep.find? (fun d => s.granted (decSlot d)), (s.nextJob true).or (s.nextJob false) with
  | some d, some i =>
    match s.deep.jobs[i]? with
    | some j =>
      (bulRequest (decSlot d) (s.raw RCH_DEEP_CFG_DEEP_MA * 10) 0 64 64
        (modDeep (fun q => { q with jobs := q.jobs.eraseIdx i, run := q.run.set d (some (j, s.ticks)) }) s)).1
    | none => s
  | _, _ => s

def execDeepJobStart (s : State) : Res := .next (live s deepJobStart)

/-- The hypotheses of R160. -/
def hypOffsets (pred : Bool) : List Int := (if pred then [0] else []) ++ [1, -1, 2, -2, 3, -3, 4, -4]

/-- Whether hypothesis `a` comes before `b` (R160): lower U, then smaller offset, then the negative one. -/
def hypBefore (a b : Nat × Int × Nat) : Bool :=
  if a.2.2 != b.2.2 then a.2.2 < b.2.2
  else if a.2.1.natAbs != b.2.1.natAbs then a.2.1.natAbs < b.2.1.natAbs
  else a.2.1 < b.2.1

/-- Insert a hypothesis in that order. -/
def hypInsert (x : Nat × Int × Nat) : List (Nat × Int × Nat) → List (Nat × Int × Nat)
  | [] => [x]
  | y :: t => if hypBefore x y then x :: y :: t else y :: hypInsert x t

/-- The hypotheses decoded in full, in order: those that pass the screen, at most three. -/
def State.hypOrder (s : State) (pred : Bool) (screens : List Nat) : List (Nat × Int × Nat) :=
  let l := ((hypOffsets pred).zip screens).zipIdx.map fun e => (e.2, e.1.1, e.1.2)
  ((l.filter fun h => h.2.2 ≤ s.raw RCH_DEEP_CFG_SCREEN_LIM * 8).foldl (fun acc h => hypInsert h acc) []).take 3

/-- Full decodes of the hypotheses until one is accepted: the last outcome, its offset, and local iterations in all.
None while a decode has not ended. -/
def hypRun (dec : DecRun → Option DecOut) (runs : List DecRun) :
    List (Nat × Int × Nat) → Option (DecOut × Int) → Option (Option (DecOut × Int))
  | [], last => some last
  | h :: t, _ =>
    match dec ((runs[h.1]?).getD default) with
    | none => none
    | some o => if o.status = 0 then some (some (o, h.2.1)) else hypRun dec runs t (some (o, h.2.1))

/-- What a deep job comes to (R159, R160): `marks` the positions that RELAX meets, `screens` U after each screen, and
`runs` the full decodes (one for each hypothesis, or one alone). None while the job goes on. -/
def State.deepOutcome (s : State) (j : DJob) (marks : List (Int × Nat)) (screens : List Nat) (runs : List DecRun) :
    Option (DecOut × Int) :=
  let x := s.sslot j.ch j.slot
  let g := if j.gmax = 0 then 8 else j.gmax
  let dec := s.decode g x.localMax (s.flag RCH_STOP_ET_DEEP) x.desc
  let none' (st : Nat) : DecOut := { status := st, giter := 0, liter := 0, u := 0, conv := false, info := 0 }
  match j.mode with
  | 6 =>
    match bestMark (s.raw (RCH_SYNC_RELAX_TOL j.ch.val)) marks with
    | none => some (none' 3, 0)
    | some _ => (dec (runs.headD default)).map fun o => (o, 0)
  | 7 | 8 =>
    match hypRun dec runs (s.hypOrder (j.mode == 8) screens) none with
    | none => none
    | some none => some (none' 1, 0)
    | some (some r) => some r
  | _ => (dec (runs.headD default)).map fun o => (o, 0)

/-- A deep job ends: an accepted frame is written and joins the accumulator, RELEASE unpins its slots, and the
completion is posted. -/
def deepJobDone (d : Fin 6) (marks : List (Int × Nat)) (screens : List Nat) (runs : List DecRun) (s : State) : State :=
  match s.deep.run[d] with
  | none => s
  | some (j, _) =>
    match s.deepOutcome j marks screens runs with
    | none => s
    | some (o, ofs) =>
      let x := s.sslot j.ch j.slot
      let s1 := countDecode d.val o.liter (if o.status = 0 then acceptFrame j.ch x.desc o.info s else s)
      let s2 := if o.status = 0 && j.release then
          unpinSlot j.ch j.slot (if j.mode = 9 then unpinSlot j.ch j.slot2 s1 else s1)
        else s1
      deepAsk (modDeep (fun q => { q with
        run := q.run.set d none
        cq := q.cq ++ [{ dec := d.val, status := o.status, ch := j.ch.val, slot := j.slot, ofs, giter := o.giter,
                         mode := j.mode, tag := j.tag }] }) s2)

def execDeepJobDone (d : Fin 6) (marks : List (Int × Nat)) (screens : List Nat) (runs : List DecRun) (s : State) : Res :=
  .next (live s (deepJobDone d marks screens runs))

/-- A write of RCH_DJ_CQ_POP. -/
def execDeepCompletionPop (s : State) : Res := .next (live s (modDeep fun q => { q with cq := q.cq.tail }))

/-! ### Track parity (R162) -/

/-- The group's bits: the mask with the parity bit as bit 64. -/
def RChan.bits65 (c : RChan) : Nat := c.mask + b2n c.par * 2 ^ 64

/-- A write of RCH_TP_CTL.REBUILD with a sample slot. -/
def rebuild (ch : Fin 4) (k : Nat) (s : State) : State :=
  let s0 := s.set (RCH_TP_CTL_SB_SLOT ch.val) k
  let c := s.rch[ch]
  let d := (s.sslot ch k).desc
  if bitOf c.pins k && d.w.pmode == 1 && popcount 65 c.bits65 == 64 && !bitOf c.bits65 (d.w.slot % 65) then
    let ok := crcOk c.acc d.w.hlba
    let s1 := if ok then writeFrame d (descramble c.acc d.w.hlba) d.w.hlba d.w.ns d.w.kind 0 s0 else s0
    modRch ch (fun x => { x with cq := x.cq ++
      [{ status := if ok then 8 else 9, tag := d.w.tag, giter := 0, liter := 0, ofs := 0, slot := k, unsat := 0,
         ta := false, pin := bitOf x.pins k, ns := 0, kind := 0 }] }) s1
  else s0.on (RCH_STAT_TP_REFUSED ch.val)

def execRebuild (ch : Fin 4) (k : Fin 64) (s : State) : Res := .next (live s (rebuild ch k.val))

/-- Whether a deep job of a member of the channel is queued or running. -/
def State.memberJob (s : State) (ch : Fin 4) : Bool :=
  let m (j : DJob) : Bool := j.ch == ch && (s.sslot ch j.slot).desc.w.pmode == 1
  s.deep.jobs.any m || (List.finRange 6).any fun d => match s.deep.run[d] with | some (j, _) => m j | none => false

/-- Do `f` unless a member's deep job refuses it. -/
def rTp (ch : Fin 4) (f : State → State) (s : State) : State :=
  if s.memberJob ch then s.on (RCH_STAT_TP_REFUSED ch.val) else f s

/-- SAVE: accumulator, mask, and the parity bit in bit 0 of the first pad byte: 4,160 bytes. -/
def rchTpSave (ch : Fin 4) : State → State :=
  rTp ch fun s =>
    let c := s.rch[ch]
    s.dramWrite (s.raw (RCH_TP_ADDR_ADDR ch.val) * 64)
      (beBytes c.acc 4116 ++ leBytes c.mask 8 ++ [BitVec.ofNat 8 (b2n c.par)] ++ List.replicate 35 0)

/-- RESTORE: load them. -/
def rchTpRestore (ch : Fin 4) : State → State :=
  rTp ch fun s =>
    let p := s.raw (RCH_TP_ADDR_ADDR ch.val) * 64
    modRch ch (fun c => { c with
      acc := beNat (s.dramBytes p 4116), mask := s.dramLe (p + 4116) 8
      par := bitOf (s.dramByte (p + 4124)).toNat 0 }) s

/-- CLEAR: zero them. -/
def rchTpClear (ch : Fin 4) : State → State :=
  rTp ch (modRch ch fun c => { c with acc := 0, mask := 0, par := false })

def execRchTpSave (ch : Fin 4) (s : State) : Res := .next (live s (rchTpSave ch))
def execRchTpRestore (ch : Fin 4) (s : State) : Res := .next (live s (rchTpRestore ch))
def execRchTpClear (ch : Fin 4) (s : State) : Res := .next (live s (rchTpClear ch))

/-! ### Decoder binding (R164) -/

/-- The decoder a RCH_DEC_MAP word names for a channel; a reserved code acts as the reset value (R11). -/
def mapDec (v : Nat) (ch : Fin 4) : Nat :=
  let d := bits v (4 * ch.val) 3
  if d ≤ 5 then d else ch.val

/-- Whether a word names a decoder twice, or one whose deep job has run for less than 40 µs (12,583 ticks). -/
def State.mapRefused (s : State) (v : Nat) : Bool :=
  mapDec v 0 == mapDec v 1 || mapDec v 0 == mapDec v 2 || mapDec v 0 == mapDec v 3 || mapDec v 1 == mapDec v 2 ||
  mapDec v 1 == mapDec v 3 || mapDec v 2 == mapDec v 3 ||
  (List.finRange 6).any fun d =>
    (List.finRange 4).any (fun c => mapDec v c == d.val) &&
    (match s.deep.run[d] with | some (_, t) => s.ticks < t + 12583 | none => false)

/-- A deep job on a decoder that becomes in-line returns to the head of the queue. -/
def requeueJob (s : State) (d : Fin 6) : State :=
  match s.deep.run[d] with
  | some (j, _) =>
    if s.isDeep d.val then s
    else modDeep (fun q => { q with run := q.run.set d none, jobs := j :: q.jobs }) s
  | none => s

/-- A write of RCH_DEC_MAP. -/
def decoderRebind (v : Nat) (s : State) : State :=
  if s.mapRefused v then s.on RCH_GSTAT_MAP_REFUSED
  else
    let s1 := (((s.set RCH_DEC_MAP_CH0 (bits v 0 3)).set RCH_DEC_MAP_CH1 (bits v 4 3)).set RCH_DEC_MAP_CH2
      (bits v 8 3)).set RCH_DEC_MAP_CH3 (bits v 12 3)
    deepAsk ((List.finRange 6).foldl requeueJob s1)

def execDecoderRebind (v : Word) (s : State) : Res := .next (live s (decoderRebind v.toNat))

/-! ### What the channel-format role does for a frame (R163, R135) -/

/-- A climb of the ladder: the results not yet used, the last STATUS, U and TA, the step that accepted the frame, and
whether the results ran out before the climb ended. -/
structure Climb where
  tries : List LadderTry
  status : Nat
  u : Nat
  ta : Bool
  step : Option Nat
  short : Bool

/-- Take one action of a step: nothing once the frame is accepted. -/
def Climb.act (step : Nat) (c : Climb) : Climb :=
  if c.step.isSome || c.short then c
  else
    match c.tries with
    | [] => { c with short := true }
    | t :: ts =>
      { c with tries := ts, status := t.status, u := t.u, ta := c.ta || t.ta
               step := if t.status = 0 ∨ t.status = 8 then some step else none }

/-- Step 1: RELAX, then OFS_PRED when RELAX finds no mark. -/
def Climb.step1 (c : Climb) : Climb :=
  if c.status = 3 then
    let c1 := c.act 1
    if c1.status = 3 then c1.act 1 else c1
  else c

/-- Step 2: OFS_FOUND. -/
def Climb.step2 (mis : Nat) (c : Climb) : Climb :=
  if c.status = 2 ∨ (c.status = 1 ∧ mis * 32 < c.u) then c.act 2 else c

/-- Whether two counts differ by more than half of the larger. -/
def farApart (a b : Nat) : Bool := max a b < 2 * (max a b - min a b)

/-- Step 3: the six modes, ERASE under its own condition. -/
def Climb.step3 (c : Climb) : Climb :=
  if c.status = 6 then c
  else
    let r0 := (((c.act 3).act 3).act 3).act 3
    let r1 := r0.act 3
    if r1.ta || farApart r0.u r1.u then r1.act 3 else r1

/-- A re-read: the in-line decode, steps 1 to 3 on the new slot, and COMBINE. -/
def Climb.reread (mis step : Nat) (c : Climb) : Climb :=
  ((((c.act step).step1).step2 mis).step3).act step

/-- `n` re-reads. -/
def Climb.rereads (mis step : Nat) : Nat → Climb → Climb
  | 0, c => c
  | n + 1, c => Climb.rereads mis step n (c.reread mis step)

/-- The whole ladder: `rebuildable` when every other bit of the frame's group is set, `limited` under Limited Retry. -/
def climb (mis rereadMax revMax : Nat) (rebuildable limited : Bool) (c : Climb) : Climb :=
  let c2 := if c.status = 6 then c else c.step1.step2 mis
  let c4 := if rebuildable && c.status != 6 then c2.act 4 else c2
  let c3 := if c.status = 6 then c4 else c4.step3
  if limited then c3
  else
    let c5 := c3.rereads mis 5 (min rereadMax revMax)
    (c5.rereads mis 6 (min 2 (revMax - min rereadMax revMax)))

/-- Whether every bit of the group but the frame's is set (R162, R163). -/
def State.groupWaits (s : State) (ch : Fin 4) (d : RDesc) : Bool :=
  d.w.pmode == 1 && popcount 65 s.rch[ch].bits65 == 64 && !bitOf s.rch[ch].bits65 (d.w.slot % 65)

/-- Unpin every slot that holds a frame's TAG. -/
def unpinTag (ch : Fin 4) (tag : Nat) (s : State) : State :=
  (List.range 64).foldl (fun t k =>
    if bitOf s.rch[ch].pins k && (s.sslot ch k).desc.w.tag == tag then unpinSlot ch k t else t) s

/-- The role climbs the ladder for a frame (R163) from its completion's STATUS, U and TA, with the results of the actions
it takes: a frame accepted is reported to translation with the step; one that is not is reported unrecovered, its slots
unpinned, and Patina records it. -/
def retryLadder (ch : Fin 4) (k : Nat) (limited : Bool) (first : LadderTry) (tries : List LadderTry) (s : State) :
    State :=
  let d := (s.sslot ch k).desc
  if first.status = 0 then s
  else
    let c := climb (s.raw RCH_LADDER_MISFRAME) (s.raw RCH_LADDER_REREAD_MAX) (s.raw RCH_LADDER_REV_MAX)
      (s.groupWaits ch d) limited
      { tries, status := first.status, u := first.u, ta := first.ta, step := none, short := false }
    if c.short then s
    else
      match c.step with
      | some n => s.emit (.frameRecovered ch d.w.tag n)
      | none => (patTrig 16 d.w.tag (unpinTag ch d.w.tag s)).emit (.frameLost ch d.w.tag)

def execRetryLadder (ch : Fin 4) (k : Fin 64) (limited : Bool) (first : LadderTry) (tries : List LadderTry)
    (s : State) : Res :=
  .next (live s (retryLadder ch k.val limited first tries))

/-- The role rewrites a frame (R135) whose TAG is in the rewrite FIFO or whose completion is not 00b: at the same slot,
until RW_LIM attempts there have failed; then translation moves the sector. -/
def frameRewrite (ch : Fin 4) (tag slot : Nat) (s : State) : State :=
  let c := s.wch[ch]
  if s.qch.fifo[ch].any (fun r => r.tag == tag) || c.cq.any (fun e => e.2 == tag && e.1 != 0) then
    let n := tabLook 0 c.tries slot
    if s.raw (WCH_CTL_RW_LIM ch.val) ≤ n then
      (modWch ch (fun c => { c with tries := tabPut 0 c.tries slot 0 }) s).emit (.sectorMove ch tag slot)
    else (modWch ch (fun c => { c with tries := tabPut 0 c.tries slot (n + 1) }) s).emit (.frameRewrite ch tag slot)
  else s

def execFrameRewrite (ch : Fin 4) (tag slot : Nat) (s : State) : Res := .next (live s (frameRewrite ch tag slot))

end Sys2Proof.Machine
end

