-- ==== Sys2Proof/Machine/Spindle.lean ====
section
/-!
DEFINITION. Babbitt (03_spindle.md): the spindle's states (R70), start and catch (R72 to R75), loss of the rotor (R76),
inertia and hold-up energy (R77 to R80), commutation (R65 to R69) and the entry to rectification (R81).
-/
namespace Sys2Proof.Machine

/-! ### States -/

/-- SPN_STAT.STATE codes (R70). -/
abbrev spnOff : Nat := 0
abbrev spnSense : Nat := 1
abbrev spnBrake : Nat := 2
abbrev spnLocate : Nat := 3
abbrev spnRamp : Nat := 4
abbrev spnAccel : Nat := 5
abbrev spnCoast : Nat := 6
abbrev spnRun : Nat := 7
abbrev spnSlew : Nat := 8
abbrev spnReacq : Nat := 9
abbrev spnStopping : Nat := 10
abbrev spnRectify : Nat := 11

/-- The spindle state. -/
def State.spnSt (s : State) : Nat := s.raw SPN_STAT_STATE

/-- Driving: RAMP, ACCEL, RUN or SLEW (R70). -/
def State.driving (s : State) : Bool :=
  s.spnSt == spnRamp || s.spnSt == spnAccel || s.spnSt == spnRun || s.spnSt == spnSlew

/-- Change the hidden part of Babbitt. -/
def modSpn (f : Spn → Spn) (s : State) : State := { s with spn := f s.spn }

/-- Enter a state with the bridge as given. A standing allocation that ends makes Bullion walk (R306); AT_SPEED needs
16 revolutions at TARGET again outside RUN. -/
def spnGo (st : Nat) (b : Bridge) (s : State) : State :=
  let s1 := modSpn (fun p => { p with bridge := b }) (s.set SPN_STAT_STATE st)
  let s2 := if st = spnRun ∨ st = spnSlew then s1 else
    modSpn (fun p => { p with atRun := 0, slewWait := false }) (s1.off SPN_STAT_AT_SPEED)
  if s.spinRuns && !s2.spinRuns then bulWalk s2 else s2

/-- The field layout of SPN_STAT as Patina's DETAIL (R359): the state, AT_SPEED, DIR, OBS_LOCK and the event bits. -/
def State.spnStatWord (s : State) : Nat :=
  [SPN_STAT_STATE, SPN_STAT_AT_SPEED, SPN_STAT_DIR, SPN_STAT_OBS_LOCK, SPN_STAT_RECT_DONE, SPN_STAT_STOP_DONE,
   SPN_STAT_CMD_REFUSED, SPN_STAT_PERMIT_LAPSE, SPN_STAT_J_NEW, SPN_STAT_RING_MISS, SPN_STAT_REACQ_FAIL,
   SPN_STAT_ROTOR_LOST, SPN_STAT_START_FAIL, SPN_STAT_START_DONE].foldl
    (fun n f => n + s.raw f * 2 ^ f.lo) 0

/-- A start is abandoned: the bridge floats, START_FAIL sets, and Patina records it. -/
def startFail (s : State) : State :=
  let s1 := (spnGo spnOff .float s).on SPN_STAT_START_FAIL
  patTrig 8 s1.spnStatWord s1

/-- A permit lapse in LOCATE or RAMP. -/
def lapseOff (s : State) : State := startFail (s.on SPN_STAT_PERMIT_LAPSE)

/-- Enter LOCATE; entered without a permit it lapses at once. -/
def enterLocate (s : State) : State :=
  if s.flag SPN_CTL_PERMIT then
    modSpn (fun p => { p with ambig := 0, locWait := false }) (spnGo spnLocate .float s)
  else lapseOff s

/-- Enter RAMP; entered without a permit it lapses at once. -/
def enterRamp (step : Nat) (s : State) : State :=
  if s.flag SPN_CTL_PERMIT then modSpn (fun p => { p with step, run := 0 }) (spnGo spnRamp .drive s)
  else lapseOff s

/-- Enter ACCEL; entered without a permit it holds the speed found and sets PERMIT_LAPSE. -/
def enterAccel (s : State) : State :=
  let s1 := modSpn (fun p => { p with win := s.flag SPN_CTL_PERMIT }) (spnGo spnAccel .drive s)
  if s.flag SPN_CTL_PERMIT then s1 else s1.on SPN_STAT_PERMIT_LAPSE

/-- Enter SLEW. A rise of speed without a permit holds the speed and sets PERMIT_LAPSE. -/
def enterSlew (s : State) : State :=
  let s1 := modSpn (fun p => { p with slewWait := false }) (spnGo spnSlew .drive s)
  if s.raw SPN_SPEED_MEAS_RPM16 < s.get SPN_SPEED_TARGET ∧ !s.flag SPN_CTL_PERMIT then s1.on SPN_STAT_PERMIT_LAPSE
  else s1

/-- Enter BRAKE with the windings shorted. -/
def enterBrake (stop : Bool) (ms : Nat) (s : State) : State :=
  modSpn (fun p => { p with stopBrake := stop, minMs := ms, parkWait := false }) (spnGo spnBrake .short s)

/-- Speed at or above `pct` percent of TARGET. -/
def State.atPct (s : State) (pct rpm16 : Nat) : Bool := s.get SPN_SPEED_TARGET * pct ≤ rpm16 * 100

/-! ### Commands (R70, R71) -/

/-- A refused command changes nothing but CMD_REFUSED (R71). -/
def spnRefuse (s : State) : State := s.on SPN_STAT_CMD_REFUSED

/-- SPN_CTL.CMD START. -/
def cmdStart (s : State) : State :=
  if s.pd.safe then spnRefuse s
  else if s.spnSt = spnOff ∨ s.spnSt = spnStopping ∨ (s.spnSt = spnBrake ∧ s.spn.stopBrake) then
    spnGo spnSense .float
      (((s.off SPN_LAST_START_TRIES).set SPN_LAST_START_SECTOR 7).off SPN_LAST_START_PATH)
  else spnRefuse s

/-- SPN_CTL.CMD STOP. -/
def cmdStop (s : State) : State :=
  if s.pd.safe then spnRefuse s
  else if s.driving || s.spnSt == spnCoast || s.spnSt == spnSense || s.spnSt == spnLocate then
    spnGo spnStopping .float s
  else spnRefuse s

/-- SPN_CTL.CMD FLOAT. -/
def cmdFloat (s : State) : State :=
  if s.pd.safe then spnRefuse s
  else if s.spnSt = spnRectify then spnRefuse s
  else spnGo spnOff .float s

def execCmdStart (s : State) : Res := .next (live s cmdStart)
def execCmdStop (s : State) : Res := .next (live s cmdStop)
def execCmdFloat (s : State) : Res := .next (live s cmdFloat)

/-! ### Start (R72 to R75) -/

/-- The sample of SENSE ends: `fwd` the direction, `rpm16` the speed, `low` when the amplitude stayed under 50 mV. -/
def senseDone (fwd low : Bool) (rpm16 : Nat) (s : State) : State :=
  let s1 := (s.put SPN_STAT_DIR (!fwd)).set SPN_LAST_START_SENSE_RPM16 rpm16
  if low || !s.atPct 3 rpm16 then enterBrake false 200 (s1.set SPN_LAST_START_PATH 3)
  else if fwd then enterAccel ((s1.set SPN_LAST_START_PATH 1).set SPN_SPEED_MEAS_RPM16 rpm16)
  else enterBrake false 0 (s1.set SPN_LAST_START_PATH 2)

def execSenseDone (fwd low : Bool) (rpm16 : Nat) (s : State) : Res :=
  .next (live s fun s => s.when (s.spnSt == spnSense) (senseDone fwd low rpm16))

/-- Speed is below 3 % of TARGET and the minimum time of BRAKE has elapsed. -/
def brakeDone (s : State) : State :=
  if s.spn.stopBrake then (spnGo spnOff .float s).on SPN_STAT_STOP_DONE else enterLocate s

def execBrakeDone (rpm16 : Nat) (s : State) : Res :=
  .next (live s fun s => s.when (s.spnSt == spnBrake && !s.atPct 3 rpm16) brakeDone)

/-- The index of the smallest element (the earliest on a tie), with its value. -/
def fastest : List Nat → Option (Nat × Nat)
  | [] => none
  | x :: t =>
    match fastest t with
    | none => some (0, x)
    | some (i, y) => if x ≤ y then some (0, x) else some (i + 1, y)

/-- Whether two rise times differ by less than ASYM_MIN/1,024 of the faster (R72). -/
def State.tooClose (s : State) (a b : Nat) : Bool :=
  (max a b - min a b) * 1024 < s.raw SPN_DRIVE_ASYM_MIN * min a b

/-- An attempt of LOCATE ends (R72): the rise times of the six pulses and of the pair along the axis found. A clear
attempt gives the sector, and the step that leads it by 90° electrical is driven; an ambiguous one is repeated, and the
third ends the start. -/
def locateDone (rises : Vector Nat 6) (pos neg : Nat) (s : State) : State :=
  match fastest rises.toList with
  | none => s
  | some (k, t1) =>
    let rest := rises.toList.eraseIdx k
    let t2 := match fastest rest with | some (_, t) => t | none => t1
    if s.tooClose t1 t2 || s.tooClose pos neg then
      if s.spn.ambig + 1 < 3 then modSpn (fun p => { p with ambig := p.ambig + 1, locWait := true }) s
      else startFail s
    else
      let sector := if pos ≤ neg then k else (k + 3) % 6
      enterRamp ((sector + 2) % 6) (s.set SPN_LAST_START_SECTOR sector)

def execLocateAttemptDone (rises : Vector Nat 6) (pos neg : Nat) (s : State) : Res :=
  .next (live s fun s => s.when (s.spnSt == spnLocate && !s.spn.locWait) (locateDone rises pos neg))

/-- The 20 ms wait after an ambiguous attempt ends (R72). -/
def execLocateRetry (s : State) : Res :=
  .next (live s fun s => s.when (s.spnSt == spnLocate && s.spn.locWait)
    (modSpn fun p => { p with locWait := false }))

/-- The open-loop rate reaches 10 % of TARGET without lock (R70). -/
def rampTimeout (s : State) : State :=
  let n := s.raw SPN_LAST_START_TRIES + 1
  let s1 := s.set SPN_LAST_START_TRIES n
  if n < 3 then enterBrake false 200 s1 else startFail s1

def execRampTimeout (s : State) : Res :=
  .next (live s fun s => s.when (s.spnSt == spnRamp && !s.flag SPN_STAT_OBS_LOCK) rampTimeout)

/-! ### The observer and commutation (R65 to R68) -/

/-- Whether a crossing is accepted (R65, R67): inside ±ZC_WIN/256 step of the expected point, with the slope of the
step: rising in the odd steps, falling in the even ones. -/
def State.zcOk (s : State) (ofs : Int) (rising : Bool) : Bool :=
  ofs.natAbs ≤ s.raw SPN_DRIVE_ZC_WIN && rising == (s.spn.step % 2 == 1)

/-- A zero crossing at `ofs`/256 step from the expected point. An accepted one counts towards lock; the crossing that
is the electrical zero leaves its device angle in INV_ELEC_OFS while the source is servo. -/
def zeroCrossing (ofs : Int) (rising zero : Bool) (s : State) : State :=
  let s1 := modSpn (fun p => { p with run := if s.zcOk ofs rising then p.run + 1 else 0 }) s
  if zero && s.raw INV_SRC_SRC == srcServo then s1.set INV_ELEC_OFS_OFS s1.nowTick else s1

def execZeroCrossing (ofs : Int) (rising zero : Bool) (s : State) : Res :=
  .next (live s (zeroCrossing ofs rising zero))

/-- The observer locks after six accepted crossings (R67) and Invar hears of it (R44); RAMP at 5 % of TARGET or more,
and REACQ, go on to ACCEL. A RECTIFY that entered passive becomes synchronous (R81). -/
def observerLock (rpm16 : Nat) (s : State) : State :=
  let s1 := invObsLock ((s.on SPN_STAT_OBS_LOCK).set SPN_SPEED_MEAS_RPM16 rpm16)
  if s1.spnSt = spnRamp ∧ s1.atPct 5 rpm16 then enterAccel s1
  else if s1.spnSt = spnReacq ∧ !s1.spn.parkWait then enterAccel s1
  else if s1.spnSt = spnRectify then modSpn (fun p => { p with bridge := .rectSync }) s1
  else s1

def execObserverLock (rpm16 : Nat) (s : State) : Res :=
  .next (live s fun s => s.when (6 ≤ s.spn.run) (observerLock rpm16))

/-- The observer loses lock (R67): Invar hears of it, and a driving state enters REACQ with ROTOR_LOST (R76). -/
def observerLoss (s : State) : State :=
  let d := s.driving
  let s1 := invObsLoss (modSpn (fun p => { p with run := 0 }) (s.off SPN_STAT_OBS_LOCK))
  if d then
    let s2 := (modSpn (fun p => { p with parkWait := false }) (spnGo spnReacq .float s1)).on SPN_STAT_ROTOR_LOST
    patTrig 6 s2.spnStatWord s2
  else s1

def execObserverLockLoss (s : State) : Res :=
  .next (live s fun s => s.when (s.flag SPN_STAT_OBS_LOCK) observerLoss)

/-- Ring-timed commutation applies (R68). -/
def State.ringTimed (s : State) : Bool :=
  s.flag SPN_CTL_RING_EN && (s.spnSt == spnRun || s.spnSt == spnSlew) && s.raw INV_SRC_SRC == srcServo

/-- The sequencer commutes by itself (R68): in ring-timed mode this is the fallback, which sets RING_MISS. -/
def selfCommutate (s : State) : State :=
  let s1 := modSpn (fun p => { p with step := (p.step + 1) % 6 }) s
  if s.ringTimed then s1.on SPN_STAT_RING_MISS else s1

def execSelfTimedCommutation (s : State) : Res := .next (live s fun s => s.when s.driving selfCommutate)

/-- A COMMUT entry fires with step `k` (R68): taken in ring-timed mode when it names the step that follows. -/
def commut (k : Nat) (s : State) : State :=
  if s.ringTimed && k == (s.spn.step + 1) % 6 then modSpn (fun p => { p with step := k }) s else s

/-! ### Speed and inertia (R77 to R80) -/

/-- TARGET is reached (R70). `ms` is the time from 30 % to 70 % of TARGET when the spin-up passed through that window;
with the permit held throughout it is a measured window (R77). -/
def speedReached (ms : Option Nat) (s : State) : State :=
  if s.spnSt = spnAccel then
    match ms with
    | some t =>
      if s.spn.win then spnGo spnCoast .float (s.set SPN_MEAS_ACCEL_MS t)
      else (spnGo spnRun .drive s).on SPN_STAT_START_DONE
    | none => (spnGo spnRun .drive s).on SPN_STAT_START_DONE
  else if s.spnSt = spnSlew then spnGo spnRun .drive s
  else s

def execSpeedReached (ms : Option Nat) (s : State) : Res := .next (live s (speedReached ms))

/-- KT from KE (R77): KE × 3/π, to the nearest µN·m/A. -/
def ktOf (ke : Nat) : Nat := (ke * 3 * piDen * 2 + piNum) / (2 * piNum)

/-- J of R77 in 10⁻⁸ kg·m², to the nearest unit. -/
def State.jOf (s : State) (kt drop : Nat) : Nat :=
  let ms := s.raw SPN_MEAS_ACCEL_MS
  let co := s.raw SPN_MOTOR_COAST_MS
  let n := kt * s.raw SPN_ILIM_ACCEL_MA * 6 * ms * co * piDen
  let d := piNum * (50 * s.get SPN_SPEED_TARGET * co + 5 * drop * ms)
  if d = 0 then Config.quotZero n else (2 * n + d) / (2 * d)

/-- COAST_MS elapses (R77): KE and the speed lost (0.01 rpm) are measured; KT, J and the energy follow. -/
def coastDone (ke drop : Nat) (s : State) : State :=
  let s1 := ((s.set SPN_KE_KE ke).set SPN_KE_KT (ktOf ke)).set SPN_MEAS_COAST_DROP drop
  let s2 := (((s1.set SPN_J_J (s1.jOf (ktOf ke) drop)).on SPN_J_VALID).on SPN_J_MEASURED)
  holdupUpdate (((spnGo spnRun .drive s2).on SPN_STAT_J_NEW).on SPN_STAT_START_DONE)

def execCoastMeasDone (ke drop : Nat) (s : State) : Res :=
  .next (live s fun s => s.when (s.spnSt == spnCoast) (coastDone ke drop))

/-- A write of SPN_SPEED.TARGET (R80): E follows at once; RUN or SLEW slews, but a TARGET below the present speed waits
until dirty data is within the new cap, the speed held meanwhile. -/
def targetWrite (v : Nat) (s : State) : State :=
  let s1 := holdupUpdate (s.set SPN_SPEED_TARGET v)
  let lower := s1.get SPN_SPEED_TARGET < s1.raw SPN_SPEED_MEAS_RPM16
  if s1.spnSt = spnRun ∨ s1.spnSt = spnSlew ∨ (s1.spnSt = spnAccel ∧ lower) then
    if lower && !s1.withinCap then modSpn (fun p => { p with slewWait := true }) s1 else enterSlew s1
  else s1

def execSpeedTargetWrite (v : Nat) (s : State) : Res := .next (live s (targetWrite v))

/-- BUF reports dirty data within the cap for the lowered TARGET (R80). -/
def execSlewEntry (s : State) : Res :=
  .next (live s fun s => s.when (s.spn.slewWait && s.withinCap) enterSlew)

/-! ### Loss of the rotor (R76) -/

/-- Whether both actuators are parked. -/
def State.bothParked (s : State) : Bool := s.actSt 0 == 0 && s.actSt 1 == 0

/-- REACQ passes 50 electrical revolutions without lock (R76). -/
def reacqTimeout (s : State) : State :=
  let s1 := s.on SPN_STAT_REACQ_FAIL
  let s2 := patTrig 7 s1.spnStatWord s1
  if s2.bothParked then enterBrake false 200 (s2.set SPN_LAST_START_PATH 3)
  else modSpn (fun p => { p with parkWait := true }) s2

def execReacqTimeout (s : State) : Res :=
  .next (live s fun s => s.when (s.spnSt == spnReacq && !s.spn.parkWait) reacqTimeout)

/-- Both actuators are parked after REACQ_FAIL (R76). -/
def execReacqBrake (s : State) : Res :=
  .next (live s fun s => s.when (s.spnSt == spnReacq && s.spn.parkWait && s.bothParked)
    fun s => enterBrake false 200 (s.set SPN_LAST_START_PATH 3))

/-- Speed falls below 3 % in STOPPING (R70). -/
def execStoppingDone (rpm16 : Nat) (s : State) : Res :=
  .next (live s fun s => s.when (s.spnSt == spnStopping && !s.atPct 3 rpm16) (enterBrake true 200))

/-! ### Rectification (R81) -/

/-- A supply-reset line or rectify enable (R70, R81): from any state but OFF and RECTIFY, unless the heartbeat was lost
(R15). Synchronous with the observer locked, else passive. -/
def rectifyEntry (s : State) : State :=
  if s.pd.safe || s.spnSt == spnOff || s.spnSt == spnRectify then s
  else spnGo spnRectify (if s.flag SPN_STAT_OBS_LOCK then .rectSync else .rectPassive) s

/-- Speed falls below FLOOR in RECTIFY (R70). The power die does this with or without the main die. -/
def execRectifyFloor (rpm16 : Nat) (s : State) : Res :=
  .next (s.when (s.spnSt == spnRectify && rpm16 < s.raw SPN_HU_CFG_FLOOR * 1600)
    fun s => (spnGo spnOff .float s).on SPN_STAT_RECT_DONE)

/-- The supplies and lines recover in RECTIFY (R70): both rails are back above warning. -/
def execRectifyRecovery (s : State) : Res :=
  .next (s.when (s.spnSt == spnRectify && !s.pwr.below12 && !s.pwr.below5 && !s.pwr.rectEn)
    fun s => spnGo spnSense .float (s.set SPN_LAST_START_PATH 1))

/-! ### Energy, J and the permit -/

/-- The update of SPN_HOLDUP once per revolution (R78), with the speed measured then; AT_SPEED follows after 16
revolutions within ±0.1 % of TARGET. -/
def holdupRev (rpm16 : Nat) (s : State) : State :=
  let t := s.get SPN_SPEED_TARGET
  let near := (max rpm16 t - min rpm16 t) * 1000 ≤ t
  let s1 := modSpn (fun p => { p with atRun := if near then p.atRun + 1 else 0 })
    ((s.set SPN_SPEED_MEAS_RPM16 rpm16).put SPN_SPEED_MEAS_SRC (s.raw INV_SRC_SRC == srcServo))
  holdupUpdate (s1.put SPN_STAT_AT_SPEED (16 ≤ s1.spn.atRun))

def execHoldupUpdate (rpm16 : Nat) (s : State) : Res := .next (live s (holdupRev rpm16))

/-- A firmware write of SPN_J (R79): VALID and J from the word, MEASURED clears. -/
def spnJWrite (w : Nat) (s : State) : State :=
  holdupUpdate (((s.put SPN_J_VALID (bitOf w 31)).set SPN_J_J (bits w 0 20)).off SPN_J_MEASURED)

def execSpnJWrite (w : Nat) (s : State) : Res := .next (live s (spnJWrite w))

/-- A lapse of SPN_CTL.PERMIT: LOCATE and RAMP end the start; ACCEL and a rising SLEW hold the speed. -/
def permitLapse (s : State) : State :=
  let s1 := s.off SPN_CTL_PERMIT
  if s.spnSt = spnLocate ∨ s.spnSt = spnRamp then lapseOff s1
  else if s.spnSt = spnAccel ∨ s.spnSt = spnSlew then
    modSpn (fun p => { p with win := false }) (s1.on SPN_STAT_PERMIT_LAPSE)
  else s1

/-- SPN_CTL.PERMIT changes. -/
def permitChange (b : Bool) (s : State) : State :=
  if b then s.on SPN_CTL_PERMIT else if s.flag SPN_CTL_PERMIT then permitLapse s else s

def execSpinPermitChange (b : Bool) (s : State) : Res := .next (live s (permitChange b))

end Sys2Proof.Machine
end

