-- ==== Sys2Proof/Machine/Fire.lean ====
section
/-!
DEFINITION. Event rings (R47 to R55), quiet windows (R57), the wall timers (R58), and Quench's own commands (R59 to R63,
R440).
-/
namespace Sys2Proof.Machine

/-! ### What an entry does when it fires -/

/-- An entry dropped in ring `a` (INV_STAT.DROP). -/
def dropEntry (a : Fin 2) (s : State) : State := s.onBit INV_STAT_DROP a.val

/-- Put the quiet window of a channel, and whether an open is deferred. -/
def setQuiet (ch : Fin 4) (isOpen wait : Bool) (s : State) : State :=
  { s with inv := { s.inv with quiet := s.inv.quiet.set ch isOpen, quietWait := s.inv.quietWait.set ch wait } }

/-- Put the read gate of a channel. -/
def setRg (ch : Fin 4) (b : Bool) (s : State) : State := { s with inv := { s.inv with rg := s.inv.rg.set ch b } }

/-- Whether the write-gate ball that a channel drives is high (R57). -/
def State.wgBall (s : State) (ch : Fin 4) : Bool := s.wch[ch].gate.isSome && !s.flag QCH_TEST_OUT_HOLD

/-- AE_ON (R128): dropped while Quench holds the channel (R60) or a quiet window is open (R57). -/
def aeOnFire (ch : Fin 4) (s : State) : State :=
  if s.chHeld ch then dropEntry (actOf ch) s
  else if s.inv.quiet[ch] then dropEntry (actOf ch) (s.on INV_STAT_QUIET_CONFLICT)
  else setAssist ch true s

/-- RG_OPEN (R147): dropped in a quiet window (R57); Quench never holds a read gate. -/
def rgOpenFire (ch : Fin 4) (s : State) : State :=
  if s.inv.quiet[ch] then dropEntry (actOf ch) (s.on INV_STAT_QUIET_CONFLICT) else setRg ch true s

/-- QUIET_OPEN (R57): deferred while a gate of the channel is open. -/
def quietOpenFire (ch : Fin 4) (s : State) : State :=
  if s.wgBall ch || s.inv.rg[ch] then setQuiet ch s.inv.quiet[ch] true s else setQuiet ch true false s

/-- A deferred quiet window opens once both gates are closed. -/
def quietOpenDeferred (ch : Fin 4) (s : State) : State :=
  if s.inv.quietWait[ch] && !s.wgBall ch && !s.inv.rg[ch] then setQuiet ch true false s else s

/-- CORE_IRQ (R49): PARAM [7:6] the core, [5:0] the vector. -/
def coreIrqFire (param : Nat) (s : State) : State := s.emit (.coreIrq (param / 64 % 4) (param % 64))

/-- DMA_START (R49): PARAM names one of the 32 channels; a job that runs goes on. -/
def dmaStartFire (param : Nat) (s : State) : State :=
  if param < 32 then if s.flag (BUF_DMA_CTL_GO param) then s else dmaGo param s else s

/-- An entry of ring `a` takes effect (R49). -/
def fireEntry (a : Fin 2) (e : RingEntry) (s : State) : State :=
  let ch := e.ch a
  match e.cls with
  | .wgOpen => wgOpenFire ch e.tag s
  | .wgClose => framesSettle a (wgCloseFire ch e.tag s)
  | .aeOn => aeOnFire ch s
  | .aeOff => setAssist ch false s
  | .rgOpen => rgOpenFire ch s
  | .rgClose => framesSettle a (setRg ch false s)
  | .quietOpen => quietOpenFire ch s
  | .quietClose => setQuiet ch false false s
  | .engWake => roleEdge (e.param % 16) 0 s
  | .dmaStart => dmaStartFire e.param s
  | .coreIrq => coreIrqFire e.param s
  | .commut => commut (e.param % 8) s

/-- The entry that fires next in ring `a`: the head of the ring, unless the other ring holds one with an earlier stamp. -/
def State.nextEntry (s : State) (a : Fin 2) : Option RingEntry :=
  match s.inv.ring[a] with
  | [] => none
  | e :: _ =>
    match s.inv.ring[(1 - a : Fin 2)] with
    | f :: _ => if f.stamp < e.stamp then none else some e
    | [] => some e

/-- Angle reaches the stamp of the next entry of ring `a` and it fires, when it is of class `c`; `act` is what that class
does. -/
def fireHead (a : Fin 2) (c : RingClass) (act : RingEntry → State → State) (s : State) : State :=
  match s.nextEntry a with
  | some e => if e.cls = c then act e (advanceTo e.stamp (setRing a s.inv.ring[a].tail s)) else s
  | none => s

def execWgOpen (a : Fin 2) (s : State) : Res :=
  .next (live s (fireHead a .wgOpen fun e => wgOpenFire (e.ch a) e.tag))
def execWgClose (a : Fin 2) (s : State) : Res :=
  .next (live s (fireHead a .wgClose fun e t => framesSettle a (wgCloseFire (e.ch a) e.tag t)))
def execAeOn (a : Fin 2) (s : State) : Res := .next (live s (fireHead a .aeOn fun e => aeOnFire (e.ch a)))
def execAeOff (a : Fin 2) (s : State) : Res := .next (live s (fireHead a .aeOff fun e => setAssist (e.ch a) false))
def execRgOpen (a : Fin 2) (s : State) : Res := .next (live s (fireHead a .rgOpen fun e => rgOpenFire (e.ch a)))
def execRgClose (a : Fin 2) (s : State) : Res :=
  .next (live s (fireHead a .rgClose fun e t => framesSettle a (setRg (e.ch a) false t)))
def execQuietOpen (a : Fin 2) (s : State) : Res :=
  .next (live s (fireHead a .quietOpen fun e => quietOpenFire (e.ch a)))
def execQuietOpenDeferred (ch : Fin 4) (s : State) : Res := .next (live s (quietOpenDeferred ch))
def execQuietClose (a : Fin 2) (s : State) : Res :=
  .next (live s (fireHead a .quietClose fun e => setQuiet (e.ch a) false false))
def execEngWake (a : Fin 2) (s : State) : Res :=
  .next (live s (fireHead a .engWake fun e => roleEdge (e.param % 16) 0))
def execDmaStart (a : Fin 2) (s : State) : Res := .next (live s (fireHead a .dmaStart fun e => dmaStartFire e.param))
def execCoreIrq (a : Fin 2) (s : State) : Res := .next (live s (fireHead a .coreIrq fun e => coreIrqFire e.param))
def execCommut (s : State) : Res := .next (live s (fireHead 0 .commut fun e => commut (e.param % 8)))

/-- Every entry that angle has reached fires, in order (R48); `fuel` bounds the entries. -/
def fireDue : Nat → State → State
  | 0, s => s
  | n + 1, s =>
    match (s.nextEntry 0).filter (·.stamp ≤ s.inv.now), (s.nextEntry 1).filter (·.stamp ≤ s.inv.now) with
    | some e, _ => fireDue n (fireEntry 0 e (setRing 0 s.inv.ring[0].tail s))
    | none, some e => fireDue n (fireEntry 1 e (setRing 1 s.inv.ring[1].tail s))
    | none, none => s

/-! ### A step of angle (R52) -/

/-- An entry whose stamp a step passes. -/
def passEntry (a : Fin 2) (s : State) (e : RingEntry) : State :=
  match e.cls.order with
  | 0 => fireEntry a e s
  | 1 =>
    match e.cls with
    | .wgOpen => dropWg (e.ch a) 9 e.tag (dropEntry a s)
    | _ => dropEntry a s
  | _ => if e.lateDrop then dropEntry a s else fireEntry a e s

/-- Angle steps forward to a stamp (R41): STEP sets, and the entries passed are treated by type (R52). -/
def angleStep (st : Nat) (s : State) : State :=
  let pass (a : Fin 2) : List RingEntry := s.inv.ring[a].takeWhile fun e => e.stamp ≤ st
  let rest (a : Fin 2) : List RingEntry := s.inv.ring[a].dropWhile fun e => e.stamp ≤ st
  let s1 := setRing 1 (rest 1) (setRing 0 (rest 0) (advanceTo st (s.on INV_STAT_STEP)))
  (pass 1).foldl (passEntry 1) ((pass 0).foldl (passEntry 0) s1)

/-! ### Commits and cancels (R47, R49 to R54) -/

/-- RESULT codes of INV_RING_RESP. -/
abbrev ringOk : Nat := 0
abbrev ringFull : Nat := 1
abbrev ringLateFired : Nat := 2
abbrev ringLateDropped : Nat := 3
abbrev ringBadClass : Nat := 4
abbrev ringInvalid : Nat := 5

/-- The staged entry of a requester with the word now written to W3, and its class when it names one that ring `a`
accepts. -/
def State.ringEntry (s : State) (r : Req) (a : Fin 2) (w3 : Nat) : Option RingEntry :=
  let w2 := s.raw ((INV_RING_W a.val 2).of r)
  match ringClassOf (bits w2 28 4) with
  | none => none
  | some c =>
    if c = .commut ∧ a = 1 then none
    else some
      { stamp := s.raw ((INV_RING_W a.val 0).of r) + s.raw ((INV_RING_W a.val 1).of r) * 2 ^ 32, cls := c
        chan := bitOf w2 24, tagged := bitOf w2 23, lateDrop := bitOf w2 22, param := bits w3 24 8, tag := bits w3 0 24 }

/-- Whether an entry is late (R51): fewer than 16 ticks ahead of device angle. -/
def State.isLate (s : State) (e : RingEntry) : Bool :=
  stampTicks s.wedges e.stamp < stampTicks s.wedges s.inv.now + 16

/-- Whether a late entry is dropped rather than fired (R51). -/
def RingEntry.lateDropped (e : RingEntry) : Bool :=
  match e.cls with
  | .wgOpen | .aeOn => true
  | c => c.order != 0 && e.lateDrop

/-- A late entry acts at its commit (R51): its RESULT and the state after. -/
def lateEntry (a : Fin 2) (e : RingEntry) (s : State) : State × Nat :=
  let s1 := s.onBit INV_STAT_LATE a.val
  if e.lateDropped then
    let s2 := dropEntry a s1
    (if e.cls = .wgOpen then dropWg (e.ch a) 8 e.tag s2 else s2, ringLateDropped)
  else (fireEntry a e s1, ringLateFired)

/-- The judgement of a commit, in the order of R53. -/
def judgeEntry (a : Fin 2) (e : Option RingEntry) (s : State) : State × Nat :=
  if s.raw INV_SRC_SRC = srcNone then (s, ringInvalid)
  else
    match e with
    | none => (s, ringBadClass)
    | some e =>
      if s.isLate e then lateEntry a e s
      else if 4096 ≤ s.inv.ring[a].length then (patTrig 3 a.val (s.onBit INV_STAT_FULL a.val), ringFull)
      else
        let s1 := setRing a (ringInsert e s.inv.ring[a]) s
        (s1.set (INV_RING_STAT_HWM a.val) (max (s1.raw (INV_RING_STAT_HWM a.val)) s1.inv.ring[a].length), ringOk)

/-- A write of INV_RING_W3. -/
def ringCommit (r : Req) (a : Fin 2) (w3 : Nat) (s : State) : State :=
  let s0 := s.set ((INV_RING_W a.val 3).of r) w3
  let p := judgeEntry a (s.ringEntry r a w3) s0
  (p.1.set ((INV_RING_RESP_RESULT a.val).of r) p.2).on ((INV_RING_RESP_DONE a.val).of r)

def execRingEntryCommit (r : Req) (a : Fin 2) (w3 : Word) (s : State) : Res :=
  .next (live s (ringCommit r a w3.toNat))

/-- A write of INV_RING_CANCEL (R54). -/
def ringCancel (a : Fin 2) (tag : Nat) (s : State) : State :=
  setRing a (s.inv.ring[a].filter fun e => !(e.tagged && e.tag == tag)) (s.set (INV_RING_CANCEL_TAG a.val) tag)

def execRingCancel (a : Fin 2) (tag : Nat) (s : State) : Res := .next (live s (ringCancel a (tag % 2 ^ 24)))

/-! ### Wall timers (R58) -/

/-- A wall timer's interval expires: FIRED sets; ARM stays only when PERIODIC. -/
def wallTimerExpiry (n : Nat) (s : State) : State :=
  if s.flag (INV_WTMR_ARM n) && s.raw (INV_WTMR_INTERVAL n) != 0 then
    let s1 := (s.onBit INV_WTMR_STAT_FIRED n).emit (.wallTimer n)
    if s1.flag (INV_WTMR_PERIODIC n) then s1 else s1.off (INV_WTMR_ARM n)
  else s

def execWallTimerExpiry (n : Fin 8) (s : State) : Res := .next (live s (wallTimerExpiry n.val))

/-! ### Quench commands -/

/-- A write of 1b to QCH_RW_STAT.OVF (R63). -/
def execRewriteOvfClear (ch : Fin 4) (s : State) : Res := .next (live s fun s => s.off (QCH_RW_STAT_OVF ch.val))

/-- A write of QCH_RW_POP (R62). -/
def rewritePop (ch : Fin 4) (s : State) : State :=
  { s with qch := { s.qch with fifo := vmod s.qch.fifo ch List.tail } }

def execRewritePop (ch : Fin 4) (s : State) : Res := .next (live s (rewritePop ch))

/-- A release count reaches its limit (R60, R443). -/
def autoRelease (a : Fin 2) (i : Nat) (s : State) : State :=
  if bitOf s.qch.trig[a] i && (i < 3 || i == 4) && s.relLimit i != 0 && s.relLimit i ≤ (s.qch.rel[a]).of i then
    quenchRelease i a s
  else s

def execQuenchAutoRelease (a : Fin 2) (i : Fin 8) (s : State) : Res := .next (live s (autoRelease a i.val))

/-- A write of 1b to QCH_REL of an actuator (R60, R61). -/
def releaseWrite (a : Fin 2) (s : State) : State :=
  if s.condHeld a then s.on QCH_STAT_REL_REFUSED
  else (List.range 8).foldl (fun t i => if bitOf t.qch.trig[a] i && t.relByWrite i then quenchRelease i a t else t) s

/-- A write of QCH_REL. -/
def quenchRel (v : Nat) (s : State) : State :=
  let s1 := if bitOf v 0 then releaseWrite 0 s else s
  if bitOf v 1 then releaseWrite 1 s1 else s1

def execQuenchRelease (v : Fin 4) (s : State) : Res := .next (live s (quenchRel v.val))

/-- HOLD of an actuator is written 1b (R61): open gates come down with REASON 1100b and assist states clear. -/
def holdWrite (a : Fin 2) (s : State) : State :=
  cutGate (chOf a 1) 12 false (cutGate (chOf a 0) 12 false s)

/-- A write of QCH_CTL.HOLD. -/
def quenchHold (v : Nat) (s : State) : State :=
  let s0 := s.set QCH_CTL_HOLD v
  let s1 := if bitOf v 0 then holdWrite 0 s0 else s0
  if bitOf v 1 then holdWrite 1 s1 else s1

def execQuenchHold (v : Fin 4) (s : State) : Res := .next (live s (quenchHold v.val))

/-- A write of QCH_CTL.SWREQ (R440). -/
def swreq (v : Nat) (s : State) : State :=
  let s1 := if bitOf v 0 then quenchReq 0 s else s
  if bitOf v 1 then quenchReq 1 s1 else s1

def execSwreq (v : Fin 4) (s : State) : Res := .next (live s (swreq v.val))

/-- A write of QCH_TEST.PULSE (R59): discarded unless OUT_HOLD; `ns` is the latency measured. -/
def execQuenchTestPulse (ns : Nat) (s : State) : Res :=
  .next (live s fun s => if s.flag QCH_TEST_OUT_HOLD then s.set QCH_LAT_NS ns else s)

end Sys2Proof.Machine
end

