-- ==== Sys2Proof/Machine/Actuator.lean ====
section
/-!
DEFINITION. Actuators (R106 to R110): load, unload and retract, and what the seek (R104) and the head locks (R38) make of
a change of the actuator's state.
-/
namespace Sys2Proof.Machine

/-- ACT_STAT.STATE codes (R106). -/
abbrev actParked : Nat := 0
abbrev actLoading : Nat := 1
abbrev actAcquire : Nat := 2
abbrev actFollow : Nat := 3
abbrev actUnloading : Nat := 4
abbrev actRetract : Nat := 5

/-- Change an actuator's drive. -/
def modAct (a : Fin 2) (f : Act → Act) (s : State) : State := { s with act := vmod s.act a f }

/-- The Bullion slot of an actuator's seeks: 1 or 2. -/
def seekSlot (a : Fin 2) : Fin 24 := ⟨1 + a.val, by omega⟩

/-- The DETAIL of the servo triggers of Patina (R359): the actuator and its FAULT value. -/
def State.srvDetail (s : State) (a : Fin 2) : Nat := a.val * 256 + s.raw (SRV_PA_FAULT_CAUSE a.val)

/-- A seek ends without success (R104): the request is withdrawn or the permit released, SEEK_FAIL sets and GO clears. -/
def seekFail (a : Fin 2) (s : State) : State :=
  let s1 := ((s.set (SRV_STAT_SEEK_STATE a.val) 0).off (SRV_SEEK_GO a.val)).on (SRV_STAT_SEEK_FAIL a.val)
  bulRelease (seekSlot a) (patTrig 10 (s1.srvDetail a) s1)

/-- The surface of the head that a lane follows, when it has one selected. -/
def State.laneSurf (s : State) (a l : Fin 2) : Option Nat :=
  if (s.lane a l).sel < 10 then some (surfOf a (s.lane a l).sel) else none

/-- A lane stops demodulating: its head loses lock at once (R38) and its runs of accepted and rejected numbers end. -/
def laneDrop (a l : Fin 2) (s : State) : State :=
  let s1 := modLane a l (fun x => { x with acc := 0, rej := 0, pos := none, wordOk := false }) s
  match s1.laneSurf a l with
  | some f => dropSurf f s1
  | none => s1

/-- Both microactuator outputs of an actuator go to 0 V. -/
def maZero (a : Fin 2) (s : State) : State := (s.set (maOut a 0) 0).set (maOut a 1) 0

/-- An actuator changes state: a seek under way fails when it leaves FOLLOW (R104); its lanes go idle when it leaves
LOADING, ACQUIRE and FOLLOW (R83, R38); Bullion walks when a standing allocation ends (R306). -/
def actGo (a : Fin 2) (st : Nat) (s : State) : State :=
  let up := s.actUp a
  let s1 := if s.actSt a = actFollow ∧ st ≠ actFollow ∧ s.raw (SRV_STAT_SEEK_STATE a.val) ≠ 0 then seekFail a s else s
  let s2 := setActSt a st s1
  let s3 := if up && !s2.actUp a then
      modSrv a (fun v => { v with handover := false, leadMiss := 0 }) (laneDrop a 1 (laneDrop a 0 s2))
    else s2
  if (up && !s3.actUp a) || st = actParked then bulWalk s3 else s3

/-- Clamp and park. -/
def actPark (a : Fin 2) (s : State) : State :=
  actGo a actParked (modAct a (fun x => { x with clamp := true, modeWait := false, holdPhase := false, vcm := 0, base := 0 }) s)

/-- A retract starts (R107), from any state but PARKED; one under way goes on unchanged. The power die does this with or
without the main die. -/
def retract (a : Fin 2) (s : State) : State :=
  if s.actSt a = actParked ∨ s.actSt a = actRetract then s
  else actGo a actRetract (maZero a (modAct a (fun x => { x with clamp := false, modeWait := false, holdPhase := false }) s))

/-- A refused command (R108). -/
def actRefuse (s : State) : State := s.on ACT_STAT_CMD_REFUSED

/-- Whether LOAD is accepted (R106, R108): no lost heartbeat, PARKED, at speed, coefficients loaded, a head on lane 0. -/
def State.loadOk (s : State) (a : Fin 2) : Bool :=
  !s.pd.safe && s.actSt a == actParked && s.flag SPN_STAT_AT_SPEED && s.flag (SRV_COEF_CTL_LOADED a.val) &&
  (s.lane a 0).sel < 10

/-- ACT_CTL LOAD. -/
def cmdLoad (a : Fin 2) (s : State) : State :=
  if s.loadOk a then
    modeFrame a .modeActive 2 (modAct a (fun x => { x with modeWait := true }) (actGo a actLoading s))
  else actRefuse s

def execCmdLoad (a : Fin 2) (s : State) : Res := .next (live s (cmdLoad a))

/-- Whether a channel of the actuator is write-active (R124). -/
def State.wrActive (s : State) (a : Fin 2) : Bool :=
  s.flag (WCH_CTL_WR_ACTIVE (chOf a 0).val) || s.flag (WCH_CTL_WR_ACTIVE (chOf a 1).val)

/-- The heads are driven to the ramp. -/
def unloadGo (a : Fin 2) (s : State) : State :=
  actGo a actUnloading (maZero a (modAct a (fun x => { x with modeWait := false, clamp := false }) s))

/-- LOAD_TO elapses in LOADING or ACQUIRE. -/
def loadTimeout (a : Fin 2) (s : State) : State :=
  if s.actSt a = actLoading ∨ s.actSt a = actAcquire then
    let s1 := unloadGo a (s.onBit ACT_STAT_LOAD_FAIL a.val)
    patTrig 11 (s1.srvDetail a) s1
  else s

def execLoadTimeout (a : Fin 2) (s : State) : Res := .next (live s (loadTimeout a))

/-- UNLOAD of an actuator that is up: a write-active channel raises trigger 111b first. -/
def unloadUp (a : Fin 2) (s : State) : State := unloadGo a (if s.wrActive a then quenchReq a s else s)

/-- ACT_CTL UNLOAD. -/
def cmdUnload (a : Fin 2) (s : State) : State :=
  if !s.pd.safe && s.actUp a then unloadUp a s else actRefuse s

def execCmdUnload (a : Fin 2) (s : State) : Res := .next (live s (cmdUnload a))

/-- The back-EMF stays below 20 mV for 10 ms at the stop; entering PARKED sends MODE idle (R98). -/
def unloadPark (a : Fin 2) (s : State) : State :=
  if s.actSt a = actUnloading then modeFrame a .modeIdle 1 (actPark a s) else s

def execUnloadPark (a : Fin 2) (s : State) : Res := .next (live s (unloadPark a))

/-- UNLOAD_TO elapses in UNLOADING. -/
def unloadTimeout (a : Fin 2) (s : State) : State :=
  if s.actSt a = actUnloading then
    let s1 := retract a (s.onBit ACT_STAT_UNLOAD_TO a.val)
    patTrig 11 (s1.srvDetail a) s1
  else s

def execUnloadTimeout (a : Fin 2) (s : State) : Res := .next (live s (unloadTimeout a))

/-- ACT_CTL RETRACT: refused in PARKED, and after a lost heartbeat. -/
def cmdRetract (a : Fin 2) (s : State) : State :=
  if s.pd.safe || s.actSt a == actParked then actRefuse s else retract a s

def execCmdRetract (a : Fin 2) (s : State) : Res := .next (live s (cmdRetract a))

/-- The retract request wire, or a supply-reset line, of the power die. -/
def execRetractRequest (a : Fin 2) (s : State) : Res := .next (retract a s)

/-- The retract reaches the stop and holds HOLD_MA towards it (R107). -/
def retractHold (a : Fin 2) (s : State) : State :=
  if s.actSt a = actRetract then
    modAct a (fun x => { x with holdPhase := true, vcm := s.raw ACT_RETRACT_HOLD_MA }) s
  else s

def execRetractHoldStart (a : Fin 2) (s : State) : Res := .next (retractHold a s)

/-- HOLD_MS ends: clamp, RET_DONE and PARKED. MODE idle goes out when the main die runs (R98). -/
def retractDone (a : Fin 2) (s : State) : State :=
  if s.actSt a = actRetract ∧ (s.act[a]).holdPhase then
    let s1 := (actPark a s).onBit ACT_STAT_RET_DONE a.val
    if s.die.phase = .running then modeFrame a .modeIdle 1 s1 else s1
  else s

def execRetractDone (a : Fin 2) (s : State) : Res := .next (retractDone a s)

/-- 500 ms after REACQ_FAIL with an actuator not parked, Babbitt requests its retract (R76). -/
def execReacqRetractTimeout (s : State) : Res :=
  .next (live s fun s => s.when (s.spnSt == spnReacq && s.spn.parkWait) fun s => retract 1 (retract 0 s))

end Sys2Proof.Machine
end

