-- ==== Sys2Proof/Machine/Servo.lean ====
section
/-!
DEFINITION. Servo (R82 to R105): what a lane reports at the end of its mark search, head locks and angle sources (R38 to
R46), position words and the hardware loop, preamp frames, head selects, shock, and seeks.
-/
namespace Sys2Proof.Machine

/-! ### Angle source commands (R44, R46) -/

/-- A write that sets INV_CFG.EN: Invar starts in the INVALID state. -/
def invarEnable (s : State) : State := s.on INV_CFG_EN

def execInvarEnable (s : State) : Res := .next (live s invarEnable)

/-- A write that clears INV_CFG.EN. -/
def invarDisable (s : State) : State :=
  let s1 := ((s.off INV_CFG_EN).set INV_LOCK_LOCKED 0).off INV_SRC_ALIGNED
  setSource srcNone { s1 with inv := { s1.inv with locks := Vector.replicate 32 default } }

def execInvarDisable (s : State) : Res := .next (live s invarDisable)

/-- HOLD_LEFT reaches zero in HOLD (R44). -/
def holdoverExpiry (s : State) : State := if s.raw INV_SRC_SRC = srcHold then setSource srcNone s else s

def execHoldoverExpiry (s : State) : Res := .next (live s holdoverExpiry)

/-- A write of INV_SKEW (R46): the entry of the primary's surface stays in force as it was until that head's next sync. -/
def skewWrite (surf v : Nat) (s : State) : State :=
  let s1 := if s.inv.prim = some surf ∧ s.inv.held = none then
      { s with inv := { s.inv with held := some (s.raw (INV_SKEW_VALUE surf)) } }
    else s
  s1.set (INV_SKEW_VALUE surf) v

def execSkewWrite (surf : Fin 32) (v : Word) (s : State) : Res :=
  .next (live s (skewWrite surf.val (bits v.toNat 0 23)))

/-! ### Syncs (R38 to R42) -/

/-- A change of the count of ticks as the stamp of that count. -/
def State.stampAt (s : State) (n : Nat) : Nat := ticksStamp s.wedges n

/-- The count of ticks, not before now, at which a surface next reaches tick `t` of a wedge, less a deviation of `dev`
ticks. -/
def State.nextSurfTick (s : State) (surf t : Nat) (dev : Int) : Nat :=
  let n := stampTicks s.wedges s.inv.now
  n + ((((t : Int) + s.skew surf - dev - n).emod 4096).toNat)

/-- The surface wedge of a count of ticks, for a sync that deviates by `dev`. -/
def State.surfWedge (s : State) (surf n : Nat) (dev : Int) : Nat :=
  ((((n : Int) + dev - s.skew surf).emod ((s.wedges * 4096 : Nat) : Int)).toNat) / 4096

/-- Angle advances to a count of ticks, firing every entry it reaches (R48). -/
def runTo (n : Nat) (s : State) : State :=
  let s1 := advanceTo (s.stampAt n) s
  fireDue (s1.inv.ring[0].length + s1.inv.ring[1].length) s1

/-- The phase error of a primary sync is removed (R41): a slew within JUMP_TOL; beyond it a step forward to the servo
angle, or, when the error is backward, to the same wedge:tick of the next revolution. -/
def phaseCorrect (err : Int) (s : State) : State :=
  let n : Int := stampTicks s.wedges s.inv.now
  let tol : Int := s.raw INV_CFG_JUMP_TOL
  if err.natAbs ≤ tol.toNat then { s with inv := { s.inv with slew := err } }
  else
    let s1 := { s with inv := { s.inv with slew := 0 } }
    if 0 < err then angleStep (s.stampAt (n + err).toNat) s1
    else angleStep (s.stampAt (n + err + s.wedges * 4096).toNat) s1

/-- The Quench angle condition of a primary sync (R42, R59, R443). -/
def phaseQuench (err : Int) (s : State) : State :=
  let bad := s.raw INV_CFG_WR_TOL < err.natAbs
  let s1 := relCountWedge 4 (!bad) 1 (relCountWedge 4 (!bad) 0 (setCond 4 bad 1 (setCond 4 bad 0 s)))
  if bad then quenchBoth 4 s1 else s1

/-- A sync of the primary head that arrives `dev` ticks from its prediction: a skew written since then takes effect now
(R46). -/
def primarySync (surf period : Nat) (dev : Int) (s : State) : State :=
  let err := dev + (match s.inv.held with | some v => s.geti (INV_SKEW_VALUE surf) - sgn 23 v | none => 0)
  let s1 := { s with inv := { s.inv with held := none } }
  phaseQuench err (phaseCorrect err (s1.set INV_PERIOD_PERIOD (sat 24 period)))

/-- A sync of a locked head that is not primary (R40): the cross-check, and the skew measured. -/
def crossSync (surf : Nat) (dev : Int) (s : State) : State :=
  let s1 := ((s.setI (INV_SKEW_MEAS_VALUE surf) (s.skew surf + dev)).on (INV_SKEW_MEAS_NEW surf)).on INV_STAT_SKEW_NEW
  if s.raw INV_PREF_AGREE_TOL < dev.natAbs then patTrig 2 surf (s1.on INV_STAT_DISAGREE) else s1

/-- A sync of a locked head while the source is servo: the head that R39 names becomes or stays primary. -/
def lockedSync (surf period : Nat) (dev : Int) (s : State) : State :=
  if s.bestPrim = some surf then
    let s1 := { s with inv := { s.inv with prim := some surf, held := if s.inv.prim = some surf then s.inv.held else none } }
    primarySync surf period dev (s1.set INV_SRC_PRI_SURF surf)
  else crossSync surf dev s

/-- One wedge counts towards or away from lock (R38). -/
def lockCount (surf : Nat) (good : Bool) (idx : Option Nat) (s : State) : State :=
  let r := s.lockOf surf
  setLock surf { good := if good then r.good + 1 else 0, bad := if good then 0 else r.bad + 1
                 lastIdx := match idx with | some i => some i | none => r.lastIdx } s

/-- Whether an index agrees with the one Invar predicts (R38): `w` the wedge of device angle at the sync. -/
def State.idxPredicted (s : State) (surf w idx : Nat) : Bool :=
  if s.flag INV_SRC_ALIGNED then idx == w
  else match (s.lockOf surf).lastIdx with | some i => idx == (i + 1) % s.wedges | none => false

/-- Invar's part of a mark found: the index `idx` read, whether its check passed, and the deviation of the sync. -/
def invSync (surf idx period : Nat) (chk : Bool) (dev : Int) (s : State) : State :=
  if !s.flag INV_CFG_EN then s
  else
    let n := s.nextSurfTick surf 52 dev
    let w := s.surfWedge surf n dev
    let s1 := if s.raw INV_SRC_SRC = srcNone then s else runTo n s
    let s2 := lockCount surf (chk && s1.idxPredicted surf w idx) (if chk then some idx else none) s1
    if s2.raw INV_SRC_SRC = srcServo ∧ s2.bit INV_LOCK_LOCKED surf then lockedSync surf period dev s2 else s2

/-- Invar's part of a mark missed: the window ends SAM_WIN ticks after surface tick 52. -/
def invMiss (a : Fin 2) (surf : Nat) (s : State) : State :=
  if !s.flag INV_CFG_EN then s
  else
    let s1 := if s.raw INV_SRC_SRC = srcNone then s else
      runTo (s.nextSurfTick surf (52 + s.raw (SRV_CFG_SAM_WIN a.val)) 0) s
    lockCount surf false none s1

/-! ### The mark search (R83, R84, R91) -/

/-- The lead lane (R91). -/
def State.lead (s : State) (a : Fin 2) : Fin 2 := if s.flag (SRV_TWIN_LEAD a.val) then 1 else 0

/-- The other lane. -/
def otherLane (l : Fin 2) : Fin 2 := 1 - l

/-- Whether the channel of a lane is write-active. -/
def State.laneWrites (s : State) (a l : Fin 2) : Bool := s.flag (WCH_CTL_WR_ACTIVE (chOfLane a l s).val)

/-- Whether SRV could hand the lead to the other lane now (R91). -/
def State.handoverOk (s : State) (a : Fin 2) : Bool :=
  let o := s.lane a (otherLane (s.lead a))
  s.twin a && s.flag (SRV_TWIN_SWAP_EN a.val) && s.raw (SRV_STAT_SEEK_STATE a.val) < 2 && o.found && o.foundPrev

/-- The release count of trigger 001b at a window of the lead lane (R443). -/
def missCount (a l : Fin 2) (s : State) : State :=
  if l = s.lead a then
    let o := otherLane l
    relCountWedge 1 ((s.lane a l).found && (!s.demod a o || (s.lane a o).found)) a s
  else s

/-- The release count of trigger 000b at a window of the lead lane (R443): every write-active lane within the limit. -/
def pesCount (a l : Fin 2) (s : State) : State :=
  if l = s.lead a then
    let ok (k : Fin 2) : Bool := !s.laneWrites a k || !s.demod a k || (s.lane a k).wordOk
    relCountWedge 0 (ok 0 && ok 1) a s
  else s

/-- A servo window of the lead lane counts in SETTLE (R104). -/
def settleCount (a l : Fin 2) (good : Bool) (s : State) : State :=
  if l = s.lead a ∧ s.raw (SRV_STAT_SEEK_STATE a.val) = 3 then
    modSrv a (fun v => { v with settleRun := if good then v.settleRun + 1 else 0, settleCnt := v.settleCnt + 1 }) s
  else s

/-- The shock feedforward in mA (R92), to the nearest unit. -/
def State.shockFf (s : State) (a : Fin 2) : Int :=
  if s.flag (SRV_SHOCK_FF_EN a.val) then roundDiv (s.geti (SRV_SHOCK_FF_GAIN a.val) * s.geti (SRV_SHOCK_NOW_ROT a.val)) 256
  else 0

/-- Whether the condition of trigger 001b is present on an actuator: a write-active lane that demodulates missed its
last mark. -/
def State.missCond (s : State) (a : Fin 2) : Bool :=
  let m (l : Fin 2) : Bool := s.demod a l && s.laneWrites a l && !(s.lane a l).found
  m 0 || m 1

/-- The mark is found: the lane reports a sync, and on lane 0 a loading actuator hands control to SRV. -/
def samFound (a l : Fin 2) (surf idx period : Nat) (chk : Bool) (dev : Int) (s : State) : State :=
  let s1 := modLane a l (fun x => { x with foundPrev := x.found, found := true, idx := idx }) s
  let s2 := if l = s.lead a then modSrv a (fun v => { v with leadMiss := 0 }) s1 else s1
  let s3 := s2.off (SRV_PES_MISS a.val l.val)
  let s4 := if chk then s3 else s3.on (SRV_STAT_IDX_CHK a.val)
  let s5 := invSync surf idx period chk dev (missCount a l (setCond 1 (s4.missCond a) a s4))
  if l = 0 ∧ s5.actSt a = actLoading then actGo a actAcquire s5 else s5

/-- The mark is missed: MISS sets, Invar and Quench hear of it, the VCM holds its last output plus the feedforward, and
two misses in a row on the lead lane ask for a handover; a miss on the other lane cancels one that waits. -/
def samMiss (a l : Fin 2) (surf : Nat) (s : State) : State :=
  let ld := l = s.lead a
  let s1 := (modLane a l (fun x => { x with foundPrev := x.found, found := false, wordOk := false }) s).on
    (SRV_PES_MISS a.val l.val)
  let s2 := if ld then
      let s' := modSrv a (fun v => { v with leadMiss := v.leadMiss + 1 }) s1
      let s'' := if s'.actSt a = actFollow then modAct a (fun x => { x with vcm := x.base + s'.shockFf a }) s' else s'
      if 2 ≤ (s''.srv[a]).leadMiss && s''.handoverOk a then modSrv a (fun v => { v with handover := true }) s'' else s''
    else modSrv a (fun v => { v with handover := false }) s1
  let s3 := setCond 1 (s2.missCond a) a (settleCount a l false (pesCount a l (missCount a l s2)))
  let s4 := if s3.laneWrites a l then quenchAct 1 false a s3 else s3
  invMiss a surf s4

/-- A lane's servo window ends (R83): `mark` tells whether the mark was found; then the index read, whether its check
passed, the deviation of the sync from Invar's prediction in ticks, and the wedge period measured in 1/256 ns. -/
def samSearch (a l : Fin 2) (mark chk : Bool) (idx period : Nat) (dev : Int) (s : State) : State :=
  if s.demod a l && !(s.lane a l).settling then
    match s.laneSurf a l with
    | some surf => if mark then samFound a l surf idx period chk dev s else samMiss a l surf s
    | none => s
  else s

def execSamSearch (a l : Fin 2) (mark chk : Bool) (idx period : Nat) (dev : Int) (s : State) : Res :=
  .next (live s (samSearch a l mark chk (idx % 1024) period dev))

/-! ### Head locks (R38, R44, R106) -/

/-- FOLLOW is entered from ACQUIRE once lane 0's head is locked and four track numbers in a row are accepted. -/
def acquireCheck (a : Fin 2) (s : State) : State :=
  match s.actSt a, s.laneSurf a 0, (s.lane a 0).pos with
  | 2, some surf, some p =>
    if s.bit INV_LOCK_LOCKED surf && 4 ≤ (s.lane a 0).acc then
      actGo a actFollow (s.set (SRV_TGT_TARGET a.val 0) ((p + 128) / 256 * 256))
    else s
  | _, _, _ => s

/-- Angle is set from the sync of a head that locks while the source is not servo (R44): plain from INVALID, never to an
earlier stamp (R36), under R41 otherwise. -/
def lockAngle (surf idx : Nat) (s : State) : State :=
  let rev := s.wedges * 4096
  let n := stampTicks s.wedges s.inv.now
  let fwd := (s.deviceTick surf idx 52 + rev - n % rev) % rev
  if s.raw INV_SRC_SRC = srcNone then { s with inv := { s.inv with now := max s.inv.now (s.stampAt (n + fwd)), slew := 0 } }
  else phaseCorrect (if fwd * 2 ≤ rev then (fwd : Int) else (fwd : Int) - rev) s

/-- A head completes four consecutive good wedges. -/
def headLock (a l : Fin 2) (s : State) : State :=
  match s.laneSurf a l with
  | none => s
  | some surf =>
    let r := s.lockOf surf
    if !s.flag INV_CFG_EN || r.good < 4 || s.bit INV_LOCK_LOCKED surf then s
    else
      let s1 := s.onBit INV_LOCK_LOCKED surf
      let s2 := if s1.raw INV_SRC_SRC = srcServo then s1
        else
          let t := setSource srcServo ((lockAngle surf (r.lastIdx.getD 0) s1).on INV_SRC_ALIGNED)
          { t with inv := { t.inv with prim := some surf, held := none } }.set INV_SRC_PRI_SURF surf
      acquireCheck a s2

def execHeadLock (a l : Fin 2) (s : State) : Res := .next (live s (headLock a l))

/-- A head loses lock (R38): two bad wedges in a row, or four rejections in a row on the lead lane (R85). SRV and ACT act
on the loss by the lead lane (R91, R104, R106). -/
def headLockLoss (a l : Fin 2) (s : State) : State :=
  match s.laneSurf a l with
  | none => s
  | some surf =>
    let ld := l == s.lead a
    let r85 := ld && 4 ≤ (s.lane a l).rej
    if (s.lockOf surf).bad < 2 && !r85 then s
    else
      let s1 := modLane a l (fun x => { x with rej := 0, acc := 0 }) (unlockSurf surf s)
      if !ld || s.actSt a != actFollow then s1
      else if (r85 || 2 ≤ (s.srv[a]).leadMiss) && s.handoverOk a then modSrv a (fun v => { v with handover := true }) s1
      else actGo a actAcquire s1

def execHeadLockLoss (a l : Fin 2) (s : State) : Res := .next (live s (headLockLoss a l))

/-- The lead passes to the other lane at its next position word (R91). -/
def leadHandover (a : Fin 2) (s : State) : State :=
  if (s.srv[a]).handover && s.twin a then
    modSrv a (fun v => { v with handover := false, leadMiss := 0 })
      ((s.put (SRV_TWIN_LEAD a.val) (!s.flag (SRV_TWIN_LEAD a.val))).on (SRV_STAT_LEAD_SWAP a.val))
  else s

def execLeadHandover (a : Fin 2) (s : State) : Res := .next (live s (leadHandover a))

/-! ### Position words (R85 to R89) -/

/-- CRC-4 of polynomial x⁴ + x + 1, initial value 0, over the `n` low bits of a value, most significant first (R82). -/
def crc4 : Nat → Nat → Nat → Nat
  | 0, _, c => c
  | n + 1, v, c =>
    let top := c / 8 % 2 != v / 2 ^ n % 2
    crc4 n v ((c * 2 % 16) ^^^ (if top then 3 else 0))

/-- The sign of an integer. -/
def isign (i : Int) : Int := if i < 0 then -1 else if i = 0 then 0 else 1

/-- The fraction of a track as a ratio over 2S (R86). -/
def fracNum (n q : Int) : Int := if n.natAbs ≤ q.natAbs then n else isign n * (((n.natAbs + q.natAbs : Nat) : Int) - q.natAbs)

/-- The position of a head from its bursts, its accepted track number and its runout correction (R86), for a prediction
when there is one; `lin` is its linearisation table. -/
def positionOf (n q : Int) (t : Nat) (rro : Int) (pred : Option Int) (lin : Nat → Int) : Int :=
  let s : Nat := n.natAbs + q.natAbs
  let p := fracNum n q
  let f := roundDiv (p * 256) (2 * s)
  let i := min 31 (((p + s) * 32) / (2 * s : Nat)).toNat
  let at' (u : Int) : Int := u * 256 + f + lin i + rro
  let x := at' t
  let y := at' (t - isign p)
  match pred with
  | some e => if s < 2 * p.natAbs ∧ (y - e).natAbs < (x - e).natAbs then y else x
  | none => x

/-- The predicted position of a lane: the previous one moved by the trajectory's velocity (tracks per wedge) in MOVE. -/
def State.predPos (s : State) (a l : Fin 2) (vel : Int) : Option Int :=
  (s.lane a l).pos.map fun p => (p : Int) + (if s.raw (SRV_STAT_SEEK_STATE a.val) = 2 then vel * 256 else 0)

/-- The tolerance of R85, in tracks. -/
def State.trkTol (s : State) (a : Fin 2) (vel : Int) : Nat :=
  s.raw (SRV_CFG_TRK_TOL a.val) + (if s.raw (SRV_STAT_SEEK_STATE a.val) = 2 then ceilDiv vel.natAbs 4 else 0)

/-- The track number a lane uses, and whether it accepted the one it read (R85). -/
def State.acceptTrk (s : State) (a l : Fin 2) (t : Nat) (vel : Int) : Nat × Bool :=
  match s.predPos a l vel with
  | none => (t, true)
  | some e =>
    let u := roundDiv e 256
    if ((t : Int) - u).natAbs ≤ s.trkTol a vel then (t, true) else (u.toNat, false)

/-! ### The hardware loop (R89) -/

/-- A coefficient of the active bank, as an exact number (Q4.20). -/
def State.coef (s : State) (a : Fin 2) (i : Nat) : Rat :=
  let t := if s.flag (SRV_COEF_CTL_ACTIVE a.val) then (s.srv[a]).bank1 else (s.srv[a]).bank0
  (sgn 24 (tabLook 0 t i) : Rat) / 1048576

/-- One biquad, from its coefficients and its state: the output and the new state. -/
def biquad (b0 b1 b2 a1 a2 : Rat) (f : Biquad) (x : Rat) : Rat × Biquad :=
  let y := b0 * x + b1 * f.x1 + b2 * f.x2 - a1 * f.y1 - a2 * f.y2
  (y, { x1 := x, x2 := f.x1, y1 := y, y2 := f.y1 })

/-- A cascade of biquads whose coefficients start at `i`. -/
def State.cascade (s : State) (a : Fin 2) : Nat → List Biquad → Rat → Rat × List Biquad
  | _, [], x => (x, [])
  | i, f :: t, x =>
    let p := biquad (s.coef a i) (s.coef a (i + 1)) (s.coef a (i + 2)) (s.coef a (i + 3)) (s.coef a (i + 4)) f x
    let r := s.cascade a (i + 5) t p.1
    (r.1, p.2 :: r.2)

/-- A rational rounded to the nearest integer. -/
def roundRat (q : Rat) : Int := roundDiv q.num q.den

/-- The largest microactuator code (R110): VMAX in units of 24 V ÷ 32,768, within 16 bits. -/
def State.maMax (s : State) : Nat := min 32767 (s.raw ACT_MA_VMAX * 32768 / 240)

/-- The largest change of a microactuator code from one position word to the next (R110): SLEW over the wedge period. -/
def State.maStep (s : State) : Nat :=
  s.raw ACT_MA_SLEW * s.raw INV_PERIOD_PERIOD * 32768 / (256 * 10 * 1000 * 24)

/-- A value limited to ±m. -/
def clampAbs (m : Nat) (v : Int) : Int := max (-(m : Int)) (min v m)

/-- The code of a microactuator from the stage's output (R89): divided by the head's MA_GAIN. -/
def State.maCode (s : State) (a : Fin 2) (h : Nat) (y : Rat) : Int :=
  let g := s.raw (SRV_HEAD_CFG_MA_GAIN a.val h)
  if g = 0 then sgn 16 (Config.quotZero y.num.natAbs % 65536) else roundRat (y * 65536 / (g : Rat))

/-- Whether lane 1's microactuator is held at 0 V because a seek moves or settles (R103). -/
def State.lane1Held (s : State) (a : Fin 2) : Bool :=
  s.raw (SRV_STAT_SEEK_STATE a.val) == 2 || s.raw (SRV_STAT_SEEK_STATE a.val) == 3

/-- The microactuator stage of a lane at its position word. -/
def maStage (a l : Fin 2) (pes : Int) (s : State) : State :=
  if l = 1 ∧ s.lane1Held a then s.set (maOut a l) 0
  else
    let x := s.lane a l
    let r := s.cascade a 20 x.filt.toList (pes : Rat)
    let old := s.geti (maOut a l)
    let want := clampAbs s.maMax (s.maCode a x.sel r.1)
    let code := old + clampAbs s.maStep (want - old)
    let run := if s.maMax ≤ code.natAbs then x.limRun + 1 else 0
    let s1 := modLane a l (fun y => { y with
      limRun := run
      filt := #v[r.2.getD 0 default, r.2.getD 1 default] }) (s.setI (maOut a l) code)
    if 8 ≤ run then s1.on (SRV_STAT_MA_SAT a.val) else s1

/-- The VCM stage at the lead lane's position word; `ref` is the seek reference current in mA. -/
def vcmStage (a l : Fin 2) (pes ref : Int) (s : State) : State :=
  let x := s.lane a l
  let m : Rat := (s.geti (maOut a l) : Rat) * (s.raw (SRV_HEAD_CFG_MA_GAIN a.val x.sel) : Rat) / 65536
  let r := s.cascade a 0 (s.srv[a]).vcm.toList ((pes : Rat) + m)
  let i := roundRat r.1 + ref
  let lim := min 2000 (s.raw (ACT_VCM_ILIM_MA a.val))
  let lim' := if s.raw (SRV_STAT_SEEK_STATE a.val) = 2 ∧ (s.srv[a]).expired then
      min lim (s.raw (SRV_PROF_W0_IPK_MA a.val 0)) else lim
  modAct a (fun y => { y with base := clampAbs lim' i, vcm := clampAbs lim' (i + s.shockFf a) })
    (modSrv a (fun v => { v with
      vcm := #v[r.2.getD 0 default, r.2.getD 1 default, r.2.getD 2 default, r.2.getD 3 default] }) s)

/-- Exchange the coefficient banks (R90): the filter state is kept. -/
def coefExchange (a : Fin 2) (s : State) : State :=
  ((s.put (SRV_COEF_CTL_ACTIVE a.val) (!s.flag (SRV_COEF_CTL_ACTIVE a.val))).on (SRV_COEF_CTL_LOADED a.val)).off
    (SRV_COEF_CTL_SWAP a.val)

/-- A pending exchange takes effect at the lead position word (R90). -/
def coefAtWord (a l : Fin 2) (s : State) : State :=
  if l = s.lead a ∧ s.flag (SRV_COEF_CTL_SWAP a.val) then coefExchange a s else s

/-- The loop runs at every position word while ACT is in FOLLOW (R89). -/
def servoLoop (a l : Fin 2) (pes ref : Int) (s : State) : State :=
  let s0 := coefAtWord a l s
  if s0.actSt a = actFollow then
    let s1 := maStage a l pes s0
    if l = s1.lead a then vcmStage a l pes ref s1 else s1
  else s0

/-- QCH_PES_LIM of an actuator. -/
def State.pesLim (s : State) (a : Fin 2) : Nat :=
  if a.val = 0 then s.raw QCH_PES_LIM_LIM_A else s.raw QCH_PES_LIM_LIM_B

/-- Quench compares the PES of a lane whose channel is write-active (R87). -/
def pesQuench (a l : Fin 2) (pes : Int) (s : State) : State :=
  let bad := s.laneWrites a l && s.pesLim a < pes.natAbs
  let s1 := pesCount a l (setCond 0 bad a (modLane a l (fun x => { x with wordOk := !(s.pesLim a < pes.natAbs) }) s))
  if bad then quenchAct 0 (pes < 0) a s1 else s1

/-- The word of a wedge without bursts (S = 0, R86). -/
def wordInvalid (a l : Fin 2) (s : State) : State :=
  settleCount a l false (pesCount a l (modLane a l (fun x => { x with wordOk := false })
    (coefAtWord a l (s.off (SRV_PES_VALID a.val l.val)))))

/-- Count an accepted or a rejected track number (R85). -/
def trkCount (a l : Fin 2) (ok : Bool) (s : State) : State :=
  let s1 := modLane a l (fun x => if ok then { x with acc := x.acc + 1, rej := 0 } else { x with acc := 0, rej := x.rej + 1 }) s
  if ok then s1 else s1.on (SRV_STAT_TRK_IMPL a.val)

/-- SRV_TWIN_OFS at a position word of lane 1 (R94). -/
def twinOfs (a l : Fin 2) (s : State) : State :=
  if l = 1 ∧ s.twin a then
    s.setI (SRV_TWIN_OFS_OFS a.val) ((s.raw (SRV_POS_POS a.val 1) : Int) - s.raw (SRV_POS_POS a.val 0))
  else s

/-- A lane completes its position word (R85 to R87): the bursts `ba` to `bd`, the Gray number `t`, the RRO field, and the
velocity and reference current of the trajectory. -/
def positionWord (a l : Fin 2) (ba bb bc bd t rro : Nat) (vel ref : Int) (s : State) : State :=
  let n : Int := (ba : Int) - bb
  let q : Int := (bc : Int) - bd
  let x := s.lane a l
  if !(s.demod a l) || x.settling || !x.found then s
  else if n = 0 ∧ q = 0 then wordInvalid a l s
  else
    let rroOk := crc4 12 (bits rro 4 12) 0 == rro % 16
    let r := s.acceptTrk a l (t % 2 ^ 24) vel
    let pos := positionOf n q r.1 (if rroOk then sgn 12 (bits rro 4 12) else 0) (s.predPos a l vel)
      (fun i => s.geti (SRV_LIN_CORR a.val x.sel i))
    let pes := satInt 16 ((s.raw (SRV_TGT_TARGET a.val l.val) : Int) - pos)
    let s1 := trkCount a l r.2 (modLane a l (fun y => { y with pos := some pos.toNat }) s)
    let s2 := (((s1.setI (SRV_POS_POS a.val l.val) pos).setI (SRV_PES_PES a.val l.val) pes).set
      (SRV_PES_WEDGE a.val l.val) x.idx).put (SRV_PES_VALID a.val l.val) rroOk
    let good := pes.natAbs ≤ s.raw (SRV_PROF_W1_SETTLE_LIM a.val (s.srv[a]).prof)
    let s3 := settleCount a l good (servoLoop a l pes ref (pesQuench a l pes (twinOfs a l s2)))
    if l = 0 then acquireCheck a s3 else s3

def execPositionWord (a l : Fin 2) (ba bb bc bd t rro : Nat) (vel ref : Int) (s : State) : Res :=
  .next (live s (positionWord a l ba bb bc bd t (rro % 65536) vel ref))

/-- A write of SRV_COEF_CTL.SWAP (R90): at once while no lead position word is due. -/
def coefSwap (a : Fin 2) (s : State) : State :=
  let st := s.actSt a
  if st = actAcquire ∨ st = actFollow then s.on (SRV_COEF_CTL_SWAP a.val) else coefExchange a s

def execCoefSwap (a : Fin 2) (s : State) : Res := .next (live s (coefSwap a))

/-! ### Preamp frames and head selects (R96 to R100) -/

/-- Setting SRV_CFG.EN reads the ID and sends MODE sleep (R98). -/
def servoEnable (a : Fin 2) (s : State) : State :=
  if s.flag (SRV_CFG_EN a.val) then s
  else
    modeFrame a .modeSleep 0
      (paOffer a { kind := .idRead, rd := true, addr := s.raw (SRV_PA_MAP_ID_ID a.val), data := 0 }
        (modSrv a (fun v => { v with noPreamp := false }) (s.on (SRV_CFG_EN a.val))))

def execServoEnable (a : Fin 2) (s : State) : Res := .next (live s (servoEnable a))

/-- Clearing SRV_CFG.EN stops demodulation and drops the actuator's head locks (R38). -/
def servoDisable (a : Fin 2) (s : State) : State := laneDrop a 1 (laneDrop a 0 (s.off (SRV_CFG_EN a.val)))

def execServoDisable (a : Fin 2) (s : State) : Res := .next (live s (servoDisable a))

/-- What the end of a frame does to its source; `data` is what a read returned. -/
def frameEffect (a : Fin 2) (f : PaFrame) (data : Nat) (s : State) : State :=
  match f.kind with
  | .faultRead =>
    let s1 := (s.set (SRV_PA_FAULT_CAUSE a.val) data).on (SRV_STAT_PA_FAULT a.val)
    patTrig 9 (s1.srvDetail a) s1
  | .idRead => modSrv a (fun v => { v with noPreamp := data % 256 == 0 || data % 256 == 255 }) s
  | .headSelect l =>
    modLane a l (fun x => { x with sel := f.data, settling := true, zeroing := false, found := false, foundPrev := false })
      (laneDrop a l s)
  | .modeActive =>
    if s.actSt a = actLoading ∧ (s.act[a]).modeWait then modAct a (fun x => { x with clamp := false, modeWait := false }) s
    else s
  | .modeIdle | .modeSleep => s
  | .command =>
    let s1 := s.on (SRV_PA_RESP_DONE a.val)
    if f.rd then s1.set (SRV_PA_RESP_DATA a.val) data
    else if f.addr = s.raw (SRV_PA_MAP_FAULT a.val) ∧ f.data = 255 then
      { s1 with pins := { s1.pins with paFault := s1.pins.paFault.set a false } }
    else s1
  | .temper ch final => if final then (s.onBit TPR_STAT_READY ch.val).off (TPR_SEL_SEND ch.val) else s

/-- A frame ends (R99): a place frees, waiting frames enter, and the next one starts. -/
def preampFrameDone (a : Fin 2) (data : Nat) (s : State) : State :=
  let s0 := framesSettle a s
  match (s0.srv[a]).sending with
  | none => s0
  | some f =>
    let s1 := frameEffect a f data (modSrv a (fun v => { v with sending := none }) s0)
    framesSettle a (paRefill a 16 s1)

def execPreampFrameDone (a : Fin 2) (data : Nat) (s : State) : Res :=
  .next (live s (preampFrameDone a (data % 256)))

/-- A write of SRV_PA_CMD with GO. -/
def paCmdGo (a : Fin 2) (v : Nat) (s : State) : State :=
  if s.flag (SRV_PA_CMD_GO a.val) then s
  else
    let s1 := (((s.set (SRV_PA_CMD_RD a.val) (bits v 16 1)).set (SRV_PA_CMD_ADDR a.val) (bits v 8 7)).set
      (SRV_PA_CMD_DATA a.val) (bits v 0 8)).on (SRV_PA_CMD_GO a.val)
    paOffer a { kind := .command, rd := bitOf v 16, addr := bits v 8 7, data := bits v 0 8 } s1

def execPaCmdGo (a : Fin 2) (v : Word) (s : State) : Res := .next (live s (paCmdGo a v.toNat))

/-- The HSEL field of a lane. -/
def hselFld (a l : Fin 2) : Fld := if l = 0 then SRV_HSEL_HEAD0 a.val else SRV_HSEL_HEAD1 a.val

/-- The address of a lane's HSEL function. -/
def State.hselAddr (s : State) (a l : Fin 2) : Nat :=
  if l = 0 then s.raw (SRV_PA_MAP_HSEL0 a.val) else s.raw (SRV_PA_MAP_HSEL1 a.val)

/-- One lane's select: refused under R98 and R99, or queued. -/
def selectLane (a l : Fin 2) (h : Nat) (clash : Bool) (s : State) : State :=
  if h = s.raw (hselFld a l) then s
  else if (s.srv[a]).noPreamp || clash || (l = 1 && !s.flag (SRV_PA_CFG_DUAL a.val)) then s.on (SRV_STAT_HS_REFUSED a.val)
  else
    let s1 := s.set (hselFld a l) h
    paOffer a { kind := .headSelect l, rd := false, addr := s.hselAddr a l, data := s1.get (hselFld a l) } s1

/-- A write of SRV_HSEL: a frame for each field that changes; one head on both channels is refused. -/
def headSelect (a : Fin 2) (v : Nat) (s : State) : State :=
  let h0 := bits v 0 4
  let h1 := bits v 8 4
  let clash := h0 == h1 && h0 < 10
  selectLane a 1 h1 clash (selectLane a 0 h0 clash s)

def execHeadSelect (a : Fin 2) (v : Word) (s : State) : Res := .next (live s (headSelect a v.toNat))

/-- HS_SETTLE ticks pass after a head select (R100). -/
def execHsSettleDone (a l : Fin 2) (s : State) : Res :=
  .next (live s (modLane a l fun x => { x with settling := false }))

/-- Px_FLT# asserts (R103). -/
def preampFault (a : Fin 2) (s : State) : State :=
  let s1 := quenchAct 3 false a { s with pins := { s.pins with paFault := s.pins.paFault.set a true } }
  paOffer a { kind := .faultRead, rd := true, addr := s.raw (SRV_PA_MAP_FAULT a.val), data := 0 } s1

def execPreampFault (a : Fin 2) (s : State) : Res := .next (live s (preampFault a))

/-! ### Shock (R92) -/

/-- Whether a sample is beyond QCH_SHOCK (R92). -/
def State.shockBeyond (s : State) (x y z r : Int) : Bool :=
  s.raw QCH_SHOCK_LIN_TH < x.natAbs || s.raw QCH_SHOCK_LIN_TH < y.natAbs || s.raw QCH_SHOCK_LIN_TH < z.natAbs ||
  s.raw QCH_SHOCK_ROT_TH < r.natAbs

/-- Show a sample on both pages. -/
def shockShow (a : Nat) (x y z r : Int) (s : State) : State :=
  (((s.setI (SRV_SHOCK_NOW_X a) x).setI (SRV_SHOCK_NOW_Y a) y).setI (SRV_SHOCK_NOW_Z a) z).setI (SRV_SHOCK_NOW_ROT a) r

/-- The shock sensor is sampled. A sample outside ±2 counts on a linear axis re-arms free-fall detection. -/
def shockSample (x y z r : Int) (s : State) : State :=
  let bad := s.shockBeyond x y z r
  let calm := x.natAbs ≤ 2 && y.natAbs ≤ 2 && z.natAbs ≤ 2
  let s1 := shockShow 1 x y z r (shockShow 0 x y z r s)
  let s2 := { s1 with
    shock := { fell := s1.shock.fell && calm, calm }
    inv := { s1.inv with shockBad := s1.inv.shockBad || bad } }
  let s3 := setCond 2 bad 1 (setCond 2 bad 0 s2)
  if bad then quenchBoth 2 s3 else s3

def execShockSample (x y z r : BitVec 8) (s : State) : Res :=
  .next (live s (shockSample x.toInt y.toInt z.toInt r.toInt))

/-- FALL_MS of samples within ±2 counts, seen first by page `a`. -/
def freefall (a : Fin 2) (s : State) : State :=
  if s.flag (SRV_SHOCK_FALL_EN a.val) && s.shock.calm && !s.shock.fell then
    let s1 := quenchReq 1 (quenchReq 0 { s with shock := { s.shock with fell := true } })
    let s2 := if s1.actUp 0 then unloadUp 0 s1 else s1
    let s3 := if s2.actUp 1 then unloadUp 1 s2 else s2
    let s4 := (s3.on (SRV_STAT_FREEFALL 0)).on (SRV_STAT_FREEFALL 1)
    patTrig 12 (s4.srvDetail a) s4
  else s

def execFreefallDetect (a : Fin 2) (s : State) : Res := .next (live s (freefall a))

/-! ### Seeks (R104, R105) -/

/-- Request the permit of profile `p` (R105); a grant at once starts the trajectory. -/
def seekAsk (a : Fin 2) (p : Nat) (s : State) : State :=
  let s1 := modSrv a (fun v => { v with prof := p }) (s.set (SRV_STAT_SEEK_STATE a.val) 1)
  (bulRequest (seekSlot a) 0 (s.raw (SRV_PROF_W0_IPK_MA a.val p)) (s.raw (SRV_PROF_W1_DUR_WEDGES a.val p))
    (s.raw (SRV_SEEK_GRANT_WAIT a.val)) s1).1

/-- Start with a profile: profile 0 needs no permit. -/
def seekBegin (a : Fin 2) (p : Nat) (s : State) : State :=
  if p = 0 then modSrv a (fun v => { v with prof := 0 }) (s.set (SRV_STAT_SEEK_STATE a.val) 2) else seekAsk a p s

/-- A write of SRV_SEEK with GO (R104). -/
def seekGo (a : Fin 2) (v : Nat) (s : State) : State :=
  if s.raw (SRV_STAT_SEEK_STATE a.val) ≠ 0 then s
  else
    let s1 := (s.set (SRV_SEEK_PROFILE a.val) (bits v 16 4)).set (SRV_SEEK_GRANT_WAIT a.val) (bits v 8 8)
    if s1.actSt a ≠ actFollow ∨ s1.wrActive a then s1.on (SRV_STAT_SEEK_REFUSED a.val)
    else
      seekBegin a (bits v 16 4)
        (modSrv a (fun x => { x with seekAt := s.ticks, expired := false }) (s1.on (SRV_SEEK_GO a.val)))

def execSeekGo (a : Fin 2) (v : Word) (s : State) : Res := .next (live s (seekGo a v.toNat))

/-- GRANT_WAIT wedges pass in REQ without a grant. -/
def seekGrantTimeout (a : Fin 2) (s : State) : State :=
  if s.raw (SRV_STAT_SEEK_STATE a.val) = 1 then
    seekBegin a (s.raw (SRV_PROF_W0_FALLBACK a.val (s.srv[a]).prof))
      (bulRelease (seekSlot a) (s.on (SRV_STAT_GRANT_FALLBACK a.val)))
  else s

def execSeekGrantTimeout (a : Fin 2) (s : State) : Res := .next (live s (seekGrantTimeout a))

/-- The trajectory ends. -/
def trajectoryEnd (a : Fin 2) (s : State) : State :=
  if s.raw (SRV_STAT_SEEK_STATE a.val) = 2 then
    modSrv a (fun v => { v with settleRun := 0, settleCnt := 0 }) (s.set (SRV_STAT_SEEK_STATE a.val) 3)
  else s

def execTrajectoryEnd (a : Fin 2) (s : State) : Res := .next (live s (trajectoryEnd a))

/-- SETTLE_N of the seek's profile. -/
def State.settleN (s : State) (a : Fin 2) : Nat := s.raw (SRV_PROF_W1_SETTLE_N a.val (s.srv[a]).prof)

/-- SETTLE_N good lead wedges in a row complete the seek. -/
def settleDone (a : Fin 2) (s : State) : State :=
  if s.raw (SRV_STAT_SEEK_STATE a.val) = 3 ∧ s.settleN a ≤ (s.srv[a]).settleRun then
    let s1 := ((s.set (SRV_STAT_SEEK_STATE a.val) 0).off (SRV_SEEK_GO a.val)).on (SRV_STAT_SEEK_DONE a.val)
    bulRelease (seekSlot a) (s1.set (SRV_SEEK_TIME_WEDGES a.val) (sat 16 ((s.ticks - (s.srv[a]).seekAt) / 4096)))
  else s

def execSeekSettleDone (a : Fin 2) (s : State) : Res := .next (live s (settleDone a))

/-- SETTLE_N + 64 wedges pass without that. -/
def settleTimeout (a : Fin 2) (s : State) : State :=
  if s.raw (SRV_STAT_SEEK_STATE a.val) = 3 ∧ s.settleN a + 64 ≤ (s.srv[a]).settleCnt then seekFail a s else s

def execSeekSettleTimeout (a : Fin 2) (s : State) : Res := .next (live s (settleTimeout a))

end Sys2Proof.Machine
end

