-- ==== Sys2Proof/Machine/Bullion.lean ====
section
/-!
DEFINITION. Bullion's commands (R305 to R312): requests and releases, deadlines, expiries, leases. The accounts and the
walk are in `Permit.lean`.
-/
namespace Sys2Proof.Machine

/-! ### Time under R441 -/

/-- The count of R441 runs on to `n`: by angle, firing what it reaches, or by wall-counter time while SRC is 00b. -/
def elapseTo (n : Nat) (s : State) : State :=
  if n ≤ s.ticks then s
  else if s.raw INV_SRC_SRC = srcNone then wallTicks (n - s.ticks) s
  else runTo (stampTicks s.wedges s.inv.now + (n - s.ticks)) s

/-! ### Requests and releases (R305) -/

/-- Whether a requester may use a slot (R304): slot 0 the SPIN role, 3 to 6 the channel-format roles, 21 to 23 any role or
core. -/
def slotOpen (r : Req) (k : Nat) : Bool :=
  match r with
  | .role n => (k == 0 && n.val == 6) || (3 ≤ k && k ≤ 6 && n.val == k - 3) || (21 ≤ k && k ≤ 23)
  | .core _ => 21 ≤ k && k ≤ 23
  | .mailbox | .host => false

/-- A grant on slot 0 is over: Bullion clears SPN_CTL.PERMIT (R310). -/
def spinEnd (k : Fin 24) (s : State) : State := if k.val = 0 then permitChange false s else s

/-- Withdraw or end a slot's request or grant on request; the end of slot 0 clears the spin permit. -/
def slotRelease (k : Fin 24) (s : State) : State :=
  if s.granted k then spinEnd k (bulRelease k s) else bulRelease k s

/-- A write of BUL_RQ_W1 (R305): the staged W0 names the slot, the amounts and RELEASE. -/
def permitCommit (r : Req) (w1 : Nat) (s : State) : State :=
  let s0 := (s.set (BUL_RQ_W1_DUR.of r) (bits w1 16 16)).set (BUL_RQ_W1_DL.of r) (bits w1 0 16)
  let k := s0.raw (BUL_RQ_W0_SLOT.of r)
  let p : State × Nat :=
    if h : k < 24 then
      if !slotOpen r k then (s0, 2)
      else if s0.flag (BUL_RQ_W0_RELEASE.of r) then (slotRelease ⟨k, h⟩ s0, 5)
      else if bits w1 16 16 = 0 then (s0, 3)
      else bulRequest ⟨k, h⟩ (s0.raw (BUL_RQ_W0_I5_MA.of r)) (s0.raw (BUL_RQ_W0_I12_MA.of r)) (bits w1 16 16)
        (bits w1 0 16) s0
    else (s0, 2)
  (p.1.set (BUL_RQ_RESP_RESULT.of r) p.2).on (BUL_RQ_RESP_DONE.of r)

def execPermitRequest (r : Req) (w1 : Word) (s : State) : Res := .next (live s (permitCommit r w1.toNat))

/-- A request with RELEASE: W0 names the slot, and the write of W1 commits it. -/
def permitRelease (r : Req) (k : Nat) (s : State) : State :=
  permitCommit r 0 ((s.on (BUL_RQ_W0_RELEASE.of r)).set (BUL_RQ_W0_SLOT.of r) k)

def execPermitRelease (r : Req) (k : Fin 32) (s : State) : Res := .next (live s (permitRelease r k.val))

/-- A waiting request's deadline passes (R306): it blocks, and requests behind it on its rails wait. -/
def requestDeadline (k : Fin 24) (s : State) : State :=
  match (s.bul.slots[k]).wait with
  | none => s
  | some w =>
    if w.blocking then s
    else
      let s1 := elapseTo w.dl s
      patTrig 39 k.val ((setWait k (some { w with blocking := true }) s1).on BUL_STAT_DEADLINE)

def execRequestDeadline (k : Fin 24) (s : State) : Res := .next (live s (requestDeadline k))

/-- How the holder of slot `k` meets the lapse of its grant: Babbitt loses its permit (R310), a seek limits its trajectory
to the tracking current (R104). An engine, decoder, vault or port stops at its next permit check. -/
def onLapse (k : Fin 24) (s : State) : State :=
  match k.val with
  | 0 => permitChange false s
  | 1 => modSrv 0 (fun v => { v with expired := true }) s
  | 2 => modSrv 1 (fun v => { v with expired := true }) s
  | _ => s

/-- A grant ends unreleased (R307); then Bullion walks. -/
def grantExpiry (k : Fin 24) (s : State) : State :=
  match (s.bul.slots[k]).grant with
  | none => s
  | some g =>
    let s1 := elapseTo g.endAt s
    bulWalk (onLapse k ((setGrant k none s1).on BUL_STAT_EXPIRED))

def execGrantExpiry (k : Fin 24) (s : State) : Res := .next (live s (grantExpiry k))

/-- Whether a hardware requester has work for its permit (R202, R158, R267, R258, R377); the seeks and the roles release
their own. -/
def State.permitWork (s : State) (k : Nat) : Bool :=
  if 7 ≤ k ∧ k ≤ 12 then (s.deep.run.toList.getD (k - 7) none).isSome
  else if k = 13 then (s.cmp.eng[0]).run.isSome || !(s.cmp.eng[0]).queue.isEmpty
  else if k = 14 then (s.cmp.eng[1]).run.isSome || !(s.cmp.eng[1]).queue.isEmpty
  else if k = 15 then s.vlt.queue.any fun c => c.op != 1
  else if k = 16 then (List.range 32).any fun c => s.flag (BUF_DMA_CTL_GO c) && 16384 < s.raw (BUF_DMA_LEN_BLOCKS c)
  else if h : 17 ≤ k ∧ k ≤ 20 then
    let v := s.sld.ports[k - 17]
    v.queue.any s.ownData || v.replay.any fun e => s.ownData e.2
  else k < 17

/-- A hardware requester idle for one wedge releases its permit (R202). -/
def permitIdleRelease (k : Fin 24) (s : State) : State :=
  s.when (s.granted k && 7 ≤ k.val && k.val ≤ 20 && !s.permitWork k.val) (bulRelease k)

def execPermitIdleRelease (k : Fin 24) (s : State) : Res := .next (live s (permitIdleRelease k))

/-- A hardware requester that still has work renews its permit before its grant ends (R202, R307). -/
def permitRenew (k : Fin 24) (s : State) : State :=
  match (s.bul.slots[k]).grant with
  | some g => if 7 ≤ k.val ∧ k.val ≤ 20 ∧ s.permitWork k.val then (bulRequest k g.i5 g.i12 64 64 s).1 else s
  | none => s

/-! ### Leases (R311, R312) -/

/-- Whether a lease out of `ma` in entry `k` is refused (R312). -/
def State.leaseRefused (s : State) (k ma : Nat) : Bool :=
  let old := if s.flag (BUL_LEASE_W0_VALID k) && s.flag (BUL_LEASE_W0_OUT k) then s.raw (BUL_LEASE_W0_MA k) else 0
  !s.flag BUL_CTL_LEASE_EN || s.raw BUL_LEASE_CFG_LEND_MAX < s.leaseSum true - old + ma ||
  s.budget12 - s.inUse12 < ma

/-- A write of BUL_LEASEk_W0 with the END word of W1 in place. A refused lease out leaves VALID 0b. A budget that rises
makes Bullion walk. -/
def leaseWrite (k : Nat) (w0 : Nat) (s : State) : State :=
  let v := bitOf w0 31
  let out := bitOf w0 30
  let ma := bits w0 0 12
  let b := s.budget12
  let ok := !(v && out && s.leaseRefused k ma)
  let s1 := (((s.put (BUL_LEASE_W0_VALID k) (v && ok)).put (BUL_LEASE_W0_OUT k) out).set (BUL_LEASE_W0_PEER k)
    (bits w0 16 9)).set (BUL_LEASE_W0_MA k) ma
  if b < s1.budget12 then bulWalk s1 else s1

def execLeaseWrite (k : Fin 16) (w0 w1 : Word) (s : State) : Res :=
  .next (live s fun s => leaseWrite k.val w0.toNat (s.set (BUL_LEASE_W1_END k.val) w1.toNat))

/-- The wall counter at which a lease ends (R311): END less the guard for a lease in, END plus the guard for one out. -/
def State.leaseEndAt (s : State) (k : Nat) : Nat :=
  let e := s.raw (BUL_LEASE_W1_END k) * 65536
  let g := s.raw BUL_LEASE_CFG_GUARD * 10000
  if s.flag (BUL_LEASE_W0_OUT k) then e + g else e - g

/-- A lease reaches its end (R311): VALID clears, and LEASE_END sets; a lease out that ends raises the budget. -/
def leaseEnd (k : Nat) (s : State) : State :=
  if s.flag (BUL_LEASE_W0_VALID k) then
    let s1 := ((s.off (BUL_LEASE_W0_VALID k)).on BUL_STAT_LEASE_END)
    let s2 := { s1 with inv := { s1.inv with wall := max s1.inv.wall (s.leaseEndAt k) } }
    if s.flag (BUL_LEASE_W0_OUT k) then bulWalk s2 else s2
  else s

def execLeaseEnd (k : Fin 16) (s : State) : Res := .next (live s (leaseEnd k.val))

/-- A write of BUL_BUDGET (R306, R308): a rise makes Bullion walk; a fall revokes nothing. -/
def budgetWrite (f : Fld) (v : Nat) (s : State) : State :=
  let s1 := s.set f v
  if s.budget12 < s1.budget12 || s.budget5 < s1.budget5 then bulWalk s1 else s1

/-! ### Emergency (R315) -/

/-- Every grant is revoked: its holder meets a lapse, and no walk follows while the emergency lasts. -/
def revokeAll (s : State) : State :=
  (List.finRange 24).foldl (fun t k => if t.granted k then onLapse k (setGrant k none t) else t) s

/-- An emergency with the mask of its causes (R445): Quench trigger 101b on both actuators, every grant revoked, EMERG, and
OC when over-current raised it. -/
def emergency (causes : Nat) (s : State) : State :=
  let s1 := quenchBoth 5 (s.on BUL_STAT_EMERG)
  let s2 := revokeAll s1
  patTrig 38 causes (if bitOf causes 2 then s2.on BUL_STAT_OC else s2)

/-- The causes of an emergency present now. -/
def State.emergCauses (s : State) : Nat := b2n s.pwr.reset12 + 2 * b2n s.pwr.reset5 + 4 * b2n s.pwr.oc

def execEmergencyWrite (s : State) : Res := .next (live s fun s => emergency (s.emergCauses + 8) s)

/-- Clearing BUL_STAT.EMERG (R315): discarded while its cause persists; then Bullion walks. -/
def emergencyClear (s : State) : State :=
  if s.emergCauses ≠ 0 then s else bulWalk (s.off BUL_STAT_EMERG)

def execEmergencyClear (s : State) : Res := .next (live s emergencyClear)

/-- VIN12 current above OC12_MA for OC_US without a break (R315); `present` says whether it is above the level now. -/
def overCurrent (present : Bool) (s : State) : State :=
  let s1 := { s with pwr := { s.pwr with oc := present } }
  if present && !s.pwr.oc then emergency s1.emergCauses s1 else s1

def execOverCurrent (present : Bool) (s : State) : Res := .next (live s (overCurrent present))

end Sys2Proof.Machine
end

