-- ==== Sys2Proof/Machine/Clock.lean ====
section
/-!
DEFINITION. CLK (R327 to R340): sources, PLLs and synthesizers, the monitors and what follows a failure, domain switches
and gating.
-/
namespace Sys2Proof.Machine

/-- Change CLK's hidden part. -/
def modClk (f : Clk → Clk) (s : State) : State := { s with clk := f s.clk }

/-- The fields of CLK_STAT, which Patina's triggers 44 to 47 carry. -/
def clkStatFields : List Fld :=
  [CLK_STAT_SW_REFUSED, CLK_STAT_ACC_TO, CLK_STAT_CHSYN_UNLOCK, CLK_STAT_REF_FAIL, CLK_STAT_SRC_FAIL, CLK_STAT_FRC_FAIL,
   CLK_STAT_PLL_FAIL, CLK_STAT_MXO_FAIL, CLK_STAT_COAST, CLK_STAT_CLK_FAIL]

/-- A CLK trigger of Patina, with CLK_STAT as its DETAIL (R359). -/
def clkPat (i : Nat) (s : State) : State := patTrig i (s.pack clkStatFields) s

/-! ### Sources (R327, R328) -/

/-- Source bits of CLK_SRC_STAT. -/
abbrev srcMxo : Nat := 0
/-- Fast RC. -/
abbrev srcFrc : Nat := 1
/-- Slow RC. -/
abbrev srcSrc : Nat := 2

/-- A source has run its 65,536 cycles (R327): it is stable, and runs without a failure. MXO moves WALL to itself and
clears WALL_DEGRADED (R328). -/
def sourceStable (k : Fin 5) (s : State) : State :=
  let s1 := modClk (fun c => { c with bad := c.bad.set k false, failed := c.failed.set k false })
    ((s.onBit CLK_SRC_STAT_STABLE k.val).onBit CLK_SRC_STAT_RUN k.val)
  if k.val = srcMxo ∧ s1.raw (CLK_MUX_SEL 3) = 3 then
    modClk (fun c => { c with cur := c.cur.set 3 2 }) ((s1.set (CLK_MUX_SEL 3) 2).off INV_WTMR_STAT_WALL_DEGRADED)
  else s1

/-- While the main die is held before its release, only FRC's stability counts (R403). -/
def execSourceStable (k : Fin 5) (s : State) : Res :=
  .next (if s.die.phase = .running ∨ s.die.phase = .rom then sourceStable k s
    else if k.val = srcFrc ∧ s.die.phase ≠ .off then { s with die := { s.die with frc := true } } else s)

/-! ### Domains (R334 to R336) -/

/-- The SEL codes R334 lists for a domain. -/
def muxSources (d : Nat) : List Nat :=
  if d < 2 then [0, 1] else if d = 3 then [2, 3] else [1, 7]

/-- The SEL a domain acts on: one that R334 does not list for it is reserved and acts as the reset value (R11). -/
def State.muxSel (s : State) (d : Nat) : Nat :=
  let v := s.raw (CLK_MUX_SEL d)
  if (muxSources d).contains v then v else (CLK_MUX_SEL d).rst

/-- Whether the clock a SEL code names for a domain runs, and is locked when it is a PLL or a synthesizer. -/
def State.clockOk (s : State) (d sel : Nat) : Bool :=
  match sel with
  | 0 | 3 => s.bit CLK_SRC_STAT_RUN srcFrc
  | 1 => s.bit CLK_SRC_STAT_LOCK (if d < 2 then 0 else if d = 2 then 1 else d - 2)
  | 2 => s.bit CLK_SRC_STAT_RUN srcMxo
  | _ => true

/-- Domain `d` runs from its SEL, or stands when that clock does not run. -/
def muxLand (d : Fin 8) (s : State) : State :=
  modClk (fun c => { c with cur := c.cur.set d (s.muxSel d.val), halted := c.halted.set d (s.muxSel d.val == 7) })
    (s.off (CLK_MUX_BUSY d.val))

/-- A write of CLK_MUXd.SEL (R335): discarded when the clock named does not run; otherwise the switch starts, and hangs
when the old clock has stopped. -/
def muxWrite (d : Fin 8) (sel : Nat) (s : State) : State :=
  let s1 := s.set (CLK_MUX_SEL d.val) sel
  if !s1.clockOk d.val (s1.muxSel d.val) then s.on CLK_STAT_SW_REFUSED
  else
    let s2 := s1.on (CLK_MUX_BUSY d.val)
    if s2.clockOk d.val (s2.clk.cur[d]) then s2 else modClk (fun c => { c with halted := c.halted.set d true }) s2

def execClockSwitch (d : Fin 8) (sel : Fin 8) (s : State) : Res := .next (live s (muxWrite d sel.val))

/-- The switch completes, which takes the old clock as well as the new one. -/
def muxDone (d : Fin 8) (s : State) : State :=
  s.when (s.flag (CLK_MUX_BUSY d.val) && s.clockOk d.val (s.clk.cur[d]) && s.clockOk d.val (s.muxSel d.val)) (muxLand d)

def execClockSwitchDone (d : Fin 8) (s : State) : Res := .next (live s (muxDone d))

/-- A write of CLK_FORCE (R336). -/
def muxForce (v : Nat) (s : State) : State :=
  (List.finRange 8).foldl (fun t d => if bitOf v d.val then muxLand d t else t) s

def execForcedSwitch (v : BitVec 8) (s : State) : Res := .next (live s (muxForce v.toNat))

/-- CLK forces CORE and BUS onto FRC; a firmware switch that was BUSY is cancelled without a flag (R332, R337). -/
def forceFrc (s : State) : State := muxLand 1 (muxLand 0 ((s.set (CLK_MUX_SEL 0) 0).set (CLK_MUX_SEL 1) 0))

/-! ### PLLs and synthesizers (R329, R330) -/

/-- Setting CLK_PLLp.EN starts the PLL; it locks later. Clearing it stops the PLL. -/
def pllWrite (p : Fin 2) (en : Bool) (s : State) : State :=
  if en then s.on (CLK_PLL_EN p.val)
  else (((s.off (CLK_PLL_EN p.val)).off (CLK_PLL_LOCK p.val)).off (CLK_PLL_COASTING p.val)).offBit CLK_SRC_STAT_LOCK p.val

def execPllEnable (p : Fin 2) (s : State) : Res := .next (live s (pllWrite p true))

/-- Whether the reference of the PLLs and the synthesizers runs: MXO, or FRC ÷ 8 after R332. -/
def State.refRuns (s : State) : Bool := s.bit CLK_SRC_STAT_RUN (if s.clk.refFrc then srcFrc else srcMxo)

/-- Lock `i` of CLK_SRC_STAT is achieved: 0 SYS PLL, 1 DDR PLL, 2 to 5 the synthesizers. The condition of a synthesizer's
Quench request is then gone (R440). -/
def pllLock (i : Fin 6) (s : State) : State :=
  if i.val < 2 then
    if s.flag (CLK_PLL_EN i.val) && s.refRuns then
      (((s.on (CLK_PLL_LOCK i.val)).off (CLK_PLL_COASTING i.val)).onBit CLK_SRC_STAT_LOCK i.val)
    else s
  else
    let n := i.val - 2
    if s.flag (CLK_CHSYN_EN n) && s.refRuns then
      let s1 := (s.on (CLK_CHSYN_LOCK n)).onBit CLK_SRC_STAT_LOCK i.val
      { s1 with qch := { s1.qch with clkHold := if h : n < 4 then s1.qch.clkHold.set n false else s1.qch.clkHold } }
    else s

def execPllLock (i : Fin 6) (s : State) : Res := .next (live s (pllLock i))

/-- Synthesizer n is out of lock. -/
def synthOut (n : Fin 4) (s : State) : State := (s.off (CLK_CHSYN_LOCK n.val)).offBit CLK_SRC_STAT_LOCK (n.val + 2)

/-- A channel synthesizer loses lock (R330): trigger 111b for its actuator when the channel is write-active. -/
def synthUnlock (n : Fin 4) (s : State) : State :=
  if s.flag (CLK_CHSYN_LOCK n.val) then
    let s1 := clkPat 47 ((synthOut n s).onBit CLK_STAT_CHSYN_UNLOCK n.val)
    if s1.flag (WCH_CTL_WR_ACTIVE n.val) then
      quenchAct 7 false (actOf n) { s1 with qch := { s1.qch with clkHold := s1.qch.clkHold.set n true } }
    else s1
  else s

def execSynthUnlock (n : Fin 4) (s : State) : Res := .next (live s (synthUnlock n))

/-! ### Failures (R331 to R333) -/

/-- The PLLs of a mask coast (R329, R332). -/
def coastPlls (mask : Nat) (s : State) : State :=
  let c (p : Nat) (t : State) : State :=
    if bitOf mask p && t.flag (CLK_PLL_EN p) then
      ((t.on (CLK_PLL_COASTING p)).off (CLK_PLL_LOCK p)).offBit CLK_SRC_STAT_LOCK p
    else t
  (c 1 (c 0 s)).on CLK_STAT_COAST

/-- The Clock Fail event (R332): no register masks it. -/
def clockFail (s : State) : State := (clkPat 44 (s.on CLK_STAT_CLK_FAIL)).emit (.nmi 0)

/-- Whether a failure is handled as COAST: by its policy, and always while FRC is failed (R333). -/
def State.coasts (s : State) (pol : Fld) : Bool := s.flag pol || s.clk.failed[1]

/-- A PLL out of lock for 1 µs (R331) fails. -/
def pllUnlock (p : Fin 2) (s : State) : State :=
  if s.flag (CLK_PLL_LOCK p.val) then
    let s1 := ((s.off (CLK_PLL_LOCK p.val)).offBit CLK_SRC_STAT_LOCK p.val).on CLK_STAT_PLL_FAIL
    if s1.coasts CLK_CTL_POL_PLL then coastPlls (2 ^ p.val) s1 else clockFail (forceFrc s1)
  else s

def execPllUnlock (p : Fin 2) (s : State) : Res :=
  .next (live s fun s => s.when (s.flag CLK_CTL_MON_EN) (pllUnlock p))

/-- MXO fails (R332): the wall counter goes on from FRC (R58). Under SWITCH the references move to FRC ÷ 8 as well, and the
DDR PLL relocks. -/
def mxoFail (s : State) : State :=
  let s1 := modClk (fun c => { c with cur := c.cur.set 3 3 })
    (((s.on CLK_STAT_MXO_FAIL).set (CLK_MUX_SEL 3) 3).on INV_WTMR_STAT_WALL_DEGRADED)
  if s1.coasts CLK_CTL_POL_MXO then coastPlls 3 s1
  else
    clockFail (modClk (fun c => { c with refFrc := true })
      (forceFrc ((s1.off (CLK_PLL_LOCK 1)).offBit CLK_SRC_STAT_LOCK 1)))

/-- What follows the failure of a source. -/
def sourceFail (k : Fin 5) (s : State) : State :=
  let s1 := modClk (fun c => { c with failed := c.failed.set k true })
    ((s.offBit CLK_SRC_STAT_RUN k.val).offBit CLK_SRC_STAT_STABLE k.val)
  match k.val with
  | 0 => mxoFail s1
  | 1 => clkPat 45 (s1.on CLK_STAT_FRC_FAIL)
  | 2 => clkPat 45 (s1.on CLK_STAT_SRC_FAIL)
  | n => (clkPat 45 (s1.onBit CLK_STAT_REF_FAIL (n - 3))).off (HIF_PORT_LINK_UP (n - 3))

/-- The nominal count of a monitor, and its tolerance in percent (R331). -/
def State.monLimit (s : State) (k : Nat) : Nat × Nat :=
  match k with
  | 0 => (512, s.get CLK_CTL_TOL)
  | 1 => (4096, s.get CLK_CTL_TOL)
  | 2 => (48828, 25)
  | _ => (1024, s.get CLK_CTL_TOL)

/-- Whether a window's count fails its monitor. -/
def State.monFails (s : State) (k count : Nat) : Bool :=
  let l := s.monLimit k
  l.1 * l.2 < (max count l.1 - min count l.1) * 100

/-- A monitor's window ends with a count. While MXO is failed the monitors counted against it keep their verdict; a REFCLK
is not judged in L1.2. -/
def monitorWindow (k : Fin 5) (count : Nat) (s : State) : State :=
  let idle := !s.flag CLK_CTL_MON_EN || (k.val != 0 && s.clk.failed[0]) ||
    (3 ≤ k.val && s.hif.l12.toList.getD (k.val - 3) false)
  if idle then s
  else if s.monFails k.val count then
    if s.clk.bad[k] && !s.clk.failed[k] then sourceFail k s
    else modClk (fun c => { c with bad := c.bad.set k true }) s
  else modClk (fun c => { c with bad := c.bad.set k false }) s

def execMonitorWindow (k : Fin 5) (count : Nat) (s : State) : Res := .next (live s (monitorWindow k count))

/-! ### Gating (R338, R339) -/

/-- Blocks that are never gated (R338): SYS, INV, QCH, SRV, CLK, THM, PWR and RST. -/
def neverGated (i : Nat) : Bool := [0, 1, 2, 4, 16, 17, 15, 23].contains i

/-- A block idle for 16 cycles has its clock stopped. -/
def clockGate (i : Nat) (s : State) : State := if neverGated i then s else s.offBit CLK_GATE_STAT_BLK i

def execClockGate (i : Fin 24) (s : State) : Res := .next (live s (clockGate i.val))

/-- A write of CLK_GATE_FORCE: it holds as soon as no access to the block is pending. -/
def gateForce (v : Nat) (s : State) : State :=
  (List.range 24).foldl (fun t i => if bitOf v i && !neverGated i then t.offBit CLK_GATE_STAT_BLK i else t)
    (s.set CLK_GATE_FORCE_BLK v)

def execGateForce (v : BitVec 24) (s : State) : Res := .next (live s (gateForce v.toNat))

/-- Block `i` is held gated by a force (R339). -/
def State.forcedOff (s : State) (i : Nat) : Bool := s.bit CLK_GATE_FORCE_BLK i && !neverGated i

/-! ### Access timeouts (R340) -/

/-- An access that a block has not completed within 4 µs times out: the first one is recorded. -/
def accessTimeout (r : Req) (wr : Bool) (addr : Nat) (s : State) : State :=
  let s1 := s.on CLK_STAT_ACC_TO
  let s2 := if s1.flag CLK_TO_INFO_VALID then s1 else
    (((s1.on CLK_TO_INFO_VALID).set CLK_TO_INFO_SRC (srcOf r)).put CLK_TO_INFO_WR wr).set CLK_TO_INFO_ADDR addr
  clkPat 46 s2

def execAccessTimeout (r : Req) (wr : Bool) (addr : BitVec 25) (s : State) : Res :=
  .next (live s (accessTimeout r wr addr.toNat))

end Sys2Proof.Machine
end

