-- ==== Sys2Proof/Machine/Inflate.lean ====
section
/-!
DEFINITION. The decompressor of the DEFLATE engines: the raw format of RFC 1951 with the invalid streams of R193, as a
machine that can stop at any output byte or when its input runs out and go on later (R195, R201).
-/
namespace Sys2Proof.Machine

/-- The decompressor within a job: input bits not yet used (first first), its place (0 between blocks, 1 in a stored block,
2 fixed, 3 dynamic, 4 stream finished, R196), whether the block is the last, the bytes left of a stored block, the code
lengths (288 literal/length, then distance), the match being copied, the history (newest byte first), and the output of
the job (newest first) with its length. -/
structure Infl where
  bits : List Bool
  blk : Nat
  bfinal : Bool
  left : Nat
  lens : List Nat
  mlen : Nat
  mdist : Nat
  hist : List Nat
  out : List Nat
  n : Nat
  deriving DecidableEq, Repr, Inhabited

/-- What reading from the bits gives: a value and the bits after it, not enough bits, or an invalid stream. -/
inductive Rd (α : Type) where
  | ok (v : α) (rest : List Bool)
  | starved
  | bad

/-- Read a value, then go on with it. -/
def Rd.bind {α β : Type} (r : Rd α) (f : α → List Bool → Rd β) : Rd β :=
  match r with
  | .ok v rest => f v rest
  | .starved => .starved
  | .bad => .bad

/-- `n` bits, the first the least significant. -/
def takeBits : Nat → List Bool → Rd Nat
  | 0, l => .ok 0 l
  | _ + 1, [] => .starved
  | n + 1, b :: l => (takeBits n l).bind fun v r => .ok ((if b then 1 else 0) + 2 * v) r

/-- The bits of bytes, least significant first. -/
def byteBits (l : List Nat) : List Bool := l.flatMap fun b => (List.range 8).map fun i => b / 2 ^ i % 2 == 1

/-- The number whose bits these are, first bit least significant. -/
def bitsNat (l : List Bool) : Nat := l.foldr (fun b n => (if b then 1 else 0) + 2 * n) 0

/-- The `i`-th symbol whose code has length `len`. -/
def nthOfLen (lens : List Nat) (len i : Nat) : Option Nat := ((List.range lens.length).filter fun k => lens.getD k 0 == len)[i]?

/-- A symbol of the canonical code with these lengths (RFC 1951, 3.2.2): `code` read so far, `base` the first code of the
next length. -/
def huffGo (lens : List Nat) : (fuel len code base : Nat) → List Bool → Rd Nat
  | 0, _, _, _, _ => .bad
  | _ + 1, _, _, _, [] => .starved
  | fuel + 1, len, code, base, b :: l =>
    let c := 2 * code + (if b then 1 else 0)
    let cnt := lens.count len
    if base ≤ c ∧ c < base + cnt then
      match nthOfLen lens len (c - base) with
      | some s => .ok s l
      | none => .bad
    else huffGo lens fuel (len + 1) c ((base + cnt) * 2) l

/-- Read one symbol. -/
def huff (lens : List Nat) (l : List Bool) : Rd Nat := huffGo lens 15 1 0 0 l

/-- The Kraft sum of code lengths up to 15, in units of 2⁻¹⁵. -/
def kraft (lens : List Nat) : Nat := lens.foldl (fun n l => if l = 0 then n else n + 2 ^ (15 - l)) 0

/-- Whether a code is neither over-subscribed nor incomplete. -/
def codeComplete (lens : List Nat) : Bool := kraft lens == 2 ^ 15

/-- Whether a distance code is valid (R193): complete, or exactly one code of length 1. -/
def distOk (lens : List Nat) : Bool := codeComplete lens || (lens.filter (· != 0)) == [1]

/-- The fixed code (RFC 1951, 3.2.6): 288 literal/length lengths, then 32 distance lengths of 5. -/
def fixedLens : List Nat :=
  List.replicate 144 8 ++ List.replicate 112 9 ++ List.replicate 24 7 ++ List.replicate 8 8 ++ List.replicate 32 5

/-- The order in which the lengths of the code-length code are sent. -/
def clOrder : List Nat := [16, 17, 18, 0, 8, 7, 9, 6, 10, 5, 11, 4, 12, 3, 13, 2, 14, 1, 15]

/-- Read `n` lengths of 3 bits. -/
def readCl : Nat → List Bool → Rd (List Nat)
  | 0, l => .ok [] l
  | n + 1, l => (takeBits 3 l).bind fun v r => (readCl n r).bind fun t r => .ok (v :: t) r

/-- The lengths of the code-length code by symbol. -/
def clLens (l : List Nat) : List Nat := (List.range 19).map fun s => l.getD (clOrder.idxOf s) 0

/-- Read code lengths until there are `n` (RFC 1951, 3.2.7); `acc` holds those read, newest first. -/
def readLens (cl : List Nat) (n : Nat) : (fuel : Nat) → List Nat → List Bool → Rd (List Nat)
  | 0, _, _ => .bad
  | fuel + 1, acc, l =>
    if acc.length = n then .ok acc.reverse l
    else if n < acc.length then .bad
    else
      (huff cl l).bind fun s r =>
        if s < 16 then readLens cl n fuel (s :: acc) r
        else if s = 16 then
          match acc with
          | [] => .bad
          | p :: _ => (takeBits 2 r).bind fun v r => readLens cl n fuel (List.replicate (3 + v) p ++ acc) r
        else if s = 17 then (takeBits 3 r).bind fun v r => readLens cl n fuel (List.replicate (3 + v) 0 ++ acc) r
        else (takeBits 7 r).bind fun v r => readLens cl n fuel (List.replicate (11 + v) 0 ++ acc) r

/-- Fill a list with zeros to a length. -/
def padTo (n : Nat) (l : List Nat) : List Nat := (l ++ List.replicate n 0).take n

/-- The header of a dynamic block: the 288 and 32 code lengths. -/
def readDynamic (l : List Bool) : Rd (List Nat) :=
  (takeBits 5 l).bind fun hlit r =>
  (takeBits 5 r).bind fun hdist r =>
  (takeBits 4 r).bind fun hclen r =>
  (readCl (hclen + 4) r).bind fun cls r =>
    let cl := clLens cls
    if !codeComplete cl then .bad
    else
      (readLens cl (hlit + 257 + hdist + 1) 400 [] r).bind fun ls r =>
        let lit := padTo 288 (ls.take (hlit + 257))
        let dist := padTo 32 (ls.drop (hlit + 257))
        if codeComplete lit && distOk dist then .ok (lit ++ dist) r else .bad

/-- Base length and extra bits of length symbol 257 + `i` (RFC 1951, 3.2.5). -/
def lenBase (i : Nat) : Nat × Nat :=
  if i = 28 then (258, 0)
  else if i < 8 then (3 + i, 0)
  else (3 + 2 ^ (i / 4 - 1) * (4 + i % 4), i / 4 - 1)

/-- Base distance and extra bits of a distance symbol. -/
def distBase (i : Nat) : Nat × Nat := if i < 4 then (1 + i, 0) else (1 + 2 ^ (i / 2 - 1) * (2 + i % 2), i / 2 - 1)

/-- One output byte joins the history. -/
def Infl.emit (x : Infl) (b : Nat) : Infl :=
  { x with hist := (b :: x.hist).take 32768, out := b :: x.out, n := x.n + 1 }

/-- One step of the decompressor. -/
inductive InflStep where
  | go (x : Infl)
  | starved
  | bad

/-- A block ends: after the last one the stream is finished. -/
def Infl.blockEnd (x : Infl) : Infl := { x with blk := if x.bfinal then 4 else 0, left := 0, lens := [] }

/-- The step of a reading. -/
def Rd.step {α : Type} (r : Rd α) (f : α → List Bool → InflStep) : InflStep :=
  match r with
  | .ok v rest => f v rest
  | .starved => .starved
  | .bad => .bad

/-- The header of a block. -/
def inflHeader (x : Infl) : InflStep :=
  (takeBits 1 x.bits).step fun f r =>
  (takeBits 2 r).step fun t r =>
    let y := { x with bfinal := f == 1 }
    match t with
    | 0 =>
      (takeBits 32 (r.drop (r.length % 8))).step fun v r =>
        if v % 65536 + v / 65536 ≠ 65535 then .bad
        else if v % 65536 = 0 then .go { y with bits := r }.blockEnd
        else .go { y with bits := r, blk := 1, left := v % 65536 }
    | 1 => .go { y with bits := r, blk := 2, lens := fixedLens }
    | 2 => (readDynamic r).step fun ls r => .go { y with bits := r, blk := 3, lens := ls }
    | _ => .bad

/-- A symbol of a compressed block. -/
def inflSymbol (x : Infl) : InflStep :=
  (huff (x.lens.take 288) x.bits).step fun s r =>
    if s < 256 then .go ({ x with bits := r }.emit s)
    else if s = 256 then .go { x with bits := r }.blockEnd
    else if 285 < s then .bad
    else
      let lb := lenBase (s - 257)
      (takeBits lb.2 r).step fun le r =>
      (huff (x.lens.drop 288) r).step fun d r =>
        if 29 < d then .bad
        else
          let db := distBase d
          (takeBits db.2 r).step fun de r =>
            if x.hist.length < db.1 + de then .bad
            else .go { x with bits := r, mlen := lb.1 + le, mdist := db.1 + de }

/-- One step: a byte of the match being copied, a block header, a stored byte, or a symbol. -/
def inflStep (x : Infl) : InflStep :=
  if x.mlen ≠ 0 then .go { x.emit (x.hist.getD (x.mdist - 1) 0) with mlen := x.mlen - 1 }
  else
    match x.blk with
    | 0 => inflHeader x
    | 1 =>
      (takeBits 8 x.bits).step fun b r =>
        let y := { x with bits := r, left := x.left - 1 }.emit b
        .go (if x.left ≤ 1 then y.blockEnd else y)
    | _ => inflSymbol x

/-- How a run of the decompressor ends (R201): the output limit reached with STOP, a byte beyond it without STOP, the last
block's end, the input exhausted, or an invalid stream. -/
inductive InflEnd where
  | stopped | full | finished | exhausted | bad
  deriving DecidableEq, Repr

/-- Run until one of the ends of R201; `limit` is SKIP + DST_LEN. -/
def inflRun (limit : Nat) (stop : Bool) : (fuel : Nat) → Infl → Infl × InflEnd
  | 0, x => (x, .exhausted)
  | fuel + 1, x =>
    if x.blk = 4 ∧ x.mlen = 0 then (x, .finished)
    else if stop && limit ≤ x.n then (x, .stopped)
    else
      match inflStep x with
      | .go y => if limit < y.n then (x, .full) else inflRun limit stop fuel y
      | .starved => (x, .exhausted)
      | .bad => (x, .bad)

end Sys2Proof.Machine
end

