-- ==== Sys2Proof/Machine/Cmp.lean ====
section
/-!
DEFINITION. The DEFLATE engines (08_compression.md): jobs and their queues (R197, R198), contexts and their save area
(R195, R196), what a job comes to (R199 to R201), and aborts (R208).
-/
namespace Sys2Proof.Machine

/-- Change one engine. -/
def modEng (e : Fin 2) (f : CEng → CEng) (s : State) : State :=
  { s with cmp := { s.cmp with eng := vmod s.cmp.eng e f } }

/-- The Bullion slot of an engine: 13 or 14. -/
def cmpSlot (e : Fin 2) : Fin 24 := ⟨13 + e.val, by omega⟩

/-- Jobs queued or running on an engine, 0 to 16. -/
def CEng.count (x : CEng) : Nat := x.queue.length + b2n x.run.isSome

/-- Every job of an engine, the running one first. -/
def CEng.jobs (x : CEng) : List CJob := x.run.toList ++ x.queue

/-- Whether an engine is enabled (R208). -/
def State.cmpOn (s : State) (e : Fin 2) : Bool := s.flag CMP_CTL_EN && !s.bit CMP_CTL_ENG_DIS e.val

/-- The emptied context (R195). -/
def emptyCtx : CCtx := { (default : CCtx) with crc := 0xFFFFFFFF }

/-! ### Commits (R197, R198) -/

/-- The engine a job goes to: the one named, or the enabled one with fewer jobs, CMP0 when the counts are equal. None when
it is disabled or the code is reserved. -/
def State.cmpEng (s : State) (code : Nat) : Option (Fin 2) :=
  match code with
  | 0 =>
    if s.cmpOn 0 && (!s.cmpOn 1 || (s.cmp.eng[0]).count ≤ (s.cmp.eng[1]).count) then some 0
    else if s.cmpOn 1 then some 1 else none
  | 1 => if s.cmpOn 0 then some 0 else none
  | 2 => if s.cmpOn 1 then some 1 else none
  | _ => none

/-- The staged job. -/
def cmpJob (w : Nat → Nat) : CJob :=
  { op := bits (w 0) 28 4, ctx := if bitOf (w 0) 25 then 1 else 0, cont := bitOf (w 0) 24, restore := bitOf (w 0) 23
    save := bitOf (w 0) 22, final := bitOf (w 0) 21, stop := bitOf (w 0) 20, prio := bitOf (w 0) 19
    tables := bits (w 0) 17 2, level := bits (w 0) 13 4, tag := bits (w 1) 0 24, src := bits (w 2) 0 30 * 16
    srcLen := bits (w 3) 0 24, dst := bits (w 4) 0 30 * 16, dstLen := bits (w 5) 0 24, state := bits (w 6) 0 28 * 64
    skip := bits (w 7) 0 23 }

/-- The content checks of a job in ascending order of RESULT; `code` is its ENG field. -/
def CJob.content (j : CJob) (code : Nat) : Nat :=
  let reserved := (j.op != 1 && j.op != 2) || code == 3 ||
    (j.op == 1 && (j.tables == 3 || j.level == 0 || 8 < j.level))
  if reserved || (j.restore && !j.cont) then 2
  else if j.srcLen = 0 ∨ 0x800000 < j.srcLen ∨ j.dstLen = 0 ∨ 0x800000 < j.dstLen then 3
  else if j.cont && code == 0 then 5
  else 0

/-- The RESULT of a job commit (R442) and the engine that takes it. -/
def State.cmpResult (s : State) (j : CJob) (code : Nat) : Nat × Option (Fin 2) :=
  let all := (s.cmp.eng[0]).count + (s.cmp.eng[1]).count + s.cmp.cq.length
  if !s.flag CMP_CTL_EN || (code != 3 && (s.cmpEng code).isNone) then (4, none)
  else if ((s.cmp.eng[0]).jobs ++ (s.cmp.eng[1]).jobs).any (fun x => x.tag == j.tag) then (6, none)
  else if 32 ≤ all || ((s.cmpEng code).any fun e => 16 ≤ (s.cmp.eng[e]).count) then (1, none)
  else if j.content code ≠ 0 then (j.content code, none)
  else (0, s.cmpEng code)

/-- An engine with work and no permit asks for one (R202). -/
def cmpAsk (e : Fin 2) (s : State) : State :=
  if (s.cmp.eng[e]).count = 0 then s
  else
    let s1 := hwAsk (cmpSlot e) (s.raw CMP_CFG_PERMIT_MA * 10) s
    if s1.granted (cmpSlot e) then s1 else s1.on CMP_STAT_PERMIT_WAIT

/-- A write of CMP_JQ_W7. -/
def cmpJobCommit (r : Req) (w7 : Nat) (s : State) : State :=
  let s0 := s.set ((CMP_JQ_W 7).of r) w7
  let w (i : Nat) : Nat := s0.raw ((CMP_JQ_W i).of r)
  let j := cmpJob w
  let p := s.cmpResult j (bits (w 0) 26 2)
  let s1 := (s0.set (CMP_JQ_RESP_RESULT.of r) p.1).on (CMP_JQ_RESP_DONE.of r)
  match p.2 with
  | some e => cmpAsk e (modEng e (fun x => { x with queue := x.queue ++ [j] }) s1)
  | none => s1

def execCmpJobCommit (r : Req) (w7 : Word) (s : State) : Res := .next (live s (cmpJobCommit r w7.toNat))

/-- The job an engine takes next: its oldest with PRIO 1b, then its oldest (R198). -/
def CEng.next (x : CEng) : Option CJob := (x.queue.find? CJob.prio).or x.queue.head?

/-- An idle engine that holds its permit takes its next job and renews the permit (R202). -/
def cmpJobStart (e : Fin 2) (s : State) : State :=
  match (s.cmp.eng[e]).run, (s.cmp.eng[e]).next with
  | none, some j =>
    if !s.stepOn 2 then s
    else if s.granted (cmpSlot e) then
      (bulRequest (cmpSlot e) (s.raw CMP_CFG_PERMIT_MA * 10) 0 64 64
        (modEng e (fun x => { x with run := some j, queue := x.queue.erase j }) s)).1
    else cmpAsk e s
  | _, _ => s

def execCmpJobStart (e : Fin 2) (s : State) : Res := .next (live s (cmpJobStart e))

/-! ### The save area (R196) -/

/-- The CRC of a save area: over its bytes 0–59 and from 64 on. -/
def saveCrc (l : List Byte) : Nat := crc32c (l.take 60 ++ l.drop 64)

/-- The bytes of a context's save area. The bytes of HIST beyond HIST_LEN, and PEND when more than 32 bits wait in the
middle of a block header, are not stated: `free`. -/
def CCtx.saveBytes (x : CCtx) (free : Nat) : List Byte :=
  let h := x.hist.length
  let pn := if 32 < x.pend.length then free % 33 else x.pend.length
  let pv := if 32 < x.pend.length then free % 2 ^ pn else bitsNat x.pend
  let bst := if !x.dir then 0 else if x.fin then 4 else x.blk
  let head := leBytes 0xC3D1 2 ++ leBytes (b2n x.dir) 1 ++ leBytes bst 1 ++ leBytes h 2 ++ leBytes pn 1 ++ leBytes 0 1 ++
    leBytes pv 4 ++ leBytes x.left 2 ++ leBytes x.mlen 2 ++ leBytes x.mdist 2 ++ leBytes 0 6 ++ leBytes x.inTotal 8 ++
    leBytes x.outTotal 8 ++ leBytes (x.crc ^^^ 0xFFFFFFFF) 4 ++ leBytes 0 16
  let lens := if bst = 3 then (x.lens.map fun n => BitVec.ofNat 8 n) else List.replicate 320 0
  let body := lens ++ List.replicate 3712 0 ++ leBytes free (32768 - h) ++ (x.hist.reverse.map fun n => BitVec.ofNat 8 n)
  head ++ leBytes (crc32c (head ++ body)) 4 ++ body

/-- The context in a save area, when its MAGIC and CRC are good and its DIR is that of the job; the last-block flag has no
place in the area: `free`. -/
def ctxOf (dir : Bool) (l : List Byte) (free : Nat) : Option CCtx :=
  let n (o k : Nat) : Nat := leNat ((l.drop o).take k)
  if n 0 2 ≠ 0xC3D1 ∨ n 60 4 ≠ saveCrc l ∨ n 2 1 ≠ b2n dir then none
  else
    some
      { valid := true, dir, fin := n 3 1 == 4, blk := n 3 1, bfinal := free % 2 == 1, left := n 12 2
        lens := if n 3 1 = 3 then ((l.drop 64).take 320).map BitVec.toNat else if n 3 1 = 2 then fixedLens else []
        mlen := n 14 2, mdist := n 16 2, pend := (byteBits (((l.drop 8).take 4).map BitVec.toNat)).take (n 6 1)
        hist := ((l.drop (36864 - n 4 2)).map BitVec.toNat).reverse, inTotal := n 24 8, outTotal := n 32 8
        crc := n 40 4 ^^^ 0xFFFFFFFF }

/-- Bytes of the save area. -/
def saveLen : Nat := 36864

/-! ### What a job comes to (R199 to R201) -/

/-- The outcome of a job: STATUS, the context after it, bytes written at DST, input bytes taken, and the output. -/
structure CRes where
  status : Nat
  ctx : CCtx
  outBytes : Nat
  inBytes : Nat
  out : List Nat

/-- A job that fails leaves its context invalid (R195). -/
def failRes (status : Nat) (x : CCtx) : CRes := { status, ctx := { x with valid := false }, outBytes := 0, inBytes := 0, out := [] }

/-- The bytes that whole groups of 8 bits form; a last short group is dropped. -/
def wholeBytes : (fuel : Nat) → List Bool → List Nat
  | 0, _ => []
  | n + 1, l => bitsNat (l.take 8) :: wholeBytes n (l.drop 8)

/-- A compress job (R194, R195, R200) on input `src`. -/
def compress (j : CJob) (blockKib : Nat) (x : CCtx) (src : List Nat) : CRes :=
  let stream := x.pend ++ Config.deflate x.hist src j.level j.tables blockKib j.final
  let n := if j.final then ceilDiv stream.length 8 else stream.length / 8
  let inT := x.inTotal + src.length
  if j.dstLen < n then
    failRes (if j.final && x.outTotal + j.dstLen == inT then 2 else 1) x
  else if j.final && inT ≤ x.outTotal + n then failRes 2 x
  else
    { status := 0
      ctx := { x with
        valid := true, dir := false, fin := j.final, hist := (src.reverse ++ x.hist).take 32768
        pend := if j.final then [] else stream.drop (n * 8), inTotal := inT, outTotal := x.outTotal + n
        crc := src.foldl crc32cByte x.crc }
      outBytes := n, inBytes := src.length, out := wholeBytes n stream }

/-- The context after a decompress run: `pend` the bits left in the bit buffer. -/
def CCtx.after (x : CCtx) (y : Infl) (fin : Bool) (pend : List Bool) (taken : Nat) : CCtx :=
  { x with
    valid := true, dir := true, fin, blk := y.blk, bfinal := y.bfinal, left := y.left, lens := y.lens, mlen := y.mlen
    mdist := y.mdist, pend, hist := y.hist, inTotal := x.inTotal + taken, outTotal := x.outTotal + y.n
    crc := y.out.reverse.foldl crc32cByte x.crc }

/-- A decompress job (R193, R201) on input `src`. How far beyond the byte in use the bit buffer has read is not stated:
`free` bytes, at most three, so that at most 32 bits are pending. -/
def decompress (j : CJob) (x : CCtx) (src : List Nat) (free : Nat) : CRes :=
  let all := x.pend ++ byteBits src
  let limit := j.skip + j.dstLen
  let y0 : Infl := { bits := all, blk := x.blk, bfinal := x.bfinal, left := x.left, lens := x.lens, mlen := x.mlen,
                     mdist := x.mdist, hist := x.hist, out := [], n := 0 }
  let p := inflRun limit j.stop (all.length + limit + 2) y0
  let y := p.1
  let done (fin : Bool) (pend : List Bool) (taken : Nat) : CRes :=
    { status := 0, ctx := x.after y fin pend taken, outBytes := y.n - j.skip, inBytes := taken
      out := y.out.reverse.drop j.skip }
  match p.2 with
  | .bad => failRes 3 x
  | .full => failRes 1 x
  | .finished => done true [] (min src.length (src.length - y.bits.length / 8))
  | .stopped =>
    let ahead := min (y.bits.length / 8) (free % 4)
    done false (y.bits.take (y.bits.length % 8 + 8 * ahead)) (src.length - (y.bits.length / 8 - ahead))
  | .exhausted => if j.final then failRes 4 x else done false y.bits src.length

/-- The context a job starts with (R195): emptied, as it stands, or restored; or the status that ends the job. -/
def State.jobCtx (s : State) (e : Fin 2) (j : CJob) : Except Nat CCtx :=
  let x := (s.cmp.eng[e]).ctx[j.ctx]
  let usable (x : CCtx) : Except Nat CCtx :=
    if !x.valid || x.fin || x.dir != (j.op == 2) then .error 5 else .ok x
  if !j.cont then .ok emptyCtx
  else if j.restore then
    if !s.dramOk j.state saveLen then .error 7
    else
      match ctxOf (j.op == 2) (s.dramBytes j.state saveLen) (Config.freeValue s.free) with
      | none => .error 6
      | some x => usable x
  else usable x

/-- What the running job of an engine comes to. -/
def State.jobRes (s : State) (e : Fin 2) (j : CJob) : CRes :=
  match s.jobCtx e j with
  | .error st => failRes st (s.cmp.eng[e]).ctx[j.ctx]
  | .ok x =>
    if !s.dramOk j.src j.srcLen then failRes 7 x
    else
      let src := (s.dramBytes j.src j.srcLen).map BitVec.toNat
      if j.op = 1 then compress j (s.get CMP_CFG_BLOCK_KIB) x src
      else decompress j x src (Config.freeValue (s.free + 1))

/-- Count bytes as KiB in a counter that keeps a remainder. -/
def kib (rem n : Nat) : Nat × Nat := ((rem + n) % 1024, (rem + n) / 1024)

/-- The lines of a range that cannot be read, recorded as the job meets the first of them. -/
def cmpUe (a n : Nat) (s : State) : State :=
  if s.dramOk a n then s
  else
    match (linesOf a n).find? (fun l => s.poison.contains l || dramSize ≤ l * 64) with
    | some l => dramUe rdClient l s
    | none => s

/-- The CMP_STAT bits and the Patina trigger of a completion. -/
def cmpFlags (status tag : Nat) (s : State) : State :=
  let s1 := s.on CMP_STAT_DONE
  match status with
  | 0 => s1
  | 2 => s1.on CMP_STAT_NOT_SMALLER
  | 3 | 4 => patTrig 23 tag (s1.on CMP_STAT_STREAM_ERR)
  | 7 => patTrig 23 tag (s1.on CMP_STAT_DMA_ERR)
  | _ => s1.on CMP_STAT_FAIL

/-- Post a completion. -/
def cmpPost (c : CCompl) (s : State) : State :=
  cmpFlags c.status c.tag { s with cmp := { s.cmp with cq := s.cmp.cq ++ [c] } }

/-- The running job of an engine ends (R199). After a failure the output area is undefined, and the byte counts and the
CRC of its completion are not stated. -/
def cmpJobDone (e : Fin 2) (s : State) : State :=
  match (s.cmp.eng[e]).run with
  | none => s
  | some j =>
    if !s.granted (cmpSlot e) then s
    else
      let r := s.jobRes e j
      let fv (i : Nat) : Nat := Config.freeValue (s.free + 2 + i)
      let s0 : State := { s with free := s.free + 7 }
      let s1 := if r.status = 7 then cmpUe j.src j.srcLen (if j.restore then cmpUe j.state saveLen s0 else s0) else s0
      let outB := if r.status = 0 then r.outBytes else fv 0 % (j.dstLen + 1)
      let inB := if r.status = 0 then r.inBytes else fv 1 % (j.srcLen + 1)
      let crc := if r.status = 0 then r.ctx.crc ^^^ 0xFFFFFFFF else fv 2 % 2 ^ 32
      let s2 := if r.status = 0 then s1.dramWrite j.dst (r.out.map fun b => BitVec.ofNat 8 b)
        else s1.dramWrite j.dst (leBytes (fv 3) j.dstLen)
      let s3 := if r.status = 0 && j.save then s2.dramWrite j.state (r.ctx.saveBytes (fv 4)) else s2
      let x := s3.cmp.eng[e]
      let s4 := modEng e (fun x =>
        { x with run := none, ctx := x.ctx.set j.ctx r.ctx, inRem := (kib x.inRem inB).1, outRem := (kib x.outRem outB).1 })
        ((s3.bump (CMP_ENG_IN_KIB e.val) (kib x.inRem inB).2).bump (CMP_ENG_OUT_KIB e.val) (kib x.outRem outB).2)
      cmpPost { eng := e.val, status := r.status, tag := j.tag, outBytes := outB, inBytes := inB, crc } s4

def execCmpJobDone (e : Fin 2) (s : State) : Res := .next (live s (cmpJobDone e))

/-! ### Aborts (R208) -/

/-- Every job of an engine completes with ABORTED, and both contexts become invalid. -/
def abortEng (e : Fin 2) (s : State) : State :=
  let js := (s.cmp.eng[e]).jobs
  let s1 := modEng e (fun x =>
    { x with run := none, queue := [], ctx := x.ctx.map fun c => { c with valid := false } }) s
  js.foldl (fun t j =>
    cmpPost { eng := e.val, status := 8, tag := j.tag, outBytes := Config.freeValue t.free % (j.dstLen + 1)
              inBytes := Config.freeValue (t.free + 1) % (j.srcLen + 1), crc := Config.freeValue (t.free + 2) % 2 ^ 32 }
      { t with free := t.free + 3 }) s1

/-- A job stopped while it ran has written an undefined output (R199). -/
def abortOut (e : Fin 2) (s : State) : State :=
  match (s.cmp.eng[e]).run with
  | some j => s.draw.1.dramWrite j.dst (leBytes (Config.freeValue s.free) j.dstLen)
  | none => s

/-- A write of CMP_CTL.ABORT. -/
def cmpAbort (v : Nat) (s : State) : State :=
  let one (e : Fin 2) (s : State) : State := if bitOf v e.val then abortEng e (abortOut e s) else s
  one 1 (one 0 s)

def execCmpAbort (v : Fin 4) (s : State) : Res := .next (live s (cmpAbort v.val))

/-- A write of CMP_CTL.EN and ENG_DIS: an engine that this disables aborts its jobs (R208). -/
def cmpControl (en : Bool) (dis : Nat) (s : State) : State :=
  let s1 := (s.put CMP_CTL_EN en).set CMP_CTL_ENG_DIS dis
  let hit := (List.range 2).foldl (fun n e =>
    if (s.flag CMP_CTL_EN && !en) || (bitOf dis e && !s.bit CMP_CTL_ENG_DIS e) then n + 2 ^ e else n) 0
  cmpAbort hit s1

def execCmpDisable (en : Bool) (dis : Fin 4) (s : State) : Res := .next (live s (cmpControl en dis.val))

/-- A write of CMP_CQ_POP. -/
def execCmpCompletionPop (s : State) : Res :=
  .next (live s fun s => { s with cmp := { s.cmp with cq := s.cmp.cq.tail } })

end Sys2Proof.Machine
end

