-- ==== Sys2Proof/Machine/Xlt.lean ====
section
/-!
DEFINITION. Translation (07_translation.md): the extent map in DRAM and its checks (R169 to R172), the extent cache (R187 to
R192), the walker and its lookups (R173 to R176), journal records (R178, R179), and what role XL1 does with the map
(R181 to R186, R205).
-/
namespace Sys2Proof.Machine

/-- Change XLT and XCC. -/
def modXlt (f : Xlt → Xlt) (s : State) : State := { s with xlt := f s.xlt }

/-- Change what role XL1 keeps. -/
def modXl1 (f : Xl1 → Xl1) (s : State) : State := { s with xl1 := f s.xl1 }

/-! ### The map and its checks (R169 to R172) -/

/-- One bit of the CRC-16 of R171: polynomial 0x1021, not reflected. -/
def crc16Bit (c : Nat) : Nat := if bitOf c 15 then (c * 2 ^^^ 0x1021) % 2 ^ 16 else c * 2 % 2 ^ 16

/-- One byte of CRC-16. -/
def crc16Byte (c b : Nat) : Nat :=
  crc16Bit (crc16Bit (crc16Bit (crc16Bit (crc16Bit (crc16Bit (crc16Bit (crc16Bit (c ^^^ b * 2 ^ 8))))))))

/-- CRC-16 of R171 over the `n` bytes of an image whose CRC field is taken as zero, followed by its index. -/
def crc16 (image n idx : Nat) : Nat :=
  (leBytes image n ++ leBytes idx 4).foldl (fun c b => crc16Byte c b.toNat) 0xFFFF

/-- Window offset of the chunk table (R172). -/
def chunkTable : Nat := 0x2000000

/-- Lowest bit of the CRC field: W2 [15:0] of a descriptor, W3 [31:16] of a chunk entry. -/
def crcPos (desc : Bool) : Nat := if desc then 64 else 112
/-- Bytes of a descriptor or of a chunk entry. -/
def imageLen (desc : Bool) : Nat := if desc then 32 else 16
/-- Window offset of descriptor slot or chunk `i`. -/
def imageOfs (desc : Bool) (i : Nat) : Nat := if desc then i * 32 else chunkTable + i * 16

/-- Whether an image passes R171 at its index. -/
def imageOk (desc : Bool) (idx image : Nat) : Bool :=
  crc16 (putBits image (crcPos desc) 16 0) (imageLen desc) idx == bits image (crcPos desc) 16

/-- DRAM address of the map window. -/
def State.mapBase (s : State) : Nat := s.raw XLT_MAP_BASE_BASE <<< 26

/-- Fields of a descriptor image (R169). -/
def dLba (d : Nat) : Nat := bits d 0 32 + bits d 32 16 * 2 ^ 32
def dNs (d : Nat) : Nat := bits d 60 4
def dLoc (d : Nat) : Nat := bits d 58 2
def dLv (d : Nat) : Bool := bitOf d 57
def dRv (d : Nat) : Bool := bitOf d 56
def dReloc (d : Nat) : Bool := bitOf d 55
def dUnrec (d : Nat) : Bool := bitOf d 54
def dLenM1 (d : Nat) : Nat := bits d 80 16
def dLeft (d : Nat) : Nat := bits d 96 20
def dRight (d : Nat) : Nat := bits d 128 20
def dAddr (d : Nat) : Nat := bits d 160 32 + bits d 192 16 * 2 ^ 32
/-- Fields of a chunk entry (R172). -/
def cRv (c : Nat) : Bool := bitOf c 31
def cZs (c : Nat) : Nat := bits c 28 3
def cRoot (c : Nat) : Nat := bits c 0 20
def cPv (c : Nat) : Bool := bitOf c 63
def cFault (c : Nat) : Bool := bitOf c 62
def cPbn (c : Nat) : Nat := bits c 32 20
def cWp (c : Nat) : Nat := bits c 64 17

/-! ### The extent cache (R187 to R192) -/

/-- The set of a line. -/
def xSet (l : Nat) : Nat := l % 4096

/-- The line in a way of a set. -/
def State.xway (s : State) (set w : Nat) : Option XLine := tabLook none s.xlt.main (set * 8 + w)

/-- The way that holds a line. -/
def State.xfind (s : State) (l : Nat) : Option Nat :=
  (List.range 8).find? fun w => match s.xway (xSet l) w with | some x => x.line == l | none => false

/-- Put a way of a set. -/
def xput (set w : Nat) (x : Option XLine) (s : State) : State :=
  modXlt (fun v => { v with main := tabPut none v.main (set * 8 + w) x }) s

/-- Whether a way is disabled. -/
def State.wayOff (s : State) (w : Nat) : Bool := s.bit XCC_CTL_WAY_DIS w

/-- Whether a way holds a locked line. -/
def State.wayLocked (s : State) (set w : Nat) : Bool :=
  match s.xway set w with | some x => x.locked | none => false

/-- A line evicted from the main array passes through the eviction buffer into the victim cache (R187). -/
def xevict (x : Option XLine) (s : State) : State :=
  match x with
  | none => s
  | some x => modXlt (fun v =>
      { v with evb := (x :: v.evb).take 2, vic := ((x :: v.evb).drop 2 ++ v.vic).take 32 }) s

/-- Install a line in a way of its set; the line there is evicted. -/
def xinstallAt (w : Nat) (x : XLine) (s : State) : State :=
  xput (xSet x.line) w (some x) (xevict (s.xway (xSet x.line) w) s)

/-- The ways a fill may take (R188): neither locked nor disabled. -/
def State.xways (s : State) (l : Nat) : List Nat :=
  (List.range 8).filter fun w => !s.wayOff w && !s.wayLocked (xSet l) w

/-- Install a line in the way that pseudo-LRU chooses (R188): its order is not stated, so which of the ways is free. -/
def xinstall (x : XLine) (s : State) : State :=
  match s.xways x.line with
  | [] => s
  | w :: ws => xinstallAt ((w :: ws).getD (Config.freeValue s.free % (ws.length + 1)) w) x s.draw.1

/-- Take a line out of the eviction buffer and the victim cache. -/
def xtake (l : Nat) (s : State) : State :=
  modXlt (fun v => { v with evb := v.evb.filter fun x => x.line != l, vic := v.vic.filter fun x => x.line != l }) s

/-- A line in the eviction buffer or, after it, the victim cache. -/
def State.xvictim (s : State) (l : Nat) : Option XLine := (s.xlt.evb ++ s.xlt.vic).find? fun x => x.line == l

/-- The 64 bytes of a line of the map window in DRAM; none when the read is uncorrectable (R263). -/
def State.mapLine (s : State) (l : Nat) : Option Nat :=
  if s.dramOk (s.mapBase + l * 64) 64 then some (s.dramLe (s.mapBase + l * 64) 64) else none

/-- Read a line of the map window from DRAM; an uncorrectable read is recorded. -/
def mapFetch (l : Nat) (s : State) : State × Option Nat :=
  match s.mapLine l with
  | some d => (s, some d)
  | none => (dramUe rdClient ((s.mapBase + l * 64) / 64) s, none)

/-- A walker read of a line (R187), and whether the cache held it. -/
def xread (l : Nat) (s : State) : State × Option Nat × Bool :=
  if !s.flag XCC_CTL_EN then
    let p := mapFetch l s
    (p.1, p.2, false)
  else
    match s.xfind l with
    | some w =>
      (s.bump XCC_HITS_COUNT 1, (s.xway (xSet l) w).map XLine.data, true)
    | none =>
      match s.xvictim l with
      | some x => (xinstall { x with locked := false } ((xtake l s).bump XCC_VHITS_COUNT 1), some x.data, true)
      | none =>
        let p := mapFetch l (s.bump XCC_MISSES_COUNT 1)
        match p.2 with
        | some d => (xinstall { line := l, data := d, locked := false } p.1, some d, false)
        | none => (p.1, none, false)

/-- A cached line fails its check (R189): it is fetched again from DRAM into its own way and keeps its lock. -/
def xrefetch (l : Nat) (s : State) : State × Option Nat :=
  let s1 := ((s.on XCC_STAT_CRC_ERR).bump XCC_CRC_CNT_COUNT 1).bump XCC_MISSES_COUNT 1
  let p := mapFetch l (patTrig 22 l s1)
  match p.2, p.1.xfind l with
  | some d, some w =>
    (xput (xSet l) w (some { line := l, data := d, locked := p.1.wayLocked (xSet l) w }) p.1, some d)
  | none, some w => (xput (xSet l) w none p.1, none)
  | d, none => (p.1, d)

/-- The image of a descriptor or chunk entry within the bytes of its line. -/
def imageIn (desc : Bool) (i line : Nat) : Nat := bits line (imageOfs desc i % 64 * 8) (imageLen desc * 8)

/-- Read a descriptor or chunk entry under R171 and R189; none when it fails its check in DRAM too. -/
def readImage (desc : Bool) (i : Nat) (s : State) : State × Option Nat :=
  let l := imageOfs desc i / 64
  let ok (d : Option Nat) : Option Nat := (d.map (imageIn desc i)).filter (imageOk desc i)
  let p := xread l s
  match ok p.2.1 with
  | some m => (p.1, some m)
  | none =>
    if p.2.2 then
      let q := xrefetch l p.1
      (q.1, ok q.2)
    else (p.1, none)

/-- Invalidate one line in all three stores; a lock lost is counted and reported (R191). -/
def xlose (l : Nat) (s : State) : State :=
  ((s.on XCC_STAT_LOCK_LOST).bump XCC_LOCK_LOST_CNT_COUNT 1) |> patTrig 21 l

/-- Invalidate the entries of the main array that `p` selects by way and line, under the lock rule of R191. -/
def xinvalidate (p : Nat → Nat → Bool) (s : State) : State :=
  let hit (e : Nat × Option XLine) : Bool := match e.2 with | some x => p (e.1 % 8) x.line | none => false
  let lost := s.xlt.main.filterMap fun e =>
    match e.2 with | some x => if hit e && x.locked then some x.line else none | none => none
  lost.foldl (fun t l => xlose l t) (modXlt (fun v => { v with main := v.main.filter fun e => !hit e }) s)

/-- A write of XCC_CTL.INV_ALL, done (R190). -/
def invAll (s : State) : State :=
  (modXlt (fun v => { v with main := [], evb := [], vic := [] }) s).on XCC_STAT_INV_CLEAN

def execInvAll (s : State) : Res := .next (live s invAll)

/-- A write that sets XCC_CTL.EN (R190). -/
def cacheEnable (s : State) : State :=
  if s.flag XCC_STAT_INV_CLEAN then s.on XCC_CTL_EN else s.on XCC_STAT_EN_REFUSED

/-- A write that clears XCC_CTL.EN (R190). -/
def cacheDisable (s : State) : State := if s.flag XCC_CTL_EN then (s.off XCC_CTL_EN).off XCC_STAT_INV_CLEAN else s

def execCacheEnable (s : State) : Res := .next (live s cacheEnable)

/-- XCC_INV_HI.GO with LAST (R191). -/
def rangeInvalidate (last : Nat) (s : State) : State :=
  let s1 := s.set XCC_INV_HI_LAST last
  let inR (l : Nat) : Bool := s.raw XCC_INV_LO_FIRST ≤ l && l ≤ s1.raw XCC_INV_HI_LAST
  xinvalidate (fun _ l => inR l) (modXlt (fun v =>
    { v with evb := v.evb.filter fun x => !inR x.line, vic := v.vic.filter fun x => !inR x.line }) s1)

def execRangeInvalidate (last : Fin 1048576) (s : State) : Res := .next (live s (rangeInvalidate last.val))

/-- The way a lock takes (R188): 0, or 1 when 0 is locked or disabled. -/
def State.lockWay (s : State) (l : Nat) : Option Nat :=
  [0, 1].find? fun w => !s.wayOff w && !s.wayLocked (xSet l) w

/-- Whether a line is locked already. -/
def State.lineLocked (s : State) (l : Nat) : Bool :=
  match s.xfind l with | some w => s.wayLocked (xSet l) w | none => false

/-- Install a line locked in way `w`, from the main array, the buffers, or DRAM. -/
def lockInstall (l w : Nat) (s : State) : State :=
  match s.xfind l with
  | some v =>
    match s.xway (xSet l) v with
    | some x =>
      if v = w then xput (xSet l) w (some { x with locked := true }) s
      else xinstallAt w { x with locked := true } (xput (xSet l) v none s)
    | none => s
  | none =>
    match s.xvictim l with
    | some x => xinstallAt w { x with locked := true } ((xtake l s).bump XCC_VHITS_COUNT 1)
    | none =>
      let p := mapFetch l (s.bump XCC_MISSES_COUNT 1)
      match p.2 with
      | some d => xinstallAt w { line := l, data := d, locked := true } p.1
      | none => p.1

/-- XCC_LOCK.GO with UNLOCK 0b (R188). -/
def lineLock (l : Nat) (s : State) : State :=
  let s1 := (s.off XCC_LOCK_UNLOCK).set XCC_LOCK_LINE l
  if s1.lineLocked l then s1
  else
    match s1.lockWay l with
    | none => s1.on XCC_STAT_LOCK_REFUSED
    | some w => lockInstall l w s1

def execLineLock (l : Fin 1048576) (s : State) : Res := .next (live s (lineLock l.val))

/-- XCC_LOCK.GO with UNLOCK 1b (R188): the lock clears and the line stays. -/
def lineUnlock (l : Nat) (s : State) : State :=
  let s1 := (s.on XCC_LOCK_UNLOCK).set XCC_LOCK_LINE l
  match s1.xfind l with
  | some w => xput (xSet l) w ((s1.xway (xSet l) w).map fun x => { x with locked := false }) s1
  | none => s1

def execLineUnlock (l : Fin 1048576) (s : State) : Res := .next (live s (lineUnlock l.val))

/-- A write of XCC_CTL.WAY_DIS (R192). -/
def wayDisable (v : Nat) (s : State) : State :=
  if v = 255 then s.on XCC_STAT_WAY_REFUSED
  else xinvalidate (fun w _ => bitOf v w && !s.wayOff w) (s.set XCC_CTL_WAY_DIS v)

def execWayDisable (v : Fin 256) (s : State) : Res := .next (live s (wayDisable v.val))

/-! ### Lookups (R173 to R176) -/

/-- The chunk of an LBA of a namespace. -/
def State.chunkOf (s : State) (ns lba : Nat) : Nat := s.raw (XLT_NS_BASE_CHUNK_BASE (ns - 1)) + lba / 65536

/-- Whether a lookup's range is valid (R175): one chunk, the namespace enabled, the chunk within CHUNKS. -/
def State.lkValid (s : State) (k : Lookup) : Bool :=
  1 ≤ k.ns && k.ns ≤ 4 && s.flag (XLT_NS_CFG_EN (k.ns - 1)) &&
  k.lba / 65536 < s.get (XLT_NS_CFG_CHUNKS (k.ns - 1)) && k.lba % 65536 + k.countM1 < 65536

/-- The chunks a record at a DRAM address names. -/
def State.recChunks (s : State) (a : Nat) : List Nat := [s.dramLe (a + 16) 4, s.dramLe (a + 20) 4]

/-- Whether a lookup is of a chunk that the record being applied names. -/
def State.lkBlocked (s : State) (k : Lookup) : Bool :=
  match s.xlt.applying with
  | some a => s.lkValid k && (s.recChunks a).contains (s.chunkOf k.ns k.lba)
  | none => false

/-- A write of XLT_LK_W3: a lookup is committed (R174); at most 16 pend, and every one holds a completion place. -/
def lookupCommit (r : Req) (w3 : Nat) (s : State) : State :=
  let s0 := s.set ((XLT_LK_W 3).of r) w3
  let w (i : Nat) : Nat := s0.raw ((XLT_LK_W i).of r)
  let k : Lookup :=
    { ns := bits (w 0) 28 4, tag := bits (w 0) 0 24, lba := w 1 + bits (w 2) 0 16 * 2 ^ 32, countM1 := bits (w 2) 16 16
      segref := bitOf (w 3) 31, list := bits (w 3) 0 30, waits := false }
  let res := if !s.flag XLT_CFG_EN then 2
    else if 16 ≤ s.xlt.lookups.length ∨ 32 ≤ s.xlt.lookups.length + s.xlt.cq.length then 1 else 0
  let s1 := (s0.set (XLT_LK_RESP_RESULT.of r) res).on (XLT_LK_RESP_DONE.of r)
  if res = 0 then modXlt (fun v => { v with lookups := v.lookups ++ [{ k with waits := s.lkBlocked k }] }) s1 else s1

def execLookupCommit (r : Req) (w3 : Word) (s : State) : Res := .next (live s (lookupCommit r w3.toNat))

/-- How a walk ends (R173): the descriptor and its slot, a gap with the offset of its last LBA, a fault with its REASON and
slot, or a chunk that is unavailable. -/
inductive WalkEnd where
  | hit (slot desc : Nat)
  | gap (last : Nat)
  | fault (reason : Nat) (slot : Option Nat)
  | unavailable

/-- Count one walk step. -/
def walkStep (s : State) : State := s.bump XLT_WALK_CNT_STEPS 1

/-- The loop of R173 over descriptors; `ofs` is the offset of LBA L in its chunk. -/
def walkGo (ns lba : Nat) : (fuel slot bound : Nat) → State → State × WalkEnd
  | 0, slot, _, s => (s, .fault 3 (some slot))
  | fuel + 1, slot, bound, s =>
    let p := readImage true slot (walkStep s)
    match p.2 with
    | none => (p.1, .fault 1 (some slot))
    | some d =>
      if dNs d ≠ ns ∨ dLba d / 65536 ≠ lba / 65536 ∨ 65535 < dLba d % 65536 + dLenM1 d then (p.1, .fault 2 (some slot))
      else if lba < dLba d then
        if dLv d then walkGo ns lba fuel (dLeft d) (dLba d) p.1 else (p.1, .gap ((dLba d - 1) % 65536))
      else if dLba d + dLenM1 d < lba then
        if dRv d then walkGo ns lba fuel (dRight d) bound p.1 else (p.1, .gap ((bound - 1) % 65536))
      else (p.1, .hit slot d)

/-- A walk of R173. -/
def walk (ns lba : Nat) (s : State) : State × WalkEnd :=
  let p := readImage false (s.chunkOf ns lba) (walkStep s)
  match p.2 with
  | none => (p.1, .fault 4 none)
  | some e =>
    if cFault e then (p.1, .unavailable)
    else if !cRv e then (p.1, .gap 65535)
    else walkGo ns lba (s.get XLT_CFG_DEPTH_MAX) (cRoot e) (lba / 65536 * 65536 + 65536) p.1

/-- ADDR of a fragment (R174): adjusted by the offset `o` from the extent's first LBA. -/
def fragAddr (d o : Nat) : Nat := if dLoc d = 3 then dAddr d + o * 2 ^ 37 else if dLoc d = 0 then dAddr d else dAddr d + o

/-- A fragment record (R174). SLOT of a gap is undefined. -/
def fragRecord (ofs countM1 : Nat) (e : WalkEnd) (lba free : Nat) : Nat :=
  let w0 := countM1 * 2 ^ 16 + ofs
  match e with
  | .hit slot d =>
    let a := fragAddr d (lba - dLba d)
    w0 + a % 2 ^ 32 * 2 ^ 32 + (dLoc d * 2 ^ 30 + b2n (dReloc d) * 2 ^ 29 + b2n (dUnrec d) * 2 ^ 28 + bits a 32 16) * 2 ^ 64
      + slot * 2 ^ 96
  | _ => w0 + (2 ^ 31 + Config.freeValue free % 2 ^ 20) * 2 ^ 96

/-- Take a reference on each unit of a segment fragment (R176, R252). -/
def segRef (u n : Nat) (s : State) : State :=
  (unitRun u n).foldl (fun t v =>
    let x := t.unit v
    if x.ref = 0 ∨ 16383 ≤ x.ref then t else putUnit v { x with ref := x.ref + 1 } t) s

/-- Record the first fault of the walker (R175). INDEX of a chunk-entry fault is not stated. -/
def walkFault (reason : Nat) (slot : Option Nat) (chunk : Nat) (s : State) : State :=
  let s1 := if s.raw XLT_FAULT_REASON ≠ 0 then s
    else
      match slot with
      | some i => ((s.set XLT_FAULT_REASON reason).set XLT_FAULT_INDEX i).set XLT_FAULT_CHUNK_INDEX chunk
      | none => ((s.draw.1.set XLT_FAULT_REASON reason).set XLT_FAULT_INDEX (Config.freeValue s.free)).set
          XLT_FAULT_CHUNK_INDEX chunk
  let s2 := if reason = 1 ∨ reason = 4 then s1.on XLT_STAT_CRC_FAULT else s1.on XLT_STAT_STRUCT_FAULT
  patTrig 19 (s2.raw XLT_FAULT_REASON * 2 ^ 28 + s2.raw XLT_FAULT_INDEX) s2

/-- Walks until the range is covered, LIST_MAX fragments are written, or a walk ends without one (R173, R175): the state,
STATUS, fragments written and NEXT. `ofs` is the offset to look up, `left` the sectors to cover. -/
def lookupGo (k : Lookup) (base : Nat) : (fuel ofs left n : Nat) → State → State × Nat × Nat × Nat
  | 0, ofs, _, n, s => (s, 1, n, ofs)
  | fuel + 1, ofs, left, n, s =>
    if left = 0 then (s, 0, n, 0)
    else if s.get XLT_CFG_LIST_MAX ≤ n then (s, 1, n, ofs)
    else
      let lba := base + ofs
      let p := walk k.ns lba s
      let put (last : Nat) (e : WalkEnd) (t : State) : State × Nat :=
        let c := min left (last - ofs + 1)
        (t.dramPut (k.list * 16 + n * 16) (fragRecord ofs (c - 1) e lba t.free) 16, c)
      match p.2 with
      | .unavailable => (p.1, 5, n, 0)
      | .fault reason slot =>
        (walkFault reason slot (s.chunkOf k.ns lba) p.1, if reason = 1 ∨ reason = 4 then 3 else 4, n, ofs)
      | .gap last =>
        let q := put last p.2 p.1.draw.1
        lookupGo k base fuel (ofs + q.2) (left - q.2) (n + 1) q.1
      | .hit _ d =>
        let q := put ((dLba d + dLenM1 d) % 65536) p.2 p.1
        let s1 := if k.segref && dLoc d == 1 then segRef (bits (fragAddr d (lba - dLba d)) 0 22) q.2 q.1 else q.1
        lookupGo k base fuel (ofs + q.2) (left - q.2) (n + 1) s1

/-- Put a cached copy to what it holds after a soft error; `bad` gives line addresses and contents. -/
def corrupt (bad : List (Nat × Nat)) (s : State) : State :=
  let f (x : XLine) : XLine := match bad.find? (fun b => b.1 == x.line) with | some b => { x with data := b.2 } | none => x
  modXlt (fun v => { v with main := v.main.map fun e => (e.1, e.2.map f), evb := v.evb.map f, vic := v.vic.map f }) s

/-- The lookup with a TAG is done (R175); the arrays carry no ECC, and `bad` is what cached lines have become (R189). A
lookup that waits for a record waits on (R179). -/
def lookupDone (tag : Nat) (bad : List (Nat × Nat)) (s : State) : State :=
  match s.xlt.lookups.find? (fun k => k.tag == tag && !k.waits) with
  | none => s
  | some k =>
    let s0 := modXlt (fun v => { v with lookups := v.lookups.erase k }) (corrupt bad s)
    let p := if s0.lkValid k then lookupGo k (k.lba / 65536 * 65536) 256 (k.lba % 65536) (k.countM1 + 1) 0 s0
      else (s0, 2, 0, 0)
    (modXlt (fun v => { v with cq := v.cq ++ [{ status := p.2.1, tag, frags := p.2.2.1, next := p.2.2.2 }] }) p.1).on
      XLT_STAT_LK_DONE

def execLookupDone (tag : Nat) (bad : List (Nat × Nat)) (s : State) : Res := .next (live s (lookupDone tag bad))

/-- A write of XLT_LK_CQ_POP. -/
def execLookupCompletionPop (s : State) : Res := .next (live s (modXlt fun v => { v with cq := v.cq.tail }))

/-! ### Journal records (R178, R179) -/

/-- The 48-byte entry `i` of the record at a DRAM address: OP, index and image. -/
def State.recEntry (s : State) (a i : Nat) : Nat × Nat × Nat :=
  let w := s.dramLe (a + 32 + 48 * i) 4
  (bits w 30 2, bits w 0 20, s.dramLe (a + 48 + 48 * i) 32)

/-- COUNT of the record at a DRAM address. -/
def State.recCount (s : State) (a : Nat) : Nat := s.dramLe (a + 4) 2

/-- JSEQ of the record at a DRAM address. -/
def State.recJseq (s : State) (a : Nat) : Nat := s.dramLe a 4

/-- Whether an entry belongs to the chunks of its record (R179). -/
def State.entryBelongs (s : State) (chunks : List Nat) (e : Nat × Nat × Nat) : Bool :=
  match e.1 with
  | 0 => 1 ≤ dNs e.2.2 && dNs e.2.2 ≤ 4 && chunks.contains (s.chunkOf (dNs e.2.2) (dLba e.2.2))
  | 1 => chunks.contains e.2.1
  | 2 => true
  | _ => false

/-- Whether the image of an entry passes R171. -/
def entryImageOk (e : Nat × Nat × Nat) : Bool :=
  match e.1 with
  | 0 => imageOk true e.2.1 e.2.2
  | 1 => imageOk false e.2.1 (e.2.2 % 2 ^ 128)
  | _ => true

/-- The check of a record (R179): 0, or the RESULT it is refused with. -/
def State.recCheck (s : State) (a : Nat) : Nat :=
  let n := s.recCount a
  let es := (List.range n).map (s.recEntry a)
  if !s.dramOk a (32 + 48 * n) then 1
  else if crc32c (s.dramBytes a 28 ++ List.replicate 4 0 ++ s.dramBytes (a + 32) (48 * n)) ≠ s.dramLe (a + 28) 4 then 1
  else if s.recJseq a ≠ (s.raw XLT_JSEQ_JSEQ + 1) % 2 ^ 32 then 2
  else if n = 0 ∨ 1024 < n ∨ !es.all (s.entryBelongs (s.recChunks a)) then 3
  else if !es.all entryImageOk then 6
  else 0

/-- A write of XLT_UPD_ADDR: a record is accepted and applied, or refused (R179). -/
def recordCommit (addr : Nat) (s : State) : State :=
  let s0 := s.set XLT_UPD_ADDR_ADDR addr
  let a := s0.raw XLT_UPD_ADDR_ADDR * 64
  let res := if !s.flag XLT_CFG_EN then 4 else if s.flag XLT_UPD_RESP_BUSY then 5 else s.recCheck a
  if res = 0 then
    modXlt (fun v => { v with applying := some a }) ((s0.on XLT_UPD_RESP_BUSY).off XLT_UPD_RESP_DONE)
  else ((s0.set XLT_UPD_RESP_RESULT res).on XLT_UPD_RESP_DONE).on XLT_STAT_UPD_REFUSED

def execRecordCommit (addr : Nat) (s : State) : Res := .next (live s (recordCommit (addr % 2 ^ 28)))

/-- Write `n` bytes of the map window, in DRAM and in every cached copy (R179 step 3). -/
def mapWrite (ofs v n : Nat) (s : State) : State :=
  let f (x : XLine) : XLine :=
    if x.line = ofs / 64 then { x with data := putBits x.data (ofs % 64 * 8) (n * 8) v } else x
  modXlt (fun t => { t with main := t.main.map fun e => (e.1, e.2.map f), evb := t.evb.map f, vic := t.vic.map f })
    (s.dramPut (s.mapBase + ofs) v n)

/-- Write one entry of a record. -/
def applyEntry (e : Nat × Nat × Nat) (s : State) : State :=
  match e.1 with
  | 0 => mapWrite (imageOfs true e.2.1) e.2.2 32 s
  | 1 => mapWrite (imageOfs false e.2.1) (e.2.2 % 2 ^ 128) 16 s
  | _ => mapWrite (imageOfs true e.2.1) 0 32 s

/-- Apply the record at a DRAM address: entries, then XLT_JSEQ; XL1's SEQ is at least the record's DSEQ. -/
def applyRecord (a : Nat) (s : State) : State :=
  let es := (List.range (s.recCount a)).map (s.recEntry a)
  modXl1 (fun x => { x with seq := max x.seq (s.dramLe (a + 8) 5) })
    ((es.foldl (fun t e => applyEntry e t) s).set XLT_JSEQ_JSEQ (s.recJseq a))

/-- The record is applied once the walks in its chunks are done (R179); lookups that waited may walk. -/
def recordApplied (s : State) : State :=
  match s.xlt.applying with
  | none => s
  | some a =>
    if s.xlt.lookups.any (fun k => !k.waits && s.lkBlocked k) then s
    else
      let s1 := modXlt (fun v => { v with applying := none, lookups := v.lookups.map fun k => { k with waits := false } })
        (applyRecord a s)
      (((s1.off XLT_UPD_RESP_BUSY).set XLT_UPD_RESP_RESULT 0).on XLT_UPD_RESP_DONE).on XLT_STAT_UPD_DONE

def execRecordApplied (s : State) : Res := .next (live s recordApplied)

/-! ### Role XL1 (R181 to R186, R205) -/

/-- Band types of the band table. -/
abbrev bandFree : Nat := 0
abbrev bandUsed : Nat := 1
abbrev bandCache : Nat := 2
abbrev bandCopies : Nat := 3
abbrev bandRetired : Nat := 4

/-- A band-table entry. -/
def State.band (s : State) (p : Nat) : Band := tabLook default s.xl1.bands p

/-- Change a band-table entry. -/
def modBand (p : Nat) (f : Band → Band) (s : State) : State :=
  modXl1 (fun x => { x with bands := tabPut default x.bands p (f (s.band p)) }) s

/-- Whether a band has passed its relocation limit (R184). -/
def State.bandWorn (s : State) (b : Band) : Bool := s.raw XLT_ZCFG_RELOC_MAX * 16 < b.relocs

/-- Give a band free, or retire it when it has passed its relocation limit (R182, R184). -/
def freeBand (p : Nat) (s : State) : State :=
  modBand p (fun b => { b with type := if s.bandWorn b then bandRetired else bandFree, live := 0, wp := 0 }) s

/-- XL1 commits the record it has built at a 64-byte DRAM address, and it is applied; false when it is refused. -/
def roleRecord (addr : Nat) (s : State) : State × Bool :=
  let s1 := recordCommit (addr % 2 ^ 28) s
  if s.xlt.applying.isNone && s1.xlt.applying.isSome then (recordApplied s1, true) else (s1, false)

/-- The bytes of the map window that a checkpoint holds: the pool and the chunk table, by window offset (R185). -/
def State.mapBytes (s : State) : Tab Byte :=
  s.dram.filterMap fun e =>
    if s.mapBase ≤ e.1 ∧ e.1 < s.mapBase + 0x2800000 then some (e.1 - s.mapBase, e.2) else none

/-- Vault checkpoint slot 0 is the older one: empty, or not newer than slot 1. -/
def State.slot0Older (s : State) : Bool :=
  match s.xl1.ckpts[0], s.xl1.ckpts[1] with
  | none, _ => true
  | some _, none => false
  | some x, some y => x.jseq ≤ y.jseq

/-- XL1 writes a checkpoint to the older vault slot and copies it to the media (R185). -/
def checkpoint (s : State) : State :=
  let c : Ckpt := { jseq := s.raw XLT_JSEQ_JSEQ, seq := s.xl1.seq, map := s.mapBytes, bands := s.xl1.bands }
  let i : Fin 4 := if s.slot0Older then 0 else 1
  modXl1 (fun x => { x with ckpts := ((x.ckpts.set i (some c)).set 2 (some c)).set 3 (some c) }) s

def execCheckpoint (s : State) : Res := .next (live s checkpoint)

/-- The newer of two checkpoints. -/
def newerCkpt (x y : Option Ckpt) : Option Ckpt :=
  match x, y with
  | some a, some b => if a.jseq < b.jseq then some b else some a
  | some a, none => some a
  | none, y => y

/-- The checkpoint that is loaded (R186 step 1): the newest whose pages all pass, the vault slots before the media. -/
def State.loadedCkpt (s : State) (pass : Fin 4 → Bool) : Option Ckpt :=
  let c (i : Fin 4) : Option Ckpt := if pass i then s.xl1.ckpts[i] else none
  match newerCkpt (c 0) (c 1) with
  | some x => some x
  | none => newerCkpt (c 2) (c 3)

/-- Put the map window to a checkpoint's bytes. -/
def loadMap (c : Ckpt) (s : State) : State :=
  let keep := s.dram.filter fun e => !(s.mapBase ≤ e.1 && e.1 < s.mapBase + 0x2800000)
  modXl1 (fun x => { x with bands := c.bands, seq := c.seq })
    ((c.map.foldl (fun (t : State) e => t.dramPut (t.mapBase + e.1) e.2.toNat 1) { s with dram := keep }).set XLT_JSEQ_JSEQ c.jseq)

/-- Apply the saved records in order (R186 step 2): those at or below JSEQ are skipped, the first that is not next or
fails its check ends it; true when every record was applied. -/
def replay : List Nat → State → State × Bool
  | [], s => (s, true)
  | a :: t, s =>
    if s.recJseq (a * 64) ≤ s.raw XLT_JSEQ_JSEQ then replay t s
    else if s.recCheck (a * 64) = 0 then replay t (applyRecord (a * 64) s)
    else (s, false)

/-- XL1 rebuilds the map at start-up (R186): `pass` tells which checkpoint copies have good pages, `recs` where the saved
records lie in DRAM, `images` what the media scan of step 3 maps (window offset and 16- or 32-byte image), `seqs` the
SEQ values found. -/
def mapRebuild (pass : Fin 4 → Bool) (recs : List Nat) (images : List (Nat × Nat × Bool)) (seqs : List Nat) (s : State) :
    State :=
  let s1 := match s.loadedCkpt pass with | some c => loadMap c s | none => s
  let p := replay recs s1
  let s2 := if p.2 then p.1
    else
      patTrig 20 0 ((images.foldl (fun t e => mapWrite (imageOfs e.2.2 e.1) e.2.1 (imageLen e.2.2) t) p.1).on
        XLT_STAT_REBUILT)
  modXl1 (fun x => { x with seq := (seqs.foldl max x.seq + 1) % 2 ^ 40 }) (xinvalidate (fun _ _ => true)
    (modXlt (fun v => { v with evb := [], vic := [] }) s2))

def execMapRebuild (p0 p1 p2 p3 : Bool) (recs : List Nat) (images : List (Nat × Nat × Bool)) (seqs : List Nat)
    (s : State) : Res :=
  .next (live s (mapRebuild (fun i => match i with | 0 => p0 | 1 => p1 | 2 => p2 | 3 => p3) recs images seqs))

/-- Cleaning (R183): the merged chunk is in band `new`, the record at `addr` switches the map, and band `old` and the
emptied units are freed. -/
def cleaning (addr old new : Nat) (units : List Nat) (s : State) : State :=
  if (s.band new).type ≠ bandFree ∨ !s.stepOn 2 then s
  else
    let p := roleRecord addr s
    if p.2 then
      units.foldl (fun t u => modBand u (fun b => { b with live := 0, wp := 0 }) t)
        (freeBand old (modBand new (fun b => { b with type := bandUsed, live := 65536, wp := 65536 }) p.1))
    else p.1

def execCleaning (addr old new : Nat) (units : List Nat) (s : State) : Res := .next (live s (cleaning addr old new units))

/-- Compaction (R205) of `n` sectors of namespace `ns` into a run of `m` sectors: `done` when the chain ended DONE, `same`
when RUN_CRC of the run read back equals DATA_CRC, `srcs` the source descriptors as read at step 1. -/
def compaction (ns n m : Nat) (done same : Bool) (srcs : List (Nat × Nat)) (addr : Nat) (s : State) : State :=
  let cold := 1 ≤ ns && ns ≤ 4 && !s.flag (XLT_NS_CFG_ZONED (ns - 1)) && 1 ≤ n && n ≤ 2048
  let worth := done && m * 100 ≤ n * (100 - s.raw CMP_POLICY_MIN_SAVE)
  let fresh := srcs.all fun e => s.dramLe (s.mapBase + imageOfs true e.1) 32 == e.2
  if cold && worth && same && fresh && s.stepOn 2 then (roleRecord addr s).1 else s

def execCompaction (ns n m : Nat) (done same : Bool) (srcs : List (Nat × Nat)) (addr : Nat) (s : State) : Res :=
  .next (live s (compaction ns n m done same srcs addr))

/-- Relocation (R184): the sector recovered is written to media-cache unit `unit` and the record at `addr` maps it there
with RELOC; one not recovered keeps its place and the record sets UNREC. -/
def relocation (recovered : Bool) (addr old unit : Nat) (s : State) : State :=
  let p := roleRecord addr s
  if p.2 && recovered then
    modBand unit (fun b => { b with live := b.live + 1, wp := b.wp + 1 })
      (modBand old (fun b =>
        let b' := { b with relocs := min 65535 (b.relocs + 1), live := b.live - 1 }
        if b'.live = 0 ∧ s.bandWorn b' ∧ b'.type ≤ bandUsed then { b' with type := bandRetired } else b') p.1)
  else p.1

def execSectorRelocation (recovered : Bool) (addr old unit : Nat) (s : State) : Res :=
  .next (live s (relocation recovered addr old unit))

end Sys2Proof.Machine
end

