-- ==== Sys2Proof/Machine/Solder.lean ====
section
/-!
DEFINITION. Solder (15_solder_fabric.md): the port states and their links (R375, R376), forwarding (R372, R374), the zone copy
(R378 to R382), lease messages (R383), and the requester's side of the register mailbox (R385). `MB_REQ`, which needs
the control bus, is in `Access.lean`.
-/
namespace Sys2Proof.Machine

/-! ### Ends of copies and accesses at the requester -/

/-- A copy ends at its source (R382): what it still had to send is discarded, and its completion is posted. -/
def srcEnd (id status : Nat) (s : State) : State :=
  match s.sld.srcs.find? (fun c => c.id == id) with
  | none => s
  | some c =>
    let mine (k : Pkt) : Bool := s.ownData k && (match k.body with | .data i .. => i == id | _ => false)
    (modSld (fun v => { v with
      srcs := v.srcs.filter fun x => x.id != id
      cq := v.cq ++ [(status, c.tag)]
      ports := v.ports.map fun q => { q with queue := q.queue.filter fun k => !mine k } }) s).on SLD_STAT_COPY_DONE

/-- The answer to a mailbox access, or what stands for it: STATUS and read data (R385). -/
def mbAnswer (tag status data : Nat) (s : State) : State :=
  match s.sld.mb.find? (fun e => e.2 == tag) with
  | none => s
  | some e =>
    let s1 := modSld (fun v => { v with mb := v.mb.filter fun x => x.2 != tag }) s
    let s2 := (s1.on (SLD_MB_RESP_DONE.inBank e.1)).set (SLD_MB_RESP_STATUS.inBank e.1) status
    if status = 0 then s2.set (SLD_MB_RDATA_DATA.inBank e.1) data else s2

/-- A request of this node is dropped here (R374). -/
def ownDrop (k : Pkt) (s : State) : State :=
  match k.body with
  | .data id .. => srcEnd id 2 s
  | .copyReq id .. => srcEnd id 2 s
  | .copyEnd id _ => srcEnd id 2 s
  | .mbReq .. => mbAnswer k.tag 2 0 s
  | _ => s

/-- A port whose DATA packets wait asks for its permit (R377). -/
def portAsk (p : Fin 4) (s : State) : State :=
  if (s.sld.ports[p]).queue.any s.ownData && !s.granted (portSlot p) then
    let s1 := hwAsk (portSlot p) (s.raw SLD_CFG_PERMIT_MA * 10) s
    if s1.granted (portSlot p) then portDrain p s1 else s1.on SLD_STAT_PERMIT_WAIT
  else s

/-- Route packets and act on the requests of this node that are dropped; `from_` is the port they came in by. -/
def sldSend (from_ : Option (Fin 4)) (ks : List Pkt) (s : State) : State :=
  let r := handAll from_ ks s
  let s1 := r.2.foldl (fun t k => ownDrop k t) r.1
  portAsk 3 (portAsk 2 (portAsk 1 (portAsk 0 s1)))

/-- A packet of this node. -/
def State.mkPkt (s : State) (dst tag : Nat) (body : Body) : Pkt := { dst, src := s.node, vc := 0, tag, body }

/-- An answer of the destination of a copy. -/
def copyAnswer (node id : Nat) (ans : CopyAns) (s : State) : State :=
  sldSend none [s.mkPkt node id (.copyResp id ans)] s

/-! ### Port states (R375) -/

/-- Put the state of a port. -/
def setPort (p : Fin 4) (st : Nat) (s : State) : State := s.set (SLD_P_STAT_STATE p.val) st

/-- A port leaves UP. -/
def portLeaves (p : Fin 4) (s : State) : State := s.when (s.portUp p) (·.on SLD_STAT_LINK_DOWN)

/-- A port transmits idle, discards what it holds, and is DISABLED. -/
def portDisable (p : Fin 4) (s : State) : State :=
  setPort p slpDisabled (modPort p (fun _ => default) (portLeaves p s))

/-- A port goes DOWN from the states before UP. -/
def portFail (st : Nat) (p : Fin 4) (s : State) : State :=
  s.when (s.raw (SLD_P_STAT_STATE p.val) == st) (setPort p slpDown)

/-- Whether Assay has taken a port. -/
def State.portTaken (s : State) (p : Fin 4) : Bool :=
  match s.asy.step with
  | some x => x.test == 8 && x.unit == p.val
  | none => false

/-- Whether a port may leave DISABLED: the enables, a dimension above 1 (R371), no supply below its reset level, and not taken
by Assay. -/
def State.portMay (s : State) (p : Fin 4) : Bool :=
  s.sldOn && s.flag (SLD_P_CTL_EN p.val) && s.portDim p != 1 && !s.pwr.reset12 && !s.pwr.reset5 && !s.portTaken p

def portEnable (p : Fin 4) (s : State) : State :=
  s.when (s.portMay p && s.raw (SLD_P_STAT_STATE p.val) == slpDisabled) (setPort p slpTrain)

def execPortEnable (p : Fin 4) (s : State) : Res := .next (live s (portEnable p))

def execTrainLock (p : Fin 4) (s : State) : Res :=
  .next (live s fun s => s.when (s.raw (SLD_P_STAT_STATE p.val) == slpTrain) (setPort p slpAlign))

def execTrainTimeout (p : Fin 4) (s : State) : Res := .next (live s (portFail slpTrain p))

def execFrameAlign (p : Fin 4) (s : State) : Res :=
  .next (live s fun s => s.when (s.raw (SLD_P_STAT_STATE p.val) == slpAlign) (setPort p slpHello))

def execAlignTimeout (p : Fin 4) (s : State) : Res := .next (live s (portFail slpAlign p))

/-- The HELLO of a port: its node and dimensions. -/
def helloSend (p : Fin 4) (s : State) : State :=
  s.when (s.raw (SLD_P_STAT_STATE p.val) == slpHello) (·.emit (.solderHello p s.node s.xdim s.ydim))

def execHelloSend (p : Fin 4) (s : State) : Res := .next (live s (helloSend p))

/-- A HELLO is received: from the expected peer with equal dimensions it brings the port UP; any other is a miswire. -/
def hello (p : Fin 4) (node port xdim ydim : Nat) (s : State) : State :=
  if s.raw (SLD_P_STAT_STATE p.val) ≠ slpHello then s
  else
    let s1 := (s.set (SLD_P_STAT_PEER_NODE p.val) node).set (SLD_P_STAT_PEER_PORT p.val) port
    if node = s.peerNode p ∧ port = peerPort p ∧ xdim = s.xdim ∧ ydim = s.ydim then
      setPort p slpUp (modPort p (fun _ => default) (s1.on SLD_STAT_LINK_UP))
    else setPort p slpDown (s1.on SLD_STAT_MISWIRE)

def execHello (p : Fin 4) (node : Fin 512) (port : Fin 4) (xdimM1 : Fin 32) (ydimM1 : Fin 16) (s : State) : Res :=
  .next (live s (hello p node.val port.val (xdimM1.val + 1) (ydimM1.val + 1)))

def execHelloTimeout (p : Fin 4) (s : State) : Res := .next (live s (portFail slpHello p))

/-- An UP port fails: what it has not had acknowledged and what it holds is routed again, and the port is DOWN. -/
def linkFailure (p : Fin 4) (s : State) : State :=
  if s.portUp p then
    let v := s.sld.ports[p]
    let s1 := patTrig 57 p.val (setPort p slpDown (modPort p (fun _ => default) (portLeaves p s)))
    sldSend none (v.replay.map (·.2) ++ v.queue) s1
  else s

def execLinkFailure (p : Fin 4) (unc : Nat) (s : State) : Res :=
  .next (live s fun s => linkFailure p (s.when (s.portUp p) (·.bump (SLD_P_FEC_UNC_COUNT p.val) unc)))

def execDownRetry (p : Fin 4) (s : State) : Res :=
  .next (live s fun s => s.when (s.raw (SLD_P_STAT_STATE p.val) == slpDown) (setPort p slpTrain))

/-- SLD_Pp_CTL.EN is cleared. -/
def portOff (p : Fin 4) (s : State) : State := portDisable p (s.off (SLD_P_CTL_EN p.val))

def execPortDisable (p : Fin 4) (s : State) : Res := .next (live s (portOff p))

/-! ### Links (R376) -/

/-- Replay from the oldest unacknowledged packet; after 3 replays without an acknowledgement the link fails (R375). -/
def replayAll (p : Fin 4) (s : State) : State :=
  let v := s.sld.ports[p]
  if v.replay.isEmpty then s
  else if 3 ≤ v.replays then linkFailure p s
  else
    v.replay.foldl (fun t e => t.emit (.solder p e.1 e.2))
      (modPort p (fun x => { x with replays := x.replays + 1 }) (s.bump (SLD_P_REPLAY_COUNT p.val) 1))

/-- What stays unacknowledged when the receiver expects `next`: a number that names no packet held acknowledges nothing. -/
def SPort.unacked (v : SPort) (next : Nat) : List (Nat × Pkt) :=
  if v.replay.any (fun e => e.1 == next) then v.replay.dropWhile fun e => e.1 != next
  else if next = v.tx then [] else v.replay

/-- A LACK: what precedes `next` is acknowledged; a NAK replays the rest. -/
def lack (p : Fin 4) (r : Rx) (next : Nat) (nak : Bool) (s : State) : State :=
  if !s.portUp p then s
  else
    let s1 := s.bump (SLD_P_FEC_CORR_COUNT p.val) r.corr
    if r.frameBad then s1.bump (SLD_P_FEC_UNC_COUNT p.val) 1
    else if r.crcBad then s1.bump (SLD_P_ERR_COUNT p.val) 1
    else
      let v := s1.sld.ports[p]
      let rest := v.unacked next
      let s2 := modPort p (fun x => { x with replay := rest, replays := if rest.length < v.replay.length then 0 else x.replays }) s1
      portAsk p (portDrain p (if nak then replayAll p s2 else s2))

def execLack (p : Fin 4) (r : Rx) (next : Fin 256) (nak : Bool) (s : State) : Res :=
  .next (live s (lack p r next.val nak))

/-- The receiver sends a LACK with the LSEQ it expects; TAG[0] tells of a discard. -/
def lackSend (p : Fin 4) (s : State) : State :=
  if s.portUp p then
    modPort p (fun v => { v with nak := false }) (s.emit (.solderLack p (s.sld.ports[p]).rx (s.sld.ports[p]).nak))
  else s

def execLackSend (p : Fin 4) (s : State) : Res := .next (live s (lackSend p))

def execReplayTimeout (p : Fin 4) (s : State) : Res := .next (live s fun s => s.when (s.portUp p) (replayAll p))

/-- A packet of domain scope reaches a port: it is taken in LSEQ order when its frames and its CRC pass, else discarded. -/
def rxTake (p : Fin 4) (r : Rx) (s : State) : State × Bool :=
  if !s.portUp p then (s, false)
  else
    let s1 := s.bump (SLD_P_FEC_CORR_COUNT p.val) r.corr
    let drop (t : State) : State := modPort p (fun v => { v with nak := true }) t
    if r.frameBad then (drop (s1.bump (SLD_P_FEC_UNC_COUNT p.val) 1), false)
    else if r.crcBad then (drop (s1.bump (SLD_P_ERR_COUNT p.val) 1), false)
    else if r.lseq ≠ (s1.sld.ports[p]).rx then (drop s1, false)
    else (modPort p (fun v => { v with rx := (v.rx + 1) % 256 }) s1, true)

/-- A packet is taken and acted on. -/
def rxDo (p : Fin 4) (r : Rx) (f : State → State) (s : State) : State :=
  let t := rxTake p r s
  if t.2 then f t.1 else t.1

/-- A packet for another node goes on (R372, R374); one of a reserved type is dropped and counted (R370). -/
def packetForward (p : Fin 4) (r : Rx) (reserved : Bool) (k : Pkt) (s : State) : State :=
  if reserved then rxDo p r (·.bump (SLD_P_ERR_COUNT p.val) 1) s
  else if k.dst = s.node then s
  else rxDo p r (sldSend (some p) [k]) s

def execPacketForward (p : Fin 4) (r : Rx) (reserved : Bool) (k : Pkt) (s : State) : Res :=
  .next (live s (packetForward p r reserved k))

/-! ### Zone copy, source (R378, R380 to R382) -/

/-- What the map says of LBAs `lba` to `last` of a namespace, as (slot, descriptor); none where a read of them fails: an
UNREC extent, or a walk that finds no descriptor. -/
def mapSpan (ns last : Nat) : (fuel lba : Nat) → State → State × Option (List (Nat × Nat))
  | 0, _, s => (s, some [])
  | fuel + 1, lba, s =>
    if last < lba then (s, some [])
    else
      let w := walk ns lba s
      match w.2 with
      | .hit slot d =>
        if dUnrec d then (w.1, none)
        else
          let r := mapSpan ns last fuel (dLba d + dLenM1 d + 1) w.1
          (r.1, r.2.map ((slot, d) :: ·))
      | .gap l => mapSpan ns last fuel (lba / 65536 * 65536 + l + 1) w.1
      | .fault .. => (w.1, none)
      | .unavailable => (w.1, none)

/-- What the map says of a piece of a chunk: 2,048 sectors. -/
def pieceSpan (ns chunk piece : Nat) (s : State) : State × Option (List (Nat × Nat)) :=
  let a := chunk * 65536 + piece * 2048
  mapSpan ns (a + 2047) 2048 a s

/-- Data flits in packets of at most 32. -/
def split32 : Nat → List Nat → List (List Nat)
  | 0, _ => []
  | _ + 1, [] => []
  | n + 1, a :: l => (a :: l).take 32 :: split32 n ((a :: l).drop 32)

/-- The DATA packets of a piece. -/
def State.piecePkts (s : State) (c : SrcCopy) (piece : Nat) (flits : List Nat) : List Pkt :=
  let l := split32 flits.length flits
  l.zipIdx.map fun e => s.mkPkt c.node c.id (.data c.id piece c.comp (e.2 + 1 == l.length) e.2 e.1)

/-- Change a copy that runs as source. -/
def modSrc (id : Nat) (f : SrcCopy → SrcCopy) (s : State) : State :=
  modSld (fun v => { v with srcs := v.srcs.map fun c => if c.id = id then f c else c }) s

/-- Read one piece and send it; one that cannot be read ends the copy with READ_ERR. -/
def srcPiece (c : SrcCopy) (piece : Nat) (first : Bool) (flits : List Nat) (s : State) : State :=
  let r := pieceSpan c.ns c.chunk piece s
  match r.2 with
  | none => srcEnd c.id 5 r.1
  | some l =>
    let s1 := if first then modSrc c.id (fun x => { x with credits := x.credits - 1, next := piece + 1, snap := x.snap ++ l }) r.1
      else r.1
    sldSend none (s1.piecePkts c piece flits) s1

/-- Send the pieces read, as far as credits go. -/
def srcGo (id : Nat) : List (List Nat) → State → State
  | [], s => s
  | d :: t, s =>
    match s.sld.srcs.find? (fun c => c.id == id) with
    | some c => if 0 < c.credits ∧ c.next < 32 then srcGo id t (srcPiece c c.next true d s) else s
    | none => s

/-- What the map says of the whole chunk now. -/
def chunkSpan (ns chunk : Nat) : List Nat → State → State × Option (List (Nat × Nat))
  | [], s => (s, some [])
  | p :: t, s =>
    let r := pieceSpan ns chunk p s
    let q := chunkSpan ns chunk t r.1
    (q.1, r.2.bind fun l => q.2.map (l ++ ·))

/-- Whether a namespace of this drive exists. -/
def State.nsOk (s : State) (ns : Nat) : Bool := 1 ≤ ns && ns ≤ 4 && s.flag (XLT_NS_CFG_EN (ns - 1))
/-- Whether a namespace is zoned. -/
def State.nsZoned (s : State) (ns : Nat) : Bool := s.flag (XLT_NS_CFG_ZONED (ns - 1))

/-- After the last PIECE_OK: the source of a conventional chunk checks that no record has changed it, and sends its digest. -/
def srcFinish (c : SrcCopy) (digest : Nat) (s : State) : State :=
  let r := chunkSpan c.ns c.chunk (List.range 32) s
  if !s.nsZoned c.ns && r.2 != some c.snap then srcEnd c.id 4 r.1
  else
    sldSend none [s.mkPkt c.node c.id (.copyEnd c.id digest)] (modSrc c.id (fun x => { x with ended := true }) r.1)

/-- A COPY_RESP at the source: `data` are the pieces it reads and sends on it, `digest` its SHAKE256 once all are sent. -/
def copyResp (src id : Nat) (ans : CopyAns) (data : List (List Nat)) (digest : Nat) (s : State) : State :=
  match s.sld.srcs.find? (fun c => c.id == id) with
  | none => s
  | some c =>
    if ans = .unreach then srcEnd id 2 s
    else if src ≠ c.node then s
    else
      match ans with
      | .accept => if c.next = 0 ∧ c.credits = 0 then srcGo id data (modSrc id (fun x => { x with credits := 4 }) s) else s
      | .pieceOk k =>
        if c.next ≤ k ∨ c.oks.contains k then s
        else
          let s1 := modSrc id (fun x => { x with credits := x.credits + 1, oks := k :: x.oks }) s
          if c.oks.length + 1 = 32 then srcFinish c digest s1 else srcGo id data s1
      | .resend k =>
        if c.next ≤ k then s
        else if tabLook 0 c.resends k = 3 then srcEnd id 7 s
        else
          let s1 := modSrc id (fun x => { x with resends := tabPut 0 x.resends k (tabLook 0 x.resends k + 1) }) s
          srcPiece c k false (data.headD []) s1
      | .refused => srcEnd id 3 s
      | .done => if c.ended then srcEnd id 0 s else s
      | .mismatch => if c.ended then srcEnd id 1 s else s
      | .aborted => srcEnd id 7 s
      | .unreach => s

def execCopyResp (p : Fin 4) (r : Rx) (src : Fin 512) (id : Fin 256) (ans : CopyAns) (data : List (List Nat)) (digest : Nat)
    (s : State) : Res :=
  .next (live s (rxDo p r (copyResp src.val id.val ans data digest)))

/-- Whether the device may copy: PS0 or PS1, with step S2 of R320 at On. -/
def State.copyPower (s : State) : Bool := s.raw PWR_STATE_CUR ≤ 1 && s.stepOn 2

/-- Metadata bytes per sector of a namespace (R245). -/
def State.nsMeta (s : State) (ns : Nat) : Nat :=
  match (s.hif.ns.toList.getD (ns - 1) default).fmt with
  | 0 => 0
  | 1 => 8
  | _ => 16

/-- Whether the source chunk may be copied (R378): a zone must be Full. -/
def copyable (ns chunk : Nat) (s : State) : State × Bool :=
  if !s.nsOk ns then (s, false)
  else if !s.nsZoned ns then (s, true)
  else
    let r := readImage false (s.chunkOf ns (chunk * 65536)) s
    (r.1, match r.2 with | some c => cZs c == 4 | none => false)

/-- COPY_IDs not in use. -/
def State.freeIds (s : State) : List Nat := (List.range 256).filter fun i => !s.sld.srcs.any fun c => c.id == i

/-- Start an accepted copy: a free COPY_ID, and the COPY_REQ. -/
def copyStart (r : Req) (w0 w1 w2 tag : Nat) (s : State) : State :=
  let d := s.draw
  let ids := s.freeIds
  let id := ids.getD (Config.freeValue d.2 % ids.length) 0
  let c : SrcCopy := { id, tag, node := bits w0 0 9, ns := bits w0 24 4, chunk := bits w1 0 19, comp := bitOf w0 31,
                       credits := 0, next := 0, oks := [], resends := [], snap := [], ended := false }
  let s1 := (modSld (fun v => { v with srcs := v.srcs ++ [c] }) d.1).set (SLD_CP_RESP_COPY_ID.of r) id
  sldSend none [s1.mkPkt c.node id (.copyReq id (bits w0 20 4) (bits w2 0 19) (s.nsMeta c.ns))] s1

/-- A write of SLD_CP_W3 (R378, in the order of R442): RESULT, and the copy when it is accepted. -/
def copyCommit (r : Req) (w3 : Nat) (s : State) : State :=
  let w0 := s.raw ((SLD_CP_W 0).of r)
  let w1 := s.raw ((SLD_CP_W 1).of r)
  let w2 := s.raw ((SLD_CP_W 2).of r)
  let s0 := s.set ((SLD_CP_W 3).of r) w3
  let q := copyable (bits w0 24 4) (bits w1 0 19) s0
  let res :=
    if !s.sldOn ∨ bits w0 0 9 = s.node then 3
    else if 4 ≤ s.sld.srcs.length then 1
    else if !q.2 then 2
    else if !s.copyPower then 4
    else 0
  let s1 := ((if res = 0 ∨ res = 2 ∨ res = 4 then q.1 else s0).set (SLD_CP_RESP_RESULT.of r) res).on (SLD_CP_RESP_DONE.of r)
  if res = 0 then copyStart r w0 w1 w2 (bits w3 0 24) s1 else s1

def execCopyCommit (r : Req) (w3 : Word) (s : State) : Res := .next (live s (copyCommit r w3.toNat))

/-! ### Zone copy, destination (R379 to R381) -/

/-- Whether a copy runs into a chunk of a namespace. -/
def State.copyInto (s : State) (ns chunk : Nat) : Bool := s.sld.dsts.any fun c => c.ns == ns && c.chunk == chunk

/-- A copy leaves the destination. -/
def dstGone (c : DstCopy) (s : State) : State :=
  modSld (fun v => { v with dsts := v.dsts.filter fun x => !(x.node == c.node && x.id == c.id) }) s

/-- The destination ends a copy and holds nothing of it. -/
def dstDrop (c : DstCopy) (s : State) : State := freeBand c.band (dstGone c s)

/-- The destination ends a copy with ABORTED. -/
def dstAbort (c : DstCopy) (s : State) : State := copyAnswer c.node c.id .aborted (dstDrop c s)

/-- A Zone Reset or Offline of a chunk ends the copy into it before it acts (R379). -/
def dstAbortChunk (ns chunk : Nat) (s : State) : State :=
  s.sld.dsts.foldl (fun t c => if c.ns = ns ∧ c.chunk = chunk then dstAbort c t else t) s

/-- Whether a COPY_REQ can be accepted (R379). -/
def copyAccept (ns chunk md : Nat) (s : State) : State × Bool :=
  if !s.nsOk ns ∨ s.raw (XLT_NS_CFG_CHUNKS (ns - 1)) ≤ chunk then (s, false)
  else
    let r := readImage false (s.chunkOf ns (chunk * 65536)) s
    let empty := match r.2 with
      | some c => if s.nsZoned ns then cZs c == 0 else !cRv c
      | none => false
    (r.1, empty && s.nsMeta ns == md && decide (s.sld.dsts.length < 4) && s.copyPower)

/-- A COPY_REQ; `band` is the free band that XL1 allocates when it accepts. -/
def copyReq (src id ns chunk md band : Nat) (s : State) : State :=
  let q := copyAccept ns chunk md s
  if !q.2 then copyAnswer src id .refused q.1
  else if (s.band band).type ≠ bandFree then s
  else
    let c : DstCopy := { node := src, id, ns, chunk, band, oks := [], got := [], last := [], resends := [] }
    copyAnswer src id .accept (modBand band (fun b => { b with type := bandUsed, live := 0, wp := 0 })
      (modSld (fun v => { v with dsts := v.dsts ++ [c] }) q.1))

def execCopyReq (p : Fin 4) (r : Rx) (src : Fin 512) (id : Fin 256) (ns : Fin 16) (chunk : BitVec 19) (md : BitVec 8) (band : Nat)
    (s : State) : Res :=
  .next (live s (rxDo p r (copyReq src.val id.val ns.val chunk.toNat md.toNat band)))

/-- The copy from a node with a COPY_ID. -/
def State.dstOf (s : State) (src id : Nat) : Option DstCopy := s.sld.dsts.find? fun c => c.node == src && c.id == id

/-- Change a copy that runs as destination. -/
def modDst (c : DstCopy) (f : DstCopy → DstCopy) (s : State) : State :=
  modSld (fun v => { v with dsts := v.dsts.map fun x => if x.node = c.node ∧ x.id = c.id then f x else x }) s

/-- Answer a piece with RESEND: the fourth of one piece ends the copy. -/
def dstResend (c : DstCopy) (piece : Nat) (s : State) : State :=
  let n := tabLook 0 c.resends piece + 1
  let s1 := copyAnswer c.node c.id (.resend piece) s
  if n = 4 then dstDrop c s1
  else
    modDst c (fun x => { x with
      resends := tabPut 0 x.resends piece n
      got := x.got.filter fun e => e.1 != piece
      last := x.last.filter fun e => e.1 != piece }) s1

/-- Whether every packet of a piece has arrived. -/
def DstCopy.whole (c : DstCopy) (piece : Nat) : Bool :=
  match c.last.find? (fun e => e.1 == piece) with
  | some e => (List.range (e.2 + 1)).all fun i => c.got.contains (piece, i)
  | none => false

/-- A DATA packet: a piece that is complete is decompressed where COMP says so, written to the band and answered PIECE_OK;
`decOk` tells whether it decompresses. -/
def copyData (src id piece : Nat) (comp last : Bool) (ofs : Nat) (decOk : Bool) (s : State) : State :=
  match s.dstOf src id with
  | none => s
  | some c =>
    if c.oks.contains piece then s
    else
      let f (x : DstCopy) : DstCopy := { x with
        got := if x.got.contains (piece, ofs) then x.got else (piece, ofs) :: x.got
        last := if last && !x.last.any (fun e => e.1 == piece) then (piece, ofs) :: x.last else x.last }
      let s1 := modDst c f s
      if !(f c).whole piece then s1
      else if comp && !decOk then dstResend (f c) piece s1
      else
        copyAnswer src id (.pieceOk piece)
          (modBand c.band (fun b => { b with wp := b.wp + 2048 })
            (modDst c (fun x => { x with
              oks := piece :: x.oks
              got := x.got.filter fun e => e.1 != piece
              last := x.last.filter fun e => e.1 != piece }) s1))

def execData (p : Fin 4) (r : Rx) (src : Fin 512) (id : Fin 256) (piece : Fin 32) (comp last : Bool) (ofs : BitVec 16) (decOk : Bool)
    (s : State) : Res :=
  .next (live s (rxDo p r (copyData src.val id.val piece.val comp last ofs.toNat decOk)))

/-- A piece is not complete PIECE_MS after its last packet arrived. -/
def pieceTimeout (src id piece : Nat) (s : State) : State :=
  match s.dstOf src id with
  | none => s
  | some c => if c.got.any fun e => e.1 == piece then dstResend c piece s else s

def execPieceTimeout (src : Fin 512) (id : Fin 256) (piece : Fin 32) (s : State) : Res :=
  .next (live s (pieceTimeout src.val id.val piece.val))

/-- A COPY_END: `own` is the destination's digest, `addr` the record by which XL1 maps the chunk to the new band. One that
finds no copy is answered ABORTED (R382). -/
def copyEnd (src id digest own addr : Nat) (s : State) : State :=
  match s.dstOf src id with
  | none => copyAnswer src id .aborted s
  | some c =>
    if digest = own ∧ c.oks.length = 32 then
      let p := roleRecord addr s
      if p.2 then
        copyAnswer src id .done (modBand c.band (fun b => { b with live := 65536, wp := 65536 }) (dstGone c p.1))
      else dstAbort c p.1
    else patTrig 58 c.chunk (copyAnswer src id .mismatch (dstDrop c s))

def execCopyEnd (p : Fin 4) (r : Rx) (src : Fin 512) (id : Fin 256) (digest own : BitVec 256) (addr : Nat) (s : State) : Res :=
  .next (live s (rxDo p r (copyEnd src.val id.val digest.toNat own.toNat addr)))

/-- No answer within COPY_MS: the source ends with TIMEOUT; a destination that hears no more frees its band (R382). -/
def copyTimeout (src : Option (Fin 512)) (id : Nat) (s : State) : State :=
  match src with
  | none => srcEnd id 6 s
  | some n =>
    match s.dstOf n.val id with
    | some c => dstDrop c s
    | none => s

def execCopyTimeout (src : Option (Fin 512)) (id : Fin 256) (s : State) : Res := .next (live s (copyTimeout src id.val))

def execCopyCompletionPop (s : State) : Res := .next (live s (modSld fun v => { v with cq := v.cq.tail }))

/-- Step S2 is lowered, or SLD disabled: every copy ends with ABORTED (R382). -/
def copiesAbort (s : State) : State :=
  let s1 := s.sld.srcs.foldl (fun t c => srcEnd c.id 7 t) s
  s1.sld.dsts.foldl (fun t c => dstAbort c t) s1

/-- Every port is disabled. -/
def portsDisable (s : State) : State := portDisable 3 (portDisable 2 (portDisable 1 (portDisable 0 s)))

/-- SLD_CTL.EN is cleared: the ports are disabled and the copies end. -/
def sldDisable (s : State) : State := copiesAbort (portsDisable (s.off SLD_CTL_EN))

/-! ### Lease messages (R383) -/

/-- A message enters SLD_RXQ; while the queue holds 32 the packet waits for a place. -/
def rxqPut (m : SMsg) (s : State) : State :=
  if s.sld.rxq.length < 32 then (modSld (fun v => { v with rxq := v.rxq ++ [m] }) s).on SLD_STAT_RXQ else s

/-- A lease message is taken while SLD_RXQ has room. -/
def leaseMsg (p : Fin 4) (r : Rx) (m : SMsg) (f : State → State) (s : State) : State :=
  if s.sld.rxq.length < 32 then rxDo p r (fun t => f (rxqPut m t)) s else s

def execLeaseReq (p : Fin 4) (r : Rx) (src : Fin 512) (req : Fin 256) (ma : BitVec 12) (dur : BitVec 16) (s : State) : Res :=
  .next (live s (leaseMsg p r { type := 6, src := src.val, req := req.val, ma := ma.toNat, dur := dur.toNat } id))

/-- On a grant the borrower writes its lease-in entry `k`: END is its own wall counter [47:16] plus DUR. -/
def leaseIn (k src ma dur : Nat) (s : State) : State :=
  leaseWrite k (2 ^ 31 + src * 2 ^ 16 + ma) (s.set (BUL_LEASE_W1_END k) (bits s.inv.wall 16 32 + dur))

def execLeaseGrant (p : Fin 4) (r : Rx) (src : Fin 512) (req : Fin 256) (ma : BitVec 12) (dur : BitVec 16) (k : Fin 16) (s : State) :
    Res :=
  .next (live s (leaseMsg p r { type := 7, src := src.val, req := req.val, ma := ma.toNat, dur := dur.toNat }
    (leaseIn k.val src.val ma.toNat dur.toNat)))

def execLeaseDeny (p : Fin 4) (r : Rx) (src : Fin 512) (req : Fin 256) (ma : BitVec 12) (dur : BitVec 16) (s : State) : Res :=
  .next (live s (leaseMsg p r { type := 8, src := src.val, req := req.val, ma := ma.toNat, dur := dur.toNat } id))

/-- A write of SLD_MSG_W2: RESULT 10b while SLD is disabled, 01b for another type, and 00b when it is sent. -/
def messageSend (r : Req) (w2 : Nat) (s : State) : State :=
  let s0 := s.set ((SLD_MSG_W 2).of r) w2
  let w0 := s.raw ((SLD_MSG_W 0).of r)
  let w1 := s.raw ((SLD_MSG_W 1).of r)
  let t := bits w0 28 4
  let res := if !s.sldOn then 2 else if t < 6 ∨ 8 < t then 1 else 0
  let s1 := (s0.set (SLD_MSG_RESP_RESULT.of r) res).on (SLD_MSG_RESP_DONE.of r)
  if res = 0 then
    sldSend none [s.mkPkt (bits w0 0 9) 0 (.lease t (bits w1 24 8) (bits w1 12 12) (bits w2 0 16))] s1
  else s1

def execMessageSend (r : Req) (w2 : Word) (s : State) : Res := .next (live s (messageSend r w2.toNat))

def execRxqPop (s : State) : Res := .next (live s (modSld fun v => { v with rxq := v.rxq.tail }))

/-! ### Register mailbox, requester (R385) -/

/-- A write of SLD_MB_W2: the access is sent, or STATUS 101b while SLD is disabled. -/
def mailboxCommit (r : Req) (w2 : Nat) (s : State) : State :=
  let s0 := (s.set ((SLD_MB_W 2).of r) w2).off (SLD_MB_RESP_DONE.of r)
  if !s.sldOn then (s0.set (SLD_MB_RESP_STATUS.of r) 5).on (SLD_MB_RESP_DONE.of r)
  else
    let w0 := s.raw ((SLD_MB_W 0).of r)
    let tag := s.sld.mbTag
    let s1 := modSld (fun v => { v with
      mb := (v.mb.filter fun e => e.1 != bankOf r) ++ [(bankOf r, tag)], mbTag := (tag + 1) % 65536 }) s0
    sldSend none [s.mkPkt (bits w0 0 9) tag (.mbReq (bitOf w0 31) (bits (s.raw ((SLD_MB_W 1).of r)) 2 23 * 4) w2)] s1

def execMailboxCommit (r : Req) (w2 : Word) (s : State) : Res := .next (live s (mailboxCommit r w2.toNat))

def execMbResp (p : Fin 4) (r : Rx) (tag : BitVec 16) (status : Fin 8) (data : Word) (s : State) : Res :=
  .next (live s (rxDo p r (mbAnswer tag.toNat status.val data.toNat)))

/-- No answer within TO_US. -/
def mailboxTimeout (r : Req) (s : State) : State :=
  match s.sld.mb.find? (fun e => e.1 == bankOf r) with
  | some e => mbAnswer e.2 3 0 s
  | none => s

def execMailboxTimeout (r : Req) (s : State) : Res := .next (live s (mailboxTimeout r))

end Sys2Proof.Machine
end

