-- ==== Sys2Proof/Machine/Power.lean ====
section
/-!
DEFINITION. Supplies (R313 to R317), the start of the power-loss save (R270), power states (R318 to R326), and the orderly
stop that Constantan takes through them (R345).
-/
namespace Sys2Proof.Machine

/-- Change the hidden part of PWR. -/
def modPwr (f : Pwr → Pwr) (s : State) : State := { s with pwr := f s.pwr }

/-! ### The start of a save (R270, R316, R402) -/

/-- The dirty units in ascending address. -/
def State.dirtyList (s : State) : List Nat := (s.buf.units.filter fun u => u.2.dirty).map (·.1)

/-- Whether the journal ring holds records. -/
def State.journalHeld (s : State) : Bool := s.raw BUF_JRN_HEAD_OFS != s.raw BUF_JRN_TAIL_OFS

/-- The main die stops and the save starts: BUF takes the snapshot of the DIRTY bits, and vault commands still queued
complete 0111b. Nothing is written while the region is not armed (R269), nor by a DEV-clearing reset with nothing to save
(R402). -/
def saveBegin (skipEmpty : Bool) (s : State) : State :=
  let units := s.dirtyList
  let go := 258 < s.erasedPages && !(skipEmpty && units.isEmpty && !s.journalHeld)
  let s1 := s.vlt.queue.foldl (fun t c => vltPost 7 c.tag 0 t) s
  modVlt (fun v => { v with saving := go, snap := units })
    { s1 with
      die := { s1.die with phase := .saving, ran := go }
      pwr := { s1.pwr with trans := none, held := none, retry := none } }

/-! ### Supplies (R313, R314, R316) -/

/-- Put whether a rail (0 VIN12, 1 VIN5) is below warning. -/
def setBelow (rail : Fin 2) (b : Bool) (s : State) : State :=
  modPwr (fun p => if rail = 0 then { p with below12 := b } else { p with below5 := b }) s

/-- BUL_STAT.FROZEN as R314 gives it: a rail below warning and none at its reset level. -/
def syncFrozen (s : State) : State :=
  s.put BUL_STAT_FROZEN ((s.pwr.below12 || s.pwr.below5) && !s.pwr.reset12 && !s.pwr.reset5)

/-- A rail falls below warning. The main die, when it runs, freezes Bullion and records the dip. -/
def supplyWarning (rail : Fin 2) (s : State) : State :=
  if (if rail = 0 then s.pwr.below12 else s.pwr.below5) then s
  else
    let s1 := setBelow rail true s
    live s1 fun t =>
      patTrig 40 rail.val ((syncFrozen (t.on (if rail = 0 then PWR_STAT_DIP12 else PWR_STAT_DIP5))).bump PWR_DIPS_COUNT 1)

def execSupplyWarning (rail : Fin 2) (s : State) : Res := .next (supplyWarning rail s)

/-- Both rails have stayed at or above warning for 100 µs (R313): the freeze ends and Bullion walks; after a save's trailer
the module's power-on is requested (R317). -/
def supplyClear (s : State) : State :=
  let s1 := modPwr (fun p => { p with below12 := false, below5 := false, reset12 := false, reset5 := false, rectEn := false }) s
  if s1.die.phase = .held ∧ s1.die.loss then { s1 with die := { s1.die with request := true } }
  else live s1 fun t => bulWalk (syncFrozen t)

def execSupplyWarningClear (s : State) : Res := .next (supplyClear s)

/-- What the power die does at a reset level (R316): the input switch opens, both actuators retract, and the bridge
rectifies; nothing after a lost heartbeat (R15). -/
def powerDieLoss (s : State) : State :=
  let s1 := { s with pd := { s.pd with swOpen := true } }
  if s1.pd.safe then s1 else rectifyEntry (retract 1 (retract 0 s1))

/-- A rail reaches its reset level (R316). A running main die raises the emergency, disables
its Solder ports (R375) and starts the save; a save under way
goes on, and a power-on follows it; a die held in reset is held for the power-on. -/
def supplyReset (rail : Fin 2) (s : State) : State :=
  let s1 := modPwr (fun p => if rail = 0 then { p with below12 := true, reset12 := true, rectEn := true }
    else { p with below5 := true, reset5 := true, rectEn := true }) s
  let s2 := powerDieLoss s1
  match s2.die.phase with
  | .running | .rom =>
    let s3 := saveBegin false (portsDisable (emergency s2.emergCauses (syncFrozen s2)))
    { s3 with die := { s3.die with loss := true } }
  | .saving => { s2 with die := { s2.die with loss := true, reset := none } }
  | .held => { s2 with die := { s2.die with loss := true, cleared := false, request := false, ran := false } }
  | .off => s2

def execSupplyResetLevel (rail : Fin 2) (s : State) : Res := .next (supplyReset rail s)

/-! ### Requested states (R319) -/

/-- The setting of a step in a power state (R320): 0 is nearest operation. -/
def stepLevel (k ps : Nat) : Nat :=
  match k with
  | 1 | 2 | 3 => if 2 ≤ ps then 1 else 0
  | 4 => if 3 ≤ ps then 1 else 0
  | 5 | 6 => if ps = 3 then 1 else if ps = 4 then 2 else 0
  | _ => if ps = 4 then 1 else 0

/-- The setting of step Sk now. -/
def State.lvl (s : State) (k : Nat) : Nat := s.pwr.lvl.toList.getD (k - 1) 0

/-- Put the setting of step Sk. -/
def setLvl (k v : Nat) (s : State) : State :=
  if h : k - 1 < 7 then modPwr (fun p => { p with lvl := p.lvl.set (k - 1) v }) s else s

/-- The state the device is asked to run in (R319): the lowest that an enabled controller requests; with none enabled, the
controllers of the port mode count. -/
def State.wantState (s : State) : Nat :=
  let en (c : Fin 2) : Bool := s.flag (HIF_C_STAT_EN c.val)
  let r (c : Fin 2) : Nat := s.pwr.req[c]
  match en 0, en 1 with
  | true, true => min (r 0) (r 1)
  | true, false => r 0
  | false, true => r 1
  | false, false => if s.flag SYS_STRAP_X2_ACTIVE then min (r 0) (r 1) else r 0

/-- Give a Set Features command of `(sq, cid)` its outcome (R319). -/
def cmdOutcome (ctl : Fin 2) (sq cid : Nat) (st : HStat) (s : State) : State :=
  { s with hif := { s.hif with cmds := s.hif.cmds.map fun c =>
      if c.ctl = ctl ∧ c.sq = sq ∧ c.e.cid = cid then { c with status := some st } else c } }

/-- Answer the command behind a request: success, or SCT 7h with `sc`. -/
def pwrReply (r : PReq) (sct sc : Nat) (s : State) : State :=
  match r.cmd with
  | none => s
  | some (sq, cid) => cmdOutcome r.ctl sq cid { sct, sc, crd := 0, dnr := false } s

/-- Show the held request (R323). -/
def syncHeld (s : State) : State :=
  match s.pwr.held with
  | none => (s.off PWR_STATE_HELD_V).off PWR_STATE_HELD
  | some r => (s.on PWR_STATE_HELD_V).set PWR_STATE_HELD r.st

/-- A controller's value of a feature, 0 when it has not been set. -/
def State.feat (s : State) (c : Fin 2) (k : Nat) : Nat := (tabLook none (s.hif.ctrl[c]).feats k).getD 0

/-- Change a controller. -/
def modCtrl (c : Fin 2) (f : Ctrl → Ctrl) (s : State) : State := { s with hif := { s.hif with ctrl := vmod s.hif.ctrl c f } }

/-- An asynchronous event for a controller (R213): DW0 of the completion as NVMe 2.0 lays it out (type, information, log
page). An outstanding Asynchronous Event Request completes with it; without one it waits. -/
def eventTo (c : Fin 2) (code : Nat) (s : State) : State :=
  if !s.flag (HIF_C_STAT_EN c.val) then s
  else
    match (s.hif.ctrl[c]).aers with
    | [] => modCtrl c (fun x => { x with events := x.events ++ [code] }) s
    | cid :: rest =>
      let s1 := modCtrl c (fun x => { x with aers := rest }) s
      { s1 with hif := { s1.hif with cmds := s1.hif.cmds.map fun x =>
          if x.ctl = c ∧ x.sq = 0 ∧ x.e.cid = cid then
            { x with status := some { sct := 0, sc := 0, crd := 0, dnr := false }, dw0 := code } else x } }

/-- An event for every controller whose Asynchronous Event Configuration (feature 0Bh) enables bit `mask`. -/
def hostEvent (mask code : Nat) (s : State) : State :=
  let one (c : Fin 2) (t : State) : State := if bitOf (t.feat c 0x0B) mask then eventTo c code t else t
  one 1 (one 0 s)

/-! ### Steps (R320, R321) -/

/-- Heads unloaded for S4; those loaded are noted. -/
def s4Lower (s : State) : State :=
  let s0 := modPwr (fun p => { p with loaded := Vector.ofFn fun a => s.actUp a }) s
  let s1 := if s0.actUp 0 then cmdUnload 0 s0 else s0
  if s1.actUp 1 then cmdUnload 1 s1 else s1

/-- The heads that were loaded are loaded again (R321). -/
def s4Raise (s : State) : State :=
  let s1 := if s.pwr.loaded[0] && s.actSt 0 == actParked then cmdLoad 0 s else s
  if s1.pwr.loaded[1] && s1.actSt 1 == actParked then cmdLoad 1 s1 else s1

/-- S3 lowered (R409): Temper not ready, both parity accumulators empty, the active sets not ready, no slot pinned or
filled, no completion held, and the synthesizers off. -/
def s3Lower (s : State) : State :=
  let s1 := (List.finRange 4).foldl (fun t ch => synthOut ch (t.off (RCH_SEL_READY ch.val))) (s.set TPR_STAT_READY 0)
  { s1 with
    wch := s1.wch.map fun c => { c with acc := 0, mask := 0 }
    rch := s1.rch.map fun c => { c with pins := 0, slots := [], acc := 0, mask := 0, par := false, cq := [] }
    deep := { s1.deep with cq := [] } }

/-- 5,400 rpm in units of 1/16 rpm. -/
def rpm5400 : Nat := 86400

/-- S6: TARGET 5,400 rpm, the operating TARGET, or STOP. From a stop the SPIN role then takes slot 0 and starts. -/
def s6Go (old new : Nat) (s : State) : State :=
  let s0 := if old = 0 then modPwr (fun p => { p with opTarget := s.raw SPN_SPEED_TARGET }) s else s
  match new with
  | 2 => if s0.spnSt = spnOff then s0 else cmdStop s0
  | 1 => targetWrite rpm5400 s0
  | _ => targetWrite s0.pwr.opTarget s0

/-- MODE frames to both preamps. -/
def modeBoth (kind : PaKind) (v : Nat) (s : State) : State := modeFrame 1 kind v (modeFrame 0 kind v s)

/-- S7 turned on: MODE sleep (R98); turned off: MODE idle, the cores run on FRC at once, and the wall counter follows R58. -/
def s7Go (new : Nat) (s : State) : State :=
  if new = 1 then modeBoth .modeSleep 0 s
  else
    modeBoth .modeIdle 1 (modClk (fun c => { c with cur := (c.cur.set 0 0).set 3 3 })
      ((((s.set (CLK_MUX_SEL 0) 0).off (CLK_MUX_BUSY 0)).set (CLK_MUX_SEL 3) 3).on INV_WTMR_STAT_WALL_DEGRADED))

/-- What starts when step Sk goes to setting `new`; S2 lowered ends the zone copies (R382). -/
def stepGo (k new : Nat) (s : State) : State :=
  let old := s.lvl k
  let s1 := ((setLvl k new s).set PWR_STATE_STEP k).put PWR_STATE_RAISE (new < old)
  match k with
  | 2 => if new = 1 then copiesAbort s1 else s1
  | 3 => if new = 1 then s3Lower s1 else s1
  | 4 => if new = 1 then s4Lower s1 else s4Raise s1
  | 6 => s6Go old new s1
  | 7 => s7Go new s1
  | _ => s1

/-- I/O commands of a controller outstanding. -/
def State.ioOut (s : State) (c : Fin 2) : Bool := s.hif.cmds.any fun x => x.ctl == c && x.sq != 0

/-- Whether an I/O submission queue of a controller holds an unfetched entry. -/
def State.ioWaits (s : State) (c : Fin 2) : Bool := (s.hif.ctrl[c]).sqs.any fun q => q.id != 0 && q.head != q.tail

/-- The cap as it would be at a TARGET (R80, R253). -/
def State.capAt (s : State) (target : Nat) : Nat :=
  let t := s.set SPN_SPEED_TARGET target
  (t.set SPN_HOLDUP_E_MJ t.holdupMj).cap

/-- Whether a preamp frame of a MODE write waits or is being sent. -/
def State.modeQueued (s : State) (a : Fin 2) : Bool :=
  let v := s.srv[a]
  (v.sending.toList ++ v.queue ++ v.wait).any fun f => f.kind == .modeSleep || f.kind == .modeIdle

/-- Whether step Sk has reached its setting (R320). -/
def State.stepDone (s : State) (k : Nat) : Bool :=
  match k, s.lvl k with
  | 1, 1 => !s.ioOut 0 && !s.ioOut 1
  | 2, 1 => (s.cmp.eng[0]).run.isNone && (s.cmp.eng[1]).run.isNone && s.asy.step.isNone
  | 4, 1 => s.actSt 0 == actParked && s.actSt 1 == actParked
  | 4, _ => (List.finRange 2).all fun a => !s.pwr.loaded[a] || s.actSt a == actFollow
  | 5, 0 => s.withinCap
  | 5, 1 => s.dirtyUnits ≤ s.capAt rpm5400
  | 5, _ => s.dirtyUnits == 0 && s.raw XLT_JSEQ_JSEQ ≤ s.raw XLT_JRN_PERS_JSEQ
  | 6, 2 => s.spnSt == spnOff
  | 6, _ => s.spnSt == spnRun && s.flag SPN_STAT_AT_SPEED
  | 7, _ => !s.modeQueued 0 && !s.modeQueued 1
  | _, _ => true

/-! ### Transitions (R321 to R323) -/

/-- The steps from the settings in force to those of a state: the ones nearer operation in descending order, then the rest
in ascending order. -/
def State.pwrPlan (s : State) (b : Nat) : List (Nat × Nat) :=
  let ks := [1, 2, 3, 4, 5, 6, 7]
  ((ks.reverse.filter fun k => stepLevel k b < s.lvl k) ++ (ks.filter fun k => s.lvl k < stepLevel k b)).map
    fun k => (k, stepLevel k b)

/-- The steps of an orderly stop (R345): S1 to S6 to their PS4 settings. -/
def State.stopPlan (s : State) : List (Nat × Nat) :=
  ([1, 2, 3, 4, 5, 6].filter fun k => s.lvl k < stepLevel k 4).map fun k => (k, stepLevel k 4)

/-- Put the transition. -/
def setTrans (t : Option PTrans) (s : State) : State := modPwr (fun p => { p with trans := t }) s

/-- Start towards state `b`. -/
def pwrStart (r : Option PReq) (b : Nat) (s : State) : State :=
  setTrans (some { frm := s.raw PWR_STATE_CUR, dest := b, req := r, plan := s.pwrPlan b, done := [], back := false,
                   stop := false, began := s.inv.wall }) (s.set PWR_STATE_TARGET b)

/-- Start the orderly stop, keeping the request of an abandoned transition (R345). -/
def pwrStop (s : State) : State :=
  let r := s.pwr.trans.bind (·.req)
  let s1 := if s.pwr.held.isNone then modPwr (fun p => { p with held := r }) s else s
  setTrans (some { frm := s.raw PWR_STATE_CUR, dest := 4, req := none, plan := s.stopPlan, done := [], back := false,
                   stop := true, began := s.inv.wall }) (syncHeld s1)

/-- The sources of a request by an I/O submission (R326). -/
def ioSrc (src : Nat) : Bool := src == 1 || src == 2

/-- A rolled-back transition ends (R322, R319, R325). -/
def pwrRolled (t : PTrans) (s : State) : State :=
  let s1 := s.on PWR_STAT_ROLLBACK
  let s2 := patTrig 42 (s1.pack [PWR_REFUSE_STEP, PWR_REFUSE_CAUSE, PWR_REFUSE_FROM, PWR_REFUSE_TO]) s1
  match t.req with
  | none => s2
  | some r =>
    let s3 := if s2.pwr.req[r.ctl] = r.st then modPwr (fun p => { p with req := p.req.set r.ctl r.old }) s2 else s2
    let s4 := pwrReply r 7 0xC2 s3
    if ioSrc r.src && t.dest < t.frm then modPwr (fun p => { p with retry := some r }) s4 else s4

/-- A completed transition ends (R319, R325, R326). -/
def pwrCompleted (t : PTrans) (s : State) : State :=
  let s1 := (s.set PWR_STATE_CUR t.dest).on PWR_STAT_DONE
  let s2 := if t.dest ≤ 1 then s1.set PWR_STATE_LAST_OP t.dest else s1
  let s3 := if t.dest < t.frm then
      (s2.set PWR_WAKE_SRC_SRC (match t.req with | some r => r.src | none => 0)).set PWR_WAKE_SRC_MS
        (sat 16 ((s.inv.wall - t.began) / 1000000))
    else s2
  let s4 := modPwr (fun p => { p with wakeFail := false, tries := 0, retry := none }) s3
  bulWalk (match t.req with | some r => pwrReply r 0 0 s4 | none => s4)

/-- The transition under way ends. An orderly stop leaves the device STOPPED with fetching resumed (R344). -/
def pwrEnd (t : PTrans) (s : State) : State :=
  let s1 := setTrans none ((s.off PWR_STATE_STEP).off PWR_STATE_RAISE)
  if t.stop then setLvl 1 0 (s1.set THM_STAT_STATE 2)
  else if t.back then pwrRolled t s1
  else pwrCompleted t s1

/-- Run the sequencer: begin the next step of the transition, end one that has none left, and then judge the held request
against the state in force (R323). `fuel` bounds the transitions without steps. -/
def pwrRun : Nat → State → State
  | 0, s => s
  | fuel + 1, s =>
    match s.pwr.trans with
    | some t =>
      match t.plan with
      | [] => pwrRun fuel (pwrEnd t s)
      | (k, v) :: _ =>
        stepGo k v (setTrans (some { t with done := if t.back then t.done else (k, s.lvl k) :: t.done }) s)
    | none =>
      match s.pwr.held with
      | none => s
      | some r =>
        if s.raw THM_STAT_STATE ≠ 0 then s
        else
          let s1 := syncHeld (modPwr (fun p => { p with held := none }) s)
          if s1.wantState = s1.raw PWR_STATE_CUR then pwrReply r 0 0 s1
          else pwrRun fuel (pwrStart (some r) s1.wantState s1)

/-- A power-state request (R319, R323): one that finds a transition or a thermal stop is held, and replaces the one held
before. -/
def pwrRequest (src : Nat) (ctl : Fin 2) (st : Nat) (cmd : Option (Nat × Nat)) (s : State) : State :=
  let r : PReq := { src, ctl, st, old := s.pwr.req[ctl], cmd }
  let s1 := modPwr (fun p => { p with
    req := p.req.set ctl st
    lastOp := if st ≤ 1 then p.lastOp.set ctl st else p.lastOp }) s
  if s1.pwr.trans.isSome || s1.raw THM_STAT_STATE != 0 then
    let s2 := match s1.pwr.held with
      | some h => pwrReply h 7 0xC3 s1
      | none => s1
    syncHeld (modPwr (fun p => { p with held := some r }) (s2.on PWR_STAT_HELD))
  else pwrRun 4 (modPwr (fun p => { p with held := some r }) s1)

/-- A write of PWR_REQ with GO (R326). -/
def pwrReqWrite (v : Nat) (s : State) : State :=
  let s1 := ((s.set PWR_REQ_SRC (bits v 4 4)).put PWR_REQ_CTRL (bitOf v 3)).set PWR_REQ_STATE (bits v 0 3)
  if bitOf v 31 then
    pwrRequest (s1.raw PWR_REQ_SRC) (if s1.flag PWR_REQ_CTRL then 1 else 0) (s1.get PWR_REQ_STATE) none s1
  else s1

def execPowerStateRequest (v : Word) (s : State) : Res := .next (live s (pwrReqWrite (setBit v.toNat 31)))

/-- An I/O entry arrives for a controller whose request is non-operational (R325). -/
def ioArrival (ctl : Fin 2) (s : State) : State :=
  if 2 ≤ s.pwr.req[ctl] && !s.pwr.wakeFail then
    pwrRequest (1 + ctl.val) ctl s.pwr.lastOp[ctl] none (modPwr (fun p => { p with tries := 0 }) s)
  else s

/-- The step at the head of the plan is over: the next begins; an orderly stop that has come due takes over here (R345). -/
def pwrNext (t : PTrans) (s : State) : State :=
  let s1 := setTrans (some { t with plan := t.plan.tail }) s
  pwrRun 4 (if s1.raw THM_STAT_STATE = 1 ∧ !t.stop then pwrStop s1 else s1)

/-- The present step has reached its condition (R321). -/
def powerStepDone (s : State) : State :=
  match s.pwr.trans with
  | some t =>
    match t.plan with
    | (k, _) :: _ => if s.stepDone k then pwrNext t s else s
    | [] => s
  | none => s

def execPowerStepDone (s : State) : Res := .next (live s powerStepDone)

/-- Whether a refusal cause (PWR_REFUSE.CAUSE) fits a step and is reported by its block. -/
def State.refuses (s : State) (k cause : Nat) : Bool :=
  match cause with
  | 1 => true
  | 2 => k == 4 && s.flag ACT_STAT_CMD_REFUSED
  | 3 => k == 4 && s.raw ACT_STAT_LOAD_FAIL != 0
  | 4 => k == 6 && s.flag SPN_STAT_CMD_REFUSED
  | 5 => k == 6 && s.flag SPN_STAT_START_FAIL
  | 6 => k == 5
  | _ => false

/-- A refused step of the orderly stop (R345): S4 becomes RETRACT, S6 FLOAT; any other is left. -/
def stopRefused (k : Nat) (t : PTrans) (s : State) : State :=
  match k with
  | 4 => cmdRetract 1 (cmdRetract 0 s)
  | 6 => cmdFloat s
  | _ => pwrNext t s

/-- A step is refused (R322): the steps changed return to their settings, newest first. A step refused while it is being
returned is left. -/
def powerStepRefused (cause : Nat) (s : State) : State :=
  match s.pwr.trans with
  | none => s
  | some t =>
    match t.plan with
    | [] => s
    | (k, _) :: _ =>
      if !s.refuses k cause then s
      else if t.stop then stopRefused k t s
      else if t.back then pwrNext t s
      else
        let s1 := (((s.set PWR_REFUSE_STEP k).set PWR_REFUSE_CAUSE cause).set PWR_REFUSE_FROM t.frm).set PWR_REFUSE_TO t.dest
        pwrRun 4 (setTrans (some { t with plan := t.done, back := true }) s1)

def execPowerStepRefused (cause : Fin 16) (s : State) : Res := .next (live s (powerStepRefused cause.val))

/-! ### APST and wakes (R324, R325) -/

/-- The APST entry of power state `n` of a controller, and whether APST is enabled, as Set Features left them. -/
def State.apst (s : State) (c : Fin 2) (n : Nat) : Nat := s.feat c (0x100 + n)

/-- APSTE of a controller. -/
def State.apste (s : State) (c : Fin 2) : Bool := bitOf (s.feat c 0x0C) 0

/-- A controller has been idle for ITPT ms in its requested state: its request becomes ITPS. -/
def apstIdle (c : Fin 2) (s : State) : State :=
  let e := s.apst c s.pwr.req[c]
  s.when (s.flag (HIF_C_STAT_EN c.val) && s.apste c && s.pwr.req[c] ≤ 4 && bits e 8 24 != 0 && !s.ioOut c && !s.ioWaits c)
    (pwrRequest 5 c (bits e 3 5) none)

def execApstIdleTimeout (c : Fin 2) (s : State) : Res := .next (live s (apstIdle c))

/-- 1 s after a rolled-back raise (R325): it is tried again, or the device stays with WAKE_FAIL and fetches again. -/
def wakeRetry (s : State) : State :=
  match s.pwr.retry with
  | none => s
  | some r =>
    let s1 := modPwr (fun p => { p with retry := none }) s
    if s1.pwr.tries < s1.raw PWR_CTL_WAKE_TRIES then
      pwrRequest r.src r.ctl s1.pwr.lastOp[r.ctl] none (modPwr (fun p => { p with tries := p.tries + 1 }) s1)
    else modPwr (fun p => { p with wakeFail := true }) (s1.on PWR_STAT_WAKE_FAIL)

def execWakeRetry (s : State) : Res := .next (live s wakeRetry)

/-- Whether the fetching of I/O queues is paused (S1), which WAKE_FAIL ends (R325). -/
def State.fetchPaused (s : State) : Bool := !s.stepOn 1 && !s.pwr.wakeFail

/-- A write of PWR_MON12 or PWR_MON5 (R313): discarded when the levels are out of their range or order. -/
def monWrite (r : Nat) (v : Nat) (s : State) : State :=
  let warn := bits v 18 14
  let rst := bits v 4 14
  let lo := if r = 0 then 9000 else 4000
  let hi := if r = 0 then 11500 else 4750
  if lo ≤ warn && warn ≤ hi && lo ≤ rst && rst ≤ hi && rst + bits v 0 4 * 25 < warn then
    ((s.set (PWR_MON_WARN_MV r) warn).set (PWR_MON_RESET_MV r) rst).set (PWR_MON_HYST r) (bits v 0 4)
  else s

end Sys2Proof.Machine
end

