-- ==== Sys2Proof/Machine/Thermal.lean ====
section
/-!
DEFINITION. Constantan (R341 to R346): conversions, the conditions, the orderly and the immediate stop, and resuming.
-/
namespace Sys2Proof.Machine

/-- Change Constantan's hidden part. -/
def modThm (f : Thm → Thm) (s : State) : State := { s with thm := f s.thm }

/-- THM_STAT.STATE: 0 NORMAL, 1 STOPPING, 2 STOPPED, 3 CRIT. -/
def State.thmSt (s : State) : Nat := s.raw THM_STAT_STATE

/-- Whether a diode reading is implausible (R341), in eighths of a degree. -/
def implausible (t ro : Int) : Bool := t < -320 || 1200 < t || 80 < (t - ro).natAbs

/-- A diode's conversion: its reading, and its exclusion with a Patina trigger when it becomes implausible. -/
def diodeConv (k : Nat) (t ro : Int) (s : State) : State :=
  let bad := implausible t ro
  let was := s.flag (THM_SENS_IMPLAUS k)
  let s1 := (((s.on (THM_SENS_VALID k)).setI (THM_SENS_T k) t).put (THM_SENS_IMPLAUS k) bad)
  if bad && !was then patTrig 48 k (s1.on THM_STAT_IMPLAUS) else s1

/-- The diodes in use (R341, R342), with their readings. -/
def State.diodes (s : State) : List (Nat × Int) :=
  if s.flag THM_CTL_DIODE then
    ((List.range 12).filter fun k => s.flag (THM_SENS_VALID k) && !s.flag (THM_SENS_IMPLAUS k) && !s.bit THM_CTL_EXCL k).map
      fun k => (k, s.geti (THM_SENS_T k))
  else []

/-- The sites in use: the diodes, or the ring oscillator when it stands in (R342). -/
def State.sites (s : State) : List (Nat × Int) :=
  match s.diodes with
  | [] => [(15, s.geti (THM_SENS_T 15))]
  | l => l

/-- The highest site, the first of equals. -/
def hottest : List (Nat × Int) → Nat × Int
  | [] => (15, 0)
  | [x] => x
  | x :: t => let y := hottest t; if x.2 < y.2 then y else x

/-- A limit in °C, in eighths, lowered by RO_MARGIN while the ring oscillator stands in (R342). -/
def State.thmLimit (s : State) (f : Fld) : Int :=
  (s.raw f : Int) * 8 - (if s.flag THM_STAT_RO_IN_USE then (s.raw THM_RISE_RO_MARGIN : Int) * 8 else 0)

/-- TMAX and its records: PEAK, the history of 1,000 ms and 60 s, and the rises. A rise is 0 until the history reaches
back that far. -/
def recordTmax (s : State) : State :=
  let h := hottest s.sites
  let s1 := ((s.put THM_STAT_RO_IN_USE s.diodes.isEmpty).set THM_TMAX_SITE h.1).setI THM_TMAX_TMAX h.2
  let s2 := if s1.geti THM_TMAX_PEAK < h.2 then s1.setI THM_TMAX_PEAK h.2 else s1
  let r1 := match s2.thm.ms[999]? with | some x => h.2 - x | none => 0
  let r60 := match s2.thm.secs[59]? with | some x => h.2 - x | none => 0
  modThm (fun t =>
    { t with
      ms := (h.2 :: t.ms).take 1000
      secs := if t.tick + 1 < 1000 then t.secs else (h.2 :: t.secs).take 60
      tick := (t.tick + 1) % 1000 })
    ((s2.setI THM_RISE_NOW_R1 r1).setI THM_RISE_NOW_R61 r60)

/-- An orderly stop (R345): the steps S1 to S6 go down; a transition under way gives way at its next step. -/
def orderlyStop (s : State) : State :=
  if s.thmSt = 0 then
    let s1 := patTrig 50 (s.raw THM_TMAX_TMAX) (s.set THM_STAT_STATE 1)
    if s1.pwr.trans.isSome then s1 else pwrRun 4 (pwrStop s1)
  else s

/-- The power die's part of an immediate stop and of the sequence of R402: spindle floating, both actuators retracted and
then clamped, microactuators at 0 V (R16, R346). -/
def powerDieSafe (s : State) : State :=
  let s1 := retract 1 (retract 0 (maZero 1 (maZero 0 s)))
  let s2 := if s1.spnSt = spnRectify ∨ s1.spnSt = spnOff then modSpn (fun p => { p with bridge := .float }) s1
    else spnGo spnOff .float s1
  { s2 with pd := { s2.pd with safe := true } }

/-- An immediate stop (R346): Quench trigger 110b, the power die made safe, and the save; the main die then stays in
reset. -/
def immediateStop (s : State) : State :=
  let s1 := quenchBoth 6 ((s.set THM_STAT_STATE 3).on THM_STAT_CRIT_TRIP)
  let s2 := saveBegin false (powerDieSafe (patTrig 51 (s1.raw THM_TMAX_TMAX) s1))
  { s2 with die := { s2.die with crit := true }, pins := { s2.pins with flt := true } }

/-- Set a condition flag; newly met, it does `f` as well. -/
def condition (c : Bool) (fl : Fld) (f : State → State) (s : State) : State :=
  if c then if s.flag fl then s else f (s.on fl) else s

/-- The conditions of R343 other than CRIT. -/
def thmConditions (s : State) : State :=
  let t := s.geti THM_TMAX_TMAX
  let rise1 := s.raw THM_RISE_RISE1 * 2 ≤ (s.geti THM_RISE_NOW_R1).toNat
  let rise60 := s.raw THM_RISE_RISE60 * 8 ≤ (s.geti THM_RISE_NOW_R61).toNat && s.thmLimit THM_RISE_FLOOR_C ≤ t
  let stop := s.thmLimit THM_LIM_STOP_C ≤ t
  let s1 := condition (s.thmLimit THM_LIM_WARN_C ≤ t) THM_STAT_WARN
    (fun u => hostEvent 1 (1 + 1 * 256 + 2 * 65536) (patTrig 49 (u.raw THM_TMAX_TMAX) u)) s
  let s2 := condition rise1 THM_STAT_RISE1 id s1
  let s3 := condition rise60 THM_STAT_RISE60 id s2
  let s4 := condition stop THM_STAT_STOP id s3
  if rise1 || rise60 || stop then orderlyStop s4 else s4

/-- A conversion of every site (R341, R343): the twelve diodes and the ring oscillator, in eighths of a degree. -/
def conversion (t : Vector (BitVec 11) 12) (ro : BitVec 11) (s : State) : State :=
  let s1 := (s.on (THM_SENS_VALID 15)).setI (THM_SENS_T 15) ro.toInt
  let s2 := (List.finRange 12).foldl (fun u k => diodeConv k.val (t[k]).toInt ro.toInt u) s1
  let s3 := recordTmax s2
  let crit := s3.sites.any fun x => s3.thmLimit THM_LIM_CRIT_C ≤ x.2
  let s4 := modThm (fun u => { u with critNow := crit }) s3
  if crit then immediateStop s4
  else if s4.flag THM_CTL_EN then thmConditions s4
  else s4

def execTemperatureConversion (t : Vector (BitVec 11) 12) (ro : BitVec 11) (s : State) : Res :=
  .next (live s (conversion t ro))

/-- STOPPED is left (R344): the steps go back to the state requested, and a request held meanwhile is judged with it. -/
def thmResume (s : State) : State :=
  if s.thmSt = 2 ∧ s.geti THM_TMAX_TMAX ≤ s.thmLimit THM_LIM_RESUME_C then
    let s1 := (s.set THM_STAT_STATE 0).on THM_STAT_RESUMED
    let r := s1.pwr.held
    pwrRun 4 (pwrStart r s1.wantState (syncHeld (modPwr (fun p => { p with held := none }) s1)))
  else s

def execThermalResume (s : State) : Res := .next (live s thmResume)

/-- 60 s at or below RESUME_C with AUTO_RESUME (R344). -/
def execAutoResume (s : State) : Res := .next (live s fun s => s.when (s.flag THM_CTL_AUTO_RESUME) thmResume)

end Sys2Proof.Machine
end

