-- ==== Sys2Proof/Machine/Calib.lean ====
section
/-!
DEFINITION. CAL (R347 to R352): due items, the sample accumulators, and corrections.
-/
namespace Sys2Proof.Machine

/-! ### Due items (R348) -/

/-- The present reading of the sensor of item `i` for head `h`. -/
def State.calReading (s : State) (h i : Nat) : Nat :=
  match s.get (CAL_ITEM_SENSOR i) with
  | 14 => s.raw (THM_SENS_T (if h < 10 then 3 else 4))
  | 15 => s.raw THM_TMAX_TMAX
  | k => s.raw (THM_SENS_T k)

/-- Whether an item of a head is due. -/
def State.calDue (s : State) (h i : Nat) : Bool :=
  !s.flag (CAL_LAST_VALID h i) ||
  s.raw (CAL_ITEM_DELTA i) < (sgn 11 (s.calReading h i) - sgn 11 (s.raw (CAL_LAST_LAST_T h i))).natAbs

/-- The evaluation of each millisecond. -/
def calEvaluate (s : State) : State :=
  (List.range 5).foldl (fun t i =>
    let d := (List.range 20).foldl (fun v h => if s.calDue h i then setBit v h else v) 0
    let new := (List.range 20).any fun h => bitOf d h && !t.bit (CAL_ITEM_DUE i) h
    let t1 := t.set (CAL_ITEM_DUE i) d
    if new then t1.on CAL_STAT_DUE else t1) s

def execCalDueEvaluation (s : State) : Res := .next (live s fun s => s.when (s.flag CAL_CTL_EN) calEvaluate)

/-- A write of CAL_DONE with GO: the run of item `i`, head `h` is recorded. -/
def calDone (v : Nat) (s : State) : State :=
  let s0 := (s.set CAL_DONE_ITEM (bits v 24 3)).set CAL_DONE_HEAD (bits v 16 5)
  let i := s0.get CAL_DONE_ITEM
  let h := s0.raw CAL_DONE_HEAD
  if bitOf v 31 && h < 20 then
    (((s0.set (CAL_LAST_LAST_T h i) (s0.calReading h i)).on (CAL_LAST_VALID h i)).off (CAL_LAST_FAILS h i)).offBit
      (CAL_ITEM_DUE i) h
  else s0

def execCalDone (v : Word) (s : State) : Res := .next (live s (calDone (setBit v.toNat 31)))

/-! ### Accumulators (R349) -/

/-- Clear the accumulators and the histogram. -/
def calClear (s : State) : State :=
  (List.range 64).foldl (fun t b => t.set (CAL_HIST_COUNT b) 0)
    ([CAL_ACC_SUM_VALUE, CAL_ACC_SQ_VALUE, CAL_ACC_PEAK_POS, CAL_ACC_PEAK_NEG, CAL_ACC_CLIP_VALUE,
      CAL_ACC_CNT_VALUE].foldl (fun t f => t.set f 0) s)

/-- A write of CAL_ACC_CTL: GO clears the accumulators and starts. -/
def calAccWrite (v : Nat) (s : State) : State :=
  let s1 := ((((s.put CAL_ACC_CTL_SRC (bitOf v 30)).set CAL_ACC_CTL_CH (bits v 28 2)).put CAL_ACC_CTL_READER (bitOf v 27)).set
    CAL_ACC_CTL_SLOT (bits v 16 6)).set CAL_ACC_CTL_LOG2N (bits v 0 5)
  if bitOf v 31 then { (calClear s1).on CAL_ACC_CTL_GO with cal := { run := true } } else s1

def execAccumulate (v : Word) (s : State) : Res := .next (live s (calAccWrite (setBit v.toNat 31)))

/-- The samples a slot holds for a reader, `n` of them: reader 0 in bits [5:0] of each 12-bit pair, reader 1 in [11:6]. -/
def slotSamples (packed reader : Nat) : Nat → List Int
  | 0 => []
  | n + 1 => sgn 6 (bits packed (reader * 6) 6) :: slotSamples (packed / 4096) reader n

/-- Add the samples taken to the accumulators. What counts as a peak the manual does not say: PEAK is a free value. -/
def calSums (l : List Int) (s : State) : State :=
  let sum := l.foldl (· + ·) 0
  let sq := l.foldl (fun n x => n + (x * x).toNat) 0
  let clip := (l.filter fun x => x == -32 || x == 31).length
  let s1 := (((s.setI CAL_ACC_SUM_VALUE sum).set CAL_ACC_SQ_VALUE sq).set CAL_ACC_CLIP_VALUE clip).set CAL_ACC_CNT_VALUE
    l.length
  let s2 := (List.range 64).foldl (fun t b => t.set (CAL_HIST_COUNT b) (l.filter fun x => x == (b : Int) - 32).length) s1
  let d := s2.draw
  let e := d.1.draw
  (e.1.set CAL_ACC_PEAK_POS (Config.freeValue d.2)).set CAL_ACC_PEAK_NEG (Config.freeValue e.2)

/-- The accumulation ends: `span` the counted samples of the reader in the capture span, `held` the pairs the named slot
holds. -/
def accDone (span : List (BitVec 6)) (held : Nat) (s : State) : State :=
  if s.cal.run then
    let n := 2 ^ s.get CAL_ACC_CTL_LOG2N
    let l := if s.flag CAL_ACC_CTL_SRC then
        let ch : Fin 4 := ⟨s.raw CAL_ACC_CTL_CH % 4, by omega⟩
        slotSamples (s.sslot ch (s.raw CAL_ACC_CTL_SLOT)).samples (s.raw CAL_ACC_CTL_READER) (min n (min held 43520))
      else (span.take n).map BitVec.toInt
    { ((calSums l s).on CAL_STAT_ACC_DONE).off CAL_ACC_CTL_GO with cal := { run := false } }
  else s

def execAccDone (span : List (BitVec 6)) (held : Nat) (s : State) : Res := .next (live s (accDone span held))

/-! ### Corrections (R350 to R352) -/

/-- Where a correction goes: its item, whether its value is signed, the table field, and the active-set field. -/
structure CalTarget where
  item : Nat
  signed : Bool
  table : Fld
  active : Option Fld
  deriving DecidableEq, Repr

/-- The target that the staged word names; none when it is reserved. -/
def State.calTarget (s : State) (r : Req) : Option CalTarget :=
  let h := s.raw (CAL_APPLY_W0_HEAD.of r)
  let z := s.raw (CAL_APPLY_W0_RZ.of r)
  let c := s.raw (CAL_APPLY_W0_CH.of r)
  let k := s.raw (CAL_APPLY_W0_TAP.of r)
  let rd := s.raw (CAL_APPLY_W0_READER.of r)
  if 20 ≤ h then none
  else
    match s.raw (CAL_APPLY_W0_TARGET.of r) with
    | 0 => some ⟨0, true, if rd = 0 then RCH_HZ_W1_OFS0 h z else RCH_HZ_W1_OFS1 h z,
        some (if rd = 0 then RCH_ACT_W1_OFS0 c else RCH_ACT_W1_OFS1 c)⟩
    | 1 => some ⟨1, false, RCH_HZ_W0_AGC_TGT h z, some (RCH_ACT_W0_AGC_TGT c)⟩
    | 2 => some ⟨2, true, if rd = 0 then RCH_HZ_W1_ASYM0 h z else RCH_HZ_W1_ASYM1 h z,
        some (if rd = 0 then RCH_ACT_W1_ASYM0 c else RCH_ACT_W1_ASYM1 c)⟩
    | 3 => if k < 53 then some ⟨3, true, RCH_EQ_TAP (s.raw (CAL_APPLY_W0_SET.of r)) k, none⟩ else none
    | 4 => some ⟨4, false, TPR_HZ_W0_ABIAS h z, none⟩
    | 5 => some ⟨4, false, TPR_HZ_W0_APEAK h z, none⟩
    | _ => none

/-- Whether the active set of the staged channel names the staged head and rate zone, with READY 1b. -/
def State.calActive (s : State) (r : Req) : Bool :=
  let c := s.raw (CAL_APPLY_W0_CH.of r)
  s.flag (RCH_SEL_READY c) && c / 2 * 10 + s.get (RCH_SEL_HEAD c) == s.raw (CAL_APPLY_W0_HEAD.of r) &&
  s.raw (RCH_SEL_RZ c) == s.raw (CAL_APPLY_W0_RZ.of r)

/-- A refused value (R350, R352). -/
def calRefused (h i : Nat) (s : State) : State :=
  let s1 := patTrig 52 (h * 256 + i) (s.on CAL_STAT_APPLY_REFUSED)
  let n := s1.raw (CAL_LAST_FAILS h i) + 1
  if s1.get CAL_CTL_MAXFAIL ≤ n then
    patTrig 53 (h * 256 + i)
      ((((s1.set (CAL_LAST_LAST_T h i) (s1.calReading h i)).off (CAL_LAST_FAILS h i)).onBit (CAL_HELD_HELD i) h).on CAL_STAT_HELD)
  else s1.set (CAL_LAST_FAILS h i) n

/-- The check of a value against its target (R350, R351): the RESULT. -/
def State.calCheck (s : State) (r : Req) (t : CalTarget) (v : Int) : Nat :=
  let now : Int := if t.signed then s.geti t.table else s.raw t.table
  if v < s.geti (CAL_LIM_LO t.item) ∨ s.geti (CAL_LIM_HI t.item) < v then 1
  else if s.raw (CAL_LIM_STEP_MAX t.item) < (v - now).natAbs then 2
  else
    let c := s.raw (CAL_APPLY_W0_CH.of r)
    if t.active.isSome && s.calActive r && !(s.inv.quiet.toList.getD c false) then 3 else 0

/-- A write of CAL_APPLY_W1. -/
def calApply (r : Req) (w1 : Nat) (s : State) : State :=
  let s0 := (s.set (CAL_APPLY_W1_RSV10.of r) (bits w1 10 22)).set (CAL_APPLY_W1_VALUE.of r) (bits w1 0 10)
  let v := sgn 10 (bits w1 0 10)
  let p : State × Nat :=
    if !s0.flag CAL_CTL_EN then (s0, 5)
    else
      match s0.calTarget r with
      | none => (s0, 4)
      | some t =>
        let res := s0.calCheck r t v
        if res ≠ 0 then (calRefused (s0.raw (CAL_APPLY_W0_HEAD.of r)) t.item s0, res)
        else
          let s1 := s0.setI t.table v
          (match t.active with | some f => if s0.calActive r then s1.setI f v else s1 | none => s1, 0)
  (p.1.set (CAL_APPLY_RESP_RESULT.of r) p.2).on (CAL_APPLY_RESP_DONE.of r)

def execCalApply (r : Req) (w1 : Word) (s : State) : Res := .next (live s (calApply r w1.toNat))

end Sys2Proof.Machine
end

