-- ==== Sys2Proof/Machine/Engine.lean ====
section
/-!
DEFINITION. Engines and the roles they hold (11_engines.md): states, control stores (R25, R265, R299), starts (R298),
migrations (R293 to R296), and the pending sources of a role (R284). Microwords are in `Micro.lean`.
-/
namespace Sys2Proof.Machine

/-- ENG_SEn_STAT.STATE codes (R274). -/
abbrev seSpare : Nat := 0
abbrev seLoading : Nat := 1
abbrev seRun : Nat := 2
abbrev seHalted : Nat := 3
abbrev seTest : Nat := 4
abbrev seFaulted : Nat := 5
abbrev seRetired : Nat := 6

/-- Change one engine. -/
def modSe (n : Fin 18) (f : Engine → Engine) (s : State) : State := { s with eng := { s.eng with se := vmod s.eng.se n f } }

/-- The state of an engine. -/
def State.seSt (s : State) (n : Nat) : Nat := s.raw (ENG_SE_STAT_STATE n)

/-- Put the state of an engine. -/
def setSe (n st : Nat) (s : State) : State := s.set (ENG_SE_STAT_STATE n) st

/-- The engine that holds a role (ENG_MAPr), when one does. -/
def State.engineOf (s : State) (r : Nat) : Option (Fin 18) :=
  if h : s.raw (ENG_MAP_ENGINE r) < 18 then
    if s.flag (ENG_MAP_VALID r) then some ⟨s.raw (ENG_MAP_ENGINE r), h⟩ else none
  else none

/-- The role an engine holds, in RUN and HALTED (R274). -/
def State.roleOf (s : State) (n : Fin 18) : Option (Fin 16) :=
  if h : s.raw (ENG_SE_STAT_ROLE n.val) < 16 then
    if s.seSt n.val = seRun ∨ s.seSt n.val = seHalted then some ⟨s.raw (ENG_SE_STAT_ROLE n.val), h⟩ else none
  else none

/-- Engines in SPARE. -/
def State.spares (s : State) : List (Fin 18) := (List.finRange 18).filter fun n => s.seSt n.val == seSpare

/-- A command to ENG that is refused. -/
def engRefuse (s : State) : State := s.on ENG_STAT_MIG_REFUSED

/-! ### Control stores (R25, R265, R297, R299) -/

/-- The word cell that an access to microword `w` of engine `n` reaches: a spare when a remap entry names the word. -/
def State.csCell (s : State) (n w : Nat) : Nat :=
  match (List.range 8).find? (fun e => s.flag (MEM_REMAP_VALID n e) && s.raw (MEM_REMAP_WORD n e) == w) with
  | some e => 8192 + e
  | none => w

/-- The 64 bits of a plane of a microword. -/
def State.csPlane (s : State) (n : Fin 18) (w p : Nat) : Nat := tabLook 0 s.eng.se[n].cs (s.csCell n.val w * 3 + p)

/-- A microword. -/
def State.microword (s : State) (n : Fin 18) (w : Nat) : Nat :=
  s.csPlane n w 0 + s.csPlane n w 1 * 2 ^ 64 + s.csPlane n w 2 * 2 ^ 128

/-- Whether a microword is uncorrectable. -/
def State.csBad (s : State) (n : Fin 18) (w : Nat) : Bool :=
  (List.range 3).any fun p => s.eng.se[n].bad.contains (s.csCell n.val w * 3 + p)

/-- Put a plane of a microword. -/
def csPut (n : Fin 18) (w p v : Nat) (s : State) : State :=
  let k := s.csCell n.val w * 3 + p
  modSe n (fun e => { e with cs := tabPut 0 e.cs k (v % 2 ^ 64), bad := e.bad.filter (· != k) }) s

/-- Load microword `w` of a role image at a DRAM address (R297). A part read from a poisoned line is uncorrectable. -/
def csLoadWord (n : Fin 18) (a : Nat) (s : State) (w : Nat) : State :=
  (List.range 3).foldl (fun t p =>
    let o := a + w * 24 + p * 8
    if t.dramOk o 8 then csPut n w p (t.dramLe o 8) t
    else
      let k := t.csCell n.val w * 3 + p
      dramUe rdEngine (o / 64) (modSe n (fun e => { e with bad := k :: e.bad }) t)) s

/-- The loader writes a whole image (R297). -/
def csLoad (n : Fin 18) (a : Nat) (s : State) : State := (List.range 8192).foldl (csLoadWord n a) s

/-- DRAM address of the image of a role. -/
def State.imageOf (s : State) (r : Nat) : Nat := s.raw (ENG_ROLE_IMG_ADDR r) * 64

/-- A write to a control-store window (R25, R299): `hi` names the upper 32 bits of the plane. A part of a word that is
uncorrectable stays so (R262). -/
def csWindowWrite (n : Fin 18) (p w : Nat) (hi : Bool) (v : Nat) (s : State) : State :=
  if s.seSt n.val = seRun ∨ s.seSt n.val = seLoading then s.on ENG_STAT_CS_BUSY
  else if s.eng.se[n].bad.contains (s.csCell n.val w * 3 + p) then s.on MEM_STAT_POISON_WR
  else csPut n w p (putBits (s.csPlane n w p) (if hi then 32 else 0) 32 v) s

def execControlStoreWrite (n : Fin 18) (p : Fin 3) (w : Fin 8192) (hi : Bool) (v : Word) (s : State) : Res :=
  .next (live s (csWindowWrite n p.val w.val hi v.toNat))

/-! ### Pending sources (R284) -/

/-- Whether one of the first `n` single-bit fields of a status register is set and enabled in the register beside it. -/
def State.irq (s : State) (stat ien n : Nat) : Bool :=
  (List.range n).any fun i => tabLook 0 s.regs (stat * 32 + i) == 1 && tabLook 0 s.regs (ien * 32 + i) == 1

/-- The block lines of the roles (R284): whether level source `src` of role `r` is asserted. -/
def State.line (s : State) (r src : Nat) : Bool :=
  match r, src with
  | 4, 3 => s.irq 0x300028 0x30002c 12
  | 4, 4 => s.raw ACT_STAT_LOAD_FAIL % 2 == 1 || s.raw ACT_STAT_UNLOAD_TO % 2 == 1 || s.raw ACT_STAT_RET_DONE % 2 == 1 ||
      s.flag ACT_STAT_CMD_REFUSED
  | 5, 3 => s.irq 0x380028 0x38002c 12
  | 5, 4 => s.raw ACT_STAT_LOAD_FAIL / 2 == 1 || s.raw ACT_STAT_UNLOAD_TO / 2 == 1 || s.raw ACT_STAT_RET_DONE / 2 == 1 ||
      s.flag ACT_STAT_CMD_REFUSED
  | 6, 3 => s.irq 0x200018 0x20001c 10
  | 7, 3 => s.irq 0xa00004 0xa00008 6
  | 8, 3 => s.irq 0xa00004 0xa00008 6
  | 7, 4 => s.hif.bell[0]
  | 8, 4 => s.hif.bell[1]
  | 9, 3 => s.irq 0x800004 0x800008 6
  | 10, 3 => (List.range 5).any fun i => tabLook 0 s.regs (0x880004 * 32 + i) == 1
  | 10, 4 =>
      let size := 2 ^ s.get BUF_JRN_RING_SIZE * 16384
      size ≤ ((s.raw BUF_JRN_HEAD_OFS + size - s.raw BUF_JRN_TAIL_OFS % size) % size) * 2
  | 11, 3 => s.hif.dmaLine
  | 12, 3 => s.irq 0xb00004 0xb00008 5
  | 12, 4 => s.irq 0x90000c 0x900010 6
  | 12, 5 => s.irq 0xc00004 0xc00008 4
  | 13, 3 => s.flag BUL_STAT_WAIT || s.irq 0xe00020 0xe00024 8 || s.irq 0xe8000c 0xe80010 7
  | 14, 3 => s.irq 0x1400008 0x140000c 5
  | 15, 3 => s.irq 0x150000c 0x1500010 7
  | r, src =>
    if h : r < 4 then
      let ch : Fin 4 := ⟨r, h⟩
      match src with
      | 3 => s.irq (0x500004 + 0x10000 * r) (0x500008 + 0x10000 * r) 9
      | 4 => s.irq (0x600004 + 0x10000 * r) (0x600008 + 0x10000 * r) 9
      | 5 => s.deep.cq.any fun c => c.ch == r
      | 6 => !s.qch.fifo[ch].isEmpty
      | _ => false
    else false

/-- ENG_ROLEr_IPEND: the edge sources held by the role and the level sources asserted. -/
def State.ipend (s : State) (r : Nat) : Nat :=
  (List.range 16).foldl (fun v i => if i < 3 then v else Sys2Proof.Machine.putBit v i (s.line r i)) (s.raw (ENG_ROLE_IPEND_PEND r))

/-- A write of ENG_ROLEr_DB. -/
def roleDoorbell (r v : Nat) (s : State) : State := roleEdge r 1 (s.set (ENG_ROLE_DB_VALUE r) v)

def execRoleDoorbell (r : Fin 16) (v : Word) (s : State) : Res := .next (live s (roleDoorbell r.val v.toNat))

/-! ### The state of a base level -/

/-- The base level of an engine at rest: everything private cleared. -/
def Engine.rest (e : Engine) : Engine :=
  { e with base := default, int := default, stack := [], link := 0, cause := 0x1F, ihold := 0, lastHold := false
           stale := false, iclk := 0, haltReq := false, served := none }

/-- Whether an engine is at a clean base boundary (R293): nothing staged, both drain queues empty, no interrupt level. -/
def State.clean (s : State) (n : Fin 18) : Bool :=
  let e := s.eng.se[n]
  !s.flag (ENG_SE_STAT_LEVEL n.val) && e.base.staged.isEmpty && e.base.sreg.isEmpty && e.base.drain.isEmpty &&
  e.int.drain.isEmpty

/-- ENG_CTXr_Gk as a table of register values. -/
def State.ctxG (s : State) (r : Nat) : Tab Nat :=
  (List.range 32).foldl (fun t k => tabPut 0 t k (s.raw (ENG_CTX_G_VALUE r k))) []

/-- Copy the base state of an engine into its role's context (R290), with the address of the next base word. -/
def saveCtx (n : Fin 18) (r : Fin 16) (next : Nat) (s : State) : State :=
  let e := s.eng.se[n]
  let s1 := (List.range 32).foldl (fun t k => t.set (ENG_CTX_G_VALUE r.val k) (tabLook 0 e.g k)) s
  { s1 with eng := { s1.eng with
      ctx := s1.eng.ctx.set r { lc := e.base.lc, flags := e.base.flags, stack := e.stack, next } } }

/-- Put an engine to a role's restart point. -/
def restoreCtx (n : Fin 18) (r : Fin 16) (s : State) : State :=
  let c := s.eng.ctx[r]
  (modSe n (fun e => { e.rest with
    g := s.ctxG r.val, stack := c.stack, base := { (default : ELevel) with lc := c.lc, flags := c.flags } })
    (s.off (ENG_SE_STAT_LEVEL n.val))).set (ENG_SE_STAT_PC n.val) c.next

/-! ### The role map and Quench (R295) -/

/-- The actuator that a CF or servo role serves. -/
def roleAct (r : Nat) : Option (Fin 2) :=
  match r with
  | 0 | 1 | 4 => some 0
  | 2 | 3 | 5 => some 1
  | _ => none

/-- Whether a CF or servo role of an actuator has no engine. -/
def State.roleMissing (s : State) (a : Fin 2) : Bool :=
  [0, 1, 2, 3, 4, 5].any fun r => roleAct r == some a && !s.flag (ENG_MAP_VALID r)

/-- Bring ENG's hold of the write requests in line with the map: SWREQ is raised while such a role has no engine. -/
def engHoldUpdate (s : State) : State :=
  [(0 : Fin 2), 1].foldl (fun t a =>
    let m := t.roleMissing a
    let t1 := { t with qch := { t.qch with engHold := t.qch.engHold.set a m } }
    if m && !t.qch.engHold[a] then quenchReq a t1 else t1) s

/-- A role has no engine. -/
def roleLost (r : Nat) (s : State) : State := engHoldUpdate (s.off (ENG_MAP_VALID r))

/-- An engine takes up a role and runs. -/
def roleTaken (r : Nat) (n : Fin 18) (s : State) : State :=
  engHoldUpdate (setSe n.val seRun
    (((s.on (ENG_MAP_VALID r)).set (ENG_MAP_ENGINE r) n.val).set (ENG_SE_STAT_ROLE n.val) r))

/-! ### Migration (R293 to R295) -/

/-- DETAIL of the engine triggers of Patina (R359). -/
def engDetail (engine role fcode : Nat) : Nat := engine * 256 + role * 16 + fcode

/-- Whether firmware activation bars migrations (R301). -/
def State.activating (s : State) : Bool :=
  s.raw HIF_ACT_PHASE == 2 || s.raw HIF_ACT_PHASE == 3 || s.raw HIF_ACT_PHASE == 4

/-- The migration of role `r` begins with the preload of engine `t`. -/
def migBegin (r : Nat) (t : Fin 18) (fault test : Bool) (s : State) : State :=
  let s1 := ((s.set ENG_MIG_STAT_PHASE 1).put ENG_MIG_STAT_FAULT fault).set ENG_MIG_STAT_ROLE r
  setSe t.val seLoading { s1 with eng := { s1.eng with target := t.val, test } }

/-- Start the fault migration of the lowest role that waits, when none is under way and a spare exists (R295). -/
def serveWaiting (s : State) : State :=
  if s.raw ENG_MIG_STAT_PHASE ≠ 0 ∨ s.activating then s
  else
    match (List.range 16).find? (fun r => s.eng.waiting.contains r), s.spares.head? with
    | some r, some t =>
      migBegin r t true false { s with eng := { s.eng with waiting := s.eng.waiting.filter (· != r) } }
    | _, _ => s

/-- A role's engine has faulted: its fault migration starts, or the role waits without an engine (R293, R295). -/
def faultMigrate (r n : Nat) (s : State) : State :=
  if !s.flag ENG_CTL_AUTO_MIG then s
  else if s.raw ENG_MIG_STAT_PHASE ≠ 0 ∧ s.raw ENG_MIG_STAT_ROLE = r then s.on ENG_MIG_STAT_FAULT
  else if s.raw ENG_MIG_STAT_PHASE = 0 && !s.activating && !s.spares.isEmpty && s.eng.waiting.isEmpty then
    match s.spares.head? with
    | some t => migBegin r t true false s
    | none => s
  else
    let s1 := roleLost r { s with eng := { s.eng with waiting := if s.eng.waiting.contains r then s.eng.waiting
      else r :: s.eng.waiting } }
    if s1.spares.isEmpty then patTrig 37 (engDetail n r 0) (s1.on ENG_STAT_NO_SPARE) else s1

/-- An engine stops with a fault (R292), once its drain queue has gone out: what it staged is discarded. -/
def seFault (n : Fin 18) (fcode : Nat) (s : State) : State :=
  let r := s.raw (ENG_SE_STAT_ROLE n.val)
  let held := (s.roleOf n).isSome
  let s1 := ((s.set (ENG_SE_FAULT_FCODE n.val) fcode).set (ENG_SE_FAULT_FPC n.val) (s.raw (ENG_SE_STAT_PC n.val))).on
    ENG_STAT_ROLE_FAULT
  let s2 := patTrig 35 (engDetail n.val r fcode)
    (setSe n.val seFaulted (modSe n Engine.rest (s1.off (ENG_SE_STAT_LEVEL n.val))))
  if held then faultMigrate r n.val s2 else s2

/-- The target of a GO: the engine named when it is SPARE, or the lowest SPARE one. -/
def State.migTarget (s : State) : Option (Fin 18) :=
  let t := s.get ENG_MIG_TARGET
  if t = 0x1F then s.spares.head? else s.spares.find? fun n => n.val == t

/-- ENG_MIG.GO (R293, R295). -/
def migGo (s : State) : State :=
  let r := s.raw ENG_MIG_ROLE
  match s.engineOf r, s.migTarget with
  | some n, some t =>
    if s.raw ENG_MIG_STAT_PHASE = 0 && s.seSt n.val == seRun && !s.activating then
      migBegin r t false (s.flag ENG_MIG_TEST) (s.on ENG_MIG_GO)
    else engRefuse s
  | _, _ => engRefuse s

/-- A write of ENG_MIG. -/
def migWrite (v : Nat) (s : State) : State :=
  let s1 := ((s.put ENG_MIG_TEST (bitOf v 30)).set ENG_MIG_ROLE (bits v 16 4)).set ENG_MIG_TARGET (bits v 8 5)
  if bitOf v 31 then migGo s1 else s1

def execMigrationGo (v : Word) (s : State) : Res := .next (live s (migWrite (setBit v.toNat 31)))

/-- TRANSFER and START are done: the target runs, and the migration is idle; `last` is its interruption in units of 10 ns
(R294). -/
def migEnd (r : Nat) (t : Fin 18) (last : Nat) (s : State) : State :=
  let s1 := ((roleTaken r t s).off ENG_MIG_STAT_PHASE).set ENG_MIG_STAT_LAST last
  serveWaiting (patTrig 36 (engDetail t.val r 0) ((s1.off ENG_MIG_GO).on ENG_STAT_MIG_DONE))

/-- The loader has written the target's image; a fault migration transfers the restart point at once, a planned one goes
on to FREEZE. -/
def migPreloaded (last : Nat) (s : State) : State :=
  if s.raw ENG_MIG_STAT_PHASE ≠ 1 then s
  else if h : s.eng.target < 18 then
    if hr : s.raw ENG_MIG_STAT_ROLE < 16 then
      let t : Fin 18 := ⟨s.eng.target, h⟩
      let r : Fin 16 := ⟨s.raw ENG_MIG_STAT_ROLE, hr⟩
      let s1 := csLoad t (s.imageOf r.val) s
      if s.flag ENG_MIG_STAT_FAULT then migEnd r.val t last (restoreCtx t r s1) else s1.set ENG_MIG_STAT_PHASE 2
    else s
  else s

def execMigrationPreloadDone (last : Nat) (s : State) : Res := .next (live s (migPreloaded last))

/-- Move the live base state of the source to the target (R293). -/
def migTransfer (n t : Fin 18) (s : State) : State :=
  let e := s.eng.se[n]
  (modSe t (fun x => { x.rest with
    g := e.g, stack := e.stack, base := { (default : ELevel) with lc := e.base.lc, flags := e.base.flags, brd := e.base.brd
                                                                  rdErr := e.base.rdErr } })
    (s.off (ENG_SE_STAT_LEVEL t.val))).set (ENG_SE_STAT_PC t.val) (s.raw (ENG_SE_STAT_PC n.val))

/-- The source, at a clean boundary, hands over to the target; a migration that a fault overtook in FREEZE takes the
restart point. -/
def migFreeze (last : Nat) (s : State) : State :=
  if s.raw ENG_MIG_STAT_PHASE ≠ 2 then s
  else if h : s.eng.target < 18 then
    if hr : s.raw ENG_MIG_STAT_ROLE < 16 then
      let t : Fin 18 := ⟨s.eng.target, h⟩
      let r : Fin 16 := ⟨s.raw ENG_MIG_STAT_ROLE, hr⟩
      if s.flag ENG_MIG_STAT_FAULT then migEnd r.val t last (restoreCtx t r s)
      else
        match s.engineOf r.val with
        | some n =>
          if s.clean n && (s.seSt n.val == seRun || s.seSt n.val == seHalted) then
            migEnd r.val t last
              (setSe n.val (if s.eng.test then seTest else seSpare) (modSe n Engine.rest (migTransfer n t s)))
          else s
        | none => s
    else s
  else s

/-! ### Starts and states (R274, R296, R298) -/

/-- ENG_ROLEr_CTL.START (R298). -/
def roleStart (r : Nat) (s : State) : State :=
  match s.engineOf r with
  | some n =>
    if s.flag ENG_CTL_EN && s.seSt n.val != seRun && s.seSt n.val != seLoading then
      setSe n.val seLoading (s.on (ENG_ROLE_CTL_START r))
    else engRefuse s
  | none => engRefuse s

def execRoleStart (r : Fin 16) (s : State) : Res := .next (live s (roleStart r.val))

/-- Clear a role's context. -/
def clearCtx (r : Fin 16) (s : State) : State :=
  let s1 := (List.range 32).foldl (fun t k => t.off (ENG_CTX_G_VALUE r.val k)) s
  { s1 with eng := { s1.eng with ctx := s1.eng.ctx.set r default } }

/-- The image of a role that START named is loaded: its engine runs from the cold entry. -/
def roleLoaded (r : Fin 16) (s : State) : State :=
  if s.flag (ENG_ROLE_CTL_START r.val) then
    match s.engineOf r.val with
    | some n =>
      let s1 := clearCtx r (csLoad n (s.imageOf r.val) s)
      roleTaken r.val n (((modSe n (fun e => { e.rest with g := [] }) (s1.off (ENG_SE_STAT_LEVEL n.val))).set
        (ENG_SE_STAT_PC n.val) 0x10).off (ENG_ROLE_CTL_START r.val))
    | none => s
  else s

def execRoleLoadDone (r : Fin 16) (s : State) : Res := .next (live s (roleLoaded r))

/-- An engine in RUN stops at its next clean boundary: now when it is at one. -/
def seHalt (n : Fin 18) (s : State) : State :=
  if s.clean n then setSe n.val seHalted (modSe n (fun e => { e with haltReq := false }) s)
  else modSe n (fun e => { e with haltReq := true }) s

/-- ENG_SEn_CTL.HALT. -/
def engineHalt (n : Fin 18) (s : State) : State := if s.seSt n.val = seRun then seHalt n s else engRefuse s

def execEngineHalt (n : Fin 18) (s : State) : Res := .next (live s (engineHalt n))

/-- ENG_SEn_CTL.RESUME. -/
def engineResume (n : Fin 18) (s : State) : State :=
  if s.flag ENG_CTL_EN && s.seSt n.val == seHalted then setSe n.val seRun s else engRefuse s

def execEngineResume (n : Fin 18) (s : State) : Res := .next (live s (engineResume n))

/-- Whether an engine is in TEST or FAULTED. -/
def State.seOut (s : State) (n : Fin 18) : Bool := s.seSt n.val == seTest || s.seSt n.val == seFaulted

/-- ENG_SEn_CTL.SPARE (R296); a role that waits for a spare is served (R295). -/
def engineSpare (n : Fin 18) (s : State) : State :=
  if s.seOut n then serveWaiting (setSe n.val seSpare (modSe n Engine.rest s)) else engRefuse s

def execEngineSpare (n : Fin 18) (s : State) : Res := .next (live s (engineSpare n))

/-- ENG_SEn_CTL.RETIRE (R296). -/
def engineRetire (n : Fin 18) (s : State) : State := if s.seOut n then setSe n.val seRetired s else engRefuse s

def execEngineRetire (n : Fin 18) (s : State) : Res := .next (live s (engineRetire n))

/-- ENG_CTL.EN is cleared: every engine in RUN halts. -/
def enginesDisable (s : State) : State :=
  (List.finRange 18).foldl (fun t n => if t.seSt n.val = seRun then seHalt n t else t) (s.off ENG_CTL_EN)

def execEnginesDisable (s : State) : Res := .next (live s enginesDisable)

/-- An engine holding a role starts at the warm entry (R300) from the image now named: G16–G31 stay as committed. -/
def seWarm (s : State) (n : Fin 18) : State :=
  if s.seSt n.val = seHalted && s.flag (ENG_MAP_VALID (s.raw (ENG_SE_STAT_ROLE n.val))) then
    let s1 := csLoad n (s.imageOf (s.raw (ENG_SE_STAT_ROLE n.val))) s
    setSe n.val seRun ((modSe n (fun e => { e.rest with g := e.g.filter fun x => 16 ≤ x.1 && x.1 < 32 }) s1).set
      (ENG_SE_STAT_PC n.val) 0x11)
  else s

end Sys2Proof.Machine
end

