-- ==== Sys2Proof/Machine/Assay.lean ====
section
/-!
DEFINITION. Assay (R353 to R358): test steps, yields and channel substitution; and the TAP (R366).
-/
namespace Sys2Proof.Machine

/-! ### Channel substitution (R358) -/

/-- Whether a channel meets the condition of test 0011b: no descriptor queued and not write-active. -/
def State.chanFree (s : State) (ch : Fin 4) : Bool :=
  s.wch[ch].queue.isEmpty && s.rch[ch].queue.isEmpty && !s.flag (WCH_CTL_WR_ACTIVE ch.val)

/-- Whether substitution on actuator `a` is accepted. -/
def State.subOk (s : State) (a : Fin 2) : Bool :=
  s.chanFree (chOf a 0) && s.chanFree (chOf a 1) && 10 ≤ (s.lane a 1).sel

/-- CH(2a + 1) takes over preamp channel 0: CH(2a) is disabled first, then the routing changes. -/
def subOn (a : Fin 2) (s : State) : State :=
  ((s.off (RCH_CTL_EN (chOf a 0).val)).off (WCH_CTL_EN (chOf a 0).val)).onBit RCH_XBAR_SRC (chOf a 1).val

/-- A write of ASY_CHSUB: accepted as a whole or discarded with SUB_REFUSED. -/
def chsubWrite (v : Nat) (s : State) : State :=
  let new (a : Fin 2) : Bool := bitOf v a.val && !s.bit ASY_CHSUB_SUB a.val
  let gone (a : Fin 2) : Bool := !bitOf v a.val && s.bit ASY_CHSUB_SUB a.val
  if (List.finRange 2).any fun a => new a && !s.subOk a then s.on ASY_STAT_SUB_REFUSED
  else
    (List.finRange 2).foldl (fun t a =>
      if new a then subOn a t else if gone a then t.offBit RCH_XBAR_SRC (chOf a 1).val else t) (s.set ASY_CHSUB_SUB v)

def execChannelSubstitution (v : Fin 4) (s : State) : Res := .next (live s (chsubWrite v.val))

/-! ### Steps (R353, R356) -/

/-- Put Assay's step. -/
def setStep (x : Option AStep) (s : State) : State := { s with asy := { s.asy with step := x } }

/-- The duty window (R353): a new one begins WINDOW_S after the last, with no time used. -/
def dutyWindow (s : State) : State :=
  if s.asy.since + s.get ASY_CFG_WINDOW_S * 1000000000 ≤ s.inv.wall then
    { s.set ASY_USED_US 0 with asy := { s.asy with since := s.inv.wall } }
  else s

/-- Whether Assay's duty is spent. -/
def State.dutySpent (s : State) : Bool :=
  s.get ASY_CFG_WINDOW_S * s.get ASY_CTL_DUTY * 10000 ≤ s.raw ASY_USED_US

/-- Whether a step may start (R353). -/
def State.asyMay (s : State) : Bool :=
  s.stepOn 2 && s.raw PWR_STATE_CUR ≤ 1 && s.flag ASY_CTL_EN && s.get ASY_CTL_DUTY != 0 && !s.dutySpent &&
  s.asy.step.isNone && !s.ioOut 0 && !s.ioOut 1 && !s.ioWaits 0 && !s.ioWaits 1

/-- ASY_STAT.STATE: off, waiting, running, or duty spent. -/
def State.asyState (s : State) : Nat :=
  if !s.flag ASY_CTL_EN then 0
  else if s.asy.step.isSome then 2
  else if s.dutySpent then 4
  else 1

/-- Record the last test. -/
def asyLast (x : AStep) (result : Nat) (s : State) : State :=
  (((s.set ASY_LAST_TEST x.test).set ASY_LAST_RESULT result).set ASY_LAST_UNIT x.unit).set ASY_LAST_DETAIL x.detail

/-- ASY_LAST, which triggers 54 to 56 carry. -/
def State.asyWord (s : State) : Nat := s.pack [ASY_LAST_TEST, ASY_LAST_RESULT, ASY_LAST_UNIT, ASY_LAST_DETAIL]

/-- The channel and slot that a March of a sample buffer names: arrays 05h to 08h, the slot in DETAIL. -/
def AStep.slot (x : AStep) : Option (Fin 4 × Nat) :=
  if x.test = 0 then
    if h : 5 ≤ x.unit ∧ x.unit ≤ 8 then some (⟨x.unit - 5, by omega⟩, x.detail % 64) else none
  else none

/-- Whether the condition of a test holds (R356). -/
def State.asyCond (s : State) (x : AStep) : Bool :=
  match x.test with
  | 0 =>
    match x.slot with
    | some (ch, k) => !bitOf s.rch[ch].pins k && s.rch[ch].pinned < 32
    | none => if h : 15 ≤ x.unit ∧ x.unit ≤ 32 then s.seSt (x.unit - 15) == seTest else x.unit ≤ 14
  | 1 => (s.engineOf x.detail).isSome && !s.spares.isEmpty && s.raw ENG_MIG_STAT_PHASE == 0
  | 2 => x.unit < 6 && (s.idleDeep.any (fun d => d.val == x.unit) || (!s.isDeep x.unit && !s.idleDeep.isEmpty))
  | 3 => if h : x.unit < 4 then s.chanFree ⟨x.unit, h⟩ else false
  | 7 => (List.range 4).all fun c => !s.flag (WCH_CTL_WR_ACTIVE c)
  | 8 => x.unit < 4
  | _ => true

/-- The binding word in which the channel of an in-line decoder moves to the lowest idle deep decoder. -/
def State.mapAway (s : State) (d : Nat) : Nat :=
  let nx := match s.idleDeep.head? with | some e => e.val | none => d
  (List.finRange 4).foldl (fun v c => v + (if s.decOf c = d then nx else s.decOf c) * 2 ^ (4 * c.val)) 0

/-- The unit of a step is taken: the slot pinned, the role migrated with TEST (to the lowest spare), the decoder freed, the
outputs held, the port taken down. -/
def asyTake (x : AStep) (s : State) : State :=
  match x.test with
  | 0 => match x.slot with | some (ch, k) => pinSlot ch k s | none => s
  | 1 => migWrite (2 ^ 31 + 2 ^ 30 + x.detail % 16 * 2 ^ 16 + 0x1F * 2 ^ 8) s
  | 2 => if s.isDeep x.unit then s else decoderRebind (s.mapAway x.unit) s
  | 7 => s.on QCH_TEST_OUT_HOLD
  | 8 => if h : x.unit < 4 then portDisable ⟨x.unit, h⟩ s else s
  | _ => s

/-- The unit goes back to service: a decoder that was freed stays in the deep pool. -/
def asyReturn (x : AStep) (s : State) : State :=
  match x.test with
  | 0 => match x.slot with | some (ch, k) => unpinSlot ch k s | none => s
  | 7 => s.off QCH_TEST_OUT_HOLD
  | _ => s

/-- Assay starts a step: one whose test is not selected does nothing, one whose condition fails is skipped with 0011b. -/
def assayStart (x : AStep) (s : State) : State :=
  let s1 := dutyWindow s
  if !s1.asyMay || !s1.bit ASY_SEL_TEN x.test || 8 < x.test then s1
  else if !s1.asyCond x then asyLast x 3 s1
  else asyTake x (setStep (some x) s1)

def execAssayStepStart (test : Fin 16) (unit : BitVec 8) (detail : BitVec 16) (s : State) : Res :=
  .next (live s (assayStart { test := test.val, unit := unit.toNat, detail := detail.toNat }))

/-- A unit has been retired or substituted. -/
def asySub (s : State) : State := patTrig 55 s.asyWord (s.on ASY_STAT_SUB)

/-- Retire a 2 MiB region of DRAM in the first free entry (R250). -/
def retireRegion (region : Nat) (s : State) : State :=
  match (List.range 16).find? fun i => !s.flag (MEM_RETIRE_VALID i) with
  | some i => asySub ((s.on (MEM_RETIRE_VALID i)).set (MEM_RETIRE_REGION i) region)
  | none => s

/-- What a failure does (R356). -/
def asyFailure (x : AStep) (s : State) : State :=
  match x.test with
  | 0 => if x.unit ≤ 14 then let s1 := rowRepair x.unit x.detail s; if s.sparesLeft x.unit = 0 then asySub s1 else s1 else s
  | 1 => if h : x.unit < 18 then asySub (engineRetire ⟨x.unit, h⟩ s) else s
  | 2 => s.on (RCH_DEC_STAT_FAULT x.unit)
  | 3 => if x.unit % 2 = 0 ∧ x.unit < 4 then asySub (chsubWrite (setBit (s.raw ASY_CHSUB_SUB) (x.unit / 2)) s) else s
  | 4 => retireRegion x.detail s
  | _ => s

/-- What a pass does: an engine that passed becomes a spare. -/
def asyPass (x : AStep) (s : State) : State :=
  match x.test with
  | 1 => if h : x.unit < 18 then engineSpare ⟨x.unit, h⟩ s else s
  | _ => s

/-- Assay time used by a step. -/
def asyTime (us : Nat) (s : State) : State := s.bump ASY_USED_US us

/-- A test step completes; `unit` and `detail` are what it reports. -/
def assayDone (pass : Bool) (unit detail us : Nat) (s : State) : State :=
  match s.asy.step with
  | none => s
  | some x0 =>
    let x := { x0 with unit := unit % 256, detail := detail % 65536 }
    let s1 := asyLast x (b2n (!pass)) (asyTime us (setStep none (asyReturn x0 s)))
    if pass then asyPass x (s1.on ASY_STAT_PASS)
    else asyFailure x (patTrig 54 s1.asyWord (s1.on ASY_STAT_FAIL))

def execAssayStepDone (pass : Bool) (unit detail us : Nat) (s : State) : Res :=
  .next (live s (assayDone pass unit detail us))

/-- Assay abandons its step (R355), `t` being the time taken in units of 10 ns; an engine already in TEST stays there. -/
def assayYield (t us : Nat) (s : State) : State :=
  match s.asy.step with
  | none => s
  | some x =>
    let s1 := asyLast x 2 (asyTime us (setStep none (asyReturn x s)))
    let s2 := ((s1.set ASY_YIELD_LAST (sat 16 t)).set ASY_YIELD_WORST (max (s1.raw ASY_YIELD_WORST) (sat 16 t))).on ASY_STAT_YIELD
    if 4000 < t then patTrig 56 s2.asyWord s2 else s2

def execAssayYield (t us : Nat) (s : State) : Res := .next (live s (assayYield t us))

/-! ### The TAP (R366) -/

/-- Put the TAP's instruction: 0 BYPASS, 1 IDCODE, 2 SAMPLE/PRELOAD, 3 EXTEST, 4 CLAMP, 5 HIGHZ. -/
def tapIr (v : Nat) (s : State) : State := { s with pins := { s.pins with tap := v } }

/-- EXTEST, CLAMP and HIGHZ take effect only while DEVRST# is asserted; otherwise they act as BYPASS. -/
def tapDrive (v : Nat) (s : State) : State := tapIr (if s.pins.devrst then v else 0) s

/-- Whether the main die is powered, and with it the TAP. -/
def State.powered (s : State) : Bool := s.die.phase != .off

def execBypass (s : State) : Res := .next (s.when s.powered (tapIr 0))

/-- IDCODE is 0x1726_0B47. -/
def idcode (s : State) : Nat :=
  s.raw SYS_ID_MAIN_REV * 2 ^ 28 + 0x7260 * 2 ^ 12 + 0x5A3 * 2 + 1

def execIdcode (s : State) : Res := .next (s.when s.powered fun s => (tapIr 1 s).emit (.jtag (idcode s)))

/-- SAMPLE/PRELOAD: the cells take the levels of the digital balls, and shift them out. -/
def execSamplePreload (balls : Nat) (s : State) : Res :=
  .next (s.when s.powered fun s => ({ tapIr 2 s with pins := { s.pins with tap := 2, cells := balls } }).emit (.jtag balls))
def execExtest (s : State) : Res := .next (s.when s.powered (tapDrive 3))
def execClamp (s : State) : Res := .next (s.when s.powered (tapDrive 4))
def execHighz (s : State) : Res := .next (s.when s.powered (tapDrive 5))

end Sys2Proof.Machine
end

