-- ==== Sys2Proof/Machine/Sec.lean ====
section
/-!
DEFINITION. Secure boot, identity and encryption (16_security.md): fuses (R386, R387), the checks of an image (R388, R389),
activation records (R390, R391), attestation (R394), media keys (R397), debug (R399) and the lock (R400).
-/
namespace Sys2Proof.Machine

/-- Change SEC. -/
def modSec (f : Sec → Sec) (s : State) : State := { s with sec := f s.sec }

/-- A write of SEC_LOCK.LOCK. -/
def configLock (s : State) : State := s.on SEC_LOCK_LOCK

def execConfigLock (s : State) : Res := .next (live s configLock)

/-! ### Fuses (R386, R387) -/

/-- The rollback count rises to `n`: bits are blown in ascending order. -/
def rollbackTo (n : Nat) (slot : Nat) (s : State) : State :=
  if s.raw SEC_STAT_RBCNT < n then patTrig 61 slot ((s.set SEC_STAT_RBCNT n).on SEC_STAT_RB_ADV) else s

/-- The RESULT of an advance to `n`: Bullion frozen (R391), or a count that would fall or exceed 64. -/
def State.advanceResult (s : State) (n : Nat) : Nat :=
  if s.flag BUL_STAT_FROZEN then 2 else if n < s.raw SEC_STAT_RBCNT ∨ 64 < n then 3 else 0

/-- The RESULT of revoking key `k`: the lock is set, Bullion frozen, or no other key stays valid. -/
def State.revokeResult (s : State) (k : Nat) : Nat :=
  if s.flag SEC_LOCK_LOCK then 1
  else if s.flag BUL_STAT_FROZEN then 2
  else if (List.range 4).all fun i => i == k || s.bit SEC_KEYREV_REVOKED i then 4
  else 0

/-- Whether a fuse command has no effect of its own: an OP the manual reserves. -/
def fuseCmd (op v : Nat) (s : State) : State :=
  let s0 := (s.set SEC_FUSE_CMD_OP op).set SEC_FUSE_CMD_VALUE v
  match op with
  | 1 =>
    let r := s.advanceResult v
    let s1 := s0.set SEC_FUSE_CMD_RESULT r
    if r = 0 then rollbackTo v (s.raw SEC_STAT_SLOT) s1 else s1
  | 2 =>
    let r := s.revokeResult v
    let s1 := s0.set SEC_FUSE_CMD_RESULT r
    if r = 0 ∧ v < 4 then s1.onBit SEC_KEYREV_REVOKED v else s1
  | _ => s0

def execRollbackAdvance (v : BitVec 7) (s : State) : Res := .next (live s (fuseCmd 1 v.toNat))

def execKeyRevoke (v : BitVec 7) (s : State) : Res := .next (live s (fuseCmd 2 v.toNat))

/-! ### Images (R388, R389) -/

/-- `n` bytes of an image from offset `o`. -/
def imgBytes (b : Nat → Byte) (o n : Nat) : List Byte := (List.range n).map fun i => b (o + i)

/-- A little-endian number of `n` bytes of an image. -/
def imgLe (b : Nat → Byte) (o n : Nat) : Nat := leNat (imgBytes b o n)

/-- The SVN of an image. -/
def imgSvn (b : Nat → Byte) : Nat := imgLe b 16 1

/-- The stage-1 component of an image: its offset in the manifest. -/
def imgStage1 (b : Nat → Byte) : Option Nat := ((List.range 18).map fun i => 88 + 48 * i).find? fun o => imgLe b o 1 == 1

/-- Whether a component matches its digest. -/
def compOk (b : Nat → Byte) (o : Nat) : Bool :=
  Config.shake256 (imgBytes b (imgLe b (o + 4) 4) (imgLe b (o + 8) 4)) == imgLe b (o + 16) 32

/-- The checks of R389 in order, with the RESULT of SEC_VFY_CTL: 0 valid, 1 format, 2 key, 3 SVN, 4 signature, 5 component
digest. -/
def State.imageCheck (s : State) (b : Nat → Byte) : Nat :=
  let k := imgLe b 6 1
  if imgLe b 0 4 ≠ 0xAB7C0001 ∨ imgLe b 4 2 ≠ 1 ∨ imgLe b 17 1 ≠ 18 then 1
  else if 4 ≤ k ∨ s.bit SEC_KEYREV_REVOKED k ∨ Config.shake256 (imgBytes b 24 64) ≠ Config.keyDigest k then 2
  else if imgSvn b < s.raw SEC_STAT_RBCNT then 3
  else if !Config.slhVerify (imgLe b 24 64) (imgBytes b 0 1024) (imgLe b 1024 29792) then 4
  else
    match imgStage1 b with
    | some o => if compOk b o then 0 else 5
    | none => 5

/-- The bytes of a slot's image. -/
def FwSlot.byte (x : FwSlot) (i : Nat) : Byte := tabLook 0 x.image i

/-- SEC_VFY_CTL.GO: the image at SEC_VFY_ADDR is checked. -/
def imageVerify (s : State) : State :=
  let b (i : Nat) : Byte := s.dramByte (s.raw SEC_VFY_ADDR_ADDR * 64 + i)
  (s.set SEC_VFY_CTL_RESULT (s.imageCheck b)).set SEC_VFY_CTL_SVN (imgSvn b)

def execImageVerify (s : State) : Res := .next (live s imageVerify)

/-! ### Activation records (R390, R391) -/

/-- STATE of an activation record. -/
abbrev recPending : Nat := 1
abbrev recTried : Nat := 2
abbrev recCommitted : Nat := 3

/-- Change a firmware slot. -/
def modSlot (i : Fin 2) (f : FwSlot → FwSlot) (s : State) : State := modSec (fun v => { v with slots := vmod v.slots i f }) s

/-- Append an activation record. -/
def appendRec (i : Fin 2) (count st : Nat) (s : State) : State :=
  modSlot i (fun x => { x with records := (count, st) :: x.records }) s

/-- The next ACT_COUNT: above every one used. -/
def State.nextCount (s : State) : Nat :=
  ((s.sec.slots[0]).records ++ (s.sec.slots[1]).records).foldl (fun n r => max n r.1) 0 + 1

/-- The ACT_COUNT of a committed record: that of the slot's pending or tried record, or the next one. -/
def State.commitCount (s : State) (i : Fin 2) : Nat :=
  match (s.sec.slots[i]).records.head? with
  | some (c, st) => if st = recCommitted then s.nextCount else c
  | none => s.nextCount

/-- Firmware appends a committed record; ADVANCE and an SVN above the rollback count advance it, unless Bullion is frozen. -/
def recordCommitted (i : Fin 2) (s : State) : State :=
  let b := (s.sec.slots[i]).byte
  let s1 := appendRec i (s.commitCount i) recCommitted s
  if bitOf (imgLe b 7 1) 0 && s.advanceResult (imgSvn b) == 0 then rollbackTo (imgSvn b) i.val s1 else s1

def execActivationRecordCommit (slot : Fin 2) (s : State) : Res := .next (live s (recordCommitted slot))

/-- The slot the boot ROM boots (R390), and whether as a trial. -/
def State.bootPick (s : State) (skip : Nat) : Option (Fin 2 × Bool) :=
  let head (i : Fin 2) : Nat × Nat := (s.sec.slots[i]).records.headD (0, 0)
  let committed (i : Fin 2) : Bool := (head i).2 == recCommitted && !bitOf skip i.val
  let above (i : Fin 2) : Bool := [(0 : Fin 2), 1].all fun j => (head j).2 != recCommitted || decide ((head j).1 < (head i).1)
  let pending (i : Fin 2) : Bool := (head i).2 == recPending && above i && !bitOf skip i.val
  match ([(0 : Fin 2), 1].find? pending) with
  | some i => some (i, true)
  | none =>
    match committed 0, committed 1 with
    | true, true => if (head 0).1 < (head 1).1 then some (1, false) else some (0, false)
    | true, false => some (0, false)
    | false, true => some (1, false)
    | false, false => none

/-- The ROM boots slot `i`: a trial appends its tried record. -/
def bootSlot (i : Fin 2) (trial : Bool) (s : State) : State :=
  let x := s.sec.slots[i]
  let s1 := if trial then appendRec i (x.records.headD (0, 0)).1 recTried s else s
  let m : Tab Byte := x.image.filter fun e => e.1 < 1024
  (((modSec (fun v => { v with run := m }) s1).set SEC_STAT_SLOT i.val).set SEC_STAT_KEY_IDX (imgLe x.byte 6 1)).put
    SEC_BOOT_TRIAL trial

/-- The ROM checks slots in the order of R390; each rejection sets SIG_FAIL with trigger 60. True when a slot boots. -/
def bootTry : (fuel skip : Nat) → State → State × Bool
  | 0, _, s => (s, false)
  | fuel + 1, skip, s =>
    match s.bootPick skip with
    | none => (s, false)
    | some (i, trial) =>
      if s.imageCheck (s.sec.slots[i]).byte = 0 then (bootSlot i trial s, true)
      else bootTry fuel (setBit skip i.val) (patTrig 60 i.val (s.on SEC_STAT_SIG_FAIL))

/-! ### Attestation (R394) -/

/-- The identity digest. -/
def identityDigest : Nat := Config.shake256 (leBytes Config.identityKey 64)

/-- The 256-byte body of a report for a nonce. -/
def State.attBody (s : State) (nonce : List Byte) : List Byte :=
  let b (i : Nat) : Byte := tabLook 0 s.sec.run i
  let enc := (List.range 4).foldl (fun n i => n + s.raw (SEC_NSKEY_ENC i) * 2 ^ i) 0
  let flags := s.raw SEC_LOCK_LOCK + 2 * s.raw SEC_STAT_DBG_UNLOCKED + 4 * s.raw SYS_STRAP_ASSIST + 8 * s.raw SEC_BOOT_TRIAL
  let sysId := s.pack [SYS_ID_PART, SYS_ID_MAIN_REV, SYS_ID_PWR_REV]
  leBytes 0xAB7C0002 4 ++ leBytes 1 2 ++ leBytes (s.raw SEC_STAT_SLOT) 1 ++ leBytes (s.raw SEC_STAT_KEY_IDX) 1 ++
    imgBytes b 8 8 ++ leBytes (imgSvn b) 1 ++ leBytes (s.raw SEC_STAT_RBCNT) 1 ++ leBytes flags 1 ++ leBytes enc 1 ++
    leBytes sysId 4 ++ leBytes Config.serial 8 ++ nonce.take 32 ++
    leBytes (Config.shake256 (imgBytes b 0 1024)) 32 ++ leBytes identityDigest 32 ++ leBytes s.opsec 5 ++
    leBytes (s.raw PAT_PCC_PCC) 3 ++ List.replicate 120 0

/-- Begin to sign a report for the nonce at SEC_ATT_ADDR. -/
def attBegin (s : State) : State :=
  let nonce := s.dramBytes (s.raw SEC_ATT_ADDR_ADDR * 64) 32
  (modSec (fun v => { v with att := some (s.attBody nonce), again := false }) s).on SEC_ATT_CTL_BUSY

/-- SEC_ATT_CTL.GO: a report starts, or waits for the one being signed, which is then discarded. -/
def attStart (s : State) : State :=
  let s1 := modSec (fun v => { v with report := none }) s
  if s.sec.att.isSome then modSec (fun v => { v with again := true }) s1 else attBegin s1

def execAttestationStart (s : State) : Res := .next (live s attStart)

/-- A report is signed and written to SEC_ATT_ADDR. -/
def attDone (s : State) : State :=
  match s.sec.att with
  | none => s
  | some body =>
    if s.sec.again then attBegin s
    else
      let sig := Config.slhSign body
      let s1 := s.dramWrite (s.raw SEC_ATT_ADDR_ADDR * 64) (body ++ leBytes sig 29792)
      ((modSec (fun v => { v with att := none, report := some (body, sig) }) s1).off SEC_ATT_CTL_BUSY).on SEC_STAT_ATT_DONE

def execAttestationDone (s : State) : Res := .next (live s attDone)

/-! ### Media keys (R397) -/

/-- Write the wrapped table to the other block of the key store and erase the old one: the pages' bits are free. -/
def storeWrite (s : State) : State :=
  let f0 := if s.sec.store1 then SEC_KEYSTORE_BLOCK0 else SEC_KEYSTORE_BLOCK1
  let f1 := if s.sec.store1 then SEC_KEYSTORE_BLOCK1 else SEC_KEYSTORE_BLOCK0
  let d := s.draw
  let e := d.1.draw
  let s1 := putPage (s.raw f0 * 256) (some { data := Config.freeValue d.2, spare := Config.freeValue e.2 }) e.1
  let s2 := if s.raw f0 = s.raw f1 then s1
    else (List.range 256).foldl (fun t i => putPage (s.raw f1 * 256 + i) none t) s1
  modSec (fun v => { v with store1 := !v.store1 }) s2

/-- End of a key command. -/
def keyEnd (op : Nat) (n : Fin 4) (res : Nat) (s : State) : State :=
  (((s.set SEC_KEY_CMD_OP op).set SEC_KEY_CMD_NS (n.val + 1)).set SEC_KEY_CMD_RESULT res).on SEC_STAT_KEY_DONE

/-- Draw a key for a namespace, wrap it and store it: it is loaded, and the namespace is encrypted. -/
def keyGenerate (n : Fin 4) (fail : Bool) (s : State) : State :=
  if s.flag SEC_STAT_DBG_UNLOCKED then keyEnd 1 n 2 s
  else if fail then keyEnd 1 n 3 s
  else
    let d := s.draw
    let gen := sat 16 (s.raw (SEC_NSKEY_GEN n.val) + 1)
    let s1 := storeWrite (modSec (fun v => { v with keys := v.keys.set n (some (d.2, gen)) }) d.1)
    keyEnd 1 n 0 (((s1.on (SEC_NSKEY_ENC n.val)).on (SEC_NSKEY_LOADED n.val)).set (SEC_NSKEY_GEN n.val) gen)

def execKeyGenerate (n : Fin 4) (fail : Bool) (s : State) : Res := .next (live s (keyGenerate n fail))

/-- Unwrap the key of a namespace; `bad` when the store's copy does not unwrap. -/
def keyLoad (n : Fin 4) (bad : Bool) (s : State) : State :=
  if s.flag SEC_STAT_DBG_UNLOCKED then keyEnd 2 n 2 s
  else
    match s.sec.keys[n] with
    | some (_, gen) =>
      if bad then keyEnd 2 n 1 s
      else keyEnd 2 n 0 (((s.on (SEC_NSKEY_ENC n.val)).on (SEC_NSKEY_LOADED n.val)).set (SEC_NSKEY_GEN n.val) gen)
    | none => keyEnd 2 n 1 s

def execKeyLoad (n : Fin 4) (bad : Bool) (s : State) : Res := .next (live s (keyLoad n bad))

/-- Destroy the key of a namespace. -/
def keyErase (n : Fin 4) (fail : Bool) (s : State) : State :=
  if fail then keyEnd 3 n 3 s
  else
    keyEnd 3 n 0 (((storeWrite (modSec (fun v => { v with keys := v.keys.set n none }) s)).off (SEC_NSKEY_ENC n.val)).off
      (SEC_NSKEY_LOADED n.val))

def execKeyErase (n : Fin 4) (fail : Bool) (s : State) : Res := .next (live s (keyErase n fail))

/-- Take a loaded key out; the store keeps it. -/
def keyUnload (n : Fin 4) (s : State) : State := keyEnd 4 n 0 (s.off (SEC_NSKEY_LOADED n.val))

def execKeyUnload (n : Fin 4) (s : State) : Res := .next (live s (keyUnload n))

/-- A write of SEC_KEY_CMD with GO. A reserved OP, or a namespace that does not exist, does nothing. -/
def keyCmd (op ns : Nat) (s : State) : State :=
  let s0 := (s.set SEC_KEY_CMD_OP op).set SEC_KEY_CMD_NS ns
  if h : ns - 1 < 4 ∧ 1 ≤ ns then
    let n : Fin 4 := ⟨ns - 1, h.1⟩
    match op with
    | 1 => keyGenerate n false s0
    | 2 => keyLoad n false s0
    | 3 => keyErase n false s0
    | 4 => keyUnload n s0
    | _ => s0
  else s0

/-! ### Debug (R399) -/

/-- Whether a key is loaded. -/
def State.keyLoaded (s : State) : Bool := (List.range 4).any fun n => s.flag (SEC_NSKEY_LOADED n)

/-- A token is checked: `good` when it is a signature under an unrevoked key over the present nonce, SERIAL and the scope
byte. One token is accepted per nonce. -/
def debugUnlock (good : Bool) (scope : Nat) (s : State) : State :=
  let res := if s.flag SEC_STAT_DBG_FUSED then 1
    else if s.keyLoaded then 2
    else if !good then 3
    else if !s.sec.fresh then 4
    else 0
  let s1 := s.set SEC_DBG_CTL_RESULT res
  if res = 0 then (modSec (fun v => { v with scope, fresh := false }) s1).on SEC_STAT_DBG_UNLOCKED else s1

def execDebugUnlock (good : Bool) (scope : Fin 4) (s : State) : Res := .next (live s (debugUnlock good scope.val))

/-- A read of SEC_DBG_CHAL0 draws a fresh nonce: 32 free bytes. -/
def debugChallenge (s : State) : State :=
  let d := s.draw
  let v := Config.freeValue d.2
  modSec (fun x => { x with fresh := true })
    ((List.range 8).foldl (fun t k => t.set (SEC_DBG_CHAL_NONCE k) (bits v (32 * k) 32)) d.1)

def execDebugChallenge (s : State) : Res := .next (live s debugChallenge)

end Sys2Proof.Machine
end

