-- ==== Sys2Proof/Machine/Host.lean ====
section
/-!
DEFINITION. Host interface (09_host_queues.md): doorbells and polling (R219, R220), fetching (R217, R218), admission and range
locks (R226 to R230), commitment (R222 to R225), completion queues (R221), and strict queues (R233, R234).
-/
namespace Sys2Proof.Machine

/-- Change HIF and RLT. -/
def modHif (f : Hif → Hif) (s : State) : State := { s with hif := f s.hif }

/-! ### Names -/

/-- A status of R231. -/
def hst (sct sc : Nat) (dnr : Bool) : HStat := { sct, sc, crd := 0, dnr }
/-- Successful Completion. -/
def hOk : HStat := hst 0 0 false
/-- Invalid Field in Command. -/
def hField : HStat := hst 0 0x02 true
/-- Namespace Not Ready, with CRD 01b. -/
def hNotReady : HStat := { sct := 0, sc := 0x82, crd := 1, dnr := false }

/-- Whether a status is Successful Completion. -/
def HStat.ok (x : HStat) : Bool := x.sct == 0 && x.sc == 0

/-- DW3[31:16] of a completion with the phase bit as 0. -/
def HStat.word (x : HStat) : Nat := x.sc * 2 + x.sct * 2 ^ 9 + x.crd * 2 ^ 12 + b2n x.dnr * 2 ^ 15

/-- A fetched command by controller, queue and CID. -/
def State.cmd (s : State) (c : Fin 2) (q i : Nat) : Option HCmd :=
  s.hif.cmds.find? fun x => x.ctl == c && x.sq == q && x.e.cid == i

/-- Whether a command is the one of a controller, queue and CID. -/
def HCmd.is (x : HCmd) (c : Fin 2) (q i : Nat) : Bool := x.ctl == c && x.sq == q && x.e.cid == i

/-- Change a fetched command. -/
def modCmd (c : Fin 2) (q i : Nat) (f : HCmd → HCmd) (s : State) : State :=
  modHif (fun h => { h with cmds := h.cmds.map fun x => if x.is c q i then f x else x }) s

/-- Give a command its outcome. -/
def setOut (c : Fin 2) (q i : Nat) (st : HStat) (s : State) : State := modCmd c q i (fun x => { x with status := some st }) s

/-- A submission queue of a controller. -/
def State.sq (s : State) (c : Fin 2) (q : Nat) : Option Sq := (s.hif.ctrl[c]).sqs.find? fun x => x.id == q
/-- A completion queue of a controller. -/
def State.cq (s : State) (c : Fin 2) (q : Nat) : Option Cq := (s.hif.ctrl[c]).cqs.find? fun x => x.id == q

/-- Change a submission queue. -/
def modSq (c : Fin 2) (q : Nat) (f : Sq → Sq) (s : State) : State :=
  modCtrl c (fun x => { x with sqs := x.sqs.map fun y => if y.id = q then f y else y }) s
/-- Change a completion queue. -/
def modCq (c : Fin 2) (q : Nat) (f : Cq → Cq) (s : State) : State :=
  modCtrl c (fun x => { x with cqs := x.cqs.map fun y => if y.id = q then f y else y }) s

/-- Whether two-port mode is in force (R209). -/
def State.twoPort (s : State) : Bool := s.flag SYS_STRAP_X2_ACTIVE

/-- Whether a controller exists in the port mode. -/
def State.ctlExists (s : State) (c : Fin 2) : Bool := c == 0 || s.twoPort

/-- The HQ role of a queue (R209). -/
def State.hqOf (s : State) (c : Fin 2) (q : Nat) : Fin 2 := if s.twoPort then c else if q % 2 = 1 then 1 else 0

/-! ### Completion queues (R221) -/

/-- Entries posted and not yet taken from a completion queue. -/
def Cq.held (x : Cq) : Nat := (x.tail + x.size - x.head) % x.size

/-- Post one entry to host memory, with the interrupt of its queue. -/
def cqWrite (c : Fin 2) (x : Cq) (e : Cqe) (s : State) : State :=
  let sqhd := match s.sq c e.sq with | some q => q.head | none => 0
  let s1 := s.emit (.cqe c x.id e.dw0 sqhd e.sq e.cid e.status (b2n (x.tail < x.size)))
  let s2 := if x.ien then s1.emit (.msix c x.vector) else s1
  modCq c x.id (fun y => { y with tail := (x.tail + 1) % (2 * x.size) }) s2

/-- The completion writer takes an entry: it is posted at once when its queue has room and none waits. A full queue's EventIdx
names the head last seen, so that the next head update rings. -/
def cqPut (c : Fin 2) (q : Nat) (e : Cqe) (s : State) : State :=
  match s.cq c q with
  | none => s
  | some x =>
    if x.wait.isEmpty && decide (x.held + 1 < x.size) then cqWrite c x e s
    else (modCq c q (fun y => { y with wait := y.wait ++ [e] }) s).emit (.eventIdx c true q x.head)

/-- The writer posts the oldest waiting entry of a completion queue that has room. -/
def cqEntryPost (c : Fin 2) (q : Nat) (s : State) : State :=
  match s.cq c q with
  | none => s
  | some x =>
    match x.wait with
    | [] => s
    | e :: t => if x.held + 1 < x.size then cqWrite c x e (modCq c q (fun y => { y with wait := t }) s) else s

def execCqEntryPost (c : Fin 2) (q : Nat) (s : State) : Res := .next (live s (cqEntryPost c q))

/-! ### Range locks (R226 to R230) -/

/-- Whether two ranges overlap. -/
def overlap (a b : Nat × Nat) : Bool := a.1 < b.1 + b.2 && b.1 < a.1 + a.2

/-- Whether a range touches a zone. -/
def inZone (z : Nat) (r : Nat × Nat) : Bool := r.1 / 65536 ≤ z && z ≤ (r.1 + r.2 - 1) / 65536

/-- The zone an append names. -/
def HCmd.zone (x : HCmd) : Nat := (x.ranges.headD (0, 0)).1 / 65536

/-- Whether any ranges of two commands overlap. -/
def meets (a b : HCmd) : Bool := a.ranges.any fun r => b.ranges.any (overlap r)

/-- Whether an earlier command blocks a later one (R228). -/
def blocks (a b : HCmd) : Bool :=
  if a.e.nsid ≠ b.e.nsid ∨ b.cls = 0 then false
  else
    match a.cls with
    | 1 => a.st != .granted && b.cls != 1 && meets a b
    | 2 => if b.cls = 3 then a.ranges.any (inZone b.zone) else meets a b
    | 3 =>
      if b.cls = 2 then b.ranges.any (inZone a.zone)
      else b.cls == 1 && b.ranges.any fun r => inZone a.zone r &&
        (match b.wps.find? (fun w => w.1 == a.zone) with | some w => decide (w.2 < r.1 + r.2) | none => true)
    | _ => false

/-- Whether a command of the list is blocked by one before it. -/
def blockedIn (x : HCmd) : List HCmd → Bool
  | [] => false
  | y :: t => if y.is x.ctl x.sq x.e.cid then false else (y.st != .waiting && blocks y x) || blockedIn x t

/-- RLT entries in use (R229). -/
def rltHeld (l : List HCmd) : Nat :=
  (l.filter fun x => (x.cls == 1 && x.st == .admitted) || (2 ≤ x.cls && x.st != .waiting)).length

/-- The write pointer of a zone as the chunk table has it, as an LBA; the zone's end when the entry cannot be read. -/
def State.zoneWp (s : State) (ns z : Nat) : Nat :=
  match (readImage false (s.chunkOf ns (z * 65536)) s).2 with
  | some c => z * 65536 + cWp c
  | none => (z + 1) * 65536

/-- The zones that ranges touch, with their write pointers. -/
def State.zoneWps (s : State) (ns : Nat) (rs : List (Nat × Nat)) : List (Nat × Nat) :=
  rs.flatMap fun r =>
    (List.range ((r.1 + r.2 - 1) / 65536 - r.1 / 65536 + 1)).map fun k => (r.1 / 65536 + k, s.zoneWp ns (r.1 / 65536 + k))

/-- Admit waiting commands in fetch order; the first that finds the table full stops the rest. The results: the list, commands
found blocked, and whether admission paused. -/
def admitGo (s : State) : (done rest : List HCmd) → (stalls : Nat) → List HCmd × Nat × Bool
  | done, [], n => (done, n, false)
  | done, x :: t, n =>
    if x.st != .waiting then admitGo s (done ++ [x]) t n
    else if 4096 ≤ rltHeld (done ++ t) then (done ++ x :: t, n, true)
    else
      let y := { x with st := .admitted, wps := if x.cls = 1 ∧ s.nsZoned x.e.nsid then s.zoneWps x.e.nsid x.ranges else [] }
      admitGo s (done ++ [y]) t (n + b2n (blockedIn y done))

/-- Admission runs (R226, R229). -/
def letIn (s : State) : State :=
  if !s.flag RLT_CTL_EN then s
  else
    let r := admitGo s [] s.hif.cmds 0
    let s1 := (modHif (fun h => { h with cmds := r.1 }) s).bump RLT_STALLS_COUNT r.2.1
    let s2 := if r.2.2 && !s.hif.full then (s1.bump RLT_FULLS_COUNT 1).on HIF_STAT_RLT_FULL else s1
    let s3 := modHif (fun h => { h with full := r.2.2 }) s2
    s3.set RLT_HWM_HELD (max (s3.raw RLT_HWM_HELD) (rltHeld s3.hif.cmds))

/-- The pieces of a read: what the map says of its range (R19), taking a reference to each segment (R21). Reads of a chunk that a
copy fills return the deallocated data (R379). -/
def piecesGo (ns last : Nat) : (fuel lba ofs : Nat) → State → State × List Piece
  | 0, _, _, s => (s, [])
  | fuel + 1, lba, ofs, s =>
    if last < lba then (s, [])
    else
      let w := walk ns lba s
      let next (e : Nat) (p : Nat → Piece) (t : State) : State × List Piece :=
        let n := min last e + 1 - lba
        let r := piecesGo ns last fuel (lba + n) (ofs + n) t
        (r.1, p n :: r.2)
      let none_ (n : Nat) : Piece := { ofs, n, loc := 0, addr := 0, unrec := false, bad := false }
      match w.2 with
      | .hit _ d =>
        let a := fragAddr d (lba - dLba d)
        let e := dLba d + dLenM1 d
        let p (n : Nat) : Piece := { ofs, n, loc := dLoc d, addr := a, unrec := dUnrec d, bad := false }
        next e p (if dLoc d = 1 then segRef a (min last e + 1 - lba) w.1 else w.1)
      | .gap l => next (lba / 65536 * 65536 + l) none_ w.1
      | .fault .. => next last (fun n => { none_ n with bad := true }) w.1
      | .unavailable => next (lba / 65536 * 65536 + 65535) (fun n => { none_ n with unrec := true }) w.1

/-- The lookup a granted read makes. -/
def readPieces (x : HCmd) (s : State) : State × List Piece :=
  match x.ranges with
  | [] => (s, [])
  | r :: _ =>
    if s.copyInto x.e.nsid (r.1 / 65536) then
      (s, [{ ofs := 0, n := r.2, loc := 0, addr := 0, unrec := false, bad := false }])
    else piecesGo x.e.nsid (r.1 + r.2 - 1) (r.2 + 1) r.1 0 s

/-- Whether a command's queue is frozen (R233). -/
def State.queueFrozen (s : State) (c : Fin 2) (q : Nat) : Bool :=
  match s.sq c q with | some x => x.frozen.isSome | none => false

/-- Whether a command can be granted now: admitted, not held, and not blocked. -/
def State.grantable (s : State) (x : HCmd) : Bool :=
  x.st == .admitted && !s.queueFrozen x.ctl x.sq && !blockedIn x s.hif.cmds

/-- Grant a command: the moment R19 names for a read, which gives up its entry. -/
def grantCmd (x : HCmd) (s : State) : State :=
  let p := if x.cls = 1 then readPieces x s else (s, [])
  let s1 := modHif (fun h => { h with grants := h.grants + 1 }) p.1
  let s2 := modCmd x.ctl x.sq x.e.cid (fun y => { y with st := .granted, pieces := p.2, gseq := s.hif.grants }) s1
  if x.cls = 1 then letIn s2 else s2

/-- A command that no earlier command blocks is granted. -/
def rltGrant (c : Fin 2) (q i : Nat) (s : State) : State :=
  match s.cmd c q i with
  | some x => if s.grantable x then grantCmd x s else s
  | none => s

def execRltGrant (c : Fin 2) (q i : Nat) (s : State) : Res := .next (live s (rltGrant c q i))

/-- Drop the references a read holds. -/
def dropPieces (x : HCmd) (s : State) : State :=
  x.pieces.foldl (fun t p =>
    if p.loc = 1 then (unitRun p.addr p.n).foldl (fun t u => putUnit u (t.unit u).drop t) t else t) s

/-! ### Commitment (R222 to R225, R233) -/

/-- Whether units hold no dirty data any more. -/
def State.unitsClean (s : State) (us : List Nat) : Bool := us.all fun u => !(s.unit u).dirty

/-- Whether a write is durable under R224. -/
def State.durable (s : State) (jseq : Nat) (us : List Nat) : Bool := jseq ≤ s.raw XLT_JRN_PERS_JSEQ && s.unitsClean us

/-- Whether the Volatile Write Cache of a controller is enabled. -/
def State.vwc (s : State) (c : Fin 2) : Bool :=
  match tabLook none (s.hif.ctrl[c]).feats 0x06 with | some v => bitOf v 0 | none => true

/-- Whether a write has FUA set. -/
def HCmd.fua (x : HCmd) : Bool := bitOf x.e.d12 30 && (x.e.opc == 0x01 || x.e.opc == 0x08 || x.e.opc == 0x7D)

/-- Whether a command with an outcome may commit: its records are applied (R223); under FUA, without the write cache, or
while the save is not armed, they have reached the vault, and its data the media or the vault (R224, R269); a Flush once what
it covers is durable (R225); an Abort after the command it found (R238). `vaulted`: the data is in the durable write log. -/
def State.mayCommit (s : State) (x : HCmd) (vaulted : Bool) : Bool :=
  let changes := 2 ≤ x.cls || x.e.opc == 0x79
  let strong := x.fua || !s.vwc x.ctl || s.erasedPages ≤ 258
  let follows := match x.follows with | some (q, i) => (s.cmd x.ctl q i).isSome | none => false
  match x.status with
  | none => false
  | some st =>
    !follows &&
    (!st.ok || x.sq == 0 ||
      ((!changes || (x.jseq ≤ s.raw XLT_JSEQ_JSEQ &&
          (!strong || (x.jseq ≤ s.raw XLT_JRN_PERS_JSEQ && (vaulted || s.unitsClean x.units))))) &&
        (x.e.opc != 0x00 || s.durable x.jseq x.units)))

/-- Whether an outcome can freeze a queue, or counts in FAILURES (R233). -/
def HStat.freezes (x : HStat) : Bool := !x.ok && !(x.sct == 0 && (x.sc == 0x07 || x.sc == 0x08))

/-- A command freezes its queue, or adds one to FAILURES. -/
def freezeBy (x : HCmd) (st : HStat) (s : State) : State :=
  match s.sq x.ctl x.sq with
  | none => s
  | some q =>
    if !st.freezes ∨ x.sq = 0 then s
    else
      match q.frozen with
      | some f => modSq x.ctl x.sq (fun y => { y with frozen := some { f with failures := min 255 (f.failures + 1) } }) s
      | none =>
        if x.strict then
          let f : Frozen := { failures := 1, cid := x.e.cid, status := st.word, errCount := (s.hif.ctrl[x.ctl]).errCount,
                              wall := s.inv.wall }
          patTrig 24 x.sq ((modSq x.ctl x.sq (fun y => { y with frozen := some f }) s).on HIF_STAT_FREEZE)
        else s

/-- The Error Information log, the status flags and Patina trigger 25 for a failed command. -/
def errorLog (x : HCmd) (st : HStat) (s : State) : State :=
  if st.ok then s
  else
    let s1 := modCtrl x.ctl (fun k =>
      let e : ErrEntry := { count := k.errCount + 1, sq := x.sq, cid := x.e.cid, status := st.word, lba := x.failLba }
      { k with errCount := k.errCount + 1, errLog := (e :: k.errLog).take 256 }) s
    let s2 := if st.sct = 0 ∧ st.sc = 3 then s1.on HIF_STAT_CID_CONFLICT
      else if st.sct = 0 ∧ st.sc = 4 then s1.on HIF_STAT_XFER_ERR else s1
    patTrig 25 (st.word * 65536 + x.sq) s2

/-- Set Features that act when they commit: Strict Error Mode and Assay Duty (R232, R354). -/
def featureCommit (x : HCmd) (st : HStat) (s : State) : State :=
  if x.sq = 0 ∧ x.e.opc = 0x09 ∧ st.ok then
    match bits x.e.d10 0 8 with
    | 0xC0 => s.set ASY_CTL_DUTY (bits x.e.d11 0 8)
    | 0xC1 => modSq x.ctl (bits x.e.d11 0 16) (fun y => { y with strict := bitOf x.e.d11 31 }) s
    | _ => s
  else s

/-- Grant the commands of a queue that have just become grantable. -/
def grantQueue (c : Fin 2) (q : Nat) (l : List HCmd) (s : State) : State :=
  l.foldl (fun t x => if x.ctl = c ∧ x.sq = q then rltGrant c q x.e.cid t else t) s

/-- A submission queue being deleted, with no command left, is gone; its Delete has its outcome (R234). -/
def sqGone (c : Fin 2) (q : Nat) (s : State) : State :=
  match s.sq c q with
  | none => s
  | some x =>
    match x.deleting with
    | none => s
    | some cid =>
      if s.hif.cmds.any fun y => y.ctl == c && y.sq == q then s
      else setOut c 0 cid hOk (modCtrl c (fun k => { k with sqs := k.sqs.filter fun y => y.id != q }) s)

/-- Whether an I/O command is outstanding. -/
def State.ioBusy (s : State) : Bool := s.ioOut 0 || s.ioOut 1

/-- ACTLED goes low with the first I/O command (R432). -/
def ledOn (s : State) : State :=
  if s.ioBusy && !s.pins.led then { s with pins := { s.pins with led := true, ledAt := s.inv.wall } } else s

/-- ACTLED is released when no I/O command is outstanding, once it has been low for 50 ms. -/
def ledOff (s : State) : State :=
  if !s.ioBusy && decide (s.pins.ledAt + 50000000 ≤ s.inv.wall) then { s with pins := { s.pins with led := false } } else s

/-- The 50 ms of a low period end. -/
def ledExpiry (s : State) : State :=
  if s.pins.led then ledOff { s with inv := { s.inv with wall := max s.inv.wall (s.pins.ledAt + 50000000) } } else s

def execActledHoldExpiry (s : State) : Res := .next (live s ledExpiry)

/-- Note a committed write until it is durable, and forget those that are. -/
def noteWrite (x : HCmd) (st : HStat) (s : State) : State :=
  let keep := s.hif.writes.filter fun w => !s.durable w.2.1 w.2.2
  let new := if st.ok ∧ 2 ≤ x.cls ∧ !s.durable x.jseq x.units then [(x.e.nsid, x.jseq, x.units)] else []
  modHif (fun h => { h with writes := keep ++ new }) s

/-- A command commits (R222): its completion is queued to the writer; commands of its queue that this frees are granted before
the queue freezes. -/
def commitNow (x : HCmd) (st : HStat) (s : State) : State :=
  let same := s.hif.lastAt == s.inv.wall
  let s1 := modHif (fun h => { h with
    cmds := h.cmds.filter fun y => !y.is x.ctl x.sq x.e.cid
    lastCommit := (x.ctl, x.sq, x.e.cid) :: (if same then h.lastCommit else []), lastAt := s.inv.wall }) s
  let s2 := featureCommit x st (errorLog x st (noteWrite x st (if x.cls = 1 then dropPieces x s1 else s1)))
  let cq := match s.sq x.ctl x.sq with | some q => q.cq | none => 0
  let s3 := cqPut x.ctl cq { dw0 := x.dw0, sq := x.sq, cid := x.e.cid, status := st.word } s2
  let s4 := if st.freezes && x.strict then grantQueue x.ctl x.sq s3.hif.cmds s3 else s3
  ledOff (letIn (sqGone x.ctl x.sq (freezeBy x st s4)))

/-- A command whose outcome stands and whose conditions hold commits. -/
def commandCommit (c : Fin 2) (q i : Nat) (vaulted : Bool) (s : State) : State :=
  match s.cmd c q i with
  | some x =>
    match x.status with
    | some st => if s.mayCommit x vaulted then commitNow x st s else s
    | none => s
  | none => s

def execCommandCommit (c : Fin 2) (q i : Nat) (vaulted : Bool) (s : State) : Res := .next (live s (commandCommit c q i vaulted))

/-- Commit a command at once with a status, as an abort, a discard or a deletion does. -/
def commitWith (st : HStat) (x : HCmd) (s : State) : State := commitNow { x with status := some st } st s

/-! ### Fetching (R217, R218) -/

/-- Whether a controller has reached its limit of outstanding commands. -/
def State.atLimit (s : State) (c : Fin 2) : Bool :=
  let n := s.hif.cmds.length
  let own := (s.hif.cmds.filter fun x => x.ctl == c).length
  s.get HIF_CTL_MAX_OUT ≤ n ||
    (s.twoPort && s.flag (HIF_C_STAT_EN 0) && s.flag (HIF_C_STAT_EN 1) && s.get HIF_CTL_MAX_OUT - 2048 ≤ own)

/-- Whether a queue may be fetched from: fetching runs, it holds an entry, is not frozen or being deleted, no shutdown or
activation is under way (R240, R241), S1 lets I/O queues be fetched, and the role's admin queue is served first. -/
def State.mayFetch (s : State) (c : Fin 2) (x : Sq) : Bool :=
  let adminWaits := s.hqOf c x.id == s.hqOf c 0 && (match s.sq c 0 with | some a => a.head != a.tail | none => false)
  s.flag HIF_CTL_EN && s.flag (HIF_C_STAT_RDY c.val) && x.head != x.tail && x.frozen.isNone && x.deleting.isNone &&
    (s.hif.ctrl[c]).shst == 0 && s.raw HIF_ACT_PHASE == 0 && (x.id == 0 || (!s.fetchPaused && !adminWaits))

/-- Bytes of one sector as a command transfers it. -/
def State.sectorBytes (s : State) (ns : Nat) : Nat :=
  4096 + (if (s.hif.ns.toList.getD (ns - 1) default).ext then s.nsMeta ns else 0)

/-- First LBA of a command, and its count of LBAs. -/
def sqeLba (e : Sqe) : Nat := e.d10 + e.d11 * 2 ^ 32
def sqeNlb (e : Sqe) : Nat := e.d12 % 65536 + 1

/-- Admin opcodes of R214. -/
def adminOpcodes : List Nat :=
  [0x00, 0x01, 0x02, 0x04, 0x05, 0x06, 0x08, 0x09, 0x0A, 0x0C, 0x0D, 0x10, 0x11, 0x15, 0x7C, 0x80, 0x81, 0x82, 0x84, 0xC1]
/-- I/O opcodes of R214: NVM, and those of zoned namespaces. -/
def nvmOpcodes : List Nat := [0x00, 0x01, 0x02, 0x04, 0x05, 0x08, 0x09, 0x0C]
def zonedOpcodes : List Nat := [0x79, 0x7A, 0x7D]

/-- What an admin entry fails with before anything of it runs: an opcode, SGLs or fusing that is not offered, or an action of
Thaw Queue, Firmware Commit, Format NVM, Sanitize or the security commands that the manual does not list. -/
def adminCheck (e : Sqe) : Option HStat :=
  if !adminOpcodes.contains e.opc then some (hst 0 1 true)
  else if bits e.flags 0 2 ≠ 0 ∨ bits e.flags 6 2 ≠ 0 then some hField
  else
    match e.opc with
    | 0xC1 => if bits e.d10 16 2 = 0 then some hField else none
    | 0x10 => if 3 < bits e.d10 3 3 then some hField else none
    | 0x80 => if 2 < bits e.d10 9 3 then some hField else none
    | 0x84 => if bits e.d10 0 3 < 2 ∨ 4 < bits e.d10 0 3 then some hField else none
    | 0x81 => if bits e.d10 24 8 = 0xF1 ∧ [0x0001, 0x0002, 0x0010].contains (bits e.d10 8 16) then none else some hField
    | 0x82 =>
      if bits e.d10 24 8 = 0x00 ∨ (bits e.d10 24 8 = 0xF1 ∧ [0x0010, 0x0011, 0x0012, 0x0013].contains (bits e.d10 8 16)) then none
      else some hField
    | _ => none

/-- Whether a namespace is ready: enabled, and its key loaded when it is encrypted (R397). -/
def State.nsReady (s : State) (ns : Nat) : Bool :=
  s.flag (XLT_NS_CFG_EN (ns - 1)) && (!s.flag (SEC_NSKEY_ENC (ns - 1)) || s.flag (SEC_NSKEY_LOADED (ns - 1)))

/-- Commands whose NLB names a range of LBAs. -/
def rangeOpcodes : List Nat := [0x01, 0x02, 0x04, 0x05, 0x08, 0x0C, 0x7D]
/-- Commands that transfer their LBAs' data. -/
def dataOpcodes : List Nat := [0x01, 0x02, 0x05, 0x7D]

/-- What an I/O entry fails with at its fetch (R213, R214, R231). -/
def State.ioCheck (s : State) (c : Fin 2) (e : Sqe) (ranges : List (Nat × Nat)) : Option HStat :=
  let n := s.hif.ns.toList.getD (e.nsid - 1) default
  if !nvmOpcodes.contains e.opc ∧ !zonedOpcodes.contains e.opc then some (hst 0 1 true)
  else if bits e.flags 0 2 ≠ 0 ∨ bits e.flags 6 2 = 3 then some hField
  else if e.opc = 0x00 ∧ e.nsid = 0xFFFFFFFF then none
  else if e.nsid = 0 ∨ 4 < e.nsid then some (hst 0 0x0B true)
  else if !n.live ∨ !bitOf n.attached c.val then some hField
  else if zonedOpcodes.contains e.opc ∧ !s.nsZoned e.nsid then some (hst 0 1 true)
  else if e.opc = 0x00 then none
  else if !s.nsReady e.nsid then some hNotReady
  else if e.opc = 0x79 ∧ !([1, 2, 3, 4, 5].contains (bits e.d13 0 8)) then some hField
  else if e.opc = 0x7A ∧ bits e.d13 0 8 ≠ 0 then some hField
  else if dataOpcodes.contains e.opc ∧ 0x200000 < sqeNlb e * s.sectorBytes e.nsid then some hField
  else if e.opc = 0x7D ∧ sqeLba e % 65536 ≠ 0 then some hField
  else if rangeOpcodes.contains e.opc ∧ n.size < sqeLba e + (if e.opc = 0x7D then 1 else sqeNlb e) then some (hst 0 0x80 true)
  else if zonedOpcodes.contains e.opc ∧ !bitOf e.d13 8 ∧ n.size ≤ sqeLba e then some (hst 0 0x80 true)
  else if e.opc = 0x09 ∧ ranges.any (fun r => n.size < r.1 + r.2) then some (hst 0 0x80 true)
  else none

/-- The class of an I/O entry (R227). -/
def ioClass (e : Sqe) : Nat :=
  match e.opc with
  | 0x02 | 0x05 | 0x0C => 1
  | 0x01 | 0x04 | 0x08 | 0x09 => 2
  | 0x79 => if bits e.d13 0 8 = 4 ∨ bits e.d13 0 8 = 2 ∨ bits e.d13 0 8 = 5 then 2 else 0
  | 0x7D => 3
  | _ => 0

/-- The ranges an entry locks: a zone command's range, an append's included, is the whole zone, or
every zone when it selects all. -/
def State.ioRanges (s : State) (e : Sqe) (ranges : List (Nat × Nat)) : List (Nat × Nat) :=
  match e.opc with
  | 0x09 => ranges
  | 0x79 => if bitOf e.d13 8 then [(0, (s.hif.ns.toList.getD (e.nsid - 1) default).size)] else [(sqeLba e / 65536 * 65536, 65536)]
  | 0x7D => [(sqeLba e, 65536)]
  | _ => [(sqeLba e, sqeNlb e)]

/-- An entry as a command: its outcome stands already when it fails its checks; one without a lock needs no admission. A Flush
notes what it covers (R225). -/
def State.newCmd (s : State) (c : Fin 2) (x : Sq) (e : Sqe) (ranges : List (Nat × Nat)) : HCmd :=
  let err := if x.id = 0 then adminCheck e else s.ioCheck c e ranges
  let cls := if x.id = 0 ∨ err.isSome then 0 else ioClass e
  let covered := if x.id ≠ 0 ∧ e.opc = 0x00 then s.hif.writes.filter fun w => e.nsid == 0xFFFFFFFF || w.1 == e.nsid else []
  { ctl := c, sq := x.id, e, strict := x.strict, cls, ranges := if cls = 0 then [] else s.ioRanges e ranges
    st := if cls = 0 then .granted else .waiting, wps := [], gseq := 0, pieces := [], status := err, dw0 := 0
    jseq := covered.foldl (fun m w => max m w.2.1) 0, units := covered.flatMap (·.2.2), failLba := 0, follows := none }

/-- A role's doorbell line falls once its queues hold no entry that is not fetched (R284). -/
def bellFall (c : Fin 2) (q : Nat) (s : State) : State :=
  let r := s.hqOf c q
  let waits (d : Fin 2) : Bool := (s.hif.ctrl[d]).sqs.any fun x => s.hqOf d x.id == r && x.head != x.tail
  if waits 0 || waits 1 then s else modHif (fun h => { h with bell := h.bell.set r false }) s

/-- Admin commands that need the media (R326). -/
def needsMedia (e : Sqe) : Bool := e.opc == 0x80 || e.opc == 0x84 || e.opc == 0x10

/-- A submission entry arrives from host memory (R217): it is parsed and admitted. A CID already outstanding fails at once. -/
def commandFetch (c : Fin 2) (q : Nat) (e : Sqe) (ranges : List (Nat × Nat)) (s : State) : State :=
  match s.sq c q with
  | none => s
  | some x =>
    if !s.mayFetch c x then s
    else if s.atLimit c then s.on HIF_STAT_OUT_FULL
    else
      let s1 := modSq c q (fun y => { y with head := (y.head + 1) % y.size }) s
      let k := s.newCmd c x e ranges
      if (s.cmd c q e.cid).isSome then
        let s2 := errorLog k (hst 0 3 true) s1
        freezeBy k (hst 0 3 true)
          (cqPut c x.cq { dw0 := 0, sq := q, cid := e.cid, status := (hst 0 3 true).word } s2)
      else
        let s2 := modHif (fun h => { h with cmds := h.cmds ++ [k] }) s1
        let s3 := s2.set HIF_OUTST_HWM (max (s2.raw HIF_OUTST_HWM) s2.hif.cmds.length)
        let s4 := if q = 0 && needsMedia e && 2 ≤ s3.pwr.req[c] then pwrRequest 6 c s3.pwr.lastOp[c] none s3 else s3
        bellFall c q (letIn (ledOn s4))

def execCommandFetch (c : Fin 2) (q : Nat) (e : Sqe) (ranges : List (Nat × Nat)) (s : State) : Res :=
  .next (live s (commandFetch c q e ranges))

/-! ### Doorbells and polling (R219, R220) -/

/-- An entry is seen: polling is FAST, and for an I/O queue a non-operational request returns to an operational state (R325). -/
def entrySeen (c : Fin 2) (q : Nat) (s : State) : State :=
  let s2 := if s.flag (HIF_C_STAT_DBBUF c.val) then s.on (HIF_C_STAT_FAST c.val) else s
  if q = 0 then s2 else ioArrival c s2

/-- A submission tail is taken: one outside the queue is an invalid doorbell write. -/
def tailTake (c : Fin 2) (q v : Nat) (s : State) : State :=
  match s.sq c q with
  | none => eventTo c 0x010000 s
  | some x =>
    if x.size ≤ v then eventTo c 0x010100 s
    else
      let s1 := modSq c q (fun y => { y with tail := v }) s
      if x.head = v then s1 else entrySeen c q s1

/-- A completion head is taken: one outside the queue, or not yet passed by the device, is an invalid doorbell write. -/
def headTake (c : Fin 2) (q v : Nat) (s : State) : State :=
  match s.cq c q with
  | none => eventTo c 0x010000 s
  | some x =>
    if x.size ≤ v ∨ x.held < (v + x.size - x.head) % x.size then eventTo c 0x010100 s
    else modCq c q (fun y => { y with head := v }) s

/-- An MMIO doorbell write: the line of the queue's role rises, while it has an entry to fetch (R284). During an activation the
write is recorded (R241). -/
def doorbell (c : Fin 2) (cq : Bool) (q v : Nat) (s : State) : State :=
  if !s.flag (HIF_C_STAT_EN c.val) then s
  else if s.raw HIF_ACT_PHASE ≠ 0 then modCtrl c (fun x => { x with late := x.late ++ [(cq, q, v)] }) s
  else if cq then headTake c q v s
  else bellFall c q (tailTake c q v (modHif (fun h => { h with bell := h.bell.set (s.hqOf c q) true }) s))

def execMmioDoorbell (c : Fin 2) (cq : Bool) (q : Nat) (v : BitVec 16) (s : State) : Res :=
  .next (live s (doorbell c cq q v.toNat))

/-- The EventIdx of a submission queue: in FAST the tail before the last seen, so that no update rings; in SLOW the last tail
seen. -/
def State.eventIdx (s : State) (c : Fin 2) (x : Sq) : Nat :=
  if s.flag (HIF_C_STAT_FAST c.val) then (x.tail + x.size - 1) % x.size else x.tail

/-- One poll of the shadow doorbells: each value as read, (CQ, queue, value); then every SQ EventIdx is written. Nothing is read
before the end of an activation. -/
def shadowPoll (c : Fin 2) (l : List (Bool × Nat × Nat)) (s : State) : State :=
  if s.flag (HIF_C_STAT_DBBUF c.val) && s.raw HIF_ACT_PHASE == 0 then
    let s1 := l.foldl (fun t e => if e.1 then headTake c e.2.1 e.2.2 t else tailTake c e.2.1 e.2.2 t) s
    (s1.hif.ctrl[c]).sqs.foldl (fun t x => t.emit (.eventIdx c false x.id (t.eventIdx c x))) s1
  else s

def execShadowDoorbellPoll (c : Fin 2) (l : List (Bool × Nat × Nat)) (s : State) : Res := .next (live s (shadowPoll c l))

/-- IDLE time without an entry or an outstanding command: polling is SLOW. -/
def pollIdle (c : Fin 2) (s : State) : State :=
  if (s.hif.ctrl[c]).sqs.any (fun x => x.head != x.tail) || s.hif.cmds.any (fun x => x.ctl == c) then s
  else
    let s1 := s.off (HIF_C_STAT_FAST c.val)
    if s1.flag (HIF_C_STAT_DBBUF c.val) then
      (s1.hif.ctrl[c]).sqs.foldl (fun t x => t.emit (.eventIdx c false x.id x.tail)) s1
    else s1

def execPollIdleTimeout (c : Fin 2) (s : State) : Res := .next (live s (pollIdle c))

end Sys2Proof.Machine
end

