-- ==== Sys2Proof/Machine/PatLog.lean ====
section
/-!
DEFINITION. Patina records as bytes (R361), the records in order newest first (R365), and log page 0xC1.
-/
namespace Sys2Proof.Machine

/-- FLAGS of a record: EARLY and in vault. -/
def PRec.flags (r : PRec) : Nat := 16 * b2n r.early + 8 * b2n r.vault

/-- The 128 bytes of a record: VALUE0–15 and ADDR0–15 hold the entries of its snapshot, in use from the first. -/
def PRec.bytes (r : PRec) : List Byte :=
  let val (i : Nat) : Nat := (r.vals.getD i (0, 0)).2
  let adr (i : Nat) : Nat := if i < r.vals.length then 2 ^ 23 + (r.vals.getD i (0, 0)).1 else 0
  leBytes r.opsec 5 ++ leBytes r.pcc 3 ++ leBytes r.trig 1 ++ leBytes r.flags 1 ++ leBytes r.rep 2 ++ leBytes r.detail 4 ++
    (List.range 16).flatMap (fun i => leBytes (val i) 4) ++ (List.range 16).flatMap (fun i => leBytes (adr i) 3)

/-- The records of the SRAM ring, newest first. -/
def State.ringRecs (s : State) : List PRec :=
  (List.range 2048).filterMap fun k => tabLook none s.pat.ring ((s.raw PAT_STAT_NEWEST + 2048 - k) % 2048)

/-- Every record, newest first, counting both rings without duplicates: the SRAM ring's, then the vault's older ones, which are
those beyond its copies of SRAM records. -/
def State.allRecs (s : State) : List PRec :=
  s.ringRecs ++ s.pat.vring.drop (s.ringRecs.filter (·.vault)).length

/-- Log page 0xC1 (R365). -/
def State.patPage (s : State) : List Byte :=
  let l := s.allRecs
  leBytes l.length 4 ++ leBytes s.opsec 5 ++ leBytes (s.raw PAT_PCC_PCC) 3 ++ leBytes s.pat.lostRead 4 ++
    List.replicate 112 0 ++ l.flatMap PRec.bytes

/-- The indexes of the records not in the vault, oldest first. -/
def State.unsaved (s : State) : List Nat :=
  ((List.range 2048).map fun k => (s.raw PAT_STAT_NEWEST + 2049 + k) % 2048).filter fun i =>
    match tabLook none s.pat.ring i with | some r => !r.vault | none => false

/-- Copy the oldest `n` records not in the vault to the vault ring, which keeps the newest 8,192 (R363). -/
def patCopy (n : Nat) (s : State) : State :=
  let l := s.unsaved.take n
  let f (t : State) (i : Nat) : State :=
    match tabLook none t.pat.ring i with
    | some r =>
      let r' : PRec := { r with vault := true }
      { t with pat := { t.pat with ring := tabPut none t.pat.ring i (some r'), vring := (r' :: t.pat.vring).take 8192 } }
    | none => t
  (l.foldl f s).set PAT_STAT_UNSAVED (s.raw PAT_STAT_UNSAVED - l.length)

/-- The copy after a save: every unsaved record (R363). -/
def patCopyAll (s : State) : State := patCopy 2048 s

/-- Whether a copy in service can be made: VLT enabled, with a queue place and a completion place free. -/
def State.patMayCopy (s : State) : Bool :=
  s.flag PAT_CTL_VAULT_EN && s.flag VLT_CTL_EN && decide (s.vlt.queue.length < 16) &&
    decide (s.vlt.queue.length + s.vlt.cq.length < 32)

/-- At an orderly shutdown the records are copied while VAULT_EN is 1b. -/
def patShutdown (s : State) : State := s.when (s.patMayCopy && !s.unsaved.isEmpty) fun t => (patCopyAll t).on PAT_STAT_COPIED

end Sys2Proof.Machine
end

