-- ==== Sys2Proof/Machine/HostAdmin.lean ====
section
/-!
DEFINITION. Admin commands (R214, R215): queues (R216, R234), Identify (R213), logs (R235, R365), features (R232, R319, R324, R354),
Abort (R237, R238), Thaw Queue (R236), namespaces (R165), Format and Sanitize (R398), and the security commands (R395).
-/
namespace Sys2Proof.Machine

/-- Give a command its outcome with DW0 of its completion. -/
def finish (c : Fin 2) (q i : Nat) (st : HStat) (dw0 : Nat) (s : State) : State :=
  modCmd c q i (fun x => { x with status := some st, dw0 }) s

/-- Act on an admin command that is outstanding and has no outcome. -/
def adminDo (c : Fin 2) (i opc : Nat) (f : HCmd → State → State) (s : State) : State :=
  match s.cmd c 0 i with
  | some x => if x.e.opc = opc ∧ x.status.isNone then f x s else s
  | none => s

/-- Invalid Queue Identifier. -/
def hBadQueue : HStat := hst 1 0x01 true
/-- Invalid Namespace or Format. -/
def hBadNs : HStat := hst 0 0x0B true

/-! ### Queues (R216, R234) -/

/-- Create I/O Completion Queue. -/
def createCq (c : Fin 2) (x : HCmd) (s : State) : State :=
  let id := bits x.e.d10 0 16
  let n := bits x.e.d10 16 16
  let st :=
    if id = 0 ∨ 128 < id ∨ (s.cq c id).isSome then hBadQueue
    else if n = 0 ∨ 4095 < n then hst 1 0x02 true
    else if !bitOf x.e.d11 0 then hField
    else if 128 < bits x.e.d11 16 16 then hst 1 0x08 true
    else hOk
  let k : Cq := { id, size := n + 1, head := 0, tail := 0, ien := bitOf x.e.d11 1, vector := bits x.e.d11 16 16, wait := [] }
  setOut c 0 x.e.cid st (if st.ok then modCtrl c (fun v => { v with cqs := v.cqs ++ [k] }) s else s)

def execCreateIoCq (c : Fin 2) (i : Nat) (s : State) : Res := .next (live s (adminDo c i 0x05 (createCq c)))

/-- Delete I/O Completion Queue: its submission queues must be gone. -/
def deleteCq (c : Fin 2) (x : HCmd) (s : State) : State :=
  let id := bits x.e.d10 0 16
  let st :=
    if id = 0 ∨ (s.cq c id).isNone then hBadQueue
    else if (s.hif.ctrl[c]).sqs.any fun q => q.cq == id && q.id != 0 then hst 1 0x0C true
    else hOk
  setOut c 0 x.e.cid st (if st.ok then modCtrl c (fun v => { v with cqs := v.cqs.filter fun k => k.id != id }) s else s)

def execDeleteIoCq (c : Fin 2) (i : Nat) (s : State) : Res := .next (live s (adminDo c i 0x04 (deleteCq c)))

/-- Create I/O Submission Queue: ACTIVE, Head 0, Strict Error Mode off. -/
def createSq (c : Fin 2) (x : HCmd) (s : State) : State :=
  let id := bits x.e.d10 0 16
  let n := bits x.e.d10 16 16
  let cq := bits x.e.d11 16 16
  let st :=
    if id = 0 ∨ 128 < id ∨ (s.sq c id).isSome then hBadQueue
    else if n = 0 ∨ 4095 < n then hst 1 0x02 true
    else if !bitOf x.e.d11 0 then hField
    else if cq = 0 then hBadQueue
    else if (s.cq c cq).isNone then hst 1 0x00 true
    else hOk
  let k : Sq := { id, size := n + 1, cq, head := 0, tail := 0, strict := false, frozen := none, deleting := none }
  setOut c 0 x.e.cid st (if st.ok then modCtrl c (fun v => { v with sqs := v.sqs ++ [k] }) s else s)

def execCreateIoSq (c : Fin 2) (i : Nat) (s : State) : Res := .next (live s (adminDo c i 0x01 (createSq c)))

/-- Commands of a queue that are not granted: while it is frozen, the held ones. -/
def State.ungranted (s : State) (c : Fin 2) (q : Nat) : List HCmd :=
  s.hif.cmds.filter fun x => x.ctl == c && x.sq == q && x.st != .granted

/-- Delete I/O Submission Queue: held and ungranted commands complete with 0x08, and it waits for the rest (R234). -/
def deleteSq (c : Fin 2) (x : HCmd) (s : State) : State :=
  let id := bits x.e.d10 0 16
  match s.sq c id with
  | none => setOut c 0 x.e.cid hBadQueue s
  | some k =>
    if id = 0 then setOut c 0 x.e.cid hBadQueue s
    else if k.deleting.isSome then s
    else
      let s1 := modSq c id (fun y => { y with deleting := some x.e.cid }) s
      sqGone c id ((s.ungranted c id).foldl (fun t y => commitWith (hst 0 0x08 false) y t) s1)

def execDeleteIoSq (c : Fin 2) (i : Nat) (s : State) : Res := .next (live s (adminDo c i 0x00 (deleteSq c)))

/-! ### Identify (R213, R245, R318); the places of the fields are those of NVMe 2.0 -/

/-- Identify Controller, as (byte, width, value); bytes it does not name are free. -/
def State.idCtrl (s : State) (c : Fin 2) : List (Nat × Nat × Nat) :=
  let ps (n mp nops enlat exlat r w : Nat) : List (Nat × Nat × Nat) :=
    let o := 2048 + 32 * n
    [(o, 2, mp), (o + 3, 1, 2 * nops), (o + 4, 4, enlat), (o + 8, 4, exlat), (o + 12, 1, r), (o + 13, 1, r), (o + 14, 1, w),
     (o + 15, 1, w)]
  let fr := imgLe (fun i => tabLook 0 s.sec.run i) 8 8
  [(64, 8, fr), (77, 1, 9), (78, 2, c.val), (80, 4, 0x20000), (128, 2, 10), (256, 2, 0x10F), (258, 1, 7), (259, 1, 3), (260, 1, 0x14),
   (262, 1, 255), (263, 1, 4), (265, 1, 1), (270, 2, 15), (328, 4, 3), (512, 1, 0x66), (513, 1, 0x44), (516, 4, 4), (520, 2, 0xCF),
   (525, 1, 7), (526, 2, 255), (528, 2, 255), (536, 4, 1)] ++
    ps 0 1300 0 0 0 0 0 ++ ps 1 1000 0 0 0 1 1 ++ ps 2 880 1 1000 1000 0 0 ++ ps 3 550 1 1500000 4000000 0 0 ++
    ps 4 120 1 10000000 25000000 0 0

/-- Identify Namespace; a namespace that is not attached reads zero. -/
def State.idNs (s : State) (ns : Nat) : List (Nat × Nat × Nat) :=
  let n := s.hif.ns.toList.getD (ns - 1) default
  [(0, 8, n.size), (8, 8, n.size), (25, 1, 3), (26, 1, n.fmt + 16 * b2n n.ext), (27, 1, 3), (29, 1, n.pi + 8 * b2n n.pil),
   (30, 1, b2n s.twoPort), (128, 4, 12 * 65536), (132, 4, 12 * 65536 + 8), (136, 4, 12 * 65536 + 16), (140, 4, 12 * 65536 + 16)]

/-- Whether a namespace exists and is attached to a controller. -/
def State.nsAttached (s : State) (c : Fin 2) (ns : Nat) : Bool :=
  1 ≤ ns && ns ≤ 4 && (s.hif.ns.toList.getD (ns - 1) default).live && bitOf (s.hif.ns.toList.getD (ns - 1) default).attached c.val

/-- Identify. -/
def identify (c : Fin 2) (x : HCmd) (s : State) : State :=
  let page (l : List (Nat × Nat × Nat)) (t : State) : State := setOut c 0 x.e.cid hOk (t.emit (.hostPage c 0 x.e.cid l))
  match bits x.e.d10 0 8 with
  | 0x00 =>
    if x.e.nsid = 0 ∨ 4 < x.e.nsid then setOut c 0 x.e.cid hBadNs s
    else if s.nsAttached c x.e.nsid then page (s.idNs x.e.nsid) s else page [(0, 4096, 0)] s
  | 0x01 => page (s.idCtrl c) s
  | 0x02 =>
    let l := [1, 2, 3, 4].filter fun n => x.e.nsid < n && s.nsAttached c n
    page (l.zipIdx.map (fun e => (4 * e.2, 4, e.1)) ++ [(4 * l.length, 4096 - 4 * l.length, 0)]) s
  | 0x06 => if bits x.e.d11 24 8 = 2 then page [(0, 1, 9)] s else page [] s
  | 0x05 => page (if bits x.e.d11 24 8 = 2 ∧ s.nsZoned x.e.nsid then [(2816, 8, 65536), (2832, 8, 65536)] else []) s
  | _ => setOut c 0 x.e.cid hField s

def execIdentify (c : Fin 2) (i : Nat) (s : State) : Res := .next (live s (adminDo c i 0x06 (identify c)))

/-! ### Log pages (R215, R235, R365) -/

/-- The Error Information log: 64 bytes an entry. -/
def State.errPage (s : State) (c : Fin 2) : List Byte :=
  (s.hif.ctrl[c]).errLog.flatMap fun e =>
    leBytes e.count 8 ++ leBytes e.sq 2 ++ leBytes e.cid 2 ++ leBytes e.status 2 ++ leBytes 0xFFFF 2 ++ leBytes e.lba 8 ++
      List.replicate 40 0

/-- The Frozen Queue log (R235). -/
def State.frozenPage (s : State) (c : Fin 2) (q : Nat) : List Byte :=
  if q = 0 then
    let v := (s.hif.ctrl[c]).sqs.foldl (fun n x => if x.frozen.isSome ∧ x.id ≠ 0 then setBit n (x.id - 1) else n) 0
    leBytes v 16 ++ List.replicate 48 0
  else
    match (s.sq c q).bind (·.frozen) with
    | none => leBytes q 2 ++ List.replicate 62 0
    | some f =>
      let held := (s.ungranted c q).map (·.e.cid)
      let head := match s.sq c q with | some x => x.head | none => 0
      leBytes q 2 ++ leBytes 1 1 ++ leBytes f.failures 1 ++ leBytes f.cid 2 ++ leBytes f.status 2 ++ leBytes f.errCount 8 ++
        leBytes f.wall 8 ++ leBytes held.length 2 ++ leBytes head 2 ++ List.replicate 36 0 ++
        held.flatMap (fun i => leBytes i 2) ++ List.replicate (2 * (held.length % 2)) 0

/-- The firmware revision of a slot: zero while its image fails a check or has failed to start (R392). -/
def State.slotRev (s : State) (i : Fin 2) : Nat :=
  if s.imageCheck (s.sec.slots[i]).byte = 0 && !(s.sec.slots[i]).failed then imgLe (s.sec.slots[i]).byte 8 8 else 0

/-- The fields the manual gives of the SMART, Firmware Slot, Commands Supported and Changed Zone List logs. -/
def State.fieldPage (s : State) (c : Fin 2) (lid : Nat) : List (Nat × Nat × Nat) :=
  match lid with
  | 0x02 => [(1, 2, (273 + s.geti THM_TMAX_TMAX / 8).toNat), (112, 16, s.raw PAT_PCC_PCC), (128, 16, s.opsec / 3600)]
  | 0x03 => [(0, 1, s.raw SEC_STAT_SLOT + 1), (8, 8, s.slotRev 0), (16, 8, s.slotRev 1)]
  | 0x05 => adminOpcodes.map (fun o => (4 * o, 1, 1)) ++ (nvmOpcodes ++ zonedOpcodes).map (fun o => (1024 + 4 * o, 1, 1))
  | _ =>
    let z := (s.hif.ctrl[c]).zones
    (0, 2, z.length) :: z.zipIdx.map fun e => (8 + 8 * e.2, 8, e.1)

/-- Get Log Page. -/
def getLogPage (c : Fin 2) (x : HCmd) (s : State) : State :=
  let lid := bits x.e.d10 0 8
  let len := (bits x.e.d10 16 16 + bits x.e.d11 0 16 * 2 ^ 16 + 1) * 4
  let ofs := x.e.d12 + x.e.d13 * 2 ^ 32
  let lsi := bits x.e.d11 16 16
  let bytes (l : List Byte) : State :=
    setOut c 0 x.e.cid hOk (s.emit (.hostData c 0 x.e.cid ((l.drop ofs).take len)))
  if lid = 0x01 then bytes (s.errPage c)
  else if lid = 0xC0 then bytes (s.frozenPage c lsi)
  else if lid = 0xC1 then if ofs % 128 = 0 then bytes s.patPage else setOut c 0 x.e.cid hField s
  else if lid = 0x02 ∨ lid = 0x03 ∨ lid = 0x05 ∨ lid = 0xBF then
    let s1 := setOut c 0 x.e.cid hOk (s.emit (.hostPage c 0 x.e.cid (s.fieldPage c lid)))
    if lid = 0xBF ∧ !bitOf x.e.d10 15 then modCtrl c (fun v => { v with zones := [] }) s1 else s1
  else setOut c 0 x.e.cid (hst 1 0x09 true) s

def execGetLogPage (c : Fin 2) (i : Nat) (s : State) : Res := .next (live s (adminDo c i 0x02 (getLogPage c)))

/-! ### Features (R215, R232, R319, R324, R354) -/

/-- The feature identifier of a command. -/
def HCmd.fid (x : HCmd) : Nat := bits x.e.d10 0 8

/-- Features without a row of their own. -/
def plainFeatures : List Nat := [0x01, 0x04, 0x06, 0x07, 0x08, 0x09, 0x0A, 0x0B, 0x0E]

/-- Where a feature's value is kept: one for each interrupt vector, and one for each temperature threshold. -/
def featKey (fid d11 : Nat) : Nat :=
  if fid = 0x09 then 0x900 + bits d11 0 16 else if fid = 0x04 then 0x400 + bits d11 16 6 else fid

/-- Keep a feature value of a controller. -/
def setFeat (c : Fin 2) (k v : Nat) (s : State) : State :=
  modCtrl c (fun x => { x with feats := tabPut none x.feats k (some v) }) s

/-- Set Features of a feature without a row of its own: `data` is the Timestamp it transfers. Saving is not supported. -/
def setFeatures (data : Nat) (c : Fin 2) (x : HCmd) (s : State) : State :=
  let f := x.fid
  let v := x.e.d11
  if [0x02, 0x0C, 0xC0, 0xC1].contains f then s
  else if !plainFeatures.contains f ∨ bitOf x.e.d10 31 then setOut c 0 x.e.cid hField s
  else if f = 0x07 then
    if bits v 0 16 = 0xFFFF ∨ bits v 16 16 = 0xFFFF then setOut c 0 x.e.cid hField s
    else finish c 0 x.e.cid hOk (127 + 127 * 65536) (setFeat c f v s)
  else if f = 0x09 ∧ 128 < bits v 0 16 then setOut c 0 x.e.cid hField s
  else if f = 0x0E then setOut c 0 x.e.cid hOk (setFeat c 0xE00 s.inv.wall (setFeat c f data s))
  else setOut c 0 x.e.cid hOk (setFeat c (featKey f v) v s)

def execSetFeatures (c : Fin 2) (i data : Nat) (s : State) : Res := .next (live s (adminDo c i 0x09 (setFeatures data c)))

/-- Set Features of one feature. -/
def featureDo (c : Fin 2) (i fid : Nat) (f : HCmd → State → State) (s : State) : State :=
  adminDo c i 0x09 (fun x t => if x.fid = fid then (if bitOf x.e.d10 31 then setOut c 0 i hField t else f x t) else t) s

/-- Strict Error Mode: the mode changes when the command commits (R232). -/
def strictMode (c : Fin 2) (x : HCmd) (s : State) : State :=
  let q := bits x.e.d11 0 16
  setOut c 0 x.e.cid (if q = 0 ∨ (s.sq c q).isNone then hBadQueue else hOk) s

def execStrictErrorMode (c : Fin 2) (i : Nat) (s : State) : Res := .next (live s (featureDo c i 0xC1 (strictMode c)))

/-- Assay Duty: the duty changes when the command commits (R354). -/
def assayDuty (c : Fin 2) (x : HCmd) (s : State) : State :=
  setOut c 0 x.e.cid (if 100 < bits x.e.d11 0 8 then hField else hOk) s

def execAssayDuty (c : Fin 2) (i : Nat) (s : State) : Res := .next (live s (featureDo c i 0xC0 (assayDuty c)))

/-- Power Management: the controller's request; the command has its outcome when the transition ends (R319). -/
def powerManagement (c : Fin 2) (x : HCmd) (s : State) : State :=
  if 4 < bits x.e.d11 0 5 then setOut c 0 x.e.cid hField s
  else pwrRequest (3 + c.val) c (bits x.e.d11 0 5) (some (0, x.e.cid)) s

def execPowerManagement (c : Fin 2) (i : Nat) (s : State) : Res := .next (live s (featureDo c i 0x02 (powerManagement c)))

/-- Whether an APST entry may stand for PSn (R324). -/
def apstOk (n e : Nat) : Bool :=
  let p := bits e 3 5
  (2 ≤ p && p ≤ 4 && n < p) || (p == 0 && bits e 8 24 == 0)

/-- Autonomous Power State Transition: the table transferred, one entry of 64 bits for each state. -/
def apstSet (table : List Nat) (c : Fin 2) (x : HCmd) (s : State) : State :=
  if (List.range 5).all fun n => apstOk n (table.getD n 0) then
    setOut c 0 x.e.cid hOk
      ((List.range 5).foldl (fun t n => setFeat c (0x100 + n) (table.getD n 0) t) (setFeat c 0x0C x.e.d11 s))
  else setOut c 0 x.e.cid hField s

def execAutonomousPowerStateTransition (c : Fin 2) (i : Nat) (table : List Nat) (s : State) : Res :=
  .next (live s (featureDo c i 0x0C (apstSet table c)))

/-- The present value of a feature as DW0 shows it. -/
def State.featNow (s : State) (c : Fin 2) (f d11 : Nat) : Nat :=
  match f with
  | 0x02 => s.pwr.req[c]
  | 0x06 => b2n (s.vwc c)
  | 0x07 => 127 + 127 * 65536
  | 0xC0 => s.raw ASY_CTL_DUTY
  | 0xC1 => match s.sq c (bits d11 0 16) with | some q => 2 ^ 31 * b2n q.strict | none => 0
  | _ => s.feat c (featKey f d11)

/-- The default of a feature. -/
def featDefault (f : Nat) : Nat :=
  match f with
  | 0x06 | 0xC0 => 1
  | 0x07 => 127 + 127 * 65536
  | _ => 0

/-- Get Features: SEL 000b the present value, 001b the default, 011b the capabilities (changeable); saved values are not
supported. The Timestamp and the APST table are transferred. -/
def getFeatures (c : Fin 2) (x : HCmd) (s : State) : State :=
  let f := x.fid
  let sel := bits x.e.d10 8 3
  if !(plainFeatures ++ [0x02, 0x0C, 0xC0, 0xC1]).contains f ∨ sel = 2 ∨ 3 < sel then setOut c 0 x.e.cid hField s
  else if f = 0xC1 ∧ (bits x.e.d11 0 16 = 0 ∨ (s.sq c (bits x.e.d11 0 16)).isNone) then setOut c 0 x.e.cid hBadQueue s
  else if sel = 3 then finish c 0 x.e.cid hOk 4 s
  else if sel = 1 then finish c 0 x.e.cid hOk (featDefault f) s
  else
    let s1 :=
      if f = 0x0E then
        s.emit (.hostPage c 0 x.e.cid [(0, 6, s.feat c 0x0E + (s.inv.wall - s.feat c 0xE00) / 1000000)])
      else if f = 0x0C then
        s.emit (.hostPage c 0 x.e.cid ((List.range 5).map fun n => (8 * n, 8, s.apst c n)))
      else s
    finish c 0 x.e.cid hOk (s.featNow c f x.e.d11) s1

def execGetFeatures (c : Fin 2) (i : Nat) (s : State) : Res := .next (live s (adminDo c i 0x0A (getFeatures c)))

/-- Asynchronous Event Request: it completes with an event that waits, or stays outstanding; at most 4 do (AERL). -/
def aerRequest (c : Fin 2) (x : HCmd) (s : State) : State :=
  let k := s.hif.ctrl[c]
  if k.aers.contains x.e.cid then s
  else if 4 ≤ k.aers.length then setOut c 0 x.e.cid (hst 1 0x05 true) s
  else
    match k.events with
    | code :: t => finish c 0 x.e.cid hOk code (modCtrl c (fun v => { v with events := t }) s)
    | [] => modCtrl c (fun v => { v with aers := v.aers ++ [x.e.cid] }) s

def execAsynchronousEventRequest (c : Fin 2) (i : Nat) (s : State) : Res := .next (live s (adminDo c i 0x0C (aerRequest c)))

/-! ### Abort (R237, R238) -/

/-- The Abort is done: DW0 bit 0, and the command its completion follows. -/
def abortEnd (c : Fin 2) (i dw0 : Nat) (follows : Option (Nat × Nat)) (s : State) : State :=
  modCmd c 0 i (fun x => { x with status := some hOk, dw0, follows }) s

/-- Abort: the outcome by the state of the command it names. -/
def abort (c : Fin 2) (x : HCmd) (s : State) : State :=
  let q := bits x.e.d10 0 16
  let i := bits x.e.d10 16 16
  let n := (s.hif.cmds.filter fun y => y.ctl == c && y.sq == 0 && y.e.opc == 0x08 && y.status.isNone).length
  if 8 < n then setOut c 0 x.e.cid (hst 1 0x03 true) s
  else
    match s.cmd c q i with
    | none =>
      if s.hif.lastAt = s.inv.wall ∧ s.hif.lastCommit.contains (c, q, i) then
        abortEnd c x.e.cid 1 none (patTrig 26 q (s.on HIF_STAT_ABORT_LATE))
      else abortEnd c x.e.cid 1 none s
    | some y =>
      let stop : State := abortEnd c x.e.cid 0 none (commitWith (hst 0 0x07 false) y s)
      let runs : State := abortEnd c x.e.cid 1 (if q = 0 ∧ i = x.e.cid then none else some (q, i)) s
      if y.st != .granted then stop
      else if q = 0 then runs
      else if y.cls = 1 ∨ y.e.opc = 0x00 then stop
      else if y.status.isNone then stop
      else runs

def execAbort (c : Fin 2) (i : Nat) (s : State) : Res := .next (live s (adminDo c i 0x08 (abort c)))

/-! ### Thaw Queue (R236) -/

/-- Complete commands with Discarded at Thaw. -/
def discard (l : List HCmd) (s : State) : State := l.foldl (fun t y => commitWith (hst 7 0xC0 true) { y with strict := false } t) s

/-- The entries up to the tail are fetched and completed with Discarded at Thaw; `cids` are theirs. -/
def discardTail (c : Fin 2) (q : Nat) : List Nat → State → State
  | [], s => s
  | i :: t, s =>
    match s.sq c q with
    | none => s
    | some x =>
      if x.head = x.tail then s
      else
        let st := hst 7 0xC0 true
        let k : HCmd := { (default : HCmd) with ctl := c, sq := q, e := { (default : Sqe) with cid := i } }
        discardTail c q t (cqPut c x.cq { dw0 := 0, sq := q, cid := i, status := st.word }
          (errorLog k st (modSq c q (fun y => { y with head := (y.head + 1) % y.size }) s)))

/-- Thaw Queue with an action, on a queue that is frozen; the frozen record is cleared. -/
def thaw (action : Nat) (f : Nat → List HCmd → State → State) (c : Fin 2) (x : HCmd) (s : State) : State :=
  let q := bits x.e.d10 0 16
  if bits x.e.d10 16 2 ≠ action then s
  else
    match s.sq c q with
    | none => setOut c 0 x.e.cid hBadQueue s
    | some k =>
      if q = 0 then setOut c 0 x.e.cid hBadQueue s
      else if k.frozen.isNone then setOut c 0 x.e.cid (hst 7 0xC1 true) s
      else
        let held := s.ungranted c q
        let s1 := f q held (modSq c q (fun y => { y with frozen := none }) s)
        setOut c 0 x.e.cid hOk s1

def execThawResume (c : Fin 2) (i : Nat) (s : State) : Res :=
  .next (live s (adminDo c i 0xC1 (thaw 1 (fun _ _ t => t) c)))

def execThawDiscardHeld (c : Fin 2) (i : Nat) (s : State) : Res :=
  .next (live s (adminDo c i 0xC1 (thaw 2 (fun _ l t => discard l t) c)))

def execThawDiscardAll (c : Fin 2) (i : Nat) (cids : List Nat) (s : State) : Res :=
  .next (live s (adminDo c i 0xC1 (thaw 3 (fun q l t => discardTail c q cids (discard l t)) c)))

/-! ### Namespaces (R165, R211, R214) -/

/-- Change a namespace. -/
def modNs (ns : Nat) (f : NsInfo → NsInfo) (s : State) : State :=
  if h : ns - 1 < 4 then modHif (fun v => { v with ns := v.ns.set (ns - 1) (f v.ns[ns - 1]) }) s else s

/-- Whether every chunk of a namespace has no extent, and every zone is Empty. -/
def State.nsEmpty (s : State) (ns : Nat) : Bool :=
  (List.range (s.raw (XLT_NS_CFG_CHUNKS (ns - 1)))).all fun k =>
    match (readImage false (s.chunkOf ns (k * 65536)) s).2 with
    | some c => !cRv c && cZs c == 0
    | none => false

/-- Apply the records that XL1 has built, in order. -/
def recordsApply (recs : List Nat) (s : State) : State := recs.foldl (fun t a => (roleRecord a t).1) s

/-- Whether chunks `base` to `base + n` overlap those of another enabled namespace. -/
def State.chunksTaken (s : State) (base n : Nat) : Bool :=
  (List.range 4).any fun m => s.flag (XLT_NS_CFG_EN m) && decide (s.raw (XLT_NS_BASE_CHUNK_BASE m) < base + n) &&
    decide (base < s.raw (XLT_NS_BASE_CHUNK_BASE m) + s.raw (XLT_NS_CFG_CHUNKS m))

/-- Chunks of the enabled namespaces together. -/
def State.chunksUsed (s : State) : Nat :=
  (List.range 4).foldl (fun n m => if s.flag (XLT_NS_CFG_EN m) then n + s.raw (XLT_NS_CFG_CHUNKS m) else n) 0

/-- Namespace Management, create: `size` and `cap` in LBAs, `fmt` and `pi` from the data transferred, and the chunk at which the
firmware places it. -/
def nsCreate (size cap fmt pi base : Nat) (c : Fin 2) (x : HCmd) (s : State) : State :=
  let csi := bits x.e.d11 24 8
  let n := ceilDiv size 65536
  let bad (st : HStat) : State := setOut c 0 x.e.cid st s
  if (csi ≠ 0 ∧ csi ≠ 2) ∨ size = 0 then bad hField
  else if 3 < fmt % 16 then bad (hst 1 0x0A true)
  else if cap ≠ size then bad (hst 1 0x1B true)
  else if csi = 2 ∧ size % 65536 ≠ 0 then bad hField
  else if 524288 < s.chunksUsed + n then bad (hst 1 0x15 true)
  else
    match [1, 2, 3, 4].find? fun k => !(s.hif.ns.toList.getD (k - 1) default).live with
    | none => bad (hst 1 0x16 true)
    | some k =>
      if s.chunksTaken base n ∨ 524288 < base + n then s
      else
        let info : NsInfo := { live := true, size, attached := if s.twoPort then 3 else 0, fmt := fmt % 16, ext := bitOf fmt 4
                               pi := pi % 8, pil := bitOf pi 3 }
        let s1 := (((s.set (XLT_NS_BASE_CHUNK_BASE (k - 1)) base).put (XLT_NS_CFG_ZONED (k - 1)) (csi == 2)).set
          (XLT_NS_CFG_CHUNKS (k - 1)) n).on (XLT_NS_CFG_EN (k - 1))
        finish c 0 x.e.cid hOk k (modNs k (fun _ => info) s1)

/-- Namespace Management, delete: XL1's records free what it held. -/
def nsDelete (recs : List Nat) (c : Fin 2) (x : HCmd) (s : State) : State :=
  let l := if x.e.nsid = 0xFFFFFFFF then [1, 2, 3, 4].filter (fun k => (s.hif.ns.toList.getD (k - 1) default).live) else [x.e.nsid]
  if l.any fun k => k = 0 ∨ 4 < k ∨ !(s.hif.ns.toList.getD (k - 1) default).live then setOut c 0 x.e.cid hBadNs s
  else
    let s1 := recordsApply recs s
    if l.all s1.nsEmpty then
      setOut c 0 x.e.cid hOk (l.foldl (fun t k => modNs k (fun _ => default) (t.off (XLT_NS_CFG_EN (k - 1)))) s1)
    else s

/-- Namespace Management. -/
def nsManagement (size cap fmt pi base : Nat) (recs : List Nat) (c : Fin 2) (x : HCmd) (s : State) : State :=
  match bits x.e.d10 0 4 with
  | 0 => nsCreate size cap fmt pi base c x s
  | 1 => nsDelete recs c x s
  | _ => setOut c 0 x.e.cid hField s

def execNamespaceManagement (c : Fin 2) (i size cap fmt pi base : Nat) (recs : List Nat) (s : State) : Res :=
  .next (live s (adminDo c i 0x0D (nsManagement size cap fmt pi base recs c)))

/-- Namespace Attachment to (or from) the controllers of the list transferred. -/
def nsAttachment (list : List (Fin 2)) (c : Fin 2) (x : HCmd) (s : State) : State :=
  let m := list.foldl (fun n k => setBit n k.val) 0
  let a := (s.hif.ns.toList.getD (x.e.nsid - 1) default).attached
  let bad (st : HStat) : State := setOut c 0 x.e.cid st s
  if x.e.nsid = 0 ∨ 4 < x.e.nsid ∨ !(s.hif.ns.toList.getD (x.e.nsid - 1) default).live then bad hBadNs
  else if list.isEmpty ∨ list.any (fun k => !s.ctlExists k) then bad (hst 1 0x1C true)
  else
    match bits x.e.d10 0 4 with
    | 0 => if a &&& m ≠ 0 then bad (hst 1 0x18 true) else setOut c 0 x.e.cid hOk (modNs x.e.nsid (fun n => { n with attached := a ||| m }) s)
    | 1 => if a &&& m ≠ m then bad (hst 1 0x1A true)
        else setOut c 0 x.e.cid hOk (modNs x.e.nsid (fun n => { n with attached := a - m }) s)
    | _ => bad hField

def execNamespaceAttachment (c : Fin 2) (i : Nat) (list : List (Fin 2)) (s : State) : Res :=
  .next (live s (adminDo c i 0x15 (nsAttachment list c)))

/-! ### Format and Sanitize (R398) -/

/-- A new key for an encrypted namespace. -/
def newKey (ns : Nat) (s : State) : State :=
  if h : ns - 1 < 4 then s.when (s.flag (SEC_NSKEY_ENC (ns - 1))) (keyGenerate ⟨ns - 1, h⟩ false) else s

/-- Format NVM: `ses` is the setting of its row; XL1's records deallocate every LBA and empty every zone, after which the format is
taken. -/
def formatNs (ses : Nat) (recs : List Nat) (c : Fin 2) (x : HCmd) (s : State) : State :=
  let ns := x.e.nsid
  let fmt := bits x.e.d10 0 4
  let pi := bits x.e.d10 5 3
  let bad (st : HStat) : State := setOut c 0 x.e.cid st s
  if bits x.e.d10 9 3 ≠ ses then s
  else if ns = 0 ∨ 4 < ns ∨ !(s.hif.ns.toList.getD (ns - 1) default).live then bad hBadNs
  else if 3 < fmt then bad (hst 1 0x0A true)
  else if 3 < pi ∨ (pi ≠ 0 ∧ fmt ≠ 1 ∧ fmt ≠ 2) then bad hField
  else if ses = 2 ∧ !s.flag (SEC_NSKEY_ENC (ns - 1)) then bad hField
  else
    let s1 := recordsApply recs (if ses = 0 then s else newKey ns s)
    if s1.nsEmpty ns then
      setOut c 0 x.e.cid hOk (modNs ns (fun n => { n with fmt, ext := bitOf x.e.d10 4, pi, pil := bitOf x.e.d10 8 }) s1)
    else s

def execFormatNvm (c : Fin 2) (i : Nat) (recs : List Nat) (s : State) : Res := .next (live s (adminDo c i 0x80 (formatNs 0 recs c)))
def execFormatUserDataErase (c : Fin 2) (i : Nat) (recs : List Nat) (s : State) : Res :=
  .next (live s (adminDo c i 0x80 (formatNs 1 recs c)))
def execFormatCryptoErase (c : Fin 2) (i : Nat) (recs : List Nat) (s : State) : Res :=
  .next (live s (adminDo c i 0x80 (formatNs 2 recs c)))

/-- Enabled namespaces. -/
def State.enabledNs (s : State) : List Nat := [1, 2, 3, 4].filter fun k => s.flag (XLT_NS_CFG_EN (k - 1))

/-- Erase the pages of vault region `r`. -/
def eraseRegion (r : Nat) (s : State) : State :=
  let a := s.raw (VLT_REGION_BASE r) * 256
  let b := a + s.raw (VLT_REGION_BLOCKS r) * 256
  modVlt (fun v => { v with pages := v.pages.filter fun e => e.1 < a || b ≤ e.1 }) s

/-- Regions 4 to 6 are erased; the save area's good blocks are erased again in its map. -/
def sanitizeVault (s : State) : State :=
  let n := s.raw (VLT_REGION_BLOCKS 6)
  withCap (fun t => modVlt (fun v => { v with used := 0 }) ((List.range (min n 320)).foldl (fun u k =>
    u.putBit (VLT_SAVE_MAP_ERASED (k / 32)) (k % 32) true) t)) (eraseRegion 6 (eraseRegion 5 (eraseRegion 4 s)))

/-- Sanitize (R398) once the fetched I/O commands have committed: dirty data and the journal tail are discarded, new keys drawn,
everything deallocated by XL1's records, and the vault regions erased. -/
def sanitize (crypto : Bool) (recs : List Nat) (c : Fin 2) (x : HCmd) (s : State) : State :=
  if crypto && s.enabledNs.any (fun k => !s.flag (SEC_NSKEY_ENC (k - 1))) then setOut c 0 x.e.cid hField s
  else if s.ioBusy then s
  else
    let s0 := withCap (fun t => modUnits (fun u => u.filter fun e => !e.2.dirty) t) s
    let s1 := s0.enabledNs.foldl (fun t k => newKey k t) (s0.set BUF_JRN_HEAD_OFS (s0.raw BUF_JRN_TAIL_OFS))
    let s2 := recordsApply recs s1
    if s2.enabledNs.all s2.nsEmpty then setOut c 0 x.e.cid hOk (sanitizeVault s2) else s

/-- Sanitize with an action. -/
def sanitizeDo (act : Nat) (f : HCmd → State → State) (x : HCmd) (s : State) : State :=
  if bits x.e.d10 0 3 = act then f x s else s

def execSanitizeCryptoErase (c : Fin 2) (i : Nat) (recs : List Nat) (s : State) : Res :=
  .next (live s (adminDo c i 0x84 (sanitizeDo 4 (sanitize true recs c))))
def execSanitizeBlockErase (c : Fin 2) (i : Nat) (recs : List Nat) (s : State) : Res :=
  .next (live s (adminDo c i 0x84 (sanitizeDo 2 (sanitize false recs c))))
def execSanitizeOverwrite (c : Fin 2) (i : Nat) (s : State) : Res :=
  .next (live s (adminDo c i 0x84 (sanitizeDo 3 fun _ => setOut c 0 i hField)))

/-! ### Security commands (R394, R395, R399) -/

/-- A security command of protocol F1h with an operation. -/
def secDo (op : Nat) (f : HCmd → State → State) (x : HCmd) (s : State) : State :=
  if bits x.e.d10 24 8 = 0xF1 ∧ bits x.e.d10 8 16 = op then f x s else s

/-- ENABLE: the namespace has no extent, and debug is locked. -/
def secEnable (c : Fin 2) (x : HCmd) (s : State) : State :=
  let ns := x.e.nsid
  if h : ns - 1 < 4 then
    if ns = 0 ∨ !(s.hif.ns.toList.getD (ns - 1) default).live ∨ !s.nsEmpty ns ∨ s.flag SEC_STAT_DBG_UNLOCKED then setOut c 0 x.e.cid hField s
    else setOut c 0 x.e.cid hOk (keyGenerate ⟨ns - 1, h⟩ false s)
  else setOut c 0 x.e.cid hField s

def execEnable (c : Fin 2) (i : Nat) (s : State) : Res := .next (live s (adminDo c i 0x81 (secDo 1 (secEnable c))))

/-- DEBUG_TOKEN: the token is checked as SEC_DBG_CTL does. -/
def secToken (good : Bool) (scope : Nat) (c : Fin 2) (x : HCmd) (s : State) : State :=
  let s1 := debugUnlock good scope s
  setOut c 0 x.e.cid (if s1.raw SEC_DBG_CTL_RESULT = 0 then hOk else hField) s1

def execDebugToken (c : Fin 2) (i : Nat) (good : Bool) (scope : Fin 4) (s : State) : Res :=
  .next (live s (adminDo c i 0x81 (secDo 2 (secToken good scope.val c))))

/-- ATTEST: the nonce is put at SEC_ATT_ADDR and a report started. -/
def secAttest (nonce : Nat) (c : Fin 2) (x : HCmd) (s : State) : State :=
  setOut c 0 x.e.cid hOk (attStart (s.dramWrite (s.raw SEC_ATT_ADDR_ADDR * 64) (leBytes nonce 32)))

def execAttest (c : Fin 2) (i : Nat) (nonce : BitVec 256) (s : State) : Res :=
  .next (live s (adminDo c i 0x81 (secDo 0x10 (secAttest nonce.toNat c))))

/-- The report, or Report Not Ready (SCT 7h, SC 0xC4, CRD 01b). -/
def secReport (c : Fin 2) (x : HCmd) (s : State) : State :=
  match s.sec.report with
  | some (body, sig) => setOut c 0 x.e.cid hOk (s.emit (.hostData c 0 x.e.cid (body ++ leBytes sig 29792)))
  | none => setOut c 0 x.e.cid { sct := 7, sc := 0xC4, crd := 1, dnr := false } s

def execReportReceive (c : Fin 2) (i : Nat) (s : State) : Res := .next (live s (adminDo c i 0x82 (secDo 0x10 (secReport c))))

/-- The identity public key and certificate. -/
def secIdentity (c : Fin 2) (x : HCmd) (s : State) : State :=
  setOut c 0 x.e.cid hOk (s.emit (.hostData c 0 x.e.cid (leBytes Config.identityKey 64 ++ Config.certificate)))

def execIdentityReceive (c : Fin 2) (i : Nat) (s : State) : Res := .next (live s (adminDo c i 0x82 (secDo 0x11 (secIdentity c))))

/-- Per namespace, the encrypted flag and the key generation. -/
def secKeyInfo (c : Fin 2) (x : HCmd) (s : State) : State :=
  setOut c 0 x.e.cid hOk
    (s.emit (.keyInfo c x.e.cid ((List.range 4).map fun n => (s.flag (SEC_NSKEY_ENC n), s.raw (SEC_NSKEY_GEN n)))))

def execKeyInfoReceive (c : Fin 2) (i : Nat) (s : State) : Res := .next (live s (adminDo c i 0x82 (secDo 0x12 (secKeyInfo c))))

/-- A fresh debug challenge. -/
def secChallenge (c : Fin 2) (x : HCmd) (s : State) : State :=
  let s1 := debugChallenge s
  setOut c 0 x.e.cid hOk
    (s1.emit (.hostData c 0 x.e.cid ((List.range 8).flatMap fun k => leBytes (s1.raw (SEC_DBG_CHAL_NONCE k)) 4)))

def execChallengeReceive (c : Fin 2) (i : Nat) (s : State) : Res := .next (live s (adminDo c i 0x82 (secDo 0x13 (secChallenge c))))

/-- The protocols: 00h and F1h. -/
def protocolList (c : Fin 2) (x : HCmd) (s : State) : State :=
  if bits x.e.d10 24 8 = 0 then
    setOut c 0 x.e.cid hOk (s.emit (.hostData c 0 x.e.cid [0, 0, 0, 0, 0, 0, 0, 2, 0, 0xF1]))
  else s

def execProtocolList (c : Fin 2) (i : Nat) (s : State) : Res := .next (live s (adminDo c i 0x82 (protocolList c)))

end Sys2Proof.Machine
end

