-- ==== Sys2Proof/Machine/HostNvm.lean ====
section
/-!
DEFINITION. I/O commands (R214): reads with the data of their grant (R19), writes and the other commands that change the map by
XL1's records (R223, R243, R244), zone commands (R180 to R182), and Flush (R225).
-/
namespace Sys2Proof.Machine

/-- Act on an I/O command of an opcode that is granted and has no outcome. -/
def ioDo (c : Fin 2) (q i opc : Nat) (f : HCmd → State → State) (s : State) : State :=
  match s.cmd c q i with
  | some x => if q ≠ 0 ∧ x.e.opc = opc ∧ x.st = .granted ∧ x.status.isNone then f x s else s
  | none => s

/-- Give an I/O command its outcome. -/
def ioOut_ (x : HCmd) (st : HStat) (s : State) : State := setOut x.ctl x.sq x.e.cid st s

/-- An outcome with the first failing LBA of a media error. -/
def ioFail (x : HCmd) (st : HStat) (lba : Nat) (s : State) : State :=
  modCmd x.ctl x.sq x.e.cid (fun y => { y with status := some st, failLba := lba }) s

/-- Unrecovered Read Error: DNR unless Limited Retry was set (R231). -/
def hUnrec (x : HCmd) : HStat := hst 2 0x81 (!bitOf x.e.d12 31)

/-- The status of what went wrong in a command's data; none when nothing did. -/
def errStatus (x : HCmd) : HostErr → Option HStat
  | .none => none
  | .xfer => some (hst 0 0x04 false)
  | .internal => some (hst 0 0x06 false)
  | .guard => some (hst 2 0x82 true)
  | .app => some (hst 2 0x83 true)
  | .ref => some (hst 2 0x84 true)
  | .unrec _ => some (hUnrec x)

/-! ### Reads (R19, R21, R246, R396) -/

/-- Whether the media can be used: not stopped by heat (R344), and no wake has failed (R325). -/
def State.mediaOff (s : State) : Bool := s.raw THM_STAT_STATE == 2 || s.pwr.wakeFail

/-- A sector as the host sees it: decrypted in an encrypted namespace. -/
def State.plain (s : State) (ns lba : Nat) (l : List Byte) : List Byte :=
  if 1 ≤ ns && ns ≤ 4 && s.flag (SEC_NSKEY_ENC (ns - 1)) then
    match s.sec.keys.toList.getD (ns - 1) none with
    | some (k, _) => Config.xts false k lba l
    | none => l
  else l

/-- The data of `n` sectors from an LBA, cut into sectors of 4,096 bytes and decrypted. -/
def State.plainRun (s : State) (ns : Nat) : (n lba : Nat) → List Byte → List Byte
  | 0, _, _ => []
  | n + 1, lba, l => s.plain ns lba (l.take 4096) ++ s.plainRun ns n (lba + 1) (l.drop 4096)

/-- The data of the pieces in order: zeros in gaps, the segment's bytes, or what the media returned. -/
def State.pieceData (s : State) (ns lba : Nat) : List Piece → (media : List (List Byte)) → List Byte
  | [], _ => []
  | p :: t, media =>
    if p.loc = 1 then s.plainRun ns p.n (lba + p.ofs) (s.dramBytes (p.addr * 4096) (p.n * 4096)) ++ s.pieceData ns lba t media
    else if 2 ≤ p.loc then s.plainRun ns p.n (lba + p.ofs) (media.headD []) ++ s.pieceData ns lba t media.tail
    else List.replicate (p.n * 4096) 0 ++ s.pieceData ns lba t media

/-- What a read ends with before its data is used: a map that cannot be read, an UNREC extent, media that is off, a segment with
uncorrectable data, or what went wrong in its data. -/
def State.readFail (s : State) (x : HCmd) (err : HostErr) : Option (HStat × Nat) :=
  let lba := sqeLba x.e
  match x.pieces.find? (·.bad), x.pieces.find? (·.unrec) with
  | some p, _ => some (hst 0 0x06 false, lba + p.ofs)
  | none, some p => some (hUnrec x, lba + p.ofs)
  | none, none =>
    if x.pieces.any (fun p => 2 ≤ p.loc) && s.mediaOff then some (hNotReady, 0)
    else if x.pieces.any fun p => p.loc == 1 && !s.dramOk (p.addr * 4096) (p.n * 4096) then some (hst 0 0x06 false, 0)
    else (errStatus x err).map fun st => (st, match err with | .unrec o => lba + o | _ => 0)

/-- Offline zones are not read (R231). -/
def State.readZoneFail (s : State) (x : HCmd) : Option HStat :=
  if s.nsZoned x.e.nsid then
    match (readImage false (s.chunkOf x.e.nsid (sqeLba x.e)) s).2 with
    | some c => if cZs c = 6 then some (hst 1 0xBB true) else none
    | none => none
  else none

/-- An R-class command whose sectors have been read: `media` is what the media returned for its media pieces. -/
def readDo (x : HCmd) (media : List (List Byte)) (err : HostErr) (use : List Byte → State → State) (s : State) : State :=
  match s.readZoneFail x with
  | some st => ioOut_ x st s
  | none =>
    match s.readFail x err with
    | some (st, lba) => ioFail x st lba s
    | none => use (s.pieceData x.e.nsid (sqeLba x.e) x.pieces media) s

/-- Read: the data goes to host memory. -/
def read (media : List (List Byte)) (err : HostErr) (x : HCmd) (s : State) : State :=
  readDo x media err (fun l t => ioOut_ x hOk (t.emit (.hostData x.ctl x.sq x.e.cid l))) s

def execRead (c : Fin 2) (q i : Nat) (media : List (List Byte)) (err : HostErr) (s : State) : Res :=
  .next (live s (ioDo c q i 0x02 (read media err)))

/-- Compare with the data the host sends. -/
def compare_ (media : List (List Byte)) (data : List Byte) (err : HostErr) (x : HCmd) (s : State) : State :=
  readDo x media err (fun l t => ioOut_ x (if l = data then hOk else hst 2 0x85 true) t) s

def execCompare (c : Fin 2) (q i : Nat) (media : List (List Byte)) (data : List Byte) (err : HostErr) (s : State) : Res :=
  .next (live s (ioDo c q i 0x05 (compare_ media data err)))

/-- Verify: read and checked without a transfer. -/
def verify (media : List (List Byte)) (err : HostErr) (x : HCmd) (s : State) : State := readDo x media err (fun _ t => ioOut_ x hOk t) s

def execVerify (c : Fin 2) (q i : Nat) (media : List (List Byte)) (err : HostErr) (s : State) : Res :=
  .next (live s (ioDo c q i 0x0C (verify media err)))

/-! ### What the map says after XL1's records -/

/-- Whether every LBA from `lba` to `last` meets a condition on its descriptor (none in a gap). -/
def spanAll (ns last : Nat) (p : Option Nat → Bool) : (fuel lba : Nat) → State → Bool
  | 0, lba, _ => last < lba
  | fuel + 1, lba, s =>
    if last < lba then true
    else
      let w := walk ns lba s
      match w.2 with
      | .hit _ d => p (some d) && spanAll ns last p fuel (dLba d + dLenM1 d + 1) w.1
      | .gap l => p none && spanAll ns last p fuel (lba / 65536 * 65536 + l + 1) w.1
      | .fault .. => false
      | .unavailable => false

/-- The same over ranges. -/
def State.rangesAll (s : State) (ns : Nat) (rs : List (Nat × Nat)) (p : Option Nat → Bool) : Bool :=
  rs.all fun r => r.2 == 0 || spanAll ns (r.1 + r.2 - 1) p (r.2 + 1) r.1 s

/-- No data: a gap, or an extent of LOC 00b (R170). -/
def isGap : Option Nat → Bool
  | none => true
  | some d => dLoc d == 0
/-- In a buffer segment, and readable. -/
def isSegment : Option Nat → Bool
  | none => false
  | some d => dLoc d == 1 && !dUnrec d
/-- Marked UNREC. -/
def isUnrec : Option Nat → Bool
  | none => false
  | some d => dUnrec d

/-- The unit that holds an LBA's data in a segment. -/
def State.unitOf (s : State) (ns lba : Nat) : Nat :=
  match (walk ns lba s).2 with
  | .hit _ d => dAddr d + (lba - dLba d)
  | _ => 0

/-- Units of `n` LBAs. -/
def State.unitsOf (s : State) (ns lba n : Nat) : List Nat := (List.range n).map fun k => s.unitOf ns (lba + k)

/-- The outcome of a command whose records are applied: the last record's JSEQ, and the units its data lies in. -/
def placed (x : HCmd) (units : List Nat) (dw0 : Nat) (s : State) : State :=
  modCmd x.ctl x.sq x.e.cid (fun y => { y with status := some hOk, jseq := s.raw XLT_JSEQ_JSEQ, units, dw0 }) s

/-! ### Placement checks (R180, R181, R231) -/

/-- A chunk entry of a namespace by LBA. -/
def State.chunkEntry (s : State) (ns lba : Nat) : Option Nat := (readImage false (s.chunkOf ns lba) s).2

/-- Zones of a namespace in a state of the list. -/
def State.zonesIn (s : State) (ns : Nat) (l : List Nat) : Nat :=
  ((List.range (s.raw (XLT_NS_CFG_CHUNKS (ns - 1)))).filter fun k =>
    match s.chunkEntry ns (k * 65536) with | some c => l.contains (cZs c) | none => false).length

/-- Whether a zone of state `zs` cannot be opened now: too many active zones, or too many open ones. Implicitly opened zones make
room for a write (R181). -/
def State.openFail (s : State) (ns zs : Nat) (explicit : Bool) : Option HStat :=
  let active := s.zonesIn ns [1, 2, 3]
  let opened := s.zonesIn ns [1, 2]
  let spare := !explicit && s.zonesIn ns [1] != 0
  if zs ≠ 0 ∧ zs ≠ 3 then none
  else if zs = 0 ∧ s.get XLT_ZCFG_MAX_ACTIVE ≤ active then some (hst 1 0xBD true)
  else if s.get XLT_ZCFG_MAX_OPEN ≤ opened && !spare then some (hst 1 0xBE true)
  else none

/-- The status of a zone that takes no writes. -/
def zoneFull (zs : Nat) : Option HStat :=
  match zs with
  | 4 => some (hst 1 0xB9 true)
  | 5 => some (hst 1 0xBA true)
  | 6 => some (hst 1 0xBB true)
  | _ => none

/-- What a write of `n` LBAs at `lba` (an append: at the write pointer of its zone) fails with. -/
def State.placeFail (s : State) (ns lba n : Nat) (append : Bool) : Option HStat :=
  match s.chunkEntry ns lba with
  | none => some (hst 0 0x06 false)
  | some c =>
    if s.nsZoned ns then
      let at_ := if append then cWp c else lba % 65536
      if s.copyInto ns (lba / 65536) then some (hst 1 0xBF true)
      else if (zoneFull (cZs c)).isSome then zoneFull (cZs c)
      else if 65536 < at_ + n then some (hst 1 0xB8 true)
      else if at_ ≠ cWp c then some (hst 1 0xBC true)
      else s.openFail ns (cZs c) false
    else if s.copyInto ns (lba / 65536) ∨ s.copyInto ns ((lba + n - 1) / 65536) then some (hst 2 0x80 true)
    else if cFault c then some (hst 2 0x80 true)
    else
      match s.chunkEntry ns (lba + n - 1) with
      | some d => if cFault d then some (hst 2 0x80 true) else none
      | none => some (hst 0 0x06 false)

/-! ### Commands that change the map (R223, R243, R244) -/

/-- A sector as it is stored: encrypted in an encrypted namespace (R396). -/
def State.cipher (s : State) (ns lba : Nat) (l : List Byte) : List Byte :=
  if 1 ≤ ns && ns ≤ 4 && s.flag (SEC_NSKEY_ENC (ns - 1)) then
    match s.sec.keys.toList.getD (ns - 1) none with
    | some (k, _) => Config.xts true k lba l
    | none => l
  else l

/-- Put a write's sectors in its units. -/
def storeSectors (ns : Nat) : List Nat → (lba : Nat) → List Byte → State → State
  | [], _, _, s => s
  | u :: t, lba, l, s => storeSectors ns t (lba + 1) (l.drop 4096) (s.dramWrite (u * 4096) (s.cipher ns lba (l.take 4096)))

/-- A write: its data is in dirty segments, and XL1's records map its LBAs there. `alba` is the LBA it begins at. -/
def writeAt (x : HCmd) (alba dw0 : Nat) (data : List Byte) (recs : List Nat) (err : HostErr) (append : Bool) (s : State) : State :=
  let n := sqeNlb x.e
  match s.placeFail x.e.nsid (sqeLba x.e) n append with
  | some st => ioOut_ x st s
  | none =>
    match errStatus x err with
    | some st => ioOut_ x st s
    | none =>
      let s1 := recordsApply recs s
      let us := s1.unitsOf x.e.nsid alba n
      if s1.rangesAll x.e.nsid [(alba, n)] isSegment && us.all (fun u => (s1.unit u).dirty) && data.length == n * 4096 then
        placed x us dw0 (storeSectors x.e.nsid us alba data s1)
      else s

def execWrite (c : Fin 2) (q i : Nat) (data : List Byte) (recs : List Nat) (err : HostErr) (s : State) : Res :=
  .next (live s (ioDo c q i 0x01 fun x => writeAt x (sqeLba x.e) 0 data recs err false))

/-- Whether an append granted earlier in the same zone has no outcome yet: records follow the order of grants (R180). -/
def State.appendWaits (s : State) (x : HCmd) : Bool :=
  s.hif.cmds.any fun y => y.cls == 3 && y.st == .granted && y.e.nsid == x.e.nsid && y.zone == x.zone && y.status.isNone &&
    decide (y.gseq < x.gseq)

/-- Zone Append: it takes the write pointer current when its record is applied; DW0 and DW1 return its LBA. -/
def zoneAppend (data : List Byte) (recs : List Nat) (err : HostErr) (x : HCmd) (s : State) : State :=
  if s.appendWaits x then s
  else
    let a := match s.chunkEntry x.e.nsid (sqeLba x.e) with | some c => sqeLba x.e + cWp c | none => 0
    writeAt x a a data recs err true s

def execZoneAppend (c : Fin 2) (q i : Nat) (data : List Byte) (recs : List Nat) (err : HostErr) (s : State) : Res :=
  .next (live s (ioDo c q i 0x7D (zoneAppend data recs err)))

/-- A command that changes the map without data: its records leave every LBA of its ranges meeting `p`. -/
def mapDo (recs : List Nat) (p : Option Nat → Bool) (x : HCmd) (s : State) : State :=
  match (x.ranges.filterMap fun r => s.placeFail x.e.nsid r.1 r.2 false).head? with
  | some st => ioOut_ x st s
  | none =>
    let s1 := recordsApply recs s
    if s1.rangesAll x.e.nsid x.ranges p then placed x [] 0 s1 else s

def execWriteUncorrectable (c : Fin 2) (q i : Nat) (recs : List Nat) (s : State) : Res :=
  .next (live s (ioDo c q i 0x04 (mapDo recs isUnrec)))

def execWriteZeroes (c : Fin 2) (q i : Nat) (recs : List Nat) (s : State) : Res :=
  .next (live s (ioDo c q i 0x08 (mapDo recs isGap)))

/-- Dataset Management: deallocation, when the command asks for it; nothing of a zone is deallocated at its write pointer, so
only conventional namespaces change. -/
def dataset (recs : List Nat) (x : HCmd) (s : State) : State :=
  if !bitOf x.e.d11 2 ∨ s.nsZoned x.e.nsid then ioOut_ x hOk s
  else
    let s1 := recordsApply recs s
    if s1.rangesAll x.e.nsid x.ranges isGap then placed x [] 0 s1 else s

def execDatasetManagement (c : Fin 2) (q i : Nat) (recs : List Nat) (s : State) : Res :=
  .next (live s (ioDo c q i 0x09 (dataset recs)))

/-- Flush: its outcome stands at once, and it commits when what it covers is durable (R225). -/
def flush (x : HCmd) (s : State) : State := ioOut_ x hOk s

def execFlush (c : Fin 2) (q i : Nat) (s : State) : Res := .next (live s (ioDo c q i 0x00 flush))

/-! ### Zone Management (R181, R182) -/

/-- The states from which a zone command acts, those it leaves as they are, and the state it leaves. -/
def zoneMove (za : Nat) : List Nat × List Nat × Nat :=
  match za with
  | 1 => ([1, 2], [3], 3)
  | 2 => ([0, 1, 2, 3], [4], 4)
  | 3 => ([0, 1, 3], [2], 2)
  | 4 => ([1, 2, 3, 4], [0], 0)
  | _ => ([5], [6], 6)

/-- The zones a command names: one, or every zone its action fits when it selects all. -/
def State.zoneList (s : State) (x : HCmd) (za : Nat) : List Nat :=
  if bitOf x.e.d13 8 then
    (List.range (s.raw (XLT_NS_CFG_CHUNKS (x.e.nsid - 1)))).filter fun k =>
      match s.chunkEntry x.e.nsid (k * 65536) with | some c => (zoneMove za).1.contains (cZs c) | none => false
  else [sqeLba x.e / 65536]

/-- What a zone command on one zone fails with. -/
def State.zoneFail (s : State) (ns k za : Nat) : Option HStat :=
  match s.chunkEntry ns (k * 65536) with
  | none => some (hst 0 0x06 false)
  | some c =>
    let m := zoneMove za
    if s.copyInto ns k ∧ za ≠ 4 ∧ za ≠ 5 then some (hst 1 0xBF true)
    else if m.2.1.contains (cZs c) then none
    else if !m.1.contains (cZs c) then some (hst 1 0xBF true)
    else if za = 3 then s.openFail ns (cZs c) true
    else none

/-- Whether a zone stands as a command leaves it: a Reset leaves no extent and the write pointer at 0. -/
def State.zoneDone (s : State) (ns k za : Nat) : Bool :=
  match s.chunkEntry ns (k * 65536) with
  | none => false
  | some c => cZs c == (zoneMove za).2.2 && (za != 4 || (!cRv c && cWp c == 0))

/-- Zone Management Send with one action: a Reset or Offline ends a copy into the zone first (R379), and XL1's records change the
zones. -/
def zoneSend (za : Nat) (recs : List Nat) (x : HCmd) (s : State) : State :=
  let ns := x.e.nsid
  if bits x.e.d13 0 8 ≠ za then s
  else
    let l := s.zoneList x za
    match (l.filterMap fun k => s.zoneFail ns k za).head? with
    | some st => ioOut_ x st s
    | none =>
      let s0 := if za = 4 ∨ za = 5 then l.foldl (fun t k => dstAbortChunk ns k t) s else s
      let s1 := recordsApply recs s0
      if l.all fun k => s1.zoneDone ns k za then placed x [] 0 s1 else s

def execZoneClose (c : Fin 2) (q i : Nat) (recs : List Nat) (s : State) : Res := .next (live s (ioDo c q i 0x79 (zoneSend 1 recs)))
def execZoneFinish (c : Fin 2) (q i : Nat) (recs : List Nat) (s : State) : Res := .next (live s (ioDo c q i 0x79 (zoneSend 2 recs)))
def execZoneOpen (c : Fin 2) (q i : Nat) (recs : List Nat) (s : State) : Res := .next (live s (ioDo c q i 0x79 (zoneSend 3 recs)))
def execZoneReset (c : Fin 2) (q i : Nat) (recs : List Nat) (s : State) : Res := .next (live s (ioDo c q i 0x79 (zoneSend 4 recs)))
def execZoneOffline (c : Fin 2) (q i : Nat) (recs : List Nat) (s : State) : Res := .next (live s (ioDo c q i 0x79 (zoneSend 5 recs)))

/-- Whether a zone state passes the filter of a report (all, or one state). -/
def zoneFilter (f zs : Nat) : Bool :=
  match f with
  | 0 => true
  | 1 => zs == 0
  | 2 => zs == 1
  | 3 => zs == 2
  | 4 => zs == 3
  | 5 => zs == 4
  | 6 => zs == 5
  | 7 => zs == 6
  | _ => false

/-- Zone state codes of a zone descriptor, as the Zoned Namespace Command Set numbers them. -/
def zoneCode (zs : Nat) : Nat :=
  match zs with
  | 0 => 1
  | 1 => 2
  | 2 => 3
  | 3 => 4
  | 4 => 14
  | 5 => 13
  | 6 => 15
  | _ => 0

/-- The zone descriptor of a zone: 64 bytes. -/
def zoneDesc (k c : Nat) : List Byte :=
  leBytes 2 1 ++ leBytes (zoneCode (cZs c) * 16) 1 ++ List.replicate 6 0 ++ leBytes 65536 8 ++ leBytes (k * 65536) 8 ++
    leBytes (k * 65536 + cWp c) 8 ++ List.replicate 32 0

/-- Zone Management Receive: the report of the zones from the one named. -/
def zoneReport (x : HCmd) (s : State) : State :=
  let ns := x.e.nsid
  let l := (List.range (s.raw (XLT_NS_CFG_CHUNKS (ns - 1)))).filterMap fun k =>
    if sqeLba x.e / 65536 ≤ k then
      match s.chunkEntry ns (k * 65536) with
      | some c => if zoneFilter (bits x.e.d13 8 8) (cZs c) then some (zoneDesc k c) else none
      | none => none
    else none
  let len := (x.e.d12 + 1) * 4
  let n := if bitOf x.e.d13 16 then min l.length ((len - 64) / 64) else l.length
  ioOut_ x hOk (s.emit (.hostData x.ctl x.sq x.e.cid ((leBytes n 8 ++ List.replicate 56 0 ++ l.flatten).take len)))

def execZoneManagementReceive (c : Fin 2) (q i : Nat) (s : State) : Res := .next (live s (ioDo c q i 0x7A zoneReport))

end Sys2Proof.Machine
end

