-- ==== Sys2Proof/Machine/HostCtl.lean ====
section
/-!
DEFINITION. Firmware images and activation (R241, R242, R300, R392), controllers and their resets (R239, R401), shutdown (R240),
links (R429), and the SMBus status (R212).
-/
namespace Sys2Proof.Machine

/-! ### Firmware images (R392) -/

/-- Firmware Image Download: the bytes go to their offset in the image being received. -/
def fwDownload (data : List Byte) (c : Fin 2) (x : HCmd) (s : State) : State :=
  if data.length ≠ (x.e.d10 + 1) * 4 then s
  else setOut c 0 x.e.cid hOk (modHif (fun h => { h with fw := storeBytes h.fw (x.e.d11 * 4) data }) s)

def execFirmwareImageDownload (c : Fin 2) (i : Nat) (data : List Byte) (s : State) : Res :=
  .next (live s (adminDo c i 0x11 (fwDownload data c)))

/-- The slot of a Firmware Commit: 0 lets the controller choose the one not running. -/
def State.fwSlot (s : State) (x : HCmd) : Option (Fin 2) :=
  match bits x.e.d10 0 3 with
  | 0 => some (if s.raw SEC_STAT_SLOT = 0 then 1 else 0)
  | 1 => some 0
  | 2 => some 1
  | _ => none

/-- The status of an image's check (R389): SVN below the rollback count is Firmware Activation Prohibited. -/
def fwStatus (check : Nat) : HStat := if check = 0 then hOk else if check = 3 then hst 1 0x13 true else hst 1 0x07 true

/-- Firmware Commit with an action, on its slot. -/
def fwDo (action : Nat) (f : Fin 2 → HCmd → State → State) (c : Fin 2) (x : HCmd) (s : State) : State :=
  if bits x.e.d10 3 3 ≠ action then s
  else
    match s.fwSlot x with
    | none => setOut c 0 x.e.cid (hst 1 0x06 true) s
    | some n => f n x s

/-- Replace a slot's image by the one received, when it passes; then `g`. -/
def fwReplace (g : Fin 2 → State → State) (c : Fin 2) (n : Fin 2) (x : HCmd) (s : State) : State :=
  let st := fwStatus (s.imageCheck fun i => tabLook 0 s.hif.fw i)
  let s1 := if st.ok then g n (modSlot n (fun k => { k with image := s.hif.fw, failed := false }) s) else s
  setOut c 0 x.e.cid st (modHif (fun h => { h with fw := [] }) s1)

/-- Append a pending record. -/
def pend (n : Fin 2) (s : State) : State := appendRec n s.nextCount recPending s

/-- Append a pending record for the existing image. -/
def fwPending (c : Fin 2) (n : Fin 2) (x : HCmd) (s : State) : State :=
  let st := fwStatus (s.imageCheck (s.sec.slots[n]).byte)
  setOut c 0 x.e.cid st (if st.ok then pend n s else s)

def execFwCommitReplace (c : Fin 2) (i : Nat) (s : State) : Res :=
  .next (live s (adminDo c i 0x10 (fwDo 0 (fwReplace (fun _ t => t) c) c)))
def execFwCommitReplacePending (c : Fin 2) (i : Nat) (s : State) : Res :=
  .next (live s (adminDo c i 0x10 (fwDo 1 (fwReplace pend c) c)))
def execFwCommitPending (c : Fin 2) (i : Nat) (s : State) : Res :=
  .next (live s (adminDo c i 0x10 (fwDo 2 (fwPending c) c)))

/-! ### Activation (R241, R242) -/

/-- Put CSTS.PP of the controllers that exist. -/
def setPp (b : Bool) (s : State) : State := (s.put (HIF_C_STAT_PP 0) b).put (HIF_C_STAT_PP 1) (b && s.twoPort)

/-- Firmware Commit with action 011b: an image that verifies starts the activation; a received image replaces the slot's first. -/
def fwActivate (c : Fin 2) (n : Fin 2) (x : HCmd) (s : State) : State :=
  let s0 := if s.hif.fw.isEmpty then s else modSlot n (fun k => { k with image := s.hif.fw, failed := false }) s
  let img := if s.hif.fw.isEmpty then (s.sec.slots[n]).byte else fun i => tabLook 0 s.hif.fw i
  let st := fwStatus (s.imageCheck img)
  if !st.ok then setOut c 0 x.e.cid st (modHif (fun h => { h with fw := [] }) s)
  else if s.hif.act.isSome then s
  else setPp true ((modHif (fun h => { h with fw := [], act := some (n.val, x, s.inv.wall) }) s0).set HIF_ACT_PHASE 1)

def execFwCommitActivate (c : Fin 2) (i : Nat) (s : State) : Res :=
  .next (live s (adminDo c i 0x10 (fwDo 3 (fwActivate c) c)))

/-- Commands that the drain waits for: not the Firmware Commit, not an Asynchronous Event Request, not a held command. -/
def State.draining (s : State) : List HCmd :=
  s.hif.cmds.filter fun x =>
    !(x.sq == 0 && (x.e.opc == 0x0C && x.status.isNone)) && !(x.st != .granted && s.queueFrozen x.ctl x.sq) &&
      (match s.hif.act with | some (_, y, _) => !x.is y.ctl y.sq y.e.cid | none => true)

/-- The drain ends when no such command is left. -/
def drainEnd (s : State) : State :=
  if s.raw HIF_ACT_PHASE = 1 && s.draining.isEmpty then s.set HIF_ACT_PHASE 2 else s

def execActivationDrainEnd (s : State) : Res := .next (live s drainEnd)

/-- The drain reaches 500 ms: commands whose record is not applied complete with Command Interrupted. -/
def drainLimit (s : State) : State :=
  if s.raw HIF_ACT_PHASE = 1 then
    drainEnd ((s.draining.filter fun x => x.status.isNone).foldl (fun t x => commitWith (hst 0 0x21 false) x t) s)
  else s

def execActivationDrainLimit (s : State) : Res := .next (live s drainLimit)

/-- Every engine that runs has reached a clean boundary: it halts there, with its restart point. -/
def activationStop (s : State) : State :=
  if s.raw HIF_ACT_PHASE = 2 && (List.finRange 18).all (fun n => s.seSt n.val != seRun || s.clean n) then
    ((List.finRange 18).foldl (fun t n =>
      if t.seSt n.val = seRun then
        let t1 := match t.roleOf n with | some r => saveCtx n r (t.raw (ENG_SE_STAT_PC n.val)) t | none => t
        seHalt n t1
      else t) s).set HIF_ACT_PHASE 3
  else s

def execActivationStopEnd (s : State) : Res := .next (live s activationStop)

/-- The new images are loaded and checked. -/
def activationLoad (s : State) : State := if s.raw HIF_ACT_PHASE = 3 then s.set HIF_ACT_PHASE 4 else s

def execActivationLoadEnd (s : State) : Res := .next (live s activationLoad)

/-- Doorbells recorded during the activation act (R241). -/
def lateBells (s : State) : State :=
  let one (c : Fin 2) (t : State) : State :=
    (t.hif.ctrl[c]).late.foldl (fun u e => doorbell c e.1 e.2.1 e.2.2 u) (modCtrl c (fun v => { v with late := [] }) t)
  one 1 (one 0 s)

/-- Restart and resume: `ok` when the new image starts, else the previous one has been restarted and the commit falls back. -/
def activationResume (ok : Bool) (s : State) : State :=
  match s.hif.act with
  | none => s
  | some (n, x, began) =>
    if s.raw HIF_ACT_PHASE ≠ 4 then s
    else
      let i : Fin 2 := if n = 0 then 0 else 1
      let s1 := (List.finRange 18).foldl seWarm (modHif (fun h => { h with act := none }) s)
      let s2 := serveWaiting (setPp false ((s1.off HIF_ACT_PHASE).set HIF_ACT_LAST_MS
        (sat 16 ((s.inv.wall - began) / 1000000))))
      let s3 :=
        if ok then setOut x.ctl 0 x.e.cid hOk (recordCommitted i (bootSlot i false s2))
        else setOut x.ctl 0 x.e.cid (hst 1 0x07 true) (modSlot i (fun k => { k with failed := true }) s2)
      patTrig 27 i.val (lateBells s3)

def execActivationResume (ok : Bool) (s : State) : Res := .next (live s (activationResume ok))

/-- Doorbell Buffer Config (R219): shadow doorbells are in use. -/
def dbBuf (c : Fin 2) (x : HCmd) (s : State) : State := setOut c 0 x.e.cid hOk ((s.on (HIF_C_STAT_DBBUF c.val)).on (HIF_C_STAT_FAST c.val))

def execDoorbellBufferConfig (c : Fin 2) (i : Nat) (s : State) : Res := .next (live s (adminDo c i 0x7C (dbBuf c)))

/-! ### Controllers (R213, R239, R240) -/

/-- An admin queue. -/
def adminSq (n : Nat) : Sq :=
  { id := 0, size := n, cq := 0, head := 0, tail := 0, strict := false, frozen := none, deleting := none }
def adminCq (n : Nat) : Cq := { id := 0, size := n, head := 0, tail := 0, ien := true, vector := 0, wait := [] }

/-- CC.EN goes to 1 with the admin queue sizes of AQA and CC.AMS: the controller is ready. -/
def ctlEnable (c : Fin 2) (asqs acqs ams : Nat) (s : State) : State :=
  if !s.ctlExists c ∨ s.flag (HIF_C_STAT_EN c.val) ∨ asqs < 2 ∨ acqs < 2 then s
  else
    modCtrl c (fun v => { v with sqs := [adminSq asqs], cqs := [adminCq acqs], ams, shst := 0 })
      ((s.on (HIF_C_STAT_EN c.val)).on (HIF_C_STAT_RDY c.val))

def execControllerEnable (c : Fin 2) (asqs acqs : Fin 4097) (ams : Fin 8) (s : State) : Res :=
  .next (live s (ctlEnable c asqs.val acqs.val ams.val))

/-- What every reset of a controller does (R239): its commands are aborted without completion, its queues, settings and doorbell
buffers are gone, its CTL fields are cleared, and the other controller's commands are checked again. -/
def ctlClear (c : Fin 2) (s : State) : State :=
  let mine := s.hif.cmds.filter fun x => x.ctl == c
  let s1 := (mine.filter fun x => x.cls == 1).foldl (fun t x => dropPieces x t) s
  let s2 := modHif (fun h => { h with
    cmds := h.cmds.filter fun x => x.ctl != c
    lastCommit := h.lastCommit.filter fun e => e.1 != c }) s1
  let s3 := modCtrl c (fun v => { (default : Ctrl) with errCount := v.errCount, errLog := v.errLog, zones := v.zones }) s2
  let s4 := [HIF_C_STAT_EN c.val, HIF_C_STAT_RDY c.val, HIF_C_STAT_PP c.val, HIF_C_STAT_DBBUF c.val, HIF_C_STAT_FAST c.val].foldl
    State.off s3
  ledOff (letIn s4)

/-- CC.EN 1 to 0, or a function-level reset: the controller's power request returns to PS0 (R319). -/
def ctlReset (c : Fin 2) (s : State) : State := pwrRequest 9 c 0 none (ctlClear c s)

def execControllerReset (c : Fin 2) (s : State) : Res :=
  .next (live s fun s => s.when (s.flag (HIF_C_STAT_EN c.val)) (ctlReset c))

def execFunctionLevelReset (c : Fin 2) (s : State) : Res := .next (live s fun s => s.when (s.ctlExists c) (ctlReset c))

/-- Whether a controller's shutdown can end: its fetched commands have committed, and all dirty data and the journal are durable. -/
def State.shutDone (s : State) (c : Fin 2) : Bool :=
  !(s.hif.cmds.any fun x => x.ctl == c && !(x.sq == 0 && x.e.opc == 0x0C)) && s.dirtyUnits == 0 &&
    s.raw XLT_JSEQ_JSEQ ≤ s.raw XLT_JRN_PERS_JSEQ

/-- A shutdown notification (R240): fetching stops, and once the conditions hold the checkpoint is written (normal) and SHST set
to 10b. -/
def shutdown (normal : Bool) (c : Fin 2) (s : State) : State :=
  if !s.flag (HIF_C_STAT_EN c.val) ∨ (s.hif.ctrl[c]).shst = 2 then s
  else
    let s1 := modCtrl c (fun v => { v with shst := 1 }) s
    if s1.shutDone c then modCtrl c (fun v => { v with shst := 2 }) (if normal then patShutdown (checkpoint s1) else s1) else s1

def execNormalShutdown (c : Fin 2) (s : State) : Res := .next (live s (shutdown true c))
def execAbruptShutdown (c : Fin 2) (s : State) : Res := .next (live s (shutdown false c))

/-! ### Ports (R239, R401, R429) -/

/-- Put the link of a port down. -/
def portDown (p : Fin 2) (s : State) : State :=
  ([HIF_PORT_LINK_UP p.val, HIF_PORT_SPEED p.val, HIF_PORT_WIDTH p.val, HIF_PORT_LTSSM p.val].foldl State.off s)

/-- PERST# or a hot reset of port p, counted in RST_PORT. -/
def portReset (p : Fin 2) (s : State) : State :=
  let s1 := portDown p (ctlClear p s)
  if p = 0 then s1.bump RST_PORT_CNT0 1 else s1.bump RST_PORT_CNT1 1

/-- PERST_p# is asserted; PERST1# is ignored in x4 mode. -/
def perstAssert (p : Fin 2) (s : State) : State :=
  if s.ctlExists p then
    portReset p ({ s with pins := { s.pins with perst := s.pins.perst.set p true } }.onBit RST_PORT_PERST p.val)
  else s

def execPerstAssert (p : Fin 2) (s : State) : Res := .next (live s (perstAssert p))

def execHotReset (p : Fin 2) (s : State) : Res := .next (live s fun s => s.when (s.ctlExists p) (portReset p))

/-- Whether the reference of a port's link is stable: REFCLK_p, or MXO under SRIS. -/
def State.refStable (s : State) (p : Fin 2) : Bool :=
  if s.flag (HIF_PORT_SRIS p.val) then s.bit CLK_SRC_STAT_RUN srcMxo else s.bit CLK_SRC_STAT_RUN (3 + p.val)

/-- Training begins, with PERST_p# high; `ltssm` is the state code its first state shows. -/
def trainStart (p : Fin 2) (ltssm : Nat) (s : State) : State :=
  if s.ctlExists p && s.refStable p && !s.flag (HIF_PORT_LINK_UP p.val) then
    ({ s with pins := { s.pins with perst := s.pins.perst.set p false } }.offBit RST_PORT_PERST p.val).set (HIF_PORT_LTSSM p.val)
      ltssm
  else s

def execLinkTrainingStart (p : Fin 2) (ltssm : BitVec 6) (s : State) : Res := .next (live s (trainStart p ltssm.toNat))

/-- Training completes at a speed and width. -/
def linkUp (p : Fin 2) (speed width ltssm : Nat) (s : State) : State :=
  if s.ctlExists p && !(s.pins.perst[p]) then
    (((modHif (fun h => { h with l12 := h.l12.set p false }) (s.on (HIF_PORT_LINK_UP p.val))).set (HIF_PORT_SPEED p.val) speed).set
      (HIF_PORT_WIDTH p.val) width).set (HIF_PORT_LTSSM p.val) ltssm
  else s

def execPcieLinkUp (p : Fin 2) (speed width : Fin 6) (ltssm : BitVec 6) (s : State) : Res :=
  .next (live s (linkUp p speed.val width.val ltssm.toNat))

/-! ### SMBus (R212) -/

/-- Once per second the NVMe-MI status is taken: the flags as NVMe-MI 1.2 lays them out (ready, functional, links active), the
warnings, the composite temperature and the percentage used, which the manual does not state. -/
def miUpdate (s : State) : State :=
  let d := s.draw
  let ready := s.flag (HIF_C_STAT_RDY 0) || s.flag (HIF_C_STAT_RDY 1)
  let flags := 64 * b2n (!ready) + 32 + 16 + 8 * s.raw (HIF_PORT_LINK_UP 0) + 4 * s.raw (HIF_PORT_LINK_UP 1) + 3
  let t := unsgn 8 (max (-60) (min 127 (s.geti THM_TMAX_TMAX / 8)))
  let hot := s.raw THM_STAT_STATE != 0
  modHif (fun h => { h with mi := (flags, 255 - 2 * b2n hot, t, Config.freeValue d.2 % 256) }) d.1

def execMiStatusUpdate (s : State) : Res := .next (live s miUpdate)

/-- The basic management command answers with the status of the last second. -/
def miBasic (s : State) : State := s.emit (.smbus s.hif.mi.1 s.hif.mi.2.1 s.hif.mi.2.2.1 s.hif.mi.2.2.2)

def execNvmeMiBasic (s : State) : Res := .next (live s miBasic)

end Sys2Proof.Machine
end

