-- ==== Sys2Proof/Machine/View.lean ====
section
/-!
DEFINITION. What a read of the control space returns (R12, R24): the register at an address, the fields that show the
state of their block rather than a stored value, and the windows of the channel pages, the sample buffers, the Patina ring
and the control stores.
-/
namespace Sys2Proof.Machine

/-! ### The map (R24) -/

/-- A region of the control space: its first offset, its size, its block's index, and its registers. -/
structure Region where
  base : Nat
  size : Nat
  block : Nat
  regs : List RegDef

/-- The regions of R24. Each register region lies where its registers' offsets say; the control-store windows hold none. -/
def regions : List Region := [
  ⟨0, 0x100000, 0, regsSYS⟩, ⟨0x100000, 0x80000, 1, regsINV⟩, ⟨0x180000, 0x80000, 2, regsQCH⟩,
  ⟨0x200000, 0x100000, 3, regsSPN⟩, ⟨0x300000, 0x100000, 4, regsSRV⟩, ⟨0x400000, 0x100000, 4, regsACT⟩,
  ⟨0x500000, 0x100000, 5, regsWCH⟩, ⟨0x600000, 0x100000, 6, regsRCH⟩, ⟨0x700000, 0x100000, 5, regsTPR⟩,
  ⟨0x800000, 0x80000, 7, regsXLT⟩, ⟨0x880000, 0x80000, 7, regsXCC⟩, ⟨0x900000, 0x100000, 8, regsCMP⟩,
  ⟨0xA00000, 0x80000, 9, regsHIF⟩, ⟨0xA80000, 0x80000, 9, regsRLT⟩, ⟨0xB00000, 0x80000, 10, regsBUF⟩,
  ⟨0xB80000, 0x80000, 11, regsMEM⟩, ⟨0xC00000, 0x100000, 12, regsVLT⟩, ⟨0xD00000, 0x100000, 13, regsENG⟩,
  ⟨0xE00000, 0x80000, 14, regsBUL⟩, ⟨0xE80000, 0x80000, 15, regsPWR⟩, ⟨0xF00000, 0x40000, 16, regsCLK⟩,
  ⟨0xF40000, 0x40000, 17, regsTHM⟩, ⟨0xF80000, 0x80000, 18, regsCAL⟩, ⟨0x1000000, 0x400000, 13, []⟩,
  ⟨0x1400000, 0x80000, 19, regsASY⟩, ⟨0x1480000, 0x80000, 20, regsPAT⟩, ⟨0x1500000, 0x100000, 21, regsSLD⟩,
  ⟨0x1600000, 0x80000, 22, regsSEC⟩, ⟨0x1680000, 0x80000, 23, regsRST⟩]

/-- The region an address lies in. -/
def regionOf (a : Nat) : Option Region := regions.find? fun g => g.base ≤ a && a < g.base + g.size

/-- The control-store windows (R25). -/
def inCsWindow (a : Nat) : Bool := 0x1000000 ≤ a && a < 0x1400000

/-- The indices of a register array's element at `ofs` from its base: the outermost dimension first. -/
def indices : List (Nat × Nat) → (ofs : Nat) → Option (List Nat)
  | [], ofs => if ofs = 0 then some [] else none
  | (stride, n) :: t, ofs =>
    if ofs / stride < n then (indices t (ofs % stride)).map (ofs / stride :: ·)
    else (indices t (ofs - stride * (n - 1))).map ((n - 1) :: ·)

/-- A register's indices at an address. -/
def RegDef.at (d : RegDef) (a : Nat) : Option (List Nat) := if d.base ≤ a then indices d.dims (a - d.base) else none

/-- The register at an address, with its indices. -/
def regAt (a : Nat) : Option (RegDef × List Nat) :=
  (regionOf a).bind fun g => g.regs.findSome? fun d => (d.at a).map fun l => (d, l)

/-- The fields of an element. -/
def RegDef.at3 (d : RegDef) (l : List Nat) : List Fld := d.fields (l.getD 0 0) (l.getD 1 0) (l.getD 2 0)

/-! ### Fields that show the state of their block -/

/-- Unit number `i` of `n`. -/
def unit4 (i : Nat) : Fin 4 := Fin.ofNat 4 i
/-- Actuator, rail, port or engine number `i` of two. -/
def unit2 (i : Nat) : Fin 2 := Fin.ofNat 2 i

/-- A mask whose bit `i` is `f i`. -/
def maskOf (n : Nat) (f : Nat → Bool) : Nat := (List.range n).foldl (fun v i => v + b2n (f i) * 2 ^ i) 0

/-- The electrical angle: R56 turned round, from the device angle. -/
def State.elecNow (s : State) : Nat :=
  let t := s.wedges * 4096
  let p := s.get SPN_MOTOR_POLE_PAIRS
  (s.nowTick + t - s.raw INV_ELEC_OFS_OFS % t) % t * p * 65536 / t % 65536

/-- Whether a head select of an actuator waits, is being sent, or settles. -/
def State.hselBusy (s : State) (a : Fin 2) : Bool :=
  let v := s.srv[a]
  ((v.sending.toList ++ v.queue ++ v.wait).any fun f => match f.kind with | .headSelect _ => true | _ => false) ||
  (v.lanes[0]).settling || (v.lanes[1]).settling || (v.lanes[0]).zeroing || (v.lanes[1]).zeroing

/-- The frame a decoder works on: its channel and TAG. -/
def State.decNow (s : State) (d : Nat) : Option (Nat × Nat) :=
  match s.deep.run.toList.getD d none with
  | some (j, _) => some (j.ch.val, j.tag)
  | none =>
    (List.finRange 4).findSome? fun c =>
      if s.decOf c == d then (s.rch[c]).cur.map fun k => (c.val, (s.sslot c k).desc.w.tag) else none

/-- The bit rate of a locked synthesizer in MHz (R330): BPW bit cells of the rate zone in use span one wedge. -/
def State.bitRate (s : State) (ch : Fin 4) : Nat :=
  let a := (actOf ch).val
  let bpw := match (s.wch[ch]).gate with
    | some (tag, _) => (match s.descOf ch tag with | some d => d.bpw | none => 0)
    | none => s.raw (WCH_RZ_W1_BPW a (s.raw (RCH_SEL_HEAD ch.val)) (s.raw (RCH_SEL_RZ ch.val)))
  if s.flag (CLK_CHSYN_LOCK ch.val) then bpw * 256000 / s.raw INV_PERIOD_PERIOD else 0

/-- A Bullion slot as BUL_SLOTs shows it: STATE, the amounts, and the tick count of its deadline or end. -/
def Slot.shown (x : Slot) : Nat × Nat × Nat × Nat :=
  match x.wait, x.grant with
  | some w, _ => (if w.blocking then 3 else 1, w.i5, w.i12, w.dl)
  | none, some g => (2, g.i5, g.i12, g.endAt)
  | none, none => (0, 0, 0, 0)

/-- Stamp bits [43:12] at a count of ticks of R441. -/
def State.stampOfCount (s : State) (n : Nat) : Nat :=
  bits (ticksStamp s.wedges (stampTicks s.wedges s.inv.now + n - s.ticks)) 12 32

/-- A completion queue's head as VALID and the fields of its words. -/
def shownHead {α : Type} (l : List α) (valid : Fld) (f : α → List (Fld × Nat)) : List (Fld × Nat) :=
  match l with
  | [] => [(valid, 0)]
  | c :: _ => (valid, 1) :: f c

/-- The words of a received Solder message, as SLD_MSG_W0 to W2 lay it out with SRC for DST. VALID takes bit 31 of W0, which
leaves the low three bits of TYPE. -/
def SMsg.word (m : SMsg) (w : Nat) : Nat :=
  match w with
  | 0 => 2 ^ 31 + m.type % 8 * 2 ^ 28 + m.src
  | 1 => m.req * 2 ^ 24 + m.ma * 2 ^ 12
  | _ => m.dur

/-- The fields of a register that show the state of its block. -/
def State.shown (s : State) (n : RegName) (i j k : Nat) : List (Fld × Nat) :=
  let c4 := unit4 i
  let c2 := unit2 i
  match n with
  | .INV_ELEC_NOW => [(INV_ELEC_NOW_ANGLE, s.elecNow)]
  | .INV_RING_STAT => [(INV_RING_STAT_COUNT i, (s.inv.ring[c2]).length)]
  | .INV_QUIET => [(INV_QUIET_OPEN i, maskOf 2 fun b => s.inv.quiet[chOf c2 (unit2 b)])]
  | .QCH_STAT => [(QCH_STAT_CH_HELD, maskOf 4 fun c => s.chHeld (unit4 c))]
  | .QCH_RW_STAT => [(QCH_RW_STAT_COUNT i, (s.qch.fifo[c4]).length)]
  | .QCH_RWREC_LO =>
    match s.qch.fifo[c4] with
    | [] => []
    | r :: _ => [(QCH_RWREC_LO_REASON i, r.reason), (QCH_RWREC_LO_PARTIAL i, b2n r.part),
        (QCH_RWREC_LO_PES_SIGN i, b2n r.pesSign), (QCH_RWREC_LO_TAG i, r.tag)]
  | .QCH_RWREC_HI =>
    match s.qch.fifo[c4] with
    | [] => []
    | r :: _ => [(QCH_RWREC_HI_ANGLE i, r.angle)]
  | .SRV_HSEL => [(SRV_HSEL_BUSY i, b2n (s.hselBusy c2))]
  | .SRV_COEF =>
    let t := if s.flag (SRV_COEF_CTL_ACTIVE i) then (s.srv[c2]).bank1 else (s.srv[c2]).bank0
    [(SRV_COEF_COEF i j, tabLook 0 t j)]
  | .WCH_STAT => [(WCH_STAT_FQ_COUNT i, (s.wch[c4]).queue.length), (WCH_STAT_CQ_COUNT i, (s.wch[c4]).cq.length)]
  | .WCH_CQ => shownHead (s.wch[c4]).cq (WCH_CQ_VALID i) fun c => [(WCH_CQ_STATUS i, c.1), (WCH_CQ_TAG i, c.2)]
  | .WCH_TP_MASK_LO => [(WCH_TP_MASK_LO_MASK i, bits (s.wch[c4]).mask 0 32)]
  | .WCH_TP_MASK_HI => [(WCH_TP_MASK_HI_MASK i, bits (s.wch[c4]).mask 32 32)]
  | .WCH_RZ_W1 => [(WCH_RZ_W1_VALID i j k, b2n (s.rzValid c2 j k))]
  | .RCH_STAT =>
    let q := s.rch[c4]
    [(RCH_STAT_FQ_COUNT i, q.queue.length + q.wait.length + b2n q.cur.isSome), (RCH_STAT_CQ_COUNT i, q.cq.length)]
  | .RCH_CQ_W0 =>
    shownHead (s.rch[c4]).cq (RCH_CQ_W0_VALID i) fun c => [(RCH_CQ_W0_STATUS i, c.status), (RCH_CQ_W0_TAG i, c.tag)]
  | .RCH_CQ_W1 =>
    (s.rch[c4]).cq.head?.elim [] fun c =>
      [(RCH_CQ_W1_GITER i, c.giter), (RCH_CQ_W1_LITER i, c.liter), (RCH_CQ_W1_MARK_OFS i, unsgn 12 c.ofs),
       (RCH_CQ_W1_SLOT i, c.slot)]
  | .RCH_CQ_W2 =>
    (s.rch[c4]).cq.head?.elim [] fun c =>
      [(RCH_CQ_W2_UNSAT i, c.unsat), (RCH_CQ_W2_TA i, b2n c.ta), (RCH_CQ_W2_PIN i, b2n c.pin), (RCH_CQ_W2_NS i, c.ns),
       (RCH_CQ_W2_KIND i, c.kind)]
  | .RCH_SB_STAT => [(RCH_SB_STAT_NEXT i, (s.rch[c4]).nextSlot), (RCH_SB_STAT_PINNED i, (s.rch[c4]).pinned)]
  | .RCH_SB_PIN_LO => [(RCH_SB_PIN_LO_PIN i, bits (s.rch[c4]).pins 0 32)]
  | .RCH_SB_PIN_HI => [(RCH_SB_PIN_HI_PIN i, bits (s.rch[c4]).pins 32 32)]
  | .RCH_TP_CTL => [(RCH_TP_CTL_PAR_SEEN i, b2n (s.rch[c4]).par)]
  | .RCH_TP_MASK_LO => [(RCH_TP_MASK_LO_MASK i, bits (s.rch[c4]).mask 0 32)]
  | .RCH_TP_MASK_HI => [(RCH_TP_MASK_HI_MASK i, bits (s.rch[c4]).mask 32 32)]
  | .RCH_DEC_STAT =>
    (RCH_DEC_STAT_DEEP i, b2n (s.isDeep i)) :: (s.decNow i).elim [] fun x =>
      [(RCH_DEC_STAT_BUSY i, 1), (RCH_DEC_STAT_CH i, x.1), (RCH_DEC_STAT_TAG i, x.2)]
  | .RCH_DJ_CQ_W0 =>
    shownHead s.deep.cq RCH_DJ_CQ_W0_VALID fun c =>
      [(RCH_DJ_CQ_W0_DEC, c.dec), (RCH_DJ_CQ_W0_STATUS, c.status), (RCH_DJ_CQ_W0_CH, c.ch), (RCH_DJ_CQ_W0_SLOT, c.slot),
       (RCH_DJ_CQ_W0_OFFSET, unsgn 4 c.ofs), (RCH_DJ_CQ_W0_GITER, c.giter), (RCH_DJ_CQ_W0_MODE, c.mode)]
  | .RCH_DJ_CQ_W1 => s.deep.cq.head?.elim [] fun c => [(RCH_DJ_CQ_W1_TAG, c.tag)]
  | .RCH_GSTAT => [(RCH_GSTAT_DJ_COUNT, s.deepCount)]
  | .XLT_STAT => [(XLT_STAT_LK_BUSY, s.xlt.lookups.length), (XLT_STAT_CQ_COUNT, s.xlt.cq.length)]
  | .XLT_LK_CQ_W0 =>
    shownHead s.xlt.cq XLT_LK_CQ_W0_VALID fun c => [(XLT_LK_CQ_W0_STATUS, c.status), (XLT_LK_CQ_W0_TAG, c.tag)]
  | .XLT_LK_CQ_W1 => s.xlt.cq.head?.elim [] fun c => [(XLT_LK_CQ_W1_FRAGS, c.frags), (XLT_LK_CQ_W1_NEXT, c.next)]
  | .XCC_LOCKED =>
    [(XCC_LOCKED_COUNT, (s.xlt.main.filter fun e => match e.2 with | some x => x.locked | none => false).length)]
  | .CMP_STAT =>
    [(CMP_STAT_Q0_COUNT, (s.cmp.eng[0]).count), (CMP_STAT_Q1_COUNT, (s.cmp.eng[1]).count), (CMP_STAT_CQ_COUNT, s.cmp.cq.length)]
  | .CMP_ENG_STAT =>
    let x := s.cmp.eng[c2]
    [(CMP_ENG_STAT_BUSY i, b2n x.run.isSome), (CMP_ENG_STAT_PERMIT i, b2n (s.granted (cmpSlot c2))),
     (CMP_ENG_STAT_CTX_VALID i, maskOf 2 fun b => (x.ctx[unit2 b]).valid),
     (CMP_ENG_STAT_CTX_DIR i, maskOf 2 fun b => (x.ctx[unit2 b]).dir),
     (CMP_ENG_STAT_TAG i, x.run.elim 0 (·.tag))]
  | .CMP_CQ_W0 =>
    shownHead s.cmp.cq CMP_CQ_W0_VALID fun c =>
      [(CMP_CQ_W0_ENG, c.eng), (CMP_CQ_W0_STATUS, c.status), (CMP_CQ_W0_TAG, c.tag)]
  | .CMP_CQ_W1 => s.cmp.cq.head?.elim [] fun c => [(CMP_CQ_W1_OUT_BYTES, c.outBytes)]
  | .CMP_CQ_W2 => s.cmp.cq.head?.elim [] fun c => [(CMP_CQ_W2_IN_BYTES, c.inBytes)]
  | .CMP_CQ_W3 => s.cmp.cq.head?.elim [] fun c => [(CMP_CQ_W3_RUN_CRC, c.crc)]
  | .HIF_OUTST => [(HIF_OUTST_COUNT, s.hif.cmds.length)]
  | .HIF_C_STAT =>
    [(HIF_C_STAT_NSQ i, ((s.hif.ctrl[c2]).sqs.filter fun q => q.id != 0).length),
     (HIF_C_STAT_NCQ i, ((s.hif.ctrl[c2]).cqs.filter fun q => q.id != 0).length)]
  | .HIF_C_FROZEN =>
    [(HIF_C_FROZEN_SQ i j, maskOf 32 fun b => (s.hif.ctrl[c2]).sqs.any fun q => q.id == 32 * j + b + 1 && q.frozen.isSome)]
  | .HIF_C_STRICT =>
    [(HIF_C_STRICT_SQ i j, maskOf 32 fun b => (s.hif.ctrl[c2]).sqs.any fun q => q.id == 32 * j + b + 1 && q.strict)]
  | .RLT_STAT =>
    [(RLT_STAT_HELD, rltHeld s.hif.cmds), (RLT_STAT_WAITING, (s.hif.cmds.filter fun x => x.st == .waiting).length)]
  | .BUF_STAT => [(BUF_STAT_WITHIN_CAP, b2n s.withinCap)]
  | .BUF_DIRTY => [(BUF_DIRTY_UNITS, s.dirtyUnits)]
  | .BUF_CAP => [(BUF_CAP_UNITS, s.cap)]
  | .MEM_REPAIR => [(MEM_REPAIR_SPARES, s.sparesLeft (s.get MEM_REPAIR_ARRAY))]
  | .VLT_STAT => [(VLT_STAT_FQ_COUNT, s.vlt.queue.length), (VLT_STAT_CQ_COUNT, s.vlt.cq.length)]
  | .VLT_CQ_W0 => shownHead s.vlt.cq VLT_CQ_W0_VALID fun c => [(VLT_CQ_W0_STATUS, c.1), (VLT_CQ_W0_TAG, c.2.1)]
  | .VLT_CQ_W1 => s.vlt.cq.head?.elim [] fun c => [(VLT_CQ_W1_MAXBITS, c.2.2)]
  | .VLT_SAVE =>
    [(VLT_SAVE_ARMED, b2n (decide (258 < s.erasedPages))), (VLT_SAVE_RUNNING, b2n s.vlt.saving),
     (VLT_SAVE_ERASED_PAGES, s.erasedPages)]
  | .ENG_STAT => [(ENG_STAT_SPARES, s.spares.length)]
  | .ENG_ROLE_IPEND => [(ENG_ROLE_IPEND_PEND i, s.ipend i)]
  | .BUL_USE => [(BUL_USE_I5, s.inUse5), (BUL_USE_I12, s.inUse12)]
  | .BUL_CHARGE => [(BUL_CHARGE_MW, s.chargeMw)]
  | .BUL_STAT => [(BUL_STAT_OVER, b2n (decide (s.budget12 < s.inUse12) || decide (s.budget5 < s.inUse5)))]
  | .BUL_LEASE_TOT => [(BUL_LEASE_TOT_IN, s.leaseSum false), (BUL_LEASE_TOT_OUT, s.leaseSum true)]
  | .BUL_SLOT_W0 =>
    let x := (s.bul.slots[(Fin.ofNat 24 i : Fin 24)]).shown
    [(BUL_SLOT_W0_STATE i, x.1), (BUL_SLOT_W0_I5 i, x.2.1), (BUL_SLOT_W0_I12 i, x.2.2.1)]
  | .BUL_SLOT_W1 =>
    let x := (s.bul.slots[(Fin.ofNat 24 i : Fin 24)]).shown
    [(BUL_SLOT_W1_END i, if x.1 = 0 then 0 else s.stampOfCount x.2.2.2)]
  | .CLK_CHSYN => [(CLK_CHSYN_MHZ i, s.bitRate c4)]
  | .ASY_STAT => [(ASY_STAT_STATE, s.asyState)]
  | .PAT_OPSEC_LO => [(PAT_OPSEC_LO_SEC, s.opsec % 2 ^ 32)]
  | .PAT_OPSEC_HI => [(PAT_OPSEC_HI_SEC, s.opsec / 2 ^ 32)]
  | .SLD_RXQ_W => s.sld.rxq.head?.elim [] fun m => [(SLD_RXQ_W i, m.word i)]
  | .SLD_CP_CQ_W0 =>
    shownHead s.sld.cq SLD_CP_CQ_W0_VALID fun c => [(SLD_CP_CQ_W0_STATUS, c.1), (SLD_CP_CQ_W0_TAG, c.2)]
  | _ => []

/-- The value a field reads in a register of the copy of bank `b`, given the fields that show state. -/
def State.fieldShown (s : State) (shown : List (Fld × Nat)) (b : Nat) (f : Fld) : Nat :=
  match shown.find? fun e => e.1 == f with
  | some e => e.2 % 2 ^ f.width
  | none => s.raw (f.inBank b)

/-- The word a register reads, without the side effects of a read. -/
def State.regWord (s : State) (r : Req) (d : RegDef) (l : List Nat) : Nat :=
  let shown := s.shown d.name (l.getD 0 0) (l.getD 1 0) (l.getD 2 0)
  let b := if d.banked then bankOf r else 0
  (d.at3 l).foldl (fun n f => n + s.fieldShown shown b f * 2 ^ f.lo) 0

/-! ### Windows -/

/-- A word of the WCH_CODE window (R115): four entries of a base matrix, row by row. -/
def codeWord (code w : Nat) : Nat :=
  let cols := if code = 0 then 296 else 312
  (List.range 4).foldl (fun v i => v + Config.baseMatrix code ((4 * w + i) / cols) ((4 * w + i) % cols) % 256 * 256 ^ i) 0

/-- The word at offset `o` of a channel's WCH_CODE window. -/
def codeWindow (o : Nat) : Option Nat :=
  if 0x8000 ≤ o ∧ o ≤ 0xABEF then some (codeWord 0 ((o - 0x8000) / 4))
  else if 0xB000 ≤ o ∧ o ≤ 0xF1CF then some (codeWord 1 ((o - 0xB000) / 4))
  else none

/-- The sample slot that RCH_SB_WIN names. -/
def State.winSlot (s : State) : RSlot := s.sslot (unit4 (s.raw RCH_SB_WIN_CH)) (s.raw RCH_SB_WIN_SLOT)

/-- What lies at a word of the control space. -/
inductive Spot where
  | reg (d : RegDef) (l : List Nat)
  | word (v : Nat)
  | header
  | code (n : Fin 18) (plane w : Nat) (hi : Bool)
  | none

/-- What lies at a word: a register; a word of a window; a word of a sample slot's header; a half of a microword's plane. -/
def State.spot (s : State) (a : Nat) : Spot :=
  if inCsWindow a then
    let o := a - 0x1000000
    if h : o / 0x30000 < 18 then
      .code ⟨o / 0x30000, h⟩ (o % 0x30000 / 0x10000) (o % 0x10000 / 8) (o % 8 / 4 == 1)
    else .none
  else if 0x500000 ≤ a ∧ a < 0x540000 ∧ 0x8000 ≤ a % 0x10000 then
    match codeWindow (a % 0x10000) with
    | some v => .word v
    | Option.none => .none
  else if 0x680000 ≤ a ∧ a < 0x690000 then
    if a < 0x680100 then .header else .word (bits s.winSlot.samples ((a - 0x680100) * 8) 32)
  else if 0x1490000 ≤ a ∧ a < 0x14D0000 then
    match tabLook Option.none s.pat.ring ((a - 0x1490000) / 128) with
    | some r => .word (leNat ((r.bytes.drop ((a - 0x1490000) % 128)).take 4))
    | Option.none => .word 0
  else
    match regAt a with
    | some (d, l) => .reg d l
    | Option.none => .none

/-- Registers whose value is measured outside the digital part, or counts a clock the model does not count. -/
def measured (n : RegName) : Bool := n == .ACT_MEAS || n == .PWR_VMEAS || n == .PWR_HU

/-- A word as a snapshot of Patina finds it (R360): no side effects, and nothing from SEC or a control store. -/
def State.peek (s : State) (a : Nat) : Nat :=
  if inCsWindow a || (0x1600000 ≤ a && a < 0x1680000) then 0
  else
    match s.spot a with
    | .reg d l => s.regWord (.core 0) d l
    | .word v => v
    | _ => 0

end Sys2Proof.Machine
end

