-- ==== Sys2Proof/Machine/Patina.lean ====
section
/-!
DEFINITION. Patina (R359 to R364): a trigger becomes a record or adds to one, software raises trigger 0, records are copied to
the vault, and firmware sets the operating seconds.
-/
namespace Sys2Proof.Machine

/-- The snapshot set that a trigger names in PAT_TSETj, if it names one; a reserved code acts as the reset value, which is no
snapshot. -/
def State.trigSet (s : State) (i : Nat) : Option Nat :=
  let v := bits (s.raw (PAT_TSET_SET (i / 8))) (i % 8 * 4) 4
  if v < 8 then some v else none

/-- The snapshot a trigger takes (R360): (offset in words, value) of each entry in use. -/
def State.snapshot (s : State) (i : Nat) : List (Nat × Nat) :=
  match s.trigSet i with
  | none => []
  | some k =>
    (List.range 16).filterMap fun e =>
      if s.flag (PAT_SET_VALID k e) then
        let w := s.raw (PAT_SET_WORD k e)
        some (w, s.peek (w * 4))
      else none

/-- The record at an index of the SRAM ring. -/
def State.recAt (s : State) (i : Nat) : Option PRec := tabLook none s.pat.ring i

/-- Put the record at an index of the SRAM ring. -/
def putRec (i : Nat) (r : PRec) (s : State) : State := { s with pat := { s.pat with ring := tabPut none s.pat.ring i (some r) } }

/-- Whether a trigger adds to the newest record (R362): the same TRIG and DETAIL, and not yet in the vault. -/
def PRec.merges (r : PRec) (trig detail : Nat) : Bool := r.trig == trig && r.detail == detail && !r.vault

/-- The index a new record takes: the one after the newest, and 0 in an empty ring. -/
def State.nextRec (s : State) : Nat :=
  if s.pat.ring.isEmpty then 0 else (s.raw PAT_STAT_NEWEST + 1) % 2048

/-- Make a record (R360, R361, R363, R364). One that overwrites a record not yet copied is counted in PAT_LOST. -/
def makeRec (trig detail : Nat) (s : State) : State :=
  let i := s.nextRec
  let early := !s.pat.written || !s.flag PAT_CTL_EN
  let r : PRec := { opsec := s.opsec % 2 ^ 40, pcc := s.raw PAT_PCC_PCC, trig, early, vault := false,
                    since := true, rep := 0, detail, vals := s.snapshot trig }
  let lost := match s.recAt i with | some o => !o.vault | none => false
  let s1 := (putRec i r s).set PAT_STAT_NEWEST i
  let s2 := if lost then s1.bump PAT_LOST_COUNT 1 else s1.bump PAT_STAT_UNSAVED 1
  s2.on PAT_STAT_REC

/-- The oldest trigger leaves the queue (R362). -/
def patinaRecord (s : State) : State :=
  match s.pat.queue with
  | [] => s
  | (t, d) :: rest =>
    let s1 := { s with pat := { s.pat with queue := rest } }
    match s1.recAt (s1.raw PAT_STAT_NEWEST) with
    | some r =>
      if r.merges t (d % 2 ^ 32) then putRec (s1.raw PAT_STAT_NEWEST) { r with rep := sat 16 (r.rep + 1) } s1
      else makeRec t (d % 2 ^ 32) s1
    | none => makeRec t (d % 2 ^ 32) s1

/-- Patina records while the main die runs and while it saves (R364). -/
def State.patLive (s : State) : Bool := s.die.phase == .running || s.die.phase == .saving

def execPatinaRecord (s : State) : Res := .next (s.when s.patLive patinaRecord)

/-- Every trigger queued leaves the queue, which holds at most 16. -/
def patinaDrain (s : State) : State := (List.range 16).foldl (fun t _ => patinaRecord t) s

/-- A write of PAT_SW: DETAIL is kept, and GO raises trigger 0. -/
def patSwWrite (v : Nat) (s : State) : State :=
  let s1 := s.set PAT_SW_DETAIL (bits v 0 24)
  if bitOf v 31 then patTrig 0 (bits v 0 24) s1 else s1

def execPatinaSw (detail : BitVec 24) (s : State) : Res := .next (live s (patSwWrite (2 ^ 31 + detail.toNat)))

/-- A copy in service (R363): the 128 oldest records not in the vault fill a page. A page that fails its program sets VAULT_ERR,
and its records go to the next page. -/
def vaultCopy (failed : Bool) (s : State) : State :=
  let s1 := if failed then s.on PAT_STAT_VAULT_ERR else s
  (patCopy 128 s1).on PAT_STAT_COPIED

def execPatinaVaultCopy (failed : Bool) (s : State) : Res :=
  .next (live s fun s => s.when (s.patMayCopy && 128 ≤ s.unsaved.length) (vaultCopy failed))

/-- The stamp that an EARLY record made since the release of DEV reset takes when firmware sets the count (R364). -/
def PRec.rebase (base pcc : Nat) (r : PRec) : PRec :=
  if r.early && r.since then { r with opsec := (r.opsec + base) % 2 ^ 40, pcc, early := false } else r

/-- A write of PAT_OPSEC_HI (R364): the count becomes the value written, and the EARLY records since the release are stamped. -/
def opsecWrite (hi : Nat) (s : State) : State :=
  let base := hi % 256 * 2 ^ 32 + s.raw PAT_OPSEC_LO_SEC
  { s.set PAT_OPSEC_HI_SEC hi with
    pat := { s.pat with
      opBase := base, opAt := s.inv.wall, written := true
      ring := s.pat.ring.map fun e => (e.1, e.2.map (PRec.rebase base (s.raw PAT_PCC_PCC))) } }

def execOpsecWrite (hi : Byte) (s : State) : Res := .next (live s (opsecWrite hi.toNat))

end Sys2Proof.Machine
end

