-- ==== Sys2Proof/Machine/Save.lean ====
section
/-!
DEFINITION. The save of BUF and the journal to region 6 of the vault (R270, R271), and its replay at start-up (R272).
-/
namespace Sys2Proof.Machine

/-! ### The pages of a save (R270, R271) -/

/-- Bytes of a vault page. -/
def pageBytes : Nat := 16384

/-- `l` with the CRC-32C of its bytes after it. -/
def withCrc (l : List Byte) : List Byte := l ++ leBytes (crc32c l) 4

/-- A page whose first bytes are `l` and whose other data and spare bytes are zero. -/
def plainPage (l : List Byte) : VPage := { data := leNat l, spare := 0 }

/-- Bytes of the journal ring. -/
def State.ringBytes (s : State) : Nat := 2 ^ s.get BUF_JRN_RING_SIZE * 2 ^ 20

/-- Bytes of the journal from its tail to its head. -/
def State.journalLen (s : State) : Nat :=
  (s.raw BUF_JRN_HEAD_OFS * 64 + s.ringBytes - s.raw BUF_JRN_TAIL_OFS * 64 % s.ringBytes) % s.ringBytes

/-- The journal from its tail to its head. -/
def State.journalBytes (s : State) : List Byte :=
  let base := s.raw BUF_JRN_RING_BASE * 64
  let t := s.raw BUF_JRN_TAIL_OFS * 64
  (List.range s.journalLen).map fun i => s.dramByte (base + (t + i) % s.ringBytes)

/-- The header (R271), for `n` units. -/
def State.saveHeader (s : State) (n : Nat) : List Byte :=
  withCrc (leBytes 0xA7C50001 4 ++ leBytes (s.raw PAT_PCC_PCC) 3 ++ leBytes 0 1 ++ leBytes (s.raw XLT_JRN_PERS_JSEQ + 1) 4 ++
    leBytes (s.raw XLT_JSEQ_JSEQ) 4 ++ leBytes s.journalLen 4 ++ leBytes n 4 ++ leBytes 0 36)

/-- A unit as the save writes it: its 4,096 bytes and its tag (R271), `i` being its index in the save. A unit whose DRAM read is
uncorrectable is poisoned. -/
def State.savedUnit (s : State) (u i : Nat) : List Byte × List Byte :=
  let d := s.dramBytes (u * 4096) 4096
  let poison := b2n (!s.dramOk (u * 4096) 4096)
  (d, withCrc (leBytes (poison * 2 ^ 31 + u % 2 ^ 22) 4 ++ leBytes (crc32c d) 4 ++ leBytes i 4))

/-- An unused tag place. -/
def noTag : List Byte := List.replicate 16 0xFF

/-- Cut a list into runs of `n`; `fuel` bounds their number. -/
def chunks {α : Type} (n : Nat) : (fuel : Nat) → List α → List (List α)
  | 0, _ => []
  | _, [] => []
  | fuel + 1, l => l.take n :: chunks n fuel (l.drop n)

/-- A page of four units. -/
def unitPage (l : List (List Byte × List Byte)) : VPage :=
  { data := leNat (l.flatMap (·.1)), spare := leNat (l.flatMap (·.2) ++ (List.replicate (4 - l.length) noTag).flatten) }

/-- The trailer (R271). -/
def State.saveTrailer (s : State) (tags : List (List Byte)) : List Byte :=
  withCrc (leBytes 0xA7C50002 4 ++ leBytes (s.raw PAT_PCC_PCC) 3 ++ leBytes 0 1 ++ leBytes tags.length 4 ++
    leBytes (crc32c tags.flatten) 4 ++ leBytes 0 44)

/-- Every page of the save, in the order written (R270). -/
def State.savePages (s : State) : List VPage :=
  let us := s.vlt.snap.zipIdx.map fun e => s.savedUnit e.1 e.2
  let j := s.journalBytes
  [plainPage (s.saveHeader us.length)] ++ (chunks pageBytes j.length j).map plainPage ++ (chunks 4 us.length us).map unitPage ++
    [plainPage (s.saveTrailer (us.map (·.2)))]

/-- The places the save engine writes: the pages of the blocks of region 6 whose map bit is set, in ascending order. -/
def State.savePlaces (s : State) : List Nat :=
  ((List.range (s.raw (VLT_REGION_BLOCKS 6))).filter fun i => s.bit (VLT_SAVE_MAP_ERASED (i / 32)) (i % 32)).flatMap fun i =>
    (List.range 256).map fun p => (s.raw (VLT_REGION_BASE 6) + i) * 256 + p

/-- The save engine programs the first `n` pages of the save. -/
def saveWrite (n : Nat) (s : State) : State :=
  (s.savePlaces.zip (s.savePages.take n)).foldl (fun t e => putPage e.1 (some e.2) t) s

/-! ### Replay (R272) -/

/-- Page number `i` of region 6. -/
def State.savePage (s : State) (i : Nat) : VPage := s.vPage (s.raw (VLT_REGION_BASE 6) * 256 + i)

/-- Bytes [o, o + n) of a number's little-endian bytes, as a number. -/
def numLe (v o n : Nat) : Nat := bits v (8 * o) (8 * n)

/-- Whether the first 64 bytes of a page carry `magic` and their CRC. -/
def pageMarked (p : VPage) (magic : Nat) : Bool :=
  numLe p.data 0 4 == magic && crc32c (leBytes p.data 60) == numLe p.data 60 4

/-- Put bytes of journal pages in DRAM from `at`. -/
def loadJournal (at_ len : Nat) (s : State) : State :=
  (List.range (ceilDiv len pageBytes)).foldl (fun t k =>
    t.dramWrite (at_ + k * pageBytes) (leBytes (s.savePage (1 + k)).data (min pageBytes (len - k * pageBytes)))) s

/-- The DRAM addresses in 64-byte units of the records in `len` bytes from `a`. -/
def recordsIn (s : State) : (fuel a len : Nat) → List Nat
  | 0, _, _ => []
  | fuel + 1, a, len =>
    let n := ceilDiv (32 + 48 * s.recCount a) 64 * 64
    if len < n then [] else a / 64 :: recordsIn s fuel (a + n) (len - n)

/-- The unit at place `i` of the save: its address when its tag and its data pass, and its data. -/
def State.replayUnit (s : State) (first i : Nat) : Option (Nat × List Byte) :=
  let p := s.savePage (first + i / 4)
  let o := i % 4 * 16
  let d := leBytes (numLe p.data (i % 4 * 4096) 4096) 4096
  let tag := numLe p.spare o 4
  if crc32c (leBytes (numLe p.spare o 12) 12) = numLe p.spare (o + 12) 4 ∧ !bitOf tag 31 ∧ numLe p.spare (o + 8) 4 = i ∧
      crc32c d = numLe p.spare (o + 4) 4 ∧ s.inPool (tag % 2 ^ 22) then
    some (tag % 2 ^ 22, d)
  else none

/-- Restore one unit: its data to DRAM, and RESTORE for it. -/
def restoreUnit (e : Nat × List Byte) (s : State) : State :=
  segNamed (.core 0) 7 1 e.1 (fun _ => { dirty := true, ref := 1 }) (s.dramWrite (e.1 * 4096) e.2)

/-- Firmware replays a save (R272): the journal tail is put at `at_` in DRAM and applied after the map rebuild, the units whose
tag and data pass are restored, XL1 commits the records at `recs`, which set UNREC on the `lost` units' extents, and BF1 drops
the units `free`, which no segment extent names. Without a header nothing happens. -/
def saveReplay (at_ : Nat) (recs : List Nat) (lost : Nat) (free : List Nat) (s : State) : State :=
  let h := s.savePage 0
  if !pageMarked h 0xA7C50001 then s
  else
    let len := numLe h.data 16 4
    let n := numLe h.data 20 4
    let s1 := loadJournal at_ len (s.on VLT_STAT_SAVE_FOUND)
    let s2 := (replay (recordsIn s1 (len / 64) at_ len) s1).1
    let us := (List.range n).filterMap fun i => s.replayUnit (1 + ceilDiv len pageBytes) i
    let s3 := us.foldl (fun t e => restoreUnit e t) s2
    let s4 := recordsApply recs s3
    let s5 := if lost = 0 then s4 else patTrig 33 lost s4
    (free.filter fun u => us.any fun e => e.1 == u).foldl (fun t u => segNamed (.role 12) 4 1 u BUnit.drop t) s5

def execSaveReplay (at_ : Nat) (recs : List Nat) (lost : Nat) (free : List Nat) (s : State) : Res :=
  .next (live s (saveReplay (at_ % 2 ^ 34 / 64 * 64) recs lost free))

end Sys2Proof.Machine
end

