-- ==== Sys2Proof/Machine/Reset.lean ====
section
/-!
DEFINITION. Resets (R401 to R412): what each clears, the sequence of a DEV-clearing reset, power-on, the release, the watchdog,
and the stage-link heartbeat (R15).
-/
namespace Sys2Proof.Machine

/-! ### What a reset clears and keeps (R401, R409) -/

/-- The fields of the AON domain, which only power-on clears (R13). -/
def aonFields : List Fld :=
  [SYS_ID_PART, SYS_ID_MAIN_REV, SYS_ID_PWR_REV, SYS_STRAP_X2_ACTIVE, SYS_STRAP_DUALPORTEN, SYS_STRAP_BOOT_SRC,
   SYS_STRAP_FABRIC_EN, SYS_STRAP_ASSIST, SYS_STRAP_PORT_MODE, TPR_CTL_MODE, PWR_STAT_HB_LOST, THM_STAT_CRIT_TRIP,
   PAT_STAT_NEWEST, PAT_STAT_UNSAVED, SEC_STAT_DBG_FUSED, SEC_STAT_RBCNT, SEC_BOOT_TRIAL, SEC_BOOT_SKIP, SEC_KEYREV_REVOKED,
   RST_CAUSE_LAST, RST_CAUSE_SAVE_RAN, RST_CAUSE_SEEN, RST_DEVCNT_WDT, RST_DEVCNT_DEV]

/-- The fields that show fuses, which every reset keeps (R409). -/
def fuseFields : List Fld := [SEC_STAT_DBG_FUSED, SEC_STAT_RBCNT, SEC_KEYREV_REVOKED]

/-- The register store with the fields listed kept and every other field at its reset value. -/
def keepFields (l : List Fld) (t : Tab Nat) : Tab Nat := t.filter fun e => l.any fun f => f.key == e.1

/-- The state with the DEV and CTL domains cleared (R409), and the register fields `keep` kept: besides the
registers, the vault's pages and rings, firmware slots and wrapped keys, namespaces and checkpoints stay, as do the balls and
the supplies; the angle stamp does not fall back (R36). -/
def clearDev (keep : List Fld) (s : State) : State :=
  { State.reset with
    pending := s.pending, regs := keepFields keep s.regs, free := s.free, out := s.out, die := s.die, pd := s.pd
    pins := { s.pins with flt := true, clkreq := false, led := false, ledAt := 0 }
    pwr := { State.reset.pwr with
      below12 := s.pwr.below12, below5 := s.pwr.below5, reset12 := s.pwr.reset12, reset5 := s.pwr.reset5
      rectEn := s.pwr.rectEn, oc := s.pwr.oc }
    pat := { State.reset.pat with ring := s.pat.ring.map fun e => (e.1, e.2.map fun r => { r with since := false }), vring := s.pat.vring }
    inv := { State.reset.inv with now := s.inv.now }
    vlt := { State.reset.vlt with pages := s.vlt.pages }
    xl1 := { State.reset.xl1 with ckpts := s.xl1.ckpts }
    hif := { State.reset.hif with ns := s.hif.ns }
    sec := { State.reset.sec with slots := s.sec.slots, keys := s.sec.keys, store1 := s.sec.store1 } }

/-- Record a reset in RST_CAUSE and RST_DEVCNT (R412): LAST `code`, its SEEN bit, and whether a save ran. -/
def recordCause (code : Nat) (ran : Bool) (s : State) : State :=
  let s1 := ((s.set RST_CAUSE_LAST code).onBit RST_CAUSE_SEEN code).put RST_CAUSE_SAVE_RAN ran
  let s2 := if 2 ≤ code then s1.bump RST_DEVCNT_DEV 1 else s1
  if code = 3 then s2.bump RST_DEVCNT_WDT 1 else s2

/-- DEV is cleared by a reset other than power-on, and the main die waits for its release (R403). -/
def devClear (code : Nat) (s : State) : State :=
  let s1 := recordCause code s.die.ran (clearDev aonFields s)
  { s1 with die := { resetDie with phase := .held, frc := s.die.frc, cleared := true, ran := s.die.ran } }

/-! ### The sequence of a DEV-clearing reset (R402) -/

/-- The trigger in a running die: both SWREQ bits, the power die made safe, Solder ports idle, FLT# low, and the save. -/
def resetBegin (code : Nat) (s : State) : State :=
  let s1 := portsDisable (powerDieSafe (quenchReq 1 (quenchReq 0 s)))
  let s2 := saveBegin true { s1 with pins := { s1.pins with flt := true } }
  { s2 with die := { s2.die with reset := some code } }

/-- A DEV-clearing reset other than power-on. One that arrives during a save takes effect after the trailer; in a die
held after CRIT only DEVRST# (code 2) acts; one held for want of its supplies waits for power-on. -/
def devReset (code : Nat) (s : State) : State :=
  match s.die.phase with
  | .running | .rom => resetBegin code s
  | .saving => if s.die.reset.isNone then { s with die := { s.die with reset := some code } } else s
  | .held =>
    if s.die.loss then s
    else if s.die.crit then (if code = 2 then devClear code s else s)
    else devClear code { s with die := { s.die with ran := false } }
  | .off => s

/-- DEVRST# has been low for 1 µs (R401). -/
def execDevrstAssert (s : State) : Res := .next (devReset 2 { s with pins := { s.pins with devrst := true } })

/-- Whether the main die runs its clocks out of reset: running, or waiting in the boot ROM. -/
def State.awake (s : State) : Bool := s.die.phase == .running || s.die.phase == .rom

/-- The watchdog reaches zero (R404), or, with `stage1`, stage 1 finds a component that does not match its digest (R389) and
sets the slot's SKIP bit first. -/
def watchdogExpiry (stage1 : Bool) (s : State) : State :=
  if stage1 then
    let k := s.raw SEC_STAT_SLOT
    devReset 3 (patTrig 60 k ((s.on SEC_STAT_SIG_FAIL).onBit SEC_BOOT_SKIP k))
  else
    let s1 := s.set RST_WDT_LEFT_MS 0
    if s.flag RST_WDT_EN then devReset 3 s1 else s1

def execWatchdogExpiry (stage1 : Bool) (s : State) : Res :=
  .next (s.when (s.awake && (stage1 || s.bit CLK_SRC_STAT_STABLE srcSrc)) (watchdogExpiry stage1))

/-- A write of RST_WDT_KICK (R404). -/
def watchdogKick (s : State) : State := s.set RST_WDT_LEFT_MS (s.get RST_WDT_PERIOD_MS)

def execWatchdogKick (s : State) : Res := .next (live s watchdogKick)

/-- A write of RST_CTL.FATAL. -/
def execFatalReset (s : State) : Res := .next (live s (devReset 4))

/-- A host write of NSSR with the value NVMe 2.0 defines, on either controller. -/
def execNvmSubsystemReset (c : Fin 2) (s : State) : Res := .next (live s fun s => s.when (s.ctlExists c) (devReset 5))

/-- A write of RST_CTL.FLT_REL (R411). -/
def faultRelease (s : State) : State := { s with pins := { s.pins with flt := false } }

def execFaultRelease (s : State) : Res := .next (live s faultRelease)

/-- A write of RST_CTL.CORE_REL: cores 1 to 3 out of reset or held in it. -/
def coreRelease (v : Nat) (s : State) : State := s.set RST_CTL_CORE_REL v

def execCoreRelease (v : Fin 8) (s : State) : Res := .next (live s (coreRelease v.val))

/-! ### The end of a save (R316, R317, R402) -/

/-- Hold the main die. -/
def dieHold (s : State) : State := { s with die := { s.die with phase := .held } }

/-- Ask for the power-on of the module (R317). -/
def dieRequest (s : State) : State := { s with die := { s.die with request := true } }

/-- The pages left of a save under way are written, and Patina copies its unsaved records. -/
def saveClose (s : State) : State :=
  let n := if s.vlt.saving then s.vlt.snap.length else 0
  let s1 := modVlt (fun v => { v with saving := false }) (if s.vlt.saving then saveWrite s.savePages.length s else s)
  patCopyAll (patinaDrain (if s.die.loss then patTrig 41 n s1 else s1))

/-- Whether a rail is below warning or below its reset level. -/
def State.railLow (s : State) : Bool := s.pwr.below12 || s.pwr.below5 || s.pwr.reset12 || s.pwr.reset5

/-- The trailer is written, or the point at which it would have been: Patina copies its unsaved records. A DEV-clearing reset
then clears DEV. After a supply loss the module's power-on is requested once both rails are above warning; after CRIT the die
stays held. -/
def saveAfter (t : State) : State :=
  if t.die.loss && t.railLow then dieHold t
  else
    match t.die.reset with
    | some code => devClear code t
    | none => if t.die.loss then dieRequest (dieHold t) else dieHold t

/-- The save's end: its last writes, then what the die does next. -/
def saveEnd (s : State) : State := saveAfter (saveClose s)

def execSaveTrailerDone (s : State) : Res := .next (s.when (s.die.phase == .saving) saveEnd)

/-- The hold-up bus falls below 6.0 V (R316): every regulator goes off. `pages` of a save under way had been programmed. -/
def holdupCollapse (pages : Nat) (s : State) : State :=
  let s1 := if s.die.phase = .saving ∧ s.vlt.saving then saveWrite pages s else s
  let s2 := modVlt (fun v => { v with saving := false }) s1
  { s2 with
    die := { s2.die with phase := .off, request := false, reset := none, cleared := false }
    pd := { s2.pd with regOff := true }
    pins := { s2.pins with flt := false } }

def execHoldupCollapse (pages : Nat) (s : State) : Res :=
  .next (s.when (s.pd.swOpen && !s.pd.regOff) (holdupCollapse pages))

/-! ### Power-on (R401, R405 A1) -/

/-- Both rails stand above warning after a power-on: AON, DEV and CTL are cleared, DRAM and the Patina ring hold nothing, and
the straps are latched (R1, R3). `request` tells a power-on requested after a save (R317). -/
def powerOn (straps : Nat) (dual : Bool) (s : State) : State :=
  let after := s.die.request && s.die.ran
  let ran := s.die.ran
  let s1 := clearDev fuseFields { s with inv := { s.inv with now := 0 }, pat := { s.pat with ring := [] } }
  let s2 := (((((s1.put SYS_STRAP_PORT_MODE (bitOf straps 0)).put SYS_STRAP_ASSIST (bitOf straps 1)).put
    SYS_STRAP_FABRIC_EN (bitOf straps 2)).put SYS_STRAP_BOOT_SRC (bitOf straps 3)).put SYS_STRAP_DUALPORTEN dual)
  let s3 := (s2.put SYS_STRAP_X2_ACTIVE (bitOf straps 0 && !dual)).put TPR_CTL_MODE (bitOf straps 1)
  let s4 := recordCause (b2n after) (after && ran) s3
  { s4 with
    die := { resetDie with phase := .held, frc := false, cleared := true }
    pd := { (default : Pd) with safe := true }
    pwr := State.reset.pwr }

/-- A rail rises from below its reset level, or the power-on that R317 requests is made; `dual` is the level of DUALPORTEN#. -/
def execPowerOn (straps : Fin 16) (dual : Bool) (s : State) : Res :=
  .next (s.when (s.die.phase == .off || s.die.request) (powerOn straps.val dual))

/-! ### The release (R403, R405 A2 to A4) -/

/-- VLT rebuilds its save map (R407): a block's bit is set when its first page reads as erased. -/
def saveMapRebuild (s : State) : State :=
  (List.range 320).foldl (fun t i =>
    t.putBit (VLT_SAVE_MAP_ERASED (i / 32)) (i % 32)
      (decide (i < s.raw (VLT_REGION_BLOCKS 6)) && (tabLook none s.vlt.pages ((s.raw (VLT_REGION_BASE 6) + i) * 256)).isNone)) s

/-- The boot ROM waits for a recovery image (R4): every output stays as in reset, the power die's included. -/
def romWait (s : State) : State := { s with die := { s.die with phase := .rom }, pd := { s.pd with safe := true } }

/-- The boot ROM loads the diode trims, then picks and checks a slot (R389, R390); with STRAP[3] set, or both slots rejected, it
waits for a recovery image. -/
def romBoot (s : State) : State :=
  let s1 := s.on THM_CTL_DIODE
  let p := bootTry 2 (s.raw SEC_BOOT_SKIP) s1
  if s.flag SYS_STRAP_BOOT_SRC then romWait s1 else if p.2 then p.1 else romWait p.1

/-- DEV reset is released: the power die leaves the states of R15 and R16, the watchdog is loaded, the operating seconds count from
now (R364), trigger 62 reports the cause (R412), VLT rebuilds its map, and the ROM boots. -/
def devRelease (s : State) : State :=
  let s1 : State := { s with
    die := { s.die with phase := .running, cleared := false, ran := false }
    pd := { s.pd with safe := false }
    pins := { s.pins with devrst := false }
    pat := { s.pat with opBase := 0, opAt := s.inv.wall, written := false } }
  let cause := s1.raw RST_CAUSE_LAST + 16 * s1.raw RST_CAUSE_SAVE_RAN
  romBoot (patTrig 62 cause (saveMapRebuild (watchdogKick s1)))

def execDevResetRelease (s : State) : Res :=
  .next (s.when (s.die.phase == .held && s.die.cleared && s.die.frc) devRelease)

/-! ### The heartbeat (R15) -/

/-- The main die toggles the heartbeat wire. -/
def execHeartbeatToggle (s : State) : Res := .next (s.when s.awake fun s => { s with pd := { s.pd with beat := !s.pd.beat } })

/-- The power die has seen no toggle for 16 µs: it makes itself safe and latches the loss. -/
def heartbeatLoss (s : State) : State := patTrig 43 0 ((powerDieSafe s).on PWR_STAT_HB_LOST)

def execHeartbeatLoss (s : State) : Res := .next (s.when (s.awake && !s.pd.safe) heartbeatLoss)

end Sys2Proof.Machine
end

