-- ==== Sys2Proof/Machine/Bus.lean ====
section
/-!
DEFINITION. An access to the control space (R9 to R12, R24 to R34): who may reach what, what a read returns and does, and what
a write of each register sets going. A register whose chapter gives a write more than its access types do is named in
`regWrite`; every other write follows the access types alone.
-/
namespace Sys2Proof.Machine

/-! ### Refused accesses (R26 to R31) -/

/-- The bits of SYS_ERR, by their place. -/
abbrev errUnmapped : Nat := 0
/-- The block is held in reset, gated by force or powered off. -/
abbrev errDown : Nat := 1
/-- The host is refused. -/
abbrev errDenied : Nat := 2

/-- An access as SYS_ERR_ADDR lays it out. -/
def accessWord (r : Req) (wr : Bool) (a : Nat) : Nat := srcOf r * 2 ^ 26 + b2n wr * 2 ^ 25 + a / 4 % 2 ^ 23 * 4

/-- A refused or unmapped access (R30): its bit sets, the first one is recorded, and trigger 1 is raised. -/
def accessRefused (err : Nat) (r : Req) (wr : Bool) (a : Nat) (s : State) : State :=
  let clear := !s.flag SYS_ERR_UNMAPPED && !s.flag SYS_ERR_BLK_DOWN && !s.flag SYS_ERR_HOST_DENIED
  let s1 := if clear then
      ((s.set SYS_ERR_ADDR_SRC (srcOf r)).put SYS_ERR_ADDR_WR wr).set SYS_ERR_ADDR_ADDR (a / 4 * 4)
    else s
  patTrig 1 (accessWord r wr a)
    (s1.on (if err = 0 then SYS_ERR_UNMAPPED else if err = 1 then SYS_ERR_BLK_DOWN else SYS_ERR_HOST_DENIED))

/-- Whether a block is powered off in the current power state (R320): WCH, TPR and RCH under S3, VLT under S7; or held gated
by a force (R339). -/
def State.blockDown (s : State) (i : Nat) : Bool :=
  ((i == 5 || i == 6) && !s.stepOn 3) || (i == 12 && !s.stepOn 7) || s.forcedOff i

/-- Whether R28 refuses the host. -/
def State.hostDenied (s : State) (wr : Bool) (g : Region) (a : Nat) : Bool :=
  g.block == 22 || inCsWindow a || (wr && (a / 4 * 4 == SYS_HOST_WMASK_HWE.addr || !s.bit SYS_HOST_WMASK_HWE g.block))

/-- What is wrong with an access, if anything. -/
def State.accessErr (s : State) (r : Req) (wr : Bool) (a : Nat) : Option Nat :=
  match regionOf a with
  | none => some errUnmapped
  | some g =>
    if r == .host && s.hostDenied wr g a then some errDenied
    else if s.blockDown g.block then some errDown
    else
      match s.spot (a / 4 * 4) with
      | .none => some errUnmapped
      | _ => none

/-- An access that reaches a block wakes it (R27). -/
def wakeBlock (a : Nat) (s : State) : State :=
  match regionOf a with
  | some g => s.onBit CLK_GATE_STAT_BLK g.block
  | none => s

/-! ### Reads -/

/-- The fields that a read clears (R12). -/
def readClears (d : RegDef) (l : List Nat) (s : State) : State :=
  (d.at3 l).foldl (fun t f => if f.acc == .rc then t.set f 0 else t) s

/-- INV_NOW_LO captures the stamp, INV_WALL_LO the wall counter, for the requester. -/
def captureNow (r : Req) (wall : Bool) (s : State) : State :=
  if wall then { s with inv := { s.inv with capWall := tabPut 0 s.inv.capWall (bankOf r) s.inv.wall } }
  else { s with inv := { s.inv with capNow := tabPut 0 s.inv.capNow (bankOf r) s.inv.now } }

/-- A value the manual does not fix, of `w` bits. -/
def freeRead (w : Nat) (s : State) : State × Nat :=
  let d := s.draw
  (d.1, Config.freeValue d.2 % 2 ^ w)

/-- A read of a register: its value, and what the read does. -/
def regRead (r : Req) (d : RegDef) (l : List Nat) (s : State) : State × Nat :=
  let i := l.getD 0 0
  match d.name with
  | .INV_NOW_LO =>
    let s1 := captureNow r false s
    (s1, tabLook 0 s1.inv.capNow (bankOf r) % 2 ^ 32)
  | .INV_NOW_HI => (s, tabLook 0 s.inv.capNow (bankOf r) / 2 ^ 32 % 2 ^ 32)
  | .INV_WALL_LO =>
    let s1 := captureNow r true s
    (s1, tabLook 0 s1.inv.capWall (bankOf r) % 2 ^ 32)
  | .INV_WALL_HI => (s, tabLook 0 s.inv.capWall (bankOf r) / 2 ^ 32 % 2 ^ 32)
  | .RST_WDT_LEFT =>
    let p := freeRead 16 s
    let v := p.2 % (s.raw RST_WDT_LEFT_MS + 1)
    (p.1.set RST_WDT_LEFT_MS v, v)
  | .SEC_DBG_CHAL =>
    let s1 := if i = 0 then debugChallenge s else s
    (s1, s1.regWord r d l)
  | .PAT_LOST =>
    let v := s.regWord r d l
    ({ readClears d l s with pat := { s.pat with lostRead := v } }, v)
  | n =>
    if measured n then
      let p := freeRead 32 s
      (p.1, (d.at3 l).foldl (fun v f => v + bits p.2 f.lo f.width * 2 ^ f.lo) 0)
    else (readClears d l s, s.regWord r d l)

/-- A word of the control space, apart from what refuses the access. -/
def spotRead (r : Req) (a : Nat) (s : State) : State × Nat :=
  match s.spot a with
  | .reg d l => regRead r d l s
  | .word v => (s, v)
  | .header => freeRead 32 s
  | .code n p w hi =>
    if s.eng.se[n].bad.contains (s.csCell n.val w * 3 + p) then
      (memUe (15 + n.val) (match r with | .role _ => rdEngine | _ => rdCore) (w * 3 + p) s, 0)
    else (s, bits (s.csPlane n w p) (if hi then 32 else 0) 32)
  | .none => (s, 0)

/-- A read: the state after, the word, and what refused it. -/
def busRead (r : Req) (a : Nat) (s : State) : State × Nat × Option Nat :=
  match s.accessErr r false a with
  | some e => (accessRefused e r false a s, 0, some e)
  | none =>
    let p := spotRead r (a / 4 * 4) (wakeBlock a s)
    (p.1, p.2, none)

/-- The bytes of a word that a read asks for; the others read as zero. -/
def byteMask (be v : Nat) : Nat :=
  (List.range 4).foldl (fun n i => if bitOf be i then n + bits v (8 * i) 8 * 256 ^ i else n) 0

/-- A read as the requester sees it (R9: a partial read returns its bytes). -/
def readAccess (r : Req) (a be : Nat) (s : State) : State :=
  let p := busRead r a s
  p.1.emit (.readData r (byteMask be p.2.1))

/-! ### Writes -/

/-- Whether RWL fields take writes (R34). -/
def State.unlocked (s : State) : Bool := !s.flag SEC_LOCK_LOCK

/-- A written word reaches one field, in the copy of bank `b` (R12). -/
def fieldWrite (b v : Nat) (s : State) (f : Fld) : State :=
  let x := bits v f.lo f.width
  match f.acc with
  | .rw => s.set (f.inBank b) x
  | .rwl => if s.unlocked then s.set (f.inBank b) x else s
  | .w1c => s.set (f.inBank b) ((List.range f.width).foldl (fun n i => if bitOf x i then clrBit n i else n) (s.raw (f.inBank b)))
  | .ro | .w1s | .rc => s

/-- A write by access type alone: each field is set, cleared or left. -/
def plainWrite (r : Req) (d : RegDef) (l : List Nat) (v : Nat) (s : State) : State :=
  (d.at3 l).foldl (fieldWrite (if d.banked then bankOf r else 0) v) s

/-- A write of SPN_CTL: RING_EN, then PERMIT, then the command, which reads 000b again (R71). -/
def spnCtlWrite (v : Nat) (s : State) : State :=
  let s1 := permitChange (bitOf v 4) (s.put SPN_CTL_RING_EN (bitOf v 8))
  match bits v 0 3 with
  | 1 => cmdStart s1
  | 2 => cmdStop s1
  | 3 => cmdFloat s1
  | _ => s1

/-- A command of ACT_CTL (R108). -/
def actCmd (a : Fin 2) (c : Nat) (s : State) : State :=
  match c with
  | 1 => cmdLoad a s
  | 2 => cmdUnload a s
  | 3 => cmdRetract a s
  | _ => s

/-- A write of INV_CFG: WEDGES only while EN is 0b (R35). -/
def invCfgWrite (v : Nat) (s : State) : State :=
  let s1 := if bitOf v 31 then invarEnable s
    else (if s.flag INV_CFG_EN then invarDisable s else s).set INV_CFG_WEDGES (bits v 16 11)
  (s1.set INV_CFG_JUMP_TOL (bits v 8 8)).set INV_CFG_WR_TOL (bits v 0 8)

/-- A write of SRV_COEF goes to the shadow bank (R90). -/
def coefWrite (a : Fin 2) (k v : Nat) (s : State) : State :=
  let t (x : Tab Nat) : Tab Nat := tabPut 0 x k (v % 2 ^ 24)
  if s.flag (SRV_COEF_CTL_ACTIVE a.val) then modSrv a (fun x => { x with bank0 := t x.bank0 }) s
  else modSrv a (fun x => { x with bank1 := t x.bank1 }) s

/-- A write of XCC_CTL (R190, R192): one that may not set EN, or that would disable every way, is discarded whole. -/
def xccCtlWrite (v : Nat) (s : State) : State :=
  if bitOf v 31 && !s.flag XCC_CTL_EN && !s.flag XCC_STAT_INV_CLEAN then s.on XCC_STAT_EN_REFUSED
  else if bits v 0 8 = 255 then s.on XCC_STAT_WAY_REFUSED
  else
    let s1 := wayDisable (bits v 0 8) (if bitOf v 31 then s.on XCC_CTL_EN else cacheDisable s)
    if bitOf v 8 then invAll s1 else s1

/-- A committed unit operation from its staged words (R251). A reserved OP is refused; the manual gives it no RESULT. -/
def segCommit (r : Req) (w1 : Nat) (s : State) : State :=
  let w0 := s.raw ((BUF_SEG_W 0).of r)
  let n := bits w0 16 9 + 1
  let a := bits w1 0 22
  match bits w0 28 4 with
  | 1 => segAlloc r false n a s
  | 2 => segAlloc r true n a s
  | 3 => segNamed r 3 n a (fun x => { x with ref := x.ref + 1 }) s
  | 4 => segNamed r 4 n a BUnit.drop s
  | 5 => segNamed r 5 n a (fun x => { x with dirty := false }) s
  | 6 => segNamed r 6 n a (fun x => { x with dirty := false, ref := x.ref - 1 }) s
  | 7 => segNamed r 7 n a (fun _ => { dirty := true, ref := 1 }) s
  | _ =>
    let p := freeRead 3 (s.set ((BUF_SEG_W 1).of r) w1)
    (p.1.set (BUF_SEG_RESP_RESULT.of r) p.2).on (BUF_SEG_RESP_DONE.of r)

/-- A committed vault command from its staged words (R267). -/
def vltStaged (r : Req) (w3 : Nat) (s : State) : State :=
  let w (i : Nat) : Nat := s.raw ((VLT_CMD_W i).of r)
  vltCommit r (vCmd (bits (w 0) 28 4) (bits (w 0) 0 24) (bits (w 1) 16 12) (bits (w 1) 0 8) (w 2) w3) s

/-- BUF_CTL.EN set: a job that waits for its permit asks for it (R258). -/
def dmaAsk (s : State) : State :=
  if s.flag BUF_CTL_EN && (List.range 32).any (fun c => s.flag (BUF_DMA_CTL_GO c) && 16384 < s.raw (BUF_DMA_LEN_BLOCKS c)) then
    hwAsk 16 (s.raw BUF_CTL_DMA_MA * 10) s
  else s

/-- BUL_CTL.EN set: a renewal that waits within its grant is judged as a renewal; then Bullion walks (R307). -/
def bulEnable (s : State) : State :=
  bulWalk ((List.finRange 24).foldl (fun t k =>
    match (t.bul.slots[k]).grant, (t.bul.slots[k]).wait with
    | some g, some w =>
      if w.i5 ≤ g.i5 && w.i12 ≤ g.i12 && !t.overNamed w.i5 w.i12 && t.bulGrants then
        setWait k none (setGrant k (some { g with endAt := t.ticks + w.dur * 4096 }) (t.on BUL_STAT_GRANT))
      else t
    | _, _ => t) s)

/-- A write of BUL_CTL. -/
def bulCtlWrite (v : Nat) (s : State) : State :=
  let s1 := s.put BUL_CTL_LEASE_EN (bitOf v 8)
  let s2 := if bitOf v 31 && !s.flag BUL_CTL_EN then bulEnable (s1.on BUL_CTL_EN) else s1.put BUL_CTL_EN (bitOf v 31)
  if bitOf v 0 then emergency (s2.emergCauses + 8) s2 else s2

/-- A write of ENG_SEn_CTL. -/
def seCtlWrite (n : Fin 18) (v : Nat) (s : State) : State :=
  let s1 := s.when (bitOf v 31) (engineHalt n)
  let s2 := s1.when (bitOf v 30) (engineResume n)
  let s3 := s2.when (bitOf v 29) (engineSpare n)
  s3.when (bitOf v 28) (engineRetire n)

/-- ENG_ROLEr_IMG takes a core's write while PHASE is 0011b or 0100b, whatever the lock holds (R34, R301). -/
def imgWrite (r : Req) (k v : Nat) (s : State) : State :=
  let act := s.raw HIF_ACT_PHASE == 3 || s.raw HIF_ACT_PHASE == 4
  let core := match r with | .core _ => true | _ => false
  if s.unlocked || (act && core) then s.set (ENG_ROLE_IMG_ADDR k) v else s

/-- A write of RST_CTL. -/
def rstCtlWrite (v : Nat) (s : State) : State :=
  let s1 := coreRelease (bits v 1 3) (s.when (bitOf v 30) faultRelease)
  if bitOf v 31 then devReset 4 s1 else s1

/-- The namespace m that a register of XLT_NS belongs to is enabled (R165). -/
def State.nsLocked (s : State) (m : Nat) : Bool := s.flag (XLT_NS_CFG_EN m)

/-- A token check of SEC_DBG_CTL.GO whose verdict is not an operand: the manual's token is a signature under an unrevoked key,
whose verdict and scope are taken as open values. -/
def tokenCheck (s : State) : State :=
  let p := freeRead 3 s
  debugUnlock (bitOf p.2 0) (p.2 / 2) p.1

/-- A write of SYS, INV, QCH, SPN, SRV and ACT. -/
def regWriteA (r : Req) (d : RegDef) (l : List Nat) (v : Nat) (s : State) : State :=
  let i := l.getD 0 0
  let j := l.getD 1 0
  let w := plainWrite r d l v
  let c2 := unit2 i
  let c4 := unit4 i
  match d.name with
  | .INV_CFG => invCfgWrite v s
  | .INV_SKEW => skewWrite i v s
  | .INV_RING_W => if j = 3 then ringCommit r c2 v s else w s
  | .INV_RING_CANCEL => ringCancel c2 v s
  | .QCH_CTL => quenchHold (bits v 0 2) (swreq (bits v 8 2) s)
  | .QCH_REL => quenchRel (bits v 0 2) s
  | .QCH_TEST =>
    if bitOf v 1 && bitOf v 0 then
      let p := freeRead 6 (w s)
      p.1.set QCH_LAT_NS (p.2 % 33)
    else w s
  | .QCH_RW_POP => s.when (bitOf v 0) (rewritePop c4)
  | .SPN_CTL => spnCtlWrite v s
  | .SPN_SPEED => targetWrite v s
  | .SPN_MOTOR => if s.spnSt = spnOff then w s else spnRefuse s
  | .SPN_J => spnJWrite v s
  | .SRV_CFG =>
    let s1 := if bitOf v 31 then servoEnable c2 s else if s.flag (SRV_CFG_EN i) then servoDisable c2 s else s
    w s1
  | .SRV_HSEL => headSelect c2 v s
  | .SRV_SEEK => if bitOf v 31 then seekGo c2 v s else w s
  | .SRV_COEF_CTL => s.when (bitOf v 0) (coefSwap c2)
  | .SRV_COEF => coefWrite c2 j v s
  | .SRV_PA_CMD => if bitOf v 31 then paCmdGo c2 v s else w s
  | .ACT_CTL => actCmd 1 (bits v 8 3) (actCmd 0 (bits v 0 3) s)
  | _ => w s

/-- A write of WCH, RCH and TPR. -/
def regWriteB (r : Req) (d : RegDef) (l : List Nat) (v : Nat) (s : State) : State :=
  let i := l.getD 0 0
  let j := l.getD 1 0
  let w := plainWrite r d l v
  let c4 := unit4 i
  match d.name with
  | .WCH_CTL =>
    let s1 := (s.put (WCH_CTL_EN i) (bitOf v 31)).set (WCH_CTL_RW_LIM i) (bits v 8 4)
    if bitOf v 0 then s1.on (WCH_CTL_WR_ACTIVE i)
    else if s1.flag (WCH_CTL_WR_ACTIVE i) then wrActiveClear c4 s1 else s1
  | .WCH_FQ_W => if j = 7 then writeDescriptorCommit r c4 v s else w s
  | .WCH_CQ_POP => s.when (bitOf v 0) (modWch c4 fun c => { c with cq := c.cq.tail })
  | .WCH_TP_CTL =>
    let s1 := s.when (bitOf v 0) (wchTpSave c4)
    let s2 := s1.when (bitOf v 1) (wchTpRestore c4)
    s2.when (bitOf v 2) (wchTpClear c4)
  | .RCH_CTL =>
    let en := s.raw (RCH_CTL_EN i)
    rchEnable c4 (bitOf v 31) ((w s).set (RCH_CTL_EN i) en)
  | .RCH_FQ_W => if j = 7 then readDescriptorCommit r c4 v s else w s
  | .RCH_CQ_POP => s.when (bitOf v 0) (modRch c4 fun c => { c with cq := c.cq.tail })
  | .RCH_SEL => if bitOf v 31 then activeSetLoad c4 v s else w s
  | .RCH_SB_PINCTL =>
    if bitOf v 7 && bitOf v 6 then s
    else
      let s1 := (w s).when (bitOf v 7) (pinSlot c4 (bits v 0 6))
      s1.when (bitOf v 6) (unpinSlot c4 (bits v 0 6))
  | .RCH_TP_CTL =>
    let s1 := (w s).when (bitOf v 0) (rchTpSave c4)
    let s2 := s1.when (bitOf v 1) (rchTpRestore c4)
    let s3 := s2.when (bitOf v 2) (rchTpClear c4)
    s3.when (bitOf v 3) (rebuild c4 (bits v 8 6))
  | .RCH_DEC_MAP => decoderRebind v s
  | .RCH_XBAR => xbarWrite (bits v 0 4) s
  | .RCH_DJ_W1 => deepJobCommit r v s
  | .RCH_DJ_CQ_POP => s.when (bitOf v 0) (modDeep fun x => { x with cq := x.cq.tail })
  | .TPR_CTL => let s1 := w s; if bitOf v 31 then s1 else s1.set TPR_STAT_READY 0
  | .TPR_SEL => if bitOf v 31 then tprSend c4 v s else w s
  | _ => w s

/-- A write of XLT, XCC, CMP, HIF, RLT, BUF, MEM and VLT. -/
def regWriteC (r : Req) (d : RegDef) (l : List Nat) (v : Nat) (s : State) : State :=
  let i := l.getD 0 0
  let w := plainWrite r d l v
  match d.name with
  | .XLT_MAP_BASE => if s.flag XLT_CFG_EN then s else w s
  | .XLT_JSEQ => if s.flag XLT_CFG_EN then s else w s
  | .XLT_NS_BASE => if s.nsLocked i then s else w s
  | .XLT_NS_CFG => if s.nsLocked i then s else w s
  | .XLT_LK_W => if i = 3 then lookupCommit r v s else w s
  | .XLT_UPD_ADDR => recordCommit (bits v 0 28) s
  | .XLT_LK_CQ_POP => s.when (bitOf v 0) (modXlt fun x => { x with cq := x.cq.tail })
  | .XCC_CTL => xccCtlWrite v s
  | .XCC_INV_HI => if bitOf v 31 then rangeInvalidate (bits v 0 20) s else w s
  | .XCC_LOCK =>
    if bitOf v 31 then (if bitOf v 30 then lineUnlock (bits v 0 20) s else lineLock (bits v 0 20) s) else w s
  | .CMP_CTL => cmpAbort (bits v 0 2) (cmpControl (bitOf v 31) (bits v 8 2) s)
  | .CMP_JQ_W => if i = 7 then cmpJobCommit r v s else w s
  | .CMP_CQ_POP => s.when (bitOf v 0) fun s => { s with cmp := { s.cmp with cq := s.cmp.cq.tail } }
  | .RLT_CTL => letIn (w s)
  | .BUF_CTL => dmaAsk (w s)
  | .BUF_POOL_BASE => if s.flag BUF_CTL_EN then s else w s
  | .BUF_POOL_UNITS => if s.flag BUF_CTL_EN then s else w s
  | .BUF_CAP_CFG => withCap w s
  | .BUF_SAVE_CFG => withCap w s
  | .BUF_SEG_W => if i = 1 then segCommit r v s else w s
  | .BUF_DMA_CTL => if bitOf v 31 then dmaStart i (bits v 24 2) s else w s
  | .MEM_REPAIR => if bitOf v 31 then rowRepair (bits v 24 6) (bits v 0 16) s else w s
  | .VLT_REGION => withCap w s
  | .VLT_CTL => let s1 := w s; if bitOf v 31 then vltAsk s1 else s1
  | .VLT_CMD_W => if i = 3 then vltStaged r v s else w s
  | .VLT_CQ_POP => s.when (bitOf v 0) (modVlt fun x => { x with cq := x.cq.tail })
  | _ => w s

/-- A write of ENG, BUL, PWR, CLK, THM and CAL. -/
def regWriteD (r : Req) (d : RegDef) (l : List Nat) (v : Nat) (s : State) : State :=
  let i := l.getD 0 0
  let w := plainWrite r d l v
  match d.name with
  | .ENG_CTL =>
    let s1 := s.when s.unlocked fun t => t.put ENG_CTL_AUTO_MIG (bitOf v 0)
    if bitOf v 31 then s1.on ENG_CTL_EN else if s1.flag ENG_CTL_EN then enginesDisable s1 else s1
  | .ENG_MIG => migWrite v s
  | .ENG_SE_CTL => seCtlWrite (Fin.ofNat 18 i) v s
  | .ENG_ROLE_IMG => imgWrite r i (bits v 0 28) s
  | .ENG_ROLE_CTL => s.when (bitOf v 31) (roleStart i)
  | .ENG_ROLE_DB => roleDoorbell i v s
  | .BUL_CTL => bulCtlWrite v s
  | .BUL_BUDGET =>
    if s.unlocked then budgetWrite BUL_BUDGET_I12_MA (bits v 0 12) (budgetWrite BUL_BUDGET_I5_MA (bits v 16 12) s) else s
  | .BUL_RQ_W1 => permitCommit r v s
  | .BUL_STAT =>
    let s1 := (plainWrite r d l (clrBit v 1) s)
    s1.when (bitOf v 1 && s1.flag BUL_STAT_EMERG) emergencyClear
  | .BUL_LEASE_W0 => leaseWrite i v s
  | .PWR_REQ => pwrReqWrite (match r with | .mailbox => putBits v 4 4 8 | _ => v) s
  | .PWR_MON => if s.unlocked then monWrite i v s else s
  | .CLK_MUX => muxWrite (Fin.ofNat 8 i) (bits v 0 3) s
  | .CLK_FORCE => muxForce (bits v 0 8) s
  | .CLK_PLL => pllWrite (unit2 i) (bitOf v 31) (s.when s.unlocked fun t => t.set (CLK_PLL_FREQ_MHZ i) (bits v 0 16))
  | .CLK_CHSYN => if bitOf v 31 then s.on (CLK_CHSYN_EN i) else synthOut (unit4 i) (s.off (CLK_CHSYN_EN i))
  | .CLK_GATE_FORCE => gateForce (bits v 0 24) s
  | .THM_CTL => (w s).when (bitOf v 28) thmResume
  | .CAL_DONE => calDone v s
  | .CAL_ACC_CTL => calAccWrite v s
  | .CAL_APPLY_W1 => calApply r v s
  | _ => w s

/-- A write of ASY, PAT, SLD, SEC and RST. -/
def regWriteE (r : Req) (d : RegDef) (l : List Nat) (v : Nat) (s : State) : State :=
  let i := l.getD 0 0
  let w := plainWrite r d l v
  match d.name with
  | .ASY_CHSUB => chsubWrite (bits v 0 2) s
  | .PAT_OPSEC_HI => opsecWrite (bits v 0 8) s
  | .PAT_SW => patSwWrite v s
  | .SLD_CTL =>
    if bitOf v 31 then portEnable 3 (portEnable 2 (portEnable 1 (portEnable 0 (s.on SLD_CTL_EN))))
    else s.when (s.flag SLD_CTL_EN) sldDisable
  | .SLD_TOPO => if s.flag SLD_CTL_EN then s else w s
  | .SLD_MB_W => if i = 2 then mailboxCommit r v s else w s
  | .SLD_MSG_W => if i = 2 then messageSend r v s else w s
  | .SLD_RXQ_POP => s.when (bitOf v 0) (modSld fun x => { x with rxq := x.rxq.tail })
  | .SLD_CP_W => if i = 3 then copyCommit r v s else w s
  | .SLD_CP_CQ_POP => s.when (bitOf v 0) (modSld fun x => { x with cq := x.cq.tail })
  | .SLD_P_CTL =>
    let s1 := s.put (SLD_P_CTL_PRBS i) (bitOf v 30)
    if bitOf v 31 then portEnable (unit4 i) (s1.on (SLD_P_CTL_EN i))
    else s1.when (s1.flag (SLD_P_CTL_EN i)) (portOff (unit4 i))
  | .SEC_LOCK => s.when (bitOf v 0) configLock
  | .SEC_FUSE_CMD => if bitOf v 31 then fuseCmd (bits v 24 4) (bits v 0 7) s else w s
  | .SEC_VFY_CTL => s.when (bitOf v 31) imageVerify
  | .SEC_ATT_CTL => s.when (bitOf v 31) attStart
  | .SEC_KEY_CMD => if bitOf v 31 then keyCmd (bits v 24 4) (bits v 0 4) s else w s
  | .SEC_DBG_CTL => (w s).when (bitOf v 31) tokenCheck
  | .RST_CTL => rstCtlWrite v s
  | .RST_WDT_KICK => s.when (bitOf v 0) watchdogKick
  | _ => w s

/-- A whole-word write of a register: its access types, and what its chapter makes the write do. -/
def regWrite (r : Req) (d : RegDef) (l : List Nat) (v : Nat) (s : State) : State :=
  if d.base < 0x500000 then regWriteA r d l v s
  else if d.base < 0x800000 then
    (match d.name with
    | .WCH_RZ_W0 => rateZoneWrite (unit2 (l.getD 0 0)) (l.getD 1 0) (l.getD 2 0) 0 v s
    | .WCH_RZ_W1 => rateZoneWrite (unit2 (l.getD 0 0)) (l.getD 1 0) (l.getD 2 0) 1 v s
    | .WCH_RZ_W2 => rateZoneWrite (unit2 (l.getD 0 0)) (l.getD 1 0) (l.getD 2 0) 2 v s
    | .WCH_RZ_W3 => rateZoneWrite (unit2 (l.getD 0 0)) (l.getD 1 0) (l.getD 2 0) 3 v s
    | _ => regWriteB r d l v s)
  else if d.base < 0xD00000 then regWriteC r d l v s
  else if d.base < 0x1000000 then regWriteD r d l v s
  else regWriteE r d l v s

/-- A word written to the control space, apart from what refuses the access: a register, or a control-store window, which takes
the writes of cores, engines and the mailbox (R25, R299). The other windows discard it. -/
def spotWrite (r : Req) (a v : Nat) (s : State) : State :=
  match s.spot a with
  | .reg d l => regWrite r d l v s
  | .code n p w hi => csWindowWrite n p w hi v s
  | _ => s

/-- A write: the state after, and what refused it. A write whose byte enables are not all set is discarded (R9). -/
def busWrite (r : Req) (a v be : Nat) (s : State) : State × Option Nat :=
  match s.accessErr r true a with
  | some e => (accessRefused e r true a s, some e)
  | none => (if be % 16 = 15 then spotWrite r (a / 4 * 4) (v % 2 ^ 32) (wakeBlock a s) else wakeBlock a s, none)

/-! ### Rows 0 to 5 -/

/-- A register with no row of its own is written, as is every other register through its address. -/
def execRegisterWrite (r : Req) (a : BitVec 25) (v : Word) (be : Fin 16) (s : State) : Res :=
  .next (live s fun s => (busWrite r a.toNat v.toNat be.val s).1)

/-- A register is read; its RC fields clear. -/
def execReadClear (r : Req) (a : BitVec 25) (be : Fin 16) (s : State) : Res :=
  .next (live s (readAccess r a.toNat be.val))

/-- INV_NOW_LO (or INV_WALL_LO) is read, which captures all 64 bits for the requester. -/
def execCaptureRead (r : Req) (wall : Bool) (s : State) : Res :=
  .next (live s (readAccess r (if wall then INV_WALL_LO_NS.addr else INV_NOW_LO_STAMP.addr) 15))

/-- An access that `State.accessErr` finds wrong in the way `e`: a read returns zero, a write is discarded. -/
def errorAccess (e : Nat) (r : Req) (wr : Bool) (a : Nat) (s : State) : State :=
  if s.accessErr r wr a = some e then
    let t := accessRefused e r wr a s
    if wr then t else t.emit (.readData r 0)
  else s

def execUnmappedAccess (r : Req) (wr : Bool) (a : BitVec 25) (s : State) : Res :=
  .next (live s (errorAccess errUnmapped r wr a.toNat))

def execBlockDownAccess (r : Req) (wr : Bool) (a : BitVec 25) (s : State) : Res :=
  .next (live s (errorAccess errDown r wr a.toNat))

def execHostAccessRefused (wr : Bool) (a : BitVec 25) (s : State) : Res :=
  .next (live s (errorAccess errDenied .host wr a.toNat))

/-! ### DMA (R258, R259) -/

/-- Read 64 bytes from the internal bus, as core 0 sees it; the words, or none where a word is uncorrectable. -/
def busBlock (a : Nat) : (n : Nat) → State → State × List Nat
  | 0, s => (s, [])
  | n + 1, s =>
    let p := busRead (.core 0) a s
    let q := busBlock (a + 4) n p.1
    (q.1, p.2.1 :: q.2)

/-- Write words to the internal bus, as core 0 does. -/
def busStore (a : Nat) : List Nat → State → State
  | [], s => s
  | v :: t, s => busStore (a + 4) t (busWrite (.core 0) a v 15 s).1

/-- Bytes as little-endian words. -/
def wordsOf : List Byte → List Nat
  | a :: b :: c :: d :: t => leNat [a, b, c, d] :: wordsOf t
  | _ => []

/-- Whether the source block of a copy can be read: its DRAM line, or its control-store words, are correctable. -/
def State.srcOk (s : State) (bus : Bool) (a : Nat) : Bool :=
  if bus then (List.range 16).all fun i =>
    match s.spot (a * 4 + i * 4) with
    | .code n p w _ => !s.eng.se[n].bad.contains (s.csCell n.val w * 3 + p)
    | _ => true
  else s.dramOk (a * 64) 64

/-- What a DMA job moves: its OP, spaces and pattern. -/
structure DmaPlan where
  fill : Bool
  srcBus : Bool
  dstBus : Bool
  pattern : Nat
  deriving DecidableEq, Repr

/-- Move one block; addresses in the units of the register. -/
def dmaBlock (j : DmaPlan) (src dst : Nat) (s : State) : State :=
  let p : State × List Nat :=
    if j.fill then (s, List.replicate 16 j.pattern)
    else if j.srcBus then busBlock (src * 4) 16 s
    else (s, wordsOf (s.dramBytes (src * 64) 64))
  if j.dstBus then busStore (dst * 4) p.2 p.1
  else p.1.dramWrite (dst * 64) (p.2.flatMap fun v => leBytes v 4)

/-- Move `n` blocks; the blocks left where the job halts, and the addresses of the failing block. -/
def dmaMove (j : DmaPlan) : (n src dst : Nat) → State → State × Option (Nat × Nat × Nat)
  | 0, _, _, s => (s, none)
  | n + 1, src, dst, s =>
    if !j.fill && !s.srcOk j.srcBus src then
      (if j.srcBus then s else dramUe rdClient src s, some (n + 1, src, dst))
    else
      dmaMove j n (src + (if j.fill then 0 else if j.srcBus then 16 else 1)) (dst + (if j.dstBus then 16 else 1))
        (dmaBlock j src dst s)

/-- A running job of channel `c` comes to its end. -/
def dmaEnd (c : Nat) (s : State) : State :=
  let n := s.raw (BUF_DMA_LEN_BLOCKS c)
  if s.flag (BUF_DMA_CTL_GO c) && s.flag BUF_CTL_EN && s.stepOn 7 && (n ≤ 16384 || s.granted 16) then
    let fill := s.get (BUF_DMA_CTL_OP c) == 1
    let j : DmaPlan :=
      { fill, srcBus := s.flag (BUF_DMA_SRC_SPACE c), dstBus := s.flag (BUF_DMA_DST_SPACE c)
        pattern := s.pack [BUF_DMA_SRC_SPACE c, BUF_DMA_SRC_RSV28 c, BUF_DMA_SRC_ADDR c] }
    let p := dmaMove j n (s.raw (BUF_DMA_SRC_ADDR c)) (s.raw (BUF_DMA_DST_ADDR c)) s
    let s1 := p.1.off (BUF_DMA_CTL_GO c)
    match p.2 with
    | none => s1.onBit BUF_DMA_DONE_DONE c
    | some (left, src, dst) =>
      patTrig 30 c (((((s1.on (BUF_DMA_CTL_HALTED c)).set (BUF_DMA_SRC_ADDR c) src).set (BUF_DMA_DST_ADDR c) dst).set
        (BUF_DMA_LEN_BLOCKS c) left).on BUF_STAT_DMA_HALT)
  else s

def execDmaJobEnd (c : Fin 32) (s : State) : Res := .next (live s (dmaEnd c.val))

/-! ### The register mailbox, served (R385) -/

/-- Whether R385 denies an access. -/
def State.mbDenied (s : State) (wr : Bool) (a : Nat) : Bool :=
  let blk := (regionOf a).map (·.block)
  if wr then !s.flag SLD_MB_CFG_WR_EN || (match blk with | some i => !s.bit SLD_MB_WMASK_MWE i | none => false)
  else !s.flag SLD_MB_CFG_RD_EN || blk == some 22 || inCsWindow a

/-- Perform a remote access and send its answer. -/
def mailboxServe (p : Fin 4) (src tag : Nat) (wr : Bool) (a v : Nat) (s : State) : State :=
  let answer (st d : Nat) (t : State) : State := sldSend none [t.mkPkt src tag (.mbResp st d)] t
  if s.mbDenied wr a then answer 1 0 (patTrig 59 p.val (s.on SLD_STAT_MB_DENIED))
  else if wr then
    let q := busWrite .mailbox a v 15 s
    answer (if q.2.isSome then 4 else 0) 0 q.1
  else
    let q := busRead .mailbox a s
    answer (if q.2.2.isSome then 4 else 0) q.2.1 q.1

def execMbReq (p : Fin 4) (r : Rx) (src : Fin 512) (tag : BitVec 16) (wr : Bool) (addr : BitVec 25) (data : Word) (s : State) :
    Res :=
  .next (live s (rxDo p r (mailboxServe p src.val tag.toNat wr addr.toNat data.toNat)))

end Sys2Proof.Machine
end

