-- ==== Sys2Proof/Machine/Micro.lean ====
section
/-!
DEFINITION. The microcode of the engines (R276 to R292): the microword, one word of an engine, its levels, staging, drain
queues, interrupts and bus reads. A word runs as one step; the clocks it lasts drain its queues.
-/
namespace Sys2Proof.Machine

/-! ### The microword (R277) -/

/-- A microword by its fields. -/
structure Micro where
  cyc : Nat
  commit : Bool
  ihold : Bool
  seq : Nat
  naddr : Nat
  cond : Nat
  cpol : Bool
  aluop : Nat
  asel : Nat
  bsel : Nat
  bsrc : Nat
  dsel : Nat
  dwe : Nat
  flg : Bool
  imm : Nat
  busop : Nat
  bax : Bool
  baddr : Nat
  men : Bool
  msrc : Nat
  mdst : Nat
  evop : Nat
  evsel : Nat
  lcld : Bool
  lcimm : Nat
  deriving DecidableEq, Repr

/-- The fields of 192 bits. -/
def microOf (v : Nat) : Micro :=
  { cyc := bits v 190 2, commit := bitOf v 189, ihold := bitOf v 188, seq := bits v 184 4, naddr := bits v 171 13
    cond := bits v 165 6, cpol := bitOf v 164, aluop := bits v 160 4, asel := bits v 155 5, bsel := bits v 150 5
    bsrc := bits v 148 2, dsel := bits v 143 5, dwe := bits v 141 2, flg := bitOf v 140, imm := bits v 96 32
    busop := bits v 93 3, bax := bitOf v 92, baddr := bits v 66 23, men := bitOf v 63, msrc := bits v 58 5
    mdst := bits v 53 5, evop := bits v 50 3, evsel := bits v 46 4, lcld := bitOf v 45, lcimm := bits v 29 16 }

/-! ### Levels -/

/-- The interrupt level (true) or the base level of an engine. -/
def Engine.level (e : Engine) (i : Bool) : ELevel := if i then e.int else e.base

/-- Change a level. -/
def modLvl (n : Fin 18) (i : Bool) (f : ELevel → ELevel) (s : State) : State :=
  modSe n (fun e => if i then { e with int := f e.int } else { e with base := f e.base }) s

/-- Whether the interrupt level is active. -/
def State.seInt (s : State) (n : Fin 18) : Bool := s.flag (ENG_SE_STAT_LEVEL n.val)

/-- The role number an engine shows. -/
def State.seRole (s : State) (n : Fin 18) : Fin 16 := Fin.ofNat 16 (s.raw (ENG_SE_STAT_ROLE n.val))

/-- The key of register Gk at a level: G0–G15 have a bank for each level, G16–G31 are shared. -/
def gKey (i : Bool) (k : Nat) : Nat := if i ∧ k < 16 then 32 + k else k

/-- Gk as a level reads it (R288): its own staged value, else the committed one. -/
def Engine.reg (e : Engine) (i : Bool) (k : Nat) : Nat :=
  if k < 16 then tabLook 0 e.g (gKey i k)
  else
    match tabLook none (e.level i).sreg k with
    | some v => v
    | none => tabLook 0 e.g k

/-- A level writes Gk: at once below G16, else staged. -/
def regPut (n : Fin 18) (i : Bool) (k v : Nat) (s : State) : State :=
  if k < 16 then modSe n (fun e => { e with g := tabPut 0 e.g (gKey i k) (v % 2 ^ 32) }) s
  else modLvl n i (fun l => { l with sreg := tabPut none l.sreg k (some (v % 2 ^ 32)) }) s

/-! ### Effects that leave an engine (R284, R289) -/

/-- One committed effect reaches its block. -/
def effDo (r : Fin 16) (e : Eff) (s : State) : State :=
  match e with
  | .write a v => (busWrite (.role r) a v 15 s).1
  | .ack src => if src < 3 then s.offBit (ENG_ROLE_IPEND_PEND r.val) src else s
  | .signal q => roleEdge (q % 16) 2 s
  | .raise core vector => s.emit (.coreIrq (core % 4) (vector % 64))

/-- The oldest entry of a level's drain queue leaves. -/
def drainOne (n : Fin 18) (i : Bool) (s : State) : State :=
  match ((s.eng.se[n]).level i).drain with
  | [] => s
  | e :: t => effDo (s.seRole n) e (modLvl n i (fun l => { l with drain := t }) s)

/-- `k` clocks: each level's queue sends one entry a clock. -/
def drainFor (n : Fin 18) : (k : Nat) → State → State
  | 0, s => s
  | k + 1, s => drainFor n k (drainOne n true (drainOne n false s))

/-- Send `k` entries of one level. -/
def drainLevel (n : Fin 18) (i : Bool) : (k : Nat) → State → State
  | 0, s => s
  | k + 1, s => drainLevel n i k (drainOne n i s)

/-- Everything in both queues leaves. -/
def drainAll (n : Fin 18) (s : State) : State :=
  let s1 := drainLevel n false (s.eng.se[n]).base.drain.length s
  drainLevel n true (s1.eng.se[n]).int.drain.length s1

/-- A role fault of a running word: what is in the drain queues goes out, the rest is discarded (R292). -/
def roleFault (n : Fin 18) (code : Nat) (s : State) : State := seFault n code (drainAll n s)

/-! ### Commit (R289, R290, R291) -/

/-- The staged register values of a level become committed; a value that the base level also holds staged makes it STALE. -/
def commitRegs (n : Fin 18) (i : Bool) (s : State) : State :=
  let e := s.eng.se[n]
  let l := e.level i
  let g := l.sreg.foldl (fun t p => match p.2 with | some v => tabPut 0 t p.1 v | none => t) e.g
  let hit := l.sreg.any fun p => (tabLook none e.base.sreg p.1).isSome
  let s1 := modSe n (fun x => { x with g := g, stale := if i then x.stale || hit else false })
    (modLvl n i (fun l => { l with sreg := [] }) s)
  if i && s.seSt n.val == seRun then
    l.sreg.foldl (fun t p => match p.2 with | some v => t.set (ENG_CTX_G_VALUE (s.seRole n).val p.1) v | none => t) s1
  else s1

/-- A level commits; `next` is the address of the next base word. The word waits until its drain queue has room. -/
def commitLvl (n : Fin 18) (i : Bool) (next : Nat) (s : State) : State :=
  let s1 := commitRegs n i s
  let l := (s1.eng.se[n]).level i
  let s2 := drainLevel n i (l.drain.length + l.staged.length - 32) s1
  let s3 := modLvl n i (fun l => { l with drain := l.drain ++ l.staged, staged := [], gap := 0 }) s2
  if !i && s.seSt n.val == seRun then saveCtx n (s.seRole n) next s3 else s3

/-- Whether a level holds staged effects. -/
def ELevel.holds (l : ELevel) : Bool := !l.staged.isEmpty || !l.sreg.isEmpty

/-! ### Interrupts (R284 to R286) -/

/-- The source that the base level takes at this boundary: the lowest one pending and enabled. A level source whose handler's
writes have not all left is not sampled. -/
def State.irqDue (s : State) (n : Fin 18) : Option Nat :=
  let e := s.eng.se[n]
  let r := (s.seRole n).val
  if s.seSt n.val = seRun ∧ !s.seInt n ∧ !e.lastHold then
    (List.range 16).find? fun k => bitOf (s.ipend r) k && bitOf (s.raw (ENG_ROLE_IEN_EN r)) k &&
      !(e.served == some k && !e.int.drain.isEmpty)
  else none

/-! ### One word -/

/-- Operand B: a register, IMM, BRD, or a special register. -/
def State.operandB (s : State) (n : Fin 18) (i : Bool) (w : Micro) : Nat :=
  let e := s.eng.se[n]
  let l := e.level i
  match w.bsrc with
  | 0 => e.reg i w.bsel
  | 1 => w.imm
  | 2 => l.brd
  | _ =>
    match w.bsel with
    | 0 => l.lc
    | 1 => (s.seRole n).val
    | 2 => n.val
    | 3 => if i then e.cause else 0x1F
    | 4 => s.raw (ENG_ROLE_DB_VALUE (s.seRole n).val)
    | 5 => s.inv.wall % 2 ^ 32
    | 6 => l.flags
    | _ => 0

/-- What the ALU computes (R280): the result with C and V, each present where the manual gives it. -/
def aluOf (op a b c : Nat) : Option Nat × Option Bool × Option Bool :=
  let m := 2 ^ 32
  let ovf (x : Int) : Bool := x < -2147483648 || 2147483647 < x
  let add (k : Nat) : Option Nat × Option Bool × Option Bool :=
    (some ((a + b + k) % m), some (decide (m ≤ a + b + k)), some (ovf (sgn 32 a + sgn 32 b + k)))
  let sub : Option Nat × Option Bool × Option Bool :=
    (some ((a + m - b) % m), none, some (ovf (sgn 32 a - sgn 32 b)))
  match op with
  | 1 => add 0
  | 2 => add c
  | 3 => sub
  | 4 => (some (a &&& b), none, none)
  | 5 => (some (a ||| b), none, none)
  | 6 => (some (a ^^^ b), none, none)
  | 7 => (some (a * 2 ^ (b % 32) % m), none, none)
  | 8 => (some (a / 2 ^ (b % 32)), none, none)
  | 9 => (some (unsgn 32 ((sgn 32 a).fdiv (2 ^ (b % 32)))), none, none)
  | 10 => (some b, none, none)
  | 11 => sub
  | 12 => (some (setBit a (b % 32)), none, none)
  | 13 => (some (clrBit a (b % 32)), none, none)
  | _ => (none, none, none)

/-- The ALU result and the flags (V, C, N, Z in bits 3 to 0) of a word; what the manual does not give is free value `k`, and
the two after it. -/
def aluFlags (k op a b c : Nat) : Nat × Nat :=
  let r := aluOf op a b c
  let v := r.1.getD (Config.freeValue k % 2 ^ 32)
  let cf := r.2.1.getD (bitOf (Config.freeValue (k + 1)) 0)
  let vf := r.2.2.getD (bitOf (Config.freeValue (k + 2)) 0)
  (v, b2n (v == 0) + 2 * (v / 2 ^ 31) + 4 * b2n cf + 8 * b2n vf)

/-- Whether a word's condition holds (R279), the polarity applied. -/
def State.condOf (s : State) (n : Fin 18) (i : Bool) (w : Micro) : Bool :=
  let e := s.eng.se[n]
  let l := e.level i
  let c : Bool :=
    if w.cond = 0 then true
    else if w.cond ≤ 4 then bitOf l.flags ([0, 0, 1, 2, 3].getD w.cond 0)
    else if w.cond = 5 then l.lc == 0
    else if w.cond = 6 then l.reading.isNone
    else if w.cond = 7 then l.rdErr
    else if w.cond = 8 then !i && e.stale
    else if w.cond = 9 then l.holds
    else if w.cond < 16 then false
    else if w.cond < 32 then bitOf (s.ipend (s.seRole n).val) (w.cond - 16)
    else bitOf (e.reg i w.asel) (w.cond - 32)
  c != w.cpol

/-- The address of a bus operation (R283). -/
def State.busAddr (s : State) (n : Fin 18) (i : Bool) (w : Micro) : Nat :=
  (w.baddr * 4 + (if w.bax then (s.eng.se[n]).reg i w.asel else 0)) % 2 ^ 32

/-- The next address and the stack (R278), or the fault the word commits. -/
def State.nextAddr (s : State) (n : Fin 18) (i : Bool) (w : Micro) : Except Nat (Nat × List Nat) :=
  let e := s.eng.se[n]
  let pc := s.raw (ENG_SE_STAT_PC n.val)
  let p1 := (pc + 1) % 8192
  let c := s.condOf n i w
  let push : Except Nat (Nat × List Nat) := if 8 ≤ e.stack.length then .error 3 else .ok (w.naddr, p1 :: e.stack)
  let pop : Except Nat (Nat × List Nat) :=
    match e.stack with
    | [] => .error 4
    | a :: t => .ok (a, t)
  match w.seq with
  | 0 => .ok (p1, e.stack)
  | 1 => .ok (w.naddr, e.stack)
  | 2 => .ok (if c then w.naddr else p1, e.stack)
  | 3 => push
  | 4 => if c then push else .ok (p1, e.stack)
  | 5 => pop
  | 6 => if c then pop else .ok (p1, e.stack)
  | 7 => .ok (w.naddr / 16 * 16 + e.reg i w.asel % 16, e.stack)
  | 8 => .ok (if c then p1 else pc, e.stack)
  | 9 => .ok (if ((e.level i).lc + 65535) % 65536 ≠ 0 then w.naddr else p1, e.stack)
  | 10 => if i then .ok (e.link, e.stack) else .error 9
  | 11 => .ok (p1, e.stack)
  | _ => .error 2

/-- What a word stages: a bus write, then an EVOP action. -/
def State.wordEffects (s : State) (n : Fin 18) (i : Bool) (w : Micro) (res : Nat) : List Eff :=
  let g := (s.eng.se[n]).reg i w.asel
  (if w.busop = 2 then [.write (s.busAddr n i w) res] else if w.busop = 3 then [.write (s.busAddr n i w) w.imm] else []) ++
    (match w.evop with
    | 1 => [.ack w.evsel]
    | 2 => [.signal w.evsel]
    | 3 => [.raise (bits g 6 2) (bits g 0 6)]
    | _ => [])

/-- LC after a word: what its writers leave, and a free value when more than one of them writes. -/
def lcAfter (k lc res : Nat) (w : Micro) : Nat :=
  let l := (if w.dwe = 2 ∧ w.dsel = 0 then [res % 65536] else []) ++ (if w.lcld then [w.lcimm] else []) ++
    (if w.seq = 9 then [(lc + 65535) % 65536] else [])
  match l with
  | [] => lc
  | [v] => v
  | _ => Config.freeValue (k + 3) % 65536

/-- The flags after a word: from the ALU, from DWE, or free when both write them. -/
def flagsAfter (k fl new res : Nat) (w : Micro) : Nat :=
  match w.flg, w.dwe == 2 && w.dsel == 6 with
  | false, false => fl
  | true, false => new
  | false, true => res % 16
  | true, true => Config.freeValue (k + 4) % 16

/-- The staged value that a READ of an address returns, where the level holds one. -/
def ELevel.stagedAt (l : ELevel) (a : Nat) : Option Nat :=
  l.staged.foldl (fun r e => match e with | .write b v => if b / 4 = a / 4 then some v else r | _ => r) none

/-- The register, flag, LC and read effects of a word. -/
def wordRegs (n : Fin 18) (i : Bool) (w : Micro) (res fl : Nat) (s : State) : State :=
  let e := s.eng.se[n]
  let l := e.level i
  let k := s.free
  let s1 := if w.men then regPut n i w.mdst (e.reg i w.msrc) s else s
  let s2 := if w.dwe = 1 ∧ w.aluop ≠ 11 then regPut n i w.dsel res s1 else s1
  let a := s.busAddr n i w
  { modLvl n i (fun x => { x with
      lc := lcAfter k l.lc res w, flags := flagsAfter k l.flags fl res w
      reading := if w.busop = 1 then some (a, l.stagedAt a) else x.reading }) s2 with
    free := s2.free + 5 }

/-- The interrupt level ends (R286): an edge source clears, a level source waits for the handler's writes. -/
def retiDo (n : Fin 18) (s : State) : State :=
  let c := (s.eng.se[n]).cause
  let s1 := modSe n (fun e => { e with cause := 0x1F, iclk := 0, served := if 3 ≤ c then some c else none })
    (s.off (ENG_SE_STAT_LEVEL n.val))
  if c < 3 then s1.offBit (ENG_ROLE_IPEND_PEND (s.seRole n).val) c else s1

/-- `clk` clocks pass for an engine after a word of level `i`: the queues drain, the gaps and the interrupt level's clocks
count. -/
def clocksPass (n : Fin 18) (i : Bool) (clk : Nat) (s : State) : State :=
  let count (l : ELevel) : ELevel := { l with gap := if l.holds then l.gap + clk else 0 }
  drainFor n clk (modSe n (fun e => { e with
    base := count e.base, int := count e.int, iclk := if i then e.iclk + clk else e.iclk }) s)

/-- The limit that an engine has run beyond, as a fault code: the commit gap, the interrupt level, the run of IHOLD words. -/
def State.limitHit (s : State) (n : Fin 18) : Option Nat :=
  let e := s.eng.se[n]
  if s.get ENG_CFG_CGAP * 1024 < e.base.gap then some 6
  else if s.seInt n ∧ s.get ENG_CFG_ILIM * 256 < e.iclk then some 7
  else if s.get ENG_CFG_IHOLD_MAX < e.ihold then some 8
  else none

/-- The word has run: the address moves, the level commits where the word says so, time passes. -/
def wordEnd (n : Fin 18) (i : Bool) (w : Micro) (next : Nat) (stack : List Nat) (s : State) : State :=
  let com := w.commit || w.seq == 10 || w.seq == 11
  let s1 := modSe n (fun e => { e with
    stack, ihold := if i then e.ihold else if w.ihold then e.ihold + 1 else 0, lastHold := w.ihold }) s
  let s2 := if com then commitLvl n i next s1 else s1
  let s3 := if w.seq = 10 then retiDo n s2 else s2
  let s4 := clocksPass n i (w.cyc + 1 + (if w.seq = 10 then 2 else 0)) s3
  match s4.limitHit n with
  | some f => roleFault n f s4
  | none =>
    let s5 := s4.set (ENG_SE_STAT_PC n.val) next
    if w.seq = 11 then setSe n.val seHalted (modSe n (fun e => { e with haltReq := false }) s5)
    else if (s5.eng.se[n]).haltReq && s5.seSt n.val == seRun then seHalt n s5
    else s5

/-- A word of level `i` runs. -/
def wordRun (n : Fin 18) (i : Bool) (w : Micro) (s : State) : State :=
  match s.nextAddr n i w with
  | .error f => roleFault n f s
  | .ok (next, stack) =>
    let e := s.eng.se[n]
    let l := e.level i
    let p := aluFlags s.free w.aluop (e.reg i w.asel) (s.operandB n i w) (bits l.flags 2 1)
    let effs := s.wordEffects n i w p.1
    if 32 < l.staged.length + effs.length then roleFault n 5 s
    else
      wordEnd n i w next stack
        (modLvl n i (fun x => { x with staged := x.staged ++ effs }) (wordRegs n i w p.1 p.2 s))

/-- The word that an engine stands at. -/
def State.wordAtPc (s : State) (n : Fin 18) : Micro := microOf (s.microword n (s.raw (ENG_SE_STAT_PC n.val)))

/-- Whether a word must wait: it names BRD, or issues a read, while a read of its level is outstanding. -/
def State.wordWaits (s : State) (n : Fin 18) (i : Bool) (w : Micro) : Bool :=
  ((s.eng.se[n]).level i).reading.isSome && (w.bsrc == 2 || w.busop == 1)

/-- The word of engine `n` runs, when its SEQ is `seq`. An engine that is not in RUN or TEST, that takes an interrupt first,
or whose word waits for a read, does not run it. A word that is uncorrectable, or whose SEQ is reserved, is a role fault
whatever row meets it. -/
def microStep (n : Fin 18) (seq : Nat) (s : State) : State :=
  let i := s.seInt n
  if !(s.seSt n.val == seRun || s.seSt n.val == seTest) || (s.irqDue n).isSome then s
  else if s.csBad n (s.raw (ENG_SE_STAT_PC n.val)) then
    roleFault n 1 (memUe (15 + n.val) rdEngine (s.raw (ENG_SE_STAT_PC n.val)) s)
  else
    let w := s.wordAtPc n
    if 12 ≤ w.seq then roleFault n 2 s
    else if w.seq ≠ seq ∨ s.wordWaits n i w then s
    else wordRun n i w s

def execNext (n : Fin 18) (s : State) : Res := .next (live s (microStep n 0))
def execJump (n : Fin 18) (s : State) : Res := .next (live s (microStep n 1))
def execBranch (n : Fin 18) (s : State) : Res := .next (live s (microStep n 2))
def execCall (n : Fin 18) (s : State) : Res := .next (live s (microStep n 3))
def execCcall (n : Fin 18) (s : State) : Res := .next (live s (microStep n 4))
def execRet (n : Fin 18) (s : State) : Res := .next (live s (microStep n 5))
def execCret (n : Fin 18) (s : State) : Res := .next (live s (microStep n 6))
def execDispatch (n : Fin 18) (s : State) : Res := .next (live s (microStep n 7))
def execWait (n : Fin 18) (s : State) : Res := .next (live s (microStep n 8))
def execLoop (n : Fin 18) (s : State) : Res := .next (live s (microStep n 9))
def execReti (n : Fin 18) (s : State) : Res := .next (live s (microStep n 10))
def execHalt (n : Fin 18) (s : State) : Res := .next (live s (microStep n 11))

/-! ### Events of an engine -/

/-- The read outstanding at a level returns (R276, R283): after every write already committed, and with the staged value
where the level held one. -/
def readReturn (n : Fin 18) (i : Bool) (s : State) : State :=
  match ((s.eng.se[n]).level i).reading with
  | none => s
  | some (a, st) =>
    let s1 := drainLevel n i ((s.eng.se[n]).level i).drain.length s
    let fin (v : Nat) (bad : Bool) (t : State) : State := modLvl n i (fun l => { l with reading := none, brd := v, rdErr := bad }) t
    match st with
    | some v => fin v false s1
    | none =>
      let p := busRead (.role (s.seRole n)) a s1
      fin p.2.1 p.2.2.isSome p.1

def execBusReadReturn (n : Fin 18) (int : Bool) (s : State) : Res := .next (live s (readReturn n int))

/-- Interrupt entry (R285). -/
def irqEntry (n : Fin 18) (s : State) : State :=
  match s.irqDue n with
  | none => s
  | some k =>
    let s1 := modSe n (fun e => { e with link := s.raw (ENG_SE_STAT_PC n.val), cause := k, iclk := 0 }) s
    clocksPass n false 2 ((s1.on (ENG_SE_STAT_LEVEL n.val)).set (ENG_SE_STAT_PC n.val) k)

def execInterruptEntry (n : Fin 18) (s : State) : Res := .next (live s (irqEntry n))

/-- The base level holds staged effects past its limit. -/
def gapExceeded (n : Fin 18) (s : State) : State :=
  if s.seSt n.val = seRun ∧ (s.eng.se[n]).base.holds then roleFault n 6 s else s

def execCommitGapExceeded (n : Fin 18) (s : State) : Res := .next (live s (gapExceeded n))

/-- The interrupt level has run past its limit. -/
def limitExceeded (n : Fin 18) (s : State) : State :=
  if s.seSt n.val = seRun ∧ s.seInt n then roleFault n 7 s else s

def execInterruptLimitExceeded (n : Fin 18) (s : State) : Res := .next (live s (limitExceeded n))

/-- The source of a planned migration reaches a clean boundary: its drain queues have emptied (R293). -/
def freezeDone (last : Nat) (s : State) : State :=
  match s.engineOf (s.raw ENG_MIG_STAT_ROLE) with
  | some n => migFreeze last (if s.raw ENG_MIG_STAT_PHASE = 2 then drainAll n s else s)
  | none => migFreeze last s

def execMigrationFreeze (last : Nat) (s : State) : Res := .next (live s (freezeDone last))

/-- Every engine's queues drain for `k` clocks. -/
def enginesDrain (k : Nat) (s : State) : State := (List.finRange 18).foldl (fun t n => drainFor n k t) s

end Sys2Proof.Machine
end

