-- ==== Sys2Proof/Machine/Uart.lean ====
section
/-!
DEFINITION. The debug UART (R433, R434): the recovery load of the boot ROM, and the Viarum service protocol while firmware
runs; and the events that no other family holds.
-/
namespace Sys2Proof.Machine

/-! ### Recovery load (R433) -/

/-- A recovery image arrives whole: its CRC is answered, and an image that passes R389 runs. One that fails is named as slot 3
of the boot ROM's slots (SEC_STAT.SLOT 10b) and the ROM listens on. -/
def recoveryImage (crc : Nat) (image : List Byte) (s : State) : State :=
  if crc32c image = crc then
    let b (i : Nat) : Byte := image.getD i 0
    let s1 := s.emit (.uart [0x06])
    if s.imageCheck b = 0 then
      let m : Tab Byte := (image.take 1024).zipIdx.foldl (fun t e => tabPut 0 t e.2 e.1) []
      let s2 := modSec (fun v => { v with run := m }) s1
      { ((s2.set SEC_STAT_SLOT 2).set SEC_STAT_KEY_IDX (imgLe b 6 1)).off SEC_BOOT_TRIAL with
        die := { s2.die with phase := .running }, pd := { s2.pd with safe := false } }
    else patTrig 60 2 (s1.on SEC_STAT_SIG_FAIL)
  else s.emit (.uart [0x15])

/-- A header and its image; the image is as long as the header says. -/
def execRecoveryHeader (len crc : Word) (image : List Byte) (s : State) : Res :=
  .next (s.when (decide (s.die.phase = .rom) && image.length == len.toNat) (recoveryImage crc.toNat image))

/-- A gap of more than 100 ms after `got`, the part of an image received so far, discards it: the ROM listens for a header. -/
def execRecoveryGapTimeout (_got : List Byte) (s : State) : Res := .next s

/-! ### Viarum (R434) -/

/-- STATUS of a reply. -/
abbrev viDone : Nat := 0
/-- Length invalid. -/
abbrev viLen : Nat := 2
/-- Refused. -/
abbrev viRefused : Nat := 3
/-- Unmapped, or block down. -/
abbrev viUnmapped : Nat := 4
/-- The CRC failed. -/
abbrev viCrc : Nat := 5

/-- A reply frame. -/
def viFrame (cmd seq status : Nat) (payload : List Byte) : List Byte :=
  let l := leBytes 0xA5 1 ++ leBytes (cmd + 0x80) 1 ++ leBytes seq 1 ++ leBytes status 1 ++ leBytes payload.length 2 ++ payload
  l ++ leBytes (crc32c l) 4

/-- The reply leaves on DBG_TX. -/
def viReply (cmd seq status : Nat) (payload : List Byte) (s : State) : State := s.emit (.uart (viFrame cmd seq status payload))

/-- A frame is served: one whose CRC fails, or whose payload has no place for the command, is answered so. -/
def viServe (cmd seq : Nat) (crcOk lenOk : Bool) (f : State → State) (s : State) : State :=
  if !crcOk then viReply cmd seq viCrc [] s
  else if !lenOk then viReply cmd seq viLen [] s
  else f s

/-- STATUS for an access that the control space refused. -/
def viStatus (e : Nat) : Nat := if e = 2 then viRefused else viUnmapped

/-- Read words as the host; the words, or the first error. -/
def viRead (a : Nat) : (n : Nat) → State → State × Except Nat (List Byte)
  | 0, s => (s, .ok [])
  | n + 1, s =>
    let p := busRead .host a s
    match p.2.2 with
    | some e => (p.1, .error (viStatus e))
    | none =>
      let q := viRead (a + 4) n p.1
      (q.1, q.2.map fun l => leBytes p.2.1 4 ++ l)

/-- Write words as the host, up to the first error. -/
def viWrite (a : Nat) : List Nat → State → State × Nat
  | [], s => (s, viDone)
  | v :: t, s =>
    let p := busWrite .host a v 15 s
    match p.2 with
    | some e => (p.1, viStatus e)
    | none => viWrite (a + 4) t p.1

/-- READ32: offset and word count. -/
def execRead32 (seq : Byte) (crcOk : Bool) (payload : List Byte) (s : State) : Res :=
  .next (live s fun s =>
    let n := leNat ((payload.drop 4).take 2)
    viServe 1 seq.toNat crcOk (payload.length == 6 && decide (1 ≤ n) && decide (n ≤ 256)) (fun s =>
      let p := viRead (leNat (payload.take 4)) n s
      match p.2 with
      | .ok l => viReply 1 seq.toNat viDone l p.1
      | .error e => viReply 1 seq.toNat e [] p.1) s)

/-- WRITE32: offset and 1 to 255 words. -/
def execWrite32 (seq : Byte) (crcOk : Bool) (payload : List Byte) (s : State) : Res :=
  .next (live s fun s =>
    let n := payload.length
    viServe 2 seq.toNat crcOk (n % 4 == 0 && decide (8 ≤ n) && decide (n ≤ 1024)) (fun s =>
      let p := viWrite (leNat (payload.take 4)) (wordsOf (payload.drop 4)) s
      viReply 2 seq.toNat p.2 [] p.1) s)

/-- PATINA: the first record, newest first, and a count of 1 to 8. -/
def execPatina (seq : Byte) (crcOk : Bool) (payload : List Byte) (s : State) : Res :=
  .next (live s fun s =>
    let n := leNat ((payload.drop 4).take 1)
    viServe 3 seq.toNat crcOk (payload.length == 5 && decide (1 ≤ n) && decide (n ≤ 8)) (fun s =>
      viReply 3 seq.toNat viDone (((s.allRecs.drop (leNat (payload.take 4))).take n).flatMap PRec.bytes) s) s)

/-- The bytes of a page given by its fields; a byte that no field covers is free, numbered from `k`. -/
def fieldBytes (k n : Nat) (fields : List (Nat × Nat × Nat)) : List Byte :=
  (List.range n).map fun i =>
    match fields.find? fun f => f.1 ≤ i && i < f.1 + f.2.1 with
    | some f => BitVec.ofNat 8 (f.2.2 / 256 ^ (i - f.1))
    | none => BitVec.ofNat 8 (Config.freeValue (k + i))

/-- The bytes of a log page of controller `c`; none for a log the Aktan does not have. -/
def State.logBytes (s : State) (c : Fin 2) (lid lsi : Nat) : Option (List Byte) :=
  if lid = 0x01 then some (s.errPage c)
  else if lid = 0xC0 then some (s.frozenPage c lsi)
  else if lid = 0xC1 then some s.patPage
  else if lid = 0x02 ∨ lid = 0x03 then some (fieldBytes s.free 512 (s.fieldPage c lid))
  else if lid = 0x05 ∨ lid = 0xBF then some (fieldBytes s.free 4096 (s.fieldPage c lid))
  else none

/-- LOG: identifier, specific identifier, offset and length, of the log pages of controller `c`. For a log that does not exist
the manual states no STATUS. -/
def execLog (c : Fin 2) (seq : Byte) (crcOk : Bool) (payload : List Byte) (s : State) : Res :=
  .next (live s fun s =>
    let n := leNat ((payload.drop 7).take 2)
    viServe 4 seq.toNat crcOk (payload.length == 9 && decide (n ≤ 1016)) (fun s =>
      match s.logBytes c (leNat (payload.take 1)) (leNat ((payload.drop 1).take 2)) with
      | some l =>
        viReply 4 seq.toNat viDone ((l.drop (leNat ((payload.drop 3).take 4))).take n) { s with free := s.free + 4096 }
      | none =>
        let p := freeRead 8 s
        viReply 4 seq.toNat p.2 [] p.1) s)

/-- A register's word, for the host. -/
def State.wordAt (s : State) (a : Nat) : Nat :=
  match regAt a with
  | some (d, l) => s.regWord .host d l
  | none => 0

/-- INFO. -/
def execInfo (seq : Byte) (crcOk : Bool) (payload : List Byte) (s : State) : Res :=
  .next (live s fun s =>
    viServe 5 seq.toNat crcOk payload.isEmpty (fun s =>
      viReply 5 seq.toNat viDone (leBytes (s.wordAt SYS_ID_PART.addr) 4 ++ leBytes Config.serial 8 ++
        imgBytes (fun i => tabLook 0 s.sec.run i) 8 8 ++ leBytes (s.wordAt PWR_STATE_CUR.addr) 4 ++
        leBytes (s.wordAt RST_CAUSE_LAST.addr) 4) s) s)

/-- A gap of more than 10 ms after `got`, the bytes of a frame received so far, discards the frame. -/
def execViarumGapTimeout (_got : List Byte) (s : State) : Res := .next s

/-! ### Events of single blocks -/

/-- The duty window of R353 ends. -/
def execAssayDutyWindowEnd (s : State) : Res := .next (live s dutyWindow)

/-- A hardware requester renews its grant while it has work (R202). -/
def execHardwarePermitRenewal (k : Fin 24) (s : State) : Res := .next (live s (permitRenew k))

/-- A lane's microactuator output reaches 0 V, and SRV sends what it withheld (R99). -/
def microZero (a l : Fin 2) (s : State) : State :=
  if (s.lane a l).zeroing then framesSettle a ((modLane a l (fun x => { x with zeroing := false }) s).set (maOut a l) 0) else s

def execMicroactuatorAtZero (a l : Fin 2) (s : State) : Res := .next (live s (microZero a l))

/-- A channel synthesizer locks to Invar (R330, R440). -/
def execSynthLock (n : Fin 4) (s : State) : Res := .next (live s (pllLock ⟨n.val + 2, by omega⟩))

/-- TRST# resets the TAP alone (R366): IDCODE stands in its instruction register. -/
def execTapReset (s : State) : Res := .next (s.when s.powered (fun s => { s with pins := { s.pins with tap := 1 } }))

end Sys2Proof.Machine
end

