-- ==== Sys2Proof/Machine/Dispatch.lean ====
section
/-! DEFINITION. One arm for each command: its meaning. -/

namespace Sys2Proof.Machine

def exec (i : Instr) (s : State) : Host.Outcome State Fault Refusal :=
  match i with
  | .registerWrite r a v be => Sys2Proof.Machine.execRegisterWrite r a v be s
  | .readClear r a be => Sys2Proof.Machine.execReadClear r a be s
  | .captureRead r wall => Sys2Proof.Machine.execCaptureRead r wall s
  | .unmappedAccess r wr a => Sys2Proof.Machine.execUnmappedAccess r wr a s
  | .blockDownAccess r wr a => Sys2Proof.Machine.execBlockDownAccess r wr a s
  | .hostAccessRefused wr a => Sys2Proof.Machine.execHostAccessRefused wr a s
  | .accessTimeout r wr addr => Sys2Proof.Machine.execAccessTimeout r wr addr s
  | .powerOn straps dual => Sys2Proof.Machine.execPowerOn straps dual s
  | .sourceStable k => Sys2Proof.Machine.execSourceStable k s
  | .devResetRelease => Sys2Proof.Machine.execDevResetRelease s
  | .coreRelease v => Sys2Proof.Machine.execCoreRelease v s
  | .devrstAssert => Sys2Proof.Machine.execDevrstAssert s
  | .watchdogExpiry stage1 => Sys2Proof.Machine.execWatchdogExpiry stage1 s
  | .watchdogKick => Sys2Proof.Machine.execWatchdogKick s
  | .fatalReset => Sys2Proof.Machine.execFatalReset s
  | .faultRelease => Sys2Proof.Machine.execFaultRelease s
  | .heartbeatToggle => Sys2Proof.Machine.execHeartbeatToggle s
  | .heartbeatLoss => Sys2Proof.Machine.execHeartbeatLoss s
  | .invarEnable => Sys2Proof.Machine.execInvarEnable s
  | .invarDisable => Sys2Proof.Machine.execInvarDisable s
  | .samSearch a l mark chk idx period dev => Sys2Proof.Machine.execSamSearch a l mark chk idx period dev s
  | .headLock a l => Sys2Proof.Machine.execHeadLock a l s
  | .headLockLoss a l => Sys2Proof.Machine.execHeadLockLoss a l s
  | .holdoverExpiry => Sys2Proof.Machine.execHoldoverExpiry s
  | .skewWrite surf v => Sys2Proof.Machine.execSkewWrite surf v s
  | .ringEntryCommit r a w3 => Sys2Proof.Machine.execRingEntryCommit r a w3 s
  | .ringCancel a tag => Sys2Proof.Machine.execRingCancel a tag s
  | .wgOpen a => Sys2Proof.Machine.execWgOpen a s
  | .wgClose a => Sys2Proof.Machine.execWgClose a s
  | .aeOn a => Sys2Proof.Machine.execAeOn a s
  | .aeOff a => Sys2Proof.Machine.execAeOff a s
  | .rgOpen a => Sys2Proof.Machine.execRgOpen a s
  | .rgClose a => Sys2Proof.Machine.execRgClose a s
  | .quietOpen a => Sys2Proof.Machine.execQuietOpen a s
  | .quietOpenDeferred ch => Sys2Proof.Machine.execQuietOpenDeferred ch s
  | .quietClose a => Sys2Proof.Machine.execQuietClose a s
  | .engWake a => Sys2Proof.Machine.execEngWake a s
  | .dmaStart a => Sys2Proof.Machine.execDmaStart a s
  | .coreIrq a => Sys2Proof.Machine.execCoreIrq a s
  | .commut => Sys2Proof.Machine.execCommut s
  | .wallTimerExpiry n => Sys2Proof.Machine.execWallTimerExpiry n s
  | .rewriteOvfClear ch => Sys2Proof.Machine.execRewriteOvfClear ch s
  | .rewritePop ch => Sys2Proof.Machine.execRewritePop ch s
  | .quenchAutoRelease a n => Sys2Proof.Machine.execQuenchAutoRelease a n s
  | .quenchRelease v => Sys2Proof.Machine.execQuenchRelease v s
  | .quenchHold v => Sys2Proof.Machine.execQuenchHold v s
  | .swreq v => Sys2Proof.Machine.execSwreq v s
  | .quenchTestPulse ns => Sys2Proof.Machine.execQuenchTestPulse ns s
  | .cmdStart => Sys2Proof.Machine.execCmdStart s
  | .cmdStop => Sys2Proof.Machine.execCmdStop s
  | .cmdFloat => Sys2Proof.Machine.execCmdFloat s
  | .senseDone fwd low rpm16 => Sys2Proof.Machine.execSenseDone fwd low rpm16 s
  | .brakeDone rpm16 => Sys2Proof.Machine.execBrakeDone rpm16 s
  | .locateAttemptDone rises pos neg => Sys2Proof.Machine.execLocateAttemptDone rises pos neg s
  | .locateRetry => Sys2Proof.Machine.execLocateRetry s
  | .rampTimeout => Sys2Proof.Machine.execRampTimeout s
  | .zeroCrossing ofs rising zero => Sys2Proof.Machine.execZeroCrossing ofs rising zero s
  | .observerLock rpm16 => Sys2Proof.Machine.execObserverLock rpm16 s
  | .observerLockLoss => Sys2Proof.Machine.execObserverLockLoss s
  | .selfTimedCommutation => Sys2Proof.Machine.execSelfTimedCommutation s
  | .speedReached ms => Sys2Proof.Machine.execSpeedReached ms s
  | .coastMeasDone ke drop => Sys2Proof.Machine.execCoastMeasDone ke drop s
  | .speedTargetWrite v => Sys2Proof.Machine.execSpeedTargetWrite v s
  | .slewEntry => Sys2Proof.Machine.execSlewEntry s
  | .reacqTimeout => Sys2Proof.Machine.execReacqTimeout s
  | .reacqBrake => Sys2Proof.Machine.execReacqBrake s
  | .reacqRetractTimeout => Sys2Proof.Machine.execReacqRetractTimeout s
  | .stoppingDone rpm16 => Sys2Proof.Machine.execStoppingDone rpm16 s
  | .rectifyFloor rpm16 => Sys2Proof.Machine.execRectifyFloor rpm16 s
  | .rectifyRecovery => Sys2Proof.Machine.execRectifyRecovery s
  | .holdupUpdate rpm16 => Sys2Proof.Machine.execHoldupUpdate rpm16 s
  | .spnJWrite w => Sys2Proof.Machine.execSpnJWrite w s
  | .spinPermitChange b => Sys2Proof.Machine.execSpinPermitChange b s
  | .servoEnable a => Sys2Proof.Machine.execServoEnable a s
  | .servoDisable a => Sys2Proof.Machine.execServoDisable a s
  | .preampFrameDone a data => Sys2Proof.Machine.execPreampFrameDone a data s
  | .paCmdGo a v => Sys2Proof.Machine.execPaCmdGo a v s
  | .headSelect a v => Sys2Proof.Machine.execHeadSelect a v s
  | .hsSettleDone a l => Sys2Proof.Machine.execHsSettleDone a l s
  | .positionWord a l ba bb bc bd t rro vel ref => Sys2Proof.Machine.execPositionWord a l ba bb bc bd t rro vel ref s
  | .coefSwap a => Sys2Proof.Machine.execCoefSwap a s
  | .leadHandover a => Sys2Proof.Machine.execLeadHandover a s
  | .shockSample x y z r => Sys2Proof.Machine.execShockSample x y z r s
  | .freefallDetect a => Sys2Proof.Machine.execFreefallDetect a s
  | .preampFault a => Sys2Proof.Machine.execPreampFault a s
  | .seekGo a v => Sys2Proof.Machine.execSeekGo a v s
  | .seekGrantTimeout a => Sys2Proof.Machine.execSeekGrantTimeout a s
  | .trajectoryEnd a => Sys2Proof.Machine.execTrajectoryEnd a s
  | .seekSettleDone a => Sys2Proof.Machine.execSeekSettleDone a s
  | .seekSettleTimeout a => Sys2Proof.Machine.execSeekSettleTimeout a s
  | .cmdLoad a => Sys2Proof.Machine.execCmdLoad a s
  | .loadTimeout a => Sys2Proof.Machine.execLoadTimeout a s
  | .cmdUnload a => Sys2Proof.Machine.execCmdUnload a s
  | .unloadPark a => Sys2Proof.Machine.execUnloadPark a s
  | .unloadTimeout a => Sys2Proof.Machine.execUnloadTimeout a s
  | .cmdRetract a => Sys2Proof.Machine.execCmdRetract a s
  | .retractRequest a => Sys2Proof.Machine.execRetractRequest a s
  | .retractHoldStart a => Sys2Proof.Machine.execRetractHoldStart a s
  | .retractDone a => Sys2Proof.Machine.execRetractDone a s
  | .writeDescriptorCommit r ch w7 => Sys2Proof.Machine.execWriteDescriptorCommit r ch w7 s
  | .descriptorReady ch tag => Sys2Proof.Machine.execDescriptorReady ch tag s
  | .wrEndGuard a l => Sys2Proof.Machine.execWrEndGuard a l s
  | .wrActiveSet ch => Sys2Proof.Machine.execWrActiveSet ch s
  | .wrActiveClear ch => Sys2Proof.Machine.execWrActiveClear ch s
  | .writeCompletionPop ch => Sys2Proof.Machine.execWriteCompletionPop ch s
  | .wchTpSave ch => Sys2Proof.Machine.execWchTpSave ch s
  | .wchTpRestore ch => Sys2Proof.Machine.execWchTpRestore ch s
  | .wchTpClear ch => Sys2Proof.Machine.execWchTpClear ch s
  | .rateZoneWrite a h z w v => Sys2Proof.Machine.execRateZoneWrite a h z w v s
  | .tprSend ch v => Sys2Proof.Machine.execTprSend ch v s
  | .readDescriptorCommit r ch w7 => Sys2Proof.Machine.execReadDescriptorCommit r ch w7 s
  | .captureSpanEnd ch tag cover samples m rs run g0 g1 taps ovf => Sys2Proof.Machine.execCaptureSpanEnd ch tag cover samples m rs run g0 g1 taps ovf s
  | .inlineDecodeDone ch run => Sys2Proof.Machine.execInlineDecodeDone ch run s
  | .readCompletionPop ch => Sys2Proof.Machine.execReadCompletionPop ch s
  | .activeSetLoad ch v => Sys2Proof.Machine.execActiveSetLoad ch v s
  | .activeSetCopy ch => Sys2Proof.Machine.execActiveSetCopy ch s
  | .xbarWrite v => Sys2Proof.Machine.execXbarWrite v s
  | .deepJobCommit r w1 => Sys2Proof.Machine.execDeepJobCommit r w1 s
  | .deepJobStart => Sys2Proof.Machine.execDeepJobStart s
  | .deepJobDone d marks screens runs => Sys2Proof.Machine.execDeepJobDone d marks screens runs s
  | .deepCompletionPop => Sys2Proof.Machine.execDeepCompletionPop s
  | .sampleSlotPin ch k => Sys2Proof.Machine.execSampleSlotPin ch k s
  | .sampleSlotUnpin ch k => Sys2Proof.Machine.execSampleSlotUnpin ch k s
  | .rebuild ch k => Sys2Proof.Machine.execRebuild ch k s
  | .rchTpSave ch => Sys2Proof.Machine.execRchTpSave ch s
  | .rchTpRestore ch => Sys2Proof.Machine.execRchTpRestore ch s
  | .rchTpClear ch => Sys2Proof.Machine.execRchTpClear ch s
  | .decoderRebind v => Sys2Proof.Machine.execDecoderRebind v s
  | .retryLadder ch k limited first tries => Sys2Proof.Machine.execRetryLadder ch k limited first tries s
  | .frameRewrite ch tag slot => Sys2Proof.Machine.execFrameRewrite ch tag slot s
  | .lookupCommit r w3 => Sys2Proof.Machine.execLookupCommit r w3 s
  | .lookupDone tag bad => Sys2Proof.Machine.execLookupDone tag bad s
  | .lookupCompletionPop => Sys2Proof.Machine.execLookupCompletionPop s
  | .recordCommit addr => Sys2Proof.Machine.execRecordCommit addr s
  | .recordApplied => Sys2Proof.Machine.execRecordApplied s
  | .invAll => Sys2Proof.Machine.execInvAll s
  | .cacheEnable => Sys2Proof.Machine.execCacheEnable s
  | .rangeInvalidate last => Sys2Proof.Machine.execRangeInvalidate last s
  | .lineLock l => Sys2Proof.Machine.execLineLock l s
  | .lineUnlock l => Sys2Proof.Machine.execLineUnlock l s
  | .wayDisable v => Sys2Proof.Machine.execWayDisable v s
  | .checkpoint => Sys2Proof.Machine.execCheckpoint s
  | .mapRebuild p0 p1 p2 p3 recs images seqs => Sys2Proof.Machine.execMapRebuild p0 p1 p2 p3 recs images seqs s
  | .cleaning addr old new units => Sys2Proof.Machine.execCleaning addr old new units s
  | .compaction ns n m done same srcs addr => Sys2Proof.Machine.execCompaction ns n m done same srcs addr s
  | .sectorRelocation recovered addr old unit => Sys2Proof.Machine.execSectorRelocation recovered addr old unit s
  | .cmpJobCommit r w7 => Sys2Proof.Machine.execCmpJobCommit r w7 s
  | .cmpJobStart e => Sys2Proof.Machine.execCmpJobStart e s
  | .cmpJobDone e => Sys2Proof.Machine.execCmpJobDone e s
  | .cmpAbort v => Sys2Proof.Machine.execCmpAbort v s
  | .cmpDisable en dis => Sys2Proof.Machine.execCmpDisable en dis s
  | .cmpCompletionPop => Sys2Proof.Machine.execCmpCompletionPop s
  | .mmioDoorbell c cq q v => Sys2Proof.Machine.execMmioDoorbell c cq q v s
  | .shadowDoorbellPoll c l => Sys2Proof.Machine.execShadowDoorbellPoll c l s
  | .pollIdleTimeout c => Sys2Proof.Machine.execPollIdleTimeout c s
  | .commandFetch c q e ranges => Sys2Proof.Machine.execCommandFetch c q e ranges s
  | .rltGrant c q n => Sys2Proof.Machine.execRltGrant c q n s
  | .commandCommit c q n vaulted => Sys2Proof.Machine.execCommandCommit c q n vaulted s
  | .cqEntryPost c q => Sys2Proof.Machine.execCqEntryPost c q s
  | .deleteIoSq c n => Sys2Proof.Machine.execDeleteIoSq c n s
  | .createIoSq c n => Sys2Proof.Machine.execCreateIoSq c n s
  | .getLogPage c n => Sys2Proof.Machine.execGetLogPage c n s
  | .deleteIoCq c n => Sys2Proof.Machine.execDeleteIoCq c n s
  | .createIoCq c n => Sys2Proof.Machine.execCreateIoCq c n s
  | .identify c n => Sys2Proof.Machine.execIdentify c n s
  | .abort c n => Sys2Proof.Machine.execAbort c n s
  | .setFeatures c n data => Sys2Proof.Machine.execSetFeatures c n data s
  | .strictErrorMode c n => Sys2Proof.Machine.execStrictErrorMode c n s
  | .assayDuty c n => Sys2Proof.Machine.execAssayDuty c n s
  | .powerManagement c n => Sys2Proof.Machine.execPowerManagement c n s
  | .autonomousPowerStateTransition c n table => Sys2Proof.Machine.execAutonomousPowerStateTransition c n table s
  | .getFeatures c n => Sys2Proof.Machine.execGetFeatures c n s
  | .asynchronousEventRequest c n => Sys2Proof.Machine.execAsynchronousEventRequest c n s
  | .namespaceManagement c n size cap fmt pi base recs => Sys2Proof.Machine.execNamespaceManagement c n size cap fmt pi base recs s
  | .namespaceAttachment c n list => Sys2Proof.Machine.execNamespaceAttachment c n list s
  | .firmwareImageDownload c n data => Sys2Proof.Machine.execFirmwareImageDownload c n data s
  | .fwCommitReplace c n => Sys2Proof.Machine.execFwCommitReplace c n s
  | .fwCommitReplacePending c n => Sys2Proof.Machine.execFwCommitReplacePending c n s
  | .fwCommitPending c n => Sys2Proof.Machine.execFwCommitPending c n s
  | .fwCommitActivate c n => Sys2Proof.Machine.execFwCommitActivate c n s
  | .activationDrainEnd => Sys2Proof.Machine.execActivationDrainEnd s
  | .activationDrainLimit => Sys2Proof.Machine.execActivationDrainLimit s
  | .activationStopEnd => Sys2Proof.Machine.execActivationStopEnd s
  | .activationLoadEnd => Sys2Proof.Machine.execActivationLoadEnd s
  | .activationResume ok => Sys2Proof.Machine.execActivationResume ok s
  | .doorbellBufferConfig c n => Sys2Proof.Machine.execDoorbellBufferConfig c n s
  | .formatNvm c n recs => Sys2Proof.Machine.execFormatNvm c n recs s
  | .formatUserDataErase c n recs => Sys2Proof.Machine.execFormatUserDataErase c n recs s
  | .formatCryptoErase c n recs => Sys2Proof.Machine.execFormatCryptoErase c n recs s
  | .sanitizeCryptoErase c n recs => Sys2Proof.Machine.execSanitizeCryptoErase c n recs s
  | .sanitizeBlockErase c n recs => Sys2Proof.Machine.execSanitizeBlockErase c n recs s
  | .sanitizeOverwrite c n => Sys2Proof.Machine.execSanitizeOverwrite c n s
  | .thawResume c n => Sys2Proof.Machine.execThawResume c n s
  | .thawDiscardHeld c n => Sys2Proof.Machine.execThawDiscardHeld c n s
  | .thawDiscardAll c n cids => Sys2Proof.Machine.execThawDiscardAll c n cids s
  | .enable c n => Sys2Proof.Machine.execEnable c n s
  | .debugToken c n good scope => Sys2Proof.Machine.execDebugToken c n good scope s
  | .attest c n nonce => Sys2Proof.Machine.execAttest c n nonce s
  | .reportReceive c n => Sys2Proof.Machine.execReportReceive c n s
  | .identityReceive c n => Sys2Proof.Machine.execIdentityReceive c n s
  | .keyInfoReceive c n => Sys2Proof.Machine.execKeyInfoReceive c n s
  | .challengeReceive c n => Sys2Proof.Machine.execChallengeReceive c n s
  | .protocolList c n => Sys2Proof.Machine.execProtocolList c n s
  | .flush c q n => Sys2Proof.Machine.execFlush c q n s
  | .write c q n data recs err => Sys2Proof.Machine.execWrite c q n data recs err s
  | .read c q n media err => Sys2Proof.Machine.execRead c q n media err s
  | .writeUncorrectable c q n recs => Sys2Proof.Machine.execWriteUncorrectable c q n recs s
  | .compare c q n media data err => Sys2Proof.Machine.execCompare c q n media data err s
  | .writeZeroes c q n recs => Sys2Proof.Machine.execWriteZeroes c q n recs s
  | .datasetManagement c q n recs => Sys2Proof.Machine.execDatasetManagement c q n recs s
  | .verify c q n media err => Sys2Proof.Machine.execVerify c q n media err s
  | .zoneClose c q n recs => Sys2Proof.Machine.execZoneClose c q n recs s
  | .zoneFinish c q n recs => Sys2Proof.Machine.execZoneFinish c q n recs s
  | .zoneOpen c q n recs => Sys2Proof.Machine.execZoneOpen c q n recs s
  | .zoneReset c q n recs => Sys2Proof.Machine.execZoneReset c q n recs s
  | .zoneOffline c q n recs => Sys2Proof.Machine.execZoneOffline c q n recs s
  | .zoneManagementReceive c q n => Sys2Proof.Machine.execZoneManagementReceive c q n s
  | .zoneAppend c q n data recs err => Sys2Proof.Machine.execZoneAppend c q n data recs err s
  | .controllerEnable c asqs acqs ams => Sys2Proof.Machine.execControllerEnable c asqs acqs ams s
  | .controllerReset c => Sys2Proof.Machine.execControllerReset c s
  | .functionLevelReset c => Sys2Proof.Machine.execFunctionLevelReset c s
  | .normalShutdown c => Sys2Proof.Machine.execNormalShutdown c s
  | .abruptShutdown c => Sys2Proof.Machine.execAbruptShutdown c s
  | .nvmSubsystemReset c => Sys2Proof.Machine.execNvmSubsystemReset c s
  | .perstAssert p => Sys2Proof.Machine.execPerstAssert p s
  | .hotReset p => Sys2Proof.Machine.execHotReset p s
  | .linkTrainingStart p ltssm => Sys2Proof.Machine.execLinkTrainingStart p ltssm s
  | .allocClean r n => Sys2Proof.Machine.execAllocClean r n s
  | .allocDirty r n => Sys2Proof.Machine.execAllocDirty r n s
  | .ref r n addr => Sys2Proof.Machine.execRef r n addr s
  | .unref r n addr => Sys2Proof.Machine.execUnref r n addr s
  | .clean r n addr => Sys2Proof.Machine.execClean r n addr s
  | .cleanUnref r n addr => Sys2Proof.Machine.execCleanUnref r n addr s
  | .restore r n addr => Sys2Proof.Machine.execRestore r n addr s
  | .dmaCopy c => Sys2Proof.Machine.execDmaCopy c s
  | .dmaFill c => Sys2Proof.Machine.execDmaFill c s
  | .dmaJobEnd c => Sys2Proof.Machine.execDmaJobEnd c s
  | .scrubRead ce ue => Sys2Proof.Machine.execScrubRead ce ue s
  | .rowRepair array row => Sys2Proof.Machine.execRowRepair array row s
  | .regionRetire n v => Sys2Proof.Machine.execRegionRetire n v s
  | .vaultReadPage r tag block page data spare => Sys2Proof.Machine.execVaultReadPage r tag block page data spare s
  | .vaultProgramPage r tag block page data spare => Sys2Proof.Machine.execVaultProgramPage r tag block page data spare s
  | .vaultEraseBlock r tag block => Sys2Proof.Machine.execVaultEraseBlock r tag block s
  | .vaultCommandDone tag maxbits failed => Sys2Proof.Machine.execVaultCommandDone tag maxbits failed s
  | .vaultCompletionPop => Sys2Proof.Machine.execVaultCompletionPop s
  | .saveTrailerDone => Sys2Proof.Machine.execSaveTrailerDone s
  | .saveReplay at_ recs lost free => Sys2Proof.Machine.execSaveReplay at_ recs lost free s
  | .next n => Sys2Proof.Machine.execNext n s
  | .jump n => Sys2Proof.Machine.execJump n s
  | .branch n => Sys2Proof.Machine.execBranch n s
  | .call n => Sys2Proof.Machine.execCall n s
  | .ccall n => Sys2Proof.Machine.execCcall n s
  | .ret n => Sys2Proof.Machine.execRet n s
  | .cret n => Sys2Proof.Machine.execCret n s
  | .dispatch n => Sys2Proof.Machine.execDispatch n s
  | .wait n => Sys2Proof.Machine.execWait n s
  | .loop n => Sys2Proof.Machine.execLoop n s
  | .reti n => Sys2Proof.Machine.execReti n s
  | .halt n => Sys2Proof.Machine.execHalt n s
  | .busReadReturn n int => Sys2Proof.Machine.execBusReadReturn n int s
  | .interruptEntry n => Sys2Proof.Machine.execInterruptEntry n s
  | .commitGapExceeded n => Sys2Proof.Machine.execCommitGapExceeded n s
  | .interruptLimitExceeded n => Sys2Proof.Machine.execInterruptLimitExceeded n s
  | .migrationGo v => Sys2Proof.Machine.execMigrationGo v s
  | .migrationPreloadDone last => Sys2Proof.Machine.execMigrationPreloadDone last s
  | .migrationFreeze last => Sys2Proof.Machine.execMigrationFreeze last s
  | .roleStart r => Sys2Proof.Machine.execRoleStart r s
  | .roleLoadDone r => Sys2Proof.Machine.execRoleLoadDone r s
  | .engineHalt n => Sys2Proof.Machine.execEngineHalt n s
  | .engineResume n => Sys2Proof.Machine.execEngineResume n s
  | .engineSpare n => Sys2Proof.Machine.execEngineSpare n s
  | .engineRetire n => Sys2Proof.Machine.execEngineRetire n s
  | .enginesDisable => Sys2Proof.Machine.execEnginesDisable s
  | .roleDoorbell r v => Sys2Proof.Machine.execRoleDoorbell r v s
  | .controlStoreWrite n p w hi v => Sys2Proof.Machine.execControlStoreWrite n p w hi v s
  | .permitRequest r w1 => Sys2Proof.Machine.execPermitRequest r w1 s
  | .permitRelease r k => Sys2Proof.Machine.execPermitRelease r k s
  | .requestDeadline k => Sys2Proof.Machine.execRequestDeadline k s
  | .grantExpiry k => Sys2Proof.Machine.execGrantExpiry k s
  | .permitIdleRelease k => Sys2Proof.Machine.execPermitIdleRelease k s
  | .leaseWrite k w0 w1 => Sys2Proof.Machine.execLeaseWrite k w0 w1 s
  | .leaseEnd k => Sys2Proof.Machine.execLeaseEnd k s
  | .supplyWarning rail => Sys2Proof.Machine.execSupplyWarning rail s
  | .supplyWarningClear => Sys2Proof.Machine.execSupplyWarningClear s
  | .supplyResetLevel rail => Sys2Proof.Machine.execSupplyResetLevel rail s
  | .overCurrent present => Sys2Proof.Machine.execOverCurrent present s
  | .emergencyWrite => Sys2Proof.Machine.execEmergencyWrite s
  | .emergencyClear => Sys2Proof.Machine.execEmergencyClear s
  | .holdupCollapse pages => Sys2Proof.Machine.execHoldupCollapse pages s
  | .powerStateRequest v => Sys2Proof.Machine.execPowerStateRequest v s
  | .powerStepDone => Sys2Proof.Machine.execPowerStepDone s
  | .powerStepRefused cause => Sys2Proof.Machine.execPowerStepRefused cause s
  | .apstIdleTimeout c => Sys2Proof.Machine.execApstIdleTimeout c s
  | .wakeRetry => Sys2Proof.Machine.execWakeRetry s
  | .pllEnable p => Sys2Proof.Machine.execPllEnable p s
  | .pllLock n => Sys2Proof.Machine.execPllLock n s
  | .pllUnlock p => Sys2Proof.Machine.execPllUnlock p s
  | .synthUnlock n => Sys2Proof.Machine.execSynthUnlock n s
  | .monitorWindow k count => Sys2Proof.Machine.execMonitorWindow k count s
  | .clockSwitch d sel => Sys2Proof.Machine.execClockSwitch d sel s
  | .clockSwitchDone d => Sys2Proof.Machine.execClockSwitchDone d s
  | .forcedSwitch v => Sys2Proof.Machine.execForcedSwitch v s
  | .clockGate n => Sys2Proof.Machine.execClockGate n s
  | .gateForce v => Sys2Proof.Machine.execGateForce v s
  | .temperatureConversion t ro => Sys2Proof.Machine.execTemperatureConversion t ro s
  | .thermalResume => Sys2Proof.Machine.execThermalResume s
  | .autoResume => Sys2Proof.Machine.execAutoResume s
  | .calDueEvaluation => Sys2Proof.Machine.execCalDueEvaluation s
  | .calDone v => Sys2Proof.Machine.execCalDone v s
  | .accumulate v => Sys2Proof.Machine.execAccumulate v s
  | .accDone span held => Sys2Proof.Machine.execAccDone span held s
  | .calApply r w1 => Sys2Proof.Machine.execCalApply r w1 s
  | .assayStepStart test unit detail => Sys2Proof.Machine.execAssayStepStart test unit detail s
  | .assayStepDone pass unit detail us => Sys2Proof.Machine.execAssayStepDone pass unit detail us s
  | .assayYield t us => Sys2Proof.Machine.execAssayYield t us s
  | .channelSubstitution v => Sys2Proof.Machine.execChannelSubstitution v s
  | .patinaRecord => Sys2Proof.Machine.execPatinaRecord s
  | .patinaSw detail => Sys2Proof.Machine.execPatinaSw detail s
  | .patinaVaultCopy failed => Sys2Proof.Machine.execPatinaVaultCopy failed s
  | .opsecWrite hi => Sys2Proof.Machine.execOpsecWrite hi s
  | .bypass => Sys2Proof.Machine.execBypass s
  | .idcode => Sys2Proof.Machine.execIdcode s
  | .samplePreload balls => Sys2Proof.Machine.execSamplePreload balls s
  | .extest => Sys2Proof.Machine.execExtest s
  | .clamp => Sys2Proof.Machine.execClamp s
  | .highz => Sys2Proof.Machine.execHighz s
  | .portEnable p => Sys2Proof.Machine.execPortEnable p s
  | .trainLock p => Sys2Proof.Machine.execTrainLock p s
  | .trainTimeout p => Sys2Proof.Machine.execTrainTimeout p s
  | .frameAlign p => Sys2Proof.Machine.execFrameAlign p s
  | .alignTimeout p => Sys2Proof.Machine.execAlignTimeout p s
  | .helloSend p => Sys2Proof.Machine.execHelloSend p s
  | .hello p node port xdimM1 ydimM1 => Sys2Proof.Machine.execHello p node port xdimM1 ydimM1 s
  | .helloTimeout p => Sys2Proof.Machine.execHelloTimeout p s
  | .linkFailure p unc => Sys2Proof.Machine.execLinkFailure p unc s
  | .downRetry p => Sys2Proof.Machine.execDownRetry p s
  | .portDisable p => Sys2Proof.Machine.execPortDisable p s
  | .packetForward p r reserved k => Sys2Proof.Machine.execPacketForward p r reserved k s
  | .lack p r next nak => Sys2Proof.Machine.execLack p r next nak s
  | .lackSend p => Sys2Proof.Machine.execLackSend p s
  | .replayTimeout p => Sys2Proof.Machine.execReplayTimeout p s
  | .data p r src id piece comp last ofs decOk => Sys2Proof.Machine.execData p r src id piece comp last ofs decOk s
  | .copyReq p r src id ns chunk md band => Sys2Proof.Machine.execCopyReq p r src id ns chunk md band s
  | .copyResp p r src id ans data digest => Sys2Proof.Machine.execCopyResp p r src id ans data digest s
  | .copyEnd p r src id digest own addr => Sys2Proof.Machine.execCopyEnd p r src id digest own addr s
  | .leaseReq p r src req ma dur => Sys2Proof.Machine.execLeaseReq p r src req ma dur s
  | .leaseGrant p r src req ma dur k => Sys2Proof.Machine.execLeaseGrant p r src req ma dur k s
  | .leaseDeny p r src req ma dur => Sys2Proof.Machine.execLeaseDeny p r src req ma dur s
  | .mbReq p r src tag wr addr data => Sys2Proof.Machine.execMbReq p r src tag wr addr data s
  | .mbResp p r tag status data => Sys2Proof.Machine.execMbResp p r tag status data s
  | .copyCommit r w3 => Sys2Proof.Machine.execCopyCommit r w3 s
  | .pieceTimeout src id piece => Sys2Proof.Machine.execPieceTimeout src id piece s
  | .copyTimeout src id => Sys2Proof.Machine.execCopyTimeout src id s
  | .copyCompletionPop => Sys2Proof.Machine.execCopyCompletionPop s
  | .mailboxCommit r w2 => Sys2Proof.Machine.execMailboxCommit r w2 s
  | .mailboxTimeout r => Sys2Proof.Machine.execMailboxTimeout r s
  | .messageSend r w2 => Sys2Proof.Machine.execMessageSend r w2 s
  | .rxqPop => Sys2Proof.Machine.execRxqPop s
  | .configLock => Sys2Proof.Machine.execConfigLock s
  | .rollbackAdvance v => Sys2Proof.Machine.execRollbackAdvance v s
  | .keyRevoke v => Sys2Proof.Machine.execKeyRevoke v s
  | .imageVerify => Sys2Proof.Machine.execImageVerify s
  | .activationRecordCommit slot => Sys2Proof.Machine.execActivationRecordCommit slot s
  | .attestationStart => Sys2Proof.Machine.execAttestationStart s
  | .attestationDone => Sys2Proof.Machine.execAttestationDone s
  | .keyGenerate n fail => Sys2Proof.Machine.execKeyGenerate n fail s
  | .keyLoad n bad => Sys2Proof.Machine.execKeyLoad n bad s
  | .keyErase n fail => Sys2Proof.Machine.execKeyErase n fail s
  | .keyUnload n => Sys2Proof.Machine.execKeyUnload n s
  | .debugUnlock good scope => Sys2Proof.Machine.execDebugUnlock good scope s
  | .debugChallenge => Sys2Proof.Machine.execDebugChallenge s
  | .recoveryHeader len crc image => Sys2Proof.Machine.execRecoveryHeader len crc image s
  | .recoveryGapTimeout got => Sys2Proof.Machine.execRecoveryGapTimeout got s
  | .read32 seq crcOk payload => Sys2Proof.Machine.execRead32 seq crcOk payload s
  | .write32 seq crcOk payload => Sys2Proof.Machine.execWrite32 seq crcOk payload s
  | .patina seq crcOk payload => Sys2Proof.Machine.execPatina seq crcOk payload s
  | .log c seq crcOk payload => Sys2Proof.Machine.execLog c seq crcOk payload s
  | .info seq crcOk payload => Sys2Proof.Machine.execInfo seq crcOk payload s
  | .viarumGapTimeout got => Sys2Proof.Machine.execViarumGapTimeout got s
  | .nvmeMiBasic => Sys2Proof.Machine.execNvmeMiBasic s
  | .miStatusUpdate => Sys2Proof.Machine.execMiStatusUpdate s
  | .actledHoldExpiry => Sys2Proof.Machine.execActledHoldExpiry s
  | .assayDutyWindowEnd => Sys2Proof.Machine.execAssayDutyWindowEnd s
  | .hardwarePermitRenewal k => Sys2Proof.Machine.execHardwarePermitRenewal k s
  | .captureSpanStart ch tag => Sys2Proof.Machine.execCaptureSpanStart ch tag s
  | .microactuatorAtZero a l => Sys2Proof.Machine.execMicroactuatorAtZero a l s
  | .synthLock n => Sys2Proof.Machine.execSynthLock n s
  | .pcieLinkUp p speed width ltssm => Sys2Proof.Machine.execPcieLinkUp p speed width ltssm s
  | .tapReset => Sys2Proof.Machine.execTapReset s

end Sys2Proof.Machine
end

