-- ==== Sys2Proof/Machine/Tick.lean ====
section
/-!
DEFINITION. What passes of itself while no command waits: one edge of the 50 MHz wall clock (20 ns), the angle Invar counts in
it with the correction of a running slew (R41), wall-counter time for the counts of R441, the end of holdover (R44), and the
drain queues of the engines (20 cycles of 1 GHz). DESIGN CHOICE: the log's entry on the idle step.
-/
namespace Sys2Proof.Machine

/-- The wedge period in 1/256 ns that a speed gives: a minute holds rpm × WEDGES wedges; 0 when the disk stands. -/
def State.speedPeriod (s : State) (rpm16 : Nat) : Nat := 60 * 1000000000 * 16 * 256 / (rpm16 * s.wedges)

/-- The wedge period angle advances at: the one measured, or until a sync has been measured the one the measured speed
gives. -/
def State.wedgePeriod (s : State) : Nat :=
  if s.raw INV_PERIOD_PERIOD = 0 then s.speedPeriod (s.raw SPN_SPEED_MEAS_RPM16) else s.raw INV_PERIOD_PERIOD

/-- The time of one wall-clock edge, in 1/256 ns × 4,096: divided by a wedge period it is a count of ticks. -/
abbrev edgeUnits : Nat := 20 * 256 * 4096

/-- The whole ticks that an edge completes at wedge period `p`, and the remainder carried to the next edge. -/
def State.edgeTicks (s : State) (p : Nat) : Nat × Nat :=
  if p = 0 then (0, s.inv.frac) else ((s.inv.frac + edgeUnits) / p, (s.inv.frac + edgeUnits) % p)

/-- `n` ticks as a running slew counts them (R41): in 32 ticks it adds or leaves out at most one. -/
def slewTicks (n : Nat) (s : State) : State × Nat :=
  let acc := s.inv.slewAcc + n
  let k := min (acc / 32) s.inv.slew.natAbs
  let fwd : Bool := decide (0 < s.inv.slew)
  let rest : Int := if fwd then s.inv.slew - k else s.inv.slew + k
  ({ s with inv := { s.inv with slew := rest, slewAcc := if s.inv.slew = 0 then 0 else acc % 32 } },
   if fwd then n + k else n - k)

/-- Angle advances by what one edge brings, and every ring entry it reaches fires (R48). -/
def angleEdge (s : State) : State :=
  let e := s.edgeTicks s.wedgePeriod
  let p := slewTicks e.1 { s with inv := { s.inv with frac := e.2 } }
  runTo (stampTicks p.1.wedges p.1.inv.now + p.2) p.1

/-- With no angle source, the counts of R441 run on wall-counter time at the nominal periods of TARGET. -/
def wallEdge (s : State) : State :=
  let e := s.edgeTicks (s.speedPeriod (s.get SPN_SPEED_TARGET))
  wallTicks e.1 { s with inv := { s.inv with frac := e.2 } }

/-- Holdover ends when its count has run out (R44). -/
def holdoverCheck (s : State) : State :=
  if s.raw INV_SRC_SRC = srcHold ∧ s.raw INV_SRC_HOLD_LEFT = 0 then holdoverExpiry s else s

/-- One edge of the wall clock while the main die runs. -/
def tick (s : State) : State :=
  let s1 := { s with inv := { s.inv with wall := s.inv.wall + 20 } }
  let s2 := if s1.raw INV_SRC_SRC = srcNone then wallEdge s1 else angleEdge s1
  enginesDrain 20 (holdoverCheck s2)

/-- What a step does when no command waits. -/
def idle (s : State) : State := live s tick

end Sys2Proof.Machine
end

