-- ==== Sys2Proof/Frames.lean ====
section
/-!
DEFINITION. What each command may change: the register blocks (R24, in units of 512 KiB: 0 SYS, 2 INV, 3 QCH, 4 SPN, 6 and 7 SRV, 8 ACT,
10 WCH, 12 and 13 RCH, 14 TPR, 16 XLT, 17 XCC, 18 CMP, 20 HIF, 21 RLT, 22 BUF, 23 MEM, 24 VLT, 26 ENG, 28 BUL, 29 PWR, 30 CLK and THM, 31 CAL, 40 ASY, 41 PAT, 42 SLD,
44 SEC, 45 RST) and the parts of the state apart from the registers. A command that can let time run, grant permits or write a
register of the bus names all that these can reach.
-/
namespace Sys2Proof.Machine

/-- The parts of the state apart from the queue and the registers, by the name of their field. -/
inductive Part where
  | dram | poison | free | out | die | pd | pins | thm | pwr | buf | clk | cal | asy | pat | bul | inv | qch | spn | srv | act | shock | wch | rch | deep | mem | vlt | xlt | xl1 | cmp | eng | hif | sld | sec
  deriving DecidableEq, Repr

/-- Part `p` is the same in both states. -/
def Part.same : Part → State → State → Prop
  | .dram, s, t => t.dram = s.dram
  | .poison, s, t => t.poison = s.poison
  | .free, s, t => t.free = s.free
  | .out, s, t => t.out = s.out
  | .die, s, t => t.die = s.die
  | .pd, s, t => t.pd = s.pd
  | .pins, s, t => t.pins = s.pins
  | .thm, s, t => t.thm = s.thm
  | .pwr, s, t => t.pwr = s.pwr
  | .buf, s, t => t.buf = s.buf
  | .clk, s, t => t.clk = s.clk
  | .cal, s, t => t.cal = s.cal
  | .asy, s, t => t.asy = s.asy
  | .pat, s, t => t.pat = s.pat
  | .bul, s, t => t.bul = s.bul
  | .inv, s, t => t.inv = s.inv
  | .qch, s, t => t.qch = s.qch
  | .spn, s, t => t.spn = s.spn
  | .srv, s, t => t.srv = s.srv
  | .act, s, t => t.act = s.act
  | .shock, s, t => t.shock = s.shock
  | .wch, s, t => t.wch = s.wch
  | .rch, s, t => t.rch = s.rch
  | .deep, s, t => t.deep = s.deep
  | .mem, s, t => t.mem = s.mem
  | .vlt, s, t => t.vlt = s.vlt
  | .xlt, s, t => t.xlt = s.xlt
  | .xl1, s, t => t.xl1 = s.xl1
  | .cmp, s, t => t.cmp = s.cmp
  | .eng, s, t => t.eng = s.eng
  | .hif, s, t => t.hif = s.hif
  | .sld, s, t => t.sld = s.sld
  | .sec, s, t => t.sec = s.sec

/-- Every part. -/
def Part.all : List Part :=
  [.dram, .poison, .free, .out, .die, .pd, .pins, .thm, .pwr, .buf, .clk, .cal, .asy, .pat, .bul, .inv,
   .qch, .spn, .srv, .act, .shock, .wch, .rch, .deep, .mem, .vlt, .xlt, .xl1, .cmp, .eng, .hif, .sld,
   .sec]

/-- Every register block. -/
def allBlocks : List Nat := List.range 64

/-- The register blocks and the parts of the state that a command may change. -/
def touches : Instr → List Nat × List Part
  | .registerWrite .. => (allBlocks, Part.all)
  | .readClear .. | .captureRead .. => (allBlocks, [.free, .out, .pat, .inv, .sec])
  | .unmappedAccess .. | .blockDownAccess .. | .hostAccessRefused .. => ([0, 41], [.out, .pat])
  | .accessTimeout .. => ([30, 41], [.pat])
  | .powerOn .. => (allBlocks, Part.all)
  | .sourceStable .. => ([2, 30], [.die, .clk])
  | .devResetRelease .. => ([24, 30, 41, 44, 45], [.die, .pd, .pins, .pat, .sec])
  | .coreRelease .. => ([45], [])
  | .devrstAssert .. | .watchdogExpiry .. => (allBlocks, Part.all)
  | .watchdogKick .. => ([45], [])
  | .fatalReset .. => (allBlocks, Part.all)
  | .faultRelease .. => ([], [.pins])
  | .heartbeatToggle .. => ([], [.pd])
  | .heartbeatLoss .. => ([2, 3, 4, 6, 7, 8, 10, 28, 29, 41], [.free, .out, .pd, .pat, .bul, .inv, .qch, .spn, .srv, .act, .wch,
    .sld])
  | .invarEnable .. => ([2], [])
  | .invarDisable .. => ([2, 3, 10, 41], [.free, .pat, .inv, .qch, .wch])
  | .samSearch .. => ([2, 3, 6, 7, 8, 10, 14, 22, 26, 28, 41], [.free, .out, .pat, .bul, .inv, .qch, .spn, .srv, .act, .wch, .sld])
  | .headLock .. => ([2, 3, 6, 7, 8, 10, 14, 22, 26, 28, 41], [.free, .out, .pat, .bul, .inv, .qch, .spn, .srv, .wch, .sld])
  | .headLockLoss .. => ([2, 3, 6, 7, 8, 10, 28, 41], [.free, .out, .pat, .bul, .inv, .qch, .srv, .wch, .sld])
  | .holdoverExpiry .. => ([2, 3, 10, 41], [.free, .pat, .inv, .qch, .wch])
  | .skewWrite .. => ([2], [.inv])
  | .ringEntryCommit .. => ([2, 3, 6, 7, 10, 14, 22, 26, 28, 41], [.out, .pat, .bul, .inv, .qch, .spn, .srv, .wch, .sld])
  | .ringCancel .. => ([2], [.inv])
  | .wgOpen .. => ([2, 3, 6, 7, 10, 14, 41], [.out, .pat, .inv, .qch, .wch])
  | .wgClose .. => ([2, 6, 7, 10], [.inv, .qch, .srv, .wch])
  | .aeOn .. | .aeOff .. => ([2], [.inv, .qch, .wch])
  | .rgOpen .. => ([2], [.inv, .qch])
  | .rgClose .. => ([2, 6, 7], [.inv, .qch, .srv, .wch])
  | .quietOpen .. => ([2], [.inv, .qch])
  | .quietOpenDeferred .. => ([], [.inv])
  | .quietClose .. => ([2], [.inv, .qch])
  | .engWake .. => ([2, 26], [.inv, .qch])
  | .dmaStart .. => ([2, 6, 7, 22, 28], [.out, .bul, .inv, .qch, .sld])
  | .coreIrq .. => ([2], [.out, .inv, .qch])
  | .commut .. => ([2], [.inv, .qch, .spn])
  | .wallTimerExpiry .. => ([2], [.out])
  | .rewriteOvfClear .. => ([3], [])
  | .rewritePop .. => ([], [.qch])
  | .quenchAutoRelease .. | .quenchRelease .. => ([3], [.qch])
  | .quenchHold .. | .swreq .. => ([3, 41], [.pat, .qch, .wch])
  | .quenchTestPulse .. => ([3], [])
  | .cmdStart .. | .cmdStop .. | .cmdFloat .. | .senseDone .. => ([4, 6, 7, 28], [.out, .bul, .spn, .sld])
  | .brakeDone .. | .locateAttemptDone .. => ([4, 6, 7, 28, 41], [.out, .pat, .bul, .spn, .sld])
  | .locateRetry .. => ([], [.spn])
  | .rampTimeout .. => ([4, 6, 7, 28, 41], [.out, .pat, .bul, .spn, .sld])
  | .zeroCrossing .. => ([2], [.spn])
  | .observerLock .. | .observerLockLoss .. => ([2, 3, 4, 6, 7, 10, 28, 41], [.free, .out, .pat, .bul, .inv, .qch, .spn, .wch,
    .sld])
  | .selfTimedCommutation .. => ([4], [.spn])
  | .speedReached .. => ([4, 6, 7, 28], [.out, .bul, .spn, .sld])
  | .coastMeasDone .. | .speedTargetWrite .. => ([4, 6, 7, 22, 28, 41], [.out, .pat, .bul, .spn, .sld])
  | .slewEntry .. => ([4, 6, 7, 28], [.out, .bul, .spn, .sld])
  | .reacqTimeout .. => ([4, 6, 7, 28, 41], [.out, .pat, .bul, .spn, .sld])
  | .reacqBrake .. => ([4, 6, 7, 28], [.out, .bul, .spn, .sld])
  | .reacqRetractTimeout .. => ([2, 3, 6, 7, 8, 10, 28, 41], [.free, .out, .pat, .bul, .inv, .qch, .srv, .act, .wch, .sld])
  | .stoppingDone .. | .rectifyFloor .. | .rectifyRecovery .. => ([4, 6, 7, 28], [.out, .bul, .spn, .sld])
  | .holdupUpdate .. => ([4, 22, 41], [.pat, .spn])
  | .spnJWrite .. => ([4, 22, 41], [.pat])
  | .spinPermitChange .. => ([4, 6, 7, 28, 41], [.out, .pat, .bul, .spn, .sld])
  | .servoEnable .. => ([6, 7], [.srv])
  | .servoDisable .. => ([2, 3, 6, 7, 10, 41], [.free, .pat, .inv, .qch, .srv, .wch])
  | .preampFrameDone .. => ([2, 3, 6, 7, 10, 14, 41], [.free, .pins, .pat, .inv, .qch, .srv, .act, .wch])
  | .paCmdGo .. | .headSelect .. => ([6, 7], [.srv])
  | .hsSettleDone .. => ([], [.srv])
  | .positionWord .. => ([2, 3, 6, 7, 8, 10, 28, 41], [.free, .out, .pat, .bul, .inv, .qch, .srv, .act, .wch, .sld])
  | .coefSwap .. => ([6, 7], [])
  | .leadHandover .. => ([6, 7], [.srv])
  | .shockSample .. => ([3, 6, 7, 41], [.pat, .inv, .qch, .shock, .wch])
  | .freefallDetect .. => ([2, 3, 6, 7, 8, 10, 28, 41], [.free, .out, .pat, .bul, .inv, .qch, .srv, .act, .shock, .wch, .sld])
  | .preampFault .. => ([3, 6, 7, 41], [.pins, .pat, .qch, .srv, .wch])
  | .seekGo .. | .seekGrantTimeout .. => ([6, 7, 28], [.out, .bul, .srv, .sld])
  | .trajectoryEnd .. => ([6, 7], [.srv])
  | .seekSettleDone .. => ([6, 7, 28], [.out, .bul, .sld])
  | .seekSettleTimeout .. => ([6, 7, 28, 41], [.out, .pat, .bul, .sld])
  | .cmdLoad .. | .loadTimeout .. | .cmdUnload .. | .unloadPark .. | .unloadTimeout .. | .cmdRetract .. | .retractRequest .. => ([2,
    3, 6, 7, 8, 10, 28, 41], [.free, .out, .pat, .bul, .inv, .qch, .srv, .act, .wch, .sld])
  | .retractHoldStart .. => ([], [.act])
  | .retractDone .. => ([2, 3, 6, 7, 8, 10, 28, 41], [.free, .out, .pat, .bul, .inv, .qch, .srv, .act, .wch, .sld])
  | .writeDescriptorCommit .. => ([10], [.wch])
  | .descriptorReady .. => ([], [.wch])
  | .wrEndGuard .. => ([6, 7, 10, 41], [.pat, .srv, .wch])
  | .wrActiveSet .. => ([10], [])
  | .wrActiveClear .. => ([10], [.wch])
  | .writeCompletionPop .. => ([], [.wch])
  | .wchTpSave .. => ([10, 23], [.dram, .poison])
  | .wchTpRestore .. | .wchTpClear .. => ([10], [.wch])
  | .rateZoneWrite .. => ([10], [])
  | .tprSend .. => ([6, 7, 14, 41], [.pat, .srv, .wch])
  | .readDescriptorCommit .. => ([12], [.rch])
  | .captureSpanEnd .. => ([12, 41], [.pat, .rch])
  | .inlineDecodeDone .. => ([12, 23], [.dram, .poison, .rch])
  | .readCompletionPop .. => ([], [.rch])
  | .activeSetLoad .. => ([12], [])
  | .activeSetCopy .. => ([12, 13], [.rch])
  | .xbarWrite .. => ([12], [])
  | .deepJobCommit .. => ([6, 7, 12, 28], [.out, .bul, .deep, .sld])
  | .deepJobStart .. => ([6, 7, 28], [.out, .bul, .deep, .sld])
  | .deepJobDone .. => ([6, 7, 12, 23, 28], [.dram, .poison, .out, .bul, .rch, .deep, .sld])
  | .deepCompletionPop .. => ([], [.deep])
  | .sampleSlotPin .. | .sampleSlotUnpin .. => ([12], [.rch])
  | .rebuild .. => ([12, 23], [.dram, .poison, .rch])
  | .rchTpSave .. => ([12, 23], [.dram, .poison])
  | .rchTpRestore .. | .rchTpClear .. => ([12], [.rch])
  | .decoderRebind .. => ([6, 7, 12, 28], [.out, .bul, .deep, .sld])
  | .retryLadder .. => ([41], [.out, .pat, .rch])
  | .frameRewrite .. => ([], [.out, .wch])
  | .lookupCommit .. => ([16], [.xlt])
  | .lookupDone .. => ([16, 17, 23, 41], [.dram, .poison, .free, .buf, .pat, .xlt])
  | .lookupCompletionPop .. => ([], [.xlt])
  | .recordCommit .. => ([16], [.xlt])
  | .recordApplied .. => ([16, 23], [.dram, .poison, .xlt, .xl1])
  | .invAll .. => ([17], [.xlt])
  | .cacheEnable .. => ([17], [])
  | .rangeInvalidate .. => ([17, 41], [.pat, .xlt])
  | .lineLock .. => ([17, 23, 41], [.poison, .pat, .xlt])
  | .lineUnlock .. => ([17], [.xlt])
  | .wayDisable .. => ([17, 41], [.pat, .xlt])
  | .checkpoint .. => ([], [.xl1])
  | .mapRebuild .. => ([16, 17, 23, 41], [.dram, .poison, .pat, .xlt, .xl1])
  | .cleaning .. | .compaction .. | .sectorRelocation .. => ([16, 23], [.dram, .poison, .xlt, .xl1])
  | .cmpJobCommit .. | .cmpJobStart .. => ([6, 7, 18, 28], [.out, .bul, .cmp, .sld])
  | .cmpJobDone .. | .cmpAbort .. | .cmpDisable .. => ([18, 23, 41], [.dram, .poison, .free, .pat, .cmp])
  | .cmpCompletionPop .. => ([], [.cmp])
  | .mmioDoorbell .. | .shadowDoorbellPoll .. => ([2, 3, 4, 6, 7, 8, 10, 12, 14, 20, 22, 28, 29, 30, 41, 42], [.free, .out, .pwr,
    .clk, .pat, .bul, .inv, .qch, .spn, .srv, .act, .wch, .rch, .deep, .xl1, .hif, .sld])
  | .pollIdleTimeout .. => ([20], [.out])
  | .commandFetch .. => ([2, 3, 4, 6, 7, 8, 10, 12, 14, 20, 21, 22, 28, 29, 30, 41, 42], [.free, .out, .pins, .pwr, .clk, .pat,
    .bul, .inv, .qch, .spn, .srv, .act, .wch, .rch, .deep, .xl1, .hif, .sld])
  | .rltGrant .. => ([16, 17, 20, 21, 23, 41], [.poison, .free, .buf, .pat, .xlt, .hif])
  | .commandCommit .. => ([16, 17, 20, 21, 23, 40, 41], [.poison, .free, .out, .pins, .buf, .pat, .xlt, .hif])
  | .cqEntryPost .. => ([], [.out, .hif])
  | .deleteIoSq .. => ([16, 17, 20, 21, 23, 40, 41], [.poison, .free, .out, .pins, .buf, .pat, .xlt, .hif])
  | .createIoSq .. => ([], [.hif])
  | .getLogPage .. => ([], [.out, .hif])
  | .deleteIoCq .. | .createIoCq .. => ([], [.hif])
  | .identify .. => ([], [.out, .hif])
  | .abort .. => ([16, 17, 20, 21, 23, 40, 41], [.poison, .free, .out, .pins, .buf, .pat, .xlt, .hif])
  | .setFeatures .. | .strictErrorMode .. | .assayDuty .. => ([], [.hif])
  | .powerManagement .. => ([2, 3, 4, 6, 7, 8, 10, 12, 14, 22, 28, 29, 30, 41, 42], [.free, .out, .pwr, .clk, .pat, .bul, .inv,
    .qch, .spn, .srv, .act, .wch, .rch, .deep, .xl1, .hif, .sld])
  | .autonomousPowerStateTransition .. => ([], [.hif])
  | .getFeatures .. => ([], [.out, .hif])
  | .asynchronousEventRequest .. => ([], [.hif])
  | .namespaceManagement .. => ([16, 23], [.dram, .poison, .xlt, .xl1, .hif])
  | .namespaceAttachment .. | .firmwareImageDownload .. => ([], [.hif])
  | .fwCommitReplace .. | .fwCommitReplacePending .. | .fwCommitPending .. => ([], [.hif, .sec])
  | .fwCommitActivate .. => ([20], [.hif, .sec])
  | .activationDrainEnd .. => ([20], [])
  | .activationDrainLimit .. => ([16, 17, 20, 21, 23, 40, 41], [.poison, .free, .out, .pins, .buf, .pat, .xlt, .hif])
  | .activationStopEnd .. => ([20, 26], [.eng])
  | .activationLoadEnd .. => ([20], [])
  | .activationResume .. => ([2, 3, 4, 6, 7, 8, 10, 12, 14, 20, 22, 23, 26, 28, 29, 30, 41, 42, 44], [.poison, .free, .out, .pwr,
    .clk, .pat, .bul, .inv, .qch, .spn, .srv, .act, .wch, .rch, .deep, .xl1, .eng, .hif, .sld, .sec])
  | .doorbellBufferConfig .. => ([20], [.hif])
  | .formatNvm .. | .formatUserDataErase .. | .formatCryptoErase .. => ([16, 23, 44], [.dram, .poison, .free, .vlt, .xlt, .xl1,
    .hif, .sec])
  | .sanitizeCryptoErase .. | .sanitizeBlockErase .. => ([16, 22, 23, 24, 41, 44], [.dram, .poison, .free, .buf, .pat, .vlt, .xlt,
    .xl1, .hif, .sec])
  | .sanitizeOverwrite .. | .thawResume .. => ([], [.hif])
  | .thawDiscardHeld .. | .thawDiscardAll .. => ([16, 17, 20, 21, 23, 40, 41], [.poison, .free, .out, .pins, .buf, .pat, .xlt,
    .hif])
  | .enable .. => ([44], [.free, .vlt, .hif, .sec])
  | .debugToken .. => ([44], [.hif, .sec])
  | .attest .. => ([23, 44], [.dram, .poison, .hif, .sec])
  | .reportReceive .. | .identityReceive .. | .keyInfoReceive .. => ([], [.out, .hif])
  | .challengeReceive .. => ([44], [.free, .out, .hif, .sec])
  | .protocolList .. => ([], [.out, .hif])
  | .flush .. => ([], [.hif])
  | .write .. => ([16, 23], [.dram, .poison, .xlt, .xl1, .hif])
  | .read .. => ([], [.out, .hif])
  | .writeUncorrectable .. => ([16, 23], [.dram, .poison, .xlt, .xl1, .hif])
  | .compare .. => ([], [.hif])
  | .writeZeroes .. | .datasetManagement .. => ([16, 23], [.dram, .poison, .xlt, .xl1, .hif])
  | .verify .. => ([], [.hif])
  | .zoneClose .. | .zoneFinish .. | .zoneOpen .. | .zoneReset .. | .zoneOffline .. => ([6, 7, 16, 23, 28, 42], [.dram, .poison,
    .out, .bul, .xlt, .xl1, .hif, .sld])
  | .zoneManagementReceive .. => ([], [.out, .hif])
  | .zoneAppend .. => ([16, 23], [.dram, .poison, .xlt, .xl1, .hif])
  | .controllerEnable .. => ([20], [.hif])
  | .controllerReset .. | .functionLevelReset .. => ([2, 3, 4, 6, 7, 8, 10, 12, 14, 20, 21, 22, 28, 29, 30, 41, 42], [.free, .out,
    .pins, .pwr, .buf, .clk, .pat, .bul, .inv, .qch, .spn, .srv, .act, .wch, .rch, .deep, .xl1, .hif, .sld])
  | .normalShutdown .. | .abruptShutdown .. => ([41], [.pat, .xl1, .hif])
  | .nvmSubsystemReset .. => (allBlocks, Part.all)
  | .perstAssert .. | .hotReset .. => ([20, 21, 45], [.pins, .buf, .hif])
  | .linkTrainingStart .. => ([20, 45], [.pins])
  | .allocClean .. | .allocDirty .. => ([22], [.free, .buf])
  | .ref .. | .unref .. | .clean .. | .cleanUnref .. | .restore .. => ([22], [.buf])
  | .dmaCopy .. | .dmaFill .. => ([6, 7, 22, 28], [.out, .bul, .sld])
  | .dmaJobEnd .. => (allBlocks, Part.all)
  | .scrubRead .. => ([23, 41], [.poison, .pat, .mem])
  | .rowRepair .. => ([23, 41], [.pat, .mem])
  | .regionRetire .. => ([23], [])
  | .vaultReadPage .. | .vaultProgramPage .. | .vaultEraseBlock .. => ([6, 7, 24, 28], [.out, .bul, .vlt, .sld])
  | .vaultCommandDone .. => ([6, 7, 22, 23, 24, 28, 41], [.dram, .poison, .free, .out, .pat, .bul, .vlt, .sld])
  | .vaultCompletionPop .. => ([], [.vlt])
  | .saveTrailerDone .. => (allBlocks, Part.all)
  | .saveReplay .. => ([16, 22, 23, 24, 41], [.dram, .poison, .buf, .pat, .xlt, .xl1])
  | .next .. | .jump .. | .branch .. | .call .. | .ccall .. | .ret .. | .cret .. | .dispatch .. | .wait .. | .loop .. | .reti .. |
    .halt .. | .busReadReturn .. | .interruptEntry .. | .commitGapExceeded .. | .interruptLimitExceeded .. => (allBlocks,
    Part.all)
  | .migrationGo .. => ([26], [.eng])
  | .migrationPreloadDone .. => ([3, 23, 26, 41], [.poison, .pat, .qch, .wch, .eng])
  | .migrationFreeze .. => (allBlocks, Part.all)
  | .roleStart .. => ([26], [])
  | .roleLoadDone .. => ([3, 23, 26, 41], [.poison, .pat, .qch, .wch, .eng])
  | .engineHalt .. => ([26], [.eng])
  | .engineResume .. => ([26], [])
  | .engineSpare .. => ([26], [.eng])
  | .engineRetire .. => ([26], [])
  | .enginesDisable .. => ([26], [.eng])
  | .roleDoorbell .. => ([26], [])
  | .controlStoreWrite .. => ([23, 26], [.eng])
  | .permitRequest .. | .permitRelease .. => ([4, 6, 7, 28, 41], [.out, .pat, .bul, .spn, .sld])
  | .requestDeadline .. => ([2, 3, 6, 7, 10, 14, 22, 26, 28, 41], [.out, .pat, .bul, .inv, .qch, .spn, .srv, .wch, .sld])
  | .grantExpiry .. => ([2, 3, 4, 6, 7, 10, 14, 22, 26, 28, 41], [.out, .pat, .bul, .inv, .qch, .spn, .srv, .wch, .sld])
  | .permitIdleRelease .. | .leaseWrite .. => ([6, 7, 28], [.out, .bul, .sld])
  | .leaseEnd .. => ([6, 7, 28], [.out, .bul, .inv, .sld])
  | .supplyWarning .. => ([28, 29, 41], [.pwr, .pat])
  | .supplyWarningClear .. => ([6, 7, 28], [.out, .die, .pwr, .bul, .sld])
  | .supplyResetLevel .. => ([2, 3, 4, 6, 7, 8, 10, 24, 28, 41, 42], [.free, .out, .die, .pd, .pwr, .pat, .bul, .inv, .qch, .spn,
    .srv, .act, .wch, .vlt, .sld])
  | .overCurrent .. => ([3, 4, 6, 7, 28, 41], [.out, .pwr, .pat, .bul, .qch, .spn, .srv, .wch, .sld])
  | .emergencyWrite .. => ([3, 4, 6, 7, 28, 41], [.out, .pat, .bul, .qch, .spn, .srv, .wch, .sld])
  | .emergencyClear .. => ([6, 7, 28], [.out, .bul, .sld])
  | .holdupCollapse .. => ([], [.die, .pd, .pins, .vlt])
  | .powerStateRequest .. | .powerStepDone .. | .powerStepRefused .. | .apstIdleTimeout .. | .wakeRetry .. => ([2, 3, 4, 6, 7, 8,
    10, 12, 14, 22, 28, 29, 30, 41, 42], [.free, .out, .pwr, .clk, .pat, .bul, .inv, .qch, .spn, .srv, .act, .wch, .rch, .deep,
    .xl1, .hif, .sld])
  | .pllEnable .. => ([30], [])
  | .pllLock .. => ([30], [.qch])
  | .pllUnlock .. => ([30, 41], [.out, .clk, .pat])
  | .synthUnlock .. => ([3, 30, 41], [.pat, .qch, .wch])
  | .monitorWindow .. => ([2, 20, 30, 41], [.out, .clk, .pat])
  | .clockSwitch .. | .clockSwitchDone .. | .forcedSwitch .. => ([30], [.clk])
  | .clockGate .. | .gateForce .. => ([30], [])
  | .temperatureConversion .. => ([2, 3, 4, 6, 7, 8, 10, 12, 14, 22, 24, 28, 29, 30, 41, 42], [.free, .out, .die, .pd, .pins, .thm,
    .pwr, .clk, .pat, .bul, .inv, .qch, .spn, .srv, .act, .wch, .rch, .deep, .vlt, .xl1, .hif, .sld])
  | .thermalResume .. | .autoResume .. => ([2, 3, 4, 6, 7, 8, 10, 12, 14, 22, 28, 29, 30, 41, 42], [.free, .out, .pwr, .clk, .pat,
    .bul, .inv, .qch, .spn, .srv, .act, .wch, .rch, .deep, .xl1, .hif, .sld])
  | .calDueEvaluation .. | .calDone .. => ([31], [])
  | .accumulate .. => ([31], [.cal])
  | .accDone .. => ([31], [.free, .cal])
  | .calApply .. => ([12, 13, 14, 31, 41], [.pat])
  | .assayStepStart .. => ([3, 6, 7, 12, 26, 28, 40, 42], [.out, .asy, .bul, .rch, .deep, .eng, .sld])
  | .assayStepDone .. => ([3, 10, 12, 23, 26, 40, 41], [.asy, .pat, .rch, .mem, .eng])
  | .assayYield .. => ([3, 40, 41], [.asy, .pat, .rch])
  | .channelSubstitution .. => ([10, 12, 40], [])
  | .patinaRecord .. | .patinaSw .. | .patinaVaultCopy .. | .opsecWrite .. => ([41], [.pat])
  | .bypass .. => ([], [.pins])
  | .idcode .. | .samplePreload .. => ([], [.out, .pins])
  | .extest .. | .clamp .. | .highz .. => ([], [.pins])
  | .portEnable .. | .trainLock .. | .trainTimeout .. | .frameAlign .. | .alignTimeout .. => ([42], [])
  | .helloSend .. => ([], [.out])
  | .hello .. => ([42], [.sld])
  | .helloTimeout .. => ([42], [])
  | .linkFailure .. => ([6, 7, 28, 41, 42], [.out, .pat, .bul, .sld])
  | .downRetry .. => ([42], [])
  | .portDisable .. => ([42], [.sld])
  | .packetForward .. => ([6, 7, 28, 42], [.out, .bul, .sld])
  | .lack .. => ([6, 7, 28, 41, 42], [.out, .pat, .bul, .sld])
  | .lackSend .. => ([], [.out, .sld])
  | .replayTimeout .. => ([6, 7, 28, 41, 42], [.out, .pat, .bul, .sld])
  | .data .. => ([6, 7, 28, 42], [.out, .bul, .xl1, .sld])
  | .copyReq .. => ([6, 7, 17, 23, 28, 41, 42], [.poison, .free, .out, .pat, .bul, .xlt, .xl1, .sld])
  | .copyResp .. => ([6, 7, 16, 17, 23, 28, 41, 42], [.poison, .free, .out, .pat, .bul, .xlt, .sld])
  | .copyEnd .. => ([6, 7, 16, 23, 28, 41, 42], [.dram, .poison, .out, .pat, .bul, .xlt, .xl1, .sld])
  | .leaseReq .. => ([42], [.sld])
  | .leaseGrant .. => ([6, 7, 28, 42], [.out, .bul, .sld])
  | .leaseDeny .. => ([42], [.sld])
  | .mbReq .. => (allBlocks, Part.all)
  | .mbResp .. => ([42], [.sld])
  | .copyCommit .. => ([6, 7, 17, 23, 28, 41, 42], [.poison, .free, .out, .pat, .bul, .xlt, .sld])
  | .pieceTimeout .. => ([6, 7, 28, 42], [.out, .bul, .xl1, .sld])
  | .copyTimeout .. => ([42], [.xl1, .sld])
  | .copyCompletionPop .. => ([], [.sld])
  | .mailboxCommit .. => ([6, 7, 28, 42], [.out, .bul, .sld])
  | .mailboxTimeout .. => ([42], [.sld])
  | .messageSend .. => ([6, 7, 28, 42], [.out, .bul, .sld])
  | .rxqPop .. => ([], [.sld])
  | .configLock .. => ([44], [])
  | .rollbackAdvance .. | .keyRevoke .. => ([41, 44], [.pat])
  | .imageVerify .. => ([44], [])
  | .activationRecordCommit .. => ([41, 44], [.pat, .sec])
  | .attestationStart .. => ([44], [.sec])
  | .attestationDone .. => ([23, 44], [.dram, .poison, .sec])
  | .keyGenerate .. => ([44], [.free, .vlt, .sec])
  | .keyLoad .. => ([44], [])
  | .keyErase .. => ([44], [.free, .vlt, .sec])
  | .keyUnload .. => ([44], [])
  | .debugUnlock .. => ([44], [.sec])
  | .debugChallenge .. => ([44], [.free, .sec])
  | .recoveryHeader .. => ([41, 44], [.out, .die, .pd, .pat, .sec])
  | .recoveryGapTimeout .. => ([], [])
  | .read32 .. => (allBlocks, [.free, .out, .pat, .inv, .sec])
  | .write32 .. => (allBlocks, Part.all)
  | .patina .. => ([], [.out])
  | .log .. => ([], [.free, .out])
  | .info .. => ([], [.out])
  | .viarumGapTimeout .. => ([], [])
  | .nvmeMiBasic .. => ([], [.out])
  | .miStatusUpdate .. => ([], [.free, .hif])
  | .actledHoldExpiry .. => ([], [.pins, .inv])
  | .assayDutyWindowEnd .. => ([40], [.asy])
  | .hardwarePermitRenewal .. => ([6, 7, 28], [.out, .bul, .sld])
  | .captureSpanStart .. => ([], [.rch])
  | .microactuatorAtZero .. => ([6, 7, 8], [.srv, .wch])
  | .synthLock .. => ([30], [.qch])
  | .pcieLinkUp .. => ([20], [.hif])
  | .tapReset .. => ([], [.pins])

/-- From `s` to `t` a command changed no register block and no part of the state that it does not name, and left the queue alone. -/
def Framed (i : Instr) (s t : State) : Prop :=
  t.pending = s.pending ∧ (∀ f : Fld, f.blk ∉ (touches i).1 → t.raw f = s.raw f) ∧ (∀ p : Part, p ∉ (touches i).2 → p.same s t)

/-- Whether a command can act while the main die does not run (R439): resets and supplies, the power die (R15, R70, R107), the boot
ROM (R433), Patina during a save (R359), and the TAP (R366). -/
def actsAtRest : Instr → Bool
  | .registerWrite .. | .readClear .. | .captureRead .. | .unmappedAccess .. | .blockDownAccess .. | .hostAccessRefused .. |
    .accessTimeout .. => false
  | .powerOn .. | .sourceStable .. | .devResetRelease .. => true
  | .coreRelease .. => false
  | .devrstAssert .. | .watchdogExpiry .. => true
  | .watchdogKick .. | .fatalReset .. | .faultRelease .. => false
  | .heartbeatToggle .. | .heartbeatLoss .. => true
  | .invarEnable .. | .invarDisable .. | .samSearch .. | .headLock .. | .headLockLoss .. | .holdoverExpiry .. | .skewWrite .. |
    .ringEntryCommit .. | .ringCancel .. | .wgOpen .. | .wgClose .. | .aeOn .. | .aeOff .. | .rgOpen .. | .rgClose .. | .quietOpen
    .. | .quietOpenDeferred .. | .quietClose .. | .engWake .. | .dmaStart .. | .coreIrq .. | .commut .. | .wallTimerExpiry .. |
    .rewriteOvfClear .. | .rewritePop .. | .quenchAutoRelease .. | .quenchRelease .. | .quenchHold .. | .swreq .. |
    .quenchTestPulse .. | .cmdStart .. | .cmdStop .. | .cmdFloat .. | .senseDone .. | .brakeDone .. | .locateAttemptDone .. |
    .locateRetry .. | .rampTimeout .. | .zeroCrossing .. | .observerLock .. | .observerLockLoss .. | .selfTimedCommutation .. |
    .speedReached .. | .coastMeasDone .. | .speedTargetWrite .. | .slewEntry .. | .reacqTimeout .. | .reacqBrake .. |
    .reacqRetractTimeout .. | .stoppingDone .. => false
  | .rectifyFloor .. | .rectifyRecovery .. => true
  | .holdupUpdate .. | .spnJWrite .. | .spinPermitChange .. | .servoEnable .. | .servoDisable .. | .preampFrameDone .. | .paCmdGo ..
    | .headSelect .. | .hsSettleDone .. | .positionWord .. | .coefSwap .. | .leadHandover .. | .shockSample .. | .freefallDetect
    .. | .preampFault .. | .seekGo .. | .seekGrantTimeout .. | .trajectoryEnd .. | .seekSettleDone .. | .seekSettleTimeout .. |
    .cmdLoad .. | .loadTimeout .. | .cmdUnload .. | .unloadPark .. | .unloadTimeout .. | .cmdRetract .. => false
  | .retractRequest .. | .retractHoldStart .. | .retractDone .. => true
  | .writeDescriptorCommit .. | .descriptorReady .. | .wrEndGuard .. | .wrActiveSet .. | .wrActiveClear .. | .writeCompletionPop ..
    | .wchTpSave .. | .wchTpRestore .. | .wchTpClear .. | .rateZoneWrite .. | .tprSend .. | .readDescriptorCommit .. |
    .captureSpanEnd .. | .inlineDecodeDone .. | .readCompletionPop .. | .activeSetLoad .. | .activeSetCopy .. | .xbarWrite .. |
    .deepJobCommit .. | .deepJobStart .. | .deepJobDone .. | .deepCompletionPop .. | .sampleSlotPin .. | .sampleSlotUnpin .. |
    .rebuild .. | .rchTpSave .. | .rchTpRestore .. | .rchTpClear .. | .decoderRebind .. | .retryLadder .. | .frameRewrite .. |
    .lookupCommit .. | .lookupDone .. | .lookupCompletionPop .. | .recordCommit .. | .recordApplied .. | .invAll .. | .cacheEnable
    .. | .rangeInvalidate .. | .lineLock .. | .lineUnlock .. | .wayDisable .. | .checkpoint .. | .mapRebuild .. | .cleaning .. |
    .compaction .. | .sectorRelocation .. | .cmpJobCommit .. | .cmpJobStart .. | .cmpJobDone .. | .cmpAbort .. | .cmpDisable .. |
    .cmpCompletionPop .. | .mmioDoorbell .. | .shadowDoorbellPoll .. | .pollIdleTimeout .. | .commandFetch .. | .rltGrant .. |
    .commandCommit .. | .cqEntryPost .. | .deleteIoSq .. | .createIoSq .. | .getLogPage .. | .deleteIoCq .. | .createIoCq .. |
    .identify .. | .abort .. | .setFeatures .. | .strictErrorMode .. | .assayDuty .. | .powerManagement .. |
    .autonomousPowerStateTransition .. | .getFeatures .. | .asynchronousEventRequest .. | .namespaceManagement .. |
    .namespaceAttachment .. | .firmwareImageDownload .. | .fwCommitReplace .. | .fwCommitReplacePending .. | .fwCommitPending .. |
    .fwCommitActivate .. | .activationDrainEnd .. | .activationDrainLimit .. | .activationStopEnd .. | .activationLoadEnd .. |
    .activationResume .. | .doorbellBufferConfig .. | .formatNvm .. | .formatUserDataErase .. | .formatCryptoErase .. |
    .sanitizeCryptoErase .. | .sanitizeBlockErase .. | .sanitizeOverwrite .. | .thawResume .. | .thawDiscardHeld .. |
    .thawDiscardAll .. | .enable .. | .debugToken .. | .attest .. | .reportReceive .. | .identityReceive .. | .keyInfoReceive .. |
    .challengeReceive .. | .protocolList .. | .flush .. | .write .. | .read .. | .writeUncorrectable .. | .compare .. |
    .writeZeroes .. | .datasetManagement .. | .verify .. | .zoneClose .. | .zoneFinish .. | .zoneOpen .. | .zoneReset .. |
    .zoneOffline .. | .zoneManagementReceive .. | .zoneAppend .. | .controllerEnable .. | .controllerReset .. |
    .functionLevelReset .. | .normalShutdown .. | .abruptShutdown .. | .nvmSubsystemReset .. | .perstAssert .. | .hotReset .. |
    .linkTrainingStart .. | .allocClean .. | .allocDirty .. | .ref .. | .unref .. | .clean .. | .cleanUnref .. | .restore .. |
    .dmaCopy .. | .dmaFill .. | .dmaJobEnd .. | .scrubRead .. | .rowRepair .. | .regionRetire .. | .vaultReadPage .. |
    .vaultProgramPage .. | .vaultEraseBlock .. | .vaultCommandDone .. | .vaultCompletionPop .. => false
  | .saveTrailerDone .. => true
  | .saveReplay .. | .next .. | .jump .. | .branch .. | .call .. | .ccall .. | .ret .. | .cret .. | .dispatch .. | .wait .. | .loop
    .. | .reti .. | .halt .. | .busReadReturn .. | .interruptEntry .. | .commitGapExceeded .. | .interruptLimitExceeded .. |
    .migrationGo .. | .migrationPreloadDone .. | .migrationFreeze .. | .roleStart .. | .roleLoadDone .. | .engineHalt .. |
    .engineResume .. | .engineSpare .. | .engineRetire .. | .enginesDisable .. | .roleDoorbell .. | .controlStoreWrite .. |
    .permitRequest .. | .permitRelease .. | .requestDeadline .. | .grantExpiry .. | .permitIdleRelease .. | .leaseWrite .. |
    .leaseEnd .. => false
  | .supplyWarning .. | .supplyWarningClear .. | .supplyResetLevel .. => true
  | .overCurrent .. | .emergencyWrite .. | .emergencyClear .. => false
  | .holdupCollapse .. => true
  | .powerStateRequest .. | .powerStepDone .. | .powerStepRefused .. | .apstIdleTimeout .. | .wakeRetry .. | .pllEnable .. |
    .pllLock .. | .pllUnlock .. | .synthUnlock .. | .monitorWindow .. | .clockSwitch .. | .clockSwitchDone .. | .forcedSwitch .. |
    .clockGate .. | .gateForce .. | .temperatureConversion .. | .thermalResume .. | .autoResume .. | .calDueEvaluation .. |
    .calDone .. | .accumulate .. | .accDone .. | .calApply .. | .assayStepStart .. | .assayStepDone .. | .assayYield .. |
    .channelSubstitution .. => false
  | .patinaRecord .. => true
  | .patinaSw .. | .patinaVaultCopy .. | .opsecWrite .. => false
  | .bypass .. | .idcode .. | .samplePreload .. | .extest .. | .clamp .. | .highz .. => true
  | .portEnable .. | .trainLock .. | .trainTimeout .. | .frameAlign .. | .alignTimeout .. | .helloSend .. | .hello .. |
    .helloTimeout .. | .linkFailure .. | .downRetry .. | .portDisable .. | .packetForward .. | .lack .. | .lackSend .. |
    .replayTimeout .. | .data .. | .copyReq .. | .copyResp .. | .copyEnd .. | .leaseReq .. | .leaseGrant .. | .leaseDeny .. |
    .mbReq .. | .mbResp .. | .copyCommit .. | .pieceTimeout .. | .copyTimeout .. | .copyCompletionPop .. | .mailboxCommit .. |
    .mailboxTimeout .. | .messageSend .. | .rxqPop .. | .configLock .. | .rollbackAdvance .. | .keyRevoke .. | .imageVerify .. |
    .activationRecordCommit .. | .attestationStart .. | .attestationDone .. | .keyGenerate .. | .keyLoad .. | .keyErase .. |
    .keyUnload .. | .debugUnlock .. | .debugChallenge .. => false
  | .recoveryHeader .. | .recoveryGapTimeout .. => true
  | .read32 .. | .write32 .. | .patina .. | .log .. | .info .. => false
  | .viarumGapTimeout .. => true
  | .nvmeMiBasic .. | .miStatusUpdate .. | .actledHoldExpiry .. | .assayDutyWindowEnd .. | .hardwarePermitRenewal .. |
    .captureSpanStart .. | .microactuatorAtZero .. | .synthLock .. | .pcieLinkUp .. => false
  | .tapReset .. => true

end Sys2Proof.Machine
end

