-- ==== Sys2Proof/WellFormed.lean ====
section
/-!
DEFINITION. The form of a command, beyond what its operand types say: every number fits the field, the wire or the count that
carries it. A meaning is total: it cuts a number that does not fit, so the check is for whoever sends commands.
-/
namespace Sys2Proof

/-- A number of at most `n` bits. -/
def fits (n v : Nat) : Bool := decide (v < 2 ^ n)

/-- Every number of a list fits. -/
def allFit (n : Nat) (l : List Nat) : Bool := l.all (fits n)

/-- A number that may be absent fits. -/
def optFits (n : Nat) : Option Nat → Bool
  | none => true
  | some v => fits n v

/-- A received packet's LSEQ is an 8-bit number, and the symbols corrected fit their counter. -/
def Rx.wf (r : Rx) : Bool := fits 8 r.lseq && fits 16 r.corr

/-- A submission entry's fields have NVMe's widths: an 8-bit opcode and flag byte, a 16-bit CID, and 32-bit words. -/
def Sqe.wf (e : Sqe) : Bool :=
  fits 8 e.opc && fits 8 e.flags && fits 16 e.cid && fits 32 e.nsid && fits 32 e.d10 && fits 32 e.d11 && fits 32 e.d12 &&
  fits 32 e.d13 && fits 32 e.d14 && fits 32 e.d15

/-- The information part of a frame has 33,024 bits (R112). -/
def DecRun.wf (d : DecRun) : Bool := fits 33024 d.info && d.us.all (allFit 16)

/-- A completion's STATUS has 3 bits. -/
def LadderTry.wf (t : LadderTry) : Bool := fits 3 t.status && fits 16 t.u

/-- A chunk has 32 pieces (R378). -/
def CopyAns.wf : CopyAns → Bool
  | .pieceOk p | .resend p => fits 5 p
  | .accept | .refused | .done | .mismatch | .aborted | .unreach => true

/-- The fields of a packet's body have the widths of its flits (R370). -/
def Body.wf : Body → Bool
  | .data id piece _ _ ofs flits => fits 8 id && fits 5 piece && fits 16 ofs && allFit 512 flits
  | .copyReq id ns chunk md => fits 8 id && fits 8 ns && fits 19 chunk && fits 8 md
  | .copyResp id ans => fits 8 id && ans.wf
  | .copyEnd id digest => fits 8 id && fits 256 digest
  | .lease type req ma dur => fits 8 type && fits 8 req && fits 12 ma && fits 16 dur
  | .mbReq _ addr v => fits 25 addr && fits 32 v
  | .mbResp status v => fits 8 status && fits 32 v

/-- Nodes have 9 bits, VC 2 and TAG 16. -/
def Pkt.wf (k : Pkt) : Bool := fits 9 k.dst && fits 9 k.src && fits 2 k.vc && fits 16 k.tag && k.body.wf

/-- The offset of an unrecovered sector lies in its command. -/
def HostErr.wf : HostErr → Bool
  | .unrec o => fits 32 o
  | .none | .xfer | .internal | .guard | .app | .ref => true

/-- Whether a command is well formed. -/
def Instr.wf : Instr → Bool
  | .registerWrite _ _ _ _ => true
  | .readClear _ _ _ => true
  | .captureRead _ _ => true
  | .unmappedAccess _ _ _ => true
  | .blockDownAccess _ _ _ => true
  | .hostAccessRefused _ _ => true
  | .accessTimeout _ _ _ => true
  | .powerOn _ _ => true
  | .sourceStable _ => true
  | .devResetRelease => true
  | .coreRelease _ => true
  | .devrstAssert => true
  | .watchdogExpiry _ => true
  | .watchdogKick => true
  | .fatalReset => true
  | .faultRelease => true
  | .heartbeatToggle => true
  | .heartbeatLoss => true
  | .invarEnable => true
  | .invarDisable => true
  | .samSearch _ _ _ _ idx period _ => fits 10 idx && fits 32 period
  | .headLock _ _ => true
  | .headLockLoss _ _ => true
  | .holdoverExpiry => true
  | .skewWrite _ _ => true
  | .ringEntryCommit _ _ _ => true
  | .ringCancel _ tag => fits 24 tag
  | .wgOpen _ => true
  | .wgClose _ => true
  | .aeOn _ => true
  | .aeOff _ => true
  | .rgOpen _ => true
  | .rgClose _ => true
  | .quietOpen _ => true
  | .quietOpenDeferred _ => true
  | .quietClose _ => true
  | .engWake _ => true
  | .dmaStart _ => true
  | .coreIrq _ => true
  | .commut => true
  | .wallTimerExpiry _ => true
  | .rewriteOvfClear _ => true
  | .rewritePop _ => true
  | .quenchAutoRelease _ _ => true
  | .quenchRelease _ => true
  | .quenchHold _ => true
  | .swreq _ => true
  | .quenchTestPulse ns => fits 16 ns
  | .cmdStart => true
  | .cmdStop => true
  | .cmdFloat => true
  | .senseDone _ _ rpm16 => fits 17 rpm16
  | .brakeDone rpm16 => fits 17 rpm16
  | .locateAttemptDone rises pos neg => allFit 32 rises.toList && fits 16 pos && fits 16 neg
  | .locateRetry => true
  | .rampTimeout => true
  | .zeroCrossing _ _ _ => true
  | .observerLock rpm16 => fits 17 rpm16
  | .observerLockLoss => true
  | .selfTimedCommutation => true
  | .speedReached ms => optFits 16 ms
  | .coastMeasDone ke drop => fits 16 ke && fits 16 drop
  | .speedTargetWrite v => fits 17 v
  | .slewEntry => true
  | .reacqTimeout => true
  | .reacqBrake => true
  | .reacqRetractTimeout => true
  | .stoppingDone rpm16 => fits 17 rpm16
  | .rectifyFloor rpm16 => fits 17 rpm16
  | .rectifyRecovery => true
  | .holdupUpdate rpm16 => fits 17 rpm16
  | .spnJWrite w => fits 32 w
  | .spinPermitChange _ => true
  | .servoEnable _ => true
  | .servoDisable _ => true
  | .preampFrameDone _ dat => fits 8 dat
  | .paCmdGo _ _ => true
  | .headSelect _ _ => true
  | .hsSettleDone _ _ => true
  | .positionWord _ _ ba bb bc bd t rro _ _ => fits 16 ba && fits 16 bb && fits 16 bc && fits 16 bd && fits 16 t && fits 16 rro
  | .coefSwap _ => true
  | .leadHandover _ => true
  | .shockSample _ _ _ _ => true
  | .freefallDetect _ => true
  | .preampFault _ => true
  | .seekGo _ _ => true
  | .seekGrantTimeout _ => true
  | .trajectoryEnd _ => true
  | .seekSettleDone _ => true
  | .seekSettleTimeout _ => true
  | .cmdLoad _ => true
  | .loadTimeout _ => true
  | .cmdUnload _ => true
  | .unloadPark _ => true
  | .unloadTimeout _ => true
  | .cmdRetract _ => true
  | .retractRequest _ => true
  | .retractHoldStart _ => true
  | .retractDone _ => true
  | .writeDescriptorCommit _ _ _ => true
  | .descriptorReady _ tag => fits 24 tag
  | .wrEndGuard _ _ => true
  | .wrActiveSet _ => true
  | .wrActiveClear _ => true
  | .writeCompletionPop _ => true
  | .wchTpSave _ => true
  | .wchTpRestore _ => true
  | .wchTpClear _ => true
  | .rateZoneWrite _ _ _ _ _ => true
  | .tprSend _ _ => true
  | .readDescriptorCommit _ _ _ => true
  | .captureSpanEnd _ tag _ samples m rs run g0 g1 taps ovf => fits 24 tag && fits 20 samples && (m.all fun e => fits 16 e.2) && (rs.all (·.all fun e => fits 16 e.2)) && fits 16 run && fits 16 g0 && fits 16 g1 && allFit 16 taps && fits 16 ovf.1 && fits 16 ovf.2.1 && fits 16 ovf.2.2
  | .inlineDecodeDone _ run => run.wf
  | .readCompletionPop _ => true
  | .activeSetLoad _ _ => true
  | .activeSetCopy _ => true
  | .xbarWrite _ => true
  | .deepJobCommit _ _ => true
  | .deepJobStart => true
  | .deepJobDone _ marks screens runs => (marks.all fun e => fits 16 e.2) && allFit 16 screens && runs.all (·.wf)
  | .deepCompletionPop => true
  | .sampleSlotPin _ _ => true
  | .sampleSlotUnpin _ _ => true
  | .rebuild _ _ => true
  | .rchTpSave _ => true
  | .rchTpRestore _ => true
  | .rchTpClear _ => true
  | .decoderRebind _ => true
  | .retryLadder _ _ _ first tries => first.wf && tries.all (·.wf)
  | .frameRewrite _ tag slot => fits 24 tag && fits 8 slot
  | .lookupCommit _ _ => true
  | .lookupDone tag bad => fits 24 tag && (bad.all fun e => fits 28 e.1 && fits 8 e.2)
  | .lookupCompletionPop => true
  | .recordCommit addr => fits 28 addr
  | .recordApplied => true
  | .invAll => true
  | .cacheEnable => true
  | .rangeInvalidate _ => true
  | .lineLock _ => true
  | .lineUnlock _ => true
  | .wayDisable _ => true
  | .checkpoint => true
  | .mapRebuild _ _ _ _ recs images seqs => allFit 28 recs && (images.all fun e => fits 28 e.1 && fits 512 e.2.1) && allFit 40 seqs
  | .cleaning addr old new units => fits 28 addr && fits 20 old && fits 20 new && allFit 20 units
  | .compaction ns n m _ _ srcs addr => fits 3 ns && fits 17 n && fits 17 m && (srcs.all fun e => fits 28 e.1 && fits 256 e.2) && fits 28 addr
  | .sectorRelocation _ addr old unit => fits 28 addr && fits 20 old && fits 20 unit
  | .cmpJobCommit _ _ => true
  | .cmpJobStart _ => true
  | .cmpJobDone _ => true
  | .cmpAbort _ => true
  | .cmpDisable _ _ => true
  | .cmpCompletionPop => true
  | .mmioDoorbell _ _ q _ => fits 16 q
  | .shadowDoorbellPoll _ l => l.all fun e => fits 16 e.2.1 && fits 16 e.2.2
  | .pollIdleTimeout _ => true
  | .commandFetch _ q e ranges => fits 16 q && e.wf && (ranges.all fun e => fits 64 e.1 && fits 32 e.2)
  | .rltGrant _ q i => fits 16 q && fits 16 i
  | .commandCommit _ q i _ => fits 16 q && fits 16 i
  | .cqEntryPost _ q => fits 16 q
  | .deleteIoSq _ i => fits 16 i
  | .createIoSq _ i => fits 16 i
  | .getLogPage _ i => fits 16 i
  | .deleteIoCq _ i => fits 16 i
  | .createIoCq _ i => fits 16 i
  | .identify _ i => fits 16 i
  | .abort _ i => fits 16 i
  | .setFeatures _ i dat => fits 16 i && fits 64 dat
  | .strictErrorMode _ i => fits 16 i
  | .assayDuty _ i => fits 16 i
  | .powerManagement _ i => fits 16 i
  | .autonomousPowerStateTransition _ i table => fits 16 i && allFit 64 table
  | .getFeatures _ i => fits 16 i
  | .asynchronousEventRequest _ i => fits 16 i
  | .namespaceManagement _ i size cap fmt pi base recs => fits 16 i && fits 64 size && fits 64 cap && fits 4 fmt && fits 3 pi && fits 16 base && allFit 28 recs
  | .namespaceAttachment _ i _ => fits 16 i
  | .firmwareImageDownload _ i _ => fits 16 i
  | .fwCommitReplace _ i => fits 16 i
  | .fwCommitReplacePending _ i => fits 16 i
  | .fwCommitPending _ i => fits 16 i
  | .fwCommitActivate _ i => fits 16 i
  | .activationDrainEnd => true
  | .activationDrainLimit => true
  | .activationStopEnd => true
  | .activationLoadEnd => true
  | .activationResume _ => true
  | .doorbellBufferConfig _ i => fits 16 i
  | .formatNvm _ i recs => fits 16 i && allFit 28 recs
  | .formatUserDataErase _ i recs => fits 16 i && allFit 28 recs
  | .formatCryptoErase _ i recs => fits 16 i && allFit 28 recs
  | .sanitizeCryptoErase _ i recs => fits 16 i && allFit 28 recs
  | .sanitizeBlockErase _ i recs => fits 16 i && allFit 28 recs
  | .sanitizeOverwrite _ i => fits 16 i
  | .thawResume _ i => fits 16 i
  | .thawDiscardHeld _ i => fits 16 i
  | .thawDiscardAll _ i cids => fits 16 i && allFit 16 cids
  | .enable _ i => fits 16 i
  | .debugToken _ i _ _ => fits 16 i
  | .attest _ i _ => fits 16 i
  | .reportReceive _ i => fits 16 i
  | .identityReceive _ i => fits 16 i
  | .keyInfoReceive _ i => fits 16 i
  | .challengeReceive _ i => fits 16 i
  | .protocolList _ i => fits 16 i
  | .flush _ q i => fits 16 q && fits 16 i
  | .write _ q i _ recs err => fits 16 q && fits 16 i && allFit 28 recs && err.wf
  | .read _ q i _ err => fits 16 q && fits 16 i && err.wf
  | .writeUncorrectable _ q i recs => fits 16 q && fits 16 i && allFit 28 recs
  | .compare _ q i _ _ err => fits 16 q && fits 16 i && err.wf
  | .writeZeroes _ q i recs => fits 16 q && fits 16 i && allFit 28 recs
  | .datasetManagement _ q i recs => fits 16 q && fits 16 i && allFit 28 recs
  | .verify _ q i _ err => fits 16 q && fits 16 i && err.wf
  | .zoneClose _ q i recs => fits 16 q && fits 16 i && allFit 28 recs
  | .zoneFinish _ q i recs => fits 16 q && fits 16 i && allFit 28 recs
  | .zoneOpen _ q i recs => fits 16 q && fits 16 i && allFit 28 recs
  | .zoneReset _ q i recs => fits 16 q && fits 16 i && allFit 28 recs
  | .zoneOffline _ q i recs => fits 16 q && fits 16 i && allFit 28 recs
  | .zoneManagementReceive _ q i => fits 16 q && fits 16 i
  | .zoneAppend _ q i _ recs err => fits 16 q && fits 16 i && allFit 28 recs && err.wf
  | .controllerEnable _ _ _ _ => true
  | .controllerReset _ => true
  | .functionLevelReset _ => true
  | .normalShutdown _ => true
  | .abruptShutdown _ => true
  | .nvmSubsystemReset _ => true
  | .perstAssert _ => true
  | .hotReset _ => true
  | .linkTrainingStart _ _ => true
  | .allocClean _ _ => true
  | .allocDirty _ _ => true
  | .ref _ _ addr => fits 22 addr
  | .unref _ _ addr => fits 22 addr
  | .clean _ _ addr => fits 22 addr
  | .cleanUnref _ _ addr => fits 22 addr
  | .restore _ _ addr => fits 22 addr
  | .dmaCopy _ => true
  | .dmaFill _ => true
  | .dmaJobEnd _ => true
  | .scrubRead _ _ => true
  | .rowRepair array row => fits 6 array && fits 16 row
  | .regionRetire _ _ => true
  | .vaultReadPage _ tag block page dat spare => fits 24 tag && fits 12 block && fits 8 page && fits 22 dat && fits 30 spare
  | .vaultProgramPage _ tag block page dat spare => fits 24 tag && fits 12 block && fits 8 page && fits 22 dat && fits 30 spare
  | .vaultEraseBlock _ tag block => fits 24 tag && fits 12 block
  | .vaultCommandDone tag maxbits _ => fits 24 tag && fits 14 maxbits
  | .vaultCompletionPop => true
  | .saveTrailerDone => true
  | .saveReplay at_ recs lost free => fits 34 at_ && allFit 28 recs && fits 22 lost && allFit 22 free
  | .next _ => true
  | .jump _ => true
  | .branch _ => true
  | .call _ => true
  | .ccall _ => true
  | .ret _ => true
  | .cret _ => true
  | .dispatch _ => true
  | .wait _ => true
  | .loop _ => true
  | .reti _ => true
  | .halt _ => true
  | .busReadReturn _ _ => true
  | .interruptEntry _ => true
  | .commitGapExceeded _ => true
  | .interruptLimitExceeded _ => true
  | .migrationGo _ => true
  | .migrationPreloadDone last => fits 16 last
  | .migrationFreeze last => fits 16 last
  | .roleStart _ => true
  | .roleLoadDone _ => true
  | .engineHalt _ => true
  | .engineResume _ => true
  | .engineSpare _ => true
  | .engineRetire _ => true
  | .enginesDisable => true
  | .roleDoorbell _ _ => true
  | .controlStoreWrite _ _ _ _ _ => true
  | .permitRequest _ _ => true
  | .permitRelease _ _ => true
  | .requestDeadline _ => true
  | .grantExpiry _ => true
  | .permitIdleRelease _ => true
  | .leaseWrite _ _ _ => true
  | .leaseEnd _ => true
  | .supplyWarning _ => true
  | .supplyWarningClear => true
  | .supplyResetLevel _ => true
  | .overCurrent _ => true
  | .emergencyWrite => true
  | .emergencyClear => true
  | .holdupCollapse pages => fits 32 pages
  | .powerStateRequest _ => true
  | .powerStepDone => true
  | .powerStepRefused _ => true
  | .apstIdleTimeout _ => true
  | .wakeRetry => true
  | .pllEnable _ => true
  | .pllLock _ => true
  | .pllUnlock _ => true
  | .synthUnlock _ => true
  | .monitorWindow _ count => fits 32 count
  | .clockSwitch _ _ => true
  | .clockSwitchDone _ => true
  | .forcedSwitch _ => true
  | .clockGate _ => true
  | .gateForce _ => true
  | .temperatureConversion _ _ => true
  | .thermalResume => true
  | .autoResume => true
  | .calDueEvaluation => true
  | .calDone _ => true
  | .accumulate _ => true
  | .accDone _ held => fits 16 held
  | .calApply _ _ => true
  | .assayStepStart _ _ _ => true
  | .assayStepDone _ unit detail us => fits 8 unit && fits 16 detail && fits 32 us
  | .assayYield t us => fits 32 t && fits 32 us
  | .channelSubstitution _ => true
  | .patinaRecord => true
  | .patinaSw _ => true
  | .patinaVaultCopy _ => true
  | .opsecWrite _ => true
  | .bypass => true
  | .idcode => true
  | .samplePreload balls => fits 512 balls
  | .extest => true
  | .clamp => true
  | .highz => true
  | .portEnable _ => true
  | .trainLock _ => true
  | .trainTimeout _ => true
  | .frameAlign _ => true
  | .alignTimeout _ => true
  | .helloSend _ => true
  | .hello _ _ _ _ _ => true
  | .helloTimeout _ => true
  | .linkFailure _ unc => fits 16 unc
  | .downRetry _ => true
  | .portDisable _ => true
  | .packetForward _ r _ k => r.wf && k.wf
  | .lack _ r _ _ => r.wf
  | .lackSend _ => true
  | .replayTimeout _ => true
  | .data _ r _ _ _ _ _ _ _ => r.wf
  | .copyReq _ r _ _ _ _ _ band => r.wf && fits 20 band
  | .copyResp _ r _ _ ans dat digest => r.wf && ans.wf && dat.all (allFit 512) && fits 256 digest
  | .copyEnd _ r _ _ _ _ addr => r.wf && fits 28 addr
  | .leaseReq _ r _ _ _ _ => r.wf
  | .leaseGrant _ r _ _ _ _ _ => r.wf
  | .leaseDeny _ r _ _ _ _ => r.wf
  | .mbReq _ r _ _ _ _ _ => r.wf
  | .mbResp _ r _ _ _ => r.wf
  | .copyCommit _ _ => true
  | .pieceTimeout _ _ _ => true
  | .copyTimeout _ _ => true
  | .copyCompletionPop => true
  | .mailboxCommit _ _ => true
  | .mailboxTimeout _ => true
  | .messageSend _ _ => true
  | .rxqPop => true
  | .configLock => true
  | .rollbackAdvance _ => true
  | .keyRevoke _ => true
  | .imageVerify => true
  | .activationRecordCommit _ => true
  | .attestationStart => true
  | .attestationDone => true
  | .keyGenerate _ _ => true
  | .keyLoad _ _ => true
  | .keyErase _ _ => true
  | .keyUnload _ => true
  | .debugUnlock _ _ => true
  | .debugChallenge => true
  | .recoveryHeader _ _ _ => true
  | .recoveryGapTimeout _ => true
  | .read32 _ _ _ => true
  | .write32 _ _ _ => true
  | .patina _ _ _ => true
  | .log _ _ _ _ => true
  | .info _ _ _ => true
  | .viarumGapTimeout _ => true
  | .nvmeMiBasic => true
  | .miStatusUpdate => true
  | .actledHoldExpiry => true
  | .assayDutyWindowEnd => true
  | .hardwarePermitRenewal _ => true
  | .captureSpanStart _ tag => fits 24 tag
  | .microactuatorAtZero _ _ => true
  | .synthLock _ => true
  | .pcieLinkUp _ _ _ _ => true
  | .tapReset => true

end Sys2Proof
end

