-- ==== Sys2Proof/Safety.lean ====
section
/-!
DEFINITION. What statements about the machine are said in: what a command does, which state it needs, what two states share, and
the invariants.
-/
namespace Sys2Proof.Machine

/-- A command completes: it answers a next state, of which `P` holds. -/
def Does (i : Instr) (s : State) (P : State → Prop) : Prop := ∃ t, exec i s = .next t ∧ P t

/-- The main die runs (R439): it has left its boot ROM and no save or reset holds it. -/
abbrev State.runs (s : State) : Prop := s.die.phase = .running

/-- The register fields and the buffer DRAM are in canonical form: keys strictly rising, and no listed byte of DRAM equal to
what an unlisted one reads as. -/
abbrev State.canonical (s : State) : Prop := tabSorted none s.regs = true ∧ tabWf (0 : Byte) s.dram = true

/-- A channel that Quench, QCH_CTL.HOLD or its overflow hold holds has its write gate closed and its assist state clear (R59 to
R61, R63, R128). -/
abbrev State.heldClosed (s : State) : Prop :=
  ∀ ch : Fin 4, s.chHeld ch = true → (s.wch[ch]).gate = none ∧ (s.wch[ch]).assist = false

/-- While BUL_STAT.EMERG is 1b no slot holds a grant (R315). -/
abbrev State.emergencyBare (s : State) : Prop := s.flag BUL_STAT_EMERG = true → ∀ k : Fin 24, s.granted k = false

/-- The state in which the next entry `e` of ring `a` acts: it has left the ring and angle has reached its stamp (R48). -/
def State.atEntry (s : State) (a : Fin 2) (e : RingEntry) : State := advanceTo e.stamp (setRing a s.inv.ring[a].tail s)

/-- Host command `x` of queue `q` of controller `c`, with CID `i` and opcode `opc`, is at hand and has no outcome yet. -/
abbrev State.atHand (s : State) (c : Fin 2) (q i opc : Nat) (x : HCmd) : Prop :=
  s.cmd c q i = some x ∧ x.e.opc = opc ∧ x.status = none

/-- The outcome that the command with CID `i` of a queue has now. -/
def State.outcome (s : State) (c : Fin 2) (q i : Nat) : Option HStat := (s.cmd c q i).bind (·.status)

/-- The word at the PC of engine `n` has SEQ `seq` and runs now (R276 to R292): the engine is in RUN or TEST, takes no interrupt and
waits for no read, the word is correctable, its queues are empty and no halt is asked for, its levels are within their limits, and
a word that commits stages nothing. -/
abbrev State.wordReady (s : State) (n : Fin 18) (seq : Nat) : Prop :=
  let e := s.eng.se[n]
  let l := e.level (s.seInt n)
  let w := s.wordAtPc n
  (s.seSt n.val = seRun ∨ s.seSt n.val = seTest) ∧ s.irqDue n = none ∧
  s.csBad n (s.raw (ENG_SE_STAT_PC n.val)) = false ∧ w.seq = seq ∧ s.wordWaits n (s.seInt n) w = false ∧ e.haltReq = false ∧
  e.base.drain = [] ∧ e.int.drain = [] ∧ l.staged.length ≤ 30 ∧ e.base.gap + 8 ≤ s.get ENG_CFG_CGAP * 1024 ∧
  e.iclk + 8 ≤ s.get ENG_CFG_ILIM * 256 ∧ e.ihold + 1 ≤ s.get ENG_CFG_IHOLD_MAX ∧
  (w.commit = true ∨ 10 ≤ seq → l.staged = [] ∧ w.busop ≠ 2 ∧ w.busop ≠ 3 ∧ (w.evop = 0 ∨ 3 < w.evop))

/-- A packet that arrives at port `p` in order and without an error is taken (R376). -/
abbrev State.rxGood (s : State) (p : Fin 4) (r : Rx) : Prop :=
  s.portUp p = true ∧ r.frameBad = false ∧ r.crcBad = false ∧ r.lseq = (s.sld.ports[p]).rx

/-- A packet that port `from_` brought in, or of this node where it is none, leaves at once by port `q` on virtual channel `vc`:
its route is up, no port holds a packet back, and the replay buffer has room (R372, R376). -/
abbrev State.leavesBy (s : State) (from_ : Option (Fin 4)) (k : Pkt) (q : Fin 4) (vc : Nat) : Prop :=
  s.route from_ k = some (q, vc) ∧ (∀ i : Fin 4, (s.sld.ports[i]).queue = []) ∧ (s.sld.ports[q]).replay.length < 64

/-- The packet `k` as it leaves port `q` of a state `s` on virtual channel `vc`. -/
def State.packetOut (s : State) (q : Fin 4) (vc : Nat) (k : Pkt) : Out := .solder q (s.sld.ports[q]).tx { k with vc }

/-- Every register field is unchanged. -/
def sameRegs (s t : State) : Prop := ∀ f : Fld, t.raw f = s.raw f

/-- Every register field other than those listed is unchanged. -/
def sameRegsBut (l : List Fld) (s t : State) : Prop := ∀ f : Fld, (∀ g ∈ l, f.key ≠ g.key) → t.raw f = s.raw f

/-- Every register field outside the blocks of 512 KiB listed is unchanged. -/
def sameOutside (l : List Nat) (s t : State) : Prop := ∀ f : Fld, f.blk ∉ l → t.raw f = s.raw f

/-- Every byte of the buffer DRAM reads as before. -/
def sameDram (s t : State) : Prop := ∀ a : Nat, t.dramByte a = s.dramByte a

end Sys2Proof.Machine
end

