-- ==== Sys2Proof/Certificates/Slice0/Obligations.lean ====
section
/-!
DEFINITION. The statements for the provers: `Obligations.<Name>`, one for each group of commands and one for each property of the whole
machine. A clause of a group says what one command of the table does on the states that meet the clause's hypotheses: `Does i s P` says
that `exec i s` answers a next state and that `P` holds of it. A docstring names the rules that its clauses follow, in part or whole,
and the log entries (notes/assumptions) of the model's own choices that they rest on besides.
-/

open Sys2Proof Sys2Proof.Machine

/-- Accesses to the control space (R9, R26 to R28, R30, R36, R340). A write whose byte enables are not all set changes no register but the
wake bit of the block (R27); a read answers the requester; the first read of a LO half captures all 64 bits for its requester; an access
that is unmapped, down or denied to the host sets its bit of SYS_ERR, records itself when no bit was set, and answers a read with zero; an
access that a block has not completed sets ACC_TO and fills CLK_TO_INFO when that is empty. The model's choices it rests on: log entries
2, 3, 4, 12 and 14. -/
def Obligations.AccessCommands : Prop :=
  (∀ (r : Req) (a : BitVec 25) (v : Word) (be : Fin 16) (s : State), s.runs → s.accessErr r true a.toNat = none → be.val ≠ 15 →
    Does (.registerWrite r a v be) s fun t => sameRegsBut [CLK_GATE_STAT_BLK] s t ∧ sameDram s t ∧ t.out = s.out) ∧
  (∀ (c : Fin 4) (v : Word) (s : State), s.runs → s.accessErr (.core c) true SYS_HOST_WMASK_HWE.addr = none →
    s.flag SEC_LOCK_LOCK = false →
    Does (.registerWrite (.core c) (BitVec.ofNat 25 SYS_HOST_WMASK_HWE.addr) v 15) s fun t =>
      t.raw SYS_HOST_WMASK_HWE = v.toNat % 2 ^ 24) ∧
  (∀ (c : Fin 4) (v : Word) (s : State), s.runs → s.accessErr (.core c) true SYS_HOST_WMASK_HWE.addr = none →
    s.flag SEC_LOCK_LOCK = true →
    Does (.registerWrite (.core c) (BitVec.ofNat 25 SYS_HOST_WMASK_HWE.addr) v 15) s fun t => sameRegsBut [CLK_GATE_STAT_BLK] s t) ∧
  (∀ (c : Fin 4) (v : Word) (s : State), s.runs → s.accessErr (.core c) true SYS_ERR_UNMAPPED.addr = none →
    Does (.registerWrite (.core c) (BitVec.ofNat 25 SYS_ERR_UNMAPPED.addr) v 15) s fun t =>
      t.flag SYS_ERR_UNMAPPED = (s.flag SYS_ERR_UNMAPPED && !bitOf v.toNat 0) ∧
      t.flag SYS_ERR_BLK_DOWN = (s.flag SYS_ERR_BLK_DOWN && !bitOf v.toNat 1) ∧
      t.flag SYS_ERR_HOST_DENIED = (s.flag SYS_ERR_HOST_DENIED && !bitOf v.toNat 2) ∧
      sameRegsBut [SYS_ERR_UNMAPPED, SYS_ERR_BLK_DOWN, SYS_ERR_HOST_DENIED, CLK_GATE_STAT_BLK] s t) ∧
  (∀ (c : Fin 4) (v : Word) (s : State), s.runs → s.accessErr (.core c) true SYS_ID_PART.addr = none →
    Does (.registerWrite (.core c) (BitVec.ofNat 25 SYS_ID_PART.addr) v 15) s fun t => sameRegsBut [CLK_GATE_STAT_BLK] s t) ∧
  (∀ (c : Fin 4) (be : Fin 16) (s : State), s.runs → s.accessErr (.core c) false PAT_LOST_COUNT.addr = none →
    Does (.readClear (.core c) (BitVec.ofNat 25 PAT_LOST_COUNT.addr) be) s fun t =>
      t.raw PAT_LOST_COUNT = 0 ∧ t.out = s.out ++ [.readData (.core c) (byteMask be.val (s.raw PAT_LOST_COUNT))]) ∧
  (∀ (r : Req) (s : State), s.runs → s.accessErr r false INV_NOW_LO_STAMP.addr = none →
    Does (.captureRead r false) s fun t => tabLook 0 t.inv.capNow (bankOf r) = s.inv.now ∧
      t.out = s.out ++ [.readData r (byteMask 15 (s.inv.now % 2 ^ 32))]) ∧
  (∀ (r : Req) (s : State), s.runs → s.accessErr r false INV_WALL_LO_NS.addr = none →
    Does (.captureRead r true) s fun t => tabLook 0 t.inv.capWall (bankOf r) = s.inv.wall ∧
      t.out = s.out ++ [.readData r (byteMask 15 (s.inv.wall % 2 ^ 32))]) ∧
  (∀ (r : Req) (wr : Bool) (a : BitVec 25) (s : State), s.runs → s.accessErr r wr a.toNat = some errUnmapped →
    Does (.unmappedAccess r wr a) s fun t => t.flag SYS_ERR_UNMAPPED = true ∧
      t.out = s.out ++ (if wr then [] else [.readData r 0])) ∧
  (∀ (r : Req) (wr : Bool) (a : BitVec 25) (s : State), s.runs → s.accessErr r wr a.toNat = some errDown →
    Does (.blockDownAccess r wr a) s fun t => t.flag SYS_ERR_BLK_DOWN = true ∧
      t.out = s.out ++ (if wr then [] else [.readData r 0])) ∧
  (∀ (wr : Bool) (a : BitVec 25) (s : State), s.runs → s.accessErr .host wr a.toNat = some errDenied →
    Does (.hostAccessRefused wr a) s fun t => t.flag SYS_ERR_HOST_DENIED = true ∧
      t.out = s.out ++ (if wr then [] else [.readData .host 0])) ∧
  (∀ (r : Req) (wr : Bool) (addr : BitVec 25) (s : State), s.runs →
    Does (.accessTimeout r wr addr) s fun t => t.flag CLK_STAT_ACC_TO = true ∧ t.flag CLK_TO_INFO_VALID = true ∧
      t.raw CLK_TO_INFO_ADDR = if s.flag CLK_TO_INFO_VALID then s.raw CLK_TO_INFO_ADDR else addr.toNat)

/-- Resets (R401, R403, R404, R405, R411, R412, R437). A cause raised while the die runs makes the power die safe, holds FLT# low and starts
the save; the trailer's end clears DEV and records the cause; a power-on records whether it was requested after a save, latches the port
mode and the assist type, empties the DRAM and starts the stamp and the wall counter at 0; the release loads the watchdog and, with
BOOT_SRC set, waits in the boot ROM. The model's choices it rests on: log entries 2, 3, 4, 9, 198 and 201. -/
def Obligations.ResetCommands : Prop :=
  (∀ (straps : Fin 16) (dual : Bool) (s : State), s.die.phase = .off →
    Does (.powerOn straps dual) s fun t =>
      t.raw RST_CAUSE_LAST = b2n (s.die.request && s.die.ran) ∧ t.die.phase = .held ∧ t.inv.now = 0 ∧ t.inv.wall = 0 ∧
      t.dram = [] ∧ t.flag SYS_STRAP_PORT_MODE = bitOf straps.val 0 ∧ t.flag TPR_CTL_MODE = bitOf straps.val 1 ∧
      t.pins.flt = true) ∧
  (∀ s : State, s.runs → Does .devrstAssert s fun t =>
    t.pins.devrst = true ∧ t.pins.flt = true ∧ t.pd.safe = true ∧ t.die.phase = .saving ∧ t.die.reset = some 2) ∧
  (∀ s : State, s.runs → Does .fatalReset s fun t =>
    t.pins.flt = true ∧ t.pd.safe = true ∧ t.die.phase = .saving ∧ t.die.reset = some 4) ∧
  (∀ (c : Fin 2) (s : State), s.runs → s.ctlExists c = true → Does (.nvmSubsystemReset c) s fun t =>
    t.pins.flt = true ∧ t.pd.safe = true ∧ t.die.phase = .saving ∧ t.die.reset = some 5) ∧
  (∀ s : State, s.runs → s.bit CLK_SRC_STAT_STABLE srcSrc = true → Does (.watchdogExpiry false) s fun t =>
    t.raw RST_WDT_LEFT_MS = 0 ∧ t.die.reset = if s.flag RST_WDT_EN then some 3 else s.die.reset) ∧
  (∀ s : State, s.runs → Does (.watchdogExpiry true) s fun t => t.flag SEC_STAT_SIG_FAIL = true ∧ t.die.reset = some 3) ∧
  (∀ s : State, s.runs → Does .watchdogKick s fun t =>
    t.raw RST_WDT_LEFT_MS = s.get RST_WDT_PERIOD_MS % 2 ^ 16 ∧ sameRegsBut [RST_WDT_LEFT_MS] s t) ∧
  (∀ s : State, s.runs → Does .faultRelease s fun t => t.pins.flt = false ∧ sameRegs s t) ∧
  (∀ (v : Fin 8) (s : State), s.runs → Does (.coreRelease v) s fun t =>
    t.raw RST_CTL_CORE_REL = v.val ∧ sameRegsBut [RST_CTL_CORE_REL] s t) ∧
  (∀ s : State, s.die.phase = .held → s.die.cleared = true → s.die.frc = true → Does .devResetRelease s fun t =>
    t.raw RST_WDT_LEFT_MS = s.get RST_WDT_PERIOD_MS % 2 ^ 16 ∧ t.pins.devrst = false ∧ t.die.cleared = false ∧
    (s.flag SYS_STRAP_BOOT_SRC = true → t.die.phase = .rom ∧ t.pd.safe = true)) ∧
  (∀ s : State, s.runs → Does .heartbeatToggle s fun t => t.pd.beat = !s.pd.beat ∧ sameRegs s t) ∧
  (∀ s : State, s.runs → s.pd.safe = false → Does .heartbeatLoss s fun t => t.pd.safe = true ∧ t.flag PWR_STAT_HB_LOST = true) ∧
  (∀ (k : Fin 5) (s : State), s.runs → Does (.sourceStable k) s fun t =>
    t.bit CLK_SRC_STAT_STABLE k.val = true ∧ t.bit CLK_SRC_STAT_RUN k.val = true ∧ t.clk.failed[k] = false) ∧
  (∀ (code : Nat) (s : State), s.die.phase = .saving → s.die.loss = false → s.die.reset = some code → code < 8 →
    Does .saveTrailerDone s fun t => t.die.phase = .held ∧ t.die.cleared = true ∧ t.raw RST_CAUSE_LAST = code ∧
      t.raw SPN_STAT_STATE = 0) ∧
  (∀ (pages : Nat) (s : State), s.pd.swOpen = true → s.pd.regOff = false → Does (.holdupCollapse pages) s fun t =>
    t.die.phase = .off ∧ t.pd.regOff = true ∧ t.pins.flt = false)

/-- Invar's own commands (R38, R44, R46, R58). Enabling leaves angle INVALID; disabling, and a holdover that runs out, empty both rings; a
lane's mark found or missed counts towards the head's lock; four good wedges lock a head, and the first lock from INVALID makes it primary
under the servo source; two bad ones unlock it; a skew of the primary surface stays in force until its next sync. The model's choices it
rests on: log entries 2, 3, 4 and 43. -/
def Obligations.AngleCommands : Prop :=
  (∀ s : State, s.runs → Does .invarEnable s fun t => t.flag INV_CFG_EN = true ∧ sameRegsBut [INV_CFG_EN] s t) ∧
  (∀ s : State, s.runs → s.raw INV_SRC_SRC ≠ srcNone → Does .invarDisable s fun t =>
    t.raw INV_CFG_EN = 0 ∧ t.raw INV_LOCK_LOCKED = 0 ∧ t.raw INV_SRC_SRC = srcNone ∧ t.raw INV_SRC_VALID = 0 ∧
    t.raw INV_SRC_ALIGNED = 0 ∧ t.flag INV_STAT_FLUSH = true ∧ t.inv.ring[0] = [] ∧ t.inv.ring[1] = []) ∧
  (∀ s : State, s.runs → s.raw INV_SRC_SRC = srcHold → Does .holdoverExpiry s fun t =>
    t.raw INV_SRC_SRC = srcNone ∧ t.raw INV_SRC_VALID = 0 ∧ t.raw INV_SRC_ALIGNED = 0 ∧ t.flag INV_STAT_SRC_CHG = true ∧
    t.flag INV_STAT_FLUSH = true ∧ t.inv.ring[0] = [] ∧ t.inv.ring[1] = []) ∧
  (∀ (a l : Fin 2) (idx period : Nat) (dev : Int) (surf : Nat) (s : State), s.runs → s.demod a l = true →
    (s.lane a l).settling = false → s.laneSurf a l = some surf → surf < 32 → s.flag INV_CFG_EN = true →
    s.raw INV_SRC_SRC = srcNone → s.actSt a ≠ actLoading →
    Does (.samSearch a l true false idx period dev) s fun t =>
      (t.lane a l).found = true ∧ t.raw (SRV_PES_MISS a.val l.val) = 0 ∧ t.flag (SRV_STAT_IDX_CHK a.val) = true ∧
      (t.lockOf surf).good = 0 ∧ (t.lockOf surf).bad = (s.lockOf surf).bad + 1) ∧
  (∀ (a l : Fin 2) (chk : Bool) (idx period : Nat) (dev : Int) (surf : Nat) (s : State), s.runs → s.demod a l = true →
    (s.lane a l).settling = false → s.laneSurf a l = some surf → surf < 32 → s.flag INV_CFG_EN = true →
    s.raw INV_SRC_SRC = srcNone →
    Does (.samSearch a l false chk idx period dev) s fun t =>
      t.flag (SRV_PES_MISS a.val l.val) = true ∧ (t.lane a l).found = false ∧
      (t.lockOf surf).good = 0 ∧ (t.lockOf surf).bad = (s.lockOf surf).bad + 1) ∧
  (∀ (a l : Fin 2) (surf : Nat) (s : State), s.runs → s.laneSurf a l = some surf → surf < 32 → s.flag INV_CFG_EN = true →
    4 ≤ (s.lockOf surf).good → s.bit INV_LOCK_LOCKED surf = false →
    s.raw INV_SRC_SRC = srcNone ∨ s.raw INV_SRC_SRC = srcServo → s.actSt a ≠ actAcquire →
    Does (.headLock a l) s fun t =>
      t.bit INV_LOCK_LOCKED surf = true ∧ t.raw INV_SRC_SRC = srcServo ∧
      (s.raw INV_SRC_SRC = srcNone → t.raw INV_SRC_ALIGNED = 1 ∧ t.raw INV_SRC_VALID = 1 ∧ t.raw INV_SRC_PRI_SURF = surf ∧
        t.inv.prim = some surf)) ∧
  (∀ (a l : Fin 2) (surf : Nat) (s : State), s.runs → s.laneSurf a l = some surf → surf < 32 → 2 ≤ (s.lockOf surf).bad →
    s.bit INV_LOCK_LOCKED surf = true → s.actSt a ≠ actFollow →
    Does (.headLockLoss a l) s fun t => t.bit INV_LOCK_LOCKED surf = false ∧ (t.lockOf surf).bad = 0) ∧
  (∀ (surf : Fin 32) (v : Word) (s : State), s.runs → Does (.skewWrite surf v) s fun t =>
    t.raw (INV_SKEW_VALUE surf.val) = v.toNat % 2 ^ 23 ∧
    t.inv.held = if s.inv.prim = some surf.val ∧ s.inv.held = none then some (s.raw (INV_SKEW_VALUE surf.val)) else s.inv.held) ∧
  (∀ (n : Fin 8) (s : State), s.runs → s.flag (INV_WTMR_ARM n.val) = true → s.raw (INV_WTMR_INTERVAL n.val) ≠ 0 →
    Does (.wallTimerExpiry n) s fun t => t.bit INV_WTMR_STAT_FIRED n.val = true ∧ t.out = s.out ++ [.wallTimer n.val] ∧
      t.flag (INV_WTMR_ARM n.val) = s.flag (INV_WTMR_PERIODIC n.val))

/-- The event rings (R47 to R57). A commit answers its requester; one accepted takes its place in firing order. An entry that angle reaches
leaves its ring, and device angle stands at its stamp or past it. The model's choices it rests on: log entries 2, 3, 4, 34 and 41. -/
def Obligations.RingCommands : Prop :=
  (∀ (r : Req) (a : Fin 2) (w3 : Word) (s : State), s.runs → s.raw INV_SRC_SRC = srcNone →
    Does (.ringEntryCommit r a w3) s fun t => t.raw ((INV_RING_RESP_RESULT a.val).of r) = ringInvalid ∧
      t.flag ((INV_RING_RESP_DONE a.val).of r) = true ∧ t.inv.ring = s.inv.ring) ∧
  (∀ (r : Req) (a : Fin 2) (w3 : Word) (e : RingEntry) (s : State), s.runs → s.raw INV_SRC_SRC ≠ srcNone →
    s.ringEntry r a w3.toNat = some e → s.isLate e = false → s.inv.ring[a].length < 4096 →
    Does (.ringEntryCommit r a w3) s fun t => t.raw ((INV_RING_RESP_RESULT a.val).of r) = ringOk ∧
      t.flag ((INV_RING_RESP_DONE a.val).of r) = true ∧ t.inv.ring[a] = ringInsert e s.inv.ring[a]) ∧
  (∀ (a : Fin 2) (tag : Nat) (s : State), s.runs → Does (.ringCancel a tag) s fun t =>
    t.inv.ring[a] = s.inv.ring[a].filter (fun e => !(e.tagged && e.tag == tag % 2 ^ 24)) ∧
    sameRegsBut [INV_RING_CANCEL_TAG a.val] s t) ∧
  (∀ (a : Fin 2) (e : RingEntry) (s : State), s.runs → s.nextEntry a = some e → e.cls = .aeOn →
    s.chHeld (e.ch a) = false → s.inv.quiet[e.ch a] = false →
    Does (.aeOn a) s fun t => t.wch[e.ch a].assist = true ∧ t.inv.ring[a] = s.inv.ring[a].tail ∧ e.stamp ≤ t.inv.now) ∧
  (∀ (a : Fin 2) (e : RingEntry) (s : State), s.runs → s.nextEntry a = some e → e.cls = .aeOff →
    Does (.aeOff a) s fun t => t.wch[e.ch a].assist = false ∧ t.inv.ring[a] = s.inv.ring[a].tail ∧ e.stamp ≤ t.inv.now) ∧
  (∀ (a : Fin 2) (e : RingEntry) (s : State), s.runs → s.nextEntry a = some e → e.cls = .rgOpen →
    s.inv.quiet[e.ch a] = false →
    Does (.rgOpen a) s fun t => t.inv.rg[e.ch a] = true ∧ t.inv.ring[a] = s.inv.ring[a].tail ∧ e.stamp ≤ t.inv.now) ∧
  (∀ (a : Fin 2) (e : RingEntry) (s : State), s.runs → s.nextEntry a = some e → e.cls = .rgClose →
    Does (.rgClose a) s fun t => t.inv.rg[e.ch a] = false ∧ t.inv.ring[a] = s.inv.ring[a].tail ∧ e.stamp ≤ t.inv.now) ∧
  (∀ (a : Fin 2) (e : RingEntry) (s : State), s.runs → s.nextEntry a = some e → e.cls = .quietOpen →
    s.wgBall (e.ch a) = false → s.inv.rg[e.ch a] = false →
    Does (.quietOpen a) s fun t => t.inv.quiet[e.ch a] = true ∧ t.inv.quietWait[e.ch a] = false ∧
      t.inv.ring[a] = s.inv.ring[a].tail ∧ e.stamp ≤ t.inv.now) ∧
  (∀ (a : Fin 2) (e : RingEntry) (s : State), s.runs → s.nextEntry a = some e → e.cls = .quietOpen →
    s.inv.rg[e.ch a] = true →
    Does (.quietOpen a) s fun t => t.inv.quiet[e.ch a] = s.inv.quiet[e.ch a] ∧ t.inv.quietWait[e.ch a] = true) ∧
  (∀ (ch : Fin 4) (s : State), s.runs → s.inv.quietWait[ch] = true → s.wgBall ch = false → s.inv.rg[ch] = false →
    Does (.quietOpenDeferred ch) s fun t => t.inv.quiet[ch] = true ∧ t.inv.quietWait[ch] = false ∧ sameRegs s t) ∧
  (∀ (a : Fin 2) (e : RingEntry) (s : State), s.runs → s.nextEntry a = some e → e.cls = .quietClose →
    Does (.quietClose a) s fun t => t.inv.quiet[e.ch a] = false ∧ t.inv.quietWait[e.ch a] = false ∧
      t.inv.ring[a] = s.inv.ring[a].tail ∧ e.stamp ≤ t.inv.now) ∧
  (∀ (a : Fin 2) (e : RingEntry) (s : State), s.runs → s.nextEntry a = some e → e.cls = .engWake →
    Does (.engWake a) s fun t => t.bit (ENG_ROLE_IPEND_PEND (e.param % 16)) 0 = true ∧
      t.inv.ring[a] = s.inv.ring[a].tail ∧ e.stamp ≤ t.inv.now) ∧
  (∀ (a : Fin 2) (e : RingEntry) (s : State), s.runs → s.nextEntry a = some e → e.cls = .dmaStart → e.param < 32 →
    Does (.dmaStart a) s fun t => t.flag (BUF_DMA_CTL_GO e.param) = true ∧
      t.inv.ring[a] = s.inv.ring[a].tail ∧ e.stamp ≤ t.inv.now) ∧
  (∀ (a : Fin 2) (e : RingEntry) (s : State), s.runs → s.nextEntry a = some e → e.cls = .coreIrq →
    Does (.coreIrq a) s fun t => t.out = s.out ++ [.coreIrq (e.param / 64 % 4) (e.param % 64)] ∧
      t.inv.ring[a] = s.inv.ring[a].tail ∧ e.stamp ≤ t.inv.now)

/-- Quench's commands (R59 to R63, R440). The model's choices it rests on: log entries 2, 3, 4 and 42. -/
def Obligations.QuenchCommands : Prop :=
  (∀ (ch : Fin 4) (s : State), s.runs → Does (.rewriteOvfClear ch) s fun t =>
    t.raw (QCH_RW_STAT_OVF ch.val) = 0 ∧ sameRegsBut [QCH_RW_STAT_OVF ch.val] s t) ∧
  (∀ (ch : Fin 4) (s : State), s.runs → Does (.rewritePop ch) s fun t =>
    t.qch.fifo[ch] = s.qch.fifo[ch].tail ∧ sameRegs s t) ∧
  (∀ (a : Fin 2) (i : Fin 8) (s : State), s.runs → bitOf s.qch.trig[a] i.val = true → i.val < 3 ∨ i.val = 4 →
    s.relLimit i.val ≠ 0 → s.relLimit i.val ≤ (s.qch.rel[a]).of i.val →
    Does (.quenchAutoRelease a i) s fun t => bitOf t.qch.trig[a] i.val = false ∧ sameRegs s t) ∧
  (∀ (a : Fin 2) (s : State), s.runs → s.condHeld a = true → Does (.quenchRelease (if a = 0 then 1 else 2)) s fun t =>
    t.flag QCH_STAT_REL_REFUSED = true ∧ t.qch.trig = s.qch.trig) ∧
  (∀ (a : Fin 2) (s : State), s.runs → s.condHeld a = false → Does (.quenchRelease (if a = 0 then 1 else 2)) s fun t =>
    (∀ i : Fin 8, s.relByWrite i.val = true → bitOf t.qch.trig[a] i.val = false) ∧
    t.flag QCH_STAT_REL_REFUSED = s.flag QCH_STAT_REL_REFUSED) ∧
  (∀ (v : Fin 4) (s : State), s.runs → Does (.quenchHold v) s fun t => t.raw QCH_CTL_HOLD = v.val ∧
    ∀ ch : Fin 4, bitOf v.val (ch.val / 2) = true → t.wch[ch].gate = none ∧ t.wch[ch].assist = false) ∧
  (∀ (v : Fin 4) (s : State), s.runs → Does (.swreq v) s fun t => ∀ a : Fin 2, bitOf v.val a.val = true →
    t.bit QCH_CTL_SWREQ a.val = true ∧ bitOf t.qch.trig[a] 7 = true ∧ t.bit (QCH_CAUSE_CAUSE a.val) 7 = true ∧
    t.wch[chOf a 0].gate = none ∧ t.wch[chOf a 1].gate = none) ∧
  (∀ (ns : Nat) (s : State), s.runs → s.flag QCH_TEST_OUT_HOLD = true → Does (.quenchTestPulse ns) s fun t =>
    t.raw QCH_LAT_NS = ns % 2 ^ 8 ∧ sameRegsBut [QCH_LAT_NS] s t)

/-- The spindle's commands and its start (R68, R70 to R75): where each takes the state machine, and what it records. A command outside the
states that R70 gives it, or after a lost heartbeat, changes nothing but CMD_REFUSED (R71). The model's choices it rests on: log entries
2, 3, 4 and 47. -/
def Obligations.SpindleStart : Prop :=
  (∀ s : State, s.runs → s.pd.safe = false → s.spnSt = spnOff ∨ s.spnSt = spnStopping → Does .cmdStart s fun t =>
    t.spnSt = spnSense ∧ t.raw SPN_LAST_START_TRIES = 0 ∧ t.raw SPN_LAST_START_SECTOR = 7 ∧ t.raw SPN_LAST_START_PATH = 0 ∧
    t.flag SPN_STAT_CMD_REFUSED = s.flag SPN_STAT_CMD_REFUSED) ∧
  (∀ s : State, s.runs → s.pd.safe = true ∨ (s.spnSt ≠ spnOff ∧ s.spnSt ≠ spnStopping ∧ s.spnSt ≠ spnBrake) →
    Does .cmdStart s fun t => t.flag SPN_STAT_CMD_REFUSED = true ∧ sameRegsBut [SPN_STAT_CMD_REFUSED] s t) ∧
  (∀ s : State, s.runs → s.pd.safe = false → s.driving = true ∨ s.spnSt = spnSense ∨ s.spnSt = spnLocate →
    Does .cmdStop s fun t => t.spnSt = spnStopping ∧ t.spn.bridge = .float) ∧
  (∀ s : State, s.runs → s.pd.safe = false → s.spnSt ≠ spnRectify → Does .cmdFloat s fun t =>
    t.spnSt = spnOff ∧ t.spn.bridge = .float ∧ t.raw SPN_STAT_AT_SPEED = 0) ∧
  (∀ s : State, s.runs → s.spnSt = spnRectify → Does .cmdFloat s fun t =>
    t.flag SPN_STAT_CMD_REFUSED = true ∧ sameRegsBut [SPN_STAT_CMD_REFUSED] s t) ∧
  (∀ (fwd : Bool) (rpm16 : Nat) (s : State), s.runs → s.spnSt = spnSense → Does (.senseDone fwd true rpm16) s fun t =>
    t.spnSt = spnBrake ∧ t.spn.bridge = .short ∧ t.spn.minMs = 200 ∧ t.raw SPN_LAST_START_PATH = 3 ∧
    t.flag SPN_STAT_DIR = !fwd) ∧
  (∀ (rpm16 : Nat) (s : State), s.runs → s.spnSt = spnSense → s.atPct 3 rpm16 = true → s.flag SPN_CTL_PERMIT = true →
    Does (.senseDone true false rpm16) s fun t => t.spnSt = spnAccel ∧ t.raw SPN_LAST_START_PATH = 1) ∧
  (∀ (rpm16 : Nat) (s : State), s.runs → s.spnSt = spnSense → s.atPct 3 rpm16 = true →
    Does (.senseDone false false rpm16) s fun t => t.spnSt = spnBrake ∧ t.spn.minMs = 0 ∧ t.raw SPN_LAST_START_PATH = 2) ∧
  (∀ (rpm16 : Nat) (s : State), s.runs → s.spnSt = spnBrake → s.atPct 3 rpm16 = false → s.spn.stopBrake = true →
    Does (.brakeDone rpm16) s fun t => t.spnSt = spnOff ∧ t.flag SPN_STAT_STOP_DONE = true) ∧
  (∀ (rpm16 : Nat) (s : State), s.runs → s.spnSt = spnBrake → s.atPct 3 rpm16 = false → s.spn.stopBrake = false →
    s.flag SPN_CTL_PERMIT = true → Does (.brakeDone rpm16) s fun t => t.spnSt = spnLocate) ∧
  (∀ (rpm16 : Nat) (s : State), s.runs → s.spnSt = spnBrake → s.atPct 3 rpm16 = false → s.spn.stopBrake = false →
    s.flag SPN_CTL_PERMIT = false → Does (.brakeDone rpm16) s fun t =>
      t.spnSt = spnOff ∧ t.flag SPN_STAT_PERMIT_LAPSE = true ∧ t.flag SPN_STAT_START_FAIL = true) ∧
  (∀ (rises : Vector Nat 6) (pos neg k t1 t2 : Nat) (s : State), s.runs → s.spnSt = spnLocate → s.spn.locWait = false →
    fastest rises.toList = some (k, t1) → fastest (rises.toList.eraseIdx k) = some (0, t2) →
    s.tooClose t1 t2 = false → s.tooClose pos neg = false → s.flag SPN_CTL_PERMIT = true →
    Does (.locateAttemptDone rises pos neg) s fun t =>
      t.spnSt = spnRamp ∧ t.raw SPN_LAST_START_SECTOR = (if pos ≤ neg then k else (k + 3) % 6) % 8 ∧
      t.spn.step = ((if pos ≤ neg then k else (k + 3) % 6) + 2) % 6) ∧
  (∀ (rises : Vector Nat 6) (pos neg k t1 : Nat) (s : State), s.runs → s.spnSt = spnLocate → s.spn.locWait = false →
    fastest rises.toList = some (k, t1) → s.tooClose pos neg = true →
    Does (.locateAttemptDone rises pos neg) s fun t =>
      if s.spn.ambig + 1 < 3 then t.spn.ambig = s.spn.ambig + 1 ∧ t.spn.locWait = true ∧ sameRegs s t
      else t.spnSt = spnOff ∧ t.flag SPN_STAT_START_FAIL = true) ∧
  (∀ s : State, s.runs → s.spnSt = spnLocate → s.spn.locWait = true → Does .locateRetry s fun t =>
    t.spn.locWait = false ∧ sameRegs s t) ∧
  (∀ s : State, s.runs → s.spnSt = spnRamp → s.flag SPN_STAT_OBS_LOCK = false → s.raw SPN_LAST_START_TRIES < 2 →
    Does .rampTimeout s fun t => t.spnSt = spnBrake ∧ t.spn.minMs = 200 ∧
      t.raw SPN_LAST_START_TRIES = s.raw SPN_LAST_START_TRIES + 1) ∧
  (∀ s : State, s.runs → s.spnSt = spnRamp → s.flag SPN_STAT_OBS_LOCK = false → s.raw SPN_LAST_START_TRIES = 2 →
    Does .rampTimeout s fun t => t.spnSt = spnOff ∧ t.flag SPN_STAT_START_FAIL = true ∧ t.raw SPN_LAST_START_TRIES = 3)

/-- The running spindle (R66 to R68, R76 to R81): the observer, commutation, speed, the measurement of inertia, the loss of the rotor,
rectification, energy and the permit. The model's choices it rests on: log entries 2, 3, 4 and 48. -/
def Obligations.SpindleRun : Prop :=
  (∀ (ofs : Int) (rising zero : Bool) (s : State), s.runs → Does (.zeroCrossing ofs rising zero) s fun t =>
    t.spn.run = (if s.zcOk ofs rising then s.spn.run + 1 else 0) ∧
    (zero = true → s.raw INV_SRC_SRC = srcServo → t.raw INV_ELEC_OFS_OFS = s.nowTick % 2 ^ 23) ∧
    sameRegsBut [INV_ELEC_OFS_OFS] s t) ∧
  (∀ (rpm16 : Nat) (s : State), s.runs → 6 ≤ s.spn.run → s.spnSt = spnRamp → s.atPct 5 rpm16 = true →
    s.flag SPN_CTL_PERMIT = true → s.raw INV_SRC_SRC = srcServo →
    Does (.observerLock rpm16) s fun t => t.spnSt = spnAccel ∧ t.flag SPN_STAT_OBS_LOCK = true) ∧
  (∀ (rpm16 : Nat) (s : State), s.runs → 6 ≤ s.spn.run → s.flag INV_CFG_EN = true → s.raw INV_SRC_SRC = srcNone →
    s.spnSt = spnOff → Does (.observerLock rpm16) s fun t => t.raw INV_SRC_SRC = srcBemf ∧ t.flag SPN_STAT_OBS_LOCK = true) ∧
  (∀ s : State, s.runs → s.flag SPN_STAT_OBS_LOCK = true → s.driving = true → Does .observerLockLoss s fun t =>
    t.raw SPN_STAT_OBS_LOCK = 0 ∧ t.spnSt = spnReacq ∧ t.flag SPN_STAT_ROTOR_LOST = true ∧ t.spn.run = 0 ∧
    t.raw INV_SRC_SRC = if s.raw INV_SRC_SRC = srcBemf then srcHold else s.raw INV_SRC_SRC) ∧
  (∀ s : State, s.runs → s.driving = true → Does .selfTimedCommutation s fun t =>
    t.spn.step = (s.spn.step + 1) % 6 ∧ t.flag SPN_STAT_RING_MISS = (s.ringTimed || s.flag SPN_STAT_RING_MISS)) ∧
  (∀ (e : RingEntry) (s : State), s.runs → s.nextEntry 0 = some e → e.cls = .commut → s.ringTimed = true →
    e.param % 8 = (s.spn.step + 1) % 6 → Does .commut s fun t => t.spn.step = e.param % 8 ∧ e.stamp ≤ t.inv.now) ∧
  (∀ s : State, s.runs → s.spnSt = spnAccel → Does (.speedReached none) s fun t =>
    t.spnSt = spnRun ∧ t.flag SPN_STAT_START_DONE = true) ∧
  (∀ (ms : Nat) (s : State), s.runs → s.spnSt = spnAccel → s.spn.win = true → Does (.speedReached (some ms)) s fun t =>
    t.spnSt = spnCoast ∧ t.raw SPN_MEAS_ACCEL_MS = ms % 2 ^ 16) ∧
  (∀ (ke drop : Nat) (s : State), s.runs → s.spnSt = spnCoast → Does (.coastMeasDone ke drop) s fun t =>
    t.spnSt = spnRun ∧ t.raw SPN_KE_KE = ke % 2 ^ 16 ∧ t.flag SPN_J_VALID = true ∧ t.flag SPN_J_MEASURED = true ∧
    t.flag SPN_STAT_J_NEW = true ∧ t.flag SPN_STAT_START_DONE = true) ∧
  (∀ (v : Nat) (s : State), s.runs → Does (.speedTargetWrite v) s fun t => t.raw SPN_SPEED_TARGET = v % 2 ^ 17) ∧
  (∀ s : State, s.runs → s.spn.slewWait = true → s.withinCap = true → Does .slewEntry s fun t =>
    t.spnSt = spnSlew ∧ t.spn.slewWait = false) ∧
  (∀ s : State, s.runs → s.spnSt = spnReacq → s.spn.parkWait = false → Does .reacqTimeout s fun t =>
    t.flag SPN_STAT_REACQ_FAIL = true ∧
    (if s.bothParked then t.spnSt = spnBrake ∧ t.raw SPN_LAST_START_PATH = 3 else t.spnSt = spnReacq ∧ t.spn.parkWait = true)) ∧
  (∀ s : State, s.runs → s.spnSt = spnReacq → s.spn.parkWait = true → s.bothParked = true → Does .reacqBrake s fun t =>
    t.spnSt = spnBrake ∧ t.spn.minMs = 200 ∧ t.spn.stopBrake = false ∧ t.raw SPN_LAST_START_PATH = 3) ∧
  (∀ s : State, s.runs → s.spnSt = spnReacq → s.spn.parkWait = true → s.bothParked = false →
    Does .reacqRetractTimeout s fun t => ∀ a : Fin 2, s.actSt a ≠ actParked → t.actSt a = actRetract) ∧
  (∀ (rpm16 : Nat) (s : State), s.runs → s.spnSt = spnStopping → s.atPct 3 rpm16 = false →
    Does (.stoppingDone rpm16) s fun t => t.spnSt = spnBrake ∧ t.spn.stopBrake = true) ∧
  (∀ (rpm16 : Nat) (s : State), s.spnSt = spnRectify → rpm16 < s.raw SPN_HU_CFG_FLOOR * 1600 →
    Does (.rectifyFloor rpm16) s fun t => t.spnSt = spnOff ∧ t.flag SPN_STAT_RECT_DONE = true) ∧
  (∀ s : State, s.spnSt = spnRectify → s.pwr.below12 = false → s.pwr.below5 = false → s.pwr.rectEn = false →
    Does .rectifyRecovery s fun t => t.spnSt = spnSense ∧ t.raw SPN_LAST_START_PATH = 1) ∧
  (∀ (rpm16 : Nat) (s : State), s.runs → Does (.holdupUpdate rpm16) s fun t =>
    t.raw SPN_SPEED_MEAS_RPM16 = rpm16 % 2 ^ 17 ∧ t.flag SPN_STAT_AT_SPEED = decide (16 ≤ t.spn.atRun) ∧
    (s.spnSt = spnRectify → t.raw SPN_HOLDUP_E_MJ = s.raw SPN_HOLDUP_E_MJ)) ∧
  (∀ (w : Nat) (s : State), s.runs → Does (.spnJWrite w) s fun t =>
    t.flag SPN_J_VALID = bitOf w 31 ∧ t.raw SPN_J_J = w % 2 ^ 20 ∧ t.raw SPN_J_MEASURED = 0) ∧
  (∀ s : State, s.runs → Does (.spinPermitChange true) s fun t => t.flag SPN_CTL_PERMIT = true ∧
    sameRegsBut [SPN_CTL_PERMIT] s t) ∧
  (∀ s : State, s.runs → s.flag SPN_CTL_PERMIT = true → Does (.spinPermitChange false) s fun t =>
    t.raw SPN_CTL_PERMIT = 0 ∧
    (s.spnSt = spnLocate ∨ s.spnSt = spnRamp → t.spnSt = spnOff ∧ t.flag SPN_STAT_PERMIT_LAPSE = true ∧
      t.flag SPN_STAT_START_FAIL = true) ∧
    (s.spnSt = spnAccel → t.spnSt = spnAccel ∧ t.flag SPN_STAT_PERMIT_LAPSE = true))

/-- SRV's demodulation, preamp frames, head selects and shock (R82 to R100): what each command of the servo pages leaves. The model's choices
it rests on: log entries 2, 3, 4 and 44. -/
def Obligations.ServoCommands : Prop :=
  (∀ (a : Fin 2) (s : State), s.runs → Does (.servoEnable a) s fun t =>
    t.flag (SRV_CFG_EN a.val) = true ∧ (s.flag (SRV_CFG_EN a.val) = false → (t.srv[a]).noPreamp = false)) ∧
  (∀ (a : Fin 2) (s : State), s.runs → Does (.servoDisable a) s fun t =>
    t.flag (SRV_CFG_EN a.val) = false ∧ (t.lane a 0).acc = 0 ∧ (t.lane a 0).pos = none ∧ (t.lane a 1).acc = 0 ∧
    (t.lane a 1).pos = none) ∧
  (∀ (a : Fin 2) (v : Word) (s : State), s.runs → s.flag (SRV_PA_CMD_GO a.val) = false → s.paCount a < 15 →
    Does (.paCmdGo a v) s fun t => t.flag (SRV_PA_CMD_GO a.val) = false ∧ t.raw (SRV_PA_CMD_ADDR a.val) = bits v.toNat 8 7 ∧
      t.raw (SRV_PA_CMD_DATA a.val) = bits v.toNat 0 8 ∧ t.flag (SRV_PA_CMD_RD a.val) = bitOf v.toNat 16) ∧
  (∀ (a : Fin 2) (v : Word) (s : State), s.runs → s.flag (SRV_PA_CMD_GO a.val) = false → 15 ≤ s.paCount a →
    Does (.paCmdGo a v) s fun t => t.flag (SRV_PA_CMD_GO a.val) = true ∧ (t.srv[a]).wait = (s.srv[a]).wait ++
      [{ kind := .command, rd := bitOf v.toNat 16, addr := bits v.toNat 8 7, data := bits v.toNat 0 8 }]) ∧
  (∀ (a : Fin 2) (v : Word) (s : State), s.runs → s.flag (SRV_PA_CMD_GO a.val) = true → Does (.paCmdGo a v) s fun t => t = s) ∧
  (∀ (a : Fin 2) (v : Word) (s : State), s.runs → (s.srv[a]).noPreamp = false → bits v.toNat 0 4 ≠ s.raw (SRV_HSEL_HEAD0 a.val) →
    bits v.toNat 8 4 = s.raw (SRV_HSEL_HEAD1 a.val) → bits v.toNat 0 4 ≠ bits v.toNat 8 4 →
    Does (.headSelect a v) s fun t => t.raw (SRV_HSEL_HEAD0 a.val) = bits v.toNat 0 4 ∧
      t.flag (SRV_STAT_HS_REFUSED a.val) = s.flag (SRV_STAT_HS_REFUSED a.val)) ∧
  (∀ (a : Fin 2) (v : Word) (s : State), s.runs → bits v.toNat 0 4 = bits v.toNat 8 4 → bits v.toNat 0 4 < 10 →
    s.raw (SRV_HSEL_HEAD0 a.val) ≠ bits v.toNat 0 4 → Does (.headSelect a v) s fun t =>
      t.flag (SRV_STAT_HS_REFUSED a.val) = true ∧ t.raw (SRV_HSEL_HEAD0 a.val) = s.raw (SRV_HSEL_HEAD0 a.val) ∧
      t.raw (SRV_HSEL_HEAD1 a.val) = s.raw (SRV_HSEL_HEAD1 a.val)) ∧
  (∀ (a l : Fin 2) (s : State), s.runs → Does (.hsSettleDone a l) s fun t =>
    (t.lane a l).settling = false ∧ (t.lane a l).sel = (s.lane a l).sel ∧ sameRegs s t) ∧
  (∀ (a l : Fin 2) (ba bc trk rro : Nat) (vel ref : Int) (s : State), s.runs → s.demod a l = true →
    (s.lane a l).settling = false → (s.lane a l).found = true → Does (.positionWord a l ba ba bc bc trk rro vel ref) s fun t =>
      t.flag (SRV_PES_VALID a.val l.val) = false ∧ t.raw (SRV_PES_PES a.val l.val) = s.raw (SRV_PES_PES a.val l.val)) ∧
  (∀ (a l : Fin 2) (ba bb bc bd trk rro : Nat) (vel ref : Int) (s : State), s.runs → s.demod a l = true →
    (s.lane a l).settling = false → (s.lane a l).found = true → ba ≠ bb → (s.lane a l).idx < 1024 →
    Does (.positionWord a l ba bb bc bd trk rro vel ref) s fun t =>
      t.raw (SRV_PES_WEDGE a.val l.val) = (s.lane a l).idx ∧
      t.flag (SRV_PES_VALID a.val l.val) = (crc4 12 (bits (rro % 65536) 4 12) 0 == rro % 16) ∧
      t.geti (SRV_PES_PES a.val l.val) = satInt 16 ((s.raw (SRV_TGT_TARGET a.val l.val) : Int) -
        positionOf ((ba : Int) - bb) ((bc : Int) - bd) (s.acceptTrk a l (trk % 2 ^ 24) vel).1
          (if crc4 12 (bits (rro % 65536) 4 12) 0 == rro % 16 then sgn 12 (bits (rro % 65536) 4 12) else 0)
          (s.predPos a l vel) fun i => s.geti (SRV_LIN_CORR a.val (s.lane a l).sel i))) ∧
  (∀ (a : Fin 2) (s : State), s.runs → s.actSt a = actAcquire ∨ s.actSt a = actFollow → Does (.coefSwap a) s fun t =>
    t.flag (SRV_COEF_CTL_SWAP a.val) = true ∧ sameRegsBut [SRV_COEF_CTL_SWAP a.val] s t) ∧
  (∀ (a : Fin 2) (s : State), s.runs → s.actSt a ≠ actAcquire → s.actSt a ≠ actFollow → Does (.coefSwap a) s fun t =>
    t.flag (SRV_COEF_CTL_ACTIVE a.val) = !s.flag (SRV_COEF_CTL_ACTIVE a.val) ∧ t.flag (SRV_COEF_CTL_LOADED a.val) = true ∧
    t.flag (SRV_COEF_CTL_SWAP a.val) = false) ∧
  (∀ (a : Fin 2) (s : State), s.runs → (s.srv[a]).handover = true → s.twin a = true → Does (.leadHandover a) s fun t =>
    t.flag (SRV_TWIN_LEAD a.val) = !s.flag (SRV_TWIN_LEAD a.val) ∧ t.flag (SRV_STAT_LEAD_SWAP a.val) = true ∧
    (t.srv[a]).handover = false) ∧
  (∀ (x y z r : BitVec 8) (p : Fin 2) (s : State), s.runs → s.raw QCH_SHOCK_LIN_TH < x.toInt.natAbs →
    Does (.shockSample x y z r) s fun t => t.geti (SRV_SHOCK_NOW_X p.val) = x.toInt ∧ t.geti (SRV_SHOCK_NOW_Y p.val) = y.toInt ∧
      t.geti (SRV_SHOCK_NOW_Z p.val) = z.toInt ∧ t.geti (SRV_SHOCK_NOW_ROT p.val) = r.toInt ∧ t.inv.shockBad = true) ∧
  (∀ (x y z r : BitVec 8) (p : Fin 2) (s : State), s.runs → s.shockBeyond x.toInt y.toInt z.toInt r.toInt = false →
    Does (.shockSample x y z r) s fun t => t.geti (SRV_SHOCK_NOW_X p.val) = x.toInt ∧ t.geti (SRV_SHOCK_NOW_Y p.val) = y.toInt ∧
      t.geti (SRV_SHOCK_NOW_Z p.val) = z.toInt ∧ t.geti (SRV_SHOCK_NOW_ROT p.val) = r.toInt ∧
      t.inv.shockBad = s.inv.shockBad ∧ sameOutside [4 + 2, 7, 3] s t) ∧
  (∀ (a : Fin 2) (s : State), s.runs → s.flag (SRV_SHOCK_FALL_EN a.val) = true → s.shock.calm = true → s.shock.fell = false →
    Does (.freefallDetect a) s fun t => t.flag (SRV_STAT_FREEFALL 0) = true ∧ t.flag (SRV_STAT_FREEFALL 1) = true ∧
      t.shock.fell = true ∧ (∀ b : Fin 2, s.actUp b = true → t.actSt b = actUnloading)) ∧
  (∀ (a : Fin 2) (s : State), s.runs → Does (.preampFault a) s fun t => t.pins.paFault[a] = true)

/-- The end of a preamp frame (R97 to R99), by the source of the frame that was on the wires. The model's choices it rests on: log entries 2,
3, 4 and 50. -/
def Obligations.PreampFrames : Prop :=
  (∀ (a : Fin 2) (data ad w : Nat) (s : State), s.runs → (s.srv[a]).sending = some { kind := .faultRead, rd := true, addr := ad, data := w } →
    Does (.preampFrameDone a data) s fun t => t.raw (SRV_PA_FAULT_CAUSE a.val) = data % 256 ∧ t.flag (SRV_STAT_PA_FAULT a.val) = true) ∧
  (∀ (a : Fin 2) (data ad w : Nat) (s : State), s.runs → (s.srv[a]).sending = some { kind := .idRead, rd := true, addr := ad, data := w } →
    Does (.preampFrameDone a data) s fun t => (t.srv[a]).noPreamp = (data % 256 == 0 || data % 256 == 255)) ∧
  (∀ (a : Fin 2) (data ad w : Nat) (s : State), s.runs → (s.srv[a]).sending = some { kind := .command, rd := true, addr := ad, data := w } →
    Does (.preampFrameDone a data) s fun t => t.raw (SRV_PA_RESP_DATA a.val) = data % 256 ∧ t.flag (SRV_PA_RESP_DONE a.val) = true) ∧
  (∀ (a : Fin 2) (data ad w : Nat) (s : State), s.runs → (s.srv[a]).sending = some { kind := .command, rd := false, addr := ad, data := w } →
    Does (.preampFrameDone a data) s fun t =>
      t.raw (SRV_PA_RESP_DATA a.val) = s.raw (SRV_PA_RESP_DATA a.val) ∧ t.flag (SRV_PA_RESP_DONE a.val) = true ∧
      (ad = s.raw (SRV_PA_MAP_FAULT a.val) ∧ w = 255 → t.pins.paFault[a] = false)) ∧
  (∀ (a l : Fin 2) (data ad w : Nat) (s : State), s.runs → (s.srv[a]).sending = some { kind := .headSelect l, rd := false, addr := ad, data := w } →
    Does (.preampFrameDone a data) s fun t => (t.lane a l).sel = w ∧ (t.lane a l).settling = true ∧ (t.lane a l).found = false) ∧
  (∀ (a : Fin 2) (data ad w : Nat) (s : State), s.runs → (s.srv[a]).sending = some { kind := .modeActive, rd := false, addr := ad, data := w } →
    s.actSt a = actLoading → (s.act[a]).modeWait = true →
    Does (.preampFrameDone a data) s fun t => (t.act[a]).clamp = false ∧ (t.act[a]).modeWait = false) ∧
  (∀ (a : Fin 2) (ch : Fin 4) (data ad w : Nat) (s : State), s.runs →
    (s.srv[a]).sending = some { kind := .temper ch true, rd := false, addr := ad, data := w } →
    Does (.preampFrameDone a data) s fun t => t.bit TPR_STAT_READY ch.val = true ∧ t.flag (TPR_SEL_SEND ch.val) = false) ∧
  (∀ (a : Fin 2) (data : Nat) (s : State), s.runs → (s.srv[a]).sending = none → (s.srv[a]).queue = [] →
    (∀ ch : Fin 4, (s.wch[ch]).tprLeft = []) → Does (.preampFrameDone a data) s fun t => t = s)

/-- Seeks (R103 to R105): requesting, moving, settling, and how each ends. The model's choices it rests on: log entries 2, 3, 4 and 56. -/
def Obligations.SeekCommands : Prop :=
  (∀ (a : Fin 2) (v : Word) (s : State), s.runs → s.raw (SRV_STAT_SEEK_STATE a.val) = 0 → s.actSt a = actFollow → s.wrActive a = false →
    bits v.toNat 16 4 = 0 → Does (.seekGo a v) s fun t =>
      t.raw (SRV_STAT_SEEK_STATE a.val) = 2 ∧ t.flag (SRV_SEEK_GO a.val) = true ∧ t.raw (SRV_SEEK_PROFILE a.val) = 0 ∧
      t.raw (SRV_SEEK_GRANT_WAIT a.val) = bits v.toNat 8 8) ∧
  (∀ (a : Fin 2) (v : Word) (s : State), s.runs → s.raw (SRV_STAT_SEEK_STATE a.val) = 0 → s.actSt a = actFollow → s.wrActive a = false →
    bits v.toNat 16 4 ≠ 0 → Does (.seekGo a v) s fun t =>
      (t.raw (SRV_STAT_SEEK_STATE a.val) = 1 ∨ t.raw (SRV_STAT_SEEK_STATE a.val) = 2) ∧ t.flag (SRV_SEEK_GO a.val) = true ∧
      t.raw (SRV_SEEK_PROFILE a.val) = bits v.toNat 16 4 ∧ (t.srv[a]).prof = bits v.toNat 16 4) ∧
  (∀ (a : Fin 2) (v : Word) (s : State), s.runs → s.raw (SRV_STAT_SEEK_STATE a.val) = 0 → s.actSt a ≠ actFollow ∨ s.wrActive a = true →
    Does (.seekGo a v) s fun t => t.flag (SRV_STAT_SEEK_REFUSED a.val) = true ∧ t.raw (SRV_STAT_SEEK_STATE a.val) = 0) ∧
  (∀ (a : Fin 2) (s : State), s.runs → s.raw (SRV_STAT_SEEK_STATE a.val) = 1 →
    s.raw (SRV_PROF_W0_FALLBACK a.val (s.srv[a]).prof) = 0 → Does (.seekGrantTimeout a) s fun t =>
      t.raw (SRV_STAT_SEEK_STATE a.val) = 2 ∧ (t.srv[a]).prof = 0 ∧ t.flag (SRV_STAT_GRANT_FALLBACK a.val) = true) ∧
  (∀ (a : Fin 2) (s : State), s.runs → s.raw (SRV_STAT_SEEK_STATE a.val) = 1 →
    s.raw (SRV_PROF_W0_FALLBACK a.val (s.srv[a]).prof) ≠ 0 → Does (.seekGrantTimeout a) s fun t =>
      (t.raw (SRV_STAT_SEEK_STATE a.val) = 1 ∨ t.raw (SRV_STAT_SEEK_STATE a.val) = 2) ∧
      (t.srv[a]).prof = s.raw (SRV_PROF_W0_FALLBACK a.val (s.srv[a]).prof) ∧ t.flag (SRV_STAT_GRANT_FALLBACK a.val) = true) ∧
  (∀ (a : Fin 2) (s : State), s.runs → s.raw (SRV_STAT_SEEK_STATE a.val) = 2 → Does (.trajectoryEnd a) s fun t =>
    t.raw (SRV_STAT_SEEK_STATE a.val) = 3 ∧ sameRegsBut [SRV_STAT_SEEK_STATE a.val] s t) ∧
  (∀ (a : Fin 2) (s : State), s.runs → s.raw (SRV_STAT_SEEK_STATE a.val) = 3 → s.settleN a ≤ (s.srv[a]).settleRun →
    Does (.seekSettleDone a) s fun t => t.raw (SRV_STAT_SEEK_STATE a.val) = 0 ∧ t.flag (SRV_SEEK_GO a.val) = false ∧
      t.flag (SRV_STAT_SEEK_DONE a.val) = true ∧
      t.raw (SRV_SEEK_TIME_WEDGES a.val) = sat 16 ((s.ticks - (s.srv[a]).seekAt) / 4096)) ∧
  (∀ (a : Fin 2) (s : State), s.runs → s.raw (SRV_STAT_SEEK_STATE a.val) = 3 → s.settleN a + 64 ≤ (s.srv[a]).settleCnt →
    Does (.seekSettleTimeout a) s fun t => t.raw (SRV_STAT_SEEK_STATE a.val) = 0 ∧ t.flag (SRV_SEEK_GO a.val) = false ∧
      t.flag (SRV_STAT_SEEK_FAIL a.val) = true)

/-- The actuators (R106 to R108): load, unload and retract, what is refused, and how each ends. The retract of the power die runs whether or
not the main die does (R107). The model's choices it rests on: log entries 2, 3, 4 and 58. -/
def Obligations.ActuatorCommands : Prop :=
  (∀ (a : Fin 2) (s : State), s.runs → s.loadOk a = true → Does (.cmdLoad a) s fun t =>
    t.actSt a = actLoading ∧ (t.act[a]).modeWait = true ∧ t.flag ACT_STAT_CMD_REFUSED = s.flag ACT_STAT_CMD_REFUSED) ∧
  (∀ (a : Fin 2) (s : State), s.runs → s.loadOk a = false → Does (.cmdLoad a) s fun t =>
    t.flag ACT_STAT_CMD_REFUSED = true ∧ sameRegsBut [ACT_STAT_CMD_REFUSED] s t) ∧
  (∀ (a : Fin 2) (s : State), s.runs → s.actSt a = actLoading ∨ s.actSt a = actAcquire → Does (.loadTimeout a) s fun t =>
    t.actSt a = actUnloading ∧ t.bit ACT_STAT_LOAD_FAIL a.val = true) ∧
  (∀ (a : Fin 2) (s : State), s.runs → s.pd.safe = false → s.actUp a = true → Does (.cmdUnload a) s fun t =>
    t.actSt a = actUnloading ∧ (t.act[a]).clamp = false) ∧
  (∀ (a : Fin 2) (s : State), s.runs → s.pd.safe = true ∨ s.actUp a = false → Does (.cmdUnload a) s fun t =>
    t.flag ACT_STAT_CMD_REFUSED = true ∧ sameRegsBut [ACT_STAT_CMD_REFUSED] s t) ∧
  (∀ (a : Fin 2) (s : State), s.runs → s.actSt a = actUnloading → Does (.unloadPark a) s fun t =>
    t.actSt a = actParked ∧ (t.act[a]).clamp = true ∧ (t.act[a]).vcm = 0) ∧
  (∀ (a : Fin 2) (s : State), s.runs → s.actSt a = actUnloading → Does (.unloadTimeout a) s fun t =>
    t.actSt a = actRetract ∧ t.bit ACT_STAT_UNLOAD_TO a.val = true) ∧
  (∀ (a : Fin 2) (s : State), s.runs → s.pd.safe = false → s.actSt a ≠ actParked → Does (.cmdRetract a) s fun t =>
    t.actSt a = actRetract) ∧
  (∀ (a : Fin 2) (s : State), s.runs → s.pd.safe = true ∨ s.actSt a = actParked → Does (.cmdRetract a) s fun t =>
    t.flag ACT_STAT_CMD_REFUSED = true ∧ sameRegsBut [ACT_STAT_CMD_REFUSED] s t) ∧
  (∀ (a : Fin 2) (s : State), s.actSt a ≠ actParked → Does (.retractRequest a) s fun t => t.actSt a = actRetract) ∧
  (∀ (a : Fin 2) (s : State), s.actSt a = actParked → Does (.retractRequest a) s fun t => t = s) ∧
  (∀ (a : Fin 2) (s : State), s.actSt a = actRetract → Does (.retractHoldStart a) s fun t =>
    (t.act[a]).holdPhase = true ∧ (t.act[a]).vcm = (s.raw ACT_RETRACT_HOLD_MA : Int) ∧ sameRegs s t) ∧
  (∀ (a : Fin 2) (s : State), s.actSt a = actRetract → (s.act[a]).holdPhase = true → Does (.retractDone a) s fun t =>
    t.actSt a = actParked ∧ (t.act[a]).clamp = true ∧ t.bit ACT_STAT_RET_DONE a.val = true)

/-- Write gates (R60, R62, R63, R123 to R126, R444): what a WG_OPEN and a WG_CLOSE of a ring do when angle reaches their stamp.
`State.atEntry` is the state in which the entry acts. The model's choices it rests on: log entries 2, 3, 4, 40 and 64. -/
def Obligations.WriteGateCommands : Prop :=
  (∀ (a : Fin 2) (e : RingEntry) (s : State), s.runs → s.nextEntry a = some e → e.cls = .wgOpen → (s.atEntry a e).chHeld (e.ch a) = true → ((s.atEntry a e).qch.fifo[e.ch a]).length < 32 →
    Does (.wgOpen a) s fun t => t.qch.fifo[e.ch a] = (s.atEntry a e).qch.fifo[e.ch a] ++
        [{ reason := (s.atEntry a e).holdReason (e.ch a), part := false, pesSign := false, tag := e.tag, angle := (s.atEntry a e).stampWord }] ∧
      t.bit INV_STAT_DROP (actOf (e.ch a)).val = true ∧ t.flag (WCH_CTL_WR_ACTIVE (e.ch a).val) = true ∧
      (t.wch[e.ch a]).gate = ((s.atEntry a e).wch[e.ch a]).gate ∧ t.out = (s.atEntry a e).out) ∧
  (∀ (a : Fin 2) (e : RingEntry) (s : State), s.runs → s.nextEntry a = some e → e.cls = .wgOpen → (s.atEntry a e).chHeld (e.ch a) = true → 32 ≤ ((s.atEntry a e).qch.fifo[e.ch a]).length →
    Does (.wgOpen a) s fun t => t.qch.fifo[e.ch a] = (s.atEntry a e).qch.fifo[e.ch a] ∧ t.flag (QCH_RW_STAT_OVF (e.ch a).val) = true ∧
      (t.wch[e.ch a]).gate = none) ∧
  (∀ (a : Fin 2) (e : RingEntry) (d : WDesc) (s : State), s.runs → s.nextEntry a = some e → e.cls = .wgOpen → (s.atEntry a e).chHeld (e.ch a) = false → (s.atEntry a e).flag QCH_TEST_OUT_HOLD = false →
    (s.atEntry a e).inv.quiet[e.ch a] = false → ((s.atEntry a e).wch[e.ch a]).abandoned.contains e.tag = false → (s.atEntry a e).descOf (e.ch a) e.tag = some d →
    d.ready = true → (s.atEntry a e).bit TPR_STAT_READY (e.ch a).val = true → ((s.atEntry a e).wch[e.ch a]).gate = none →
    (s.atEntry a e).raw (SRV_WIN_WR_START (actOf (e.ch a)).val) ≤ (s.atEntry a e).surfTick ((s.atEntry a e).surfOfCh (e.ch a)) →
    (s.atEntry a e).surfTick ((s.atEntry a e).surfOfCh (e.ch a)) < (s.atEntry a e).raw (SRV_WIN_WR_END (actOf (e.ch a)).val) →
    Does (.wgOpen a) s fun t => (t.wch[e.ch a]).gate = some (e.tag, d.done) ∧
      t.flag (WCH_CTL_WR_ACTIVE (e.ch a).val) = true ∧ t.qch.fifo = (s.atEntry a e).qch.fifo) ∧
  (∀ (a : Fin 2) (e : RingEntry) (s : State), s.runs → s.nextEntry a = some e → e.cls = .wgOpen → (s.atEntry a e).chHeld (e.ch a) = false → (s.atEntry a e).flag QCH_TEST_OUT_HOLD = false →
    (s.atEntry a e).inv.quiet[e.ch a] = false → ((s.atEntry a e).wch[e.ch a]).abandoned.contains e.tag = false → (s.atEntry a e).descOf (e.ch a) e.tag = none →
    Does (.wgOpen a) s fun t => t.flag (WCH_STAT_ORPHAN (e.ch a).val) = true ∧
      bitOf t.qch.trig[actOf (e.ch a)] 7 = true ∧ (t.wch[e.ch a]).gate = none) ∧
  (∀ (a : Fin 2) (e : RingEntry) (k : Nat) (d : WDesc) (s : State), s.runs → s.nextEntry a = some e → e.cls = .wgClose → ((s.atEntry a e).wch[e.ch a]).gate = some (e.tag, k) →
    (s.atEntry a e).descOf (e.ch a) e.tag = some d →
    (s.atEntry a e).isAhead ((s.atEntry a e).deviceTick (surfOf (actOf (e.ch a)) d.head) ((((s.atEntry a e).frags d)[k]?).getD default).wedge
      (fragEnd d ((((s.atEntry a e).frags d)[k]?).getD default))) = true →
    Does (.wgClose a) s fun t => (t.wch[e.ch a]).gate = none ∧ t.flag (WCH_STAT_EARLY_CLOSE (e.ch a).val) = true ∧
      (t.wch[e.ch a]).cq = ((s.atEntry a e).wch[e.ch a]).cq ++ [(3, e.tag)]) ∧
  (∀ (a : Fin 2) (e : RingEntry) (k : Nat) (d : WDesc) (s : State), s.runs → s.nextEntry a = some e → e.cls = .wgClose → ((s.atEntry a e).wch[e.ch a]).gate = some (e.tag, k) →
    (s.atEntry a e).descOf (e.ch a) e.tag = some d →
    (s.atEntry a e).isAhead ((s.atEntry a e).deviceTick (surfOf (actOf (e.ch a)) d.head) ((((s.atEntry a e).frags d)[k]?).getD default).wedge
      (fragEnd d ((((s.atEntry a e).frags d)[k]?).getD default))) = false → ((s.atEntry a e).frags d).length ≤ k + 1 →
    Does (.wgClose a) s fun t => (t.wch[e.ch a]).gate = none ∧ (t.wch[e.ch a]).cq = ((s.atEntry a e).wch[e.ch a]).cq ++ [(0, d.tag)] ∧
      (∀ x ∈ (t.wch[e.ch a]).queue, x.tag ≠ d.tag)) ∧
  (∀ (a l : Fin 2) (tag k : Nat) (s : State), s.runs → (s.wch[chOfLane a l s]).gate = some (tag, k) → Does (.wrEndGuard a l) s fun t =>
    (t.wch[chOfLane a l s]).gate = none ∧ t.flag (SRV_STAT_WR_OVERRUN (actOf (chOfLane a l s)).val) = true ∧
    t.flag (WCH_STAT_OVERRUN (chOfLane a l s).val) = true)

/-- The write path and Temper (R117, R119 to R124, R133, R134, R442): Commits, readiness, WR_ACTIVE, completions, the parity accumulator,
rate-zone entries and SEND. The model's choices it rests on: log entries 2, 3, 4, 61, 62 and 66. -/
def Obligations.WriteCommands : Prop :=
  (∀ (r : Req) (ch : Fin 4) (w7 : Word) (s : State), s.runs → s.wCommitResult ch (s.wDesc r ch w7.toNat) = 0 →
    Does (.writeDescriptorCommit r ch w7) s fun t => t.raw ((WCH_FQ_RESP_RESULT ch.val).of r) = 0 ∧
      t.flag ((WCH_FQ_RESP_DONE ch.val).of r) = true ∧
      (t.wch[ch]).queue = (s.wch[ch]).queue ++ [s.wDesc r ch w7.toNat]) ∧
  (∀ (r : Req) (ch : Fin 4) (w7 : Word) (s : State), s.runs → s.wCommitResult ch (s.wDesc r ch w7.toNat) ≠ 0 →
    Does (.writeDescriptorCommit r ch w7) s fun t =>
      t.raw ((WCH_FQ_RESP_RESULT ch.val).of r) = s.wCommitResult ch (s.wDesc r ch w7.toNat) ∧
      t.flag ((WCH_FQ_RESP_DONE ch.val).of r) = true ∧ (t.wch[ch]).queue = (s.wch[ch]).queue ∧
      (s.wCommitResult ch (s.wDesc r ch w7.toNat) = 2 → t.flag (WCH_STAT_RZ_BAD ch.val) = true)) ∧
  (∀ (ch : Fin 4) (tag : Nat) (d : WDesc) (s : State), s.runs → s.descOf ch tag = some d → d.ready = false → s.descReadable d = true →
    ((s.wch[ch]).queue.filter fun x => x.ready).length < 3 → Does (.descriptorReady ch tag) s fun t =>
      (∃ x, t.descOf ch tag = some x ∧ x.ready = true ∧
        x.info = infoPart d (if d.pmode = 2 then (s.wch[ch]).acc else s.frameFields d)) ∧
      (d.pmode = 1 ∧ bitOf (s.wch[ch]).mask (d.slot % 65) = false →
        bitOf (t.wch[ch]).mask (d.slot % 65) = true ∧ (t.wch[ch]).acc = (s.wch[ch]).acc ^^^ s.frameFields d)) ∧
  (∀ (ch : Fin 4) (s : State), s.runs → Does (.wrActiveSet ch) s fun t =>
    t.flag (WCH_CTL_WR_ACTIVE ch.val) = true ∧ sameRegsBut [WCH_CTL_WR_ACTIVE ch.val] s t) ∧
  (∀ (ch : Fin 4) (s : State), s.runs → (s.wch[ch]).gate = none → (s.wch[ch]).assist = false → (s.wch[ch]).queue = [] →
    Does (.wrActiveClear ch) s fun t => t.flag (WCH_CTL_WR_ACTIVE ch.val) = false ∧ (t.wch[ch]).abandoned = [] ∧
      sameRegsBut [WCH_CTL_WR_ACTIVE ch.val] s t) ∧
  (∀ (ch : Fin 4) (s : State), s.runs → (s.wch[ch]).gate ≠ none ∨ (s.wch[ch]).assist = true ∨ (s.wch[ch]).queue ≠ [] →
    Does (.wrActiveClear ch) s fun t => t.flag (WCH_STAT_WA_REFUSED ch.val) = true ∧
      t.flag (WCH_CTL_WR_ACTIVE ch.val) = s.flag (WCH_CTL_WR_ACTIVE ch.val)) ∧
  (∀ (ch : Fin 4) (s : State), s.runs → Does (.writeCompletionPop ch) s fun t =>
    (t.wch[ch]).cq = (s.wch[ch]).cq.tail ∧ (t.wch[ch]).queue = (s.wch[ch]).queue ∧ sameRegs s t) ∧
  (∀ (ch : Fin 4) (s : State), s.runs → s.wTpBusy ch = true → Does (.wchTpSave ch) s fun t =>
    t.flag (WCH_STAT_TP_REFUSED ch.val) = true ∧ sameDram s t) ∧
  (∀ (ch : Fin 4) (s : State), s.runs → s.wTpBusy ch = false → Does (.wchTpRestore ch) s fun t =>
    (t.wch[ch]).acc = beNat (s.dramBytes (s.raw (WCH_TP_ADDR_ADDR ch.val) * 64) 4116) ∧
    (t.wch[ch]).mask = s.dramLe (s.raw (WCH_TP_ADDR_ADDR ch.val) * 64 + 4116) 8 ∧ sameRegs s t) ∧
  (∀ (ch : Fin 4) (s : State), s.runs → s.wTpBusy ch = false → Does (.wchTpClear ch) s fun t =>
    (t.wch[ch]).acc = 0 ∧ (t.wch[ch]).mask = 0 ∧ sameRegs s t) ∧
  (∀ (ch : Fin 4) (s : State), s.runs → s.wTpBusy ch = false → (s.wch[ch]).mask < 2 ^ 64 → s.raw (WCH_TP_ADDR_ADDR ch.val) * 64 + 4160 ≤ dramSize →
    Does (.wchTpSave ch) s fun t =>
    (∀ i, i < 8 → t.dramByte (s.raw (WCH_TP_ADDR_ADDR ch.val) * 64 + 4116 + i) = BitVec.ofNat 8 ((s.wch[ch]).mask / 256 ^ i)) ∧
    (∀ a, (a < s.raw (WCH_TP_ADDR_ADDR ch.val) * 64 ∨ s.raw (WCH_TP_ADDR_ADDR ch.val) * 64 + 4160 ≤ a) →
      t.dramByte a = s.dramByte a)) ∧
  (∀ (a : Fin 2) (h : Fin 10) (z : Fin 64) (v : Word) (s : State), s.runs → Does (.rateZoneWrite a h z 0 v) s fun t =>
    t.raw (WCH_RZ_W0_START_TRK a.val h.val z.val) = bits v.toNat 0 24) ∧
  (∀ (a : Fin 2) (h : Fin 10) (z : Fin 64) (v : Word) (s : State), s.runs → Does (.rateZoneWrite a h z 1 v) s fun t =>
    t.raw (WCH_RZ_W1_CODE a.val h.val z.val) = bits v.toNat 24 4 ∧ t.raw (WCH_RZ_W1_BPW a.val h.val z.val) = bits v.toNat 0 17) ∧
  (∀ (a : Fin 2) (h : Fin 10) (z : Fin 64) (v : Word) (s : State), s.runs → Does (.rateZoneWrite a h z 2 v) s fun t =>
    t.raw (WCH_RZ_W2_SPT a.val h.val z.val) = bits v.toNat 16 12 ∧
    t.raw (WCH_RZ_W2_TRK_SKEW a.val h.val z.val) = bits v.toNat 0 10) ∧
  (∀ (a : Fin 2) (h : Fin 10) (z : Fin 64) (v : Word) (s : State), s.runs → Does (.rateZoneWrite a h z 3 v) s fun t =>
    t.raw (WCH_RZ_W3_PC2 a.val h.val z.val) = bits v.toNat 8 5 ∧ t.raw (WCH_RZ_W3_PC1 a.val h.val z.val) = bits v.toNat 0 5) ∧
  (∀ (ch : Fin 4) (v : Word) (s : State), s.runs → Does (.tprSend ch v) s fun t =>
    t.raw (TPR_SEL_HEAD ch.val) = bits v.toNat 8 4 ∧ t.raw (TPR_SEL_RZ ch.val) = bits v.toNat 0 6 ∧
    t.flag (TPR_SEL_SEND ch.val) = true ∧ t.bit TPR_STAT_READY ch.val = false)

/-- The read channels (R142, R146 to R157, R162, R442): commits, captures, in-line decodes, completions, the active set, routing, sample slots
and read parity. The model's choices it rests on: log entries 2, 3, 4, 67 and 68. -/
def Obligations.ReadCommands : Prop :=
  (∀ (r : Req) (ch : Fin 4) (w7 : Word) (s : State), s.runs → s.rCommitResult ch (s.rDesc r ch) = 0 →
    Does (.readDescriptorCommit r ch w7) s fun t => t.raw ((RCH_FQ_RESP_RESULT ch.val).of r) = 0 ∧
      t.flag ((RCH_FQ_RESP_DONE ch.val).of r) = true ∧ (t.rch[ch]).queue = (s.rch[ch]).queue ++ [s.rDesc r ch]) ∧
  (∀ (r : Req) (ch : Fin 4) (w7 : Word) (s : State), s.runs → s.rCommitResult ch (s.rDesc r ch) ≠ 0 →
    Does (.readDescriptorCommit r ch w7) s fun t =>
      t.raw ((RCH_FQ_RESP_RESULT ch.val).of r) = s.rCommitResult ch (s.rDesc r ch) ∧
      t.flag ((RCH_FQ_RESP_DONE ch.val).of r) = true ∧ t.rch = s.rch) ∧
  (∀ (ch : Fin 4) (tag : Nat) (d : RDesc) (s : State), s.runs → (s.rch[ch]).queue.find? (fun x => x.w.tag == tag) = some d →
    (s.rch[ch]).opens.any (fun e => e.1 == tag) = false → Does (.captureSpanStart ch tag) s fun t =>
      (t.rch[ch]).opens = (s.rch[ch]).opens ++ [(tag, (s.rch[ch]).nextSlot)] ∧
      (t.sslot ch (s.rch[ch]).nextSlot).desc = d ∧ (t.sslot ch (s.rch[ch]).nextSlot).stamp = s.inv.now) ∧
  (∀ (ch : Fin 4) (tag samples run g0 g1 : Nat) (m : List (Int × Nat)) (rs : List (List (Int × Nat))) (taps : List Nat)
      (ovf : Nat × Nat × Nat) (d : RDesc) (s : State), s.runs → (s.rch[ch]).queue.find? (fun x => x.w.tag == tag) = some d →
    Does (.captureSpanEnd ch tag .none samples m rs run g0 g1 taps ovf) s fun t =>
      t.flag (RCH_STAT_DROPPED ch.val) = true ∧ (∀ x ∈ (t.rch[ch]).queue, x.w.tag ≠ tag) ∧
      ∃ c, (t.rch[ch]).cq = (s.rch[ch]).cq ++ [c] ∧ c.status = 6 ∧ c.tag = tag) ∧
  (∀ (ch : Fin 4) (tag samples run g0 g1 : Nat) (m : List (Int × Nat)) (rs : List (List (Int × Nat))) (taps : List Nat)
      (ovf : Nat × Nat × Nat) (d : RDesc) (s : State), s.runs → (s.rch[ch]).queue.find? (fun x => x.w.tag == tag) = some d →
    s.frameMark ch d.w m rs = none → Does (.captureSpanEnd ch tag .whole samples m rs run g0 g1 taps ovf) s fun t =>
      t.flag (RCH_STAT_MISS ch.val) = true ∧
      ∃ c, (t.rch[ch]).cq = (s.rch[ch]).cq ++ [c] ∧ c.status = 3 ∧ c.tag = tag ∧ c.slot = (s.rch[ch]).captureSlot tag) ∧
  (∀ (ch : Fin 4) (tag samples run g0 g1 : Nat) (m : List (Int × Nat)) (rs : List (List (Int × Nat))) (taps : List Nat)
      (ovf : Nat × Nat × Nat) (d : RDesc) (o : Int) (s : State), s.runs →
    (s.rch[ch]).queue.find? (fun x => x.w.tag == tag) = some d → s.frameMark ch d.w m rs = some o → (s.rch[ch]).cur = none →
    (s.rch[ch]).wait = [] → 0 < s.get (RCH_CTL_INQ_LIM ch.val) →
    Does (.captureSpanEnd ch tag .whole samples m rs run g0 g1 taps ovf) s fun t =>
      (t.rch[ch]).cur = some ((s.rch[ch]).captureSlot tag) ∧ (t.rch[ch]).cq = (s.rch[ch]).cq ∧
      (t.sslot ch ((s.rch[ch]).captureSlot tag)).mark = some o ∧
      (t.sslot ch ((s.rch[ch]).captureSlot tag)).samples = samples ∧
      t.flag (RCH_FRAME_OFS_VALID ch.val) = true ∧ t.raw (RCH_FRAME_OFS_HEAD ch.val) = d.w.head % 16) ∧
  (∀ (ch : Fin 4) (run : DecRun) (k : Nat) (o : DecOut) (s : State), s.runs → (s.rch[ch]).cur = some k →
    s.decode (s.get (RCH_ACT_W2_GLOBAL_MAX ch.val)) (s.get (RCH_ACT_W2_LOCAL_MAX ch.val)) (s.flag RCH_STOP_ET_INL)
      (s.sslot ch k).desc run = some o → Does (.inlineDecodeDone ch run) s fun t =>
      (t.rch[ch]).cur = (s.rch[ch]).wait.head? ∧ (t.rch[ch]).wait = (s.rch[ch]).wait.tail ∧
      ∃ c, (t.rch[ch]).cq = (s.rch[ch]).cq ++ [c] ∧ c.status = o.status ∧ c.tag = (s.sslot ch k).desc.w.tag ∧
        c.giter = o.giter ∧ c.slot = k ∧ c.unsat = o.u) ∧
  (∀ (ch : Fin 4) (s : State), s.runs → Does (.readCompletionPop ch) s fun t =>
    (t.rch[ch]).cq = (s.rch[ch]).cq.tail ∧ (t.rch[ch]).queue = (s.rch[ch]).queue ∧ sameRegs s t) ∧
  (∀ (ch : Fin 4) (v : Word) (s : State), s.runs → Does (.activeSetLoad ch v) s fun t =>
    t.raw (RCH_SEL_HEAD ch.val) = bits v.toNat 8 4 ∧ t.raw (RCH_SEL_RZ ch.val) = bits v.toNat 0 6 ∧
    t.flag (RCH_SEL_LOAD ch.val) = true ∧ t.flag (RCH_SEL_READY ch.val) = false) ∧
  (∀ (ch : Fin 4) (s : State), s.runs → s.flag (RCH_SEL_LOAD ch.val) = true → s.spanOpen ch = false →
    Does (.activeSetCopy ch) s fun t => t.flag (RCH_SEL_LOAD ch.val) = false ∧ t.flag (RCH_SEL_READY ch.val) = true ∧
      (∀ p ∈ actSetPairs ch.val ((actOf ch).val * 10 + s.get (RCH_SEL_HEAD ch.val)) (s.raw (RCH_SEL_RZ ch.val)),
        t.raw p.1 = s.raw p.2)) ∧
  (∀ (v : Word) (s : State), s.runs → pairClash (v.toNat % 16) (fun c => s.flag (RCH_CTL_EN c.val)) = false →
    Does (.xbarWrite v) s fun t => t.raw RCH_XBAR_SRC = v.toNat % 16 ∧ sameRegsBut [RCH_XBAR_SRC] s t) ∧
  (∀ (v : Word) (s : State), s.runs → pairClash (v.toNat % 16) (fun c => s.flag (RCH_CTL_EN c.val)) = true →
    Does (.xbarWrite v) s fun t => t.flag RCH_GSTAT_XBAR_REFUSED = true ∧ sameRegsBut [RCH_GSTAT_XBAR_REFUSED] s t) ∧
  (∀ (ch : Fin 4) (k : Fin 64) (s : State), s.runs → (s.rch[ch]).pinned < 32 → Does (.sampleSlotPin ch k) s fun t =>
    bitOf (t.rch[ch]).pins k.val = true ∧ t.flag (RCH_STAT_PIN_FULL ch.val) = s.flag (RCH_STAT_PIN_FULL ch.val)) ∧
  (∀ (ch : Fin 4) (k : Fin 64) (s : State), s.runs → 32 ≤ (s.rch[ch]).pinned → bitOf (s.rch[ch]).pins k.val = false →
    Does (.sampleSlotPin ch k) s fun t => t.flag (RCH_STAT_PIN_FULL ch.val) = true ∧ (t.rch[ch]).pins = (s.rch[ch]).pins) ∧
  (∀ (ch : Fin 4) (k : Fin 64) (s : State), s.runs → Does (.sampleSlotUnpin ch k) s fun t =>
    bitOf (t.rch[ch]).pins k.val = false ∧ (∀ j : Nat, j ≠ k.val → bitOf (t.rch[ch]).pins j = bitOf (s.rch[ch]).pins j)) ∧
  (∀ (ch : Fin 4) (k : Fin 64) (s : State), s.runs → bitOf (s.rch[ch]).pins k.val = true →
    (s.sslot ch k.val).desc.w.pmode = 1 → popcount 65 (s.rch[ch]).bits65 = 64 →
    bitOf (s.rch[ch]).bits65 ((s.sslot ch k.val).desc.w.slot % 65) = false →
    Does (.rebuild ch k) s fun t => ∃ c, (t.rch[ch]).cq = (s.rch[ch]).cq ++ [c] ∧ c.slot = k.val ∧
      c.status = (if crcOk (s.rch[ch]).acc (s.sslot ch k.val).desc.w.hlba then 8 else 9) ∧
      c.tag = (s.sslot ch k.val).desc.w.tag) ∧
  (∀ (ch : Fin 4) (k : Fin 64) (s : State), s.runs → bitOf (s.rch[ch]).pins k.val = false → Does (.rebuild ch k) s fun t =>
    t.flag (RCH_STAT_TP_REFUSED ch.val) = true ∧ t.rch = s.rch ∧ sameDram s t) ∧
  (∀ (ch : Fin 4) (s : State), s.runs → s.memberJob ch = true → Does (.rchTpSave ch) s fun t =>
    t.flag (RCH_STAT_TP_REFUSED ch.val) = true ∧ sameDram s t) ∧
  (∀ (ch : Fin 4) (s : State), s.runs → s.memberJob ch = false → Does (.rchTpSave ch) s fun t =>
    t.dramByte (s.raw (RCH_TP_ADDR_ADDR ch.val) * 64 + 4124) = BitVec.ofNat 8 (b2n (s.rch[ch]).par) ∧
    (∀ a, (a < s.raw (RCH_TP_ADDR_ADDR ch.val) * 64 ∨ s.raw (RCH_TP_ADDR_ADDR ch.val) * 64 + 4160 ≤ a) →
      t.dramByte a = s.dramByte a)) ∧
  (∀ (ch : Fin 4) (s : State), s.runs → s.memberJob ch = false → Does (.rchTpRestore ch) s fun t =>
    (t.rch[ch]).acc = beNat (s.dramBytes (s.raw (RCH_TP_ADDR_ADDR ch.val) * 64) 4116) ∧
    (t.rch[ch]).mask = s.dramLe (s.raw (RCH_TP_ADDR_ADDR ch.val) * 64 + 4116) 8 ∧ sameRegs s t) ∧
  (∀ (ch : Fin 4) (s : State), s.runs → s.memberJob ch = false → Does (.rchTpClear ch) s fun t =>
    (t.rch[ch]).acc = 0 ∧ (t.rch[ch]).mask = 0 ∧ (t.rch[ch]).par = false ∧ sameRegs s t)

/-- Deep decoding, the binding of decoders, and what the channel-format role does for a frame (R135, R158 to R164, R442). The model's choices
it rests on: log entries 2, 3, 4 and 73. -/
def Obligations.DeepCommands : Prop :=
  (∀ (r : Req) (w1 : Word) (s : State), s.runs → s.djResult (s.dJob r w1.toNat) = 0 → Does (.deepJobCommit r w1) s fun t =>
    t.raw (RCH_DJ_RESP_RESULT.of r) = 0 ∧ t.flag (RCH_DJ_RESP_DONE.of r) = true ∧
    t.deep.jobs = s.deep.jobs ++ [s.dJob r w1.toNat]) ∧
  (∀ (r : Req) (w1 : Word) (s : State), s.runs → s.djResult (s.dJob r w1.toNat) ≠ 0 → Does (.deepJobCommit r w1) s fun t =>
    t.raw (RCH_DJ_RESP_RESULT.of r) = s.djResult (s.dJob r w1.toNat) ∧ t.flag (RCH_DJ_RESP_DONE.of r) = true ∧ t.deep = s.deep) ∧
  (∀ (d : Fin 6) (i : Nat) (j : DJob) (s : State), s.runs → s.idleDeep.find? (fun d => s.granted (decSlot d)) = some d →
    (s.nextJob true).or (s.nextJob false) = some i → s.deep.jobs[i]? = some j → Does .deepJobStart s fun t =>
      t.deep.run[d] = some (j, s.ticks) ∧ t.deep.jobs = s.deep.jobs.eraseIdx i) ∧
  (∀ (d : Fin 6) (j : DJob) (n : Nat) (marks : List (Int × Nat)) (screens : List Nat) (runs : List DecRun) (o : DecOut) (ofs : Int)
      (s : State), s.runs → s.deep.run[d] = some (j, n) → s.deepOutcome j marks screens runs = some (o, ofs) →
    Does (.deepJobDone d marks screens runs) s fun t => t.deep.run[d] = none ∧
      t.deep.cq = s.deep.cq ++ [{ dec := d.val, status := o.status, ch := j.ch.val, slot := j.slot, ofs, giter := o.giter,
                                  mode := j.mode, tag := j.tag }] ∧
      (o.status = 0 → j.release = true → bitOf (t.rch[j.ch]).pins j.slot = false)) ∧
  (∀ (s : State), s.runs → Does .deepCompletionPop s fun t => t.deep.cq = s.deep.cq.tail ∧ t.deep.jobs = s.deep.jobs ∧ sameRegs s t) ∧
  (∀ (v : Word) (s : State), s.runs → s.mapRefused v.toNat = false → Does (.decoderRebind v) s fun t =>
    t.raw RCH_DEC_MAP_CH0 = bits v.toNat 0 3 ∧ t.raw RCH_DEC_MAP_CH1 = bits v.toNat 4 3 ∧
    t.raw RCH_DEC_MAP_CH2 = bits v.toNat 8 3 ∧ t.raw RCH_DEC_MAP_CH3 = bits v.toNat 12 3 ∧
    t.flag RCH_GSTAT_MAP_REFUSED = s.flag RCH_GSTAT_MAP_REFUSED) ∧
  (∀ (v : Word) (s : State), s.runs → s.mapRefused v.toNat = true → Does (.decoderRebind v) s fun t =>
    t.flag RCH_GSTAT_MAP_REFUSED = true ∧ sameRegsBut [RCH_GSTAT_MAP_REFUSED] s t ∧ t.deep = s.deep) ∧
  (∀ (ch : Fin 4) (k : Fin 64) (limited : Bool) (first : LadderTry) (tries : List LadderTry) (n : Nat) (s : State), s.runs →
    first.status ≠ 0 →
    (climb (s.raw RCH_LADDER_MISFRAME) (s.raw RCH_LADDER_REREAD_MAX) (s.raw RCH_LADDER_REV_MAX)
      (s.groupWaits ch (s.sslot ch k.val).desc) limited
      { tries, status := first.status, u := first.u, ta := first.ta, step := none, short := false }).short = false →
    (climb (s.raw RCH_LADDER_MISFRAME) (s.raw RCH_LADDER_REREAD_MAX) (s.raw RCH_LADDER_REV_MAX)
      (s.groupWaits ch (s.sslot ch k.val).desc) limited
      { tries, status := first.status, u := first.u, ta := first.ta, step := none, short := false }).step = some n →
    Does (.retryLadder ch k limited first tries) s fun t =>
      t.out = s.out ++ [.frameRecovered ch (s.sslot ch k.val).desc.w.tag n] ∧ sameRegs s t) ∧
  (∀ (ch : Fin 4) (tag slot : Nat) (s : State), s.runs → (s.qch.fifo[ch]).any (fun r => r.tag == tag) = true →
    tabLook 0 (s.wch[ch]).tries slot < s.raw (WCH_CTL_RW_LIM ch.val) → Does (.frameRewrite ch tag slot) s fun t =>
      t.out = s.out ++ [.frameRewrite ch tag slot] ∧ sameRegs s t) ∧
  (∀ (ch : Fin 4) (tag slot : Nat) (s : State), s.runs → (s.qch.fifo[ch]).any (fun r => r.tag == tag) = true →
    s.raw (WCH_CTL_RW_LIM ch.val) ≤ tabLook 0 (s.wch[ch]).tries slot → Does (.frameRewrite ch tag slot) s fun t =>
      t.out = s.out ++ [.sectorMove ch tag slot] ∧ sameRegs s t)

/-- The extent cache (R187 to R192): enabling, invalidation, locks and ways. The model's choices it rests on: log entries 2, 3, 4, 18 and 78. -/
def Obligations.CacheCommands : Prop :=
  (∀ (s : State), s.runs → Does .invAll s fun t =>
    t.xlt.main = [] ∧ t.xlt.evb = [] ∧ t.xlt.vic = [] ∧ t.flag XCC_STAT_INV_CLEAN = true ∧ sameRegsBut [XCC_STAT_INV_CLEAN] s t) ∧
  (∀ (s : State), s.runs → s.flag XCC_STAT_INV_CLEAN = true → Does .cacheEnable s fun t =>
    t.flag XCC_CTL_EN = true ∧ sameRegsBut [XCC_CTL_EN] s t) ∧
  (∀ (s : State), s.runs → s.flag XCC_STAT_INV_CLEAN = false → Does .cacheEnable s fun t =>
    t.flag XCC_STAT_EN_REFUSED = true ∧ sameRegsBut [XCC_STAT_EN_REFUSED] s t) ∧
  (∀ (last : Fin 1048576) (s : State), s.runs → Does (.rangeInvalidate last) s fun t =>
    t.raw XCC_INV_HI_LAST = last.val ∧
    (∀ e ∈ t.xlt.main, ∀ x, e.2 = some x → ¬(s.raw XCC_INV_LO_FIRST ≤ x.line ∧ x.line ≤ last.val)) ∧
    (∀ x ∈ t.xlt.evb, ¬(s.raw XCC_INV_LO_FIRST ≤ x.line ∧ x.line ≤ last.val)) ∧
    (∀ x ∈ t.xlt.vic, ¬(s.raw XCC_INV_LO_FIRST ≤ x.line ∧ x.line ≤ last.val))) ∧
  (∀ (l : Fin 1048576) (s : State), s.runs → s.lineLocked l.val = true → Does (.lineLock l) s fun t =>
    t.flag XCC_LOCK_UNLOCK = false ∧ t.raw XCC_LOCK_LINE = l.val ∧ t.xlt = s.xlt ∧
    t.flag XCC_STAT_LOCK_REFUSED = s.flag XCC_STAT_LOCK_REFUSED) ∧
  (∀ (l : Fin 1048576) (s : State), s.runs → s.lineLocked l.val = false → s.lockWay l.val = none → Does (.lineLock l) s fun t =>
    t.flag XCC_STAT_LOCK_REFUSED = true ∧ t.xlt = s.xlt) ∧
  (∀ (l : Fin 1048576) (w : Nat) (s : State), s.runs → s.lineLocked l.val = false → s.lockWay l.val = some w → s.xfind l.val = none →
    s.xvictim l.val = none → s.dramOk (s.mapBase + l.val * 64) 64 = true → Does (.lineLock l) s fun t =>
      t.xway (xSet l.val) w = some { line := l.val, data := s.dramLe (s.mapBase + l.val * 64) 64, locked := true } ∧
      t.flag XCC_STAT_LOCK_REFUSED = s.flag XCC_STAT_LOCK_REFUSED) ∧
  (∀ (l : Fin 1048576) (s : State), s.runs → Does (.lineUnlock l) s fun t =>
    t.flag XCC_LOCK_UNLOCK = true ∧ t.raw XCC_LOCK_LINE = l.val ∧
    (∀ w, s.xfind l.val = some w → t.wayLocked (xSet l.val) w = false)) ∧
  (∀ (v : Fin 256) (s : State), s.runs → v.val = 255 → Does (.wayDisable v) s fun t =>
    t.flag XCC_STAT_WAY_REFUSED = true ∧ sameRegsBut [XCC_STAT_WAY_REFUSED] s t ∧ t.xlt = s.xlt) ∧
  (∀ (v : Fin 256) (s : State), s.runs → v.val ≠ 255 → Does (.wayDisable v) s fun t =>
    t.raw XCC_CTL_WAY_DIS = v.val ∧ (∀ e ∈ t.xlt.main, bitOf v.val (e.1 % 8) = true → s.wayOff (e.1 % 8) = false → e.2 = none))

/-- Lookups, journal records and what role XL1 does with the map (R173 to R186, R205, R442). The model's choices it rests on: log entries 2,
3, 4, 81, 82 and 83. -/
def Obligations.TranslationCommands : Prop :=
  (∀ (r : Req) (w3 : Word) (s : State), s.runs → s.flag XLT_CFG_EN = true → s.xlt.lookups.length < 16 →
    s.xlt.lookups.length + s.xlt.cq.length < 32 → Does (.lookupCommit r w3) s fun t =>
      t.raw (XLT_LK_RESP_RESULT.of r) = 0 ∧ t.flag (XLT_LK_RESP_DONE.of r) = true ∧
      t.xlt.lookups.length = s.xlt.lookups.length + 1) ∧
  (∀ (r : Req) (w3 : Word) (s : State), s.runs → s.flag XLT_CFG_EN = true →
    16 ≤ s.xlt.lookups.length ∨ 32 ≤ s.xlt.lookups.length + s.xlt.cq.length → Does (.lookupCommit r w3) s fun t =>
      t.raw (XLT_LK_RESP_RESULT.of r) = 1 ∧ t.flag (XLT_LK_RESP_DONE.of r) = true ∧ t.xlt = s.xlt) ∧
  (∀ (r : Req) (w3 : Word) (s : State), s.runs → s.flag XLT_CFG_EN = false → Does (.lookupCommit r w3) s fun t =>
    t.raw (XLT_LK_RESP_RESULT.of r) = 2 ∧ t.flag (XLT_LK_RESP_DONE.of r) = true ∧ t.xlt = s.xlt) ∧
  (∀ (tag : Nat) (bad : List (Nat × Nat)) (k : Lookup) (s : State), s.runs →
    s.xlt.lookups.find? (fun k => k.tag == tag && !k.waits) = some k → s.lkValid k = true → Does (.lookupDone tag bad) s fun t =>
      t.flag XLT_STAT_LK_DONE = true ∧ t.xlt.lookups = s.xlt.lookups.erase k ∧
      ∃ c, t.xlt.cq = s.xlt.cq ++ [c] ∧ c.tag = tag ∧ c.status ≠ 2 ∧ c.status ≤ 5 ∧
        (c.status = 0 → c.next = 0)) ∧
  (∀ (tag : Nat) (bad : List (Nat × Nat)) (k : Lookup) (s : State), s.runs →
    s.xlt.lookups.find? (fun k => k.tag == tag && !k.waits) = some k → s.lkValid k = false → Does (.lookupDone tag bad) s fun t =>
      t.flag XLT_STAT_LK_DONE = true ∧ t.xlt.lookups = s.xlt.lookups.erase k ∧
      t.xlt.cq = s.xlt.cq ++ [{ status := 2, tag, frags := 0, next := 0 }] ∧ sameDram s t) ∧
  (∀ (s : State), s.runs → Does .lookupCompletionPop s fun t =>
    t.xlt.cq = s.xlt.cq.tail ∧ t.xlt.lookups = s.xlt.lookups ∧ sameRegs s t) ∧
  (∀ (addr : Nat) (s : State), s.runs → s.flag XLT_CFG_EN = true → s.flag XLT_UPD_RESP_BUSY = false →
    s.recCheck (addr % 2 ^ 28 * 64) = 0 → Does (.recordCommit addr) s fun t =>
      t.xlt.applying = some (addr % 2 ^ 28 * 64) ∧ t.flag XLT_UPD_RESP_BUSY = true ∧ t.flag XLT_UPD_RESP_DONE = false) ∧
  (∀ (addr : Nat) (s : State), s.runs → s.flag XLT_CFG_EN = true → s.flag XLT_UPD_RESP_BUSY = false →
    s.recCheck (addr % 2 ^ 28 * 64) ≠ 0 → Does (.recordCommit addr) s fun t =>
      t.xlt = s.xlt ∧ t.raw XLT_UPD_RESP_RESULT = s.recCheck (addr % 2 ^ 28 * 64) ∧ t.flag XLT_UPD_RESP_DONE = true ∧
      t.flag XLT_STAT_UPD_REFUSED = true ∧ sameDram s t) ∧
  (∀ (addr : Nat) (s : State), s.runs → s.flag XLT_CFG_EN = false ∨ s.flag XLT_UPD_RESP_BUSY = true → Does (.recordCommit addr) s fun t =>
    t.xlt = s.xlt ∧ t.raw XLT_UPD_RESP_RESULT = (if s.flag XLT_CFG_EN then 5 else 4) ∧ t.flag XLT_STAT_UPD_REFUSED = true) ∧
  (∀ (a : Nat) (s : State), s.runs → s.xlt.applying = some a → s.xlt.lookups.any (fun k => !k.waits && s.lkBlocked k) = false →
    Does .recordApplied s fun t => t.xlt.applying = none ∧ t.flag XLT_UPD_RESP_BUSY = false ∧ t.raw XLT_UPD_RESP_RESULT = 0 ∧
      t.flag XLT_UPD_RESP_DONE = true ∧ t.flag XLT_STAT_UPD_DONE = true ∧ (∀ k ∈ t.xlt.lookups, k.waits = false)) ∧
  (∀ (a : Nat) (s : State), s.runs → s.xlt.applying = some a → s.xlt.lookups.any (fun k => !k.waits && s.lkBlocked k) = true →
    Does .recordApplied s fun t => t = s) ∧
  (∀ (s : State), s.runs → Does .checkpoint s fun t =>
    (∃ c, t.xl1.ckpts[(if s.slot0Older then 0 else 1 : Fin 4)] = some c ∧ c.jseq = s.raw XLT_JSEQ_JSEQ ∧ c.seq = s.xl1.seq ∧
      c.bands = s.xl1.bands ∧ t.xl1.ckpts[(2 : Fin 4)] = some c ∧ t.xl1.ckpts[(3 : Fin 4)] = some c) ∧
    t.xl1.ckpts[(if s.slot0Older then 1 else 0 : Fin 4)] = s.xl1.ckpts[(if s.slot0Older then 1 else 0 : Fin 4)] ∧
    sameRegs s t ∧ sameDram s t) ∧
  (∀ (p0 p1 p2 p3 : Bool) (images : List (Nat × Nat × Bool)) (seqs : List Nat) (s : State), s.runs →
    s.loadedCkpt (fun i => match i with | 0 => p0 | 1 => p1 | 2 => p2 | 3 => p3) = none →
    Does (.mapRebuild p0 p1 p2 p3 [] images seqs) s fun t => t.xlt.main = [] ∧ t.xlt.evb = [] ∧ t.xlt.vic = [] ∧
      t.flag XLT_STAT_REBUILT = s.flag XLT_STAT_REBUILT ∧ t.xl1.seq = (seqs.foldl max s.xl1.seq + 1) % 2 ^ 40 ∧ sameDram s t) ∧
  (∀ (a : Nat) (p0 p1 p2 p3 : Bool) (images : List (Nat × Nat × Bool)) (seqs : List Nat) (s : State), s.runs →
    s.loadedCkpt (fun i => match i with | 0 => p0 | 1 => p1 | 2 => p2 | 3 => p3) = none →
    s.raw XLT_JSEQ_JSEQ < s.recJseq (a * 64) → s.recCheck (a * 64) ≠ 0 →
    Does (.mapRebuild p0 p1 p2 p3 [a] images seqs) s fun t => t.flag XLT_STAT_REBUILT = true ∧
      t.raw XLT_JSEQ_JSEQ = s.raw XLT_JSEQ_JSEQ) ∧
  (∀ (addr old new : Nat) (units : List Nat) (s : State), s.runs → (s.band new).type ≠ bandFree →
    Does (.cleaning addr old new units) s fun t => t = s) ∧
  (∀ (addr old new : Nat) (units : List Nat) (s : State), s.runs → (s.band new).type = bandFree → s.stepOn 2 = true → old ≠ new →
    old ∉ units → s.xlt.applying = none → s.xlt.lookups = [] → s.flag XLT_CFG_EN = true → s.flag XLT_UPD_RESP_BUSY = false →
    s.recCheck (addr % 2 ^ 28 * 64) = 0 → Does (.cleaning addr old new units) s fun t =>
      ((t.band old).type = bandFree ∨ (t.band old).type = bandRetired) ∧ (t.band old).live = 0 ∧
      (t.band new).type = bandUsed ∧ (∀ u ∈ units, (t.band u).live = 0) ∧ t.flag XLT_STAT_UPD_DONE = true) ∧
  (∀ (ns n m addr : Nat) (done : Bool) (srcs : List (Nat × Nat)) (s : State), s.runs →
    Does (.compaction ns n m done false srcs addr) s fun t => t = s) ∧
  (∀ (ns n m addr : Nat) (s : State), s.runs → 1 ≤ ns → ns ≤ 4 → s.flag (XLT_NS_CFG_ZONED (ns - 1)) = false → 1 ≤ n →
    n ≤ 2048 → m * 100 ≤ n * (100 - s.raw CMP_POLICY_MIN_SAVE) → s.stepOn 2 = true → s.xlt.applying = none → s.xlt.lookups = [] →
    s.flag XLT_CFG_EN = true → s.flag XLT_UPD_RESP_BUSY = false → s.recCheck (addr % 2 ^ 28 * 64) = 0 →
    Does (.compaction ns n m true true [] addr) s fun t => t.flag XLT_STAT_UPD_DONE = true ∧ t.xlt.applying = none) ∧
  (∀ (addr old unit : Nat) (s : State), s.runs → old ≠ unit → s.xlt.applying = none → s.xlt.lookups = [] →
    s.flag XLT_CFG_EN = true → s.flag XLT_UPD_RESP_BUSY = false → s.recCheck (addr % 2 ^ 28 * 64) = 0 →
    Does (.sectorRelocation true addr old unit) s fun t => t.flag XLT_STAT_UPD_DONE = true ∧
      (t.band unit).live = (s.band unit).live + 1 ∧ (t.band old).live = (s.band old).live - 1 ∧
      (t.band old).relocs = min 65535 ((s.band old).relocs + 1)) ∧
  (∀ (addr old unit : Nat) (s : State), s.runs → s.flag XLT_CFG_EN = false →
    Does (.sectorRelocation true addr old unit) s fun t => t.xl1 = s.xl1 ∧ sameDram s t)

/-- The DEFLATE engines (R195 to R201, R208, R442): commits, starts, ends, aborts and completions. The model's choices it rests on: log
entries 2, 3, 4, 91 and 92. -/
def Obligations.CompressionCommands : Prop :=
  (∀ (r : Req) (w7 : Word) (e : Fin 2) (s : State), s.runs →
    (s.cmpResult (cmpJob fun i => (s.set ((CMP_JQ_W 7).of r) w7.toNat).raw ((CMP_JQ_W i).of r))
      (bits ((s.set ((CMP_JQ_W 7).of r) w7.toNat).raw ((CMP_JQ_W 0).of r)) 26 2)) = (0, some e) →
    Does (.cmpJobCommit r w7) s fun t => t.raw (CMP_JQ_RESP_RESULT.of r) = 0 ∧ t.flag (CMP_JQ_RESP_DONE.of r) = true ∧
      (t.cmp.eng[e]).queue = (s.cmp.eng[e]).queue ++
        [cmpJob fun i => (s.set ((CMP_JQ_W 7).of r) w7.toNat).raw ((CMP_JQ_W i).of r)]) ∧
  (∀ (r : Req) (w7 : Word) (s : State), s.runs → s.flag CMP_CTL_EN = false → Does (.cmpJobCommit r w7) s fun t =>
    t.raw (CMP_JQ_RESP_RESULT.of r) = 4 ∧ t.flag (CMP_JQ_RESP_DONE.of r) = true ∧ t.cmp = s.cmp) ∧
  (∀ (e : Fin 2) (j : CJob) (s : State), s.runs → (s.cmp.eng[e]).run = none → (s.cmp.eng[e]).next = some j → s.stepOn 2 = true →
    s.granted (cmpSlot e) = true → Does (.cmpJobStart e) s fun t =>
      (t.cmp.eng[e]).run = some j ∧ (t.cmp.eng[e]).queue = (s.cmp.eng[e]).queue.erase j ∧ sameDram s t) ∧
  (∀ (e : Fin 2) (j : CJob) (s : State), s.runs → (s.cmp.eng[e]).run = none → (s.cmp.eng[e]).next = some j → s.stepOn 2 = true →
    s.granted (cmpSlot e) = false → Does (.cmpJobStart e) s fun t =>
      (t.cmp.eng[e]).run = none ∧ (t.cmp.eng[e]).queue = (s.cmp.eng[e]).queue ∧
      (t.granted (cmpSlot e) = false → t.flag CMP_STAT_PERMIT_WAIT = true)) ∧
  (∀ (e : Fin 2) (j : CJob) (s : State), s.runs → (s.cmp.eng[e]).run = some j → s.granted (cmpSlot e) = true →
    (s.jobRes e j).status = 0 → Does (.cmpJobDone e) s fun t =>
      (t.cmp.eng[e]).run = none ∧ (t.cmp.eng[e]).ctx[j.ctx] = (s.jobRes e j).ctx ∧ t.flag CMP_STAT_DONE = true ∧
      t.cmp.cq = s.cmp.cq ++ [{ eng := e.val, status := 0, tag := j.tag, outBytes := (s.jobRes e j).outBytes,
                                inBytes := (s.jobRes e j).inBytes, crc := (s.jobRes e j).ctx.crc ^^^ 0xFFFFFFFF }]) ∧
  (∀ (e : Fin 2) (j : CJob) (s : State), s.runs → (s.cmp.eng[e]).run = some j → s.granted (cmpSlot e) = true →
    (s.jobRes e j).status ≠ 0 → Does (.cmpJobDone e) s fun t =>
      (t.cmp.eng[e]).run = none ∧ t.flag CMP_STAT_DONE = true ∧ ((t.cmp.eng[e]).ctx[j.ctx]).valid = false ∧
      ∃ c, t.cmp.cq = s.cmp.cq ++ [c] ∧ c.status = (s.jobRes e j).status ∧ c.tag = j.tag ∧ c.outBytes ≤ j.dstLen) ∧
  (∀ (e : Fin 2) (v : Fin 4) (s : State), s.runs → bitOf v.val e.val = true → Does (.cmpAbort v) s fun t =>
    (t.cmp.eng[e]).run = none ∧ (t.cmp.eng[e]).queue = [] ∧ (∀ k : Fin 2, ((t.cmp.eng[e]).ctx[k]).valid = false) ∧
    t.cmp.cq.length = s.cmp.cq.length + (if bitOf v.val 0 then (s.cmp.eng[(0 : Fin 2)]).count else 0) +
      (if bitOf v.val 1 then (s.cmp.eng[(1 : Fin 2)]).count else 0)) ∧
  (∀ (en : Bool) (dis : Fin 4) (e : Fin 2) (s : State), s.runs → s.flag CMP_CTL_EN = true → bitOf dis.val e.val = true →
    s.bit CMP_CTL_ENG_DIS e.val = false → Does (.cmpDisable en dis) s fun t =>
      t.flag CMP_CTL_EN = en ∧ t.raw CMP_CTL_ENG_DIS = dis.val ∧ (t.cmp.eng[e]).run = none ∧ (t.cmp.eng[e]).queue = []) ∧
  (∀ (en : Bool) (s : State), s.runs → s.flag CMP_CTL_EN = false → s.raw CMP_CTL_ENG_DIS = 0 → Does (.cmpDisable en 0) s fun t =>
    t.flag CMP_CTL_EN = en ∧ t.raw CMP_CTL_ENG_DIS = 0 ∧ t.cmp = s.cmp ∧ sameDram s t) ∧
  (∀ (s : State), s.runs → Does .cmpCompletionPop s fun t => t.cmp.cq = s.cmp.cq.tail ∧ t.cmp.eng = s.cmp.eng ∧ sameRegs s t)

/-- Doorbells and polling (R219 to R221), fetching (R217, R218), range locks (R226) and commitment (R222) at the host interface. The model's
choices it rests on: log entries 2, 3, 4, 156 and 157. -/
def Obligations.HostQueueCommands : Prop :=
  (∀ (c : Fin 2) (q : Nat) (v : BitVec 16) (x : Sq) (s : State), s.runs → s.flag (HIF_C_STAT_EN c.val) = true → s.raw HIF_ACT_PHASE = 0 →
    s.sq c q = some x → v.toNat < x.size → Does (.mmioDoorbell c false q v) s fun t =>
      ∃ y, t.sq c q = some y ∧ y.tail = v.toNat ∧ y.head = x.head ∧ y.size = x.size) ∧
  (∀ (c : Fin 2) (q : Nat) (v : BitVec 16) (x : Cq) (s : State), s.runs → s.flag (HIF_C_STAT_EN c.val) = true → s.raw HIF_ACT_PHASE = 0 →
    s.cq c q = some x → v.toNat < x.size → (v.toNat + x.size - x.head) % x.size ≤ x.held → Does (.mmioDoorbell c true q v) s fun t =>
      ∃ y, t.cq c q = some y ∧ y.head = v.toNat ∧ y.tail = x.tail ∧ y.wait = x.wait) ∧
  (∀ (c : Fin 2) (cq : Bool) (q : Nat) (v : BitVec 16) (s : State), s.runs → s.flag (HIF_C_STAT_EN c.val) = false →
    Does (.mmioDoorbell c cq q v) s fun t => t = s) ∧
  (∀ (c : Fin 2) (cq : Bool) (q : Nat) (v : BitVec 16) (s : State), s.runs → s.flag (HIF_C_STAT_EN c.val) = true →
    s.raw HIF_ACT_PHASE ≠ 0 → Does (.mmioDoorbell c cq q v) s fun t =>
      (t.hif.ctrl[c]).late = (s.hif.ctrl[c]).late ++ [(cq, q, v.toNat)] ∧ (t.hif.ctrl[c]).sqs = (s.hif.ctrl[c]).sqs) ∧
  (∀ (c : Fin 2) (q v : Nat) (x : Sq) (s : State), s.runs → s.flag (HIF_C_STAT_DBBUF c.val) = true → s.raw HIF_ACT_PHASE = 0 →
    s.sq c q = some x → v < x.size → x.head ≠ v → Does (.shadowDoorbellPoll c [(false, q, v)]) s fun t =>
      t.flag (HIF_C_STAT_FAST c.val) = true ∧ ∃ y, t.sq c q = some y ∧ y.tail = v ∧ y.head = x.head) ∧
  (∀ (c : Fin 2) (l : List (Bool × Nat × Nat)) (s : State), s.runs → s.flag (HIF_C_STAT_DBBUF c.val) = false →
    Does (.shadowDoorbellPoll c l) s fun t => t = s) ∧
  (∀ (c : Fin 2) (s : State), s.runs → (s.hif.ctrl[c]).sqs.any (fun x => x.head != x.tail) = false →
    s.hif.cmds.any (fun x => x.ctl == c) = false → Does (.pollIdleTimeout c) s fun t =>
      t.flag (HIF_C_STAT_FAST c.val) = false ∧ sameRegsBut [HIF_C_STAT_FAST c.val] s t ∧ t.hif = s.hif) ∧
  (∀ (c : Fin 2) (q : Nat) (e : Sqe) (ranges : List (Nat × Nat)) (x : Sq) (s : State), s.runs → s.sq c q = some x →
    s.mayFetch c x = true → s.atLimit c = true → Does (.commandFetch c q e ranges) s fun t =>
      t.flag HIF_STAT_OUT_FULL = true ∧ sameRegsBut [HIF_STAT_OUT_FULL] s t ∧ t.hif = s.hif) ∧
  (∀ (c : Fin 2) (q : Nat) (e : Sqe) (ranges : List (Nat × Nat)) (x : Sq) (s : State), s.runs → s.sq c q = some x →
    s.mayFetch c x = true → s.atLimit c = false → s.cmd c q e.cid = none → Does (.commandFetch c q e ranges) s fun t =>
      (∃ k, t.cmd c q e.cid = some k ∧ k.e = e ∧ k.status = (s.newCmd c x e ranges).status ∧ k.cls = (s.newCmd c x e ranges).cls) ∧
      t.hif.cmds.length = s.hif.cmds.length + 1 ∧ ∃ y, t.sq c q = some y ∧ y.head = (x.head + 1) % x.size) ∧
  (∀ (c : Fin 2) (q : Nat) (e : Sqe) (ranges : List (Nat × Nat)) (x : Sq) (k : HCmd) (s : State), s.runs → s.sq c q = some x →
    s.mayFetch c x = true → s.atLimit c = false → s.cmd c q e.cid = some k → Does (.commandFetch c q e ranges) s fun t =>
      t.flag HIF_STAT_CID_CONFLICT = true ∧ t.hif.cmds = s.hif.cmds ∧
      (t.hif.ctrl[c]).errCount = (s.hif.ctrl[c]).errCount + 1) ∧
  (∀ (c : Fin 2) (q i : Nat) (x : HCmd) (s : State), s.runs → s.cmd c q i = some x → s.grantable x = true →
    Does (.rltGrant c q i) s fun t => ∃ y, t.cmd c q i = some y ∧ y.st = .granted ∧ y.e = x.e) ∧
  (∀ (c : Fin 2) (q i : Nat) (x : HCmd) (s : State), s.runs → s.cmd c q i = some x → s.grantable x = false →
    Does (.rltGrant c q i) s fun t => t = s) ∧
  (∀ (c : Fin 2) (q i : Nat) (vaulted : Bool) (x : HCmd) (st : HStat) (k : Sq) (y : Cq) (s : State), s.runs → s.cmd c q i = some x →
    x.status = some st → s.mayCommit x vaulted = true → s.sq c q = some k → s.cq c k.cq = some y → y.wait = [] →
    y.held + 1 < y.size → Does (.commandCommit c q i vaulted) s fun t =>
      t.cmd c q i = none ∧ Out.cqe c k.cq x.dw0 k.head q i st.word (b2n (y.tail < y.size)) ∈ t.out) ∧
  (∀ (c : Fin 2) (q i : Nat) (vaulted : Bool) (x : HCmd) (s : State), s.runs → s.cmd c q i = some x → s.mayCommit x vaulted = false →
    Does (.commandCommit c q i vaulted) s fun t => t = s) ∧
  (∀ (c : Fin 2) (q : Nat) (x : Cq) (e : Cqe) (l : List Cqe) (k : Sq) (s : State), s.runs → s.cq c q = some x → x.wait = e :: l →
    x.held + 1 < x.size → s.sq c e.sq = some k → Does (.cqEntryPost c q) s fun t =>
      Out.cqe c q e.dw0 k.head e.sq e.cid e.status (b2n (x.tail < x.size)) ∈ t.out ∧
      ∃ y, t.cq c q = some y ∧ y.wait = l ∧ y.tail = (x.tail + 1) % (2 * x.size) ∧ y.head = x.head)

/-- Admin commands for queues, events and aborts (R216, R232, R234 to R238): each gives its command the outcome that the rules name and
changes the queues as they say. The model's choices it rests on: log entries 2, 3, 4 and 159. -/
def Obligations.AdminQueueCommands : Prop :=
  (∀ (c : Fin 2) (i : Nat) (x : HCmd) (s : State), s.runs → s.atHand c 0 i 0x05 x → 0 < bits x.e.d10 0 16 →
    bits x.e.d10 0 16 ≤ 128 → s.cq c (bits x.e.d10 0 16) = none → 0 < bits x.e.d10 16 16 → bits x.e.d10 16 16 ≤ 4095 →
    bitOf x.e.d11 0 = true → bits x.e.d11 16 16 ≤ 128 → Does (.createIoCq c i) s fun t => t.outcome c 0 i = some hOk ∧
      ∃ k, t.cq c (bits x.e.d10 0 16) = some k ∧ k.size = bits x.e.d10 16 16 + 1 ∧ k.head = 0 ∧ k.tail = 0 ∧
        k.vector = bits x.e.d11 16 16) ∧
  (∀ (c : Fin 2) (i : Nat) (x : HCmd) (s : State), s.runs → s.atHand c 0 i 0x05 x →
    bits x.e.d10 0 16 = 0 ∨ 128 < bits x.e.d10 0 16 ∨ (s.cq c (bits x.e.d10 0 16)).isSome → Does (.createIoCq c i) s fun t =>
      t.outcome c 0 i = some hBadQueue ∧ t.hif.ctrl = s.hif.ctrl) ∧
  (∀ (c : Fin 2) (i : Nat) (x : HCmd) (s : State), s.runs → s.atHand c 0 i 0x01 x → 0 < bits x.e.d10 0 16 →
    bits x.e.d10 0 16 ≤ 128 → s.sq c (bits x.e.d10 0 16) = none → 0 < bits x.e.d10 16 16 → bits x.e.d10 16 16 ≤ 4095 →
    bitOf x.e.d11 0 = true → 0 < bits x.e.d11 16 16 → (s.cq c (bits x.e.d11 16 16)).isSome = true →
    Does (.createIoSq c i) s fun t => t.outcome c 0 i = some hOk ∧
      ∃ k, t.sq c (bits x.e.d10 0 16) = some k ∧ k.size = bits x.e.d10 16 16 + 1 ∧ k.cq = bits x.e.d11 16 16 ∧ k.head = 0 ∧
        k.tail = 0 ∧ k.strict = false ∧ k.frozen = none) ∧
  (∀ (c : Fin 2) (i : Nat) (x : HCmd) (s : State), s.runs → s.atHand c 0 i 0x01 x → 0 < bits x.e.d10 0 16 →
    bits x.e.d10 0 16 ≤ 128 → s.sq c (bits x.e.d10 0 16) = none → 0 < bits x.e.d10 16 16 → bits x.e.d10 16 16 ≤ 4095 →
    bitOf x.e.d11 0 = true → 0 < bits x.e.d11 16 16 → s.cq c (bits x.e.d11 16 16) = none →
    Does (.createIoSq c i) s fun t => t.outcome c 0 i = some (hst 1 0 true) ∧ t.hif.ctrl = s.hif.ctrl) ∧
  (∀ (c : Fin 2) (i : Nat) (x : HCmd) (s : State), s.runs → s.atHand c 0 i 0x04 x → 0 < bits x.e.d10 0 16 →
    (s.cq c (bits x.e.d10 0 16)).isSome = true →
    (s.hif.ctrl[c]).sqs.any (fun q => q.cq == bits x.e.d10 0 16 && q.id != 0) = false → Does (.deleteIoCq c i) s fun t =>
      t.outcome c 0 i = some hOk ∧ t.cq c (bits x.e.d10 0 16) = none) ∧
  (∀ (c : Fin 2) (i : Nat) (x : HCmd) (s : State), s.runs → s.atHand c 0 i 0x04 x → 0 < bits x.e.d10 0 16 →
    (s.cq c (bits x.e.d10 0 16)).isSome = true →
    (s.hif.ctrl[c]).sqs.any (fun q => q.cq == bits x.e.d10 0 16 && q.id != 0) = true → Does (.deleteIoCq c i) s fun t =>
      t.outcome c 0 i = some (hst 1 0x0C true) ∧ t.hif.ctrl = s.hif.ctrl) ∧
  (∀ (c : Fin 2) (i : Nat) (x : HCmd) (k : Sq) (s : State), s.runs → s.atHand c 0 i 0x00 x → 0 < bits x.e.d10 0 16 →
    s.sq c (bits x.e.d10 0 16) = some k → k.deleting = none →
    s.hif.cmds.any (fun y => y.ctl == c && y.sq == bits x.e.d10 0 16) = false → Does (.deleteIoSq c i) s fun t =>
      t.outcome c 0 i = some hOk ∧ t.sq c (bits x.e.d10 0 16) = none) ∧
  (∀ (c : Fin 2) (i : Nat) (x : HCmd) (s : State), s.runs → s.atHand c 0 i 0x00 x → s.sq c (bits x.e.d10 0 16) = none →
    Does (.deleteIoSq c i) s fun t => t.outcome c 0 i = some hBadQueue ∧ t.hif.ctrl = s.hif.ctrl) ∧
  (∀ (c : Fin 2) (i : Nat) (x : HCmd) (s : State), s.runs → s.atHand c 0 i 0x0C x → (s.hif.ctrl[c]).aers.contains x.e.cid = false →
    (s.hif.ctrl[c]).aers.length < 4 → (s.hif.ctrl[c]).events = [] → Does (.asynchronousEventRequest c i) s fun t =>
      t.outcome c 0 i = none ∧ (t.hif.ctrl[c]).aers = (s.hif.ctrl[c]).aers ++ [i]) ∧
  (∀ (c : Fin 2) (i code : Nat) (l : List Nat) (x : HCmd) (s : State), s.runs → s.atHand c 0 i 0x0C x →
    (s.hif.ctrl[c]).aers.contains x.e.cid = false → (s.hif.ctrl[c]).aers.length < 4 → (s.hif.ctrl[c]).events = code :: l →
    Does (.asynchronousEventRequest c i) s fun t => (t.hif.ctrl[c]).events = l ∧
      ∃ y, t.cmd c 0 i = some y ∧ y.status = some hOk ∧ y.dw0 = code) ∧
  (∀ (c : Fin 2) (i : Nat) (x : HCmd) (s : State), s.runs → s.atHand c 0 i 0x0C x → (s.hif.ctrl[c]).aers.contains x.e.cid = false →
    4 ≤ (s.hif.ctrl[c]).aers.length → Does (.asynchronousEventRequest c i) s fun t => t.outcome c 0 i = some (hst 1 0x05 true)) ∧
  (∀ (c : Fin 2) (i : Nat) (x : HCmd) (s : State), s.runs → s.atHand c 0 i 0x08 x →
    (s.hif.cmds.filter fun y => y.ctl == c && y.sq == 0 && y.e.opc == 0x08 && y.status.isNone).length ≤ 8 →
    s.cmd c (bits x.e.d10 0 16) (bits x.e.d10 16 16) = none → Does (.abort c i) s fun t =>
      ∃ y, t.cmd c 0 i = some y ∧ y.status = some hOk ∧ y.dw0 = 1) ∧
  (∀ (c : Fin 2) (i : Nat) (x y : HCmd) (s : State), s.runs → s.atHand c 0 i 0x08 x →
    (s.hif.cmds.filter fun y => y.ctl == c && y.sq == 0 && y.e.opc == 0x08 && y.status.isNone).length ≤ 8 →
    s.cmd c (bits x.e.d10 0 16) (bits x.e.d10 16 16) = some y → y.st ≠ .granted → 0 < bits x.e.d10 0 16 →
    Does (.abort c i) s fun t => t.cmd c (bits x.e.d10 0 16) (bits x.e.d10 16 16) = none ∧
      ∃ z, t.cmd c 0 i = some z ∧ z.status = some hOk ∧ z.dw0 = 0) ∧
  (∀ (c : Fin 2) (i : Nat) (x : HCmd) (s : State), s.runs → s.atHand c 0 i 0x08 x →
    8 < (s.hif.cmds.filter fun y => y.ctl == c && y.sq == 0 && y.e.opc == 0x08 && y.status.isNone).length →
    Does (.abort c i) s fun t => t.outcome c 0 i = some (hst 1 0x03 true)) ∧
  (∀ (c : Fin 2) (i : Nat) (x : HCmd) (k : Sq) (s : State), s.runs → s.atHand c 0 i 0xC1 x → bits x.e.d10 16 2 = 1 →
    0 < bits x.e.d10 0 16 → s.sq c (bits x.e.d10 0 16) = some k → k.frozen.isSome = true → Does (.thawResume c i) s fun t =>
      t.outcome c 0 i = some hOk ∧ t.queueFrozen c (bits x.e.d10 0 16) = false ∧ t.hif.cmds.length = s.hif.cmds.length) ∧
  (∀ (c : Fin 2) (i : Nat) (x : HCmd) (k : Sq) (s : State), s.runs → s.atHand c 0 i 0xC1 x → bits x.e.d10 16 2 = 2 →
    0 < bits x.e.d10 0 16 → s.sq c (bits x.e.d10 0 16) = some k → k.frozen.isSome = true →
    Does (.thawDiscardHeld c i) s fun t => t.outcome c 0 i = some hOk ∧ t.queueFrozen c (bits x.e.d10 0 16) = false ∧
      t.ungranted c (bits x.e.d10 0 16) = []) ∧
  (∀ (c : Fin 2) (i : Nat) (cids : List Nat) (x : HCmd) (k : Sq) (s : State), s.runs → s.atHand c 0 i 0xC1 x →
    bits x.e.d10 16 2 = 3 → 0 < bits x.e.d10 0 16 → s.sq c (bits x.e.d10 0 16) = some k → k.frozen.isSome = true →
    Does (.thawDiscardAll c i cids) s fun t => t.outcome c 0 i = some hOk ∧ t.queueFrozen c (bits x.e.d10 0 16) = false ∧
      t.ungranted c (bits x.e.d10 0 16) = []) ∧
  (∀ (c : Fin 2) (i : Nat) (x : HCmd) (k : Sq) (s : State), s.runs → s.atHand c 0 i 0xC1 x → bits x.e.d10 16 2 = 1 →
    0 < bits x.e.d10 0 16 → s.sq c (bits x.e.d10 0 16) = some k → k.frozen = none → Does (.thawResume c i) s fun t =>
      t.outcome c 0 i = some (hst 7 0xC1 true) ∧ t.hif.ctrl = s.hif.ctrl) ∧
  (∀ (c : Fin 2) (i : Nat) (x : HCmd) (s : State), s.runs → s.atHand c 0 i 0x7C x → Does (.doorbellBufferConfig c i) s fun t =>
    t.outcome c 0 i = some hOk ∧ t.flag (HIF_C_STAT_DBBUF c.val) = true ∧ t.flag (HIF_C_STAT_FAST c.val) = true)

/-- Identify, logs and features (R213, R215, R232, R234, R235, R319, R324, R354, R365). The model's choices it rests on: log entries 2, 3, 4,
159, 160 and 161. -/
def Obligations.AdminFeatureCommands : Prop :=
  (∀ (c : Fin 2) (i : Nat) (x : HCmd) (s : State), s.runs → s.atHand c 0 i 0x06 x → bits x.e.d10 0 8 = 1 → Does (.identify c i) s fun t =>
    t.outcome c 0 i = some hOk ∧ t.out = s.out ++ [.hostPage c 0 i (s.idCtrl c)] ∧ sameRegs s t) ∧
  (∀ (c : Fin 2) (i : Nat) (x : HCmd) (s : State), s.runs → s.atHand c 0 i 0x06 x → bits x.e.d10 0 8 = 0 →
    s.nsAttached c x.e.nsid = true → Does (.identify c i) s fun t =>
      t.outcome c 0 i = some hOk ∧ t.out = s.out ++ [.hostPage c 0 i (s.idNs x.e.nsid)] ∧ sameRegs s t) ∧
  (∀ (c : Fin 2) (i : Nat) (x : HCmd) (s : State), s.runs → s.atHand c 0 i 0x06 x → bits x.e.d10 0 8 = 0 →
    x.e.nsid = 0 ∨ 4 < x.e.nsid → Does (.identify c i) s fun t => t.outcome c 0 i = some hBadNs ∧ t.out = s.out) ∧
  (∀ (c : Fin 2) (i : Nat) (x : HCmd) (s : State), s.runs → s.atHand c 0 i 0x02 x → bits x.e.d10 0 8 = 0xC0 →
    Does (.getLogPage c i) s fun t => t.outcome c 0 i = some hOk ∧ t.out = s.out ++ [.hostData c 0 i
      (((s.frozenPage c (bits x.e.d11 16 16)).drop (x.e.d12 + x.e.d13 * 2 ^ 32)).take
        ((bits x.e.d10 16 16 + bits x.e.d11 0 16 * 2 ^ 16 + 1) * 4))] ∧ sameRegs s t) ∧
  (∀ (c : Fin 2) (i : Nat) (x : HCmd) (s : State), s.runs → s.atHand c 0 i 0x02 x → bits x.e.d10 0 8 = 0xBF →
    bitOf x.e.d10 15 = false → Does (.getLogPage c i) s fun t =>
      t.outcome c 0 i = some hOk ∧ (t.hif.ctrl[c]).zones = [] ∧ t.out = s.out ++ [.hostPage c 0 i (s.fieldPage c 0xBF)]) ∧
  (∀ (c : Fin 2) (i : Nat) (x : HCmd) (s : State), s.runs → s.atHand c 0 i 0x02 x → 
    [0x01, 0x02, 0x03, 0x05, 0xBF, 0xC0, 0xC1].contains (bits x.e.d10 0 8) = false → Does (.getLogPage c i) s fun t =>
      t.outcome c 0 i = some (hst 1 0x09 true) ∧ t.out = s.out) ∧
  (∀ (c : Fin 2) (i data : Nat) (x : HCmd) (s : State), s.runs → s.atHand c 0 i 0x09 x → x.fid = 0x06 → bitOf x.e.d10 31 = false →
    Does (.setFeatures c i data) s fun t => t.outcome c 0 i = some hOk ∧ t.vwc c = bitOf x.e.d11 0 ∧ sameRegs s t) ∧
  (∀ (c : Fin 2) (i data : Nat) (x : HCmd) (s : State), s.runs → s.atHand c 0 i 0x09 x →
    [0x02, 0x0C, 0xC0, 0xC1].contains x.fid = false → plainFeatures.contains x.fid = false ∨ bitOf x.e.d10 31 = true →
    Does (.setFeatures c i data) s fun t => t.outcome c 0 i = some hField ∧ t.hif.ctrl = s.hif.ctrl) ∧
  (∀ (c : Fin 2) (i : Nat) (x : HCmd) (s : State), s.runs → s.atHand c 0 i 0x0A x → x.fid = 0x02 → bits x.e.d10 8 3 = 0 →
    Does (.getFeatures c i) s fun t => ∃ y, t.cmd c 0 i = some y ∧ y.status = some hOk ∧ y.dw0 = s.pwr.req[c]) ∧
  (∀ (c : Fin 2) (i : Nat) (x : HCmd) (s : State), s.runs → s.atHand c 0 i 0x09 x → x.fid = 0xC1 → bitOf x.e.d10 31 = false →
    0 < bits x.e.d11 0 16 → (s.sq c (bits x.e.d11 0 16)).isSome = true → Does (.strictErrorMode c i) s fun t =>
      t.outcome c 0 i = some hOk ∧ sameRegs s t) ∧
  (∀ (c : Fin 2) (i : Nat) (x : HCmd) (s : State), s.runs → s.atHand c 0 i 0x09 x → x.fid = 0xC1 → bitOf x.e.d10 31 = false →
    bits x.e.d11 0 16 = 0 ∨ s.sq c (bits x.e.d11 0 16) = none → Does (.strictErrorMode c i) s fun t =>
      t.outcome c 0 i = some hBadQueue ∧ sameRegs s t) ∧
  (∀ (c : Fin 2) (i : Nat) (x : HCmd) (s : State), s.runs → s.atHand c 0 i 0x09 x → x.fid = 0xC0 → bitOf x.e.d10 31 = false →
    Does (.assayDuty c i) s fun t =>
      t.outcome c 0 i = some (if 100 < bits x.e.d11 0 8 then hField else hOk) ∧ sameRegs s t) ∧
  (∀ (c : Fin 2) (i : Nat) (x : HCmd) (s : State), s.runs → s.atHand c 0 i 0x09 x → x.fid = 0x02 → bitOf x.e.d10 31 = false →
    4 < bits x.e.d11 0 5 → Does (.powerManagement c i) s fun t => t.outcome c 0 i = some hField ∧ t.pwr = s.pwr) ∧
  (∀ (c : Fin 2) (i : Nat) (x : HCmd) (s : State), s.runs → s.atHand c 0 i 0x09 x → x.fid = 0x02 → bitOf x.e.d10 31 = false →
    bits x.e.d11 0 5 ≤ 4 → s.pwr.trans.isSome = true → s.pwr.held = none → Does (.powerManagement c i) s fun t =>
      t.pwr.req[c] = bits x.e.d11 0 5 ∧ t.flag PWR_STAT_HELD = true ∧ t.outcome c 0 i = none ∧
      t.pwr.held = some { src := 3 + c.val, ctl := c, st := bits x.e.d11 0 5, old := s.pwr.req[c], cmd := some (0, i) }) ∧
  (∀ (c : Fin 2) (i : Nat) (table : List Nat) (x : HCmd) (s : State), s.runs → s.atHand c 0 i 0x09 x → x.fid = 0x0C →
    bitOf x.e.d10 31 = false → (List.range 5).all (fun n => apstOk n (table.getD n 0)) = true →
    Does (.autonomousPowerStateTransition c i table) s fun t => t.outcome c 0 i = some hOk ∧ t.apst c 0 = table.getD 0 0 ∧
      t.apst c 1 = table.getD 1 0 ∧ t.apst c 2 = table.getD 2 0 ∧ t.apst c 3 = table.getD 3 0 ∧ sameRegs s t) ∧
  (∀ (c : Fin 2) (i : Nat) (table : List Nat) (x : HCmd) (s : State), s.runs → s.atHand c 0 i 0x09 x → x.fid = 0x0C →
    bitOf x.e.d10 31 = false → (List.range 5).all (fun n => apstOk n (table.getD n 0)) = false →
    Does (.autonomousPowerStateTransition c i table) s fun t => t.outcome c 0 i = some hField ∧ t.hif.ctrl = s.hif.ctrl)

/-- Namespaces, Format, Sanitize and firmware images (R165, R211, R213, R241, R242, R392, R398): outcomes and effects. The model's choices it
rests on: log entries 2, 3, 4, 159 and 164. -/
def Obligations.AdminMediaCommands : Prop :=
  (∀ (c : Fin 2) (i size fmt pi base k : Nat) (recs : List Nat) (x : HCmd) (s : State), s.runs → s.atHand c 0 i 0x0D x →
    bits x.e.d10 0 4 = 0 → bits x.e.d11 24 8 = 0 → 0 < size → fmt % 16 ≤ 3 → s.chunksUsed + ceilDiv size 65536 ≤ 524288 →
    [1, 2, 3, 4].find? (fun k => !(s.hif.ns.toList.getD (k - 1) default).live) = some k →
    s.chunksTaken base (ceilDiv size 65536) = false → base + ceilDiv size 65536 ≤ 524288 →
    Does (.namespaceManagement c i size size fmt pi base recs) s fun t => t.flag (XLT_NS_CFG_EN (k - 1)) = true ∧
      t.flag (XLT_NS_CFG_ZONED (k - 1)) = false ∧ t.raw (XLT_NS_BASE_CHUNK_BASE (k - 1)) = base % 2 ^ 19 ∧
      (t.hif.ns.toList.getD (k - 1) default).live = true ∧ (t.hif.ns.toList.getD (k - 1) default).size = size ∧
      ∃ y, t.cmd c 0 i = some y ∧ y.status = some hOk ∧ y.dw0 = k) ∧
  (∀ (c : Fin 2) (i fmt pi base : Nat) (recs : List Nat) (x : HCmd) (s : State), s.runs → s.atHand c 0 i 0x0D x → bits x.e.d10 0 4 = 0 →
    Does (.namespaceManagement c i 0 0 fmt pi base recs) s fun t => t.outcome c 0 i = some hField ∧ t.hif.ns = s.hif.ns) ∧
  (∀ (c : Fin 2) (i size cap fmt pi base : Nat) (x : HCmd) (s : State), s.runs → s.atHand c 0 i 0x0D x → bits x.e.d10 0 4 = 1 →
    0 < x.e.nsid → x.e.nsid ≤ 4 → (s.hif.ns.toList.getD (x.e.nsid - 1) default).live = true → s.nsEmpty x.e.nsid = true →
    Does (.namespaceManagement c i size cap fmt pi base []) s fun t => t.outcome c 0 i = some hOk ∧
      t.flag (XLT_NS_CFG_EN (x.e.nsid - 1)) = false ∧ (t.hif.ns.toList.getD (x.e.nsid - 1) default).live = false) ∧
  (∀ (c : Fin 2) (i : Nat) (x : HCmd) (s : State), s.runs → s.atHand c 0 i 0x15 x → bits x.e.d10 0 4 = 0 → 0 < x.e.nsid →
    x.e.nsid ≤ 4 → (s.hif.ns.toList.getD (x.e.nsid - 1) default).live = true →
    bitOf (s.hif.ns.toList.getD (x.e.nsid - 1) default).attached 0 = false → Does (.namespaceAttachment c i [0]) s fun t =>
      t.outcome c 0 i = some hOk ∧ t.nsAttached 0 x.e.nsid = true) ∧
  (∀ (c : Fin 2) (i : Nat) (list : List (Fin 2)) (x : HCmd) (s : State), s.runs → s.atHand c 0 i 0x15 x →
    x.e.nsid = 0 ∨ 4 < x.e.nsid → Does (.namespaceAttachment c i list) s fun t =>
      t.outcome c 0 i = some hBadNs ∧ t.hif.ns = s.hif.ns) ∧
  (∀ (c : Fin 2) (i : Nat) (x : HCmd) (s : State), s.runs → s.atHand c 0 i 0x80 x → bits x.e.d10 9 3 = 0 → 0 < x.e.nsid →
    x.e.nsid ≤ 4 → (s.hif.ns.toList.getD (x.e.nsid - 1) default).live = true → bits x.e.d10 0 4 ≤ 3 → bits x.e.d10 5 3 = 0 →
    s.nsEmpty x.e.nsid = true → Does (.formatNvm c i []) s fun t => t.outcome c 0 i = some hOk ∧
      (t.hif.ns.toList.getD (x.e.nsid - 1) default).fmt = bits x.e.d10 0 4 ∧ sameRegs s t) ∧
  (∀ (c : Fin 2) (i : Nat) (x : HCmd) (s : State), s.runs → s.atHand c 0 i 0x80 x → bits x.e.d10 9 3 = 1 → 0 < x.e.nsid →
    x.e.nsid ≤ 4 → (s.hif.ns.toList.getD (x.e.nsid - 1) default).live = true → bits x.e.d10 0 4 ≤ 3 → bits x.e.d10 5 3 = 0 →
    s.flag (SEC_NSKEY_ENC (x.e.nsid - 1)) = false → s.nsEmpty x.e.nsid = true → Does (.formatUserDataErase c i []) s fun t =>
      t.outcome c 0 i = some hOk ∧ (t.hif.ns.toList.getD (x.e.nsid - 1) default).fmt = bits x.e.d10 0 4) ∧
  (∀ (c : Fin 2) (i : Nat) (recs : List Nat) (x : HCmd) (s : State), s.runs → s.atHand c 0 i 0x80 x → bits x.e.d10 9 3 = 2 → 0 < x.e.nsid →
    x.e.nsid ≤ 4 → (s.hif.ns.toList.getD (x.e.nsid - 1) default).live = true → bits x.e.d10 0 4 ≤ 3 → bits x.e.d10 5 3 = 0 →
    s.flag (SEC_NSKEY_ENC (x.e.nsid - 1)) = false → Does (.formatCryptoErase c i recs) s fun t =>
      t.outcome c 0 i = some hField ∧ t.hif.ns = s.hif.ns ∧ t.sec = s.sec) ∧
  (∀ (c : Fin 2) (i : Nat) (x : HCmd) (n : Fin 4) (s : State), s.runs → s.atHand c 0 i 0x80 x → bits x.e.d10 9 3 = 2 → x.e.nsid = n.val + 1 →
    (s.hif.ns.toList.getD n.val default).live = true → bits x.e.d10 0 4 ≤ 3 → bits x.e.d10 5 3 = 0 →
    s.flag (SEC_NSKEY_ENC n.val) = true → (keyGenerate n false s).nsEmpty x.e.nsid = true →
    Does (.formatCryptoErase c i []) s fun t => t.outcome c 0 i = some hOk ∧ t.sec.keys = (keyGenerate n false s).sec.keys) ∧
  (∀ (c : Fin 2) (i : Nat) (recs : List Nat) (x : HCmd) (s : State), s.runs → s.atHand c 0 i 0x84 x → bits x.e.d10 0 3 = 4 →
    s.enabledNs.any (fun k => !s.flag (SEC_NSKEY_ENC (k - 1))) = true → Does (.sanitizeCryptoErase c i recs) s fun t =>
      t.outcome c 0 i = some hField ∧ t.vlt = s.vlt ∧ sameRegs s t) ∧
  (∀ (c : Fin 2) (i : Nat) (x : HCmd) (s : State), s.runs → s.atHand c 0 i 0x84 x → bits x.e.d10 0 3 = 4 → s.enabledNs = [] →
    s.ioBusy = false → Does (.sanitizeCryptoErase c i []) s fun t => t.outcome c 0 i = some hOk ∧ t.vlt.used = 0 ∧
      t.raw BUF_JRN_HEAD_OFS = s.raw BUF_JRN_TAIL_OFS) ∧
  (∀ (c : Fin 2) (i : Nat) (x : HCmd) (s : State), s.runs → s.atHand c 0 i 0x84 x → bits x.e.d10 0 3 = 2 → s.enabledNs = [] →
    s.ioBusy = false → Does (.sanitizeBlockErase c i []) s fun t => t.outcome c 0 i = some hOk ∧ t.vlt.used = 0 ∧
      t.raw BUF_JRN_HEAD_OFS = s.raw BUF_JRN_TAIL_OFS) ∧
  (∀ (c : Fin 2) (i : Nat) (recs : List Nat) (x : HCmd) (s : State), s.runs → s.atHand c 0 i 0x84 x → bits x.e.d10 0 3 = 2 →
    s.ioBusy = true → Does (.sanitizeBlockErase c i recs) s fun t => t = s) ∧
  (∀ (c : Fin 2) (i : Nat) (x : HCmd) (s : State), s.runs → s.atHand c 0 i 0x84 x → bits x.e.d10 0 3 = 3 →
    Does (.sanitizeOverwrite c i) s fun t => t.outcome c 0 i = some hField ∧ sameRegs s t) ∧
  (∀ (c : Fin 2) (i : Nat) (data : List Byte) (x : HCmd) (s : State), s.runs → s.atHand c 0 i 0x11 x → data.length = (x.e.d10 + 1) * 4 →
    Does (.firmwareImageDownload c i data) s fun t => t.outcome c 0 i = some hOk ∧
      t.hif.fw = storeBytes s.hif.fw (x.e.d11 * 4) data ∧ t.sec = s.sec) ∧
  (∀ (c : Fin 2) (i : Nat) (n : Fin 2) (x : HCmd) (s : State), s.runs → s.atHand c 0 i 0x10 x → bits x.e.d10 3 3 = 0 →
    s.fwSlot x = some n → Does (.fwCommitReplace c i) s fun t =>
      t.outcome c 0 i = some (fwStatus (s.imageCheck fun i => tabLook 0 s.hif.fw i)) ∧ t.hif.fw = [] ∧
      (s.imageCheck (fun i => tabLook 0 s.hif.fw i) = 0 → (t.sec.slots[n]).image = s.hif.fw ∧ (t.sec.slots[n]).failed = false) ∧
      (s.imageCheck (fun i => tabLook 0 s.hif.fw i) ≠ 0 → t.sec = s.sec)) ∧
  (∀ (c : Fin 2) (i : Nat) (n : Fin 2) (x : HCmd) (s : State), s.runs → s.atHand c 0 i 0x10 x → bits x.e.d10 3 3 = 1 →
    s.fwSlot x = some n → Does (.fwCommitReplacePending c i) s fun t =>
      t.outcome c 0 i = some (fwStatus (s.imageCheck fun i => tabLook 0 s.hif.fw i)) ∧ t.hif.fw = [] ∧
      (s.imageCheck (fun i => tabLook 0 s.hif.fw i) = 0 → (t.sec.slots[n]).image = s.hif.fw) ∧
      (s.imageCheck (fun i => tabLook 0 s.hif.fw i) ≠ 0 → t.sec = s.sec)) ∧
  (∀ (c : Fin 2) (i : Nat) (n : Fin 2) (x : HCmd) (s : State), s.runs → s.atHand c 0 i 0x10 x → bits x.e.d10 3 3 = 2 →
    s.fwSlot x = some n → Does (.fwCommitPending c i) s fun t =>
      t.outcome c 0 i = some (fwStatus (s.imageCheck (s.sec.slots[n]).byte)) ∧ t.hif.fw = s.hif.fw ∧
      (s.imageCheck (s.sec.slots[n]).byte ≠ 0 → t.sec = s.sec)) ∧
  (∀ (c : Fin 2) (i : Nat) (n : Fin 2) (x : HCmd) (s : State), s.runs → s.atHand c 0 i 0x10 x → bits x.e.d10 3 3 = 3 →
    s.fwSlot x = some n → s.hif.fw = [] → s.hif.act = none → Does (.fwCommitActivate c i) s fun t =>
      (s.imageCheck (s.sec.slots[n]).byte = 0 → t.raw HIF_ACT_PHASE = 1 ∧ t.hif.act = some (n.val, x, s.inv.wall) ∧
        t.flag (HIF_C_STAT_PP 0) = true ∧ t.outcome c 0 i = none) ∧
      (s.imageCheck (s.sec.slots[n]).byte ≠ 0 → t.outcome c 0 i = some (fwStatus (s.imageCheck (s.sec.slots[n]).byte)) ∧
        sameRegs s t ∧ t.sec = s.sec)) ∧
  (∀ (c : Fin 2) (i : Nat) (x : HCmd) (s : State), s.runs → s.atHand c 0 i 0x10 x → bits x.e.d10 3 3 = 3 →
    s.fwSlot x = none → Does (.fwCommitActivate c i) s fun t => t.outcome c 0 i = some (hst 1 0x06 true) ∧ t.sec = s.sec)

/-- The stages of an activation (R241, R242) and the security commands of the host (R394, R395, R399). The model's choices it rests on: log
entries 2, 3, 4, 152 and 172. -/
def Obligations.ActivationAndSecuritySend : Prop :=
  (∀ (s : State), s.runs → s.raw HIF_ACT_PHASE = 1 → s.draining = [] → Does .activationDrainEnd s fun t =>
    t.raw HIF_ACT_PHASE = 2 ∧ sameRegsBut [HIF_ACT_PHASE] s t ∧ t.hif = s.hif) ∧
  (∀ (s : State), s.runs → s.raw HIF_ACT_PHASE = 1 → s.draining ≠ [] → Does .activationDrainEnd s fun t => t = s) ∧
  (∀ (s : State), s.runs → s.raw HIF_ACT_PHASE = 1 → s.draining = [] → Does .activationDrainLimit s fun t =>
    t.raw HIF_ACT_PHASE = 2 ∧ t.hif = s.hif) ∧
  (∀ (s : State), s.runs → s.raw HIF_ACT_PHASE = 2 → (List.finRange 18).all (fun n => s.seSt n.val != seRun || s.clean n) = true →
    Does .activationStopEnd s fun t => t.raw HIF_ACT_PHASE = 3) ∧
  (∀ (s : State), s.runs → s.raw HIF_ACT_PHASE = 3 → Does .activationLoadEnd s fun t =>
    t.raw HIF_ACT_PHASE = 4 ∧ sameRegsBut [HIF_ACT_PHASE] s t) ∧
  (∀ (ok : Bool) (n : Nat) (x : HCmd) (began : Nat) (s : State), s.runs → s.hif.act = some (n, x, began) → s.raw HIF_ACT_PHASE = 4 →
    Does (.activationResume ok) s fun t => t.raw HIF_ACT_PHASE = 0 ∧ t.hif.act = none ∧ t.flag (HIF_C_STAT_PP 0) = false ∧
      t.raw HIF_ACT_LAST_MS = sat 16 ((s.inv.wall - began) / 1000000) ∧
      (ok = false → (t.sec.slots[(if n = 0 then 0 else 1 : Fin 2)]).failed = true)) ∧
  (∀ (c : Fin 2) (i : Nat) (x : HCmd) (n : Fin 4) (s : State), s.runs → s.atHand c 0 i 0x81 x → bits x.e.d10 24 8 = 0xF1 →
    bits x.e.d10 8 16 = 1 → x.e.nsid = n.val + 1 → (s.hif.ns.toList.getD n.val default).live = true → s.nsEmpty x.e.nsid = true →
    s.flag SEC_STAT_DBG_UNLOCKED = false → Does (.enable c i) s fun t => t.outcome c 0 i = some hOk ∧
      t.sec = (keyGenerate n false s).sec) ∧
  (∀ (c : Fin 2) (i : Nat) (x : HCmd) (s : State), s.runs → s.atHand c 0 i 0x81 x → bits x.e.d10 24 8 = 0xF1 →
    bits x.e.d10 8 16 = 1 → x.e.nsid = 0 ∨ 4 < x.e.nsid ∨ s.flag SEC_STAT_DBG_UNLOCKED = true → Does (.enable c i) s fun t =>
      t.outcome c 0 i = some hField ∧ t.sec = s.sec) ∧
  (∀ (c : Fin 2) (i : Nat) (good : Bool) (scope : Fin 4) (x : HCmd) (s : State), s.runs → s.atHand c 0 i 0x81 x →
    bits x.e.d10 24 8 = 0xF1 → bits x.e.d10 8 16 = 2 → Does (.debugToken c i good scope) s fun t =>
      t.outcome c 0 i = some (if t.raw SEC_DBG_CTL_RESULT = 0 then hOk else hField)) ∧
  (∀ (c : Fin 2) (i : Nat) (nonce : BitVec 256) (x : HCmd) (s : State), s.runs → s.atHand c 0 i 0x81 x → bits x.e.d10 24 8 = 0xF1 →
    bits x.e.d10 8 16 = 0x10 → Does (.attest c i nonce) s fun t => t.outcome c 0 i = some hOk ∧
      t.dramByte (s.raw SEC_ATT_ADDR_ADDR * 64) = BitVec.ofNat 8 nonce.toNat) ∧
  (∀ (c : Fin 2) (i sig : Nat) (body : List Byte) (x : HCmd) (s : State), s.runs → s.atHand c 0 i 0x82 x → bits x.e.d10 24 8 = 0xF1 →
    bits x.e.d10 8 16 = 0x10 → s.sec.report = some (body, sig) → Does (.reportReceive c i) s fun t =>
      t.outcome c 0 i = some hOk ∧ t.out = s.out ++ [.hostData c 0 i (body ++ leBytes sig 29792)]) ∧
  (∀ (c : Fin 2) (i : Nat) (x : HCmd) (s : State), s.runs → s.atHand c 0 i 0x82 x → bits x.e.d10 24 8 = 0xF1 →
    bits x.e.d10 8 16 = 0x10 → s.sec.report = none → Does (.reportReceive c i) s fun t =>
      t.outcome c 0 i = some { sct := 7, sc := 0xC4, crd := 1, dnr := false } ∧ t.out = s.out) ∧
  (∀ (c : Fin 2) (i : Nat) (x : HCmd) (s : State), s.runs → s.atHand c 0 i 0x82 x → bits x.e.d10 24 8 = 0xF1 →
    bits x.e.d10 8 16 = 0x11 → Does (.identityReceive c i) s fun t => t.outcome c 0 i = some hOk ∧
      t.out = s.out ++ [.hostData c 0 i (leBytes Config.identityKey 64 ++ Config.certificate)] ∧ sameRegs s t) ∧
  (∀ (c : Fin 2) (i : Nat) (x : HCmd) (s : State), s.runs → s.atHand c 0 i 0x82 x → bits x.e.d10 24 8 = 0xF1 →
    bits x.e.d10 8 16 = 0x12 → Does (.keyInfoReceive c i) s fun t => t.outcome c 0 i = some hOk ∧ sameRegs s t ∧
      t.out = s.out ++ [.keyInfo c i [(s.flag (SEC_NSKEY_ENC 0), s.raw (SEC_NSKEY_GEN 0)), (s.flag (SEC_NSKEY_ENC 1), s.raw (SEC_NSKEY_GEN 1)),
        (s.flag (SEC_NSKEY_ENC 2), s.raw (SEC_NSKEY_GEN 2)), (s.flag (SEC_NSKEY_ENC 3), s.raw (SEC_NSKEY_GEN 3))]]) ∧
  (∀ (c : Fin 2) (i : Nat) (x : HCmd) (s : State), s.runs → s.atHand c 0 i 0x82 x → bits x.e.d10 24 8 = 0xF1 →
    bits x.e.d10 8 16 = 0x13 → Does (.challengeReceive c i) s fun t => t.outcome c 0 i = some hOk ∧
      t.out = s.out ++ [.hostData c 0 i ((List.range 8).flatMap fun k => leBytes (t.raw (SEC_DBG_CHAL_NONCE k)) 4)]) ∧
  (∀ (c : Fin 2) (i : Nat) (x : HCmd) (s : State), s.runs → s.atHand c 0 i 0x82 x → bits x.e.d10 24 8 = 0 →
    Does (.protocolList c i) s fun t => t.outcome c 0 i = some hOk ∧ sameRegs s t ∧
      t.out = s.out ++ [.hostData c 0 i [0, 0, 0, 0, 0, 0, 0, 2, 0, 0xF1]])

/-- I/O commands that read (R19, R21, R214, R246, R396) and Flush (R225): the outcome of a granted command and what goes to the host. The
model's choices it rests on: log entries 2, 3, 4, 165 and 166. -/
def Obligations.IoReadCommands : Prop :=
  (∀ (c : Fin 2) (q i : Nat) (x : HCmd) (s : State), s.runs → s.atHand c q i 0x00 x → q ≠ 0 → x.st = .granted →
    Does (.flush c q i) s fun t => t.outcome c q i = some hOk ∧ sameRegs s t ∧ sameDram s t) ∧
  (∀ (c : Fin 2) (q i : Nat) (media : List (List Byte)) (err : HostErr) (x : HCmd) (s : State), s.runs → s.atHand c q i 0x02 x → q ≠ 0 →
    x.st = .granted → s.readZoneFail x = none → s.readFail x err = none → Does (.read c q i media err) s fun t =>
      t.outcome c q i = some hOk ∧ t.out = s.out ++ [.hostData c q i (s.pieceData x.e.nsid (sqeLba x.e) x.pieces media)] ∧
      sameRegs s t ∧ sameDram s t) ∧
  (∀ (c : Fin 2) (q i lba : Nat) (media : List (List Byte)) (err : HostErr) (st : HStat) (x : HCmd) (s : State), s.runs →
    s.atHand c q i 0x02 x → q ≠ 0 → x.st = .granted → s.readZoneFail x = none → s.readFail x err = some (st, lba) →
    Does (.read c q i media err) s fun t => t.out = s.out ∧
      ∃ y, t.cmd c q i = some y ∧ y.status = some st ∧ y.failLba = lba) ∧
  (∀ (c : Fin 2) (q i : Nat) (media : List (List Byte)) (err : HostErr) (st : HStat) (x : HCmd) (s : State), s.runs →
    s.atHand c q i 0x02 x → q ≠ 0 → x.st = .granted → s.readZoneFail x = some st → Does (.read c q i media err) s fun t =>
      t.outcome c q i = some st ∧ t.out = s.out) ∧
  (∀ (c : Fin 2) (q i : Nat) (media : List (List Byte)) (data : List Byte) (err : HostErr) (x : HCmd) (s : State), s.runs →
    s.atHand c q i 0x05 x → q ≠ 0 → x.st = .granted → s.readZoneFail x = none → s.readFail x err = none →
    Does (.compare c q i media data err) s fun t =>
      t.outcome c q i = some (if s.pieceData x.e.nsid (sqeLba x.e) x.pieces media = data then hOk else hst 2 0x85 true) ∧
      t.out = s.out ∧ sameRegs s t) ∧
  (∀ (c : Fin 2) (q i : Nat) (media : List (List Byte)) (err : HostErr) (x : HCmd) (s : State), s.runs →
    s.atHand c q i 0x0C x → q ≠ 0 → x.st = .granted → s.readZoneFail x = none → s.readFail x err = none →
    Does (.verify c q i media err) s fun t => t.outcome c q i = some hOk ∧ t.out = s.out ∧ sameRegs s t) ∧
  (∀ (c : Fin 2) (q i lba : Nat) (media : List (List Byte)) (err : HostErr) (st : HStat) (x : HCmd) (s : State), s.runs →
    s.atHand c q i 0x0C x → q ≠ 0 → x.st = .granted → s.readZoneFail x = none → s.readFail x err = some (st, lba) →
    Does (.verify c q i media err) s fun t => t.outcome c q i = some st ∧ t.out = s.out) ∧
  (∀ (c : Fin 2) (q i : Nat) (x : HCmd) (s : State), s.runs → s.atHand c q i 0x7A x → q ≠ 0 → x.st = .granted →
    Does (.zoneManagementReceive c q i) s fun t => t.outcome c q i = some hOk ∧ sameRegs s t ∧
      ∃ b : List Byte, t.out = s.out ++ [.hostData c q i b] ∧ b.length ≤ (x.e.d12 + 1) * 4)

/-- I/O commands that change the map (R180 to R182, R214, R223, R231, R243, R244): refused placements, outcomes, and where the data of a write
goes. The model's choices it rests on: log entries 2, 3, 4, 164 and 171. -/
def Obligations.IoWriteCommands : Prop :=
  (∀ (c : Fin 2) (q i : Nat) (data : List Byte) (recs : List Nat) (x : HCmd) (s : State), s.runs → s.atHand c q i 0x01 x → q ≠ 0 →
    x.st = .granted → s.placeFail x.e.nsid (sqeLba x.e) (sqeNlb x.e) false = none →
    (recordsApply recs s).rangesAll x.e.nsid [(sqeLba x.e, sqeNlb x.e)] isSegment = true →
    ((recordsApply recs s).unitsOf x.e.nsid (sqeLba x.e) (sqeNlb x.e)).all (fun u => ((recordsApply recs s).unit u).dirty) = true →
    data.length = sqeNlb x.e * 4096 → Does (.write c q i data recs .none) s fun t =>
      (∃ y, t.cmd c q i = some y ∧ y.status = some hOk ∧ y.jseq = (recordsApply recs s).raw XLT_JSEQ_JSEQ ∧
        y.units = (recordsApply recs s).unitsOf x.e.nsid (sqeLba x.e) (sqeNlb x.e)) ∧
      (sqeNlb x.e = 1 → s.flag (SEC_NSKEY_ENC (x.e.nsid - 1)) = false →
        t.dramBytes ((recordsApply recs s).unitOf x.e.nsid (sqeLba x.e) * 4096) 4096 = data)) ∧
  (∀ (c : Fin 2) (q i : Nat) (data : List Byte) (recs : List Nat) (err : HostErr) (st : HStat) (x : HCmd) (s : State), s.runs →
    s.atHand c q i 0x01 x → q ≠ 0 → x.st = .granted → s.placeFail x.e.nsid (sqeLba x.e) (sqeNlb x.e) false = some st →
    Does (.write c q i data recs err) s fun t => t.outcome c q i = some st ∧ sameDram s t ∧ sameRegs s t) ∧
  (∀ (c : Fin 2) (q i : Nat) (data : List Byte) (recs : List Nat) (x : HCmd) (s : State), s.runs → s.atHand c q i 0x01 x → q ≠ 0 →
    x.st = .granted → s.placeFail x.e.nsid (sqeLba x.e) (sqeNlb x.e) false = none → Does (.write c q i data recs .xfer) s fun t =>
      t.outcome c q i = some (hst 0 4 false) ∧ sameDram s t ∧ sameRegs s t) ∧
  (∀ (c : Fin 2) (q i e : Nat) (data : List Byte) (recs : List Nat) (x : HCmd) (s : State), s.runs → s.atHand c q i 0x7D x → q ≠ 0 →
    x.st = .granted → s.appendWaits x = false → s.chunkEntry x.e.nsid (sqeLba x.e) = some e →
    s.placeFail x.e.nsid (sqeLba x.e) (sqeNlb x.e) true = none →
    (recordsApply recs s).rangesAll x.e.nsid [(sqeLba x.e + cWp e, sqeNlb x.e)] isSegment = true →
    ((recordsApply recs s).unitsOf x.e.nsid (sqeLba x.e + cWp e) (sqeNlb x.e)).all (fun u => ((recordsApply recs s).unit u).dirty) = true →
    data.length = sqeNlb x.e * 4096 → Does (.zoneAppend c q i data recs .none) s fun t =>
      ∃ y, t.cmd c q i = some y ∧ y.status = some hOk ∧ y.dw0 = sqeLba x.e + cWp e) ∧
  (∀ (c : Fin 2) (q i : Nat) (data : List Byte) (recs : List Nat) (err : HostErr) (x : HCmd) (s : State), s.runs → s.atHand c q i 0x7D x →
    q ≠ 0 → x.st = .granted → s.appendWaits x = true → Does (.zoneAppend c q i data recs err) s fun t => t = s) ∧
  (∀ (c : Fin 2) (q i : Nat) (recs : List Nat) (x : HCmd) (s : State), s.runs → s.atHand c q i 0x04 x → q ≠ 0 → x.st = .granted →
    (∀ r ∈ x.ranges, s.placeFail x.e.nsid r.1 r.2 false = none) → (recordsApply recs s).rangesAll x.e.nsid x.ranges isUnrec = true →
    Does (.writeUncorrectable c q i recs) s fun t => t.outcome c q i = some hOk) ∧
  (∀ (c : Fin 2) (q i : Nat) (recs : List Nat) (r : Nat × Nat) (st : HStat) (x : HCmd) (s : State), s.runs → s.atHand c q i 0x04 x →
    q ≠ 0 → x.st = .granted → x.ranges = [r] → s.placeFail x.e.nsid r.1 r.2 false = some st →
    Does (.writeUncorrectable c q i recs) s fun t => t.outcome c q i = some st ∧ sameDram s t) ∧
  (∀ (c : Fin 2) (q i : Nat) (recs : List Nat) (x : HCmd) (s : State), s.runs → s.atHand c q i 0x08 x → q ≠ 0 → x.st = .granted →
    (∀ r ∈ x.ranges, s.placeFail x.e.nsid r.1 r.2 false = none) → (recordsApply recs s).rangesAll x.e.nsid x.ranges isGap = true →
    Does (.writeZeroes c q i recs) s fun t => t.outcome c q i = some hOk) ∧
  (∀ (c : Fin 2) (q i : Nat) (recs : List Nat) (x : HCmd) (s : State), s.runs → s.atHand c q i 0x09 x → q ≠ 0 → x.st = .granted →
    bitOf x.e.d11 2 = false ∨ s.nsZoned x.e.nsid = true → Does (.datasetManagement c q i recs) s fun t =>
      t.outcome c q i = some hOk ∧ sameRegs s t ∧ sameDram s t) ∧
  (∀ (c : Fin 2) (q i : Nat) (recs : List Nat) (x : HCmd) (s : State), s.runs → s.atHand c q i 0x09 x → q ≠ 0 → x.st = .granted →
    bitOf x.e.d11 2 = true → s.nsZoned x.e.nsid = false → (recordsApply recs s).rangesAll x.e.nsid x.ranges isGap = true →
    Does (.datasetManagement c q i recs) s fun t => t.outcome c q i = some hOk ∧
      t.raw XLT_JSEQ_JSEQ = (recordsApply recs s).raw XLT_JSEQ_JSEQ) ∧
  (∀ (c : Fin 2) (q i : Nat) (recs : List Nat) (x : HCmd) (s : State), s.runs → s.atHand c q i 0x79 x → q ≠ 0 → x.st = .granted →
    bits x.e.d13 0 8 = 1 → (∀ k ∈ s.zoneList x 1, s.zoneFail x.e.nsid k 1 = none) →
    (∀ k ∈ s.zoneList x 1, (recordsApply recs s).zoneDone x.e.nsid k 1 = true) → Does (.zoneClose c q i recs) s fun t =>
      t.outcome c q i = some hOk ∧ (∀ k ∈ s.zoneList x 1, t.zoneDone x.e.nsid k 1 = true)) ∧
  (∀ (c : Fin 2) (q i : Nat) (recs : List Nat) (x : HCmd) (s : State), s.runs → s.atHand c q i 0x79 x → q ≠ 0 → x.st = .granted →
    bits x.e.d13 0 8 = 2 → (∀ k ∈ s.zoneList x 2, s.zoneFail x.e.nsid k 2 = none) →
    (∀ k ∈ s.zoneList x 2, (recordsApply recs s).zoneDone x.e.nsid k 2 = true) → Does (.zoneFinish c q i recs) s fun t =>
      t.outcome c q i = some hOk ∧ (∀ k ∈ s.zoneList x 2, t.zoneDone x.e.nsid k 2 = true)) ∧
  (∀ (c : Fin 2) (q i : Nat) (recs : List Nat) (x : HCmd) (s : State), s.runs → s.atHand c q i 0x79 x → q ≠ 0 → x.st = .granted →
    bits x.e.d13 0 8 = 3 → (∀ k ∈ s.zoneList x 3, s.zoneFail x.e.nsid k 3 = none) →
    (∀ k ∈ s.zoneList x 3, (recordsApply recs s).zoneDone x.e.nsid k 3 = true) → Does (.zoneOpen c q i recs) s fun t =>
      t.outcome c q i = some hOk ∧ (∀ k ∈ s.zoneList x 3, t.zoneDone x.e.nsid k 3 = true)) ∧
  (∀ (c : Fin 2) (q i : Nat) (st : HStat) (recs : List Nat) (x : HCmd) (s : State), s.runs → s.atHand c q i 0x79 x → q ≠ 0 →
    x.st = .granted → bits x.e.d13 0 8 = 3 → bitOf x.e.d13 8 = false → s.zoneFail x.e.nsid (sqeLba x.e / 65536) 3 = some st →
    Does (.zoneOpen c q i recs) s fun t => t.outcome c q i = some st ∧ sameDram s t) ∧
  (∀ (c : Fin 2) (q i : Nat) (recs : List Nat) (x : HCmd) (s : State), s.runs → s.atHand c q i 0x79 x → q ≠ 0 → x.st = .granted →
    bits x.e.d13 0 8 = 4 → (∀ k ∈ s.zoneList x 4, s.zoneFail x.e.nsid k 4 = none) →
    (∀ k ∈ s.zoneList x 4,
      (recordsApply recs ((s.zoneList x 4).foldl (fun t k => dstAbortChunk x.e.nsid k t) s)).zoneDone x.e.nsid k 4 = true) →
    Does (.zoneReset c q i recs) s fun t =>
      t.outcome c q i = some hOk ∧ (∀ k ∈ s.zoneList x 4, t.zoneDone x.e.nsid k 4 = true)) ∧
  (∀ (c : Fin 2) (q i : Nat) (recs : List Nat) (x : HCmd) (s : State), s.runs → s.atHand c q i 0x79 x → q ≠ 0 → x.st = .granted →
    bits x.e.d13 0 8 = 5 → (∀ k ∈ s.zoneList x 5, s.zoneFail x.e.nsid k 5 = none) →
    (∀ k ∈ s.zoneList x 5,
      (recordsApply recs ((s.zoneList x 5).foldl (fun t k => dstAbortChunk x.e.nsid k t) s)).zoneDone x.e.nsid k 5 = true) →
    Does (.zoneOffline c q i recs) s fun t =>
      t.outcome c q i = some hOk ∧ (∀ k ∈ s.zoneList x 5, t.zoneDone x.e.nsid k 5 = true))

/-- Controllers, ports and links (R213, R239, R240, R401, R429): enabling, resets, shutdown, PERST# and link training. The model's choices it
rests on: log entries 2, 3, 4, 169 and 170. -/
def Obligations.ControllerCommands : Prop :=
  (∀ (c : Fin 2) (asqs acqs : Fin 4097) (ams : Fin 8) (s : State), s.runs → s.ctlExists c = true → s.flag (HIF_C_STAT_EN c.val) = false →
    2 ≤ asqs.val → 2 ≤ acqs.val → Does (.controllerEnable c asqs acqs ams) s fun t => t.flag (HIF_C_STAT_EN c.val) = true ∧
      t.flag (HIF_C_STAT_RDY c.val) = true ∧ (t.hif.ctrl[c]).sqs = [adminSq asqs.val] ∧ (t.hif.ctrl[c]).cqs = [adminCq acqs.val] ∧
      (t.hif.ctrl[c]).ams = ams.val ∧ (t.hif.ctrl[c]).shst = 0) ∧
  (∀ (c : Fin 2) (s : State), s.runs → s.flag (HIF_C_STAT_EN c.val) = true → Does (.controllerReset c) s fun t =>
    t.flag (HIF_C_STAT_EN c.val) = false ∧ t.flag (HIF_C_STAT_RDY c.val) = false ∧ (t.hif.ctrl[c]).sqs = [] ∧
    (t.hif.ctrl[c]).cqs = [] ∧ (∀ x ∈ t.hif.cmds, x.ctl ≠ c) ∧ (t.hif.ctrl[c]).errLog = (s.hif.ctrl[c]).errLog) ∧
  (∀ (c : Fin 2) (s : State), s.runs → s.flag (HIF_C_STAT_EN c.val) = false → Does (.controllerReset c) s fun t => t = s) ∧
  (∀ (c : Fin 2) (s : State), s.runs → s.ctlExists c = true → Does (.functionLevelReset c) s fun t =>
    t.flag (HIF_C_STAT_EN c.val) = false ∧ (t.hif.ctrl[c]).sqs = [] ∧ (∀ x ∈ t.hif.cmds, x.ctl ≠ c)) ∧
  (∀ (c : Fin 2) (s : State), s.runs → s.flag (HIF_C_STAT_EN c.val) = true → (s.hif.ctrl[c]).shst ≠ 2 → s.shutDone c = true →
    Does (.normalShutdown c) s fun t => (t.hif.ctrl[c]).shst = 2 ∧
      ∃ k, t.xl1.ckpts[(if s.slot0Older then 0 else 1 : Fin 4)] = some k ∧ k.jseq = s.raw XLT_JSEQ_JSEQ) ∧
  (∀ (c : Fin 2) (s : State), s.runs → s.flag (HIF_C_STAT_EN c.val) = true → (s.hif.ctrl[c]).shst ≠ 2 → s.shutDone c = false →
    Does (.normalShutdown c) s fun t => (t.hif.ctrl[c]).shst = 1 ∧ sameRegs s t) ∧
  (∀ (c : Fin 2) (s : State), s.runs → s.flag (HIF_C_STAT_EN c.val) = true → (s.hif.ctrl[c]).shst ≠ 2 → s.shutDone c = true →
    Does (.abruptShutdown c) s fun t => (t.hif.ctrl[c]).shst = 2 ∧ t.xl1 = s.xl1 ∧ sameRegs s t) ∧
  (∀ (p : Fin 2) (s : State), s.runs → s.ctlExists p = true → Does (.perstAssert p) s fun t => t.pins.perst[p] = true ∧
    t.bit RST_PORT_PERST p.val = true ∧ t.flag (HIF_PORT_LINK_UP p.val) = false ∧ t.flag (HIF_C_STAT_EN p.val) = false ∧
    (t.hif.ctrl[p]).sqs = []) ∧
  (∀ (s : State), s.runs → s.raw RST_PORT_CNT0 < 65535 → Does (.hotReset 0) s fun t => t.raw RST_PORT_CNT0 = s.raw RST_PORT_CNT0 + 1 ∧
    t.flag (HIF_PORT_LINK_UP 0) = false ∧ (t.hif.ctrl[(0 : Fin 2)]).sqs = [] ∧ t.pins.perst = s.pins.perst) ∧
  (∀ (p : Fin 2) (s : State), s.runs → s.ctlExists p = true → Does (.hotReset p) s fun t =>
    t.flag (HIF_PORT_LINK_UP p.val) = false ∧ t.flag (HIF_C_STAT_EN p.val) = false ∧ (t.hif.ctrl[p]).sqs = []) ∧
  (∀ (p : Fin 2) (ltssm : BitVec 6) (s : State), s.runs → s.ctlExists p = true → s.refStable p = true → s.flag (HIF_PORT_LINK_UP p.val) = false →
    Does (.linkTrainingStart p ltssm) s fun t => t.pins.perst[p] = false ∧ t.bit RST_PORT_PERST p.val = false ∧
      t.raw (HIF_PORT_LTSSM p.val) = ltssm.toNat) ∧
  (∀ (p : Fin 2) (speed width : Fin 6) (ltssm : BitVec 6) (s : State), s.runs → s.ctlExists p = true → s.pins.perst[p] = false →
    Does (.pcieLinkUp p speed width ltssm) s fun t => t.flag (HIF_PORT_LINK_UP p.val) = true ∧
      t.raw (HIF_PORT_SPEED p.val) = speed.val ∧ t.raw (HIF_PORT_WIDTH p.val) = width.val ∧
      t.raw (HIF_PORT_LTSSM p.val) = ltssm.toNat) ∧
  (∀ (s : State), s.runs → s.pins.led = true → s.ioBusy = false → Does .actledHoldExpiry s fun t => t.pins.led = false ∧ sameRegs s t) ∧
  (∀ (s : State), s.runs → Does .miStatusUpdate s fun t => t.hif.mi.2.2.1 =
      unsgn 8 (max (-60) (min 127 (s.geti THM_TMAX_TMAX / 8))) ∧ t.hif.mi.2.2.2 = Config.freeValue s.free % 256 ∧ sameRegs s t) ∧
  (∀ (s : State), s.runs → Does .nvmeMiBasic s fun t =>
    t.out = s.out ++ [.smbus s.hif.mi.1 s.hif.mi.2.1 s.hif.mi.2.2.1 s.hif.mi.2.2.2] ∧ sameRegs s t)

/-- Buffer units and DMA (R251, R252, R254, R258, R442): allocations, operations on named units, and jobs. The model's choices it rests on:
log entries 2, 3, 4, 178 and 179. -/
def Obligations.BufferCommands : Prop :=
  (∀ (r : Req) (n : Fin 512) (u : Nat) (s : State), s.runs → s.flag BUF_CTL_EN = true → s.pickRun (n.val + 1) = some u →
    u < 2 ^ 22 → Does (.allocClean r n) s fun t => t.raw (BUF_SEG_RESP_RESULT.of r) = 0 ∧ t.raw (BUF_SEG_RESP_ADDR.of r) = u ∧
      t.flag (BUF_SEG_RESP_DONE.of r) = true ∧ (∀ v ∈ unitRun u (n.val + 1), t.unit v = { dirty := false, ref := 1 }) ∧
      (∀ v, v < u ∨ u + n.val < v → t.unit v = s.unit v)) ∧
  (∀ (r : Req) (n : Fin 512) (u : Nat) (s : State), s.runs → s.flag BUF_CTL_EN = true → s.dirtyUnits + n.val + 1 ≤ s.cap →
    s.pickRun (n.val + 1) = some u → u < 2 ^ 22 → Does (.allocDirty r n) s fun t => t.raw (BUF_SEG_RESP_RESULT.of r) = 0 ∧
      t.raw (BUF_SEG_RESP_ADDR.of r) = u ∧ (∀ v ∈ unitRun u (n.val + 1), t.unit v = { dirty := true, ref := 1 }) ∧
      (∀ v, v < u ∨ u + n.val < v → t.unit v = s.unit v)) ∧
  (∀ (r : Req) (n : Fin 512) (s : State), s.runs → s.flag BUF_CTL_EN = true → s.cap < s.dirtyUnits + n.val + 1 →
    Does (.allocDirty r n) s fun t => t.raw (BUF_SEG_RESP_RESULT.of r) = 1 ∧ t.flag BUF_STAT_CAP_WAIT = true ∧ t.buf = s.buf) ∧
  (∀ (r : Req) (n : Fin 512) (s : State), s.runs → s.flag BUF_CTL_EN = true → s.pickRun (n.val + 1) = none →
    Does (.allocClean r n) s fun t => t.raw (BUF_SEG_RESP_RESULT.of r) = 2 ∧ t.buf = s.buf) ∧
  (∀ (r : Req) (n : Fin 512) (s : State), s.runs → s.flag BUF_CTL_EN = false → Does (.allocClean r n) s fun t =>
    t.raw (BUF_SEG_RESP_RESULT.of r) = 5 ∧ t.flag (BUF_SEG_RESP_DONE.of r) = true ∧ t.buf = s.buf) ∧
  (∀ (r : Req) (n : Fin 512) (addr : Nat) (s : State), s.runs → s.flag BUF_CTL_EN = true →
    (∀ u ∈ unitRun (addr % 2 ^ 22) (n.val + 1), s.inPool u = true ∧ 0 < (s.unit u).ref ∧ (s.unit u).ref ≠ 16383) →
    Does (.ref r n addr) s fun t => t.raw (BUF_SEG_RESP_RESULT.of r) = 0 ∧
      (∀ u ∈ unitRun (addr % 2 ^ 22) (n.val + 1), t.unit u = { (s.unit u) with ref := (s.unit u).ref + 1 })) ∧
  (∀ (r : Req) (n : Fin 512) (addr : Nat) (s : State), s.runs → s.flag BUF_CTL_EN = true →
    (∀ u ∈ unitRun (addr % 2 ^ 22) (n.val + 1), s.inPool u = true ∧ 0 < (s.unit u).ref) →
    Does (.unref r n addr) s fun t => t.raw (BUF_SEG_RESP_RESULT.of r) = 0 ∧
      (∀ u ∈ unitRun (addr % 2 ^ 22) (n.val + 1), (t.unit u).ref = (s.unit u).ref - 1)) ∧
  (∀ (r : Req) (n : Fin 512) (addr : Nat) (s : State), s.runs → s.flag BUF_CTL_EN = true →
    (∀ u ∈ unitRun (addr % 2 ^ 22) (n.val + 1), s.inPool u = true ∧ 0 < (s.unit u).ref) →
    Does (.clean r n addr) s fun t => t.raw (BUF_SEG_RESP_RESULT.of r) = 0 ∧
      (∀ u ∈ unitRun (addr % 2 ^ 22) (n.val + 1), t.unit u = { dirty := false, ref := (s.unit u).ref })) ∧
  (∀ (r : Req) (n : Fin 512) (addr : Nat) (s : State), s.runs → s.flag BUF_CTL_EN = true →
    (∀ u ∈ unitRun (addr % 2 ^ 22) (n.val + 1), s.inPool u = true ∧ 0 < (s.unit u).ref) →
    Does (.cleanUnref r n addr) s fun t => t.raw (BUF_SEG_RESP_RESULT.of r) = 0 ∧
      (∀ u ∈ unitRun (addr % 2 ^ 22) (n.val + 1), (t.unit u).dirty = false ∧ (t.unit u).ref = (s.unit u).ref - 1)) ∧
  (∀ (r : Req) (n : Fin 512) (addr : Nat) (s : State), s.runs → s.flag BUF_CTL_EN = true →
    (∀ u ∈ unitRun (addr % 2 ^ 22) (n.val + 1), s.inPool u = true ∧ (s.unit u).ref = 0) →
    Does (.restore r n addr) s fun t => t.raw (BUF_SEG_RESP_RESULT.of r) = 0 ∧
      (∀ u ∈ unitRun (addr % 2 ^ 22) (n.val + 1), t.unit u = { dirty := true, ref := 1 })) ∧
  (∀ (r : Req) (n : Fin 512) (addr u : Nat) (s : State), s.runs → s.flag BUF_CTL_EN = true →
    u ∈ unitRun (addr % 2 ^ 22) (n.val + 1) → s.inPool u = true → (s.unit u).ref = 0 → Does (.ref r n addr) s fun t =>
      t.raw (BUF_SEG_RESP_RESULT.of r) = 3 ∧ t.buf = s.buf) ∧
  (∀ (c : Fin 32) (s : State), s.runs → s.flag (BUF_DMA_CTL_GO c.val) = false → Does (.dmaCopy c) s fun t =>
    t.flag (BUF_DMA_CTL_GO c.val) = true ∧ t.raw (BUF_DMA_CTL_OP c.val) = 0 ∧ t.flag (BUF_DMA_CTL_HALTED c.val) = false ∧ sameDram s t) ∧
  (∀ (c : Fin 32) (s : State), s.runs → s.flag (BUF_DMA_CTL_GO c.val) = false → Does (.dmaFill c) s fun t =>
    t.flag (BUF_DMA_CTL_GO c.val) = true ∧ t.raw (BUF_DMA_CTL_OP c.val) = 1 ∧ t.flag (BUF_DMA_CTL_HALTED c.val) = false ∧ sameDram s t) ∧
  (∀ (c : Fin 32) (s : State), s.runs → s.flag (BUF_DMA_CTL_GO c.val) = true → Does (.dmaFill c) s fun t => t = s) ∧
  (∀ (c : Fin 32) (s : State), s.runs → s.flag (BUF_DMA_CTL_GO c.val) = true → s.flag BUF_CTL_EN = true → s.stepOn 7 = true →
    s.raw (BUF_DMA_LEN_BLOCKS c.val) = 1 → s.get (BUF_DMA_CTL_OP c.val) = 1 → s.flag (BUF_DMA_DST_SPACE c.val) = false →
    s.raw (BUF_DMA_DST_ADDR c.val) * 64 + 64 ≤ dramSize → Does (.dmaJobEnd c) s fun t => t.flag (BUF_DMA_CTL_GO c.val) = false ∧ t.bit BUF_DMA_DONE_DONE c.val = true ∧
      (∀ i, i < 16 → t.dramLe (s.raw (BUF_DMA_DST_ADDR c.val) * 64 + 4 * i) 4 =
        s.pack [BUF_DMA_SRC_SPACE c.val, BUF_DMA_SRC_RSV28 c.val, BUF_DMA_SRC_ADDR c.val] % 2 ^ 32) ∧
      (∀ a, a < s.raw (BUF_DMA_DST_ADDR c.val) * 64 ∨ s.raw (BUF_DMA_DST_ADDR c.val) * 64 + 64 ≤ a → t.dramByte a = s.dramByte a)) ∧
  (∀ (c : Fin 32) (s : State), s.runs → s.flag (BUF_DMA_CTL_GO c.val) = true → s.flag BUF_CTL_EN = true → s.stepOn 7 = true →
    s.raw (BUF_DMA_LEN_BLOCKS c.val) = 1 → s.get (BUF_DMA_CTL_OP c.val) = 0 → s.flag (BUF_DMA_SRC_SPACE c.val) = false →
    s.flag (BUF_DMA_DST_SPACE c.val) = false → s.dramOk (s.raw (BUF_DMA_SRC_ADDR c.val) * 64) 64 = true →
    s.raw (BUF_DMA_DST_ADDR c.val) * 64 + 64 ≤ dramSize → Does (.dmaJobEnd c) s fun t => t.flag (BUF_DMA_CTL_GO c.val) = false ∧ t.bit BUF_DMA_DONE_DONE c.val = true ∧
      (∀ i, i < 64 → t.dramByte (s.raw (BUF_DMA_DST_ADDR c.val) * 64 + i) = s.dramByte (s.raw (BUF_DMA_SRC_ADDR c.val) * 64 + i)) ∧
      (∀ a, a < s.raw (BUF_DMA_DST_ADDR c.val) * 64 ∨ s.raw (BUF_DMA_DST_ADDR c.val) * 64 + 64 ≤ a → t.dramByte a = s.dramByte a)) ∧
  (∀ (c : Fin 32) (s : State), s.runs → s.flag (BUF_DMA_CTL_GO c.val) = true → s.flag BUF_CTL_EN = true → s.stepOn 7 = true →
    s.raw (BUF_DMA_LEN_BLOCKS c.val) = 1 → s.get (BUF_DMA_CTL_OP c.val) = 0 → s.flag (BUF_DMA_SRC_SPACE c.val) = false →
    s.dramOk (s.raw (BUF_DMA_SRC_ADDR c.val) * 64) 64 = false → Does (.dmaJobEnd c) s fun t =>
      t.flag (BUF_DMA_CTL_GO c.val) = false ∧ t.flag (BUF_DMA_CTL_HALTED c.val) = true ∧ t.flag BUF_STAT_DMA_HALT = true ∧ t.dram = s.dram)

/-- Stored-word protection and the vault (R249, R250, R262 to R272): scrubbing, repair, retirement, page commands and the replay of a save.
The model's choices it rests on: log entries 2, 3, 4, 181 and 182. -/
def Obligations.MemoryAndVaultCommands : Prop :=
  (∀ (ce : Bool) (s : State), s.runs → s.flag MEM_CTL_SCRUB_EN = true → s.stepOn 7 = true → s.retired (s.mem.scrub / 64) = false →
    Does (.scrubRead ce true) s fun t => t.flag MEM_STAT_UE = true ∧ t.mem.scrub = (if dramLines ≤ s.mem.scrub + 1 then 0 else s.mem.scrub + 1) ∧
      (s.flag MEM_ERR_VALID = false → t.raw MEM_ERR_ARRAY = 0x3F ∧ t.raw MEM_ERR_READER = rdScrub)) ∧
  (∀ (s : State), s.runs → s.flag MEM_CTL_SCRUB_EN = true → s.stepOn 7 = true → s.retired (s.mem.scrub / 64) = false →
    s.poison.contains s.mem.scrub = false → Does (.scrubRead true false) s fun t =>
      t.flag MEM_STAT_CE = true ∧ t.flag MEM_STAT_UE = s.flag MEM_STAT_UE ∧ (dramLines ≤ s.mem.scrub + 1 → t.flag MEM_STAT_SCRUB_PASS = true)) ∧
  (∀ (ce ue : Bool) (s : State), s.runs → s.flag MEM_CTL_SCRUB_EN = false ∨ s.stepOn 7 = false → Does (.scrubRead ce ue) s fun t => t = s) ∧
  (∀ (array row : Nat) (s : State), s.runs →
    0 < (s.set MEM_REPAIR_ARRAY array).sparesLeft ((s.set MEM_REPAIR_ARRAY array).get MEM_REPAIR_ARRAY) → Does (.rowRepair array row) s fun t =>
      t.mem.rows = s.mem.rows ++ [((s.set MEM_REPAIR_ARRAY array).get MEM_REPAIR_ARRAY, row % 2 ^ 16)] ∧
      t.flag MEM_STAT_REPAIR_FAIL = s.flag MEM_STAT_REPAIR_FAIL) ∧
  (∀ (array row : Nat) (s : State), s.runs →
    (s.set MEM_REPAIR_ARRAY array).sparesLeft ((s.set MEM_REPAIR_ARRAY array).get MEM_REPAIR_ARRAY) = 0 → Does (.rowRepair array row) s fun t =>
      t.flag MEM_STAT_REPAIR_FAIL = true ∧ t.mem.rows = s.mem.rows) ∧
  (∀ (i : Fin 16) (v : Word) (s : State), s.runs → Does (.regionRetire i v) s fun t =>
    t.flag (MEM_RETIRE_VALID i.val) = bitOf v.toNat 31 ∧ t.raw (MEM_RETIRE_REGION i.val) = bits v.toNat 0 13) ∧
  (∀ (r : Req) (tag block page data spare : Nat) (s : State), s.runs → s.vltResult (vCmd 1 tag block page data spare) = 0 →
    Does (.vaultReadPage r tag block page data spare) s fun t => t.raw (VLT_RESP_RESULT.of r) = 0 ∧ t.flag (VLT_RESP_DONE.of r) = true ∧
      t.vlt.queue = s.vlt.queue ++ [vCmd 1 tag block page data spare]) ∧
  (∀ (r : Req) (tag block page data spare : Nat) (s : State), s.runs → s.vltResult (vCmd 2 tag block page data spare) = 0 →
    Does (.vaultProgramPage r tag block page data spare) s fun t => t.raw (VLT_RESP_RESULT.of r) = 0 ∧
      t.vlt.queue = s.vlt.queue ++ [vCmd 2 tag block page data spare]) ∧
  (∀ (r : Req) (tag block page data spare : Nat) (s : State), s.runs → s.flag VLT_CTL_EN = true →
    (s.saveBlock (block % 4096)).isSome = true → s.vlt.queue = [] → s.vlt.cq = [] → Does (.vaultProgramPage r tag block page data spare) s fun t =>
      t.raw (VLT_RESP_RESULT.of r) = 3 ∧ t.vlt = s.vlt) ∧
  (∀ (r : Req) (tag block : Nat) (s : State), s.runs → s.vltResult (vCmd 3 tag block 0 0 0) = 0 →
    Does (.vaultEraseBlock r tag block) s fun t => t.raw (VLT_RESP_RESULT.of r) = 0 ∧
      t.vlt.queue = s.vlt.queue ++ [vCmd 3 tag block 0 0 0]) ∧
  (∀ (r : Req) (tag block : Nat) (s : State), s.runs → s.flag VLT_CTL_EN = false → Does (.vaultEraseBlock r tag block) s fun t =>
    t.raw (VLT_RESP_RESULT.of r) = 4 ∧ t.vlt = s.vlt) ∧
  (∀ (tag maxbits : Nat) (c : VCmd) (s : State), s.runs → s.vlt.queue.find? (fun c => c.tag == tag) = some c → c.op = 3 → s.granted 15 = true →
    s.stepOn 7 = true → s.saveBlock c.block = none → Does (.vaultCommandDone tag maxbits false) s fun t =>
      t.flag VLT_STAT_DONE = true ∧ t.vlt.cq = s.vlt.cq ++ [(0, c.tag, 0)] ∧
      (∀ p, p < 256 → tabLook none t.vlt.pages (c.block * 256 + p) = none)) ∧
  (∀ (tag maxbits : Nat) (c : VCmd) (s : State), s.runs → s.vlt.queue.find? (fun c => c.tag == tag) = some c → c.op = 2 → s.granted 15 = true →
    s.stepOn 7 = true → s.dramOk (c.data * 4096) 16384 = true → s.dramOk (c.spare * 16) 64 = true →
    Does (.vaultCommandDone tag maxbits false) s fun t => t.vlt.cq = s.vlt.cq ++ [(0, c.tag, 0)] ∧
      tabLook none t.vlt.pages (c.block * 256 + c.page) =
        some { data := leNat (s.dramBytes (c.data * 4096) 16384), spare := leNat (s.dramBytes (c.spare * 16) 64) }) ∧
  (∀ (tag maxbits : Nat) (failed : Bool) (c : VCmd) (s : State), s.runs → s.vlt.queue.find? (fun c => c.tag == tag) = some c → c.op = 1 →
    s.stepOn 7 = true → 40 < maxbits → Does (.vaultCommandDone tag maxbits failed) s fun t =>
      t.flag VLT_STAT_FAIL = true ∧ t.vlt.cq = s.vlt.cq ++ [(2, c.tag, min maxbits 255)] ∧ sameDram s t) ∧
  (∀ (tag maxbits : Nat) (failed : Bool) (c : VCmd) (p : VPage) (s : State), s.runs → s.vlt.queue.find? (fun c => c.tag == tag) = some c →
    c.op = 1 → s.stepOn 7 = true → maxbits ≤ 40 → tabLook none s.vlt.pages (c.block * 256 + c.page) = some p → p.spare < 2 ^ 512 →
    c.spare * 16 + 64 ≤ c.data * 4096 → c.data * 4096 + 16384 ≤ 2 ^ 34 →
    Does (.vaultCommandDone tag maxbits failed) s fun t => t.dramByte (c.data * 4096) = BitVec.ofNat 8 p.data ∧
      t.dramByte (c.spare * 16) = BitVec.ofNat 8 p.spare ∧
      t.vlt.cq = s.vlt.cq ++ [(if s.raw VLT_CTL_REFRESH_TH < maxbits then 1 else 0, c.tag, maxbits)]) ∧
  (∀ (s : State), s.runs → Does .vaultCompletionPop s fun t => t.vlt.cq = s.vlt.cq.tail ∧ t.vlt.queue = s.vlt.queue ∧ sameRegs s t) ∧
  (∀ (at_ lost : Nat) (recs free : List Nat) (s : State), s.runs → pageMarked (s.savePage 0) 0xA7C50001 = false →
    Does (.saveReplay at_ recs lost free) s fun t => t = s) ∧
  (∀ (at_ lost : Nat) (recs free : List Nat) (s : State), s.runs → pageMarked (s.savePage 0) 0xA7C50001 = true →
    Does (.saveReplay at_ recs lost free) s fun t => t.flag VLT_STAT_SAVE_FOUND = true)

/-- Microwords (R276 to R292): where each SEQ takes the PC and the stack, what a word computes and stages, and the role faults of the
sequencer. The model's choices it rests on: log entries 2, 3, 4, 186, 189 and 190. -/
def Obligations.MicrowordCommands : Prop :=
  (∀ (n : Fin 18) (s : State), s.runs → s.wordReady n 0 → Does (.next n) s fun t =>
    t.raw (ENG_SE_STAT_PC n.val) = (s.raw (ENG_SE_STAT_PC n.val) + 1) % 8192 ∧ (t.eng.se[n]).stack = (s.eng.se[n]).stack ∧
    t.seSt n.val = s.seSt n.val) ∧
  (∀ (n : Fin 18) (s : State), s.runs → s.wordReady n 1 → Does (.jump n) s fun t =>
    t.raw (ENG_SE_STAT_PC n.val) = (s.wordAtPc n).naddr ∧ (t.eng.se[n]).stack = (s.eng.se[n]).stack) ∧
  (∀ (n : Fin 18) (s : State), s.runs → s.wordReady n 2 → Does (.branch n) s fun t =>
    t.raw (ENG_SE_STAT_PC n.val) = (if s.condOf n (s.seInt n) (s.wordAtPc n) then (s.wordAtPc n).naddr
      else (s.raw (ENG_SE_STAT_PC n.val) + 1) % 8192)) ∧
  (∀ (n : Fin 18) (s : State), s.runs → s.wordReady n 3 → (s.eng.se[n]).stack.length < 8 → Does (.call n) s fun t =>
    t.raw (ENG_SE_STAT_PC n.val) = (s.wordAtPc n).naddr ∧
    (t.eng.se[n]).stack = (s.raw (ENG_SE_STAT_PC n.val) + 1) % 8192 :: (s.eng.se[n]).stack) ∧
  (∀ (n : Fin 18) (s : State), s.runs → s.wordReady n 3 → 8 ≤ (s.eng.se[n]).stack.length → Does (.call n) s fun t =>
    t.seSt n.val = seFaulted ∧ t.raw (ENG_SE_FAULT_FCODE n.val) = 3 ∧
    t.raw (ENG_SE_FAULT_FPC n.val) = s.raw (ENG_SE_STAT_PC n.val) ∧ t.flag ENG_STAT_ROLE_FAULT = true) ∧
  (∀ (n : Fin 18) (s : State), s.runs → s.wordReady n 4 → (s.eng.se[n]).stack.length < 8 → Does (.ccall n) s fun t =>
    (s.condOf n (s.seInt n) (s.wordAtPc n) = true → t.raw (ENG_SE_STAT_PC n.val) = (s.wordAtPc n).naddr ∧
      (t.eng.se[n]).stack = (s.raw (ENG_SE_STAT_PC n.val) + 1) % 8192 :: (s.eng.se[n]).stack) ∧
    (s.condOf n (s.seInt n) (s.wordAtPc n) = false → t.raw (ENG_SE_STAT_PC n.val) = (s.raw (ENG_SE_STAT_PC n.val) + 1) % 8192 ∧
      (t.eng.se[n]).stack = (s.eng.se[n]).stack)) ∧
  (∀ (n : Fin 18) (a : Nat) (l : List Nat) (s : State), s.runs → s.wordReady n 5 → (s.eng.se[n]).stack = a :: l → a < 8192 →
    Does (.ret n) s fun t => t.raw (ENG_SE_STAT_PC n.val) = a ∧ (t.eng.se[n]).stack = l) ∧
  (∀ (n : Fin 18) (s : State), s.runs → s.wordReady n 5 → (s.eng.se[n]).stack = [] → Does (.ret n) s fun t =>
    t.seSt n.val = seFaulted ∧ t.raw (ENG_SE_FAULT_FCODE n.val) = 4) ∧
  (∀ (n : Fin 18) (a : Nat) (l : List Nat) (s : State), s.runs → s.wordReady n 6 → (s.eng.se[n]).stack = a :: l → a < 8192 →
    Does (.cret n) s fun t =>
      t.raw (ENG_SE_STAT_PC n.val) = (if s.condOf n (s.seInt n) (s.wordAtPc n) then a
        else (s.raw (ENG_SE_STAT_PC n.val) + 1) % 8192) ∧
      (t.eng.se[n]).stack = (if s.condOf n (s.seInt n) (s.wordAtPc n) then l else a :: l)) ∧
  (∀ (n : Fin 18) (s : State), s.runs → s.wordReady n 7 → Does (.dispatch n) s fun t => t.raw (ENG_SE_STAT_PC n.val) =
    (s.wordAtPc n).naddr / 16 * 16 + (s.eng.se[n]).reg (s.seInt n) (s.wordAtPc n).asel % 16) ∧
  (∀ (n : Fin 18) (s : State), s.runs → s.wordReady n 8 → Does (.wait n) s fun t => t.raw (ENG_SE_STAT_PC n.val) =
    (if s.condOf n (s.seInt n) (s.wordAtPc n) then (s.raw (ENG_SE_STAT_PC n.val) + 1) % 8192 else s.raw (ENG_SE_STAT_PC n.val))) ∧
  (∀ (n : Fin 18) (s : State), s.runs → s.wordReady n 9 → (s.wordAtPc n).dwe ≠ 2 → (s.wordAtPc n).lcld = false → Does (.loop n) s fun t =>
    ((t.eng.se[n]).level (s.seInt n)).lc = (((s.eng.se[n]).level (s.seInt n)).lc + 65535) % 65536 ∧
    t.raw (ENG_SE_STAT_PC n.val) = (if (((s.eng.se[n]).level (s.seInt n)).lc + 65535) % 65536 ≠ 0 then (s.wordAtPc n).naddr
      else (s.raw (ENG_SE_STAT_PC n.val) + 1) % 8192)) ∧
  (∀ (n : Fin 18) (s : State), s.runs → s.wordReady n 10 → s.seInt n = true → (s.eng.se[n]).link < 8192 → Does (.reti n) s fun t =>
    t.raw (ENG_SE_STAT_PC n.val) = (s.eng.se[n]).link ∧ t.seInt n = false ∧ (t.eng.se[n]).cause = 0x1F) ∧
  (∀ (n : Fin 18) (s : State), s.runs → s.wordReady n 10 → s.seInt n = false → Does (.reti n) s fun t =>
    t.seSt n.val = seFaulted ∧ t.raw (ENG_SE_FAULT_FCODE n.val) = 9) ∧
  (∀ (n : Fin 18) (s : State), s.runs → s.wordReady n 11 → Does (.halt n) s fun t => t.seSt n.val = seHalted ∧
    t.raw (ENG_SE_STAT_PC n.val) = (s.raw (ENG_SE_STAT_PC n.val) + 1) % 8192) ∧
  (∀ (n : Fin 18) (v : Nat) (s : State), s.runs → s.wordReady n 0 → (s.wordAtPc n).commit = false → (s.wordAtPc n).dwe = 1 →
    (s.wordAtPc n).aluop ≠ 11 → v < 2 ^ 32 →
    (aluOf (s.wordAtPc n).aluop ((s.eng.se[n]).reg (s.seInt n) (s.wordAtPc n).asel) (s.operandB n (s.seInt n) (s.wordAtPc n))
      (bits ((s.eng.se[n]).level (s.seInt n)).flags 2 1)).1 = some v → Does (.next n) s fun t =>
      (t.eng.se[n]).reg (s.seInt n) (s.wordAtPc n).dsel = v) ∧
  (∀ (n : Fin 18) (s : State), s.runs → s.wordReady n 0 → (s.wordAtPc n).commit = false → (s.wordAtPc n).busop = 3 →
    (s.wordAtPc n).evop = 0 → Does (.next n) s fun t => ((t.eng.se[n]).level (s.seInt n)).staged =
      ((s.eng.se[n]).level (s.seInt n)).staged ++ [.write (s.busAddr n (s.seInt n) (s.wordAtPc n)) (s.wordAtPc n).imm]) ∧
  (∀ (n : Fin 18) (s : State), s.runs → s.seSt n.val ≠ seRun → s.seSt n.val ≠ seTest → Does (.next n) s fun t => t = s)

/-- Reads, interrupts and limits of an engine (R276, R283 to R286, R290 to R292). The model's choices it rests on: log entries 2, 3, 4, 188
and 191. -/
def Obligations.EngineEvents : Prop :=
  (∀ (n : Fin 18) (int : Bool) (a v : Nat) (s : State), s.runs → ((s.eng.se[n]).level int).reading = some (a, some v) →
    Does (.busReadReturn n int) s fun t => ((t.eng.se[n]).level int).reading = none ∧ ((t.eng.se[n]).level int).brd = v ∧
      ((t.eng.se[n]).level int).rdErr = false) ∧
  (∀ (n : Fin 18) (int : Bool) (a : Nat) (s : State), s.runs → ((s.eng.se[n]).level int).reading = some (a, none) →
    ((s.eng.se[n]).level int).drain = [] → Does (.busReadReturn n int) s fun t =>
      ((t.eng.se[n]).level int).reading = none ∧ ((t.eng.se[n]).level int).brd = (busRead (.role (s.seRole n)) a s).2.1 ∧
      ((t.eng.se[n]).level int).rdErr = (busRead (.role (s.seRole n)) a s).2.2.isSome) ∧
  (∀ (n : Fin 18) (int : Bool) (s : State), s.runs → ((s.eng.se[n]).level int).reading = none → Does (.busReadReturn n int) s fun t => t = s) ∧
  (∀ (n : Fin 18) (k : Nat) (s : State), s.runs → s.irqDue n = some k → (s.eng.se[n]).base.drain = [] → (s.eng.se[n]).int.drain = [] →
    Does (.interruptEntry n) s fun t => t.seInt n = true ∧ t.raw (ENG_SE_STAT_PC n.val) = k ∧ (t.eng.se[n]).cause = k ∧
      (t.eng.se[n]).link = s.raw (ENG_SE_STAT_PC n.val)) ∧
  (∀ (n : Fin 18) (s : State), s.runs → s.irqDue n = none → Does (.interruptEntry n) s fun t => t = s) ∧
  (∀ (n : Fin 18) (s : State), s.runs → s.seSt n.val = seRun → (s.eng.se[n]).base.holds = true → Does (.commitGapExceeded n) s fun t =>
    t.seSt n.val = seFaulted ∧ t.raw (ENG_SE_FAULT_FCODE n.val) = 6) ∧
  (∀ (n : Fin 18) (s : State), s.runs → s.seSt n.val = seRun → s.seInt n = true → Does (.interruptLimitExceeded n) s fun t =>
    t.seSt n.val = seFaulted ∧ t.raw (ENG_SE_FAULT_FCODE n.val) = 7 ∧ t.seInt n = false) ∧
  (∀ (r : Fin 16) (v : Word) (s : State), s.runs → Does (.roleDoorbell r v) s fun t =>
    t.raw (ENG_ROLE_DB_VALUE r.val) = v.toNat ∧ t.bit (ENG_ROLE_IPEND_PEND r.val) 1 = true) ∧
  (∀ (n : Fin 18) (p : Fin 3) (w : Fin 8192) (hi : Bool) (v : Word) (s : State), s.runs → s.seSt n.val ≠ seRun → s.seSt n.val ≠ seLoading →
    (s.eng.se[n]).bad.contains (s.csCell n.val w.val * 3 + p.val) = false → Does (.controlStoreWrite n p w hi v) s fun t =>
      t.csPlane n w.val p.val = putBits (s.csPlane n w.val p.val) (if hi then 32 else 0) 32 v.toNat % 2 ^ 64 ∧ sameRegs s t) ∧
  (∀ (n : Fin 18) (p : Fin 3) (w : Fin 8192) (hi : Bool) (v : Word) (s : State), s.runs → s.seSt n.val = seRun ∨ s.seSt n.val = seLoading →
    Does (.controlStoreWrite n p w hi v) s fun t => t.flag ENG_STAT_CS_BUSY = true ∧ t.eng = s.eng)

/-- Engine states, roles and migration (R274, R293 to R298). The model's choices it rests on: log entries 2, 3, 4 and 194. -/
def Obligations.EngineControl : Prop :=
  (∀ (v : Word) (n t' : Fin 18) (s : State), s.runs → s.engineOf (bits v.toNat 16 4) = some n → bits v.toNat 8 5 = 0x1F →
    s.spares.head? = some t' → s.raw ENG_MIG_STAT_PHASE = 0 → s.seSt n.val = seRun → s.activating = false →
    Does (.migrationGo v) s fun t => t.raw ENG_MIG_STAT_PHASE = 1 ∧ t.raw ENG_MIG_STAT_ROLE = bits v.toNat 16 4 ∧
      t.flag ENG_MIG_GO = true ∧ t.flag ENG_MIG_STAT_FAULT = false ∧ t.seSt t'.val = seLoading ∧ t.eng.target = t'.val ∧
      t.flag ENG_STAT_MIG_REFUSED = s.flag ENG_STAT_MIG_REFUSED) ∧
  (∀ (v : Word) (s : State), s.runs → s.engineOf (bits v.toNat 16 4) = none ∨ s.raw ENG_MIG_STAT_PHASE ≠ 0 →
    Does (.migrationGo v) s fun t => t.flag ENG_STAT_MIG_REFUSED = true ∧
      t.raw ENG_MIG_STAT_PHASE = s.raw ENG_MIG_STAT_PHASE ∧ t.eng = s.eng) ∧
  (∀ (last : Nat) (s : State), s.runs → s.raw ENG_MIG_STAT_PHASE = 1 → s.eng.target < 18 → s.flag ENG_MIG_STAT_FAULT = false →
    Does (.migrationPreloadDone last) s fun t => t.raw ENG_MIG_STAT_PHASE = 2) ∧
  (∀ (last : Nat) (k : Fin 18) (s : State), s.runs → s.raw ENG_MIG_STAT_PHASE = 1 → s.eng.target = k.val → s.flag ENG_MIG_STAT_FAULT = true →
    s.eng.waiting = [] → Does (.migrationPreloadDone last) s fun t => t.raw ENG_MIG_STAT_PHASE = 0 ∧ t.seSt k.val = seRun ∧
      t.flag ENG_STAT_MIG_DONE = true ∧ t.engineOf (s.raw ENG_MIG_STAT_ROLE) = some k ∧
      t.raw ENG_MIG_STAT_LAST = last % 2 ^ 10) ∧
  (∀ (last : Nat) (n k : Fin 18) (s : State), s.runs → s.raw ENG_MIG_STAT_PHASE = 2 → s.eng.target = k.val → s.flag ENG_MIG_STAT_FAULT = false →
    s.engineOf (s.raw ENG_MIG_STAT_ROLE) = some n → s.clean n = true → s.seSt n.val = seRun → n ≠ k → s.eng.waiting = [] →
    s.eng.test = false → Does (.migrationFreeze last) s fun t => t.raw ENG_MIG_STAT_PHASE = 0 ∧ t.seSt k.val = seRun ∧
      t.seSt n.val = seSpare ∧ t.engineOf (s.raw ENG_MIG_STAT_ROLE) = some k ∧
      t.raw (ENG_SE_STAT_PC k.val) = s.raw (ENG_SE_STAT_PC n.val) ∧ t.flag ENG_STAT_MIG_DONE = true ∧ t.flag ENG_MIG_GO = false) ∧
  (∀ (r : Fin 16) (n : Fin 18) (s : State), s.runs → s.engineOf r.val = some n → s.flag ENG_CTL_EN = true → s.seSt n.val ≠ seRun →
    s.seSt n.val ≠ seLoading → Does (.roleStart r) s fun t => t.seSt n.val = seLoading ∧ t.flag (ENG_ROLE_CTL_START r.val) = true) ∧
  (∀ (r : Fin 16) (s : State), s.runs → s.engineOf r.val = none ∨ s.flag ENG_CTL_EN = false → Does (.roleStart r) s fun t =>
    t.flag ENG_STAT_MIG_REFUSED = true ∧ sameRegsBut [ENG_STAT_MIG_REFUSED] s t) ∧
  (∀ (r : Fin 16) (n : Fin 18) (s : State), s.runs → s.engineOf r.val = some n → s.flag (ENG_ROLE_CTL_START r.val) = true →
    Does (.roleLoadDone r) s fun t => t.seSt n.val = seRun ∧ t.raw (ENG_SE_STAT_PC n.val) = 0x10 ∧
      t.flag (ENG_ROLE_CTL_START r.val) = false ∧ t.engineOf r.val = some n) ∧
  (∀ (n : Fin 18) (s : State), s.runs → s.seSt n.val = seRun → s.clean n = true → Does (.engineHalt n) s fun t => t.seSt n.val = seHalted) ∧
  (∀ (n : Fin 18) (s : State), s.runs → s.seSt n.val = seRun → s.clean n = false → Does (.engineHalt n) s fun t =>
    t.seSt n.val = seRun ∧ (t.eng.se[n]).haltReq = true ∧ sameRegs s t) ∧
  (∀ (n : Fin 18) (s : State), s.runs → s.seSt n.val ≠ seRun → Does (.engineHalt n) s fun t =>
    t.flag ENG_STAT_MIG_REFUSED = true ∧ sameRegsBut [ENG_STAT_MIG_REFUSED] s t) ∧
  (∀ (n : Fin 18) (s : State), s.runs → s.flag ENG_CTL_EN = true → s.seSt n.val = seHalted → Does (.engineResume n) s fun t =>
    t.seSt n.val = seRun ∧ sameRegsBut [ENG_SE_STAT_STATE n.val] s t) ∧
  (∀ (n : Fin 18) (s : State), s.runs → s.seOut n = true → s.eng.waiting = [] → Does (.engineSpare n) s fun t => t.seSt n.val = seSpare) ∧
  (∀ (n : Fin 18) (s : State), s.runs → s.seOut n = false → Does (.engineSpare n) s fun t => t.flag ENG_STAT_MIG_REFUSED = true ∧ t.eng = s.eng) ∧
  (∀ (n : Fin 18) (s : State), s.runs → s.seOut n = true → Does (.engineRetire n) s fun t =>
    t.seSt n.val = seRetired ∧ sameRegsBut [ENG_SE_STAT_STATE n.val] s t) ∧
  (∀ (s : State), s.runs → Does .enginesDisable s fun t => t.flag ENG_CTL_EN = false ∧
    (∀ n : Fin 18, s.seSt n.val = seRun → s.clean n = true → t.seSt n.val = seHalted))

/-- Bullion's requests, deadlines, expiries and releases (R202, R304 to R307, R310, R314). The model's choices it rests on: log entries 2, 3,
4, 95 and 195. -/
def Obligations.PermitCommands : Prop :=
  (∀ (r : Req) (w1 : Word) (s : State), s.runs → slotOpen r (s.raw (BUL_RQ_W0_SLOT.of r)) = false → Does (.permitRequest r w1) s fun t =>
    t.raw (BUL_RQ_RESP_RESULT.of r) = 2 ∧ t.flag (BUL_RQ_RESP_DONE.of r) = true ∧ t.bul = s.bul ∧
    sameRegsBut [BUL_RQ_W1_DUR.of r, BUL_RQ_W1_DL.of r, BUL_RQ_RESP_RESULT.of r, BUL_RQ_RESP_DONE.of r] s t) ∧
  (∀ (r : Req) (w1 : Word) (s : State), s.runs → slotOpen r (s.raw (BUL_RQ_W0_SLOT.of r)) = true → s.flag (BUL_RQ_W0_RELEASE.of r) = false →
    bits w1.toNat 16 16 = 0 → Does (.permitRequest r w1) s fun t => t.raw (BUL_RQ_RESP_RESULT.of r) = 3 ∧ t.bul = s.bul ∧
    sameRegsBut [BUL_RQ_W1_DUR.of r, BUL_RQ_W1_DL.of r, BUL_RQ_RESP_RESULT.of r, BUL_RQ_RESP_DONE.of r] s t) ∧
  (∀ (r : Req) (w1 : Word) (k : Fin 24) (w : Wait) (s : State), s.runs → slotOpen r k.val = true → s.raw (BUL_RQ_W0_SLOT.of r) = k.val →
    s.flag (BUL_RQ_W0_RELEASE.of r) = false → bits w1.toNat 16 16 ≠ 0 → (∀ j : Fin 24, (s.bul.slots[j]).wait = none) →
    s.granted k = false → s.bulGrants = true → w.i5 = s.raw (BUL_RQ_W0_I5_MA.of r) → w.i12 = s.raw (BUL_RQ_W0_I12_MA.of r) →
    w.dur = bits w1.toNat 16 16 → (grantWait k w s).withinBudget w.i5 w.i12 = true → Does (.permitRequest r w1) s fun t =>
      t.raw (BUL_RQ_RESP_RESULT.of r) = 0 ∧ t.flag BUL_STAT_GRANT = true ∧ (t.bul.slots[k]).wait = none ∧
      (t.bul.slots[k]).grant = some { i5 := w.i5, i12 := w.i12, endAt := s.ticks + w.dur * 4096 }) ∧
  (∀ (r : Req) (w1 : Word) (k : Fin 24) (s : State), s.runs → slotOpen r k.val = true → s.raw (BUL_RQ_W0_SLOT.of r) = k.val →
    s.flag (BUL_RQ_W0_RELEASE.of r) = false → bits w1.toNat 16 16 ≠ 0 → s.granted k = false → s.bulGrants = false →
    Does (.permitRequest r w1) s fun t => t.raw (BUL_RQ_RESP_RESULT.of r) = 1 ∧ t.flag BUL_STAT_WAIT = true ∧ t.granted k = false ∧
      (∃ w, (t.bul.slots[k]).wait = some w ∧ w.i5 = s.raw (BUL_RQ_W0_I5_MA.of r) ∧ w.i12 = s.raw (BUL_RQ_W0_I12_MA.of r) ∧
        w.dur = bits w1.toNat 16 16 ∧ w.dl = s.ticks + bits w1.toNat 0 16 * 4096 ∧ w.blocking = false)) ∧
  (∀ (r : Req) (w1 : Word) (k : Fin 24) (s : State), s.runs → slotOpen r k.val = true → s.raw (BUL_RQ_W0_SLOT.of r) = k.val →
    s.flag (BUL_RQ_W0_RELEASE.of r) = false → bits w1.toNat 16 16 ≠ 0 → s.granted k = true → s.flag BUL_CTL_EN = true →
    s.flag BUL_STAT_FROZEN = true ∨ s.flag BUL_STAT_EMERG = true → Does (.permitRequest r w1) s fun t =>
      t.raw (BUL_RQ_RESP_RESULT.of r) = 4 ∧ t.flag BUL_STAT_REFUSED = true ∧ t.bul = s.bul) ∧
  (∀ (r : Req) (w1 : Word) (k : Fin 24) (g : Grant) (s : State), s.runs → slotOpen r k.val = true → s.raw (BUL_RQ_W0_SLOT.of r) = k.val →
    s.flag (BUL_RQ_W0_RELEASE.of r) = false → bits w1.toNat 16 16 ≠ 0 → (s.bul.slots[k]).grant = some g → s.bulGrants = true →
    s.raw (BUL_RQ_W0_I5_MA.of r) ≤ g.i5 → s.raw (BUL_RQ_W0_I12_MA.of r) ≤ g.i12 →
    s.overNamed (s.raw (BUL_RQ_W0_I5_MA.of r)) (s.raw (BUL_RQ_W0_I12_MA.of r)) = false → Does (.permitRequest r w1) s fun t =>
      t.raw (BUL_RQ_RESP_RESULT.of r) = 0 ∧ (t.bul.slots[k]).grant = some { g with endAt := s.ticks + bits w1.toNat 16 16 * 4096 }) ∧
  (∀ (r : Req) (k : Fin 24) (s : State), s.runs → slotOpen r k.val = true → (∀ j : Fin 24, j ≠ k → (s.bul.slots[j]).wait = none) →
    Does (.permitRelease r ⟨k.val, by omega⟩) s fun t => t.raw (BUL_RQ_RESP_RESULT.of r) = 5 ∧ t.granted k = false ∧
      (t.bul.slots[k]).wait = none ∧ (k.val = 0 → s.granted k = true → t.flag SPN_CTL_PERMIT = false)) ∧
  (∀ (r : Req) (k : Fin 32) (s : State), s.runs → slotOpen r k.val = false → Does (.permitRelease r k) s fun t =>
    t.raw (BUL_RQ_RESP_RESULT.of r) = 2 ∧ t.bul = s.bul) ∧
  (∀ (k : Fin 24) (w : Wait) (s : State), s.runs → (s.bul.slots[k]).wait = some w → w.blocking = false → Does (.requestDeadline k) s fun t =>
    (t.bul.slots[k]).wait = some { w with blocking := true } ∧ t.flag BUL_STAT_DEADLINE = true) ∧
  (∀ (k : Fin 24) (s : State), s.runs → (∀ w, (s.bul.slots[k]).wait = some w → w.blocking = true) → Does (.requestDeadline k) s fun t => t = s) ∧
  (∀ (k : Fin 24) (g : Grant) (s : State), s.runs → (s.bul.slots[k]).grant = some g → g.endAt ≤ s.ticks →
    (∀ j : Fin 24, (s.bul.slots[j]).wait = none) → Does (.grantExpiry k) s fun t => t.granted k = false ∧ t.flag BUL_STAT_EXPIRED = true ∧
      (k.val = 0 → t.flag SPN_CTL_PERMIT = false) ∧ (∀ a : Fin 2, k.val = a.val + 1 → (t.srv[a]).expired = true)) ∧
  (∀ (k : Fin 24) (g : Grant) (s : State), s.runs → (s.bul.slots[k]).grant = some g → Does (.grantExpiry k) s fun t =>
    t.flag BUL_STAT_EXPIRED = true) ∧
  (∀ (k : Fin 24) (s : State), s.runs → s.granted k = false → Does (.grantExpiry k) s fun t => t = s) ∧
  (∀ (k : Fin 24) (s : State), s.runs → s.granted k = true → 7 ≤ k.val → k.val ≤ 20 → s.permitWork k.val = false →
    (∀ j : Fin 24, (s.bul.slots[j]).wait = none) → Does (.permitIdleRelease k) s fun t => t.granted k = false ∧ sameRegs s t) ∧
  (∀ (k : Fin 24) (s : State), s.runs → s.granted k = false ∨ s.permitWork k.val = true → Does (.permitIdleRelease k) s fun t => t = s)

/-- Leases, supplies and emergencies (R311 to R316, R445). The model's choices it rests on: log entries 2, 3, 4, 96, 97 and 98. -/
def Obligations.SupplyCommands : Prop :=
  (∀ (k : Fin 16) (w0 w1 : Word) (s : State), s.runs → bitOf w0.toNat 31 = true → bitOf w0.toNat 30 = true →
    s.leaseRefused k.val (bits w0.toNat 0 12) = true → Does (.leaseWrite k w0 w1) s fun t => t.flag (BUL_LEASE_W0_VALID k.val) = false ∧
      t.flag (BUL_LEASE_W0_OUT k.val) = true) ∧
  (∀ (k : Fin 16) (w0 w1 : Word) (s : State), s.runs →
    bitOf w0.toNat 31 = false ∨ bitOf w0.toNat 30 = false ∨ s.leaseRefused k.val (bits w0.toNat 0 12) = false →
    Does (.leaseWrite k w0 w1) s fun t => t.flag (BUL_LEASE_W0_VALID k.val) = bitOf w0.toNat 31 ∧
      t.flag (BUL_LEASE_W0_OUT k.val) = bitOf w0.toNat 30 ∧ t.raw (BUL_LEASE_W0_PEER k.val) = bits w0.toNat 16 9 ∧
      t.raw (BUL_LEASE_W0_MA k.val) = bits w0.toNat 0 12 ∧ t.raw (BUL_LEASE_W1_END k.val) = w1.toNat) ∧
  (∀ (k : Fin 16) (s : State), s.runs → s.flag (BUL_LEASE_W0_VALID k.val) = true → Does (.leaseEnd k) s fun t =>
    t.flag (BUL_LEASE_W0_VALID k.val) = false ∧ t.flag BUL_STAT_LEASE_END = true ∧ s.leaseEndAt k.val ≤ t.inv.wall) ∧
  (∀ (k : Fin 16) (s : State), s.runs → s.flag (BUL_LEASE_W0_VALID k.val) = false → Does (.leaseEnd k) s fun t => t = s) ∧
  (∀ (rail : Fin 2) (s : State), s.runs → s.pwr.below12 = false → s.pwr.below5 = false → s.pwr.reset12 = false → s.pwr.reset5 = false →
    Does (.supplyWarning rail) s fun t => t.flag (if rail = 0 then PWR_STAT_DIP12 else PWR_STAT_DIP5) = true ∧
      t.flag BUL_STAT_FROZEN = true ∧ t.raw PWR_DIPS_COUNT = min 65535 (s.raw PWR_DIPS_COUNT + 1) ∧ t.bul = s.bul) ∧
  (∀ (rail : Fin 2) (s : State), s.runs → (if rail = 0 then s.pwr.below12 else s.pwr.below5) = true →
    Does (.supplyWarning rail) s fun t => t = s) ∧
  (∀ (s : State), s.runs → Does .supplyWarningClear s fun t => t.flag BUL_STAT_FROZEN = false ∧ t.pwr.below12 = false ∧
    t.pwr.below5 = false ∧ t.die = s.die) ∧
  (∀ (rail : Fin 2) (s : State), s.runs → Does (.supplyResetLevel rail) s fun t => t.die.phase = .saving ∧ t.die.loss = true ∧
    t.pd.swOpen = true ∧ t.flag BUL_STAT_EMERG = true ∧ t.flag BUL_STAT_FROZEN = false ∧ (∀ k : Fin 24, t.granted k = false) ∧
    (∀ a : Fin 2, bitOf t.qch.trig[a] 5 = true) ∧
    (s.pd.safe = false → ∀ a : Fin 2, t.actSt a = actParked ∨ t.actSt a = actRetract)) ∧
  (∀ (s : State), s.runs → s.pwr.oc = false → Does (.overCurrent true) s fun t => t.flag BUL_STAT_EMERG = true ∧
    t.flag BUL_STAT_OC = true ∧ (∀ a : Fin 2, bitOf t.qch.trig[a] 5 = true) ∧ (∀ k : Fin 24, t.granted k = false)) ∧
  (∀ (p : Bool) (s : State), s.runs → p = false ∨ s.pwr.oc = true → Does (.overCurrent p) s fun t => t.pwr.oc = p ∧ sameRegs s t ∧ t.bul = s.bul) ∧
  (∀ (s : State), s.runs → Does .emergencyWrite s fun t => t.flag BUL_STAT_EMERG = true ∧ (∀ a : Fin 2, bitOf t.qch.trig[a] 5 = true) ∧ (∀ k : Fin 24, t.granted k = false)) ∧
  (∀ (s : State), s.runs → s.emergCauses = 0 → Does .emergencyClear s fun t => t.flag BUL_STAT_EMERG = false) ∧
  (∀ (s : State), s.runs → s.emergCauses ≠ 0 → Does .emergencyClear s fun t => t = s) ∧
  (∀ (pages : Nat) (s : State), s.pd.swOpen = true → s.pd.regOff = false → Does (.holdupCollapse pages) s fun t =>
    t.die.phase = .off ∧ t.pd.regOff = true) ∧
  (∀ (pages : Nat) (s : State), s.pd.swOpen = false ∨ s.pd.regOff = true → Does (.holdupCollapse pages) s fun t => t = s)

/-- Power states: requests, steps, roll-back, APST and wakes (R318 to R326). The model's choices it rests on: log entries 2, 3, 4, 100, 101
and 102. -/
def Obligations.PowerStateCommands : Prop :=
  (∀ (v : Word) (s : State), s.runs → s.pwr.trans.isSome = true ∨ s.raw THM_STAT_STATE ≠ 0 → bits v.toNat 0 3 ≤ 4 →
    Does (.powerStateRequest v) s fun t => t.flag PWR_STAT_HELD = true ∧ t.flag PWR_STATE_HELD_V = true ∧
      t.raw PWR_STATE_HELD = bits v.toNat 0 3 ∧ t.pwr.trans = s.pwr.trans ∧
      t.pwr.req[(if bitOf v.toNat 3 then 1 else 0 : Fin 2)] = bits v.toNat 0 3) ∧
  (∀ (v : Word) (c : Fin 2) (s : State), s.runs → s.pwr.trans = none → s.raw THM_STAT_STATE = 0 → bitOf v.toNat 3 = (c == 1) →
    s.flag (HIF_C_STAT_EN c.val) = true → s.flag (HIF_C_STAT_EN (1 - c).val) = false → bits v.toNat 0 3 = s.raw PWR_STATE_CUR →
    bits v.toNat 0 3 ≤ 4 → Does (.powerStateRequest v) s fun t => t.pwr.trans = none ∧ t.pwr.held = none ∧
      t.raw PWR_STATE_CUR = s.raw PWR_STATE_CUR ∧ t.pwr.req[c] = bits v.toNat 0 3) ∧
  (∀ (v : Word) (c : Fin 2) (s : State), s.runs → s.pwr.trans = none → s.raw THM_STAT_STATE = 0 → bitOf v.toNat 3 = (c == 1) →
    s.flag (HIF_C_STAT_EN c.val) = true → s.flag (HIF_C_STAT_EN (1 - c).val) = false → bits v.toNat 0 3 ≠ s.raw PWR_STATE_CUR →
    bits v.toNat 0 3 ≤ 1 → (∀ k : Fin 7, s.pwr.lvl[k] = 0) → Does (.powerStateRequest v) s fun t => t.pwr.trans = none ∧
      t.raw PWR_STATE_CUR = bits v.toNat 0 3 ∧ t.flag PWR_STAT_DONE = true) ∧
  (∀ (v : Word) (c : Fin 2) (s : State), s.runs → s.pwr.trans = none → s.raw THM_STAT_STATE = 0 → bitOf v.toNat 3 = (c == 1) →
    s.flag (HIF_C_STAT_EN c.val) = true → s.flag (HIF_C_STAT_EN (1 - c).val) = false → s.raw PWR_STATE_CUR ≤ 1 →
    2 ≤ bits v.toNat 0 3 → bits v.toNat 0 3 ≤ 4 → (∀ k : Fin 7, s.pwr.lvl[k] = 0) → Does (.powerStateRequest v) s fun t =>
      t.raw PWR_STATE_TARGET = bits v.toNat 0 3 ∧ t.raw PWR_STATE_STEP = 1 ∧ t.flag PWR_STATE_RAISE = false ∧
      t.pwr.lvl[(0 : Fin 7)] = 1 ∧ t.raw PWR_STATE_CUR = s.raw PWR_STATE_CUR ∧
      (∃ p, t.pwr.trans = some p ∧ p.frm = s.raw PWR_STATE_CUR ∧ p.dest = bits v.toNat 0 3)) ∧
  (∀ (p : PTrans) (k v : Nat) (s : State), s.runs → s.pwr.trans = some p → p.plan = [(k, v)] → s.stepDone k = true → p.back = false →
    p.stop = false → p.dest < 8 → s.pwr.held = none → s.raw THM_STAT_STATE = 0 → Does .powerStepDone s fun t => t.pwr.trans = none ∧
      t.raw PWR_STATE_CUR = p.dest ∧ t.flag PWR_STAT_DONE = true ∧ t.raw PWR_STATE_STEP = 0) ∧
  (∀ (p : PTrans) (k v k2 v2 : Nat) (l : List (Nat × Nat)) (s : State), s.runs → s.pwr.trans = some p →
    p.plan = (k, v) :: (k2, v2) :: l → s.stepDone k = true → s.raw THM_STAT_STATE = 0 → 1 ≤ k2 → k2 ≤ 7 → Does .powerStepDone s fun t =>
      t.raw PWR_STATE_STEP = k2 ∧ t.flag PWR_STATE_RAISE = decide (v2 < s.lvl k2) ∧ t.lvl k2 = v2 ∧
      t.raw PWR_STATE_CUR = s.raw PWR_STATE_CUR) ∧
  (∀ (p : PTrans) (k v : Nat) (l : List (Nat × Nat)) (s : State), s.runs → s.pwr.trans = some p → p.plan = (k, v) :: l →
    s.stepDone k = false → Does .powerStepDone s fun t => t = s) ∧
  (∀ (c : Fin 16) (p : PTrans) (k v : Nat) (l : List (Nat × Nat)) (s : State), s.runs → s.pwr.trans = some p → p.plan = (k, v) :: l →
    s.refuses k c.val = true → p.stop = false → p.back = false → p.done = [] → p.frm < 8 → p.dest < 8 → k < 8 → s.pwr.held = none →
    Does (.powerStepRefused c) s fun t => t.raw PWR_REFUSE_STEP = k ∧ t.raw PWR_REFUSE_CAUSE = c.val ∧ t.raw PWR_REFUSE_FROM = p.frm ∧
      t.raw PWR_REFUSE_TO = p.dest ∧ t.flag PWR_STAT_ROLLBACK = true ∧ t.pwr.trans = none ∧
      t.raw PWR_STATE_CUR = s.raw PWR_STATE_CUR) ∧
  (∀ (c : Fin 16) (p : PTrans) (k v k2 v2 : Nat) (l d : List (Nat × Nat)) (s : State), s.runs → s.pwr.trans = some p → p.plan = (k, v) :: l →
    s.refuses k c.val = true → p.stop = false → p.back = false → p.done = (k2, v2) :: d → 1 ≤ k2 → k2 ≤ 7 →
    Does (.powerStepRefused c) s fun t => t.raw PWR_STATE_STEP = k2 ∧ t.lvl k2 = v2 ∧
      t.flag PWR_STATE_RAISE = decide (v2 < s.lvl k2) ∧ t.raw PWR_STATE_CUR = s.raw PWR_STATE_CUR) ∧
  (∀ (c : Fin 2) (s : State), s.runs → s.flag (HIF_C_STAT_EN c.val) = true → s.apste c = true → s.pwr.req[c] ≤ 4 →
    bits (s.apst c s.pwr.req[c]) 8 24 ≠ 0 → s.ioOut c = false → s.ioWaits c = false → Does (.apstIdleTimeout c) s fun t =>
      t.pwr.req[c] = bits (s.apst c s.pwr.req[c]) 3 5) ∧
  (∀ (c : Fin 2) (s : State), s.runs → s.apste c = false ∨ s.ioOut c = true ∨ s.ioWaits c = true ∨ s.flag (HIF_C_STAT_EN c.val) = false →
    Does (.apstIdleTimeout c) s fun t => t = s) ∧
  (∀ (r : PReq) (s : State), s.runs → s.pwr.retry = some r → s.pwr.tries < s.raw PWR_CTL_WAKE_TRIES → Does .wakeRetry s fun t =>
    t.pwr.retry = none ∧ t.pwr.req[r.ctl] = s.pwr.lastOp[r.ctl]) ∧
  (∀ (r : PReq) (s : State), s.runs → s.pwr.retry = some r → s.raw PWR_CTL_WAKE_TRIES ≤ s.pwr.tries → Does .wakeRetry s fun t =>
    t.pwr.wakeFail = true ∧ t.flag PWR_STAT_WAKE_FAIL = true ∧ t.pwr.req = s.pwr.req ∧ t.pwr.trans = s.pwr.trans) ∧
  (∀ (s : State), s.runs → s.pwr.retry = none → Does .wakeRetry s fun t => t = s)

/-- CLK: PLLs, synthesizers, monitors, switches and gates (R328 to R336, R338, R339). The model's choices it rests on: log entries 2, 3, 4,
113 and 114. -/
def Obligations.ClockCommands : Prop :=
  (∀ (p : Fin 2) (s : State), s.runs → Does (.pllEnable p) s fun t => t.flag (CLK_PLL_EN p.val) = true ∧
    sameRegsBut [CLK_PLL_EN p.val] s t) ∧
  (∀ (p : Fin 2) (s : State), s.runs → s.flag (CLK_PLL_EN p.val) = true → s.refRuns = true → Does (.pllLock ⟨p.val, by omega⟩) s fun t =>
    t.flag (CLK_PLL_LOCK p.val) = true ∧ t.flag (CLK_PLL_COASTING p.val) = false ∧ t.bit CLK_SRC_STAT_LOCK p.val = true) ∧
  (∀ (n : Fin 4) (s : State), s.runs → s.flag (CLK_CHSYN_EN n.val) = true → s.refRuns = true → Does (.pllLock ⟨n.val + 2, by omega⟩) s fun t =>
    t.flag (CLK_CHSYN_LOCK n.val) = true ∧ t.bit CLK_SRC_STAT_LOCK (n.val + 2) = true ∧ t.qch.clkHold[n] = false) ∧
  (∀ (p : Fin 2) (s : State), s.runs → s.flag CLK_CTL_MON_EN = true → s.flag (CLK_PLL_LOCK p.val) = true → s.flag CLK_CTL_POL_PLL = true →
    s.flag (CLK_PLL_EN p.val) = true → Does (.pllUnlock p) s fun t => t.flag CLK_STAT_PLL_FAIL = true ∧ t.flag CLK_STAT_COAST = true ∧
      t.flag (CLK_PLL_COASTING p.val) = true ∧ t.flag (CLK_PLL_LOCK p.val) = false ∧ t.clk.cur = s.clk.cur) ∧
  (∀ (p : Fin 2) (s : State), s.runs → s.flag CLK_CTL_MON_EN = true → s.flag (CLK_PLL_LOCK p.val) = true → s.flag CLK_CTL_POL_PLL = false →
    s.clk.failed[(1 : Fin 5)] = false → Does (.pllUnlock p) s fun t => t.flag CLK_STAT_PLL_FAIL = true ∧ t.flag CLK_STAT_CLK_FAIL = true ∧
      t.raw (CLK_MUX_SEL 0) = 0 ∧ t.raw (CLK_MUX_SEL 1) = 0 ∧ t.clk.cur[(0 : Fin 8)] = 0 ∧ t.clk.cur[(1 : Fin 8)] = 0 ∧
      t.flag (CLK_MUX_BUSY 0) = false ∧ t.out = s.out ++ [.nmi 0]) ∧
  (∀ (n : Fin 4) (s : State), s.runs → s.flag (CLK_CHSYN_LOCK n.val) = true → s.flag (WCH_CTL_WR_ACTIVE n.val) = false →
    Does (.synthUnlock n) s fun t => t.flag (CLK_CHSYN_LOCK n.val) = false ∧ t.bit CLK_STAT_CHSYN_UNLOCK n.val = true ∧ t.qch = s.qch) ∧
  (∀ (n : Fin 4) (s : State), s.runs → s.flag (CLK_CHSYN_LOCK n.val) = true → s.flag (WCH_CTL_WR_ACTIVE n.val) = true →
    Does (.synthUnlock n) s fun t => t.flag (CLK_CHSYN_LOCK n.val) = false ∧ t.bit CLK_STAT_CHSYN_UNLOCK n.val = true ∧ t.qch.clkHold[n] = true ∧
      bitOf t.qch.trig[actOf n] 7 = true) ∧
  (∀ (k : Fin 5) (count : Nat) (s : State), s.runs → s.flag CLK_CTL_MON_EN = true → s.clk.failed[(0 : Fin 5)] = false →
    s.hif.l12 = #v[false, false] → s.monFails k.val count = true → s.clk.bad[k] = false → Does (.monitorWindow k count) s fun t =>
      t.clk.bad[k] = true ∧ t.clk.failed = s.clk.failed ∧ sameRegs s t) ∧
  (∀ (count : Nat) (s : State), s.runs → s.flag CLK_CTL_MON_EN = true → s.clk.failed[(0 : Fin 5)] = false → s.monFails 0 count = true →
    s.clk.bad[(0 : Fin 5)] = true → Does (.monitorWindow 0 count) s fun t => t.clk.failed[(0 : Fin 5)] = true ∧
      t.flag CLK_STAT_MXO_FAIL = true ∧ t.bit CLK_SRC_STAT_RUN 0 = false ∧ t.flag INV_WTMR_STAT_WALL_DEGRADED = true ∧
      (s.flag CLK_CTL_POL_MXO = false → s.clk.failed[(1 : Fin 5)] = false → t.clk.refFrc = true ∧ t.raw (CLK_MUX_SEL 0) = 0 ∧ t.raw (CLK_MUX_SEL 1) = 0 ∧
        t.flag CLK_STAT_CLK_FAIL = true ∧ t.out = s.out ++ [.nmi 0]) ∧
      (s.flag CLK_CTL_POL_MXO = true ∨ s.clk.failed[(1 : Fin 5)] = true → t.flag CLK_STAT_COAST = true ∧ t.clk.refFrc = s.clk.refFrc ∧
        t.out = s.out)) ∧
  (∀ (k : Fin 5) (count : Nat) (s : State), s.runs → s.flag CLK_CTL_MON_EN = true → s.clk.failed[(0 : Fin 5)] = false →
    s.clk.failed[k] = false → s.hif.l12 = #v[false, false] → s.monFails k.val count = true → s.clk.bad[k] = true → k.val ≠ 0 →
    Does (.monitorWindow k count) s fun t => t.clk.failed[k] = true ∧ t.bit CLK_SRC_STAT_RUN k.val = false ∧
      (k.val = 1 → t.flag CLK_STAT_FRC_FAIL = true) ∧ (k.val = 2 → t.flag CLK_STAT_SRC_FAIL = true) ∧
      (3 ≤ k.val → t.bit CLK_STAT_REF_FAIL (k.val - 3) = true ∧ t.flag (HIF_PORT_LINK_UP (k.val - 3)) = false)) ∧
  (∀ (k : Fin 5) (count : Nat) (s : State), s.runs → s.flag CLK_CTL_MON_EN = false → Does (.monitorWindow k count) s fun t => t = s) ∧
  (∀ (d sel : Fin 8) (s : State), s.runs → (muxSources d.val).contains sel.val = true → s.clockOk d.val sel.val = false →
    Does (.clockSwitch d sel) s fun t => t.flag CLK_STAT_SW_REFUSED = true ∧ sameRegsBut [CLK_STAT_SW_REFUSED] s t ∧ t.clk = s.clk) ∧
  (∀ (d sel : Fin 8) (s : State), s.runs → (muxSources d.val).contains sel.val = true → s.clockOk d.val sel.val = true →
    Does (.clockSwitch d sel) s fun t => t.raw (CLK_MUX_SEL d.val) = sel.val ∧ t.flag (CLK_MUX_BUSY d.val) = true ∧ t.clk.cur = s.clk.cur ∧
      (s.clockOk d.val s.clk.cur[d] = false → t.clk.halted[d] = true) ∧ sameRegsBut [CLK_MUX_SEL d.val, CLK_MUX_BUSY d.val] s t) ∧
  (∀ (d : Fin 8) (s : State), s.runs → s.flag (CLK_MUX_BUSY d.val) = true → s.clockOk d.val s.clk.cur[d] = true →
    s.clockOk d.val (s.muxSel d.val) = true → Does (.clockSwitchDone d) s fun t => t.flag (CLK_MUX_BUSY d.val) = false ∧
      t.clk.cur[d] = s.muxSel d.val) ∧
  (∀ (d : Fin 8) (s : State), s.runs → s.clockOk d.val s.clk.cur[d] = false → Does (.clockSwitchDone d) s fun t => t = s) ∧
  (∀ (v : BitVec 8) (s : State), s.runs → Does (.forcedSwitch v) s fun t => ∀ d : Fin 8,
    (bitOf v.toNat d.val = true → t.clk.cur[d] = s.muxSel d.val ∧ t.flag (CLK_MUX_BUSY d.val) = false) ∧
    (bitOf v.toNat d.val = false → t.clk.cur[d] = s.clk.cur[d] ∧ t.flag (CLK_MUX_BUSY d.val) = s.flag (CLK_MUX_BUSY d.val))) ∧
  (∀ (i : Fin 24) (s : State), s.runs → neverGated i.val = false → Does (.clockGate i) s fun t =>
    t.bit CLK_GATE_STAT_BLK i.val = false ∧ sameRegsBut [CLK_GATE_STAT_BLK] s t) ∧
  (∀ (i : Fin 24) (s : State), s.runs → neverGated i.val = true → Does (.clockGate i) s fun t => t = s) ∧
  (∀ (v : BitVec 24) (s : State), s.runs → Does (.gateForce v) s fun t => t.raw CLK_GATE_FORCE_BLK = v.toNat ∧
    (∀ i : Fin 24, bitOf v.toNat i.val = true → neverGated i.val = false → t.bit CLK_GATE_STAT_BLK i.val = false ∧ t.forcedOff i.val = true) ∧
    (∀ i : Fin 24, neverGated i.val = true → t.forcedOff i.val = false) ∧ sameRegsBut [CLK_GATE_FORCE_BLK, CLK_GATE_STAT_BLK] s t)

/-- Constantan (R341 to R346). The model's choices it rests on: log entries 2, 3, 4, 117 and 118. -/
def Obligations.ThermalCommands : Prop :=
  (∀ (T : Vector (BitVec 11) 12) (ro : BitVec 11) (s : State), s.runs → s.flag THM_CTL_EN = false →
    (∀ k : Fin 12, (T[k]).toInt < (s.raw THM_LIM_CRIT_C : Int) * 8) →
    ro.toInt + 8 * (s.raw THM_RISE_RO_MARGIN) < (s.raw THM_LIM_CRIT_C : Int) * 8 → Does (.temperatureConversion T ro) s fun t =>
      t.geti (THM_SENS_T 15) = ro.toInt ∧ t.flag (THM_SENS_VALID 15) = true ∧ (∀ k : Fin 12, t.geti (THM_SENS_T k.val) = (T[k]).toInt ∧
        t.flag (THM_SENS_VALID k.val) = true ∧ t.flag (THM_SENS_IMPLAUS k.val) = implausible (T[k]).toInt ro.toInt) ∧
      t.raw THM_STAT_STATE = s.raw THM_STAT_STATE ∧ t.die = s.die ∧ t.qch = s.qch) ∧
  (∀ (T : Vector (BitVec 11) 12) (ro : BitVec 11) (s : State), s.runs → s.flag THM_CTL_DIODE = false → s.flag THM_CTL_EN = false →
    ro.toInt + 8 * (s.raw THM_RISE_RO_MARGIN) < (s.raw THM_LIM_CRIT_C : Int) * 8 → Does (.temperatureConversion T ro) s fun t =>
      t.geti THM_TMAX_TMAX = ro.toInt ∧ t.raw THM_TMAX_SITE = 15 ∧ t.flag THM_STAT_RO_IN_USE = true) ∧
  (∀ (T : Vector (BitVec 11) 12) (ro : BitVec 11) (s : State), s.runs → s.flag THM_CTL_DIODE = false →
    (s.raw THM_LIM_CRIT_C : Int) * 8 ≤ ro.toInt → Does (.temperatureConversion T ro) s fun t => t.raw THM_STAT_STATE = 3 ∧
      t.flag THM_STAT_CRIT_TRIP = true ∧ t.die.phase = .saving ∧ t.die.crit = true ∧ t.pd.safe = true ∧
      (∀ a : Fin 2, bitOf t.qch.trig[a] 6 = true) ∧ (∀ a : Fin 2, t.actSt a = actParked ∨ t.actSt a = actRetract)) ∧
  (∀ (T : Vector (BitVec 11) 12) (ro : BitVec 11) (s : State), s.runs → s.flag THM_CTL_DIODE = false → s.flag THM_CTL_EN = true →
    ro.toInt < (s.raw THM_LIM_CRIT_C : Int) * 8 - 8 * (s.raw THM_RISE_RO_MARGIN) → (s.raw THM_LIM_STOP_C : Int) * 8 ≤ ro.toInt →
    s.flag THM_STAT_STOP = false → s.raw THM_STAT_STATE = 0 → s.pwr.trans = none → (∀ k : Fin 7, s.pwr.lvl[k] = 0) →
    Does (.temperatureConversion T ro) s fun t => t.flag THM_STAT_STOP = true ∧ t.raw THM_STAT_STATE = 1 ∧ t.raw PWR_STATE_STEP = 1 ∧
      t.pwr.lvl[(0 : Fin 7)] = 1 ∧ (∃ p, t.pwr.trans = some p ∧ p.stop = true) ∧ t.die.phase = .running) ∧
  (∀ (s : State), s.runs → s.raw THM_STAT_STATE = 2 → s.geti THM_TMAX_TMAX ≤ s.thmLimit THM_LIM_RESUME_C → Does .thermalResume s fun t =>
    t.raw THM_STAT_STATE = 0 ∧ t.flag THM_STAT_RESUMED = true ∧ t.raw PWR_STATE_TARGET = s.wantState % 8) ∧
  (∀ (s : State), s.runs → s.raw THM_STAT_STATE ≠ 2 ∨ s.thmLimit THM_LIM_RESUME_C < s.geti THM_TMAX_TMAX →
    Does .thermalResume s fun t => t = s) ∧
  (∀ (s : State), s.runs → s.flag THM_CTL_AUTO_RESUME = true → s.raw THM_STAT_STATE = 2 →
    s.geti THM_TMAX_TMAX ≤ s.thmLimit THM_LIM_RESUME_C → Does .autoResume s fun t => t.raw THM_STAT_STATE = 0 ∧ t.flag THM_STAT_RESUMED = true) ∧
  (∀ (s : State), s.runs → s.flag THM_CTL_AUTO_RESUME = false → Does .autoResume s fun t => t = s)

/-- CAL (R348 to R352). The model's choices it rests on: log entries 2, 3, 4 and 120. -/
def Obligations.CalibrationCommands : Prop :=
  (∀ (s : State), s.runs → s.flag CAL_CTL_EN = true → Does .calDueEvaluation s fun t =>
    (∀ (i : Fin 5) (h : Fin 20), t.bit (CAL_ITEM_DUE i.val) h.val = s.calDue h.val i.val) ∧
    ((∃ (i : Fin 5) (h : Fin 20), s.calDue h.val i.val = true ∧ s.bit (CAL_ITEM_DUE i.val) h.val = false) → t.flag CAL_STAT_DUE = true)) ∧
  (∀ (s : State), s.runs → s.flag CAL_CTL_EN = false → Does .calDueEvaluation s fun t => t = s) ∧
  (∀ (v : Word) (i : Fin 5) (h : Fin 20) (s : State), s.runs → bits v.toNat 24 3 = i.val → bits v.toNat 16 5 = h.val →
    Does (.calDone v) s fun t => t.raw (CAL_LAST_LAST_T h.val i.val) = s.calReading h.val i.val ∧ t.flag (CAL_LAST_VALID h.val i.val) = true ∧
      t.raw (CAL_LAST_FAILS h.val i.val) = 0 ∧ t.bit (CAL_ITEM_DUE i.val) h.val = false ∧
      (∀ h' : Fin 20, h' ≠ h → t.bit (CAL_ITEM_DUE i.val) h'.val = s.bit (CAL_ITEM_DUE i.val) h'.val)) ∧
  (∀ (v : Word) (s : State), s.runs → Does (.accumulate v) s fun t => t.raw CAL_ACC_SUM_VALUE = 0 ∧ t.raw CAL_ACC_SQ_VALUE = 0 ∧
    t.raw CAL_ACC_CNT_VALUE = 0 ∧ t.raw CAL_ACC_CLIP_VALUE = 0 ∧ (∀ b : Fin 64, t.raw (CAL_HIST_COUNT b.val) = 0) ∧
    t.flag CAL_ACC_CTL_GO = true ∧ t.cal.run = true) ∧
  (∀ (span : List (BitVec 6)) (held : Nat) (s : State), s.runs → s.cal.run = true → s.flag CAL_ACC_CTL_SRC = false →
    span.length ≤ 2 ^ s.get CAL_ACC_CTL_LOG2N → span.length < 2 ^ 20 → Does (.accDone span held) s fun t => t.flag CAL_STAT_ACC_DONE = true ∧
      t.flag CAL_ACC_CTL_GO = false ∧ t.cal.run = false ∧ t.raw CAL_ACC_CNT_VALUE = span.length ∧
      t.geti CAL_ACC_SUM_VALUE = (span.map BitVec.toInt).foldl (· + ·) 0 ∧
      (∀ b : Fin 64, t.raw (CAL_HIST_COUNT b.val) = ((span.filter fun x => x.toInt == (b.val : Int) - 32).length) % 2 ^ (CAL_HIST_COUNT b.val).width)) ∧
  (∀ (span : List (BitVec 6)) (held : Nat) (s : State), s.runs → s.cal.run = false → Does (.accDone span held) s fun t => t = s) ∧
  (∀ (r : Req) (w1 : Word) (g : CalTarget) (s : State), s.runs → s.flag CAL_CTL_EN = true → s.calTarget r = some g →
    s.calCheck r g (sgn 10 (bits w1.toNat 0 10)) = 0 → g.active = none ∨ s.calActive r = false → Does (.calApply r w1) s fun t =>
      t.raw (CAL_APPLY_RESP_RESULT.of r) = 0 ∧ t.flag (CAL_APPLY_RESP_DONE.of r) = true ∧ (g.signed = true → t.geti g.table =
        (BitVec.ofInt g.table.width (sgn 10 (bits w1.toNat 0 10))).toInt) ∧
      sameRegsBut [CAL_APPLY_W1_RSV10.of r, CAL_APPLY_W1_VALUE.of r, CAL_APPLY_RESP_RESULT.of r, CAL_APPLY_RESP_DONE.of r, g.table] s t) ∧
  (∀ (r : Req) (w1 : Word) (g : CalTarget) (f : Fld) (s : State), s.runs → s.flag CAL_CTL_EN = true → s.calTarget r = some g →
    s.calCheck r g (sgn 10 (bits w1.toNat 0 10)) = 0 → g.active = some f → s.calActive r = true → Does (.calApply r w1) s fun t =>
      t.raw (CAL_APPLY_RESP_RESULT.of r) = 0 ∧ t.raw f = t.raw g.table) ∧
  (∀ (r : Req) (w1 : Word) (g : CalTarget) (s : State), s.runs → s.flag CAL_CTL_EN = true → s.calTarget r = some g →
    s.calCheck r g (sgn 10 (bits w1.toNat 0 10)) ≠ 0 →
    s.raw (CAL_LAST_FAILS (s.raw (CAL_APPLY_W0_HEAD.of r)) g.item) + 1 < s.get CAL_CTL_MAXFAIL → Does (.calApply r w1) s fun t =>
      t.raw (CAL_APPLY_RESP_RESULT.of r) = s.calCheck r g (sgn 10 (bits w1.toNat 0 10)) ∧ t.flag CAL_STAT_APPLY_REFUSED = true ∧
      t.raw (CAL_LAST_FAILS (s.raw (CAL_APPLY_W0_HEAD.of r)) g.item) = s.raw (CAL_LAST_FAILS (s.raw (CAL_APPLY_W0_HEAD.of r)) g.item) + 1 ∧
      t.raw g.table = s.raw g.table) ∧
  (∀ (r : Req) (w1 : Word) (g : CalTarget) (s : State), s.runs → s.flag CAL_CTL_EN = true → s.calTarget r = some g →
    s.calCheck r g (sgn 10 (bits w1.toNat 0 10)) ≠ 0 →
    s.get CAL_CTL_MAXFAIL ≤ s.raw (CAL_LAST_FAILS (s.raw (CAL_APPLY_W0_HEAD.of r)) g.item) + 1 → Does (.calApply r w1) s fun t =>
      t.flag CAL_STAT_HELD = true ∧ t.bit (CAL_HELD_HELD g.item) (s.raw (CAL_APPLY_W0_HEAD.of r)) = true ∧
      t.raw (CAL_LAST_FAILS (s.raw (CAL_APPLY_W0_HEAD.of r)) g.item) = 0 ∧ t.raw g.table = s.raw g.table) ∧
  (∀ (r : Req) (w1 : Word) (s : State), s.runs → s.flag CAL_CTL_EN = false → Does (.calApply r w1) s fun t =>
    t.raw (CAL_APPLY_RESP_RESULT.of r) = 5 ∧ t.flag (CAL_APPLY_RESP_DONE.of r) = true ∧
    sameRegsBut [CAL_APPLY_W1_RSV10.of r, CAL_APPLY_W1_VALUE.of r, CAL_APPLY_RESP_RESULT.of r, CAL_APPLY_RESP_DONE.of r] s t)

/-- Assay's steps and channel substitution (R353 to R358). The model's choices it rests on: log entries 2, 3, 4 and 125. -/
def Obligations.AssayCommands : Prop :=
  (∀ (n : Fin 16) (u : BitVec 8) (d : BitVec 16) (s : State), s.runs → s.inv.wall < s.asy.since + s.get ASY_CFG_WINDOW_S * 1000000000 →
    s.asyMay = true → s.bit ASY_SEL_TEN n.val = true → n.val ≤ 8 →
    s.asyCond { test := n.val, unit := u.toNat, detail := d.toNat } = true → Does (.assayStepStart n u d) s fun t =>
      t.asy.step = some { test := n.val, unit := u.toNat, detail := d.toNat } ∧ t.raw ASY_USED_US = s.raw ASY_USED_US) ∧
  (∀ (n : Fin 16) (u : BitVec 8) (d : BitVec 16) (s : State), s.runs → s.inv.wall < s.asy.since + s.get ASY_CFG_WINDOW_S * 1000000000 →
    s.asyMay = true → s.bit ASY_SEL_TEN n.val = true → n.val ≤ 8 →
    s.asyCond { test := n.val, unit := u.toNat, detail := d.toNat } = false → Does (.assayStepStart n u d) s fun t =>
      t.asy.step = none ∧ t.raw ASY_LAST_TEST = n.val ∧ t.raw ASY_LAST_RESULT = 3 ∧ t.raw ASY_LAST_UNIT = u.toNat ∧
      t.raw ASY_LAST_DETAIL = d.toNat ∧ sameRegsBut [ASY_LAST_TEST, ASY_LAST_RESULT, ASY_LAST_UNIT, ASY_LAST_DETAIL] s t) ∧
  (∀ (n : Fin 16) (u : BitVec 8) (d : BitVec 16) (s : State), s.runs → s.inv.wall < s.asy.since + s.get ASY_CFG_WINDOW_S * 1000000000 →
    s.asyMay = false ∨ s.bit ASY_SEL_TEN n.val = false → Does (.assayStepStart n u d) s fun t => t = s) ∧
  (∀ (unit detail us : Nat) (x : AStep) (s : State), s.runs → s.asy.step = some x → Does (.assayStepDone true unit detail us) s fun t =>
    t.asy.step = none ∧ t.flag ASY_STAT_PASS = true ∧ t.raw ASY_LAST_RESULT = 0 ∧ t.raw ASY_LAST_UNIT = unit % 256 ∧
    t.raw ASY_LAST_DETAIL = detail % 65536 ∧ t.raw ASY_USED_US = min (2 ^ ASY_USED_US.width - 1) (s.raw ASY_USED_US + us)) ∧
  (∀ (unit detail us : Nat) (x : AStep) (s : State), s.runs → s.asy.step = some x → Does (.assayStepDone false unit detail us) s fun t =>
    t.asy.step = none ∧ t.flag ASY_STAT_FAIL = true ∧ t.raw ASY_LAST_RESULT = 1 ∧ t.raw ASY_LAST_UNIT = unit % 256 ∧
    (x.test = 2 → unit < 6 → t.flag (RCH_DEC_STAT_FAULT unit) = true) ∧
    (∀ n : Fin 18, x.test = 1 → unit = n.val → s.seOut n = true → t.seSt n.val = seRetired)) ∧
  (∀ (p : Bool) (unit detail us : Nat) (s : State), s.runs → s.asy.step = none → Does (.assayStepDone p unit detail us) s fun t => t = s) ∧
  (∀ (time us : Nat) (x : AStep) (s : State), s.runs → s.asy.step = some x → Does (.assayYield time us) s fun t =>
    t.asy.step = none ∧ t.raw ASY_LAST_RESULT = 2 ∧ t.flag ASY_STAT_YIELD = true ∧ t.raw ASY_YIELD_LAST = min 65535 time ∧
    t.raw ASY_YIELD_WORST = max (s.raw ASY_YIELD_WORST) (min 65535 time)) ∧
  (∀ (time us : Nat) (s : State), s.runs → s.asy.step = none → Does (.assayYield time us) s fun t => t = s) ∧
  (∀ (v : Fin 4) (a : Fin 2) (s : State), s.runs → bitOf v.val a.val = true → s.bit ASY_CHSUB_SUB a.val = false → s.subOk a = false →
    Does (.channelSubstitution v) s fun t => t.flag ASY_STAT_SUB_REFUSED = true ∧ sameRegsBut [ASY_STAT_SUB_REFUSED] s t) ∧
  (∀ (v : Fin 4) (s : State), s.runs → (∀ a : Fin 2, bitOf v.val a.val = true → s.bit ASY_CHSUB_SUB a.val = false → s.subOk a = true) →
    Does (.channelSubstitution v) s fun t => t.raw ASY_CHSUB_SUB = v.val ∧
      (∀ a : Fin 2, bitOf v.val a.val = true → s.bit ASY_CHSUB_SUB a.val = false → t.flag (RCH_CTL_EN (chOf a 0).val) = false ∧
        t.flag (WCH_CTL_EN (chOf a 0).val) = false ∧ t.bit RCH_XBAR_SRC (chOf a 1).val = true) ∧
      (∀ a : Fin 2, bitOf v.val a.val = false → s.bit ASY_CHSUB_SUB a.val = true → t.bit RCH_XBAR_SRC (chOf a 1).val = false)) ∧
  (∀ (s : State), s.runs → s.asy.since + s.get ASY_CFG_WINDOW_S * 1000000000 ≤ s.inv.wall → Does .assayDutyWindowEnd s fun t =>
    t.raw ASY_USED_US = 0 ∧ t.asy.since = s.inv.wall ∧ sameRegsBut [ASY_USED_US] s t)

/-- Patina (R359 to R364): triggers, records, copies to the vault, and the operating seconds. The model's choices it rests on: log entries 2,
3, 4, 128 and 131. -/
def Obligations.PatinaCommands : Prop :=
  (∀ (x d : Nat) (l : List (Nat × Nat)) (r : PRec) (s : State), s.patLive = true → s.pat.queue = (x, d) :: l →
    s.recAt (s.raw PAT_STAT_NEWEST) = some r → r.merges x (d % 2 ^ 32) = true → Does .patinaRecord s fun t => t.pat.queue = l ∧
      t.recAt (s.raw PAT_STAT_NEWEST) = some { r with rep := min 65535 (r.rep + 1) } ∧ sameRegs s t) ∧
  (∀ (x d : Nat) (l : List (Nat × Nat)) (s : State), s.patLive = true → s.pat.queue = (x, d) :: l →
    (∀ r, s.recAt (s.raw PAT_STAT_NEWEST) = some r → r.merges x (d % 2 ^ 32) = false) → Does .patinaRecord s fun t => t.pat.queue = l ∧
      t.raw PAT_STAT_NEWEST = s.nextRec ∧ t.flag PAT_STAT_REC = true ∧ (∃ r, t.recAt s.nextRec = some r ∧ r.trig = x ∧ r.detail = d % 2 ^ 32 ∧
        r.rep = 0 ∧ r.vault = false ∧ r.opsec = s.opsec % 2 ^ 40 ∧ r.pcc = s.raw PAT_PCC_PCC ∧
        r.early = (!s.pat.written || !s.flag PAT_CTL_EN) ∧ r.vals.length ≤ 16)) ∧
  (∀ (s : State), s.pat.queue = [] → Does .patinaRecord s fun t => t = s) ∧
  (∀ (d : BitVec 24) (s : State), s.runs → s.bit (PAT_TEN_EN 0) 0 = true → s.pat.queue.length < 16 → Does (.patinaSw d) s fun t =>
    t.pat.queue = s.pat.queue ++ [(0, d.toNat)] ∧ t.raw PAT_SW_DETAIL = d.toNat) ∧
  (∀ (d : BitVec 24) (s : State), s.runs → s.bit (PAT_TEN_EN 0) 0 = true → 16 ≤ s.pat.queue.length → Does (.patinaSw d) s fun t =>
    t.pat.queue = s.pat.queue ∧ t.flag PAT_STAT_LOST = true ∧
    t.raw PAT_LOST_COUNT = min (2 ^ PAT_LOST_COUNT.width - 1) (s.raw PAT_LOST_COUNT + 1)) ∧
  (∀ (d : BitVec 24) (s : State), s.runs → s.bit (PAT_TEN_EN 0) 0 = false → Does (.patinaSw d) s fun t => t.pat = s.pat) ∧
  (∀ (f : Bool) (s : State), s.runs → s.patMayCopy = true → 128 ≤ s.unsaved.length → Does (.patinaVaultCopy f) s fun t =>
    t.flag PAT_STAT_COPIED = true ∧ t.raw PAT_STAT_UNSAVED = s.raw PAT_STAT_UNSAVED - 128 ∧ (f = true → t.flag PAT_STAT_VAULT_ERR = true) ∧
    (∀ i ∈ s.unsaved.take 128, ∀ r, s.recAt i = some r → t.recAt i = some { r with vault := true })) ∧
  (∀ (f : Bool) (s : State), s.runs → s.patMayCopy = false ∨ s.unsaved.length < 128 → Does (.patinaVaultCopy f) s fun t => t = s) ∧
  (∀ (hi : Byte) (s : State), s.runs → Does (.opsecWrite hi) s fun t => t.raw PAT_OPSEC_HI_SEC = hi.toNat ∧ t.pat.written = true ∧
    t.opsec = hi.toNat * 2 ^ 32 + s.raw PAT_OPSEC_LO_SEC ∧ t.pat.queue = s.pat.queue ∧
    (∀ i r, s.recAt i = some r → t.recAt i = some (r.rebase (hi.toNat * 2 ^ 32 + s.raw PAT_OPSEC_LO_SEC) (s.raw PAT_PCC_PCC))))

/-- The TAP instructions (R366). The model's choices it rests on: log entries 2, 3, 4 and 123. -/
def Obligations.TapCommands : Prop :=
  (∀ (s : State), s.die.phase ≠ .off → Does .bypass s fun t => t.pins = { s.pins with tap := 0 } ∧ t.out = s.out ∧ sameRegs s t) ∧
  (∀ (s : State), s.die.phase ≠ .off → Does .idcode s fun t => t.pins = { s.pins with tap := 1 } ∧ sameRegs s t ∧
    t.out = s.out ++ [.jtag (s.raw SYS_ID_MAIN_REV * 2 ^ 28 + 0x7260B47)]) ∧
  (∀ (balls : Nat) (s : State), s.die.phase ≠ .off → Does (.samplePreload balls) s fun t =>
    t.pins = { s.pins with tap := 2, cells := balls } ∧ t.out = s.out ++ [.jtag balls] ∧ sameRegs s t) ∧
  (∀ (s : State), s.die.phase ≠ .off → s.pins.devrst = true → Does .extest s fun t => t.pins = { s.pins with tap := 3 } ∧ sameRegs s t) ∧
  (∀ (s : State), s.die.phase ≠ .off → s.pins.devrst = true → Does .clamp s fun t => t.pins = { s.pins with tap := 4 } ∧ sameRegs s t) ∧
  (∀ (s : State), s.die.phase ≠ .off → s.pins.devrst = true → Does .highz s fun t => t.pins = { s.pins with tap := 5 } ∧ sameRegs s t) ∧
  (∀ (s : State), s.die.phase ≠ .off → s.pins.devrst = false → Does .extest s fun t => t.pins.tap = 0) ∧
  (∀ (s : State), s.die.phase ≠ .off → s.pins.devrst = false → Does .clamp s fun t => t.pins.tap = 0) ∧
  (∀ (s : State), s.die.phase ≠ .off → s.pins.devrst = false → Does .highz s fun t => t.pins.tap = 0) ∧
  (∀ (s : State), s.die.phase ≠ .off → Does .tapReset s fun t => t.pins = { s.pins with tap := 1 } ∧ t.out = s.out ∧ sameRegs s t)

/-- Solder's ports (R371, R375). The model's choices it rests on: log entries 2, 3, 4 and 133. -/
def Obligations.SolderPortCommands : Prop :=
  (∀ (p : Fin 4) (s : State), s.runs → s.portMay p = true → s.raw (SLD_P_STAT_STATE p.val) = slpDisabled → Does (.portEnable p) s fun t =>
    t.raw (SLD_P_STAT_STATE p.val) = slpTrain ∧ sameRegsBut [SLD_P_STAT_STATE p.val] s t) ∧
  (∀ (p : Fin 4) (s : State), s.runs → s.portMay p = false ∨ s.raw (SLD_P_STAT_STATE p.val) ≠ slpDisabled →
    Does (.portEnable p) s fun t => t = s) ∧
  (∀ (p : Fin 4) (s : State), s.runs → s.raw (SLD_P_STAT_STATE p.val) = slpTrain →
    (Does (.trainLock p) s fun t => t.raw (SLD_P_STAT_STATE p.val) = slpAlign ∧ sameRegsBut [SLD_P_STAT_STATE p.val] s t) ∧
    (Does (.trainTimeout p) s fun t => t.raw (SLD_P_STAT_STATE p.val) = slpDown ∧ sameRegsBut [SLD_P_STAT_STATE p.val] s t)) ∧
  (∀ (p : Fin 4) (s : State), s.runs → s.raw (SLD_P_STAT_STATE p.val) = slpAlign →
    (Does (.frameAlign p) s fun t => t.raw (SLD_P_STAT_STATE p.val) = slpHello ∧ sameRegsBut [SLD_P_STAT_STATE p.val] s t) ∧
    (Does (.alignTimeout p) s fun t => t.raw (SLD_P_STAT_STATE p.val) = slpDown ∧ sameRegsBut [SLD_P_STAT_STATE p.val] s t)) ∧
  (∀ (p : Fin 4) (s : State), s.runs → s.raw (SLD_P_STAT_STATE p.val) = slpHello →
    (Does (.helloSend p) s fun t => t.out = s.out ++ [.solderHello p s.node s.xdim s.ydim] ∧ sameRegs s t) ∧
    (Does (.helloTimeout p) s fun t => t.raw (SLD_P_STAT_STATE p.val) = slpDown ∧ sameRegsBut [SLD_P_STAT_STATE p.val] s t)) ∧
  (∀ (p : Fin 4) (s : State), s.runs → s.raw (SLD_P_STAT_STATE p.val) = slpDown → Does (.downRetry p) s fun t =>
    t.raw (SLD_P_STAT_STATE p.val) = slpTrain ∧ sameRegsBut [SLD_P_STAT_STATE p.val] s t) ∧
  (∀ (p : Fin 4) (s : State), s.runs → s.raw (SLD_P_STAT_STATE p.val) = slpUp →
    (Does (.trainLock p) s fun t => t = s) ∧ (Does (.trainTimeout p) s fun t => t = s) ∧ (Does (.frameAlign p) s fun t => t = s) ∧
    (Does (.alignTimeout p) s fun t => t = s) ∧ (Does (.helloSend p) s fun t => t = s) ∧ (Does (.helloTimeout p) s fun t => t = s) ∧
    (Does (.downRetry p) s fun t => t = s)) ∧
  (∀ (p : Fin 4) (x : Fin 32) (y : Fin 16) (n : Fin 512) (s : State), s.runs → s.raw (SLD_P_STAT_STATE p.val) = slpHello →
    n.val = s.peerNode p → x.val + 1 = s.xdim → y.val + 1 = s.ydim →
    Does (.hello p n (Fin.ofNat 4 (peerPort p)) x y) s fun t => t.raw (SLD_P_STAT_STATE p.val) = slpUp ∧ t.flag SLD_STAT_LINK_UP = true ∧
      t.raw (SLD_P_STAT_PEER_NODE p.val) = n.val ∧ t.raw (SLD_P_STAT_PEER_PORT p.val) = peerPort p ∧
      (t.sld.ports[p]).rx = 0 ∧ (t.sld.ports[p]).tx = 0 ∧ (t.sld.ports[p]).replay = []) ∧
  (∀ (p b : Fin 4) (x : Fin 32) (y : Fin 16) (n : Fin 512) (s : State), s.runs → s.raw (SLD_P_STAT_STATE p.val) = slpHello →
    n.val ≠ s.peerNode p ∨ b.val ≠ peerPort p ∨ x.val + 1 ≠ s.xdim ∨ y.val + 1 ≠ s.ydim → Does (.hello p n b x y) s fun t =>
      t.raw (SLD_P_STAT_STATE p.val) = slpDown ∧ t.flag SLD_STAT_MISWIRE = true ∧ t.raw (SLD_P_STAT_PEER_NODE p.val) = n.val ∧
      t.raw (SLD_P_STAT_PEER_PORT p.val) = b.val) ∧
  (∀ (p : Fin 4) (unc : Nat) (s : State), s.runs → s.raw (SLD_P_STAT_STATE p.val) = slpUp → Does (.linkFailure p unc) s fun t =>
    t.raw (SLD_P_STAT_STATE p.val) = slpDown ∧ t.flag SLD_STAT_LINK_DOWN = true ∧ (t.sld.ports[p]).replay = [] ∧
    (t.sld.ports[p]).queue = [] ∧ t.raw (SLD_P_FEC_UNC_COUNT p.val) = min (2 ^ (SLD_P_FEC_UNC_COUNT p.val).width - 1)
      (s.raw (SLD_P_FEC_UNC_COUNT p.val) + unc)) ∧
  (∀ (p : Fin 4) (unc : Nat) (s : State), s.runs → s.raw (SLD_P_STAT_STATE p.val) ≠ slpUp → Does (.linkFailure p unc) s fun t => t = s) ∧
  (∀ (p : Fin 4) (s : State), s.runs → Does (.portDisable p) s fun t => t.flag (SLD_P_CTL_EN p.val) = false ∧
    t.raw (SLD_P_STAT_STATE p.val) = slpDisabled ∧ (t.sld.ports[p]).queue = [] ∧ (t.sld.ports[p]).replay = [] ∧
    (s.portUp p = true → t.flag SLD_STAT_LINK_DOWN = true) ∧
    sameRegsBut [SLD_P_CTL_EN p.val, SLD_P_STAT_STATE p.val, SLD_STAT_LINK_DOWN] s t)

/-- Solder's links and routing (R369 to R372, R374, R376). The model's choices it rests on: log entries 2, 3, 4, 135 and 137. -/
def Obligations.SolderLinkCommands : Prop :=
  (∀ (p q : Fin 4) (r : Rx) (k : Pkt) (vc : Nat) (s : State), s.runs → s.rxGood p r → k.dst ≠ s.node → k.src ≠ s.node →
    s.leavesBy (some p) k q vc → Does (.packetForward p r false k) s fun t => t.out = s.out ++ [s.packetOut q vc k] ∧
      (t.sld.ports[q]).replay = (s.sld.ports[q]).replay ++ [((s.sld.ports[q]).tx, { k with vc })] ∧
      (t.sld.ports[p]).rx = (r.lseq + 1) % 256) ∧
  (∀ (p : Fin 4) (r : Rx) (k : Pkt) (s : State), s.runs → s.rxGood p r → k.dst ≠ s.node → k.src ≠ s.node → s.route (some p) k = none →
    s.unreach k = none → (∀ i : Fin 4, (s.sld.ports[i]).queue = []) → Does (.packetForward p r false k) s fun t =>
      t.raw SLD_UNREACH_COUNT = min (2 ^ SLD_UNREACH_COUNT.width - 1) (s.raw SLD_UNREACH_COUNT + 1) ∧ t.out = s.out) ∧
  (∀ (p : Fin 4) (r : Rx) (k : Pkt) (s : State), s.runs → s.rxGood p r → Does (.packetForward p r true k) s fun t => t.out = s.out ∧
    t.raw (SLD_P_ERR_COUNT p.val) = min (2 ^ (SLD_P_ERR_COUNT p.val).width - 1) (s.raw (SLD_P_ERR_COUNT p.val) + 1)) ∧
  (∀ (p : Fin 4) (r : Rx) (k : Pkt) (s : State), s.runs → s.portUp p = true → r.frameBad = false → r.crcBad = true → k.dst ≠ s.node →
    Does (.packetForward p r false k) s fun t => t.out = s.out ∧ (t.sld.ports[p]).nak = true ∧ (t.sld.ports[p]).rx = (s.sld.ports[p]).rx ∧
      t.raw (SLD_P_ERR_COUNT p.val) = min (2 ^ (SLD_P_ERR_COUNT p.val).width - 1) (s.raw (SLD_P_ERR_COUNT p.val) + 1) ∧
      sameRegsBut [SLD_P_ERR_COUNT p.val, SLD_P_FEC_CORR_COUNT p.val] s t) ∧
  (∀ (p : Fin 4) (r : Rx) (k : Pkt) (s : State), s.runs → s.portUp p = true → r.frameBad = false → r.crcBad = false →
    r.lseq ≠ (s.sld.ports[p]).rx → k.dst ≠ s.node → Does (.packetForward p r false k) s fun t => t.out = s.out ∧
      (t.sld.ports[p]).nak = true ∧ (t.sld.ports[p]).rx = (s.sld.ports[p]).rx ∧ sameRegsBut [SLD_P_FEC_CORR_COUNT p.val] s t) ∧
  (∀ (p : Fin 4) (r : Rx) (next : Fin 256) (s : State), s.runs → s.portUp p = true → r.frameBad = false → r.crcBad = false →
    (s.sld.ports[p]).queue = [] → Does (.lack p r next false) s fun t =>
      (t.sld.ports[p]).replay = (s.sld.ports[p]).unacked next.val ∧ t.out = s.out) ∧
  (∀ (p : Fin 4) (r : Rx) (next : Fin 256) (s : State), s.runs → s.portUp p = true → r.frameBad = false → r.crcBad = false →
    (s.sld.ports[p]).queue = [] → (s.sld.ports[p]).replays < 3 → (s.sld.ports[p]).unacked next.val ≠ [] → Does (.lack p r next true) s fun t =>
      (t.sld.ports[p]).replay = (s.sld.ports[p]).unacked next.val ∧
      t.out = s.out ++ ((s.sld.ports[p]).unacked next.val).map (fun e => .solder p e.1 e.2) ∧
      t.raw (SLD_P_REPLAY_COUNT p.val) = min (2 ^ (SLD_P_REPLAY_COUNT p.val).width - 1) (s.raw (SLD_P_REPLAY_COUNT p.val) + 1)) ∧
  (∀ (p : Fin 4) (s : State), s.runs → s.portUp p = true → Does (.lackSend p) s fun t =>
    t.out = s.out ++ [.solderLack p (s.sld.ports[p]).rx (s.sld.ports[p]).nak] ∧ (t.sld.ports[p]).nak = false ∧ sameRegs s t) ∧
  (∀ (p : Fin 4) (s : State), s.runs → s.portUp p = true → (s.sld.ports[p]).replay ≠ [] → (s.sld.ports[p]).replays < 3 →
    Does (.replayTimeout p) s fun t => (t.sld.ports[p]).replay = (s.sld.ports[p]).replay ∧
      t.out = s.out ++ (s.sld.ports[p]).replay.map (fun e => .solder p e.1 e.2) ∧
      (t.sld.ports[p]).replays = (s.sld.ports[p]).replays + 1) ∧
  (∀ (p : Fin 4) (s : State), s.runs → s.portUp p = true → (s.sld.ports[p]).replay ≠ [] → 3 ≤ (s.sld.ports[p]).replays →
    Does (.replayTimeout p) s fun t => t.raw (SLD_P_STAT_STATE p.val) = slpDown ∧ t.flag SLD_STAT_LINK_DOWN = true) ∧
  (∀ (p : Fin 4) (r : Rx) (next : Fin 256) (b : Bool) (s : State), s.runs → s.portUp p = false → (Does (.lack p r next b) s fun t => t = s) ∧
    (Does (.lackSend p) s fun t => t = s) ∧ (Does (.replayTimeout p) s fun t => t = s)) ∧
  (∀ (s : State), s.runs → Does .rxqPop s fun t => t.sld.rxq = s.sld.rxq.tail ∧ sameRegs s t)

/-- Zone copies (R378 to R382): source, destination and completions. The model's choices it rests on: log entries 2, 3, 4, 139, 140 and 141. -/
def Obligations.ZoneCopyCommands : Prop :=
  (∀ (r : Req) (w3 : Word) (s : State), s.runs → s.sldOn = false ∨ bits (s.raw ((SLD_CP_W 0).of r)) 0 9 = s.node →
    Does (.copyCommit r w3) s fun t => t.raw (SLD_CP_RESP_RESULT.of r) = 3 ∧ t.flag (SLD_CP_RESP_DONE.of r) = true ∧ t.sld = s.sld) ∧
  (∀ (r : Req) (w3 : Word) (s : State), s.runs → s.sldOn = true → bits (s.raw ((SLD_CP_W 0).of r)) 0 9 ≠ s.node → 4 ≤ s.sld.srcs.length →
    Does (.copyCommit r w3) s fun t => t.raw (SLD_CP_RESP_RESULT.of r) = 1 ∧ t.sld = s.sld) ∧
  (∀ (r : Req) (w3 : Word) (s : State), s.runs → s.sldOn = true → bits (s.raw ((SLD_CP_W 0).of r)) 0 9 ≠ s.node → s.sld.srcs.length < 4 →
    s.nsOk (bits (s.raw ((SLD_CP_W 0).of r)) 24 4) = false → Does (.copyCommit r w3) s fun t =>
      t.raw (SLD_CP_RESP_RESULT.of r) = 2 ∧ t.sld = s.sld) ∧
  (∀ (r : Req) (w3 : Word) (s : State), s.runs → s.sldOn = true → bits (s.raw ((SLD_CP_W 0).of r)) 0 9 ≠ s.node → s.sld.srcs.length < 4 →
    s.nsOk (bits (s.raw ((SLD_CP_W 0).of r)) 24 4) = true → s.nsZoned (bits (s.raw ((SLD_CP_W 0).of r)) 24 4) = false → s.copyPower = false →
    Does (.copyCommit r w3) s fun t => t.raw (SLD_CP_RESP_RESULT.of r) = 4 ∧ t.sld = s.sld) ∧
  (∀ (r : Req) (w3 : Word) (q : Fin 4) (vc : Nat) (s : State), s.runs → s.sldOn = true → bits (s.raw ((SLD_CP_W 0).of r)) 0 9 ≠ s.node →
    s.sld.srcs.length < 4 → s.nsOk (bits (s.raw ((SLD_CP_W 0).of r)) 24 4) = true →
    s.nsZoned (bits (s.raw ((SLD_CP_W 0).of r)) 24 4) = false → s.copyPower = true →
    s.leavesBy none (s.mkPkt (bits (s.raw ((SLD_CP_W 0).of r)) 0 9) 0 (.mbResp 0 0)) q vc → Does (.copyCommit r w3) s fun t =>
      t.raw (SLD_CP_RESP_RESULT.of r) = 0 ∧ t.flag (SLD_CP_RESP_DONE.of r) = true ∧
      (∃ c, t.sld.srcs = s.sld.srcs ++ [c] ∧ c.tag = bits w3.toNat 0 24 ∧ c.node = bits (s.raw ((SLD_CP_W 0).of r)) 0 9 ∧
        c.ns = bits (s.raw ((SLD_CP_W 0).of r)) 24 4 ∧ c.chunk = bits (s.raw ((SLD_CP_W 1).of r)) 0 19 ∧ c.credits = 0 ∧
        c.id = t.raw (SLD_CP_RESP_COPY_ID.of r) ∧ c.id ∈ s.freeIds)) ∧
  (∀ (p : Fin 4) (r : Rx) (src : Fin 512) (id : Fin 256) (ns : Fin 16) (chunk : BitVec 19) (md : BitVec 8) (band : Nat) (s : State), s.runs →
    s.rxGood p r → (copyAccept ns.val chunk.toNat md.toNat (rxTake p r s).1).2 = true →
    ((copyAccept ns.val chunk.toNat md.toNat (rxTake p r s).1).1.band band).type = bandFree →
    Does (.copyReq p r src id ns chunk md band) s fun t => (t.band band).type = bandUsed ∧ (t.band band).wp = 0 ∧
      (∃ c, t.sld.dsts = s.sld.dsts ++ [c] ∧ c.node = src.val ∧ c.id = id.val ∧ c.ns = ns.val ∧ c.chunk = chunk.toNat ∧ c.band = band)) ∧
  (∀ (p : Fin 4) (r : Rx) (src : Fin 512) (id : Fin 256) (ns : Fin 16) (chunk : BitVec 19) (md : BitVec 8) (band : Nat) (s : State), s.runs →
    s.rxGood p r → 4 ≤ s.sld.dsts.length ∨ s.nsOk ns.val = false ∨ s.copyPower = false → Does (.copyReq p r src id ns chunk md band) s fun t =>
      t.sld.dsts = s.sld.dsts ∧ (t.sld.ports[p]).rx = (r.lseq + 1) % 256) ∧
  (∀ (p : Fin 4) (r : Rx) (src : Fin 512) (id : Fin 256) (piece : Fin 32) (c : DstCopy) (s : State), s.runs → s.rxGood p r →
    s.dstOf src.val id.val = some c → c.oks.contains piece.val = false → c.got = [] → c.last = [] →
    Does (.data p r src id piece false true 0 true) s fun t =>
      (∃ c', t.dstOf src.val id.val = some c' ∧ c'.oks = piece.val :: c.oks ∧ c'.got = []) ∧
      (t.band c.band).wp = (s.band c.band).wp + 2048) ∧
  (∀ (p : Fin 4) (r : Rx) (src : Fin 512) (id : Fin 256) (piece : Fin 32) (c : DstCopy) (s : State), s.runs → s.rxGood p r →
    s.dstOf src.val id.val = some c → c.oks.contains piece.val = false → c.got = [] → c.last = [] →
    Does (.data p r src id piece false false 0 true) s fun t =>
      (∃ c', t.dstOf src.val id.val = some c' ∧ c'.oks = c.oks ∧ c'.got = [(piece.val, 0)]) ∧
      (t.band c.band).wp = (s.band c.band).wp ∧ t.out = s.out) ∧
  (∀ (p : Fin 4) (r : Rx) (src : Fin 512) (id : Fin 256) (d own : BitVec 256) (addr : Nat) (c : DstCopy) (s : State), s.runs → s.rxGood p r →
    s.dstOf src.val id.val = some c → d ≠ own → Does (.copyEnd p r src id d own addr) s fun t => t.dstOf src.val id.val = none ∧
      (t.band c.band).live = 0 ∧ ((t.band c.band).type = bandFree ∨ s.bandWorn (s.band c.band) = true)) ∧
  (∀ (p : Fin 4) (r : Rx) (src : Fin 512) (id : Fin 256) (d : BitVec 256) (addr : Nat) (c : DstCopy) (s : State), s.runs → s.rxGood p r →
    s.dstOf src.val id.val = some c → c.oks.length = 32 → (roleRecord addr (rxTake p r s).1).2 = true →
    Does (.copyEnd p r src id d d addr) s fun t => t.dstOf src.val id.val = none ∧ (t.band c.band).live = 65536 ∧
      (t.band c.band).wp = 65536) ∧
  (∀ (p : Fin 4) (r : Rx) (src : Fin 512) (id : Fin 256) (ans : CopyAns) (data : List (List Nat)) (dg st : Nat) (c : SrcCopy) (s : State),
    s.runs → s.rxGood p r → s.sld.srcs.find? (fun x => x.id == id.val) = some c → src.val = c.node → c.ended = true →
    (ans, st) = (.done, 0) ∨ (ans, st) = (.mismatch, 1) ∨ (ans, st) = (.unreach, 2) ∨ (ans, st) = (.refused, 3) ∨ (ans, st) = (.aborted, 7) →
    Does (.copyResp p r src id ans data dg) s fun t => t.sld.cq = s.sld.cq ++ [(st, c.tag)] ∧ t.flag SLD_STAT_COPY_DONE = true ∧
      t.sld.srcs.find? (fun x => x.id == id.val) = none) ∧
  (∀ (p : Fin 4) (r : Rx) (src : Fin 512) (id : Fin 256) (dg : Nat) (c : SrcCopy) (s : State), s.runs → s.rxGood p r →
    s.sld.srcs.find? (fun x => x.id == id.val) = some c → src.val = c.node → c.next = 0 → c.credits = 0 →
    Does (.copyResp p r src id .accept [] dg) s fun t =>
      (∃ c', t.sld.srcs.find? (fun x => x.id == id.val) = some c' ∧ c'.credits = 4)) ∧
  (∀ (src : Fin 512) (id : Fin 256) (piece : Fin 32) (c : DstCopy) (s : State), s.runs → s.dstOf src.val id.val = some c →
    c.got.any (fun e => e.1 == piece.val) = true → tabLook 0 c.resends piece.val < 3 → Does (.pieceTimeout src id piece) s fun t =>
      (∃ c', t.dstOf src.val id.val = some c' ∧ tabLook 0 c'.resends piece.val = tabLook 0 c.resends piece.val + 1 ∧
        c'.got.any (fun e => e.1 == piece.val) = false)) ∧
  (∀ (src : Fin 512) (id : Fin 256) (piece : Fin 32) (c : DstCopy) (s : State), s.runs → s.dstOf src.val id.val = some c →
    c.got.any (fun e => e.1 == piece.val) = true → tabLook 0 c.resends piece.val = 3 → Does (.pieceTimeout src id piece) s fun t =>
      t.dstOf src.val id.val = none) ∧
  (∀ (src : Fin 512) (id : Fin 256) (piece : Fin 32) (s : State), s.runs → s.dstOf src.val id.val = none → Does (.pieceTimeout src id piece) s fun t =>
    t = s) ∧
  (∀ (id : Fin 256) (c : SrcCopy) (s : State), s.runs → s.sld.srcs.find? (fun x => x.id == id.val) = some c →
    Does (.copyTimeout none id) s fun t => t.sld.cq = s.sld.cq ++ [(6, c.tag)] ∧ t.flag SLD_STAT_COPY_DONE = true ∧ t.out = s.out) ∧
  (∀ (src : Fin 512) (id : Fin 256) (s : State), s.runs → Does (.copyTimeout (some src) id) s fun t => t.dstOf src.val id.val = none ∧
    t.out = s.out ∧ sameRegs s t) ∧
  (∀ (s : State), s.runs → Does .copyCompletionPop s fun t => t.sld.cq = s.sld.cq.tail ∧ sameRegs s t)

/-- Lease messages and the register mailbox (R383 to R385). The model's choices it rests on: log entries 2, 3, 4, 138 and 144. -/
def Obligations.MessageCommands : Prop :=
  (∀ (p : Fin 4) (r : Rx) (src : Fin 512) (req : Fin 256) (ma : BitVec 12) (dur : BitVec 16) (s : State), s.runs → s.rxGood p r →
    s.sld.rxq.length < 32 →
    (Does (.leaseReq p r src req ma dur) s fun t => t.flag SLD_STAT_RXQ = true ∧ (∃ m, t.sld.rxq = s.sld.rxq ++ [m] ∧ m.type = 6 ∧
      m.src = src.val ∧ m.req = req.val ∧ m.ma = ma.toNat ∧ m.dur = dur.toNat)) ∧
    (Does (.leaseDeny p r src req ma dur) s fun t => t.flag SLD_STAT_RXQ = true ∧ (∃ m, t.sld.rxq = s.sld.rxq ++ [m] ∧ m.type = 8 ∧
      m.src = src.val ∧ m.req = req.val ∧ m.ma = ma.toNat ∧ m.dur = dur.toNat))) ∧
  (∀ (p : Fin 4) (r : Rx) (src : Fin 512) (req : Fin 256) (ma : BitVec 12) (dur : BitVec 16) (k : Fin 16) (s : State), s.runs →
    s.rxGood p r → s.sld.rxq.length < 32 → Does (.leaseGrant p r src req ma dur k) s fun t => t.flag (BUL_LEASE_W0_VALID k.val) = true ∧
      t.flag (BUL_LEASE_W0_OUT k.val) = false ∧ t.raw (BUL_LEASE_W0_PEER k.val) = src.val ∧ t.raw (BUL_LEASE_W0_MA k.val) = ma.toNat ∧
      t.raw (BUL_LEASE_W1_END k.val) = (bits s.inv.wall 16 32 + dur.toNat) % 2 ^ 32 ∧
      (∃ m, t.sld.rxq = s.sld.rxq ++ [m] ∧ m.type = 7 ∧ m.src = src.val ∧ m.ma = ma.toNat)) ∧
  (∀ (p : Fin 4) (r : Rx) (src : Fin 512) (req : Fin 256) (ma : BitVec 12) (dur : BitVec 16) (k : Fin 16) (s : State), s.runs →
    32 ≤ s.sld.rxq.length → (Does (.leaseReq p r src req ma dur) s fun t => t = s) ∧ (Does (.leaseGrant p r src req ma dur k) s fun t => t = s) ∧
      (Does (.leaseDeny p r src req ma dur) s fun t => t = s)) ∧
  (∀ (p q : Fin 4) (r : Rx) (src : Fin 512) (tag : BitVec 16) (a : BitVec 25) (v : Word) (vc : Nat) (s : State), s.runs → s.rxGood p r →
    s.mbDenied true a.toNat = true → s.leavesBy none (s.mkPkt src.val tag.toNat (.mbResp 1 0)) q vc →
    Does (.mbReq p r src tag true a v) s fun t => t.flag SLD_STAT_MB_DENIED = true ∧
      t.out = s.out ++ [s.packetOut q vc (s.mkPkt src.val tag.toNat (.mbResp 1 0))]) ∧
  (∀ (p q : Fin 4) (r : Rx) (src : Fin 512) (tag : BitVec 16) (v : Word) (vc : Nat) (s : State), s.runs → s.rxGood p r →
    s.flag SLD_MB_CFG_RD_EN = true → s.leavesBy none (s.mkPkt src.val tag.toNat (.mbResp 0 0)) q vc →
    Does (.mbReq p r src tag false (BitVec.ofNat 25 SYS_ID_PART.addr) v) s fun t =>
      t.out = s.out ++ [s.packetOut q vc (s.mkPkt src.val tag.toNat (.mbResp 0 (s.wordAt SYS_ID_PART.addr)))]) ∧
  (∀ (p : Fin 4) (r : Rx) (tag : BitVec 16) (st : Fin 8) (v : Word) (bk : Nat) (s : State), s.runs → s.rxGood p r →
    s.sld.mb.find? (fun e => e.2 == tag.toNat) = some (bk, tag.toNat) → Does (.mbResp p r tag st v) s fun t =>
      t.flag (SLD_MB_RESP_DONE.inBank bk) = true ∧ t.raw (SLD_MB_RESP_STATUS.inBank bk) = st.val ∧
      (st.val = 0 → t.raw (SLD_MB_RDATA_DATA.inBank bk) = v.toNat) ∧ t.sld.mb.find? (fun e => e.2 == tag.toNat) = none) ∧
  (∀ (p : Fin 4) (r : Rx) (tag : BitVec 16) (st : Fin 8) (v : Word) (s : State), s.runs → s.rxGood p r →
    s.sld.mb.find? (fun e => e.2 == tag.toNat) = none → Does (.mbResp p r tag st v) s fun t =>
      t.sld.mb = s.sld.mb ∧ sameRegsBut [SLD_P_FEC_CORR_COUNT p.val] s t) ∧
  (∀ (r : Req) (w2 : Word) (s : State), s.runs → s.sldOn = false → Does (.mailboxCommit r w2) s fun t =>
    t.raw (SLD_MB_RESP_STATUS.of r) = 5 ∧ t.flag (SLD_MB_RESP_DONE.of r) = true ∧ t.sld = s.sld) ∧
  (∀ (r : Req) (w2 : Word) (k : Pkt) (q : Fin 4) (vc : Nat) (s : State), s.runs → s.sldOn = true →
    k = s.mkPkt (bits (s.raw ((SLD_MB_W 0).of r)) 0 9) s.sld.mbTag (.mbReq (bitOf (s.raw ((SLD_MB_W 0).of r)) 31)
      (bits (s.raw ((SLD_MB_W 1).of r)) 2 23 * 4) w2.toNat) → s.leavesBy none k q vc → Does (.mailboxCommit r w2) s fun t =>
      t.flag (SLD_MB_RESP_DONE.of r) = false ∧ t.out = s.out ++ [s.packetOut q vc k] ∧ (bankOf r, s.sld.mbTag) ∈ t.sld.mb) ∧
  (∀ (r : Req) (e : Nat × Nat) (s : State), s.runs → s.sld.mb.find? (fun e => e.1 == bankOf r) = some e →
    s.sld.mb.find? (fun x => x.2 == e.2) = some e → Does (.mailboxTimeout r) s fun t => t.raw (SLD_MB_RESP_STATUS.of r) = 3 ∧
      t.flag (SLD_MB_RESP_DONE.of r) = true ∧ t.out = s.out) ∧
  (∀ (r : Req) (s : State), s.runs → s.sld.mb.find? (fun e => e.1 == bankOf r) = none → Does (.mailboxTimeout r) s fun t => t = s) ∧
  (∀ (r : Req) (w2 : Word) (s : State), s.runs → s.sldOn = false → Does (.messageSend r w2) s fun t =>
    t.raw (SLD_MSG_RESP_RESULT.of r) = 2 ∧ t.flag (SLD_MSG_RESP_DONE.of r) = true ∧ t.out = s.out) ∧
  (∀ (r : Req) (w2 : Word) (s : State), s.runs → s.sldOn = true → bits (s.raw ((SLD_MSG_W 0).of r)) 28 4 < 6 ∨
    8 < bits (s.raw ((SLD_MSG_W 0).of r)) 28 4 → Does (.messageSend r w2) s fun t =>
    t.raw (SLD_MSG_RESP_RESULT.of r) = 1 ∧ t.flag (SLD_MSG_RESP_DONE.of r) = true ∧ t.out = s.out) ∧
  (∀ (r : Req) (w2 : Word) (k : Pkt) (q : Fin 4) (vc : Nat) (s : State), s.runs → s.sldOn = true →
    6 ≤ bits (s.raw ((SLD_MSG_W 0).of r)) 28 4 → bits (s.raw ((SLD_MSG_W 0).of r)) 28 4 ≤ 8 →
    k = s.mkPkt (bits (s.raw ((SLD_MSG_W 0).of r)) 0 9) 0 (.lease (bits (s.raw ((SLD_MSG_W 0).of r)) 28 4)
      (bits (s.raw ((SLD_MSG_W 1).of r)) 24 8) (bits (s.raw ((SLD_MSG_W 1).of r)) 12 12) (bits w2.toNat 0 16)) → s.leavesBy none k q vc →
    Does (.messageSend r w2) s fun t => t.raw (SLD_MSG_RESP_RESULT.of r) = 0 ∧ t.flag (SLD_MSG_RESP_DONE.of r) = true ∧
      t.out = s.out ++ [s.packetOut q vc k])

/-- Fuses, images, activation records and attestation (R386, R387, R389, R391, R394, R400). The model's choices it rests on: log entries 2, 3,
4, 146, 148 and 151. -/
def Obligations.BootCommands : Prop :=
  (∀ (s : State), s.runs → Does .configLock s fun t => t.flag SEC_LOCK_LOCK = true ∧ sameRegsBut [SEC_LOCK_LOCK] s t) ∧
  (∀ (v : BitVec 7) (s : State), s.runs → s.flag BUL_STAT_FROZEN = false → s.raw SEC_STAT_RBCNT ≤ v.toNat → v.toNat ≤ 64 →
    Does (.rollbackAdvance v) s fun t => t.raw SEC_FUSE_CMD_RESULT = 0 ∧ t.raw SEC_STAT_RBCNT = v.toNat ∧
      (s.raw SEC_STAT_RBCNT < v.toNat → t.flag SEC_STAT_RB_ADV = true)) ∧
  (∀ (v : BitVec 7) (s : State), s.runs → s.flag BUL_STAT_FROZEN = true → Does (.rollbackAdvance v) s fun t =>
    t.raw SEC_FUSE_CMD_RESULT = 2 ∧ sameRegsBut [SEC_FUSE_CMD_OP, SEC_FUSE_CMD_VALUE, SEC_FUSE_CMD_RESULT] s t) ∧
  (∀ (v : BitVec 7) (s : State), s.runs → s.flag BUL_STAT_FROZEN = false → v.toNat < s.raw SEC_STAT_RBCNT ∨ 64 < v.toNat →
    Does (.rollbackAdvance v) s fun t => t.raw SEC_FUSE_CMD_RESULT = 3 ∧
      sameRegsBut [SEC_FUSE_CMD_OP, SEC_FUSE_CMD_VALUE, SEC_FUSE_CMD_RESULT] s t) ∧
  (∀ (v : BitVec 7) (k : Fin 4) (s : State), s.runs → v.toNat < 4 → s.flag SEC_LOCK_LOCK = false → s.flag BUL_STAT_FROZEN = false →
    k.val ≠ v.toNat → s.bit SEC_KEYREV_REVOKED k.val = false → Does (.keyRevoke v) s fun t => t.raw SEC_FUSE_CMD_RESULT = 0 ∧
      t.bit SEC_KEYREV_REVOKED v.toNat = true ∧
      sameRegsBut [SEC_FUSE_CMD_OP, SEC_FUSE_CMD_VALUE, SEC_FUSE_CMD_RESULT, SEC_KEYREV_REVOKED] s t) ∧
  (∀ (v : BitVec 7) (s : State), s.runs → s.flag SEC_LOCK_LOCK = true → Does (.keyRevoke v) s fun t => t.raw SEC_FUSE_CMD_RESULT = 1 ∧
    sameRegsBut [SEC_FUSE_CMD_OP, SEC_FUSE_CMD_VALUE, SEC_FUSE_CMD_RESULT] s t) ∧
  (∀ (v : BitVec 7) (s : State), s.runs → s.flag SEC_LOCK_LOCK = false → s.flag BUL_STAT_FROZEN = false →
    (∀ k : Fin 4, k.val ≠ v.toNat → s.bit SEC_KEYREV_REVOKED k.val = true) → Does (.keyRevoke v) s fun t => t.raw SEC_FUSE_CMD_RESULT = 4 ∧
      sameRegsBut [SEC_FUSE_CMD_OP, SEC_FUSE_CMD_VALUE, SEC_FUSE_CMD_RESULT] s t) ∧
  (∀ (s : State), s.runs → Does .imageVerify s fun t =>
    t.raw SEC_VFY_CTL_RESULT = s.imageCheck (fun i => s.dramByte (s.raw SEC_VFY_ADDR_ADDR * 64 + i)) ∧
    t.raw SEC_VFY_CTL_SVN = imgSvn (fun i => s.dramByte (s.raw SEC_VFY_ADDR_ADDR * 64 + i)) ∧
    sameRegsBut [SEC_VFY_CTL_RESULT, SEC_VFY_CTL_SVN] s t ∧ t.dram = s.dram) ∧
  (∀ (i : Fin 2) (s : State), s.runs → Does (.activationRecordCommit i) s fun t =>
    (t.sec.slots[i]).records = (s.commitCount i, recCommitted) :: (s.sec.slots[i]).records ∧
    (t.sec.slots[1 - i]).records = (s.sec.slots[1 - i]).records ∧
    t.raw SEC_STAT_RBCNT = (if bitOf (imgLe (s.sec.slots[i]).byte 7 1) 0 = true ∧ s.advanceResult (imgSvn (s.sec.slots[i]).byte) = 0
      then imgSvn (s.sec.slots[i]).byte else s.raw SEC_STAT_RBCNT)) ∧
  (∀ (s : State), s.runs → s.sec.att = none → Does .attestationStart s fun t => t.flag SEC_ATT_CTL_BUSY = true ∧
    t.sec.att = some (s.attBody (s.dramBytes (s.raw SEC_ATT_ADDR_ADDR * 64) 32)) ∧ t.sec.again = false) ∧
  (∀ (b : List Byte) (s : State), s.runs → s.sec.att = some b → Does .attestationStart s fun t => t.sec.again = true ∧
    t.sec.att = some b ∧ sameRegs s t) ∧
  (∀ (b : List Byte) (s : State), s.runs → s.sec.att = some b → s.sec.again = false → b.length ≤ 4096 →
    Does .attestationDone s fun t => t.flag SEC_STAT_ATT_DONE = true ∧ t.flag SEC_ATT_CTL_BUSY = false ∧ t.sec.att = none ∧
      t.sec.report = some (b, Config.slhSign b) ∧
      (s.raw SEC_ATT_ADDR_ADDR * 64 + b.length + 29792 ≤ dramSize → ∀ i, i < b.length →
        t.dramByte (s.raw SEC_ATT_ADDR_ADDR * 64 + i) = b.getD i 0)) ∧
  (∀ (b : List Byte) (s : State), s.runs → s.sec.att = some b → s.sec.again = true → Does .attestationDone s fun t =>
    t.sec.att = some (s.attBody (s.dramBytes (s.raw SEC_ATT_ADDR_ADDR * 64) 32)) ∧ t.sec.again = false ∧
    t.flag SEC_ATT_CTL_BUSY = true ∧ t.dram = s.dram) ∧
  (∀ (s : State), s.runs → s.sec.att = none → Does .attestationDone s fun t => t = s)

/-- Media keys and debug (R397 to R399). The model's choices it rests on: log entries 2, 3, 4, 149 and 150. -/
def Obligations.KeyCommands : Prop :=
  (∀ (n : Fin 4) (s : State), s.runs → s.flag SEC_STAT_DBG_UNLOCKED = false → Does (.keyGenerate n false) s fun t =>
    t.raw SEC_KEY_CMD_RESULT = 0 ∧ t.flag (SEC_NSKEY_ENC n.val) = true ∧ t.flag (SEC_NSKEY_LOADED n.val) = true ∧
    t.raw (SEC_NSKEY_GEN n.val) = min 65535 (s.raw (SEC_NSKEY_GEN n.val) + 1) ∧ t.flag SEC_STAT_KEY_DONE = true ∧
    t.sec.keys[n] = some (s.free, min 65535 (s.raw (SEC_NSKEY_GEN n.val) + 1)) ∧
    (∀ m : Fin 4, m ≠ n → t.sec.keys[m] = s.sec.keys[m] ∧ t.flag (SEC_NSKEY_LOADED m.val) = s.flag (SEC_NSKEY_LOADED m.val))) ∧
  (∀ (n : Fin 4) (b : Bool) (s : State), s.runs → s.flag SEC_STAT_DBG_UNLOCKED = true →
    (Does (.keyGenerate n b) s fun t => t.raw SEC_KEY_CMD_RESULT = 2 ∧ t.flag SEC_STAT_KEY_DONE = true ∧ t.sec = s.sec) ∧
    (Does (.keyLoad n b) s fun t => t.raw SEC_KEY_CMD_RESULT = 2 ∧ t.flag SEC_STAT_KEY_DONE = true ∧ t.sec = s.sec)) ∧
  (∀ (n : Fin 4) (s : State), s.runs → s.flag SEC_STAT_DBG_UNLOCKED = false → Does (.keyGenerate n true) s fun t =>
    t.raw SEC_KEY_CMD_RESULT = 3 ∧ t.sec = s.sec ∧ t.flag (SEC_NSKEY_LOADED n.val) = s.flag (SEC_NSKEY_LOADED n.val)) ∧
  (∀ (n : Fin 4) (k g : Nat) (s : State), s.runs → s.flag SEC_STAT_DBG_UNLOCKED = false → s.sec.keys[n] = some (k, g) → g < 65536 →
    Does (.keyLoad n false) s fun t => t.raw SEC_KEY_CMD_RESULT = 0 ∧ t.flag (SEC_NSKEY_ENC n.val) = true ∧
      t.flag (SEC_NSKEY_LOADED n.val) = true ∧ t.raw (SEC_NSKEY_GEN n.val) = g ∧ t.sec = s.sec) ∧
  (∀ (n : Fin 4) (b : Bool) (s : State), s.runs → s.flag SEC_STAT_DBG_UNLOCKED = false → s.sec.keys[n] = none ∨ b = true →
    Does (.keyLoad n b) s fun t => t.raw SEC_KEY_CMD_RESULT = 1 ∧ t.flag (SEC_NSKEY_LOADED n.val) = s.flag (SEC_NSKEY_LOADED n.val) ∧
      t.sec = s.sec) ∧
  (∀ (n : Fin 4) (s : State), s.runs → Does (.keyErase n false) s fun t => t.raw SEC_KEY_CMD_RESULT = 0 ∧
    t.flag (SEC_NSKEY_ENC n.val) = false ∧ t.flag (SEC_NSKEY_LOADED n.val) = false ∧ t.sec.keys[n] = none ∧
    (∀ m : Fin 4, m ≠ n → t.sec.keys[m] = s.sec.keys[m])) ∧
  (∀ (n : Fin 4) (s : State), s.runs → Does (.keyErase n true) s fun t => t.raw SEC_KEY_CMD_RESULT = 3 ∧ t.sec = s.sec ∧
    t.flag (SEC_NSKEY_LOADED n.val) = s.flag (SEC_NSKEY_LOADED n.val)) ∧
  (∀ (n : Fin 4) (s : State), s.runs → Does (.keyUnload n) s fun t => t.raw SEC_KEY_CMD_RESULT = 0 ∧
    t.flag (SEC_NSKEY_LOADED n.val) = false ∧ t.flag SEC_STAT_KEY_DONE = true ∧ t.sec = s.sec ∧
    sameRegsBut [SEC_NSKEY_LOADED n.val, SEC_KEY_CMD_OP, SEC_KEY_CMD_NS, SEC_KEY_CMD_RESULT, SEC_STAT_KEY_DONE] s t) ∧
  (∀ (c : Fin 4) (s : State), s.runs → s.flag SEC_STAT_DBG_FUSED = false → s.keyLoaded = false → s.sec.fresh = true →
    Does (.debugUnlock true c) s fun t => t.raw SEC_DBG_CTL_RESULT = 0 ∧ t.flag SEC_STAT_DBG_UNLOCKED = true ∧ t.sec.scope = c.val ∧
      t.sec.fresh = false) ∧
  (∀ (g : Bool) (c : Fin 4) (s : State), s.runs → s.flag SEC_STAT_DBG_FUSED = true ∨ s.keyLoaded = true ∨ g = false ∨ s.sec.fresh = false →
    Does (.debugUnlock g c) s fun t => t.raw SEC_DBG_CTL_RESULT = (if s.flag SEC_STAT_DBG_FUSED = true then 1 else if s.keyLoaded = true then 2
      else if g = false then 3 else 4) ∧ t.sec = s.sec ∧ sameRegsBut [SEC_DBG_CTL_RESULT] s t) ∧
  (∀ (s : State), s.runs → Does .debugChallenge s fun t => t.sec.fresh = true ∧ t.free = s.free + 1 ∧
    (∀ k : Fin 8, t.raw (SEC_DBG_CHAL_NONCE k.val) = bits (Config.freeValue s.free) (32 * k.val) 32))

/-- The debug UART: the recovery load and Viarum (R433, R434). The model's choices it rests on: log entries 2, 3, 4, 153 and 154. -/
def Obligations.ServiceCommands : Prop :=
  (∀ (len crc : Word) (im : List Byte) (s : State), s.die.phase = .rom → im.length = len.toNat → crc32c im ≠ crc.toNat →
    Does (.recoveryHeader len crc im) s fun t => t.out = s.out ++ [.uart [0x15]] ∧ t.die = s.die ∧ sameRegs s t) ∧
  (∀ (len crc : Word) (im : List Byte) (s : State), s.die.phase = .rom → im.length = len.toNat → crc32c im = crc.toNat →
    Does (.recoveryHeader len crc im) s fun t =>
      (s.imageCheck (fun i => im.getD i 0) = 0 → t.die.phase = .running ∧ t.raw SEC_STAT_SLOT = 2 ∧ t.out = s.out ++ [.uart [0x06]]) ∧
      (s.imageCheck (fun i => im.getD i 0) ≠ 0 → t.die = s.die ∧ t.flag SEC_STAT_SIG_FAIL = true)) ∧
  (∀ (len crc : Word) (im : List Byte) (s : State), s.die.phase ≠ .rom ∨ im.length ≠ len.toNat → Does (.recoveryHeader len crc im) s fun t =>
    t = s) ∧
  (∀ (got : List Byte) (s : State), (Does (.recoveryGapTimeout got) s fun t => t = s) ∧ (Does (.viarumGapTimeout got) s fun t => t = s)) ∧
  (∀ (q : Byte) (pl : List Byte) (s : State), s.runs →
    (Does (.read32 q false pl) s fun t => t.out = s.out ++ [.uart (viFrame 1 q.toNat 5 [])] ∧ sameRegs s t) ∧
    (Does (.write32 q false pl) s fun t => t.out = s.out ++ [.uart (viFrame 2 q.toNat 5 [])] ∧ sameRegs s t) ∧
    (Does (.patina q false pl) s fun t => t.out = s.out ++ [.uart (viFrame 3 q.toNat 5 [])] ∧ sameRegs s t) ∧
    (∀ c : Fin 2, Does (.log c q false pl) s fun t => t.out = s.out ++ [.uart (viFrame 4 q.toNat 5 [])] ∧ sameRegs s t) ∧
    (Does (.info q false pl) s fun t => t.out = s.out ++ [.uart (viFrame 5 q.toNat 5 [])] ∧ sameRegs s t)) ∧
  (∀ (q : Byte) (pl : List Byte) (s : State), s.runs → pl.length ≠ 6 → Does (.read32 q true pl) s fun t =>
    t.out = s.out ++ [.uart (viFrame 1 q.toNat 2 [])] ∧ sameRegs s t) ∧
  (∀ (q : Byte) (pl l : List Byte) (s : State), s.runs → pl.length = 6 → 1 ≤ leNat ((pl.drop 4).take 2) → leNat ((pl.drop 4).take 2) ≤ 256 →
    (viRead (leNat (pl.take 4)) (leNat ((pl.drop 4).take 2)) s).2.toOption = some l → Does (.read32 q true pl) s fun t =>
      t.out = (viRead (leNat (pl.take 4)) (leNat ((pl.drop 4).take 2)) s).1.out ++ [.uart (viFrame 1 q.toNat 0 l)] ∧
      t.regs = (viRead (leNat (pl.take 4)) (leNat ((pl.drop 4).take 2)) s).1.regs) ∧
  (∀ (q : Byte) (pl : List Byte) (s : State), s.runs → pl.length = 6 → 1 ≤ leNat ((pl.drop 4).take 2) →
    leNat ((pl.drop 4).take 2) ≤ 256 → (viRead (leNat (pl.take 4)) (leNat ((pl.drop 4).take 2)) s).2.toOption = none →
    Does (.read32 q true pl) s fun t =>
      t.out = (viRead (leNat (pl.take 4)) (leNat ((pl.drop 4).take 2)) s).1.out ++ [.uart (viFrame 1 q.toNat 3 [])] ∨
      t.out = (viRead (leNat (pl.take 4)) (leNat ((pl.drop 4).take 2)) s).1.out ++ [.uart (viFrame 1 q.toNat 4 [])]) ∧
  (∀ (q : Byte) (pl : List Byte) (s : State), s.runs → pl.length % 4 ≠ 0 ∨ pl.length < 8 ∨ 1024 < pl.length → Does (.write32 q true pl) s fun t =>
    t.out = s.out ++ [.uart (viFrame 2 q.toNat 2 [])] ∧ sameRegs s t) ∧
  (∀ (q : Byte) (pl : List Byte) (s : State), s.runs → pl.length % 4 = 0 → 8 ≤ pl.length → pl.length ≤ 1024 →
    Does (.write32 q true pl) s fun t => t.regs = (viWrite (leNat (pl.take 4)) (wordsOf (pl.drop 4)) s).1.regs ∧
      t.out = (viWrite (leNat (pl.take 4)) (wordsOf (pl.drop 4)) s).1.out ++
        [.uart (viFrame 2 q.toNat (viWrite (leNat (pl.take 4)) (wordsOf (pl.drop 4)) s).2 [])]) ∧
  (∀ (q : Byte) (pl : List Byte) (s : State), s.runs → pl.length = 5 → 1 ≤ leNat ((pl.drop 4).take 1) → leNat ((pl.drop 4).take 1) ≤ 8 →
    Does (.patina q true pl) s fun t => t.out = s.out ++ [.uart (viFrame 3 q.toNat 0
      (((s.allRecs.drop (leNat (pl.take 4))).take (leNat ((pl.drop 4).take 1))).flatMap PRec.bytes))] ∧ sameRegs s t) ∧
  (∀ (c : Fin 2) (q : Byte) (pl l : List Byte) (s : State), s.runs → pl.length = 9 → leNat ((pl.drop 7).take 2) ≤ 1016 →
    s.logBytes c (leNat (pl.take 1)) (leNat ((pl.drop 1).take 2)) = some l → Does (.log c q true pl) s fun t =>
      t.out = s.out ++ [.uart (viFrame 4 q.toNat 0 ((l.drop (leNat ((pl.drop 3).take 4))).take (leNat ((pl.drop 7).take 2))))] ∧ sameRegs s t) ∧
  (∀ (q : Byte) (s : State), s.runs → Does (.info q true []) s fun t => sameRegs s t ∧
    t.out = s.out ++ [.uart (viFrame 5 q.toNat 0 (leBytes (s.wordAt SYS_ID_PART.addr) 4 ++ leBytes Config.serial 8 ++
      imgBytes (fun i => tabLook 0 s.sec.run i) 8 8 ++ leBytes (s.wordAt PWR_STATE_CUR.addr) 4 ++ leBytes (s.wordAt RST_CAUSE_LAST.addr) 4))])

/-- Events of single blocks: permit renewals (R202), a microactuator at 0 V (R99) and a synthesizer's lock (R330). The model's choices it
rests on: log entries 2, 3, 4 and 195. -/
def Obligations.BlockEvents : Prop :=
  (∀ (k : Fin 24) (g : Grant) (s : State), s.runs → (s.bul.slots[k]).grant = some g → 7 ≤ k.val → k.val ≤ 20 →
    s.permitWork k.val = true → s.bulGrants = true → s.overNamed g.i5 g.i12 = false → Does (.hardwarePermitRenewal k) s fun t =>
      (t.bul.slots[k]).grant = some { g with endAt := s.ticks + 64 * 4096 } ∧ sameRegsBut [BUL_STAT_GRANT] s t) ∧
  (∀ (k : Fin 24) (s : State), s.runs → s.granted k = false ∨ k.val < 7 ∨ 20 < k.val ∨ s.permitWork k.val = false →
    Does (.hardwarePermitRenewal k) s fun t => t = s) ∧
  (∀ (a l : Fin 2) (s : State), s.runs → (s.lane a l).zeroing = true → Does (.microactuatorAtZero a l) s fun t =>
    (t.lane a l).zeroing = false ∧ t.raw (maOut a l) = 0) ∧
  (∀ (a l : Fin 2) (s : State), s.runs → (s.lane a l).zeroing = false → Does (.microactuatorAtZero a l) s fun t => t = s) ∧
  (∀ (n : Fin 4) (s : State), s.runs → s.flag (CLK_CHSYN_EN n.val) = true → s.refRuns = true → Does (.synthLock n) s fun t =>
    t.flag (CLK_CHSYN_LOCK n.val) = true ∧ t.bit CLK_SRC_STAT_LOCK (n.val + 2) = true ∧ t.qch.clkHold[n] = false) ∧
  (∀ (n : Fin 4) (s : State), s.runs → s.flag (CLK_CHSYN_EN n.val) = false ∨ s.refRuns = false → Does (.synthLock n) s fun t => t = s)

/-- R26, R30. An access to an unmapped address reads zero or is discarded and sets SYS_ERR.UNMAPPED; every refused or unmapped access is
recorded in SYS_ERR_ADDR when all three SYS_ERR bits are clear, changes the record in no other case, and raises Patina trigger 1. -/
def Obligations.ErrorAccesses : Prop :=
  (∀ (r : Req) (wr : Bool) (a : BitVec 25) (s : State), s.runs → s.accessErr r wr a.toNat = some errUnmapped →
    Does (.unmappedAccess r wr a) s fun t => t.flag SYS_ERR_UNMAPPED = true ∧ t.out = s.out ++ (if wr then [] else [.readData r 0]) ∧
      sameOutside [0, 41] s t ∧ sameDram s t ∧
      (s.flag SYS_ERR_UNMAPPED = false → s.flag SYS_ERR_BLK_DOWN = false → s.flag SYS_ERR_HOST_DENIED = false →
        t.raw SYS_ERR_ADDR_ADDR = a.toNat / 4 * 4 ∧ t.flag SYS_ERR_ADDR_WR = wr ∧ t.raw SYS_ERR_ADDR_SRC = srcOf r) ∧
      (s.flag SYS_ERR_UNMAPPED = true ∨ s.flag SYS_ERR_BLK_DOWN = true ∨ s.flag SYS_ERR_HOST_DENIED = true →
        sameRegsBut [SYS_ERR_UNMAPPED, PAT_STAT_LOST, PAT_LOST_COUNT] s t)) ∧
  (∀ (r : Req) (wr : Bool) (a : BitVec 25) (s : State), s.runs → s.accessErr r wr a.toNat = some errDown →
    Does (.blockDownAccess r wr a) s fun t => t.flag SYS_ERR_BLK_DOWN = true ∧
      (s.flag SYS_ERR_UNMAPPED = false → s.flag SYS_ERR_BLK_DOWN = false → s.flag SYS_ERR_HOST_DENIED = false →
        t.raw SYS_ERR_ADDR_ADDR = a.toNat / 4 * 4 ∧ t.flag SYS_ERR_ADDR_WR = wr ∧ t.raw SYS_ERR_ADDR_SRC = srcOf r) ∧
      (s.flag SYS_ERR_UNMAPPED = true ∨ s.flag SYS_ERR_BLK_DOWN = true ∨ s.flag SYS_ERR_HOST_DENIED = true →
        sameRegsBut [SYS_ERR_BLK_DOWN, PAT_STAT_LOST, PAT_LOST_COUNT] s t)) ∧
  (∀ (wr : Bool) (a : BitVec 25) (s : State), s.runs → s.accessErr .host wr a.toNat = some errDenied →
    Does (.hostAccessRefused wr a) s fun t => t.flag SYS_ERR_HOST_DENIED = true ∧
      (s.flag SYS_ERR_UNMAPPED = false → s.flag SYS_ERR_BLK_DOWN = false → s.flag SYS_ERR_HOST_DENIED = false →
        t.raw SYS_ERR_ADDR_ADDR = a.toNat / 4 * 4 ∧ t.flag SYS_ERR_ADDR_WR = wr ∧ t.raw SYS_ERR_ADDR_SRC = srcOf .host) ∧
      (s.flag SYS_ERR_UNMAPPED = true ∨ s.flag SYS_ERR_BLK_DOWN = true ∨ s.flag SYS_ERR_HOST_DENIED = true →
        sameRegsBut [SYS_ERR_HOST_DENIED, PAT_STAT_LOST, PAT_LOST_COUNT] s t)) ∧
  (∀ (r : Req) (wr : Bool) (a : BitVec 25) (s : State), s.runs → s.bit (PAT_TEN_EN 0) 1 = true → s.pat.queue.length < 16 →
    (s.accessErr r wr a.toNat = some errUnmapped → Does (.unmappedAccess r wr a) s fun t =>
      t.pat.queue.map (·.1) = s.pat.queue.map (·.1) ++ [1]) ∧
    (s.accessErr r wr a.toNat = some errDown → Does (.blockDownAccess r wr a) s fun t =>
      t.pat.queue.map (·.1) = s.pat.queue.map (·.1) ++ [1]) ∧
    (s.accessErr .host wr a.toNat = some errDenied → Does (.hostAccessRefused wr a) s fun t =>
      t.pat.queue.map (·.1) = s.pat.queue.map (·.1) ++ [1]))

/-- R351, R352. An apply that would write an active-set field is refused with RESULT 011b outside the quiet window and applied inside it; a
refusal that brings FAILS to MAXFAIL sets LAST_T to the present reading, clears FAILS, sets the head's HELD bit, raises a Patina trigger,
and leaves the old values in use. -/
def Obligations.CalibrationRefusals : Prop :=
  (∀ (r : Req) (w1 : Word) (g : CalTarget) (f : Fld) (s : State), s.runs → s.flag CAL_CTL_EN = true → s.calTarget r = some g →
    s.geti (CAL_LIM_LO g.item) ≤ sgn 10 (bits w1.toNat 0 10) → sgn 10 (bits w1.toNat 0 10) ≤ s.geti (CAL_LIM_HI g.item) →
    (sgn 10 (bits w1.toNat 0 10) - (if g.signed then s.geti g.table else s.raw g.table)).natAbs ≤ s.raw (CAL_LIM_STEP_MAX g.item) →
    g.active = some f → s.calActive r = true →
    (s.inv.quiet.toList.getD (s.raw (CAL_APPLY_W0_CH.of r)) false = false → Does (.calApply r w1) s fun t =>
      t.raw (CAL_APPLY_RESP_RESULT.of r) = 3 ∧ t.raw g.table = s.raw g.table ∧ t.raw f = s.raw f) ∧
    (s.inv.quiet.toList.getD (s.raw (CAL_APPLY_W0_CH.of r)) false = true → Does (.calApply r w1) s fun t =>
      t.raw (CAL_APPLY_RESP_RESULT.of r) = 0 ∧ t.raw f = t.raw g.table)) ∧
  (∀ (r : Req) (w1 : Word) (g : CalTarget) (s : State), s.runs → s.flag CAL_CTL_EN = true → s.calTarget r = some g →
    s.calCheck r g (sgn 10 (bits w1.toNat 0 10)) ≠ 0 →
    s.get CAL_CTL_MAXFAIL ≤ s.raw (CAL_LAST_FAILS (s.raw (CAL_APPLY_W0_HEAD.of r)) g.item) + 1 → Does (.calApply r w1) s fun t =>
      t.raw (CAL_LAST_LAST_T (s.raw (CAL_APPLY_W0_HEAD.of r)) g.item) = s.calReading (s.raw (CAL_APPLY_W0_HEAD.of r)) g.item ∧
      t.raw (CAL_LAST_FAILS (s.raw (CAL_APPLY_W0_HEAD.of r)) g.item) = 0 ∧
      t.bit (CAL_HELD_HELD g.item) (s.raw (CAL_APPLY_W0_HEAD.of r)) = true ∧
      (s.bit (PAT_TEN_EN 1) 20 = true → s.bit (PAT_TEN_EN 1) 21 = true → s.pat.queue.length ≤ 14 →
        t.pat.queue.map (·.1) = s.pat.queue.map (·.1) ++ [52, 53]) ∧
      t.raw g.table = s.raw g.table ∧ (∀ f, g.active = some f → t.raw f = s.raw f))

/-- R333. A failure of FRC, SRC or a REFCLK sets its flag, raises a Patina trigger and is handled by neither policy, and the link of a port
whose REFCLK fails is lost; while FRC is failed, a failure of MXO or of a PLL is handled as COAST, whatever the policy. -/
def Obligations.OtherClockFailures : Prop :=
  (∀ (k : Fin 5) (count : Nat) (s : State), s.runs → s.flag CLK_CTL_MON_EN = true → s.clk.failed[(0 : Fin 5)] = false →
    s.clk.failed[k] = false → s.hif.l12 = #v[false, false] → s.monFails k.val count = true → s.clk.bad[k] = true → k.val ≠ 0 →
    Does (.monitorWindow k count) s fun t => (k.val = 1 → t.flag CLK_STAT_FRC_FAIL = true) ∧ (k.val = 2 → t.flag CLK_STAT_SRC_FAIL = true) ∧
      (3 ≤ k.val → t.bit CLK_STAT_REF_FAIL (k.val - 3) = true ∧ t.flag (HIF_PORT_LINK_UP (k.val - 3)) = false) ∧
      (s.bit (PAT_TEN_EN 1) 13 = true → s.pat.queue.length < 16 → t.pat.queue.map (·.1) = s.pat.queue.map (·.1) ++ [45]) ∧
      t.clk.cur = s.clk.cur ∧ t.clk.refFrc = s.clk.refFrc ∧ t.out = s.out ∧
      sameRegsBut [CLK_STAT_FRC_FAIL, CLK_STAT_SRC_FAIL, CLK_STAT_REF_FAIL, CLK_SRC_STAT_RUN, CLK_SRC_STAT_STABLE, HIF_PORT_LINK_UP 0,
        HIF_PORT_LINK_UP 1, PAT_STAT_LOST, PAT_LOST_COUNT] s t) ∧
  (∀ (count : Nat) (s : State), s.runs → s.flag CLK_CTL_MON_EN = true → s.clk.failed[(0 : Fin 5)] = false → s.clk.failed[(1 : Fin 5)] = true →
    s.monFails 0 count = true → s.clk.bad[(0 : Fin 5)] = true → Does (.monitorWindow 0 count) s fun t => t.flag CLK_STAT_COAST = true ∧
      t.flag CLK_STAT_MXO_FAIL = true ∧ t.clk.refFrc = s.clk.refFrc ∧ t.raw (CLK_MUX_SEL 0) = s.raw (CLK_MUX_SEL 0) ∧
      t.raw (CLK_MUX_SEL 1) = s.raw (CLK_MUX_SEL 1) ∧ t.out = s.out ∧
      (∀ p : Fin 2, s.flag (CLK_PLL_EN p.val) = true → t.flag (CLK_PLL_COASTING p.val) = true)) ∧
  (∀ (p : Fin 2) (s : State), s.runs → s.flag CLK_CTL_MON_EN = true → s.clk.failed[(1 : Fin 5)] = true → s.flag (CLK_PLL_LOCK p.val) = true →
    s.flag (CLK_PLL_EN p.val) = true → Does (.pllUnlock p) s fun t => t.flag CLK_STAT_COAST = true ∧ t.flag CLK_STAT_PLL_FAIL = true ∧
      t.flag (CLK_PLL_COASTING p.val) = true ∧ t.clk.cur = s.clk.cur ∧ t.out = s.out)

/-- The rollback count (R387, R391): no command and no passing of time lowers it, and a committed activation record of an image with ADVANCE
whose SVN exceeds it raises it to the SVN, sets RB_ADV and raises trigger 61, unless the supplies are frozen. The model's choices it rests
on: log entry 151. -/
def Obligations.RollbackCount : Prop :=
  (∀ (s t : State), step s = .next t → s.raw SEC_STAT_RBCNT ≤ t.raw SEC_STAT_RBCNT) ∧
  (∀ (i : Fin 2) (s : State), s.runs → bitOf (imgLe (s.sec.slots[i]).byte 7 1) 0 = true → s.flag BUL_STAT_FROZEN = false →
    s.raw SEC_STAT_RBCNT < imgSvn (s.sec.slots[i]).byte → imgSvn (s.sec.slots[i]).byte ≤ 64 → Does (.activationRecordCommit i) s fun t =>
      t.raw SEC_STAT_RBCNT = imgSvn (s.sec.slots[i]).byte ∧ t.flag SEC_STAT_RB_ADV = true ∧
      (s.bit (PAT_TEN_EN 1) 29 = true → s.pat.queue.length < 16 → t.pat.queue = s.pat.queue ++ [(61, i.val)])) ∧
  (∀ (i : Fin 2) (s : State), s.runs → s.flag BUL_STAT_FROZEN = true → Does (.activationRecordCommit i) s fun t => sameRegs s t)

/-- A step takes the command at the front of the queue and runs it on the state with the rest of the queue. With no command waiting a step
lets one edge of the wall clock pass and leaves the queue empty. The model's choices it rests on: log entry 1. -/
def Obligations.StepTakesFront : Prop :=
  (∀ (c : Instr) (q : List Instr) (s : State), s.pending = c :: q → step s = exec c (s.withPending q)) ∧
  (∀ s : State, s.pending = [] → ∃ t, step s = .next t ∧ t.pending = [])

/-- What reset leaves: the register values the manual gives, empty queues and ports down, the actuators parked, no gate and no grant, and
every invariant stated of a step. The model's choices it rests on: log entries 7 and 8. -/
def Obligations.ResetState : Prop :=
  State.reset.canonical ∧ State.reset.heldClosed ∧ State.reset.emergencyBare ∧ State.reset.pending = [] ∧ State.reset.out = [] ∧
  State.reset.raw SYS_ID_PART = 0x7260 ∧ State.reset.raw INV_CFG_WEDGES = 640 ∧ State.reset.raw INV_CFG_WR_TOL = 16 ∧
  State.reset.raw INV_SRC_SRC = srcNone ∧ State.reset.raw SPN_SPEED_TARGET = 115200 ∧ State.reset.raw SPN_STAT_STATE = 0 ∧
  (∀ a : Fin 2, State.reset.actSt a = actParked) ∧ State.reset.raw QCH_EN_EN = 15 ∧
  (∀ r : Fin 16, State.reset.engineOf r.val = some ⟨r.val, by omega⟩) ∧ State.reset.raw BUL_BUDGET_I12_MA = 2000 ∧
  State.reset.raw BUL_BUDGET_I5_MA = 1500 ∧ (∀ k : Fin 24, State.reset.granted k = false) ∧ State.reset.raw (PWR_MON_WARN_MV 0) = 10800 ∧
  State.reset.raw (PWR_MON_WARN_MV 1) = 4600 ∧ State.reset.raw THM_LIM_CRIT_C = 115 ∧ State.reset.raw CAL_CTL_MAXFAIL = 3 ∧
  (∀ p : Fin 4, State.reset.raw (SLD_P_STAT_STATE p.val) = slpDisabled) ∧ State.reset.flag SEC_LOCK_LOCK = false ∧
  State.reset.raw RST_WDT_PERIOD_MS = 5000 ∧ (∀ c : Fin 2, State.reset.flag (HIF_C_STAT_EN c.val) = false) ∧
  (∀ ch : Fin 4, (State.reset.wch[ch]).gate = none) ∧ (∀ k : Fin 7, State.reset.pwr.lvl[k] = 0) ∧ State.reset.raw PWR_STATE_CUR = 0

/-- No command stops the machine: every command of the table, on every state and every operand, answers a next state, leaves the queue alone,
and only adds to what the outside has seen. A command that does not act at rest finds a main die that does not run and changes nothing
(R439). The model's choices it rests on: log entry 2. -/
def Obligations.EveryCommandCompletes : Prop :=
  (∀ (i : Instr) (s : State), ∃ t l, exec i s = .next t ∧ t.pending = s.pending ∧ t.out = s.out ++ l ∧ s.free ≤ t.free) ∧
  (∀ (i : Instr) (s : State), actsAtRest i = false → ¬ s.runs → exec i s = .next s)

/-- The frame of every command: outside the register blocks and the parts of the state that `touches` names for it, nothing changes. -/
def Obligations.CommandFrames : Prop := ∀ (i : Instr) (s t : State), exec i s = .next t → Framed i s t

/-- Every step keeps the register store and the buffer DRAM in canonical form: equal contents are equal data. The model's choices it rests on:
log entry 1. -/
def Obligations.CanonicalKept : Prop := ∀ s t : State, s.canonical → step s = .next t → t.canonical

/-- R36. No step but a power-on sets the angle stamp to a smaller value. The model's choices it rests on: log entries 1 and 38. -/
def Obligations.StampNeverDecreases : Prop :=
  ∀ s t : State, (∀ st d q, s.pending ≠ .powerOn st d :: q) → step s = .next t → s.inv.now ≤ t.inv.now

/-- R59 to R63, R128. Every step keeps the write gate and the assist state of each held channel closed. The model's choices it rests on: log
entry 1. -/
def Obligations.HeldChannelsClosed : Prop := ∀ s t : State, s.heldClosed → step s = .next t → t.heldClosed

/-- R315. Every step keeps an emergency free of grants: until EMERG is cleared, Bullion grants nothing. The model's choices it rests on: log
entry 1. -/
def Obligations.EmergencyGrantsNothing : Prop := ∀ s t : State, s.emergencyBare → step s = .next t → t.emergencyBare
end

