-- ==== Sys2Proof/Laws/Bits.lean ====
section
/-!
SUPPORT. Bits of numbers and elements of vectors after an update.
-/
namespace Sys2Proof.Machine

theorem bitOf_eq (v i : Nat) : bitOf v i = v.testBit i := by
  unfold bitOf
  rw [Nat.testBit_eq_decide_div_mod_eq]; rfl

/-- A field keeps the bits within its width. -/
@[simp] theorem bitOf_mod (v w i : Nat) : bitOf (v % 2 ^ w) i = (decide (i < w) && bitOf v i) := by
  simp only [bitOf_eq, Nat.testBit_mod_two_pow]

/-- The bit set reads 1b, every other one as before. -/
@[simp] theorem bitOf_setBit (v i j : Nat) : bitOf (setBit v i) j = (decide (i = j) || bitOf v j) := by
  unfold setBit
  by_cases h : bitOf v i = true
  · rw [if_pos h]
    by_cases e : i = j
    · subst e; simp [h]
    · simp [e]
  · rw [if_neg h]
    simp only [bitOf_eq] at *
    by_cases e : i = j
    · subst e; rw [Nat.add_comm, Nat.testBit_two_pow_add_eq]; simp [h]
    · rw [Nat.add_comm]
      have hv : 2 ^ i + v = 2 ^ i ||| v := by
        refine Nat.eq_of_testBit_eq fun k => ?_
        rw [Nat.testBit_or, Nat.testBit_two_pow]
        by_cases k1 : i = k
        · subst k1; rw [Nat.testBit_two_pow_add_eq]; simp [h]
        · rcases Nat.lt_or_gt_of_ne k1 with k2 | k2
          · have hm : v / 2 ^ i % 2 = 0 := by
              simp only [Nat.testBit_eq_decide_div_mod_eq, decide_eq_true_eq] at h; omega
            have hd : (2 ^ i + v) / 2 ^ i = 1 + v / 2 ^ i := by
              rw [Nat.add_div_left _ (Nat.two_pow_pos i), Nat.add_comm]
            have ek : ∀ x : Nat, x.testBit k = (x / 2 ^ (i + 1)).testBit (k - (i + 1)) := fun x => by
              rw [Nat.testBit_div_two_pow]; congr 1; omega
            rw [ek (2 ^ i + v), ek v, Nat.pow_succ, ← Nat.div_div_eq_div_mul, ← Nat.div_div_eq_div_mul, hd]
            simp only [k1, decide_false, Bool.false_or]
            congr 1; omega
          · rw [Nat.testBit_two_pow_add_gt k2]; simp [k1]
      rw [hv, Nat.testBit_or, Nat.testBit_two_pow]

@[simp] theorem b2n_eq_one (b : Bool) : b2n b = 1 ↔ b = true := by cases b <;> simp [b2n]
@[simp] theorem b2n_eq_zero (b : Bool) : b2n b = 0 ↔ b = false := by cases b <;> simp [b2n]
@[simp] theorem b2n_mod (b : Bool) : b2n b % 2 = b2n b := by cases b <;> rfl
@[simp] theorem b2n_true : b2n true = 1 := rfl
@[simp] theorem b2n_false : b2n false = 0 := rfl

/-- The element changed is the function's, every other one as before. -/
theorem vmod_get {α : Type} {n : Nat} (v : Vector α n) (i j : Fin n) (f : α → α) :
    (vmod v i f)[j] = if i = j then f v[i] else v[j] := by
  unfold vmod
  by_cases h : i = j
  · subst h; simp
  · have : i.val ≠ j.val := fun e => h (Fin.ext e)
    simp [h, this]

end Sys2Proof.Machine
end

