-- ==== Sys2Proof/Laws/Tab.lean ====
section
/-!
SUPPORT. What the operations of a sparse store do: a read after a write, what a write leaves alone, and the canonical form
that every write keeps.
-/
namespace Sys2Proof.Machine

variable {α : Type}

/-- Whether every key of a table lies above `lo`. -/
def tabAbove (lo : Nat) (t : Tab α) : Prop := ∀ e ∈ t, lo < e.1

theorem tabSorted_above {t : Tab α} {lo : Nat} (h : tabSorted (some lo) t = true) : tabAbove lo t := by
  induction t generalizing lo with
  | nil => intro e he; cases he
  | cons p t ih =>
    simp only [tabSorted, Bool.and_eq_true, decide_eq_true_eq] at h
    intro e he
    rcases List.mem_cons.1 he with rfl | he
    · exact h.1
    · exact Nat.lt_trans h.1 (ih h.2 e he)

/-- Sortedness of a table with a first entry. -/
theorem tabSorted_cons {lo : Option Nat} {p : Nat × α} {t : Tab α} :
    tabSorted lo (p :: t) = true ↔ (∀ l, lo = some l → l < p.1) ∧ tabSorted (some p.1) t = true := by
  cases lo <;> simp [tabSorted]

/-- A table sorted above some key is sorted. -/
theorem tabSorted_weaken {t : Tab α} {lo : Option Nat} (h : tabSorted lo t = true) : tabSorted none t = true := by
  cases t with
  | nil => rfl
  | cons p t => exact tabSorted_cons.2 ⟨(fun _ hl => by cases hl), (tabSorted_cons.1 h).2⟩

theorem tabLook_del_self (d : α) (t : Tab α) (k : Nat) : tabLook d (tabDel k t) k = d := by
  induction t with
  | nil => rfl
  | cons p t ih => by_cases h : p.1 = k <;> simp [tabDel, tabLook, h, ih]

theorem tabLook_del_ne (d : α) (t : Tab α) {k j : Nat} (hj : j ≠ k) : tabLook d (tabDel k t) j = tabLook d t j := by
  induction t with
  | nil => rfl
  | cons p t ih =>
    by_cases h : p.1 = k
    · have h' : ¬ k = j := fun e => hj e.symm
      simp [tabDel, tabLook, h, h', ih]
    · simp [tabDel, tabLook, h, ih]

theorem tabLook_ins_self (d : α) (t : Tab α) (k : Nat) (v : α) : tabLook d (tabIns k v t) k = v := by
  induction t with
  | nil => simp [tabIns, tabLook]
  | cons p t ih =>
    unfold tabIns
    split
    · simp [tabLook]
    · split
      · simp [tabLook]
      · next h => simp [tabLook, h, ih]

theorem tabLook_ins_ne (d : α) (t : Tab α) (v : α) {k j : Nat} (hj : j ≠ k) :
    tabLook d (tabIns k v t) j = tabLook d t j := by
  have hk : ¬ k = j := fun e => hj e.symm
  induction t with
  | nil => simp [tabIns, tabLook, hk]
  | cons p t ih =>
    unfold tabIns
    split
    · simp [tabLook, hk]
    · split
      · next h => simp [tabLook, h, hk]
      · simp [tabLook, ih]

variable [DecidableEq α]

/-- A read after a write to the same key gives the value written. -/
theorem tabLook_put_self (d : α) (t : Tab α) (k : Nat) (v : α) : tabLook d (tabPut d t k v) k = v := by
  unfold tabPut
  split
  · next h => rw [tabLook_del_self, h]
  · exact tabLook_ins_self d t k v

/-- A write leaves every other key alone, whatever an unlisted key reads as. -/
theorem tabLook_put_ne (d d' : α) (t : Tab α) (v : α) {k j : Nat} (hj : j ≠ k) :
    tabLook d' (tabPut d t k v) j = tabLook d' t j := by
  unfold tabPut
  split
  · exact tabLook_del_ne d' t hj
  · exact tabLook_ins_ne d' t v hj

omit [DecidableEq α] in
theorem tabSorted_lower {t : Tab α} {lo l : Nat} (hl : l ≤ lo) (h : tabSorted (some lo) t = true) :
    tabSorted (some l) t = true := by
  cases t with
  | nil => rfl
  | cons p t =>
    have h := tabSorted_cons.1 h
    refine tabSorted_cons.2 ⟨fun m hm => ?_, h.2⟩
    have := h.1 lo rfl
    cases hm
    omega

omit [DecidableEq α] in
theorem tabDel_sorted {t : Tab α} (k : Nat) {lo : Option Nat} (h : tabSorted lo t = true) :
    tabSorted lo (tabDel k t) = true := by
  induction t generalizing lo with
  | nil => rfl
  | cons p t ih =>
    have h := tabSorted_cons.1 h
    unfold tabDel
    split
    · refine ih ?_
      cases lo with
      | none => exact tabSorted_weaken h.2
      | some l => exact tabSorted_lower (Nat.le_of_lt (h.1 l rfl)) h.2
    · exact tabSorted_cons.2 ⟨h.1, ih h.2⟩

omit [DecidableEq α] in
theorem tabIns_sorted {t : Tab α} (k : Nat) (v : α) {lo : Option Nat} (h : tabSorted lo t = true)
    (hk : ∀ l, lo = some l → l < k) : tabSorted lo (tabIns k v t) = true := by
  induction t generalizing lo with
  | nil => exact tabSorted_cons.2 ⟨hk, rfl⟩
  | cons p t ih =>
    have h := tabSorted_cons.1 h
    unfold tabIns
    split
    · next hp => exact tabSorted_cons.2 ⟨hk, tabSorted_cons.2 ⟨by intro l hl; cases hl; exact hp, h.2⟩⟩
    · next hp =>
      split
      · next he => exact tabSorted_cons.2 ⟨hk, by rw [← he]; exact h.2⟩
      · next he => exact tabSorted_cons.2 ⟨h.1, ih h.2 (by intro l hl; cases hl; omega)⟩

/-- A write keeps the keys strictly rising. -/
theorem tabPut_sorted (d : α) {t : Tab α} (k : Nat) (v : α) (h : tabSorted none t = true) :
    tabSorted none (tabPut d t k v) = true := by
  unfold tabPut
  split
  · exact tabDel_sorted k h
  · exact tabIns_sorted k v h (by intro l hl; cases hl)

omit [DecidableEq α] in
theorem tabDel_mem {t : Tab α} {k : Nat} {e : Nat × α} (h : e ∈ tabDel k t) : e ∈ t := by
  induction t with
  | nil => exact h
  | cons p t ih =>
    unfold tabDel at h
    split at h
    · exact List.mem_cons_of_mem _ (ih h)
    · rcases List.mem_cons.1 h with rfl | h
      · exact List.mem_cons_self
      · exact List.mem_cons_of_mem _ (ih h)

omit [DecidableEq α] in
theorem tabIns_mem {t : Tab α} {k : Nat} {v : α} {e : Nat × α} (h : e ∈ tabIns k v t) : e = (k, v) ∨ e ∈ t := by
  induction t with
  | nil => simpa [tabIns] using h
  | cons p t ih =>
    unfold tabIns at h
    split at h
    · rcases List.mem_cons.1 h with h | h
      · exact .inl h
      · exact .inr h
    · split at h
      · rcases List.mem_cons.1 h with h | h
        · exact .inl h
        · exact .inr (List.mem_cons_of_mem _ h)
      · rcases List.mem_cons.1 h with rfl | h
        · exact .inr List.mem_cons_self
        · exact (ih h).imp id (List.mem_cons_of_mem _)

/-- A write keeps the canonical form. -/
theorem tabPut_wf (d : α) {t : Tab α} (k : Nat) (v : α) (h : tabWf d t = true) : tabWf d (tabPut d t k v) = true := by
  simp only [tabWf, Bool.and_eq_true, List.all_eq_true, decide_eq_true_eq] at h ⊢
  refine ⟨tabPut_sorted d k v h.1, fun e he => ?_⟩
  unfold tabPut at he
  split at he
  · exact h.2 e (tabDel_mem he)
  · next hv =>
    rcases tabIns_mem he with rfl | he
    · exact hv
    · exact h.2 e he

end Sys2Proof.Machine
end

