-- ==== Sys2Proof/Laws/State.lean ====
section
/-!
SUPPORT. What each named update of the state leaves alone: one lemma for each field and update, and a register field read
after each of them. The updates of one register field are all `State.set`.
-/
namespace Sys2Proof.Machine

/-! ### State.set -/

@[simp] theorem State.set_pending (s : State) (f : Fld) (v : Nat) : (s.set f v).pending = s.pending := rfl
@[simp] theorem State.set_dram (s : State) (f : Fld) (v : Nat) : (s.set f v).dram = s.dram := rfl
@[simp] theorem State.set_poison (s : State) (f : Fld) (v : Nat) : (s.set f v).poison = s.poison := rfl
@[simp] theorem State.set_free (s : State) (f : Fld) (v : Nat) : (s.set f v).free = s.free := rfl
@[simp] theorem State.set_out (s : State) (f : Fld) (v : Nat) : (s.set f v).out = s.out := rfl
@[simp] theorem State.set_die (s : State) (f : Fld) (v : Nat) : (s.set f v).die = s.die := rfl
@[simp] theorem State.set_pd (s : State) (f : Fld) (v : Nat) : (s.set f v).pd = s.pd := rfl
@[simp] theorem State.set_pins (s : State) (f : Fld) (v : Nat) : (s.set f v).pins = s.pins := rfl
@[simp] theorem State.set_thm (s : State) (f : Fld) (v : Nat) : (s.set f v).thm = s.thm := rfl
@[simp] theorem State.set_pwr (s : State) (f : Fld) (v : Nat) : (s.set f v).pwr = s.pwr := rfl
@[simp] theorem State.set_buf (s : State) (f : Fld) (v : Nat) : (s.set f v).buf = s.buf := rfl
@[simp] theorem State.set_clk (s : State) (f : Fld) (v : Nat) : (s.set f v).clk = s.clk := rfl
@[simp] theorem State.set_cal (s : State) (f : Fld) (v : Nat) : (s.set f v).cal = s.cal := rfl
@[simp] theorem State.set_asy (s : State) (f : Fld) (v : Nat) : (s.set f v).asy = s.asy := rfl
@[simp] theorem State.set_pat (s : State) (f : Fld) (v : Nat) : (s.set f v).pat = s.pat := rfl
@[simp] theorem State.set_bul (s : State) (f : Fld) (v : Nat) : (s.set f v).bul = s.bul := rfl
@[simp] theorem State.set_inv (s : State) (f : Fld) (v : Nat) : (s.set f v).inv = s.inv := rfl
@[simp] theorem State.set_qch (s : State) (f : Fld) (v : Nat) : (s.set f v).qch = s.qch := rfl
@[simp] theorem State.set_spn (s : State) (f : Fld) (v : Nat) : (s.set f v).spn = s.spn := rfl
@[simp] theorem State.set_srv (s : State) (f : Fld) (v : Nat) : (s.set f v).srv = s.srv := rfl
@[simp] theorem State.set_act (s : State) (f : Fld) (v : Nat) : (s.set f v).act = s.act := rfl
@[simp] theorem State.set_shock (s : State) (f : Fld) (v : Nat) : (s.set f v).shock = s.shock := rfl
@[simp] theorem State.set_wch (s : State) (f : Fld) (v : Nat) : (s.set f v).wch = s.wch := rfl
@[simp] theorem State.set_rch (s : State) (f : Fld) (v : Nat) : (s.set f v).rch = s.rch := rfl
@[simp] theorem State.set_deep (s : State) (f : Fld) (v : Nat) : (s.set f v).deep = s.deep := rfl
@[simp] theorem State.set_mem (s : State) (f : Fld) (v : Nat) : (s.set f v).mem = s.mem := rfl
@[simp] theorem State.set_vlt (s : State) (f : Fld) (v : Nat) : (s.set f v).vlt = s.vlt := rfl
@[simp] theorem State.set_xlt (s : State) (f : Fld) (v : Nat) : (s.set f v).xlt = s.xlt := rfl
@[simp] theorem State.set_xl1 (s : State) (f : Fld) (v : Nat) : (s.set f v).xl1 = s.xl1 := rfl
@[simp] theorem State.set_cmp (s : State) (f : Fld) (v : Nat) : (s.set f v).cmp = s.cmp := rfl
@[simp] theorem State.set_eng (s : State) (f : Fld) (v : Nat) : (s.set f v).eng = s.eng := rfl
@[simp] theorem State.set_hif (s : State) (f : Fld) (v : Nat) : (s.set f v).hif = s.hif := rfl
@[simp] theorem State.set_sld (s : State) (f : Fld) (v : Nat) : (s.set f v).sld = s.sld := rfl
@[simp] theorem State.set_sec (s : State) (f : Fld) (v : Nat) : (s.set f v).sec = s.sec := rfl

/-! ### State.emit -/

@[simp] theorem State.emit_pending (s : State) (o : Out) : (s.emit o).pending = s.pending := rfl
@[simp] theorem State.emit_regs (s : State) (o : Out) : (s.emit o).regs = s.regs := rfl
@[simp] theorem State.emit_dram (s : State) (o : Out) : (s.emit o).dram = s.dram := rfl
@[simp] theorem State.emit_poison (s : State) (o : Out) : (s.emit o).poison = s.poison := rfl
@[simp] theorem State.emit_free (s : State) (o : Out) : (s.emit o).free = s.free := rfl
@[simp] theorem State.emit_die (s : State) (o : Out) : (s.emit o).die = s.die := rfl
@[simp] theorem State.emit_pd (s : State) (o : Out) : (s.emit o).pd = s.pd := rfl
@[simp] theorem State.emit_pins (s : State) (o : Out) : (s.emit o).pins = s.pins := rfl
@[simp] theorem State.emit_thm (s : State) (o : Out) : (s.emit o).thm = s.thm := rfl
@[simp] theorem State.emit_pwr (s : State) (o : Out) : (s.emit o).pwr = s.pwr := rfl
@[simp] theorem State.emit_buf (s : State) (o : Out) : (s.emit o).buf = s.buf := rfl
@[simp] theorem State.emit_clk (s : State) (o : Out) : (s.emit o).clk = s.clk := rfl
@[simp] theorem State.emit_cal (s : State) (o : Out) : (s.emit o).cal = s.cal := rfl
@[simp] theorem State.emit_asy (s : State) (o : Out) : (s.emit o).asy = s.asy := rfl
@[simp] theorem State.emit_pat (s : State) (o : Out) : (s.emit o).pat = s.pat := rfl
@[simp] theorem State.emit_bul (s : State) (o : Out) : (s.emit o).bul = s.bul := rfl
@[simp] theorem State.emit_inv (s : State) (o : Out) : (s.emit o).inv = s.inv := rfl
@[simp] theorem State.emit_qch (s : State) (o : Out) : (s.emit o).qch = s.qch := rfl
@[simp] theorem State.emit_spn (s : State) (o : Out) : (s.emit o).spn = s.spn := rfl
@[simp] theorem State.emit_srv (s : State) (o : Out) : (s.emit o).srv = s.srv := rfl
@[simp] theorem State.emit_act (s : State) (o : Out) : (s.emit o).act = s.act := rfl
@[simp] theorem State.emit_shock (s : State) (o : Out) : (s.emit o).shock = s.shock := rfl
@[simp] theorem State.emit_wch (s : State) (o : Out) : (s.emit o).wch = s.wch := rfl
@[simp] theorem State.emit_rch (s : State) (o : Out) : (s.emit o).rch = s.rch := rfl
@[simp] theorem State.emit_deep (s : State) (o : Out) : (s.emit o).deep = s.deep := rfl
@[simp] theorem State.emit_mem (s : State) (o : Out) : (s.emit o).mem = s.mem := rfl
@[simp] theorem State.emit_vlt (s : State) (o : Out) : (s.emit o).vlt = s.vlt := rfl
@[simp] theorem State.emit_xlt (s : State) (o : Out) : (s.emit o).xlt = s.xlt := rfl
@[simp] theorem State.emit_xl1 (s : State) (o : Out) : (s.emit o).xl1 = s.xl1 := rfl
@[simp] theorem State.emit_cmp (s : State) (o : Out) : (s.emit o).cmp = s.cmp := rfl
@[simp] theorem State.emit_eng (s : State) (o : Out) : (s.emit o).eng = s.eng := rfl
@[simp] theorem State.emit_hif (s : State) (o : Out) : (s.emit o).hif = s.hif := rfl
@[simp] theorem State.emit_sld (s : State) (o : Out) : (s.emit o).sld = s.sld := rfl
@[simp] theorem State.emit_sec (s : State) (o : Out) : (s.emit o).sec = s.sec := rfl
@[simp] theorem State.emit_own (s : State) (o : Out) : (s.emit o).out = s.out ++ [o] := rfl
@[simp] theorem State.emit_raw (s : State) (o : Out) (g : Fld) : (s.emit o).raw g = s.raw g := rfl

/-! ### State.draw -/

@[simp] theorem State.draw_pending (s : State) : (s.draw.1).pending = s.pending := rfl
@[simp] theorem State.draw_regs (s : State) : (s.draw.1).regs = s.regs := rfl
@[simp] theorem State.draw_dram (s : State) : (s.draw.1).dram = s.dram := rfl
@[simp] theorem State.draw_poison (s : State) : (s.draw.1).poison = s.poison := rfl
@[simp] theorem State.draw_out (s : State) : (s.draw.1).out = s.out := rfl
@[simp] theorem State.draw_die (s : State) : (s.draw.1).die = s.die := rfl
@[simp] theorem State.draw_pd (s : State) : (s.draw.1).pd = s.pd := rfl
@[simp] theorem State.draw_pins (s : State) : (s.draw.1).pins = s.pins := rfl
@[simp] theorem State.draw_thm (s : State) : (s.draw.1).thm = s.thm := rfl
@[simp] theorem State.draw_pwr (s : State) : (s.draw.1).pwr = s.pwr := rfl
@[simp] theorem State.draw_buf (s : State) : (s.draw.1).buf = s.buf := rfl
@[simp] theorem State.draw_clk (s : State) : (s.draw.1).clk = s.clk := rfl
@[simp] theorem State.draw_cal (s : State) : (s.draw.1).cal = s.cal := rfl
@[simp] theorem State.draw_asy (s : State) : (s.draw.1).asy = s.asy := rfl
@[simp] theorem State.draw_pat (s : State) : (s.draw.1).pat = s.pat := rfl
@[simp] theorem State.draw_bul (s : State) : (s.draw.1).bul = s.bul := rfl
@[simp] theorem State.draw_inv (s : State) : (s.draw.1).inv = s.inv := rfl
@[simp] theorem State.draw_qch (s : State) : (s.draw.1).qch = s.qch := rfl
@[simp] theorem State.draw_spn (s : State) : (s.draw.1).spn = s.spn := rfl
@[simp] theorem State.draw_srv (s : State) : (s.draw.1).srv = s.srv := rfl
@[simp] theorem State.draw_act (s : State) : (s.draw.1).act = s.act := rfl
@[simp] theorem State.draw_shock (s : State) : (s.draw.1).shock = s.shock := rfl
@[simp] theorem State.draw_wch (s : State) : (s.draw.1).wch = s.wch := rfl
@[simp] theorem State.draw_rch (s : State) : (s.draw.1).rch = s.rch := rfl
@[simp] theorem State.draw_deep (s : State) : (s.draw.1).deep = s.deep := rfl
@[simp] theorem State.draw_mem (s : State) : (s.draw.1).mem = s.mem := rfl
@[simp] theorem State.draw_vlt (s : State) : (s.draw.1).vlt = s.vlt := rfl
@[simp] theorem State.draw_xlt (s : State) : (s.draw.1).xlt = s.xlt := rfl
@[simp] theorem State.draw_xl1 (s : State) : (s.draw.1).xl1 = s.xl1 := rfl
@[simp] theorem State.draw_cmp (s : State) : (s.draw.1).cmp = s.cmp := rfl
@[simp] theorem State.draw_eng (s : State) : (s.draw.1).eng = s.eng := rfl
@[simp] theorem State.draw_hif (s : State) : (s.draw.1).hif = s.hif := rfl
@[simp] theorem State.draw_sld (s : State) : (s.draw.1).sld = s.sld := rfl
@[simp] theorem State.draw_sec (s : State) : (s.draw.1).sec = s.sec := rfl
@[simp] theorem State.draw_raw (s : State) (g : Fld) : (s.draw.1).raw g = s.raw g := rfl

/-! ### State.withPending -/

@[simp] theorem State.withPending_regs (s : State) (q : List Instr) : (s.withPending q).regs = s.regs := rfl
@[simp] theorem State.withPending_dram (s : State) (q : List Instr) : (s.withPending q).dram = s.dram := rfl
@[simp] theorem State.withPending_poison (s : State) (q : List Instr) : (s.withPending q).poison = s.poison := rfl
@[simp] theorem State.withPending_free (s : State) (q : List Instr) : (s.withPending q).free = s.free := rfl
@[simp] theorem State.withPending_out (s : State) (q : List Instr) : (s.withPending q).out = s.out := rfl
@[simp] theorem State.withPending_die (s : State) (q : List Instr) : (s.withPending q).die = s.die := rfl
@[simp] theorem State.withPending_pd (s : State) (q : List Instr) : (s.withPending q).pd = s.pd := rfl
@[simp] theorem State.withPending_pins (s : State) (q : List Instr) : (s.withPending q).pins = s.pins := rfl
@[simp] theorem State.withPending_thm (s : State) (q : List Instr) : (s.withPending q).thm = s.thm := rfl
@[simp] theorem State.withPending_pwr (s : State) (q : List Instr) : (s.withPending q).pwr = s.pwr := rfl
@[simp] theorem State.withPending_buf (s : State) (q : List Instr) : (s.withPending q).buf = s.buf := rfl
@[simp] theorem State.withPending_clk (s : State) (q : List Instr) : (s.withPending q).clk = s.clk := rfl
@[simp] theorem State.withPending_cal (s : State) (q : List Instr) : (s.withPending q).cal = s.cal := rfl
@[simp] theorem State.withPending_asy (s : State) (q : List Instr) : (s.withPending q).asy = s.asy := rfl
@[simp] theorem State.withPending_pat (s : State) (q : List Instr) : (s.withPending q).pat = s.pat := rfl
@[simp] theorem State.withPending_bul (s : State) (q : List Instr) : (s.withPending q).bul = s.bul := rfl
@[simp] theorem State.withPending_inv (s : State) (q : List Instr) : (s.withPending q).inv = s.inv := rfl
@[simp] theorem State.withPending_qch (s : State) (q : List Instr) : (s.withPending q).qch = s.qch := rfl
@[simp] theorem State.withPending_spn (s : State) (q : List Instr) : (s.withPending q).spn = s.spn := rfl
@[simp] theorem State.withPending_srv (s : State) (q : List Instr) : (s.withPending q).srv = s.srv := rfl
@[simp] theorem State.withPending_act (s : State) (q : List Instr) : (s.withPending q).act = s.act := rfl
@[simp] theorem State.withPending_shock (s : State) (q : List Instr) : (s.withPending q).shock = s.shock := rfl
@[simp] theorem State.withPending_wch (s : State) (q : List Instr) : (s.withPending q).wch = s.wch := rfl
@[simp] theorem State.withPending_rch (s : State) (q : List Instr) : (s.withPending q).rch = s.rch := rfl
@[simp] theorem State.withPending_deep (s : State) (q : List Instr) : (s.withPending q).deep = s.deep := rfl
@[simp] theorem State.withPending_mem (s : State) (q : List Instr) : (s.withPending q).mem = s.mem := rfl
@[simp] theorem State.withPending_vlt (s : State) (q : List Instr) : (s.withPending q).vlt = s.vlt := rfl
@[simp] theorem State.withPending_xlt (s : State) (q : List Instr) : (s.withPending q).xlt = s.xlt := rfl
@[simp] theorem State.withPending_xl1 (s : State) (q : List Instr) : (s.withPending q).xl1 = s.xl1 := rfl
@[simp] theorem State.withPending_cmp (s : State) (q : List Instr) : (s.withPending q).cmp = s.cmp := rfl
@[simp] theorem State.withPending_eng (s : State) (q : List Instr) : (s.withPending q).eng = s.eng := rfl
@[simp] theorem State.withPending_hif (s : State) (q : List Instr) : (s.withPending q).hif = s.hif := rfl
@[simp] theorem State.withPending_sld (s : State) (q : List Instr) : (s.withPending q).sld = s.sld := rfl
@[simp] theorem State.withPending_sec (s : State) (q : List Instr) : (s.withPending q).sec = s.sec := rfl
@[simp] theorem State.withPending_own (s : State) (q : List Instr) : (s.withPending q).pending = q := rfl
@[simp] theorem State.withPending_raw (s : State) (q : List Instr) (g : Fld) : (s.withPending q).raw g = s.raw g := rfl

/-! ### modAct -/

@[simp] theorem modAct_pending (a : Fin 2) (f : Act → Act) (s : State) : (modAct a f s).pending = s.pending := rfl
@[simp] theorem modAct_regs (a : Fin 2) (f : Act → Act) (s : State) : (modAct a f s).regs = s.regs := rfl
@[simp] theorem modAct_dram (a : Fin 2) (f : Act → Act) (s : State) : (modAct a f s).dram = s.dram := rfl
@[simp] theorem modAct_poison (a : Fin 2) (f : Act → Act) (s : State) : (modAct a f s).poison = s.poison := rfl
@[simp] theorem modAct_free (a : Fin 2) (f : Act → Act) (s : State) : (modAct a f s).free = s.free := rfl
@[simp] theorem modAct_out (a : Fin 2) (f : Act → Act) (s : State) : (modAct a f s).out = s.out := rfl
@[simp] theorem modAct_die (a : Fin 2) (f : Act → Act) (s : State) : (modAct a f s).die = s.die := rfl
@[simp] theorem modAct_pd (a : Fin 2) (f : Act → Act) (s : State) : (modAct a f s).pd = s.pd := rfl
@[simp] theorem modAct_pins (a : Fin 2) (f : Act → Act) (s : State) : (modAct a f s).pins = s.pins := rfl
@[simp] theorem modAct_thm (a : Fin 2) (f : Act → Act) (s : State) : (modAct a f s).thm = s.thm := rfl
@[simp] theorem modAct_pwr (a : Fin 2) (f : Act → Act) (s : State) : (modAct a f s).pwr = s.pwr := rfl
@[simp] theorem modAct_buf (a : Fin 2) (f : Act → Act) (s : State) : (modAct a f s).buf = s.buf := rfl
@[simp] theorem modAct_clk (a : Fin 2) (f : Act → Act) (s : State) : (modAct a f s).clk = s.clk := rfl
@[simp] theorem modAct_cal (a : Fin 2) (f : Act → Act) (s : State) : (modAct a f s).cal = s.cal := rfl
@[simp] theorem modAct_asy (a : Fin 2) (f : Act → Act) (s : State) : (modAct a f s).asy = s.asy := rfl
@[simp] theorem modAct_pat (a : Fin 2) (f : Act → Act) (s : State) : (modAct a f s).pat = s.pat := rfl
@[simp] theorem modAct_bul (a : Fin 2) (f : Act → Act) (s : State) : (modAct a f s).bul = s.bul := rfl
@[simp] theorem modAct_inv (a : Fin 2) (f : Act → Act) (s : State) : (modAct a f s).inv = s.inv := rfl
@[simp] theorem modAct_qch (a : Fin 2) (f : Act → Act) (s : State) : (modAct a f s).qch = s.qch := rfl
@[simp] theorem modAct_spn (a : Fin 2) (f : Act → Act) (s : State) : (modAct a f s).spn = s.spn := rfl
@[simp] theorem modAct_srv (a : Fin 2) (f : Act → Act) (s : State) : (modAct a f s).srv = s.srv := rfl
@[simp] theorem modAct_shock (a : Fin 2) (f : Act → Act) (s : State) : (modAct a f s).shock = s.shock := rfl
@[simp] theorem modAct_wch (a : Fin 2) (f : Act → Act) (s : State) : (modAct a f s).wch = s.wch := rfl
@[simp] theorem modAct_rch (a : Fin 2) (f : Act → Act) (s : State) : (modAct a f s).rch = s.rch := rfl
@[simp] theorem modAct_deep (a : Fin 2) (f : Act → Act) (s : State) : (modAct a f s).deep = s.deep := rfl
@[simp] theorem modAct_mem (a : Fin 2) (f : Act → Act) (s : State) : (modAct a f s).mem = s.mem := rfl
@[simp] theorem modAct_vlt (a : Fin 2) (f : Act → Act) (s : State) : (modAct a f s).vlt = s.vlt := rfl
@[simp] theorem modAct_xlt (a : Fin 2) (f : Act → Act) (s : State) : (modAct a f s).xlt = s.xlt := rfl
@[simp] theorem modAct_xl1 (a : Fin 2) (f : Act → Act) (s : State) : (modAct a f s).xl1 = s.xl1 := rfl
@[simp] theorem modAct_cmp (a : Fin 2) (f : Act → Act) (s : State) : (modAct a f s).cmp = s.cmp := rfl
@[simp] theorem modAct_eng (a : Fin 2) (f : Act → Act) (s : State) : (modAct a f s).eng = s.eng := rfl
@[simp] theorem modAct_hif (a : Fin 2) (f : Act → Act) (s : State) : (modAct a f s).hif = s.hif := rfl
@[simp] theorem modAct_sld (a : Fin 2) (f : Act → Act) (s : State) : (modAct a f s).sld = s.sld := rfl
@[simp] theorem modAct_sec (a : Fin 2) (f : Act → Act) (s : State) : (modAct a f s).sec = s.sec := rfl
@[simp] theorem modAct_own (a : Fin 2) (f : Act → Act) (s : State) : (modAct a f s).act = vmod s.act a f := rfl
@[simp] theorem modAct_raw (a : Fin 2) (f : Act → Act) (s : State) (g : Fld) : (modAct a f s).raw g = s.raw g := rfl

/-! ### modVlt -/

@[simp] theorem modVlt_pending (f : Vlt → Vlt) (s : State) : (modVlt f s).pending = s.pending := rfl
@[simp] theorem modVlt_regs (f : Vlt → Vlt) (s : State) : (modVlt f s).regs = s.regs := rfl
@[simp] theorem modVlt_dram (f : Vlt → Vlt) (s : State) : (modVlt f s).dram = s.dram := rfl
@[simp] theorem modVlt_poison (f : Vlt → Vlt) (s : State) : (modVlt f s).poison = s.poison := rfl
@[simp] theorem modVlt_free (f : Vlt → Vlt) (s : State) : (modVlt f s).free = s.free := rfl
@[simp] theorem modVlt_out (f : Vlt → Vlt) (s : State) : (modVlt f s).out = s.out := rfl
@[simp] theorem modVlt_die (f : Vlt → Vlt) (s : State) : (modVlt f s).die = s.die := rfl
@[simp] theorem modVlt_pd (f : Vlt → Vlt) (s : State) : (modVlt f s).pd = s.pd := rfl
@[simp] theorem modVlt_pins (f : Vlt → Vlt) (s : State) : (modVlt f s).pins = s.pins := rfl
@[simp] theorem modVlt_thm (f : Vlt → Vlt) (s : State) : (modVlt f s).thm = s.thm := rfl
@[simp] theorem modVlt_pwr (f : Vlt → Vlt) (s : State) : (modVlt f s).pwr = s.pwr := rfl
@[simp] theorem modVlt_buf (f : Vlt → Vlt) (s : State) : (modVlt f s).buf = s.buf := rfl
@[simp] theorem modVlt_clk (f : Vlt → Vlt) (s : State) : (modVlt f s).clk = s.clk := rfl
@[simp] theorem modVlt_cal (f : Vlt → Vlt) (s : State) : (modVlt f s).cal = s.cal := rfl
@[simp] theorem modVlt_asy (f : Vlt → Vlt) (s : State) : (modVlt f s).asy = s.asy := rfl
@[simp] theorem modVlt_pat (f : Vlt → Vlt) (s : State) : (modVlt f s).pat = s.pat := rfl
@[simp] theorem modVlt_bul (f : Vlt → Vlt) (s : State) : (modVlt f s).bul = s.bul := rfl
@[simp] theorem modVlt_inv (f : Vlt → Vlt) (s : State) : (modVlt f s).inv = s.inv := rfl
@[simp] theorem modVlt_qch (f : Vlt → Vlt) (s : State) : (modVlt f s).qch = s.qch := rfl
@[simp] theorem modVlt_spn (f : Vlt → Vlt) (s : State) : (modVlt f s).spn = s.spn := rfl
@[simp] theorem modVlt_srv (f : Vlt → Vlt) (s : State) : (modVlt f s).srv = s.srv := rfl
@[simp] theorem modVlt_act (f : Vlt → Vlt) (s : State) : (modVlt f s).act = s.act := rfl
@[simp] theorem modVlt_shock (f : Vlt → Vlt) (s : State) : (modVlt f s).shock = s.shock := rfl
@[simp] theorem modVlt_wch (f : Vlt → Vlt) (s : State) : (modVlt f s).wch = s.wch := rfl
@[simp] theorem modVlt_rch (f : Vlt → Vlt) (s : State) : (modVlt f s).rch = s.rch := rfl
@[simp] theorem modVlt_deep (f : Vlt → Vlt) (s : State) : (modVlt f s).deep = s.deep := rfl
@[simp] theorem modVlt_mem (f : Vlt → Vlt) (s : State) : (modVlt f s).mem = s.mem := rfl
@[simp] theorem modVlt_xlt (f : Vlt → Vlt) (s : State) : (modVlt f s).xlt = s.xlt := rfl
@[simp] theorem modVlt_xl1 (f : Vlt → Vlt) (s : State) : (modVlt f s).xl1 = s.xl1 := rfl
@[simp] theorem modVlt_cmp (f : Vlt → Vlt) (s : State) : (modVlt f s).cmp = s.cmp := rfl
@[simp] theorem modVlt_eng (f : Vlt → Vlt) (s : State) : (modVlt f s).eng = s.eng := rfl
@[simp] theorem modVlt_hif (f : Vlt → Vlt) (s : State) : (modVlt f s).hif = s.hif := rfl
@[simp] theorem modVlt_sld (f : Vlt → Vlt) (s : State) : (modVlt f s).sld = s.sld := rfl
@[simp] theorem modVlt_sec (f : Vlt → Vlt) (s : State) : (modVlt f s).sec = s.sec := rfl
@[simp] theorem modVlt_own (f : Vlt → Vlt) (s : State) : (modVlt f s).vlt = f s.vlt := rfl
@[simp] theorem modVlt_raw (f : Vlt → Vlt) (s : State) (g : Fld) : (modVlt f s).raw g = s.raw g := rfl

/-! ### modClk -/

@[simp] theorem modClk_pending (f : Clk → Clk) (s : State) : (modClk f s).pending = s.pending := rfl
@[simp] theorem modClk_regs (f : Clk → Clk) (s : State) : (modClk f s).regs = s.regs := rfl
@[simp] theorem modClk_dram (f : Clk → Clk) (s : State) : (modClk f s).dram = s.dram := rfl
@[simp] theorem modClk_poison (f : Clk → Clk) (s : State) : (modClk f s).poison = s.poison := rfl
@[simp] theorem modClk_free (f : Clk → Clk) (s : State) : (modClk f s).free = s.free := rfl
@[simp] theorem modClk_out (f : Clk → Clk) (s : State) : (modClk f s).out = s.out := rfl
@[simp] theorem modClk_die (f : Clk → Clk) (s : State) : (modClk f s).die = s.die := rfl
@[simp] theorem modClk_pd (f : Clk → Clk) (s : State) : (modClk f s).pd = s.pd := rfl
@[simp] theorem modClk_pins (f : Clk → Clk) (s : State) : (modClk f s).pins = s.pins := rfl
@[simp] theorem modClk_thm (f : Clk → Clk) (s : State) : (modClk f s).thm = s.thm := rfl
@[simp] theorem modClk_pwr (f : Clk → Clk) (s : State) : (modClk f s).pwr = s.pwr := rfl
@[simp] theorem modClk_buf (f : Clk → Clk) (s : State) : (modClk f s).buf = s.buf := rfl
@[simp] theorem modClk_cal (f : Clk → Clk) (s : State) : (modClk f s).cal = s.cal := rfl
@[simp] theorem modClk_asy (f : Clk → Clk) (s : State) : (modClk f s).asy = s.asy := rfl
@[simp] theorem modClk_pat (f : Clk → Clk) (s : State) : (modClk f s).pat = s.pat := rfl
@[simp] theorem modClk_bul (f : Clk → Clk) (s : State) : (modClk f s).bul = s.bul := rfl
@[simp] theorem modClk_inv (f : Clk → Clk) (s : State) : (modClk f s).inv = s.inv := rfl
@[simp] theorem modClk_qch (f : Clk → Clk) (s : State) : (modClk f s).qch = s.qch := rfl
@[simp] theorem modClk_spn (f : Clk → Clk) (s : State) : (modClk f s).spn = s.spn := rfl
@[simp] theorem modClk_srv (f : Clk → Clk) (s : State) : (modClk f s).srv = s.srv := rfl
@[simp] theorem modClk_act (f : Clk → Clk) (s : State) : (modClk f s).act = s.act := rfl
@[simp] theorem modClk_shock (f : Clk → Clk) (s : State) : (modClk f s).shock = s.shock := rfl
@[simp] theorem modClk_wch (f : Clk → Clk) (s : State) : (modClk f s).wch = s.wch := rfl
@[simp] theorem modClk_rch (f : Clk → Clk) (s : State) : (modClk f s).rch = s.rch := rfl
@[simp] theorem modClk_deep (f : Clk → Clk) (s : State) : (modClk f s).deep = s.deep := rfl
@[simp] theorem modClk_mem (f : Clk → Clk) (s : State) : (modClk f s).mem = s.mem := rfl
@[simp] theorem modClk_vlt (f : Clk → Clk) (s : State) : (modClk f s).vlt = s.vlt := rfl
@[simp] theorem modClk_xlt (f : Clk → Clk) (s : State) : (modClk f s).xlt = s.xlt := rfl
@[simp] theorem modClk_xl1 (f : Clk → Clk) (s : State) : (modClk f s).xl1 = s.xl1 := rfl
@[simp] theorem modClk_cmp (f : Clk → Clk) (s : State) : (modClk f s).cmp = s.cmp := rfl
@[simp] theorem modClk_eng (f : Clk → Clk) (s : State) : (modClk f s).eng = s.eng := rfl
@[simp] theorem modClk_hif (f : Clk → Clk) (s : State) : (modClk f s).hif = s.hif := rfl
@[simp] theorem modClk_sld (f : Clk → Clk) (s : State) : (modClk f s).sld = s.sld := rfl
@[simp] theorem modClk_sec (f : Clk → Clk) (s : State) : (modClk f s).sec = s.sec := rfl
@[simp] theorem modClk_own (f : Clk → Clk) (s : State) : (modClk f s).clk = f s.clk := rfl
@[simp] theorem modClk_raw (f : Clk → Clk) (s : State) (g : Fld) : (modClk f s).raw g = s.raw g := rfl

/-! ### modHif -/

@[simp] theorem modHif_pending (f : Hif → Hif) (s : State) : (modHif f s).pending = s.pending := rfl
@[simp] theorem modHif_regs (f : Hif → Hif) (s : State) : (modHif f s).regs = s.regs := rfl
@[simp] theorem modHif_dram (f : Hif → Hif) (s : State) : (modHif f s).dram = s.dram := rfl
@[simp] theorem modHif_poison (f : Hif → Hif) (s : State) : (modHif f s).poison = s.poison := rfl
@[simp] theorem modHif_free (f : Hif → Hif) (s : State) : (modHif f s).free = s.free := rfl
@[simp] theorem modHif_out (f : Hif → Hif) (s : State) : (modHif f s).out = s.out := rfl
@[simp] theorem modHif_die (f : Hif → Hif) (s : State) : (modHif f s).die = s.die := rfl
@[simp] theorem modHif_pd (f : Hif → Hif) (s : State) : (modHif f s).pd = s.pd := rfl
@[simp] theorem modHif_pins (f : Hif → Hif) (s : State) : (modHif f s).pins = s.pins := rfl
@[simp] theorem modHif_thm (f : Hif → Hif) (s : State) : (modHif f s).thm = s.thm := rfl
@[simp] theorem modHif_pwr (f : Hif → Hif) (s : State) : (modHif f s).pwr = s.pwr := rfl
@[simp] theorem modHif_buf (f : Hif → Hif) (s : State) : (modHif f s).buf = s.buf := rfl
@[simp] theorem modHif_clk (f : Hif → Hif) (s : State) : (modHif f s).clk = s.clk := rfl
@[simp] theorem modHif_cal (f : Hif → Hif) (s : State) : (modHif f s).cal = s.cal := rfl
@[simp] theorem modHif_asy (f : Hif → Hif) (s : State) : (modHif f s).asy = s.asy := rfl
@[simp] theorem modHif_pat (f : Hif → Hif) (s : State) : (modHif f s).pat = s.pat := rfl
@[simp] theorem modHif_bul (f : Hif → Hif) (s : State) : (modHif f s).bul = s.bul := rfl
@[simp] theorem modHif_inv (f : Hif → Hif) (s : State) : (modHif f s).inv = s.inv := rfl
@[simp] theorem modHif_qch (f : Hif → Hif) (s : State) : (modHif f s).qch = s.qch := rfl
@[simp] theorem modHif_spn (f : Hif → Hif) (s : State) : (modHif f s).spn = s.spn := rfl
@[simp] theorem modHif_srv (f : Hif → Hif) (s : State) : (modHif f s).srv = s.srv := rfl
@[simp] theorem modHif_act (f : Hif → Hif) (s : State) : (modHif f s).act = s.act := rfl
@[simp] theorem modHif_shock (f : Hif → Hif) (s : State) : (modHif f s).shock = s.shock := rfl
@[simp] theorem modHif_wch (f : Hif → Hif) (s : State) : (modHif f s).wch = s.wch := rfl
@[simp] theorem modHif_rch (f : Hif → Hif) (s : State) : (modHif f s).rch = s.rch := rfl
@[simp] theorem modHif_deep (f : Hif → Hif) (s : State) : (modHif f s).deep = s.deep := rfl
@[simp] theorem modHif_mem (f : Hif → Hif) (s : State) : (modHif f s).mem = s.mem := rfl
@[simp] theorem modHif_vlt (f : Hif → Hif) (s : State) : (modHif f s).vlt = s.vlt := rfl
@[simp] theorem modHif_xlt (f : Hif → Hif) (s : State) : (modHif f s).xlt = s.xlt := rfl
@[simp] theorem modHif_xl1 (f : Hif → Hif) (s : State) : (modHif f s).xl1 = s.xl1 := rfl
@[simp] theorem modHif_cmp (f : Hif → Hif) (s : State) : (modHif f s).cmp = s.cmp := rfl
@[simp] theorem modHif_eng (f : Hif → Hif) (s : State) : (modHif f s).eng = s.eng := rfl
@[simp] theorem modHif_sld (f : Hif → Hif) (s : State) : (modHif f s).sld = s.sld := rfl
@[simp] theorem modHif_sec (f : Hif → Hif) (s : State) : (modHif f s).sec = s.sec := rfl
@[simp] theorem modHif_own (f : Hif → Hif) (s : State) : (modHif f s).hif = f s.hif := rfl
@[simp] theorem modHif_raw (f : Hif → Hif) (s : State) (g : Fld) : (modHif f s).raw g = s.raw g := rfl

/-! ### modSe -/

@[simp] theorem modSe_pending (n : Fin 18) (f : Engine → Engine) (s : State) : (modSe n f s).pending = s.pending := rfl
@[simp] theorem modSe_regs (n : Fin 18) (f : Engine → Engine) (s : State) : (modSe n f s).regs = s.regs := rfl
@[simp] theorem modSe_dram (n : Fin 18) (f : Engine → Engine) (s : State) : (modSe n f s).dram = s.dram := rfl
@[simp] theorem modSe_poison (n : Fin 18) (f : Engine → Engine) (s : State) : (modSe n f s).poison = s.poison := rfl
@[simp] theorem modSe_free (n : Fin 18) (f : Engine → Engine) (s : State) : (modSe n f s).free = s.free := rfl
@[simp] theorem modSe_out (n : Fin 18) (f : Engine → Engine) (s : State) : (modSe n f s).out = s.out := rfl
@[simp] theorem modSe_die (n : Fin 18) (f : Engine → Engine) (s : State) : (modSe n f s).die = s.die := rfl
@[simp] theorem modSe_pd (n : Fin 18) (f : Engine → Engine) (s : State) : (modSe n f s).pd = s.pd := rfl
@[simp] theorem modSe_pins (n : Fin 18) (f : Engine → Engine) (s : State) : (modSe n f s).pins = s.pins := rfl
@[simp] theorem modSe_thm (n : Fin 18) (f : Engine → Engine) (s : State) : (modSe n f s).thm = s.thm := rfl
@[simp] theorem modSe_pwr (n : Fin 18) (f : Engine → Engine) (s : State) : (modSe n f s).pwr = s.pwr := rfl
@[simp] theorem modSe_buf (n : Fin 18) (f : Engine → Engine) (s : State) : (modSe n f s).buf = s.buf := rfl
@[simp] theorem modSe_clk (n : Fin 18) (f : Engine → Engine) (s : State) : (modSe n f s).clk = s.clk := rfl
@[simp] theorem modSe_cal (n : Fin 18) (f : Engine → Engine) (s : State) : (modSe n f s).cal = s.cal := rfl
@[simp] theorem modSe_asy (n : Fin 18) (f : Engine → Engine) (s : State) : (modSe n f s).asy = s.asy := rfl
@[simp] theorem modSe_pat (n : Fin 18) (f : Engine → Engine) (s : State) : (modSe n f s).pat = s.pat := rfl
@[simp] theorem modSe_bul (n : Fin 18) (f : Engine → Engine) (s : State) : (modSe n f s).bul = s.bul := rfl
@[simp] theorem modSe_inv (n : Fin 18) (f : Engine → Engine) (s : State) : (modSe n f s).inv = s.inv := rfl
@[simp] theorem modSe_qch (n : Fin 18) (f : Engine → Engine) (s : State) : (modSe n f s).qch = s.qch := rfl
@[simp] theorem modSe_spn (n : Fin 18) (f : Engine → Engine) (s : State) : (modSe n f s).spn = s.spn := rfl
@[simp] theorem modSe_srv (n : Fin 18) (f : Engine → Engine) (s : State) : (modSe n f s).srv = s.srv := rfl
@[simp] theorem modSe_act (n : Fin 18) (f : Engine → Engine) (s : State) : (modSe n f s).act = s.act := rfl
@[simp] theorem modSe_shock (n : Fin 18) (f : Engine → Engine) (s : State) : (modSe n f s).shock = s.shock := rfl
@[simp] theorem modSe_wch (n : Fin 18) (f : Engine → Engine) (s : State) : (modSe n f s).wch = s.wch := rfl
@[simp] theorem modSe_rch (n : Fin 18) (f : Engine → Engine) (s : State) : (modSe n f s).rch = s.rch := rfl
@[simp] theorem modSe_deep (n : Fin 18) (f : Engine → Engine) (s : State) : (modSe n f s).deep = s.deep := rfl
@[simp] theorem modSe_mem (n : Fin 18) (f : Engine → Engine) (s : State) : (modSe n f s).mem = s.mem := rfl
@[simp] theorem modSe_vlt (n : Fin 18) (f : Engine → Engine) (s : State) : (modSe n f s).vlt = s.vlt := rfl
@[simp] theorem modSe_xlt (n : Fin 18) (f : Engine → Engine) (s : State) : (modSe n f s).xlt = s.xlt := rfl
@[simp] theorem modSe_xl1 (n : Fin 18) (f : Engine → Engine) (s : State) : (modSe n f s).xl1 = s.xl1 := rfl
@[simp] theorem modSe_cmp (n : Fin 18) (f : Engine → Engine) (s : State) : (modSe n f s).cmp = s.cmp := rfl
@[simp] theorem modSe_hif (n : Fin 18) (f : Engine → Engine) (s : State) : (modSe n f s).hif = s.hif := rfl
@[simp] theorem modSe_sld (n : Fin 18) (f : Engine → Engine) (s : State) : (modSe n f s).sld = s.sld := rfl
@[simp] theorem modSe_sec (n : Fin 18) (f : Engine → Engine) (s : State) : (modSe n f s).sec = s.sec := rfl
@[simp] theorem modSe_raw (n : Fin 18) (f : Engine → Engine) (s : State) (g : Fld) : (modSe n f s).raw g = s.raw g := rfl

/-! ### modPwr -/

@[simp] theorem modPwr_pending (f : Pwr → Pwr) (s : State) : (modPwr f s).pending = s.pending := rfl
@[simp] theorem modPwr_regs (f : Pwr → Pwr) (s : State) : (modPwr f s).regs = s.regs := rfl
@[simp] theorem modPwr_dram (f : Pwr → Pwr) (s : State) : (modPwr f s).dram = s.dram := rfl
@[simp] theorem modPwr_poison (f : Pwr → Pwr) (s : State) : (modPwr f s).poison = s.poison := rfl
@[simp] theorem modPwr_free (f : Pwr → Pwr) (s : State) : (modPwr f s).free = s.free := rfl
@[simp] theorem modPwr_out (f : Pwr → Pwr) (s : State) : (modPwr f s).out = s.out := rfl
@[simp] theorem modPwr_die (f : Pwr → Pwr) (s : State) : (modPwr f s).die = s.die := rfl
@[simp] theorem modPwr_pd (f : Pwr → Pwr) (s : State) : (modPwr f s).pd = s.pd := rfl
@[simp] theorem modPwr_pins (f : Pwr → Pwr) (s : State) : (modPwr f s).pins = s.pins := rfl
@[simp] theorem modPwr_thm (f : Pwr → Pwr) (s : State) : (modPwr f s).thm = s.thm := rfl
@[simp] theorem modPwr_buf (f : Pwr → Pwr) (s : State) : (modPwr f s).buf = s.buf := rfl
@[simp] theorem modPwr_clk (f : Pwr → Pwr) (s : State) : (modPwr f s).clk = s.clk := rfl
@[simp] theorem modPwr_cal (f : Pwr → Pwr) (s : State) : (modPwr f s).cal = s.cal := rfl
@[simp] theorem modPwr_asy (f : Pwr → Pwr) (s : State) : (modPwr f s).asy = s.asy := rfl
@[simp] theorem modPwr_pat (f : Pwr → Pwr) (s : State) : (modPwr f s).pat = s.pat := rfl
@[simp] theorem modPwr_bul (f : Pwr → Pwr) (s : State) : (modPwr f s).bul = s.bul := rfl
@[simp] theorem modPwr_inv (f : Pwr → Pwr) (s : State) : (modPwr f s).inv = s.inv := rfl
@[simp] theorem modPwr_qch (f : Pwr → Pwr) (s : State) : (modPwr f s).qch = s.qch := rfl
@[simp] theorem modPwr_spn (f : Pwr → Pwr) (s : State) : (modPwr f s).spn = s.spn := rfl
@[simp] theorem modPwr_srv (f : Pwr → Pwr) (s : State) : (modPwr f s).srv = s.srv := rfl
@[simp] theorem modPwr_act (f : Pwr → Pwr) (s : State) : (modPwr f s).act = s.act := rfl
@[simp] theorem modPwr_shock (f : Pwr → Pwr) (s : State) : (modPwr f s).shock = s.shock := rfl
@[simp] theorem modPwr_wch (f : Pwr → Pwr) (s : State) : (modPwr f s).wch = s.wch := rfl
@[simp] theorem modPwr_rch (f : Pwr → Pwr) (s : State) : (modPwr f s).rch = s.rch := rfl
@[simp] theorem modPwr_deep (f : Pwr → Pwr) (s : State) : (modPwr f s).deep = s.deep := rfl
@[simp] theorem modPwr_mem (f : Pwr → Pwr) (s : State) : (modPwr f s).mem = s.mem := rfl
@[simp] theorem modPwr_vlt (f : Pwr → Pwr) (s : State) : (modPwr f s).vlt = s.vlt := rfl
@[simp] theorem modPwr_xlt (f : Pwr → Pwr) (s : State) : (modPwr f s).xlt = s.xlt := rfl
@[simp] theorem modPwr_xl1 (f : Pwr → Pwr) (s : State) : (modPwr f s).xl1 = s.xl1 := rfl
@[simp] theorem modPwr_cmp (f : Pwr → Pwr) (s : State) : (modPwr f s).cmp = s.cmp := rfl
@[simp] theorem modPwr_eng (f : Pwr → Pwr) (s : State) : (modPwr f s).eng = s.eng := rfl
@[simp] theorem modPwr_hif (f : Pwr → Pwr) (s : State) : (modPwr f s).hif = s.hif := rfl
@[simp] theorem modPwr_sld (f : Pwr → Pwr) (s : State) : (modPwr f s).sld = s.sld := rfl
@[simp] theorem modPwr_sec (f : Pwr → Pwr) (s : State) : (modPwr f s).sec = s.sec := rfl
@[simp] theorem modPwr_own (f : Pwr → Pwr) (s : State) : (modPwr f s).pwr = f s.pwr := rfl
@[simp] theorem modPwr_raw (f : Pwr → Pwr) (s : State) (g : Fld) : (modPwr f s).raw g = s.raw g := rfl

/-! ### modSrv -/

@[simp] theorem modSrv_pending (a : Fin 2) (f : Srv → Srv) (s : State) : (modSrv a f s).pending = s.pending := rfl
@[simp] theorem modSrv_regs (a : Fin 2) (f : Srv → Srv) (s : State) : (modSrv a f s).regs = s.regs := rfl
@[simp] theorem modSrv_dram (a : Fin 2) (f : Srv → Srv) (s : State) : (modSrv a f s).dram = s.dram := rfl
@[simp] theorem modSrv_poison (a : Fin 2) (f : Srv → Srv) (s : State) : (modSrv a f s).poison = s.poison := rfl
@[simp] theorem modSrv_free (a : Fin 2) (f : Srv → Srv) (s : State) : (modSrv a f s).free = s.free := rfl
@[simp] theorem modSrv_out (a : Fin 2) (f : Srv → Srv) (s : State) : (modSrv a f s).out = s.out := rfl
@[simp] theorem modSrv_die (a : Fin 2) (f : Srv → Srv) (s : State) : (modSrv a f s).die = s.die := rfl
@[simp] theorem modSrv_pd (a : Fin 2) (f : Srv → Srv) (s : State) : (modSrv a f s).pd = s.pd := rfl
@[simp] theorem modSrv_pins (a : Fin 2) (f : Srv → Srv) (s : State) : (modSrv a f s).pins = s.pins := rfl
@[simp] theorem modSrv_thm (a : Fin 2) (f : Srv → Srv) (s : State) : (modSrv a f s).thm = s.thm := rfl
@[simp] theorem modSrv_pwr (a : Fin 2) (f : Srv → Srv) (s : State) : (modSrv a f s).pwr = s.pwr := rfl
@[simp] theorem modSrv_buf (a : Fin 2) (f : Srv → Srv) (s : State) : (modSrv a f s).buf = s.buf := rfl
@[simp] theorem modSrv_clk (a : Fin 2) (f : Srv → Srv) (s : State) : (modSrv a f s).clk = s.clk := rfl
@[simp] theorem modSrv_cal (a : Fin 2) (f : Srv → Srv) (s : State) : (modSrv a f s).cal = s.cal := rfl
@[simp] theorem modSrv_asy (a : Fin 2) (f : Srv → Srv) (s : State) : (modSrv a f s).asy = s.asy := rfl
@[simp] theorem modSrv_pat (a : Fin 2) (f : Srv → Srv) (s : State) : (modSrv a f s).pat = s.pat := rfl
@[simp] theorem modSrv_bul (a : Fin 2) (f : Srv → Srv) (s : State) : (modSrv a f s).bul = s.bul := rfl
@[simp] theorem modSrv_inv (a : Fin 2) (f : Srv → Srv) (s : State) : (modSrv a f s).inv = s.inv := rfl
@[simp] theorem modSrv_qch (a : Fin 2) (f : Srv → Srv) (s : State) : (modSrv a f s).qch = s.qch := rfl
@[simp] theorem modSrv_spn (a : Fin 2) (f : Srv → Srv) (s : State) : (modSrv a f s).spn = s.spn := rfl
@[simp] theorem modSrv_act (a : Fin 2) (f : Srv → Srv) (s : State) : (modSrv a f s).act = s.act := rfl
@[simp] theorem modSrv_shock (a : Fin 2) (f : Srv → Srv) (s : State) : (modSrv a f s).shock = s.shock := rfl
@[simp] theorem modSrv_wch (a : Fin 2) (f : Srv → Srv) (s : State) : (modSrv a f s).wch = s.wch := rfl
@[simp] theorem modSrv_rch (a : Fin 2) (f : Srv → Srv) (s : State) : (modSrv a f s).rch = s.rch := rfl
@[simp] theorem modSrv_deep (a : Fin 2) (f : Srv → Srv) (s : State) : (modSrv a f s).deep = s.deep := rfl
@[simp] theorem modSrv_mem (a : Fin 2) (f : Srv → Srv) (s : State) : (modSrv a f s).mem = s.mem := rfl
@[simp] theorem modSrv_vlt (a : Fin 2) (f : Srv → Srv) (s : State) : (modSrv a f s).vlt = s.vlt := rfl
@[simp] theorem modSrv_xlt (a : Fin 2) (f : Srv → Srv) (s : State) : (modSrv a f s).xlt = s.xlt := rfl
@[simp] theorem modSrv_xl1 (a : Fin 2) (f : Srv → Srv) (s : State) : (modSrv a f s).xl1 = s.xl1 := rfl
@[simp] theorem modSrv_cmp (a : Fin 2) (f : Srv → Srv) (s : State) : (modSrv a f s).cmp = s.cmp := rfl
@[simp] theorem modSrv_eng (a : Fin 2) (f : Srv → Srv) (s : State) : (modSrv a f s).eng = s.eng := rfl
@[simp] theorem modSrv_hif (a : Fin 2) (f : Srv → Srv) (s : State) : (modSrv a f s).hif = s.hif := rfl
@[simp] theorem modSrv_sld (a : Fin 2) (f : Srv → Srv) (s : State) : (modSrv a f s).sld = s.sld := rfl
@[simp] theorem modSrv_sec (a : Fin 2) (f : Srv → Srv) (s : State) : (modSrv a f s).sec = s.sec := rfl
@[simp] theorem modSrv_own (a : Fin 2) (f : Srv → Srv) (s : State) : (modSrv a f s).srv = vmod s.srv a f := rfl
@[simp] theorem modSrv_raw (a : Fin 2) (f : Srv → Srv) (s : State) (g : Fld) : (modSrv a f s).raw g = s.raw g := rfl

/-! ### modRch -/

@[simp] theorem modRch_pending (ch : Fin 4) (f : RChan → RChan) (s : State) : (modRch ch f s).pending = s.pending := rfl
@[simp] theorem modRch_regs (ch : Fin 4) (f : RChan → RChan) (s : State) : (modRch ch f s).regs = s.regs := rfl
@[simp] theorem modRch_dram (ch : Fin 4) (f : RChan → RChan) (s : State) : (modRch ch f s).dram = s.dram := rfl
@[simp] theorem modRch_poison (ch : Fin 4) (f : RChan → RChan) (s : State) : (modRch ch f s).poison = s.poison := rfl
@[simp] theorem modRch_free (ch : Fin 4) (f : RChan → RChan) (s : State) : (modRch ch f s).free = s.free := rfl
@[simp] theorem modRch_out (ch : Fin 4) (f : RChan → RChan) (s : State) : (modRch ch f s).out = s.out := rfl
@[simp] theorem modRch_die (ch : Fin 4) (f : RChan → RChan) (s : State) : (modRch ch f s).die = s.die := rfl
@[simp] theorem modRch_pd (ch : Fin 4) (f : RChan → RChan) (s : State) : (modRch ch f s).pd = s.pd := rfl
@[simp] theorem modRch_pins (ch : Fin 4) (f : RChan → RChan) (s : State) : (modRch ch f s).pins = s.pins := rfl
@[simp] theorem modRch_thm (ch : Fin 4) (f : RChan → RChan) (s : State) : (modRch ch f s).thm = s.thm := rfl
@[simp] theorem modRch_pwr (ch : Fin 4) (f : RChan → RChan) (s : State) : (modRch ch f s).pwr = s.pwr := rfl
@[simp] theorem modRch_buf (ch : Fin 4) (f : RChan → RChan) (s : State) : (modRch ch f s).buf = s.buf := rfl
@[simp] theorem modRch_clk (ch : Fin 4) (f : RChan → RChan) (s : State) : (modRch ch f s).clk = s.clk := rfl
@[simp] theorem modRch_cal (ch : Fin 4) (f : RChan → RChan) (s : State) : (modRch ch f s).cal = s.cal := rfl
@[simp] theorem modRch_asy (ch : Fin 4) (f : RChan → RChan) (s : State) : (modRch ch f s).asy = s.asy := rfl
@[simp] theorem modRch_pat (ch : Fin 4) (f : RChan → RChan) (s : State) : (modRch ch f s).pat = s.pat := rfl
@[simp] theorem modRch_bul (ch : Fin 4) (f : RChan → RChan) (s : State) : (modRch ch f s).bul = s.bul := rfl
@[simp] theorem modRch_inv (ch : Fin 4) (f : RChan → RChan) (s : State) : (modRch ch f s).inv = s.inv := rfl
@[simp] theorem modRch_qch (ch : Fin 4) (f : RChan → RChan) (s : State) : (modRch ch f s).qch = s.qch := rfl
@[simp] theorem modRch_spn (ch : Fin 4) (f : RChan → RChan) (s : State) : (modRch ch f s).spn = s.spn := rfl
@[simp] theorem modRch_srv (ch : Fin 4) (f : RChan → RChan) (s : State) : (modRch ch f s).srv = s.srv := rfl
@[simp] theorem modRch_act (ch : Fin 4) (f : RChan → RChan) (s : State) : (modRch ch f s).act = s.act := rfl
@[simp] theorem modRch_shock (ch : Fin 4) (f : RChan → RChan) (s : State) : (modRch ch f s).shock = s.shock := rfl
@[simp] theorem modRch_wch (ch : Fin 4) (f : RChan → RChan) (s : State) : (modRch ch f s).wch = s.wch := rfl
@[simp] theorem modRch_deep (ch : Fin 4) (f : RChan → RChan) (s : State) : (modRch ch f s).deep = s.deep := rfl
@[simp] theorem modRch_mem (ch : Fin 4) (f : RChan → RChan) (s : State) : (modRch ch f s).mem = s.mem := rfl
@[simp] theorem modRch_vlt (ch : Fin 4) (f : RChan → RChan) (s : State) : (modRch ch f s).vlt = s.vlt := rfl
@[simp] theorem modRch_xlt (ch : Fin 4) (f : RChan → RChan) (s : State) : (modRch ch f s).xlt = s.xlt := rfl
@[simp] theorem modRch_xl1 (ch : Fin 4) (f : RChan → RChan) (s : State) : (modRch ch f s).xl1 = s.xl1 := rfl
@[simp] theorem modRch_cmp (ch : Fin 4) (f : RChan → RChan) (s : State) : (modRch ch f s).cmp = s.cmp := rfl
@[simp] theorem modRch_eng (ch : Fin 4) (f : RChan → RChan) (s : State) : (modRch ch f s).eng = s.eng := rfl
@[simp] theorem modRch_hif (ch : Fin 4) (f : RChan → RChan) (s : State) : (modRch ch f s).hif = s.hif := rfl
@[simp] theorem modRch_sld (ch : Fin 4) (f : RChan → RChan) (s : State) : (modRch ch f s).sld = s.sld := rfl
@[simp] theorem modRch_sec (ch : Fin 4) (f : RChan → RChan) (s : State) : (modRch ch f s).sec = s.sec := rfl
@[simp] theorem modRch_own (ch : Fin 4) (f : RChan → RChan) (s : State) : (modRch ch f s).rch = vmod s.rch ch f := rfl
@[simp] theorem modRch_raw (ch : Fin 4) (f : RChan → RChan) (s : State) (g : Fld) : (modRch ch f s).raw g = s.raw g := rfl

/-! ### modDeep -/

@[simp] theorem modDeep_pending (f : Deep → Deep) (s : State) : (modDeep f s).pending = s.pending := rfl
@[simp] theorem modDeep_regs (f : Deep → Deep) (s : State) : (modDeep f s).regs = s.regs := rfl
@[simp] theorem modDeep_dram (f : Deep → Deep) (s : State) : (modDeep f s).dram = s.dram := rfl
@[simp] theorem modDeep_poison (f : Deep → Deep) (s : State) : (modDeep f s).poison = s.poison := rfl
@[simp] theorem modDeep_free (f : Deep → Deep) (s : State) : (modDeep f s).free = s.free := rfl
@[simp] theorem modDeep_out (f : Deep → Deep) (s : State) : (modDeep f s).out = s.out := rfl
@[simp] theorem modDeep_die (f : Deep → Deep) (s : State) : (modDeep f s).die = s.die := rfl
@[simp] theorem modDeep_pd (f : Deep → Deep) (s : State) : (modDeep f s).pd = s.pd := rfl
@[simp] theorem modDeep_pins (f : Deep → Deep) (s : State) : (modDeep f s).pins = s.pins := rfl
@[simp] theorem modDeep_thm (f : Deep → Deep) (s : State) : (modDeep f s).thm = s.thm := rfl
@[simp] theorem modDeep_pwr (f : Deep → Deep) (s : State) : (modDeep f s).pwr = s.pwr := rfl
@[simp] theorem modDeep_buf (f : Deep → Deep) (s : State) : (modDeep f s).buf = s.buf := rfl
@[simp] theorem modDeep_clk (f : Deep → Deep) (s : State) : (modDeep f s).clk = s.clk := rfl
@[simp] theorem modDeep_cal (f : Deep → Deep) (s : State) : (modDeep f s).cal = s.cal := rfl
@[simp] theorem modDeep_asy (f : Deep → Deep) (s : State) : (modDeep f s).asy = s.asy := rfl
@[simp] theorem modDeep_pat (f : Deep → Deep) (s : State) : (modDeep f s).pat = s.pat := rfl
@[simp] theorem modDeep_bul (f : Deep → Deep) (s : State) : (modDeep f s).bul = s.bul := rfl
@[simp] theorem modDeep_inv (f : Deep → Deep) (s : State) : (modDeep f s).inv = s.inv := rfl
@[simp] theorem modDeep_qch (f : Deep → Deep) (s : State) : (modDeep f s).qch = s.qch := rfl
@[simp] theorem modDeep_spn (f : Deep → Deep) (s : State) : (modDeep f s).spn = s.spn := rfl
@[simp] theorem modDeep_srv (f : Deep → Deep) (s : State) : (modDeep f s).srv = s.srv := rfl
@[simp] theorem modDeep_act (f : Deep → Deep) (s : State) : (modDeep f s).act = s.act := rfl
@[simp] theorem modDeep_shock (f : Deep → Deep) (s : State) : (modDeep f s).shock = s.shock := rfl
@[simp] theorem modDeep_wch (f : Deep → Deep) (s : State) : (modDeep f s).wch = s.wch := rfl
@[simp] theorem modDeep_rch (f : Deep → Deep) (s : State) : (modDeep f s).rch = s.rch := rfl
@[simp] theorem modDeep_mem (f : Deep → Deep) (s : State) : (modDeep f s).mem = s.mem := rfl
@[simp] theorem modDeep_vlt (f : Deep → Deep) (s : State) : (modDeep f s).vlt = s.vlt := rfl
@[simp] theorem modDeep_xlt (f : Deep → Deep) (s : State) : (modDeep f s).xlt = s.xlt := rfl
@[simp] theorem modDeep_xl1 (f : Deep → Deep) (s : State) : (modDeep f s).xl1 = s.xl1 := rfl
@[simp] theorem modDeep_cmp (f : Deep → Deep) (s : State) : (modDeep f s).cmp = s.cmp := rfl
@[simp] theorem modDeep_eng (f : Deep → Deep) (s : State) : (modDeep f s).eng = s.eng := rfl
@[simp] theorem modDeep_hif (f : Deep → Deep) (s : State) : (modDeep f s).hif = s.hif := rfl
@[simp] theorem modDeep_sld (f : Deep → Deep) (s : State) : (modDeep f s).sld = s.sld := rfl
@[simp] theorem modDeep_sec (f : Deep → Deep) (s : State) : (modDeep f s).sec = s.sec := rfl
@[simp] theorem modDeep_own (f : Deep → Deep) (s : State) : (modDeep f s).deep = f s.deep := rfl
@[simp] theorem modDeep_raw (f : Deep → Deep) (s : State) (g : Fld) : (modDeep f s).raw g = s.raw g := rfl

/-! ### modSec -/

@[simp] theorem modSec_pending (f : Sec → Sec) (s : State) : (modSec f s).pending = s.pending := rfl
@[simp] theorem modSec_regs (f : Sec → Sec) (s : State) : (modSec f s).regs = s.regs := rfl
@[simp] theorem modSec_dram (f : Sec → Sec) (s : State) : (modSec f s).dram = s.dram := rfl
@[simp] theorem modSec_poison (f : Sec → Sec) (s : State) : (modSec f s).poison = s.poison := rfl
@[simp] theorem modSec_free (f : Sec → Sec) (s : State) : (modSec f s).free = s.free := rfl
@[simp] theorem modSec_out (f : Sec → Sec) (s : State) : (modSec f s).out = s.out := rfl
@[simp] theorem modSec_die (f : Sec → Sec) (s : State) : (modSec f s).die = s.die := rfl
@[simp] theorem modSec_pd (f : Sec → Sec) (s : State) : (modSec f s).pd = s.pd := rfl
@[simp] theorem modSec_pins (f : Sec → Sec) (s : State) : (modSec f s).pins = s.pins := rfl
@[simp] theorem modSec_thm (f : Sec → Sec) (s : State) : (modSec f s).thm = s.thm := rfl
@[simp] theorem modSec_pwr (f : Sec → Sec) (s : State) : (modSec f s).pwr = s.pwr := rfl
@[simp] theorem modSec_buf (f : Sec → Sec) (s : State) : (modSec f s).buf = s.buf := rfl
@[simp] theorem modSec_clk (f : Sec → Sec) (s : State) : (modSec f s).clk = s.clk := rfl
@[simp] theorem modSec_cal (f : Sec → Sec) (s : State) : (modSec f s).cal = s.cal := rfl
@[simp] theorem modSec_asy (f : Sec → Sec) (s : State) : (modSec f s).asy = s.asy := rfl
@[simp] theorem modSec_pat (f : Sec → Sec) (s : State) : (modSec f s).pat = s.pat := rfl
@[simp] theorem modSec_bul (f : Sec → Sec) (s : State) : (modSec f s).bul = s.bul := rfl
@[simp] theorem modSec_inv (f : Sec → Sec) (s : State) : (modSec f s).inv = s.inv := rfl
@[simp] theorem modSec_qch (f : Sec → Sec) (s : State) : (modSec f s).qch = s.qch := rfl
@[simp] theorem modSec_spn (f : Sec → Sec) (s : State) : (modSec f s).spn = s.spn := rfl
@[simp] theorem modSec_srv (f : Sec → Sec) (s : State) : (modSec f s).srv = s.srv := rfl
@[simp] theorem modSec_act (f : Sec → Sec) (s : State) : (modSec f s).act = s.act := rfl
@[simp] theorem modSec_shock (f : Sec → Sec) (s : State) : (modSec f s).shock = s.shock := rfl
@[simp] theorem modSec_wch (f : Sec → Sec) (s : State) : (modSec f s).wch = s.wch := rfl
@[simp] theorem modSec_rch (f : Sec → Sec) (s : State) : (modSec f s).rch = s.rch := rfl
@[simp] theorem modSec_deep (f : Sec → Sec) (s : State) : (modSec f s).deep = s.deep := rfl
@[simp] theorem modSec_mem (f : Sec → Sec) (s : State) : (modSec f s).mem = s.mem := rfl
@[simp] theorem modSec_vlt (f : Sec → Sec) (s : State) : (modSec f s).vlt = s.vlt := rfl
@[simp] theorem modSec_xlt (f : Sec → Sec) (s : State) : (modSec f s).xlt = s.xlt := rfl
@[simp] theorem modSec_xl1 (f : Sec → Sec) (s : State) : (modSec f s).xl1 = s.xl1 := rfl
@[simp] theorem modSec_cmp (f : Sec → Sec) (s : State) : (modSec f s).cmp = s.cmp := rfl
@[simp] theorem modSec_eng (f : Sec → Sec) (s : State) : (modSec f s).eng = s.eng := rfl
@[simp] theorem modSec_hif (f : Sec → Sec) (s : State) : (modSec f s).hif = s.hif := rfl
@[simp] theorem modSec_sld (f : Sec → Sec) (s : State) : (modSec f s).sld = s.sld := rfl
@[simp] theorem modSec_own (f : Sec → Sec) (s : State) : (modSec f s).sec = f s.sec := rfl
@[simp] theorem modSec_raw (f : Sec → Sec) (s : State) (g : Fld) : (modSec f s).raw g = s.raw g := rfl

/-! ### modSld -/

@[simp] theorem modSld_pending (f : Sld → Sld) (s : State) : (modSld f s).pending = s.pending := rfl
@[simp] theorem modSld_regs (f : Sld → Sld) (s : State) : (modSld f s).regs = s.regs := rfl
@[simp] theorem modSld_dram (f : Sld → Sld) (s : State) : (modSld f s).dram = s.dram := rfl
@[simp] theorem modSld_poison (f : Sld → Sld) (s : State) : (modSld f s).poison = s.poison := rfl
@[simp] theorem modSld_free (f : Sld → Sld) (s : State) : (modSld f s).free = s.free := rfl
@[simp] theorem modSld_out (f : Sld → Sld) (s : State) : (modSld f s).out = s.out := rfl
@[simp] theorem modSld_die (f : Sld → Sld) (s : State) : (modSld f s).die = s.die := rfl
@[simp] theorem modSld_pd (f : Sld → Sld) (s : State) : (modSld f s).pd = s.pd := rfl
@[simp] theorem modSld_pins (f : Sld → Sld) (s : State) : (modSld f s).pins = s.pins := rfl
@[simp] theorem modSld_thm (f : Sld → Sld) (s : State) : (modSld f s).thm = s.thm := rfl
@[simp] theorem modSld_pwr (f : Sld → Sld) (s : State) : (modSld f s).pwr = s.pwr := rfl
@[simp] theorem modSld_buf (f : Sld → Sld) (s : State) : (modSld f s).buf = s.buf := rfl
@[simp] theorem modSld_clk (f : Sld → Sld) (s : State) : (modSld f s).clk = s.clk := rfl
@[simp] theorem modSld_cal (f : Sld → Sld) (s : State) : (modSld f s).cal = s.cal := rfl
@[simp] theorem modSld_asy (f : Sld → Sld) (s : State) : (modSld f s).asy = s.asy := rfl
@[simp] theorem modSld_pat (f : Sld → Sld) (s : State) : (modSld f s).pat = s.pat := rfl
@[simp] theorem modSld_bul (f : Sld → Sld) (s : State) : (modSld f s).bul = s.bul := rfl
@[simp] theorem modSld_inv (f : Sld → Sld) (s : State) : (modSld f s).inv = s.inv := rfl
@[simp] theorem modSld_qch (f : Sld → Sld) (s : State) : (modSld f s).qch = s.qch := rfl
@[simp] theorem modSld_spn (f : Sld → Sld) (s : State) : (modSld f s).spn = s.spn := rfl
@[simp] theorem modSld_srv (f : Sld → Sld) (s : State) : (modSld f s).srv = s.srv := rfl
@[simp] theorem modSld_act (f : Sld → Sld) (s : State) : (modSld f s).act = s.act := rfl
@[simp] theorem modSld_shock (f : Sld → Sld) (s : State) : (modSld f s).shock = s.shock := rfl
@[simp] theorem modSld_wch (f : Sld → Sld) (s : State) : (modSld f s).wch = s.wch := rfl
@[simp] theorem modSld_rch (f : Sld → Sld) (s : State) : (modSld f s).rch = s.rch := rfl
@[simp] theorem modSld_deep (f : Sld → Sld) (s : State) : (modSld f s).deep = s.deep := rfl
@[simp] theorem modSld_mem (f : Sld → Sld) (s : State) : (modSld f s).mem = s.mem := rfl
@[simp] theorem modSld_vlt (f : Sld → Sld) (s : State) : (modSld f s).vlt = s.vlt := rfl
@[simp] theorem modSld_xlt (f : Sld → Sld) (s : State) : (modSld f s).xlt = s.xlt := rfl
@[simp] theorem modSld_xl1 (f : Sld → Sld) (s : State) : (modSld f s).xl1 = s.xl1 := rfl
@[simp] theorem modSld_cmp (f : Sld → Sld) (s : State) : (modSld f s).cmp = s.cmp := rfl
@[simp] theorem modSld_eng (f : Sld → Sld) (s : State) : (modSld f s).eng = s.eng := rfl
@[simp] theorem modSld_hif (f : Sld → Sld) (s : State) : (modSld f s).hif = s.hif := rfl
@[simp] theorem modSld_sec (f : Sld → Sld) (s : State) : (modSld f s).sec = s.sec := rfl
@[simp] theorem modSld_own (f : Sld → Sld) (s : State) : (modSld f s).sld = f s.sld := rfl
@[simp] theorem modSld_raw (f : Sld → Sld) (s : State) (g : Fld) : (modSld f s).raw g = s.raw g := rfl

/-! ### modSpn -/

@[simp] theorem modSpn_pending (f : Spn → Spn) (s : State) : (modSpn f s).pending = s.pending := rfl
@[simp] theorem modSpn_regs (f : Spn → Spn) (s : State) : (modSpn f s).regs = s.regs := rfl
@[simp] theorem modSpn_dram (f : Spn → Spn) (s : State) : (modSpn f s).dram = s.dram := rfl
@[simp] theorem modSpn_poison (f : Spn → Spn) (s : State) : (modSpn f s).poison = s.poison := rfl
@[simp] theorem modSpn_free (f : Spn → Spn) (s : State) : (modSpn f s).free = s.free := rfl
@[simp] theorem modSpn_out (f : Spn → Spn) (s : State) : (modSpn f s).out = s.out := rfl
@[simp] theorem modSpn_die (f : Spn → Spn) (s : State) : (modSpn f s).die = s.die := rfl
@[simp] theorem modSpn_pd (f : Spn → Spn) (s : State) : (modSpn f s).pd = s.pd := rfl
@[simp] theorem modSpn_pins (f : Spn → Spn) (s : State) : (modSpn f s).pins = s.pins := rfl
@[simp] theorem modSpn_thm (f : Spn → Spn) (s : State) : (modSpn f s).thm = s.thm := rfl
@[simp] theorem modSpn_pwr (f : Spn → Spn) (s : State) : (modSpn f s).pwr = s.pwr := rfl
@[simp] theorem modSpn_buf (f : Spn → Spn) (s : State) : (modSpn f s).buf = s.buf := rfl
@[simp] theorem modSpn_clk (f : Spn → Spn) (s : State) : (modSpn f s).clk = s.clk := rfl
@[simp] theorem modSpn_cal (f : Spn → Spn) (s : State) : (modSpn f s).cal = s.cal := rfl
@[simp] theorem modSpn_asy (f : Spn → Spn) (s : State) : (modSpn f s).asy = s.asy := rfl
@[simp] theorem modSpn_pat (f : Spn → Spn) (s : State) : (modSpn f s).pat = s.pat := rfl
@[simp] theorem modSpn_bul (f : Spn → Spn) (s : State) : (modSpn f s).bul = s.bul := rfl
@[simp] theorem modSpn_inv (f : Spn → Spn) (s : State) : (modSpn f s).inv = s.inv := rfl
@[simp] theorem modSpn_qch (f : Spn → Spn) (s : State) : (modSpn f s).qch = s.qch := rfl
@[simp] theorem modSpn_srv (f : Spn → Spn) (s : State) : (modSpn f s).srv = s.srv := rfl
@[simp] theorem modSpn_act (f : Spn → Spn) (s : State) : (modSpn f s).act = s.act := rfl
@[simp] theorem modSpn_shock (f : Spn → Spn) (s : State) : (modSpn f s).shock = s.shock := rfl
@[simp] theorem modSpn_wch (f : Spn → Spn) (s : State) : (modSpn f s).wch = s.wch := rfl
@[simp] theorem modSpn_rch (f : Spn → Spn) (s : State) : (modSpn f s).rch = s.rch := rfl
@[simp] theorem modSpn_deep (f : Spn → Spn) (s : State) : (modSpn f s).deep = s.deep := rfl
@[simp] theorem modSpn_mem (f : Spn → Spn) (s : State) : (modSpn f s).mem = s.mem := rfl
@[simp] theorem modSpn_vlt (f : Spn → Spn) (s : State) : (modSpn f s).vlt = s.vlt := rfl
@[simp] theorem modSpn_xlt (f : Spn → Spn) (s : State) : (modSpn f s).xlt = s.xlt := rfl
@[simp] theorem modSpn_xl1 (f : Spn → Spn) (s : State) : (modSpn f s).xl1 = s.xl1 := rfl
@[simp] theorem modSpn_cmp (f : Spn → Spn) (s : State) : (modSpn f s).cmp = s.cmp := rfl
@[simp] theorem modSpn_eng (f : Spn → Spn) (s : State) : (modSpn f s).eng = s.eng := rfl
@[simp] theorem modSpn_hif (f : Spn → Spn) (s : State) : (modSpn f s).hif = s.hif := rfl
@[simp] theorem modSpn_sld (f : Spn → Spn) (s : State) : (modSpn f s).sld = s.sld := rfl
@[simp] theorem modSpn_sec (f : Spn → Spn) (s : State) : (modSpn f s).sec = s.sec := rfl
@[simp] theorem modSpn_own (f : Spn → Spn) (s : State) : (modSpn f s).spn = f s.spn := rfl
@[simp] theorem modSpn_raw (f : Spn → Spn) (s : State) (g : Fld) : (modSpn f s).raw g = s.raw g := rfl

/-! ### modThm -/

@[simp] theorem modThm_pending (f : Thm → Thm) (s : State) : (modThm f s).pending = s.pending := rfl
@[simp] theorem modThm_regs (f : Thm → Thm) (s : State) : (modThm f s).regs = s.regs := rfl
@[simp] theorem modThm_dram (f : Thm → Thm) (s : State) : (modThm f s).dram = s.dram := rfl
@[simp] theorem modThm_poison (f : Thm → Thm) (s : State) : (modThm f s).poison = s.poison := rfl
@[simp] theorem modThm_free (f : Thm → Thm) (s : State) : (modThm f s).free = s.free := rfl
@[simp] theorem modThm_out (f : Thm → Thm) (s : State) : (modThm f s).out = s.out := rfl
@[simp] theorem modThm_die (f : Thm → Thm) (s : State) : (modThm f s).die = s.die := rfl
@[simp] theorem modThm_pd (f : Thm → Thm) (s : State) : (modThm f s).pd = s.pd := rfl
@[simp] theorem modThm_pins (f : Thm → Thm) (s : State) : (modThm f s).pins = s.pins := rfl
@[simp] theorem modThm_pwr (f : Thm → Thm) (s : State) : (modThm f s).pwr = s.pwr := rfl
@[simp] theorem modThm_buf (f : Thm → Thm) (s : State) : (modThm f s).buf = s.buf := rfl
@[simp] theorem modThm_clk (f : Thm → Thm) (s : State) : (modThm f s).clk = s.clk := rfl
@[simp] theorem modThm_cal (f : Thm → Thm) (s : State) : (modThm f s).cal = s.cal := rfl
@[simp] theorem modThm_asy (f : Thm → Thm) (s : State) : (modThm f s).asy = s.asy := rfl
@[simp] theorem modThm_pat (f : Thm → Thm) (s : State) : (modThm f s).pat = s.pat := rfl
@[simp] theorem modThm_bul (f : Thm → Thm) (s : State) : (modThm f s).bul = s.bul := rfl
@[simp] theorem modThm_inv (f : Thm → Thm) (s : State) : (modThm f s).inv = s.inv := rfl
@[simp] theorem modThm_qch (f : Thm → Thm) (s : State) : (modThm f s).qch = s.qch := rfl
@[simp] theorem modThm_spn (f : Thm → Thm) (s : State) : (modThm f s).spn = s.spn := rfl
@[simp] theorem modThm_srv (f : Thm → Thm) (s : State) : (modThm f s).srv = s.srv := rfl
@[simp] theorem modThm_act (f : Thm → Thm) (s : State) : (modThm f s).act = s.act := rfl
@[simp] theorem modThm_shock (f : Thm → Thm) (s : State) : (modThm f s).shock = s.shock := rfl
@[simp] theorem modThm_wch (f : Thm → Thm) (s : State) : (modThm f s).wch = s.wch := rfl
@[simp] theorem modThm_rch (f : Thm → Thm) (s : State) : (modThm f s).rch = s.rch := rfl
@[simp] theorem modThm_deep (f : Thm → Thm) (s : State) : (modThm f s).deep = s.deep := rfl
@[simp] theorem modThm_mem (f : Thm → Thm) (s : State) : (modThm f s).mem = s.mem := rfl
@[simp] theorem modThm_vlt (f : Thm → Thm) (s : State) : (modThm f s).vlt = s.vlt := rfl
@[simp] theorem modThm_xlt (f : Thm → Thm) (s : State) : (modThm f s).xlt = s.xlt := rfl
@[simp] theorem modThm_xl1 (f : Thm → Thm) (s : State) : (modThm f s).xl1 = s.xl1 := rfl
@[simp] theorem modThm_cmp (f : Thm → Thm) (s : State) : (modThm f s).cmp = s.cmp := rfl
@[simp] theorem modThm_eng (f : Thm → Thm) (s : State) : (modThm f s).eng = s.eng := rfl
@[simp] theorem modThm_hif (f : Thm → Thm) (s : State) : (modThm f s).hif = s.hif := rfl
@[simp] theorem modThm_sld (f : Thm → Thm) (s : State) : (modThm f s).sld = s.sld := rfl
@[simp] theorem modThm_sec (f : Thm → Thm) (s : State) : (modThm f s).sec = s.sec := rfl
@[simp] theorem modThm_own (f : Thm → Thm) (s : State) : (modThm f s).thm = f s.thm := rfl
@[simp] theorem modThm_raw (f : Thm → Thm) (s : State) (g : Fld) : (modThm f s).raw g = s.raw g := rfl

/-! ### modWch -/

@[simp] theorem modWch_pending (ch : Fin 4) (f : WChan → WChan) (s : State) : (modWch ch f s).pending = s.pending := rfl
@[simp] theorem modWch_regs (ch : Fin 4) (f : WChan → WChan) (s : State) : (modWch ch f s).regs = s.regs := rfl
@[simp] theorem modWch_dram (ch : Fin 4) (f : WChan → WChan) (s : State) : (modWch ch f s).dram = s.dram := rfl
@[simp] theorem modWch_poison (ch : Fin 4) (f : WChan → WChan) (s : State) : (modWch ch f s).poison = s.poison := rfl
@[simp] theorem modWch_free (ch : Fin 4) (f : WChan → WChan) (s : State) : (modWch ch f s).free = s.free := rfl
@[simp] theorem modWch_out (ch : Fin 4) (f : WChan → WChan) (s : State) : (modWch ch f s).out = s.out := rfl
@[simp] theorem modWch_die (ch : Fin 4) (f : WChan → WChan) (s : State) : (modWch ch f s).die = s.die := rfl
@[simp] theorem modWch_pd (ch : Fin 4) (f : WChan → WChan) (s : State) : (modWch ch f s).pd = s.pd := rfl
@[simp] theorem modWch_pins (ch : Fin 4) (f : WChan → WChan) (s : State) : (modWch ch f s).pins = s.pins := rfl
@[simp] theorem modWch_thm (ch : Fin 4) (f : WChan → WChan) (s : State) : (modWch ch f s).thm = s.thm := rfl
@[simp] theorem modWch_pwr (ch : Fin 4) (f : WChan → WChan) (s : State) : (modWch ch f s).pwr = s.pwr := rfl
@[simp] theorem modWch_buf (ch : Fin 4) (f : WChan → WChan) (s : State) : (modWch ch f s).buf = s.buf := rfl
@[simp] theorem modWch_clk (ch : Fin 4) (f : WChan → WChan) (s : State) : (modWch ch f s).clk = s.clk := rfl
@[simp] theorem modWch_cal (ch : Fin 4) (f : WChan → WChan) (s : State) : (modWch ch f s).cal = s.cal := rfl
@[simp] theorem modWch_asy (ch : Fin 4) (f : WChan → WChan) (s : State) : (modWch ch f s).asy = s.asy := rfl
@[simp] theorem modWch_pat (ch : Fin 4) (f : WChan → WChan) (s : State) : (modWch ch f s).pat = s.pat := rfl
@[simp] theorem modWch_bul (ch : Fin 4) (f : WChan → WChan) (s : State) : (modWch ch f s).bul = s.bul := rfl
@[simp] theorem modWch_inv (ch : Fin 4) (f : WChan → WChan) (s : State) : (modWch ch f s).inv = s.inv := rfl
@[simp] theorem modWch_qch (ch : Fin 4) (f : WChan → WChan) (s : State) : (modWch ch f s).qch = s.qch := rfl
@[simp] theorem modWch_spn (ch : Fin 4) (f : WChan → WChan) (s : State) : (modWch ch f s).spn = s.spn := rfl
@[simp] theorem modWch_srv (ch : Fin 4) (f : WChan → WChan) (s : State) : (modWch ch f s).srv = s.srv := rfl
@[simp] theorem modWch_act (ch : Fin 4) (f : WChan → WChan) (s : State) : (modWch ch f s).act = s.act := rfl
@[simp] theorem modWch_shock (ch : Fin 4) (f : WChan → WChan) (s : State) : (modWch ch f s).shock = s.shock := rfl
@[simp] theorem modWch_rch (ch : Fin 4) (f : WChan → WChan) (s : State) : (modWch ch f s).rch = s.rch := rfl
@[simp] theorem modWch_deep (ch : Fin 4) (f : WChan → WChan) (s : State) : (modWch ch f s).deep = s.deep := rfl
@[simp] theorem modWch_mem (ch : Fin 4) (f : WChan → WChan) (s : State) : (modWch ch f s).mem = s.mem := rfl
@[simp] theorem modWch_vlt (ch : Fin 4) (f : WChan → WChan) (s : State) : (modWch ch f s).vlt = s.vlt := rfl
@[simp] theorem modWch_xlt (ch : Fin 4) (f : WChan → WChan) (s : State) : (modWch ch f s).xlt = s.xlt := rfl
@[simp] theorem modWch_xl1 (ch : Fin 4) (f : WChan → WChan) (s : State) : (modWch ch f s).xl1 = s.xl1 := rfl
@[simp] theorem modWch_cmp (ch : Fin 4) (f : WChan → WChan) (s : State) : (modWch ch f s).cmp = s.cmp := rfl
@[simp] theorem modWch_eng (ch : Fin 4) (f : WChan → WChan) (s : State) : (modWch ch f s).eng = s.eng := rfl
@[simp] theorem modWch_hif (ch : Fin 4) (f : WChan → WChan) (s : State) : (modWch ch f s).hif = s.hif := rfl
@[simp] theorem modWch_sld (ch : Fin 4) (f : WChan → WChan) (s : State) : (modWch ch f s).sld = s.sld := rfl
@[simp] theorem modWch_sec (ch : Fin 4) (f : WChan → WChan) (s : State) : (modWch ch f s).sec = s.sec := rfl
@[simp] theorem modWch_own (ch : Fin 4) (f : WChan → WChan) (s : State) : (modWch ch f s).wch = vmod s.wch ch f := rfl
@[simp] theorem modWch_raw (ch : Fin 4) (f : WChan → WChan) (s : State) (g : Fld) : (modWch ch f s).raw g = s.raw g := rfl

/-! ### modXlt -/

@[simp] theorem modXlt_pending (f : Xlt → Xlt) (s : State) : (modXlt f s).pending = s.pending := rfl
@[simp] theorem modXlt_regs (f : Xlt → Xlt) (s : State) : (modXlt f s).regs = s.regs := rfl
@[simp] theorem modXlt_dram (f : Xlt → Xlt) (s : State) : (modXlt f s).dram = s.dram := rfl
@[simp] theorem modXlt_poison (f : Xlt → Xlt) (s : State) : (modXlt f s).poison = s.poison := rfl
@[simp] theorem modXlt_free (f : Xlt → Xlt) (s : State) : (modXlt f s).free = s.free := rfl
@[simp] theorem modXlt_out (f : Xlt → Xlt) (s : State) : (modXlt f s).out = s.out := rfl
@[simp] theorem modXlt_die (f : Xlt → Xlt) (s : State) : (modXlt f s).die = s.die := rfl
@[simp] theorem modXlt_pd (f : Xlt → Xlt) (s : State) : (modXlt f s).pd = s.pd := rfl
@[simp] theorem modXlt_pins (f : Xlt → Xlt) (s : State) : (modXlt f s).pins = s.pins := rfl
@[simp] theorem modXlt_thm (f : Xlt → Xlt) (s : State) : (modXlt f s).thm = s.thm := rfl
@[simp] theorem modXlt_pwr (f : Xlt → Xlt) (s : State) : (modXlt f s).pwr = s.pwr := rfl
@[simp] theorem modXlt_buf (f : Xlt → Xlt) (s : State) : (modXlt f s).buf = s.buf := rfl
@[simp] theorem modXlt_clk (f : Xlt → Xlt) (s : State) : (modXlt f s).clk = s.clk := rfl
@[simp] theorem modXlt_cal (f : Xlt → Xlt) (s : State) : (modXlt f s).cal = s.cal := rfl
@[simp] theorem modXlt_asy (f : Xlt → Xlt) (s : State) : (modXlt f s).asy = s.asy := rfl
@[simp] theorem modXlt_pat (f : Xlt → Xlt) (s : State) : (modXlt f s).pat = s.pat := rfl
@[simp] theorem modXlt_bul (f : Xlt → Xlt) (s : State) : (modXlt f s).bul = s.bul := rfl
@[simp] theorem modXlt_inv (f : Xlt → Xlt) (s : State) : (modXlt f s).inv = s.inv := rfl
@[simp] theorem modXlt_qch (f : Xlt → Xlt) (s : State) : (modXlt f s).qch = s.qch := rfl
@[simp] theorem modXlt_spn (f : Xlt → Xlt) (s : State) : (modXlt f s).spn = s.spn := rfl
@[simp] theorem modXlt_srv (f : Xlt → Xlt) (s : State) : (modXlt f s).srv = s.srv := rfl
@[simp] theorem modXlt_act (f : Xlt → Xlt) (s : State) : (modXlt f s).act = s.act := rfl
@[simp] theorem modXlt_shock (f : Xlt → Xlt) (s : State) : (modXlt f s).shock = s.shock := rfl
@[simp] theorem modXlt_wch (f : Xlt → Xlt) (s : State) : (modXlt f s).wch = s.wch := rfl
@[simp] theorem modXlt_rch (f : Xlt → Xlt) (s : State) : (modXlt f s).rch = s.rch := rfl
@[simp] theorem modXlt_deep (f : Xlt → Xlt) (s : State) : (modXlt f s).deep = s.deep := rfl
@[simp] theorem modXlt_mem (f : Xlt → Xlt) (s : State) : (modXlt f s).mem = s.mem := rfl
@[simp] theorem modXlt_vlt (f : Xlt → Xlt) (s : State) : (modXlt f s).vlt = s.vlt := rfl
@[simp] theorem modXlt_xl1 (f : Xlt → Xlt) (s : State) : (modXlt f s).xl1 = s.xl1 := rfl
@[simp] theorem modXlt_cmp (f : Xlt → Xlt) (s : State) : (modXlt f s).cmp = s.cmp := rfl
@[simp] theorem modXlt_eng (f : Xlt → Xlt) (s : State) : (modXlt f s).eng = s.eng := rfl
@[simp] theorem modXlt_hif (f : Xlt → Xlt) (s : State) : (modXlt f s).hif = s.hif := rfl
@[simp] theorem modXlt_sld (f : Xlt → Xlt) (s : State) : (modXlt f s).sld = s.sld := rfl
@[simp] theorem modXlt_sec (f : Xlt → Xlt) (s : State) : (modXlt f s).sec = s.sec := rfl
@[simp] theorem modXlt_own (f : Xlt → Xlt) (s : State) : (modXlt f s).xlt = f s.xlt := rfl
@[simp] theorem modXlt_raw (f : Xlt → Xlt) (s : State) (g : Fld) : (modXlt f s).raw g = s.raw g := rfl

/-! ### modXl1 -/

@[simp] theorem modXl1_pending (f : Xl1 → Xl1) (s : State) : (modXl1 f s).pending = s.pending := rfl
@[simp] theorem modXl1_regs (f : Xl1 → Xl1) (s : State) : (modXl1 f s).regs = s.regs := rfl
@[simp] theorem modXl1_dram (f : Xl1 → Xl1) (s : State) : (modXl1 f s).dram = s.dram := rfl
@[simp] theorem modXl1_poison (f : Xl1 → Xl1) (s : State) : (modXl1 f s).poison = s.poison := rfl
@[simp] theorem modXl1_free (f : Xl1 → Xl1) (s : State) : (modXl1 f s).free = s.free := rfl
@[simp] theorem modXl1_out (f : Xl1 → Xl1) (s : State) : (modXl1 f s).out = s.out := rfl
@[simp] theorem modXl1_die (f : Xl1 → Xl1) (s : State) : (modXl1 f s).die = s.die := rfl
@[simp] theorem modXl1_pd (f : Xl1 → Xl1) (s : State) : (modXl1 f s).pd = s.pd := rfl
@[simp] theorem modXl1_pins (f : Xl1 → Xl1) (s : State) : (modXl1 f s).pins = s.pins := rfl
@[simp] theorem modXl1_thm (f : Xl1 → Xl1) (s : State) : (modXl1 f s).thm = s.thm := rfl
@[simp] theorem modXl1_pwr (f : Xl1 → Xl1) (s : State) : (modXl1 f s).pwr = s.pwr := rfl
@[simp] theorem modXl1_buf (f : Xl1 → Xl1) (s : State) : (modXl1 f s).buf = s.buf := rfl
@[simp] theorem modXl1_clk (f : Xl1 → Xl1) (s : State) : (modXl1 f s).clk = s.clk := rfl
@[simp] theorem modXl1_cal (f : Xl1 → Xl1) (s : State) : (modXl1 f s).cal = s.cal := rfl
@[simp] theorem modXl1_asy (f : Xl1 → Xl1) (s : State) : (modXl1 f s).asy = s.asy := rfl
@[simp] theorem modXl1_pat (f : Xl1 → Xl1) (s : State) : (modXl1 f s).pat = s.pat := rfl
@[simp] theorem modXl1_bul (f : Xl1 → Xl1) (s : State) : (modXl1 f s).bul = s.bul := rfl
@[simp] theorem modXl1_inv (f : Xl1 → Xl1) (s : State) : (modXl1 f s).inv = s.inv := rfl
@[simp] theorem modXl1_qch (f : Xl1 → Xl1) (s : State) : (modXl1 f s).qch = s.qch := rfl
@[simp] theorem modXl1_spn (f : Xl1 → Xl1) (s : State) : (modXl1 f s).spn = s.spn := rfl
@[simp] theorem modXl1_srv (f : Xl1 → Xl1) (s : State) : (modXl1 f s).srv = s.srv := rfl
@[simp] theorem modXl1_act (f : Xl1 → Xl1) (s : State) : (modXl1 f s).act = s.act := rfl
@[simp] theorem modXl1_shock (f : Xl1 → Xl1) (s : State) : (modXl1 f s).shock = s.shock := rfl
@[simp] theorem modXl1_wch (f : Xl1 → Xl1) (s : State) : (modXl1 f s).wch = s.wch := rfl
@[simp] theorem modXl1_rch (f : Xl1 → Xl1) (s : State) : (modXl1 f s).rch = s.rch := rfl
@[simp] theorem modXl1_deep (f : Xl1 → Xl1) (s : State) : (modXl1 f s).deep = s.deep := rfl
@[simp] theorem modXl1_mem (f : Xl1 → Xl1) (s : State) : (modXl1 f s).mem = s.mem := rfl
@[simp] theorem modXl1_vlt (f : Xl1 → Xl1) (s : State) : (modXl1 f s).vlt = s.vlt := rfl
@[simp] theorem modXl1_xlt (f : Xl1 → Xl1) (s : State) : (modXl1 f s).xlt = s.xlt := rfl
@[simp] theorem modXl1_cmp (f : Xl1 → Xl1) (s : State) : (modXl1 f s).cmp = s.cmp := rfl
@[simp] theorem modXl1_eng (f : Xl1 → Xl1) (s : State) : (modXl1 f s).eng = s.eng := rfl
@[simp] theorem modXl1_hif (f : Xl1 → Xl1) (s : State) : (modXl1 f s).hif = s.hif := rfl
@[simp] theorem modXl1_sld (f : Xl1 → Xl1) (s : State) : (modXl1 f s).sld = s.sld := rfl
@[simp] theorem modXl1_sec (f : Xl1 → Xl1) (s : State) : (modXl1 f s).sec = s.sec := rfl
@[simp] theorem modXl1_own (f : Xl1 → Xl1) (s : State) : (modXl1 f s).xl1 = f s.xl1 := rfl
@[simp] theorem modXl1_raw (f : Xl1 → Xl1) (s : State) (g : Fld) : (modXl1 f s).raw g = s.raw g := rfl

/-! ### modUnits -/

@[simp] theorem modUnits_pending (f : Tab BUnit → Tab BUnit) (s : State) : (modUnits f s).pending = s.pending := rfl
@[simp] theorem modUnits_regs (f : Tab BUnit → Tab BUnit) (s : State) : (modUnits f s).regs = s.regs := rfl
@[simp] theorem modUnits_dram (f : Tab BUnit → Tab BUnit) (s : State) : (modUnits f s).dram = s.dram := rfl
@[simp] theorem modUnits_poison (f : Tab BUnit → Tab BUnit) (s : State) : (modUnits f s).poison = s.poison := rfl
@[simp] theorem modUnits_free (f : Tab BUnit → Tab BUnit) (s : State) : (modUnits f s).free = s.free := rfl
@[simp] theorem modUnits_out (f : Tab BUnit → Tab BUnit) (s : State) : (modUnits f s).out = s.out := rfl
@[simp] theorem modUnits_die (f : Tab BUnit → Tab BUnit) (s : State) : (modUnits f s).die = s.die := rfl
@[simp] theorem modUnits_pd (f : Tab BUnit → Tab BUnit) (s : State) : (modUnits f s).pd = s.pd := rfl
@[simp] theorem modUnits_pins (f : Tab BUnit → Tab BUnit) (s : State) : (modUnits f s).pins = s.pins := rfl
@[simp] theorem modUnits_thm (f : Tab BUnit → Tab BUnit) (s : State) : (modUnits f s).thm = s.thm := rfl
@[simp] theorem modUnits_pwr (f : Tab BUnit → Tab BUnit) (s : State) : (modUnits f s).pwr = s.pwr := rfl
@[simp] theorem modUnits_clk (f : Tab BUnit → Tab BUnit) (s : State) : (modUnits f s).clk = s.clk := rfl
@[simp] theorem modUnits_cal (f : Tab BUnit → Tab BUnit) (s : State) : (modUnits f s).cal = s.cal := rfl
@[simp] theorem modUnits_asy (f : Tab BUnit → Tab BUnit) (s : State) : (modUnits f s).asy = s.asy := rfl
@[simp] theorem modUnits_pat (f : Tab BUnit → Tab BUnit) (s : State) : (modUnits f s).pat = s.pat := rfl
@[simp] theorem modUnits_bul (f : Tab BUnit → Tab BUnit) (s : State) : (modUnits f s).bul = s.bul := rfl
@[simp] theorem modUnits_inv (f : Tab BUnit → Tab BUnit) (s : State) : (modUnits f s).inv = s.inv := rfl
@[simp] theorem modUnits_qch (f : Tab BUnit → Tab BUnit) (s : State) : (modUnits f s).qch = s.qch := rfl
@[simp] theorem modUnits_spn (f : Tab BUnit → Tab BUnit) (s : State) : (modUnits f s).spn = s.spn := rfl
@[simp] theorem modUnits_srv (f : Tab BUnit → Tab BUnit) (s : State) : (modUnits f s).srv = s.srv := rfl
@[simp] theorem modUnits_act (f : Tab BUnit → Tab BUnit) (s : State) : (modUnits f s).act = s.act := rfl
@[simp] theorem modUnits_shock (f : Tab BUnit → Tab BUnit) (s : State) : (modUnits f s).shock = s.shock := rfl
@[simp] theorem modUnits_wch (f : Tab BUnit → Tab BUnit) (s : State) : (modUnits f s).wch = s.wch := rfl
@[simp] theorem modUnits_rch (f : Tab BUnit → Tab BUnit) (s : State) : (modUnits f s).rch = s.rch := rfl
@[simp] theorem modUnits_deep (f : Tab BUnit → Tab BUnit) (s : State) : (modUnits f s).deep = s.deep := rfl
@[simp] theorem modUnits_mem (f : Tab BUnit → Tab BUnit) (s : State) : (modUnits f s).mem = s.mem := rfl
@[simp] theorem modUnits_vlt (f : Tab BUnit → Tab BUnit) (s : State) : (modUnits f s).vlt = s.vlt := rfl
@[simp] theorem modUnits_xlt (f : Tab BUnit → Tab BUnit) (s : State) : (modUnits f s).xlt = s.xlt := rfl
@[simp] theorem modUnits_xl1 (f : Tab BUnit → Tab BUnit) (s : State) : (modUnits f s).xl1 = s.xl1 := rfl
@[simp] theorem modUnits_cmp (f : Tab BUnit → Tab BUnit) (s : State) : (modUnits f s).cmp = s.cmp := rfl
@[simp] theorem modUnits_eng (f : Tab BUnit → Tab BUnit) (s : State) : (modUnits f s).eng = s.eng := rfl
@[simp] theorem modUnits_hif (f : Tab BUnit → Tab BUnit) (s : State) : (modUnits f s).hif = s.hif := rfl
@[simp] theorem modUnits_sld (f : Tab BUnit → Tab BUnit) (s : State) : (modUnits f s).sld = s.sld := rfl
@[simp] theorem modUnits_sec (f : Tab BUnit → Tab BUnit) (s : State) : (modUnits f s).sec = s.sec := rfl
@[simp] theorem modUnits_raw (f : Tab BUnit → Tab BUnit) (s : State) (g : Fld) : (modUnits f s).raw g = s.raw g := rfl

/-! ### One register field -/

/-- The field written reads as the value cut to its width. -/
@[simp] theorem State.raw_set_self (s : State) (f : Fld) (v : Nat) : (s.set f v).raw f = v % 2 ^ f.width :=
  (congrArg (· % 2 ^ f.width) (tabLook_put_self f.rst s.regs f.key (v % 2 ^ f.width))).trans (Nat.mod_mod ..)

/-- A field never reads as more than its bits hold. -/
theorem State.raw_lt (s : State) (f : Fld) : s.raw f < 2 ^ f.width := Nat.mod_lt _ (Nat.two_pow_pos _)

/-- A write of one field leaves every other field alone. -/
theorem State.raw_set_ne (s : State) {f g : Fld} (v : Nat) (h : g.key ≠ f.key) : (s.set f v).raw g = s.raw g :=
  congrArg (· % 2 ^ g.width) (tabLook_put_ne f.rst g.rst s.regs (v % 2 ^ f.width) h)

@[simp] theorem State.on_eq (s : State) (f : Fld) : s.on f = s.set f 1 := rfl
@[simp] theorem State.off_eq (s : State) (f : Fld) : s.off f = s.set f 0 := rfl
@[simp] theorem State.put_eq (s : State) (f : Fld) (b : Bool) : s.put f b = s.set f (b2n b) := rfl
@[simp] theorem State.setI_eq (s : State) (f : Fld) (v : Int) : s.setI f v = s.set f (unsgn f.width v) := rfl
@[simp] theorem State.onBit_eq (s : State) (f : Fld) (i : Nat) : s.onBit f i = s.set f (setBit (s.raw f) i) := rfl
@[simp] theorem State.offBit_eq (s : State) (f : Fld) (i : Nat) : s.offBit f i = s.set f (clrBit (s.raw f) i) := rfl
@[simp] theorem State.bump_eq (s : State) (f : Fld) (n : Nat) : s.bump f n = s.set f (sat f.width (s.raw f + n)) := rfl

/-- A write of a field keeps the register store in its canonical order. -/
theorem State.set_sorted (s : State) (f : Fld) (v : Nat) (h : tabSorted none s.regs = true) :
    tabSorted none (s.set f v).regs = true := tabPut_sorted f.rst f.key (v % 2 ^ f.width) h

/-! ### Gates -/

/-- While the main die runs, what it is asked happens. -/
theorem live_running {s : State} (f : State → State) (h : s.die.phase = .running) : live s f = f s := by simp [live, h]

/-- While it does not, nothing on it acts. -/
theorem live_stopped {s : State} (f : State → State) (h : s.die.phase ≠ .running) : live s f = s := by simp [live, h]

@[simp] theorem State.when_true (s : State) (f : State → State) : s.when true f = f s := rfl
@[simp] theorem State.when_false (s : State) (f : State → State) : s.when false f = s := rfl

end Sys2Proof.Machine
end

