-- ==== Sys2Proof/Laws/Mem.lean ====
section
/-!
SUPPORT. What a store to the buffer DRAM does: the bytes it leaves alone, the bytes it writes, the canonical form it keeps,
and the state it leaves alone.
-/
namespace Sys2Proof.Machine

theorem storeBytes_wf (l : List Byte) {t : Tab Byte} (a : Nat) (h : tabWf (0 : Byte) t = true) :
    tabWf (0 : Byte) (storeBytes t a l) = true := by
  induction l generalizing t a with
  | nil => exact h
  | cons b l ih => exact ih (a + 1) (tabPut_wf 0 a b h)

/-- A byte outside the bytes stored reads as before. -/
theorem storeBytes_outside (l : List Byte) (t : Tab Byte) (a : Nat) {k : Nat} (h : k < a ∨ a + l.length ≤ k) :
    tabLook 0 (storeBytes t a l) k = tabLook 0 t k := by
  induction l generalizing t a with
  | nil => rfl
  | cons b l ih =>
    simp only [List.length_cons] at h
    rw [storeBytes, ih (tabPut 0 t a b) (a + 1) (by omega), tabLook_put_ne 0 0 t b (by omega)]

/-- A byte stored reads as stored. -/
theorem storeBytes_inside (l : List Byte) (t : Tab Byte) (a i : Nat) (h : i < l.length) :
    tabLook 0 (storeBytes t a l) (a + i) = l[i] := by
  induction l generalizing t a i with
  | nil => simp at h
  | cons b l ih =>
    rw [storeBytes]
    cases i with
    | zero => rw [storeBytes_outside l _ _ (by omega)]; simp [tabLook_put_self]
    | succ i =>
      have := ih (tabPut 0 t a b) (a + 1) i (by simpa using h)
      simpa [Nat.add_comm, Nat.add_left_comm] using this

/-- A store to the buffer DRAM keeps its canonical form. -/
theorem dramWrite_wf (s : State) (a : Nat) (l : List Byte) (h : tabWf (0 : Byte) s.dram = true) :
    tabWf (0 : Byte) (s.dramWrite a l).dram = true := by
  unfold State.dramWrite
  dsimp only
  split
  · split <;> exact storeBytes_wf l a h
  · exact h

/-- A store to the buffer DRAM leaves every byte outside it alone. -/
theorem dramWrite_outside (s : State) (a : Nat) (l : List Byte) {k : Nat} (h : k < a ∨ a + l.length ≤ k) :
    (s.dramWrite a l).dramByte k = s.dramByte k := by
  unfold State.dramWrite State.dramByte
  dsimp only
  split
  · split <;> exact storeBytes_outside l s.dram a h
  · rfl

/-- A store that ends within the DRAM puts its bytes there. -/
theorem dramWrite_inside (s : State) (a : Nat) (l : List Byte) (i : Nat) (hl : a + l.length ≤ dramSize)
    (h : i < l.length) : (s.dramWrite a l).dramByte (a + i) = l[i] := by
  unfold State.dramWrite State.dramByte
  dsimp only
  rw [if_pos hl]
  split <;> exact storeBytes_inside l s.dram a i h

/-- A store that passes the end of the DRAM stores nothing. -/
theorem dramWrite_past (s : State) (a : Nat) (l : List Byte) (hl : ¬ a + l.length ≤ dramSize) : s.dramWrite a l = s := by
  unfold State.dramWrite
  rw [if_neg hl]

end Sys2Proof.Machine
end

