-- ==== Sys2Proof/Laws/Keeps.lean ====
section
/-!
SUPPORT. What every operation of the machine keeps, as one relation that composes: the queue of commands, the canonical form of
the register store and of the buffer DRAM, the outputs made before, the angle stamp (R36), and everything outside the register
blocks and the parts of the state that the operation's mask names.
-/
namespace Sys2Proof.Machine

/-- The parts of the state that a mask leaves out are equal: bit 64 + i of the mask is the i-th field of `State`. -/
structure SameParts (m : Nat) (s t : State) : Prop where
  dram : m.testBit 66 = false → t.dram = s.dram
  poison : m.testBit 67 = false → t.poison = s.poison
  free : m.testBit 68 = false → t.free = s.free
  out : m.testBit 69 = false → t.out = s.out
  die : m.testBit 70 = false → t.die = s.die
  pd : m.testBit 71 = false → t.pd = s.pd
  pins : m.testBit 72 = false → t.pins = s.pins
  thm : m.testBit 73 = false → t.thm = s.thm
  pwr : m.testBit 74 = false → t.pwr = s.pwr
  buf : m.testBit 75 = false → t.buf = s.buf
  clk : m.testBit 76 = false → t.clk = s.clk
  cal : m.testBit 77 = false → t.cal = s.cal
  asy : m.testBit 78 = false → t.asy = s.asy
  pat : m.testBit 79 = false → t.pat = s.pat
  bul : m.testBit 80 = false → t.bul = s.bul
  inv : m.testBit 81 = false → t.inv = s.inv
  qch : m.testBit 82 = false → t.qch = s.qch
  spn : m.testBit 83 = false → t.spn = s.spn
  srv : m.testBit 84 = false → t.srv = s.srv
  act : m.testBit 85 = false → t.act = s.act
  shock : m.testBit 86 = false → t.shock = s.shock
  wch : m.testBit 87 = false → t.wch = s.wch
  rch : m.testBit 88 = false → t.rch = s.rch
  deep : m.testBit 89 = false → t.deep = s.deep
  mem : m.testBit 90 = false → t.mem = s.mem
  vlt : m.testBit 91 = false → t.vlt = s.vlt
  xlt : m.testBit 92 = false → t.xlt = s.xlt
  xl1 : m.testBit 93 = false → t.xl1 = s.xl1
  cmp : m.testBit 94 = false → t.cmp = s.cmp
  eng : m.testBit 95 = false → t.eng = s.eng
  hif : m.testBit 96 = false → t.hif = s.hif
  sld : m.testBit 97 = false → t.sld = s.sld
  sec : m.testBit 98 = false → t.sec = s.sec

/-- From `s` to `t` a machine changes only what mask `m` names: bits 0 to 63 the register blocks, bits 66 to 98 the parts of
the state, bit 99 that the angle stamp may fall back. -/
structure Keeps (m : Nat) (s t : State) : Prop where
  pending : t.pending = s.pending
  regs : ∀ f : Fld, m.testBit f.blk = false → t.raw f = s.raw f
  sorted : tabSorted none s.regs = true → tabSorted none t.regs = true
  wf : tabWf (0 : Byte) s.dram = true → tabWf (0 : Byte) t.dram = true
  out : ∃ l, t.out = s.out ++ l
  free : s.free ≤ t.free
  now : m.testBit 99 = false → s.inv.now ≤ t.inv.now
  parts : SameParts m s t

variable {m n : Nat} {s t u : State}

theorem SameParts.refl (m : Nat) (s : State) : SameParts m s s := by constructor <;> intro _ <;> rfl

theorem SameParts.trans (h : SameParts m s t) (k : SameParts m t u) : SameParts m s u := by
  constructor <;> intro hb
  · exact (k.dram hb).trans (h.dram hb)
  · exact (k.poison hb).trans (h.poison hb)
  · exact (k.free hb).trans (h.free hb)
  · exact (k.out hb).trans (h.out hb)
  · exact (k.die hb).trans (h.die hb)
  · exact (k.pd hb).trans (h.pd hb)
  · exact (k.pins hb).trans (h.pins hb)
  · exact (k.thm hb).trans (h.thm hb)
  · exact (k.pwr hb).trans (h.pwr hb)
  · exact (k.buf hb).trans (h.buf hb)
  · exact (k.clk hb).trans (h.clk hb)
  · exact (k.cal hb).trans (h.cal hb)
  · exact (k.asy hb).trans (h.asy hb)
  · exact (k.pat hb).trans (h.pat hb)
  · exact (k.bul hb).trans (h.bul hb)
  · exact (k.inv hb).trans (h.inv hb)
  · exact (k.qch hb).trans (h.qch hb)
  · exact (k.spn hb).trans (h.spn hb)
  · exact (k.srv hb).trans (h.srv hb)
  · exact (k.act hb).trans (h.act hb)
  · exact (k.shock hb).trans (h.shock hb)
  · exact (k.wch hb).trans (h.wch hb)
  · exact (k.rch hb).trans (h.rch hb)
  · exact (k.deep hb).trans (h.deep hb)
  · exact (k.mem hb).trans (h.mem hb)
  · exact (k.vlt hb).trans (h.vlt hb)
  · exact (k.xlt hb).trans (h.xlt hb)
  · exact (k.xl1 hb).trans (h.xl1 hb)
  · exact (k.cmp hb).trans (h.cmp hb)
  · exact (k.eng hb).trans (h.eng hb)
  · exact (k.hif hb).trans (h.hif hb)
  · exact (k.sld hb).trans (h.sld hb)
  · exact (k.sec hb).trans (h.sec hb)

theorem Keeps.refl (m : Nat) (s : State) : Keeps m s s :=
  ⟨rfl, fun _ _ => rfl, id, id, ⟨[], (List.append_nil _).symm⟩, Nat.le_refl _, fun _ => Nat.le_refl _, SameParts.refl m s⟩

theorem Keeps.trans (h : Keeps m s t) (k : Keeps m t u) : Keeps m s u := by
  refine ⟨k.pending.trans h.pending, fun f hf => (k.regs f hf).trans (h.regs f hf), fun x => k.sorted (h.sorted x),
    fun x => k.wf (h.wf x), ?_, Nat.le_trans h.free k.free, fun x => Nat.le_trans (h.now x) (k.now x), h.parts.trans k.parts⟩
  obtain ⟨l, hl⟩ := h.out
  obtain ⟨r, hr⟩ := k.out
  exact ⟨l ++ r, by rw [hr, hl, List.append_assoc]⟩

theorem testBit_weaken (h : n &&& m = n) {i : Nat} (hi : m.testBit i = false) : n.testBit i = false := by
  rw [← h, Nat.testBit_and, hi, Bool.and_false]

theorem testBit_strengthen (h : n &&& m = n) {i : Nat} (hi : n.testBit i = true) : m.testBit i = true := by
  rw [← h, Nat.testBit_and, Bool.and_eq_true] at hi
  exact hi.2

/-- A mask within a mask within a third lies within the third. -/
theorem mask_within {k : Nat} (hm : n &&& m = n) (hk : k &&& n = k) : k &&& m = k := by
  rw [← hk]
  apply Nat.eq_of_testBit_eq
  intro i
  rw [← hm]
  simp only [Nat.testBit_and]
  cases k.testBit i <;> cases n.testBit i <;> cases m.testBit i <;> rfl

/-- A smaller mask says more. -/
theorem Keeps.mono (h : Keeps n s t) (hm : n &&& m = n) : Keeps m s t :=
  ⟨h.pending, fun f hf => h.regs f (testBit_weaken hm hf), h.sorted, h.wf, h.out, h.free,
   fun x => h.now (testBit_weaken hm x), by
    constructor <;> intro hb
    · exact h.parts.dram (testBit_weaken hm hb)
    · exact h.parts.poison (testBit_weaken hm hb)
    · exact h.parts.free (testBit_weaken hm hb)
    · exact h.parts.out (testBit_weaken hm hb)
    · exact h.parts.die (testBit_weaken hm hb)
    · exact h.parts.pd (testBit_weaken hm hb)
    · exact h.parts.pins (testBit_weaken hm hb)
    · exact h.parts.thm (testBit_weaken hm hb)
    · exact h.parts.pwr (testBit_weaken hm hb)
    · exact h.parts.buf (testBit_weaken hm hb)
    · exact h.parts.clk (testBit_weaken hm hb)
    · exact h.parts.cal (testBit_weaken hm hb)
    · exact h.parts.asy (testBit_weaken hm hb)
    · exact h.parts.pat (testBit_weaken hm hb)
    · exact h.parts.bul (testBit_weaken hm hb)
    · exact h.parts.inv (testBit_weaken hm hb)
    · exact h.parts.qch (testBit_weaken hm hb)
    · exact h.parts.spn (testBit_weaken hm hb)
    · exact h.parts.srv (testBit_weaken hm hb)
    · exact h.parts.act (testBit_weaken hm hb)
    · exact h.parts.shock (testBit_weaken hm hb)
    · exact h.parts.wch (testBit_weaken hm hb)
    · exact h.parts.rch (testBit_weaken hm hb)
    · exact h.parts.deep (testBit_weaken hm hb)
    · exact h.parts.mem (testBit_weaken hm hb)
    · exact h.parts.vlt (testBit_weaken hm hb)
    · exact h.parts.xlt (testBit_weaken hm hb)
    · exact h.parts.xl1 (testBit_weaken hm hb)
    · exact h.parts.cmp (testBit_weaken hm hb)
    · exact h.parts.eng (testBit_weaken hm hb)
    · exact h.parts.hif (testBit_weaken hm hb)
    · exact h.parts.sld (testBit_weaken hm hb)
    · exact h.parts.sec (testBit_weaken hm hb)⟩

/-- One more operation, whose mask lies within. -/
theorem Keeps.step (k : Keeps n t u) (hm : n &&& m = n) (h : Keeps m s t) : Keeps m s u := h.trans (k.mono hm)

/-- The same through a mask in between. -/
theorem Keeps.step' {n' : Nat} (hm : n' &&& m = n') (k : Keeps n t u) (hn : n &&& n' = n) (h : Keeps m s t) : Keeps m s u :=
  h.trans ((k.mono hn).mono hm)

/-- A write of one register field. -/
theorem State.set_keeps (f : Fld) (v : Nat) (hf : m.testBit f.blk = true) (h : Keeps m s t) : Keeps m s (t.set f v) := by
  refine h.trans ⟨rfl, fun g hg => ?_, State.set_sorted t f v, id, ⟨[], (List.append_nil _).symm⟩, Nat.le_refl _,
    fun _ => Nat.le_refl _, ?_⟩
  · refine State.raw_set_ne t v fun e => ?_
    rw [show g.blk = f.blk by unfold Fld.blk; rw [e], hf] at hg
    cases hg
  · constructor <;> intro _ <;> rfl

theorem State.setI_keeps (f : Fld) (v : Int) (hf : m.testBit f.blk = true) (h : Keeps m s t) :
    Keeps m s (t.setI f v) := State.set_keeps f _ hf h

theorem State.on_keeps (f : Fld) (hf : m.testBit f.blk = true) (h : Keeps m s t) :
    Keeps m s (t.on f) := State.set_keeps f _ hf h

theorem State.off_keeps (f : Fld) (hf : m.testBit f.blk = true) (h : Keeps m s t) :
    Keeps m s (t.off f) := State.set_keeps f _ hf h

theorem State.put_keeps (f : Fld) (b : Bool) (hf : m.testBit f.blk = true) (h : Keeps m s t) :
    Keeps m s (t.put f b) := State.set_keeps f _ hf h

theorem State.onBit_keeps (f : Fld) (i : Nat) (hf : m.testBit f.blk = true) (h : Keeps m s t) :
    Keeps m s (t.onBit f i) := State.set_keeps f _ hf h

theorem State.offBit_keeps (f : Fld) (i : Nat) (hf : m.testBit f.blk = true) (h : Keeps m s t) :
    Keeps m s (t.offBit f i) := State.set_keeps f _ hf h

theorem State.putBit_keeps (f : Fld) (i : Nat) (b : Bool) (hf : m.testBit f.blk = true) (h : Keeps m s t) :
    Keeps m s (t.putBit f i b) := State.set_keeps f _ hf h

theorem State.bump_keeps (f : Fld) (i : Nat) (hf : m.testBit f.blk = true) (h : Keeps m s t) :
    Keeps m s (t.bump f i) := State.set_keeps f _ hf h

/-- An update of other parts of the state. -/
theorem Keeps.upd (h : Keeps m s t) (hp : u.pending = t.pending) (hr : u.regs = t.regs) (ho : ∃ l, u.out = t.out ++ l)
    (hd : tabWf (0 : Byte) t.dram = true → tabWf (0 : Byte) u.dram = true) (hf : t.free ≤ u.free)
    (hn : m.testBit 99 = false → t.inv.now ≤ u.inv.now) (hc : SameParts m t u) : Keeps m s u :=
  h.trans ⟨hp, fun f _ => by unfold State.raw; rw [hr], fun x => by rw [hr]; exact x, hd, ho, hf, hn, hc⟩

theorem Keeps.upd_poison (x) (hm : m.testBit 67 = true) (h : Keeps m s t) : Keeps m s { t with poison := x } :=
  h.upd rfl rfl ⟨[], (List.append_nil _).symm⟩ id (Nat.le_refl _) (fun _ => Nat.le_refl _) (by
    constructor <;> intro hb <;> first | rfl | (rw [hm] at hb; cases hb))

theorem Keeps.upd_die (x) (hm : m.testBit 70 = true) (h : Keeps m s t) : Keeps m s { t with die := x } :=
  h.upd rfl rfl ⟨[], (List.append_nil _).symm⟩ id (Nat.le_refl _) (fun _ => Nat.le_refl _) (by
    constructor <;> intro hb <;> first | rfl | (rw [hm] at hb; cases hb))

theorem Keeps.upd_pd (x) (hm : m.testBit 71 = true) (h : Keeps m s t) : Keeps m s { t with pd := x } :=
  h.upd rfl rfl ⟨[], (List.append_nil _).symm⟩ id (Nat.le_refl _) (fun _ => Nat.le_refl _) (by
    constructor <;> intro hb <;> first | rfl | (rw [hm] at hb; cases hb))

theorem Keeps.upd_pins (x) (hm : m.testBit 72 = true) (h : Keeps m s t) : Keeps m s { t with pins := x } :=
  h.upd rfl rfl ⟨[], (List.append_nil _).symm⟩ id (Nat.le_refl _) (fun _ => Nat.le_refl _) (by
    constructor <;> intro hb <;> first | rfl | (rw [hm] at hb; cases hb))

theorem Keeps.upd_thm (x) (hm : m.testBit 73 = true) (h : Keeps m s t) : Keeps m s { t with thm := x } :=
  h.upd rfl rfl ⟨[], (List.append_nil _).symm⟩ id (Nat.le_refl _) (fun _ => Nat.le_refl _) (by
    constructor <;> intro hb <;> first | rfl | (rw [hm] at hb; cases hb))

theorem Keeps.upd_pwr (x) (hm : m.testBit 74 = true) (h : Keeps m s t) : Keeps m s { t with pwr := x } :=
  h.upd rfl rfl ⟨[], (List.append_nil _).symm⟩ id (Nat.le_refl _) (fun _ => Nat.le_refl _) (by
    constructor <;> intro hb <;> first | rfl | (rw [hm] at hb; cases hb))

theorem Keeps.upd_buf (x) (hm : m.testBit 75 = true) (h : Keeps m s t) : Keeps m s { t with buf := x } :=
  h.upd rfl rfl ⟨[], (List.append_nil _).symm⟩ id (Nat.le_refl _) (fun _ => Nat.le_refl _) (by
    constructor <;> intro hb <;> first | rfl | (rw [hm] at hb; cases hb))

theorem Keeps.upd_clk (x) (hm : m.testBit 76 = true) (h : Keeps m s t) : Keeps m s { t with clk := x } :=
  h.upd rfl rfl ⟨[], (List.append_nil _).symm⟩ id (Nat.le_refl _) (fun _ => Nat.le_refl _) (by
    constructor <;> intro hb <;> first | rfl | (rw [hm] at hb; cases hb))

theorem Keeps.upd_cal (x) (hm : m.testBit 77 = true) (h : Keeps m s t) : Keeps m s { t with cal := x } :=
  h.upd rfl rfl ⟨[], (List.append_nil _).symm⟩ id (Nat.le_refl _) (fun _ => Nat.le_refl _) (by
    constructor <;> intro hb <;> first | rfl | (rw [hm] at hb; cases hb))

theorem Keeps.upd_asy (x) (hm : m.testBit 78 = true) (h : Keeps m s t) : Keeps m s { t with asy := x } :=
  h.upd rfl rfl ⟨[], (List.append_nil _).symm⟩ id (Nat.le_refl _) (fun _ => Nat.le_refl _) (by
    constructor <;> intro hb <;> first | rfl | (rw [hm] at hb; cases hb))

theorem Keeps.upd_pat (x) (hm : m.testBit 79 = true) (h : Keeps m s t) : Keeps m s { t with pat := x } :=
  h.upd rfl rfl ⟨[], (List.append_nil _).symm⟩ id (Nat.le_refl _) (fun _ => Nat.le_refl _) (by
    constructor <;> intro hb <;> first | rfl | (rw [hm] at hb; cases hb))

theorem Keeps.upd_bul (x) (hm : m.testBit 80 = true) (h : Keeps m s t) : Keeps m s { t with bul := x } :=
  h.upd rfl rfl ⟨[], (List.append_nil _).symm⟩ id (Nat.le_refl _) (fun _ => Nat.le_refl _) (by
    constructor <;> intro hb <;> first | rfl | (rw [hm] at hb; cases hb))

theorem Keeps.upd_qch (x) (hm : m.testBit 82 = true) (h : Keeps m s t) : Keeps m s { t with qch := x } :=
  h.upd rfl rfl ⟨[], (List.append_nil _).symm⟩ id (Nat.le_refl _) (fun _ => Nat.le_refl _) (by
    constructor <;> intro hb <;> first | rfl | (rw [hm] at hb; cases hb))

theorem Keeps.upd_spn (x) (hm : m.testBit 83 = true) (h : Keeps m s t) : Keeps m s { t with spn := x } :=
  h.upd rfl rfl ⟨[], (List.append_nil _).symm⟩ id (Nat.le_refl _) (fun _ => Nat.le_refl _) (by
    constructor <;> intro hb <;> first | rfl | (rw [hm] at hb; cases hb))

theorem Keeps.upd_srv (x) (hm : m.testBit 84 = true) (h : Keeps m s t) : Keeps m s { t with srv := x } :=
  h.upd rfl rfl ⟨[], (List.append_nil _).symm⟩ id (Nat.le_refl _) (fun _ => Nat.le_refl _) (by
    constructor <;> intro hb <;> first | rfl | (rw [hm] at hb; cases hb))

theorem Keeps.upd_act (x) (hm : m.testBit 85 = true) (h : Keeps m s t) : Keeps m s { t with act := x } :=
  h.upd rfl rfl ⟨[], (List.append_nil _).symm⟩ id (Nat.le_refl _) (fun _ => Nat.le_refl _) (by
    constructor <;> intro hb <;> first | rfl | (rw [hm] at hb; cases hb))

theorem Keeps.upd_shock (x) (hm : m.testBit 86 = true) (h : Keeps m s t) : Keeps m s { t with shock := x } :=
  h.upd rfl rfl ⟨[], (List.append_nil _).symm⟩ id (Nat.le_refl _) (fun _ => Nat.le_refl _) (by
    constructor <;> intro hb <;> first | rfl | (rw [hm] at hb; cases hb))

theorem Keeps.upd_wch (x) (hm : m.testBit 87 = true) (h : Keeps m s t) : Keeps m s { t with wch := x } :=
  h.upd rfl rfl ⟨[], (List.append_nil _).symm⟩ id (Nat.le_refl _) (fun _ => Nat.le_refl _) (by
    constructor <;> intro hb <;> first | rfl | (rw [hm] at hb; cases hb))

theorem Keeps.upd_rch (x) (hm : m.testBit 88 = true) (h : Keeps m s t) : Keeps m s { t with rch := x } :=
  h.upd rfl rfl ⟨[], (List.append_nil _).symm⟩ id (Nat.le_refl _) (fun _ => Nat.le_refl _) (by
    constructor <;> intro hb <;> first | rfl | (rw [hm] at hb; cases hb))

theorem Keeps.upd_deep (x) (hm : m.testBit 89 = true) (h : Keeps m s t) : Keeps m s { t with deep := x } :=
  h.upd rfl rfl ⟨[], (List.append_nil _).symm⟩ id (Nat.le_refl _) (fun _ => Nat.le_refl _) (by
    constructor <;> intro hb <;> first | rfl | (rw [hm] at hb; cases hb))

theorem Keeps.upd_mem (x) (hm : m.testBit 90 = true) (h : Keeps m s t) : Keeps m s { t with mem := x } :=
  h.upd rfl rfl ⟨[], (List.append_nil _).symm⟩ id (Nat.le_refl _) (fun _ => Nat.le_refl _) (by
    constructor <;> intro hb <;> first | rfl | (rw [hm] at hb; cases hb))

theorem Keeps.upd_vlt (x) (hm : m.testBit 91 = true) (h : Keeps m s t) : Keeps m s { t with vlt := x } :=
  h.upd rfl rfl ⟨[], (List.append_nil _).symm⟩ id (Nat.le_refl _) (fun _ => Nat.le_refl _) (by
    constructor <;> intro hb <;> first | rfl | (rw [hm] at hb; cases hb))

theorem Keeps.upd_xlt (x) (hm : m.testBit 92 = true) (h : Keeps m s t) : Keeps m s { t with xlt := x } :=
  h.upd rfl rfl ⟨[], (List.append_nil _).symm⟩ id (Nat.le_refl _) (fun _ => Nat.le_refl _) (by
    constructor <;> intro hb <;> first | rfl | (rw [hm] at hb; cases hb))

theorem Keeps.upd_xl1 (x) (hm : m.testBit 93 = true) (h : Keeps m s t) : Keeps m s { t with xl1 := x } :=
  h.upd rfl rfl ⟨[], (List.append_nil _).symm⟩ id (Nat.le_refl _) (fun _ => Nat.le_refl _) (by
    constructor <;> intro hb <;> first | rfl | (rw [hm] at hb; cases hb))

theorem Keeps.upd_cmp (x) (hm : m.testBit 94 = true) (h : Keeps m s t) : Keeps m s { t with cmp := x } :=
  h.upd rfl rfl ⟨[], (List.append_nil _).symm⟩ id (Nat.le_refl _) (fun _ => Nat.le_refl _) (by
    constructor <;> intro hb <;> first | rfl | (rw [hm] at hb; cases hb))

theorem Keeps.upd_eng (x) (hm : m.testBit 95 = true) (h : Keeps m s t) : Keeps m s { t with eng := x } :=
  h.upd rfl rfl ⟨[], (List.append_nil _).symm⟩ id (Nat.le_refl _) (fun _ => Nat.le_refl _) (by
    constructor <;> intro hb <;> first | rfl | (rw [hm] at hb; cases hb))

theorem Keeps.upd_hif (x) (hm : m.testBit 96 = true) (h : Keeps m s t) : Keeps m s { t with hif := x } :=
  h.upd rfl rfl ⟨[], (List.append_nil _).symm⟩ id (Nat.le_refl _) (fun _ => Nat.le_refl _) (by
    constructor <;> intro hb <;> first | rfl | (rw [hm] at hb; cases hb))

theorem Keeps.upd_sld (x) (hm : m.testBit 97 = true) (h : Keeps m s t) : Keeps m s { t with sld := x } :=
  h.upd rfl rfl ⟨[], (List.append_nil _).symm⟩ id (Nat.le_refl _) (fun _ => Nat.le_refl _) (by
    constructor <;> intro hb <;> first | rfl | (rw [hm] at hb; cases hb))

theorem Keeps.upd_sec (x) (hm : m.testBit 98 = true) (h : Keeps m s t) : Keeps m s { t with sec := x } :=
  h.upd rfl rfl ⟨[], (List.append_nil _).symm⟩ id (Nat.le_refl _) (fun _ => Nat.le_refl _) (by
    constructor <;> intro hb <;> first | rfl | (rw [hm] at hb; cases hb))

/-- An update of Invar's hidden part that does not move the stamp back. -/
theorem Keeps.upd_inv (x) (hm : m.testBit 81 = true) (hn : t.inv.now ≤ x.now) (h : Keeps m s t) :
    Keeps m s { t with inv := x } :=
  h.upd rfl rfl ⟨[], (List.append_nil _).symm⟩ id (Nat.le_refl _) (fun _ => hn) (by
    constructor <;> intro hb <;> first | rfl | (rw [hm] at hb; cases hb))

/-- The next free value is drawn. -/
theorem Keeps.upd_free (x) (hm : m.testBit 68 = true) (hn : t.free ≤ x) (h : Keeps m s t) :
    Keeps m s { t with free := x } :=
  h.upd rfl rfl ⟨[], (List.append_nil _).symm⟩ id hn (fun _ => Nat.le_refl _) (by
    constructor <;> intro hb <;> first | rfl | (rw [hm] at hb; cases hb))

theorem State.draw_keeps (hm : m.testBit 68 = true) (h : Keeps m s t) : Keeps m s t.draw.1 :=
  h.upd_free _ hm (Nat.le_succ _)

/-- An output is added at the end. -/
theorem State.emit_keeps (o : Out) (hm : m.testBit 69 = true) (h : Keeps m s t) : Keeps m s (t.emit o) :=
  h.upd rfl rfl ⟨[o], rfl⟩ id (Nat.le_refl _) (fun _ => Nat.le_refl _) (by
    constructor <;> intro hb <;> first | rfl | (rw [hm] at hb; cases hb))

/-! ### Several parts at once -/

theorem Keeps.upd_free_inv (x0 x1) (h0 : m.testBit 68 = true) (h1 : m.testBit 81 = true) (hf : t.free ≤ x0) (hn : t.inv.now ≤ x1.now) (h : Keeps m s t) :
    Keeps m s { t with free := x0, inv := x1 } :=
  h.upd rfl rfl ⟨[], (List.append_nil _).symm⟩ id hf (fun _ => hn) (by
    constructor <;> intro hb <;> first | rfl | (rw [h0] at hb; cases hb) | (rw [h1] at hb; cases hb))

theorem Keeps.upd_inv_wch (x0 x1) (h0 : m.testBit 81 = true) (h1 : m.testBit 87 = true) (hn : t.inv.now ≤ x0.now) (h : Keeps m s t) :
    Keeps m s { t with inv := x0, wch := x1 } :=
  h.upd rfl rfl ⟨[], (List.append_nil _).symm⟩ id (Nat.le_refl _) (fun _ => hn) (by
    constructor <;> intro hb <;> first | rfl | (rw [h0] at hb; cases hb) | (rw [h1] at hb; cases hb))

theorem Keeps.upd_inv_shock (x0 x1) (h0 : m.testBit 81 = true) (h1 : m.testBit 86 = true) (hn : t.inv.now ≤ x0.now) (h : Keeps m s t) :
    Keeps m s { t with inv := x0, shock := x1 } :=
  h.upd rfl rfl ⟨[], (List.append_nil _).symm⟩ id (Nat.le_refl _) (fun _ => hn) (by
    constructor <;> intro hb <;> first | rfl | (rw [h0] at hb; cases hb) | (rw [h1] at hb; cases hb))

theorem Keeps.upd_die_pwr (x0 x1) (h0 : m.testBit 70 = true) (h1 : m.testBit 74 = true) (h : Keeps m s t) :
    Keeps m s { t with die := x0, pwr := x1 } :=
  h.upd rfl rfl ⟨[], (List.append_nil _).symm⟩ id (Nat.le_refl _) (fun _ => Nat.le_refl _) (by
    constructor <;> intro hb <;> first | rfl | (rw [h0] at hb; cases hb) | (rw [h1] at hb; cases hb))

theorem Keeps.upd_wch_rch_deep (x0 x1 x2) (h0 : m.testBit 87 = true) (h1 : m.testBit 88 = true) (h2 : m.testBit 89 = true) (h : Keeps m s t) :
    Keeps m s { t with wch := x0, rch := x1, deep := x2 } :=
  h.upd rfl rfl ⟨[], (List.append_nil _).symm⟩ id (Nat.le_refl _) (fun _ => Nat.le_refl _) (by
    constructor <;> intro hb <;> first | rfl | (rw [h0] at hb; cases hb) | (rw [h1] at hb; cases hb) | (rw [h2] at hb; cases hb))

theorem Keeps.upd_die_pins (x0 x1) (h0 : m.testBit 70 = true) (h1 : m.testBit 72 = true) (h : Keeps m s t) :
    Keeps m s { t with die := x0, pins := x1 } :=
  h.upd rfl rfl ⟨[], (List.append_nil _).symm⟩ id (Nat.le_refl _) (fun _ => Nat.le_refl _) (by
    constructor <;> intro hb <;> first | rfl | (rw [h0] at hb; cases hb) | (rw [h1] at hb; cases hb))

theorem Keeps.upd_die_pd_pins (x0 x1 x2) (h0 : m.testBit 70 = true) (h1 : m.testBit 71 = true) (h2 : m.testBit 72 = true) (h : Keeps m s t) :
    Keeps m s { t with die := x0, pd := x1, pins := x2 } :=
  h.upd rfl rfl ⟨[], (List.append_nil _).symm⟩ id (Nat.le_refl _) (fun _ => Nat.le_refl _) (by
    constructor <;> intro hb <;> first | rfl | (rw [h0] at hb; cases hb) | (rw [h1] at hb; cases hb) | (rw [h2] at hb; cases hb))

theorem Keeps.upd_die_pd_pwr (x0 x1 x2) (h0 : m.testBit 70 = true) (h1 : m.testBit 71 = true) (h2 : m.testBit 74 = true) (h : Keeps m s t) :
    Keeps m s { t with die := x0, pd := x1, pwr := x2 } :=
  h.upd rfl rfl ⟨[], (List.append_nil _).symm⟩ id (Nat.le_refl _) (fun _ => Nat.le_refl _) (by
    constructor <;> intro hb <;> first | rfl | (rw [h0] at hb; cases hb) | (rw [h1] at hb; cases hb) | (rw [h2] at hb; cases hb))

theorem Keeps.upd_die_pd (x0 x1) (h0 : m.testBit 70 = true) (h1 : m.testBit 71 = true) (h : Keeps m s t) :
    Keeps m s { t with die := x0, pd := x1 } :=
  h.upd rfl rfl ⟨[], (List.append_nil _).symm⟩ id (Nat.le_refl _) (fun _ => Nat.le_refl _) (by
    constructor <;> intro hb <;> first | rfl | (rw [h0] at hb; cases hb) | (rw [h1] at hb; cases hb))

theorem Keeps.upd_die_pd_pins_pat (x0 x1 x2 x3) (h0 : m.testBit 70 = true) (h1 : m.testBit 71 = true) (h2 : m.testBit 72 = true) (h3 : m.testBit 79 = true) (h : Keeps m s t) :
    Keeps m s { t with die := x0, pd := x1, pins := x2, pat := x3 } :=
  h.upd rfl rfl ⟨[], (List.append_nil _).symm⟩ id (Nat.le_refl _) (fun _ => Nat.le_refl _) (by
    constructor <;> intro hb <;> first | rfl | (rw [h0] at hb; cases hb) | (rw [h1] at hb; cases hb) | (rw [h2] at hb; cases hb) | (rw [h3] at hb; cases hb))

theorem Keeps.upd_die_pwr_vlt (x0 x1 x2) (h0 : m.testBit 70 = true) (h1 : m.testBit 74 = true) (h2 : m.testBit 91 = true) (h : Keeps m s t) :
    Keeps m s { t with die := x0, pwr := x1, vlt := x2 } :=
  h.upd rfl rfl ⟨[], (List.append_nil _).symm⟩ id (Nat.le_refl _) (fun _ => Nat.le_refl _) (by
    constructor <;> intro hb <;> first | rfl | (rw [h0] at hb; cases hb) | (rw [h1] at hb; cases hb) | (rw [h2] at hb; cases hb))

theorem Keeps.upd_die_vlt (x0 x1) (h0 : m.testBit 70 = true) (h1 : m.testBit 91 = true) (h : Keeps m s t) :
    Keeps m s { t with die := x0, vlt := x1 } :=
  h.upd rfl rfl ⟨[], (List.append_nil _).symm⟩ id (Nat.le_refl _) (fun _ => Nat.le_refl _) (by
    constructor <;> intro hb <;> first | rfl | (rw [h0] at hb; cases hb) | (rw [h1] at hb; cases hb))

/-- Invar's hidden part is replaced where the mask lets the stamp fall back. -/
theorem Keeps.upd_inv_back (x) (hm : m.testBit 81 = true) (hb : m.testBit 99 = true) (h : Keeps m s t) :
    Keeps m s { t with inv := x } :=
  h.upd rfl rfl ⟨[], (List.append_nil _).symm⟩ id (Nat.le_refl _) (fun e => by rw [hb] at e; cases e) (by
    constructor <;> intro hc <;> first | rfl | (rw [hm] at hc; cases hc))

/-! ### Composition -/

theorem Keeps.ite {c : Prop} [Decidable c] (ht : c → Keeps m s t) (hu : ¬ c → Keeps m s u) :
    Keeps m s (if c then t else u) := by
  split
  · exact ht ‹_›
  · exact hu ‹_›

theorem Keeps.foldl {α : Type} {f : State → α → State} {l : List α} (hf : ∀ v e, Keeps m s v → Keeps m s (f v e))
    (h : Keeps m s t) : Keeps m s (l.foldl f t) := by
  induction l generalizing t with
  | nil => exact h
  | cons e l ih => exact ih (hf t e h)

theorem State.when_keeps (c : Bool) (f : State → State) (hf : ∀ v, Keeps m s v → Keeps m s (f v)) (h : Keeps m s t) :
    Keeps m s (t.when c f) := by
  cases c
  · exact h
  · exact hf t h

theorem live_keeps (f : State → State) (hf : ∀ v, Keeps m s v → Keeps m s (f v)) (h : Keeps m s t) : Keeps m s (live t f) := by
  unfold live
  split
  · exact hf t h
  · exact h

/-- What a step keeps when it goes on. -/
def KeepsRes (m : Nat) (s : State) (r : Res) : Prop := ∀ t, r = .next t → Keeps m s t

theorem KeepsRes.next (h : Keeps m s t) : KeepsRes m s (.next t) := fun _ e => by cases e; exact h

/-- What a field's block is in a requester's copy. -/
theorem Fld.blk_of (f : Fld) (r : Req) : (f.of r).blk = f.blk := by
  unfold Fld.of Fld.inBank Fld.blk Fld.key bankSize
  simp only
  omega

/-! ### Fields in lists -/

theorem Fld.blk_lt (f : Fld) : f.blk < 64 := by
  unfold Fld.blk bankSize
  omega

/-- Every block lies in a mask that names them all. -/
theorem blk_all (hm : 0xffffffffffffffff &&& m = 0xffffffffffffffff) (f : Fld) : m.testBit f.blk = true := by
  refine testBit_strengthen hm ?_
  have h := Fld.blk_lt f
  rw [show (0xffffffffffffffff : Nat) = 2 ^ 64 - 1 from rfl, Nat.testBit_two_pow_sub_one]
  exact decide_eq_true h

theorem Fld.blk_inBank (f : Fld) (b : Nat) : (f.inBank b).blk = f.blk := by
  unfold Fld.inBank Fld.blk Fld.key bankSize
  simp only
  omega

/-- A loop over a list changes what its body changes for the entries of the list. -/
theorem Keeps.foldl_mem {α : Type} {f : State → α → State} {l : List α}
    (hf : ∀ v e, e ∈ l → Keeps m s v → Keeps m s (f v e)) (h : Keeps m s t) : Keeps m s (l.foldl f t) := by
  induction l generalizing t with
  | nil => exact h
  | cons e l ih =>
    exact ih (fun v x hx => hf v x (List.mem_cons_of_mem _ hx)) (hf t e List.mem_cons_self h)

/-- Dropping entries keeps a table in order. -/
theorem tabSorted_filter {α : Type} (p : Nat × α → Bool) {l : Tab α} {lo : Option Nat} (h : tabSorted lo l = true) :
    tabSorted lo (l.filter p) = true := by
  induction l generalizing lo with
  | nil => exact h
  | cons e l ih =>
    have h := tabSorted_cons.1 h
    rw [List.filter_cons]
    split
    · exact tabSorted_cons.2 ⟨h.1, ih h.2⟩
    · have k := ih h.2
      cases lo with
      | none => exact tabSorted_weaken k
      | some x => exact tabSorted_lower (Nat.le_of_lt (h.1 x rfl)) k

/-- Dropping entries keeps a table canonical. -/
theorem tabWf_filter {α : Type} [DecidableEq α] (d : α) (p : Nat × α → Bool) {l : Tab α} (h : tabWf d l = true) :
    tabWf d (l.filter p) = true := by
  simp only [tabWf, Bool.and_eq_true, List.all_eq_true, decide_eq_true_eq] at h ⊢
  exact ⟨tabSorted_filter p h.1, fun e he => h.2 e (List.mem_filter.1 he).1⟩

end Sys2Proof.Machine
end

