-- ==== Sys2Proof/Laws/Blocks.lean ====
section
/-!
SUPPORT. The block of each indexed register field that an operation writes.
-/
namespace Sys2Proof.Machine

theorem ACT_MA_OUT_CODE_blk (x0 : Nat) : (ACT_MA_OUT_CODE x0).blk = 8 := by unfold ACT_MA_OUT_CODE Fld.blk Fld.key bankSize; simp only; omega
theorem ACT_VCM_ILIM_MA_blk (x0 : Nat) : (ACT_VCM_ILIM_MA x0).blk = 8 := by unfold ACT_VCM_ILIM_MA Fld.blk Fld.key bankSize; simp only; omega
theorem BUF_DMA_CTL_GO_blk (x0 : Nat) : (BUF_DMA_CTL_GO x0).blk = 22 := by unfold BUF_DMA_CTL_GO Fld.blk Fld.key bankSize; simp only; omega
theorem BUF_DMA_CTL_HALTED_blk (x0 : Nat) : (BUF_DMA_CTL_HALTED x0).blk = 22 := by unfold BUF_DMA_CTL_HALTED Fld.blk Fld.key bankSize; simp only; omega
theorem BUF_DMA_CTL_OP_blk (x0 : Nat) : (BUF_DMA_CTL_OP x0).blk = 22 := by unfold BUF_DMA_CTL_OP Fld.blk Fld.key bankSize; simp only; omega
theorem BUF_DMA_DST_ADDR_blk (x0 : Nat) : (BUF_DMA_DST_ADDR x0).blk = 22 := by unfold BUF_DMA_DST_ADDR Fld.blk Fld.key bankSize; simp only; omega
theorem BUF_DMA_DST_SPACE_blk (x0 : Nat) : (BUF_DMA_DST_SPACE x0).blk = 22 := by unfold BUF_DMA_DST_SPACE Fld.blk Fld.key bankSize; simp only; omega
theorem BUF_DMA_LEN_BLOCKS_blk (x0 : Nat) : (BUF_DMA_LEN_BLOCKS x0).blk = 22 := by unfold BUF_DMA_LEN_BLOCKS Fld.blk Fld.key bankSize; simp only; omega
theorem BUF_DMA_SRC_ADDR_blk (x0 : Nat) : (BUF_DMA_SRC_ADDR x0).blk = 22 := by unfold BUF_DMA_SRC_ADDR Fld.blk Fld.key bankSize; simp only; omega
theorem BUF_DMA_SRC_RSV28_blk (x0 : Nat) : (BUF_DMA_SRC_RSV28 x0).blk = 22 := by unfold BUF_DMA_SRC_RSV28 Fld.blk Fld.key bankSize; simp only; omega
theorem BUF_DMA_SRC_SPACE_blk (x0 : Nat) : (BUF_DMA_SRC_SPACE x0).blk = 22 := by unfold BUF_DMA_SRC_SPACE Fld.blk Fld.key bankSize; simp only; omega
theorem BUF_SEG_W_blk (x0 : Nat) : (BUF_SEG_W x0).blk = 22 := by unfold BUF_SEG_W Fld.blk Fld.key bankSize; simp only; omega
theorem BUL_LEASE_W0_MA_blk (x0 : Nat) : (BUL_LEASE_W0_MA x0).blk = 28 := by unfold BUL_LEASE_W0_MA Fld.blk Fld.key bankSize; simp only; omega
theorem BUL_LEASE_W0_OUT_blk (x0 : Nat) : (BUL_LEASE_W0_OUT x0).blk = 28 := by unfold BUL_LEASE_W0_OUT Fld.blk Fld.key bankSize; simp only; omega
theorem BUL_LEASE_W0_PEER_blk (x0 : Nat) : (BUL_LEASE_W0_PEER x0).blk = 28 := by unfold BUL_LEASE_W0_PEER Fld.blk Fld.key bankSize; simp only; omega
theorem BUL_LEASE_W0_VALID_blk (x0 : Nat) : (BUL_LEASE_W0_VALID x0).blk = 28 := by unfold BUL_LEASE_W0_VALID Fld.blk Fld.key bankSize; simp only; omega
theorem BUL_LEASE_W1_END_blk (x0 : Nat) : (BUL_LEASE_W1_END x0).blk = 28 := by unfold BUL_LEASE_W1_END Fld.blk Fld.key bankSize; simp only; omega
theorem CAL_HELD_HELD_blk (x0 : Nat) : (CAL_HELD_HELD x0).blk = 31 := by unfold CAL_HELD_HELD Fld.blk Fld.key bankSize; simp only; omega
theorem CAL_HIST_COUNT_blk (x0 : Nat) : (CAL_HIST_COUNT x0).blk = 31 := by unfold CAL_HIST_COUNT Fld.blk Fld.key bankSize; simp only; omega
theorem CAL_ITEM_DUE_blk (x0 : Nat) : (CAL_ITEM_DUE x0).blk = 31 := by unfold CAL_ITEM_DUE Fld.blk Fld.key bankSize; simp only; omega
theorem CAL_LAST_FAILS_blk (x0 x1 : Nat) : (CAL_LAST_FAILS x0 x1).blk = 31 := by unfold CAL_LAST_FAILS Fld.blk Fld.key bankSize; simp only; omega
theorem CAL_LAST_LAST_T_blk (x0 x1 : Nat) : (CAL_LAST_LAST_T x0 x1).blk = 31 := by unfold CAL_LAST_LAST_T Fld.blk Fld.key bankSize; simp only; omega
theorem CAL_LAST_VALID_blk (x0 x1 : Nat) : (CAL_LAST_VALID x0 x1).blk = 31 := by unfold CAL_LAST_VALID Fld.blk Fld.key bankSize; simp only; omega
theorem CLK_CHSYN_EN_blk (x0 : Nat) : (CLK_CHSYN_EN x0).blk = 30 := by unfold CLK_CHSYN_EN Fld.blk Fld.key bankSize; simp only; omega
theorem CLK_CHSYN_LOCK_blk (x0 : Nat) : (CLK_CHSYN_LOCK x0).blk = 30 := by unfold CLK_CHSYN_LOCK Fld.blk Fld.key bankSize; simp only; omega
theorem CLK_MUX_BUSY_blk (x0 : Nat) : (CLK_MUX_BUSY x0).blk = 30 := by unfold CLK_MUX_BUSY Fld.blk Fld.key bankSize; simp only; omega
theorem CLK_MUX_SEL_blk (x0 : Nat) : (CLK_MUX_SEL x0).blk = 30 := by unfold CLK_MUX_SEL Fld.blk Fld.key bankSize; simp only; omega
theorem CLK_PLL_COASTING_blk (x0 : Nat) : (CLK_PLL_COASTING x0).blk = 30 := by unfold CLK_PLL_COASTING Fld.blk Fld.key bankSize; simp only; omega
theorem CLK_PLL_EN_blk (x0 : Nat) : (CLK_PLL_EN x0).blk = 30 := by unfold CLK_PLL_EN Fld.blk Fld.key bankSize; simp only; omega
theorem CLK_PLL_FREQ_MHZ_blk (x0 : Nat) : (CLK_PLL_FREQ_MHZ x0).blk = 30 := by unfold CLK_PLL_FREQ_MHZ Fld.blk Fld.key bankSize; simp only; omega
theorem CLK_PLL_LOCK_blk (x0 : Nat) : (CLK_PLL_LOCK x0).blk = 30 := by unfold CLK_PLL_LOCK Fld.blk Fld.key bankSize; simp only; omega
theorem CMP_ENG_IN_KIB_blk (x0 : Nat) : (CMP_ENG_IN_KIB x0).blk = 18 := by unfold CMP_ENG_IN_KIB Fld.blk Fld.key bankSize; simp only; omega
theorem CMP_ENG_OUT_KIB_blk (x0 : Nat) : (CMP_ENG_OUT_KIB x0).blk = 18 := by unfold CMP_ENG_OUT_KIB Fld.blk Fld.key bankSize; simp only; omega
theorem CMP_JQ_W_blk (x0 : Nat) : (CMP_JQ_W x0).blk = 18 := by unfold CMP_JQ_W Fld.blk Fld.key bankSize; simp only; omega
theorem ENG_CTX_G_VALUE_blk (x0 x1 : Nat) : (ENG_CTX_G_VALUE x0 x1).blk = 26 := by unfold ENG_CTX_G_VALUE Fld.blk Fld.key bankSize; simp only; omega
theorem ENG_MAP_ENGINE_blk (x0 : Nat) : (ENG_MAP_ENGINE x0).blk = 26 := by unfold ENG_MAP_ENGINE Fld.blk Fld.key bankSize; simp only; omega
theorem ENG_MAP_VALID_blk (x0 : Nat) : (ENG_MAP_VALID x0).blk = 26 := by unfold ENG_MAP_VALID Fld.blk Fld.key bankSize; simp only; omega
theorem ENG_ROLE_CTL_START_blk (x0 : Nat) : (ENG_ROLE_CTL_START x0).blk = 26 := by unfold ENG_ROLE_CTL_START Fld.blk Fld.key bankSize; simp only; omega
theorem ENG_ROLE_DB_VALUE_blk (x0 : Nat) : (ENG_ROLE_DB_VALUE x0).blk = 26 := by unfold ENG_ROLE_DB_VALUE Fld.blk Fld.key bankSize; simp only; omega
theorem ENG_ROLE_IMG_ADDR_blk (x0 : Nat) : (ENG_ROLE_IMG_ADDR x0).blk = 26 := by unfold ENG_ROLE_IMG_ADDR Fld.blk Fld.key bankSize; simp only; omega
theorem ENG_ROLE_IPEND_PEND_blk (x0 : Nat) : (ENG_ROLE_IPEND_PEND x0).blk = 26 := by unfold ENG_ROLE_IPEND_PEND Fld.blk Fld.key bankSize; simp only; omega
theorem ENG_SE_FAULT_FCODE_blk (x0 : Nat) : (ENG_SE_FAULT_FCODE x0).blk = 26 := by unfold ENG_SE_FAULT_FCODE Fld.blk Fld.key bankSize; simp only; omega
theorem ENG_SE_FAULT_FPC_blk (x0 : Nat) : (ENG_SE_FAULT_FPC x0).blk = 26 := by unfold ENG_SE_FAULT_FPC Fld.blk Fld.key bankSize; simp only; omega
theorem ENG_SE_STAT_LEVEL_blk (x0 : Nat) : (ENG_SE_STAT_LEVEL x0).blk = 26 := by unfold ENG_SE_STAT_LEVEL Fld.blk Fld.key bankSize; simp only; omega
theorem ENG_SE_STAT_PC_blk (x0 : Nat) : (ENG_SE_STAT_PC x0).blk = 26 := by unfold ENG_SE_STAT_PC Fld.blk Fld.key bankSize; simp only; omega
theorem ENG_SE_STAT_ROLE_blk (x0 : Nat) : (ENG_SE_STAT_ROLE x0).blk = 26 := by unfold ENG_SE_STAT_ROLE Fld.blk Fld.key bankSize; simp only; omega
theorem ENG_SE_STAT_STATE_blk (x0 : Nat) : (ENG_SE_STAT_STATE x0).blk = 26 := by unfold ENG_SE_STAT_STATE Fld.blk Fld.key bankSize; simp only; omega
theorem HIF_C_STAT_DBBUF_blk (x0 : Nat) : (HIF_C_STAT_DBBUF x0).blk = 20 := by unfold HIF_C_STAT_DBBUF Fld.blk Fld.key bankSize; simp only; omega
theorem HIF_C_STAT_EN_blk (x0 : Nat) : (HIF_C_STAT_EN x0).blk = 20 := by unfold HIF_C_STAT_EN Fld.blk Fld.key bankSize; simp only; omega
theorem HIF_C_STAT_FAST_blk (x0 : Nat) : (HIF_C_STAT_FAST x0).blk = 20 := by unfold HIF_C_STAT_FAST Fld.blk Fld.key bankSize; simp only; omega
theorem HIF_C_STAT_PP_blk (x0 : Nat) : (HIF_C_STAT_PP x0).blk = 20 := by unfold HIF_C_STAT_PP Fld.blk Fld.key bankSize; simp only; omega
theorem HIF_C_STAT_RDY_blk (x0 : Nat) : (HIF_C_STAT_RDY x0).blk = 20 := by unfold HIF_C_STAT_RDY Fld.blk Fld.key bankSize; simp only; omega
theorem HIF_PORT_LINK_UP_blk (x0 : Nat) : (HIF_PORT_LINK_UP x0).blk = 20 := by unfold HIF_PORT_LINK_UP Fld.blk Fld.key bankSize; simp only; omega
theorem HIF_PORT_LTSSM_blk (x0 : Nat) : (HIF_PORT_LTSSM x0).blk = 20 := by unfold HIF_PORT_LTSSM Fld.blk Fld.key bankSize; simp only; omega
theorem HIF_PORT_SPEED_blk (x0 : Nat) : (HIF_PORT_SPEED x0).blk = 20 := by unfold HIF_PORT_SPEED Fld.blk Fld.key bankSize; simp only; omega
theorem HIF_PORT_WIDTH_blk (x0 : Nat) : (HIF_PORT_WIDTH x0).blk = 20 := by unfold HIF_PORT_WIDTH Fld.blk Fld.key bankSize; simp only; omega
theorem INV_RING_CANCEL_TAG_blk (x0 : Nat) : (INV_RING_CANCEL_TAG x0).blk = 2 := by unfold INV_RING_CANCEL_TAG Fld.blk Fld.key bankSize; simp only; omega
theorem INV_RING_RESP_DONE_blk (x0 : Nat) : (INV_RING_RESP_DONE x0).blk = 2 := by unfold INV_RING_RESP_DONE Fld.blk Fld.key bankSize; simp only; omega
theorem INV_RING_RESP_RESULT_blk (x0 : Nat) : (INV_RING_RESP_RESULT x0).blk = 2 := by unfold INV_RING_RESP_RESULT Fld.blk Fld.key bankSize; simp only; omega
theorem INV_RING_STAT_HWM_blk (x0 : Nat) : (INV_RING_STAT_HWM x0).blk = 2 := by unfold INV_RING_STAT_HWM Fld.blk Fld.key bankSize; simp only; omega
theorem INV_RING_W_blk (x0 x1 : Nat) : (INV_RING_W x0 x1).blk = 2 := by unfold INV_RING_W Fld.blk Fld.key bankSize; simp only; omega
theorem INV_SKEW_MEAS_NEW_blk (x0 : Nat) : (INV_SKEW_MEAS_NEW x0).blk = 2 := by unfold INV_SKEW_MEAS_NEW Fld.blk Fld.key bankSize; simp only; omega
theorem INV_SKEW_MEAS_VALUE_blk (x0 : Nat) : (INV_SKEW_MEAS_VALUE x0).blk = 2 := by unfold INV_SKEW_MEAS_VALUE Fld.blk Fld.key bankSize; simp only; omega
theorem INV_SKEW_VALUE_blk (x0 : Nat) : (INV_SKEW_VALUE x0).blk = 2 := by unfold INV_SKEW_VALUE Fld.blk Fld.key bankSize; simp only; omega
theorem INV_WTMR_ARM_blk (x0 : Nat) : (INV_WTMR_ARM x0).blk = 2 := by unfold INV_WTMR_ARM Fld.blk Fld.key bankSize; simp only; omega
theorem INV_WTMR_INTERVAL_blk (x0 : Nat) : (INV_WTMR_INTERVAL x0).blk = 2 := by unfold INV_WTMR_INTERVAL Fld.blk Fld.key bankSize; simp only; omega
theorem INV_WTMR_PERIODIC_blk (x0 : Nat) : (INV_WTMR_PERIODIC x0).blk = 2 := by unfold INV_WTMR_PERIODIC Fld.blk Fld.key bankSize; simp only; omega
theorem MEM_RETIRE_REGION_blk (x0 : Nat) : (MEM_RETIRE_REGION x0).blk = 23 := by unfold MEM_RETIRE_REGION Fld.blk Fld.key bankSize; simp only; omega
theorem MEM_RETIRE_VALID_blk (x0 : Nat) : (MEM_RETIRE_VALID x0).blk = 23 := by unfold MEM_RETIRE_VALID Fld.blk Fld.key bankSize; simp only; omega
theorem PAT_TEN_EN_blk (x0 : Nat) : (PAT_TEN_EN x0).blk = 41 := by unfold PAT_TEN_EN Fld.blk Fld.key bankSize; simp only; omega
theorem PWR_MON_HYST_blk (x0 : Nat) : (PWR_MON_HYST x0).blk = 29 := by unfold PWR_MON_HYST Fld.blk Fld.key bankSize; simp only; omega
theorem PWR_MON_RESET_MV_blk (x0 : Nat) : (PWR_MON_RESET_MV x0).blk = 29 := by unfold PWR_MON_RESET_MV Fld.blk Fld.key bankSize; simp only; omega
theorem PWR_MON_WARN_MV_blk (x0 : Nat) : (PWR_MON_WARN_MV x0).blk = 29 := by unfold PWR_MON_WARN_MV Fld.blk Fld.key bankSize; simp only; omega
theorem QCH_CAUSE_CAUSE_blk (x0 : Nat) : (QCH_CAUSE_CAUSE x0).blk = 3 := by unfold QCH_CAUSE_CAUSE Fld.blk Fld.key bankSize; simp only; omega
theorem QCH_RW_STAT_OVF_blk (x0 : Nat) : (QCH_RW_STAT_OVF x0).blk = 3 := by unfold QCH_RW_STAT_OVF Fld.blk Fld.key bankSize; simp only; omega
theorem RCH_ACT_W0_AGC_TGT_blk (x0 : Nat) : (RCH_ACT_W0_AGC_TGT x0).blk = 12 := by unfold RCH_ACT_W0_AGC_TGT Fld.blk Fld.key bankSize; simp only; omega
theorem RCH_ACT_W0_CTF_BOOST_blk (x0 : Nat) : (RCH_ACT_W0_CTF_BOOST x0).blk = 12 := by unfold RCH_ACT_W0_CTF_BOOST Fld.blk Fld.key bankSize; simp only; omega
theorem RCH_ACT_W0_CTF_FC_blk (x0 : Nat) : (RCH_ACT_W0_CTF_FC x0).blk = 12 := by unfold RCH_ACT_W0_CTF_FC Fld.blk Fld.key bankSize; simp only; omega
theorem RCH_ACT_W0_EQ_SET_blk (x0 : Nat) : (RCH_ACT_W0_EQ_SET x0).blk = 12 := by unfold RCH_ACT_W0_EQ_SET Fld.blk Fld.key bankSize; simp only; omega
theorem RCH_ACT_W1_ASYM0_blk (x0 : Nat) : (RCH_ACT_W1_ASYM0 x0).blk = 12 := by unfold RCH_ACT_W1_ASYM0 Fld.blk Fld.key bankSize; simp only; omega
theorem RCH_ACT_W1_ASYM1_blk (x0 : Nat) : (RCH_ACT_W1_ASYM1 x0).blk = 12 := by unfold RCH_ACT_W1_ASYM1 Fld.blk Fld.key bankSize; simp only; omega
theorem RCH_ACT_W1_OFS0_blk (x0 : Nat) : (RCH_ACT_W1_OFS0 x0).blk = 12 := by unfold RCH_ACT_W1_OFS0 Fld.blk Fld.key bankSize; simp only; omega
theorem RCH_ACT_W1_OFS1_blk (x0 : Nat) : (RCH_ACT_W1_OFS1 x0).blk = 12 := by unfold RCH_ACT_W1_OFS1 Fld.blk Fld.key bankSize; simp only; omega
theorem RCH_ACT_W2_GLOBAL_MAX_blk (x0 : Nat) : (RCH_ACT_W2_GLOBAL_MAX x0).blk = 12 := by unfold RCH_ACT_W2_GLOBAL_MAX Fld.blk Fld.key bankSize; simp only; omega
theorem RCH_ACT_W2_LLR_SCALE_blk (x0 : Nat) : (RCH_ACT_W2_LLR_SCALE x0).blk = 12 := by unfold RCH_ACT_W2_LLR_SCALE Fld.blk Fld.key bankSize; simp only; omega
theorem RCH_ACT_W2_LOCAL_MAX_blk (x0 : Nat) : (RCH_ACT_W2_LOCAL_MAX x0).blk = 12 := by unfold RCH_ACT_W2_LOCAL_MAX Fld.blk Fld.key bankSize; simp only; omega
theorem RCH_ACT_W2_NMS_blk (x0 : Nat) : (RCH_ACT_W2_NMS x0).blk = 12 := by unfold RCH_ACT_W2_NMS Fld.blk Fld.key bankSize; simp only; omega
theorem RCH_ACT_W2_TA_LIM_blk (x0 : Nat) : (RCH_ACT_W2_TA_LIM x0).blk = 12 := by unfold RCH_ACT_W2_TA_LIM Fld.blk Fld.key bankSize; simp only; omega
theorem RCH_AGC_GAIN0_blk (x0 : Nat) : (RCH_AGC_GAIN0 x0).blk = 12 := by unfold RCH_AGC_GAIN0 Fld.blk Fld.key bankSize; simp only; omega
theorem RCH_AGC_GAIN1_blk (x0 : Nat) : (RCH_AGC_GAIN1 x0).blk = 12 := by unfold RCH_AGC_GAIN1 Fld.blk Fld.key bankSize; simp only; omega
theorem RCH_CTL_ADAPT_blk (x0 : Nat) : (RCH_CTL_ADAPT x0).blk = 12 := by unfold RCH_CTL_ADAPT Fld.blk Fld.key bankSize; simp only; omega
theorem RCH_CTL_AUTOPIN_blk (x0 : Nat) : (RCH_CTL_AUTOPIN x0).blk = 12 := by unfold RCH_CTL_AUTOPIN Fld.blk Fld.key bankSize; simp only; omega
theorem RCH_CTL_EN_blk (x0 : Nat) : (RCH_CTL_EN x0).blk = 12 := by unfold RCH_CTL_EN Fld.blk Fld.key bankSize; simp only; omega
theorem RCH_CTL_INQ_LIM_blk (x0 : Nat) : (RCH_CTL_INQ_LIM x0).blk = 12 := by unfold RCH_CTL_INQ_LIM Fld.blk Fld.key bankSize; simp only; omega
theorem RCH_CTL_TA_EN_blk (x0 : Nat) : (RCH_CTL_TA_EN x0).blk = 12 := by unfold RCH_CTL_TA_EN Fld.blk Fld.key bankSize; simp only; omega
theorem RCH_DEC_CNT_FRAMES_blk (x0 : Nat) : (RCH_DEC_CNT_FRAMES x0).blk = 12 := by unfold RCH_DEC_CNT_FRAMES Fld.blk Fld.key bankSize; simp only; omega
theorem RCH_DEC_ITER_LOCAL_blk (x0 : Nat) : (RCH_DEC_ITER_LOCAL x0).blk = 12 := by unfold RCH_DEC_ITER_LOCAL Fld.blk Fld.key bankSize; simp only; omega
theorem RCH_DEC_STAT_FAULT_blk (x0 : Nat) : (RCH_DEC_STAT_FAULT x0).blk = 12 := by unfold RCH_DEC_STAT_FAULT Fld.blk Fld.key bankSize; simp only; omega
theorem RCH_EQ_TAP_blk (x0 x1 : Nat) : (RCH_EQ_TAP x0 x1).blk = 12 := by unfold RCH_EQ_TAP Fld.blk Fld.key bankSize; simp only; omega
theorem RCH_FQ_RESP_DONE_blk (x0 : Nat) : (RCH_FQ_RESP_DONE x0).blk = 12 := by unfold RCH_FQ_RESP_DONE Fld.blk Fld.key bankSize; simp only; omega
theorem RCH_FQ_RESP_RESULT_blk (x0 : Nat) : (RCH_FQ_RESP_RESULT x0).blk = 12 := by unfold RCH_FQ_RESP_RESULT Fld.blk Fld.key bankSize; simp only; omega
theorem RCH_FQ_W_blk (x0 x1 : Nat) : (RCH_FQ_W x0 x1).blk = 12 := by unfold RCH_FQ_W Fld.blk Fld.key bankSize; simp only; omega
theorem RCH_FRAME_OFS_HEAD_blk (x0 : Nat) : (RCH_FRAME_OFS_HEAD x0).blk = 12 := by unfold RCH_FRAME_OFS_HEAD Fld.blk Fld.key bankSize; simp only; omega
theorem RCH_FRAME_OFS_OFS_blk (x0 : Nat) : (RCH_FRAME_OFS_OFS x0).blk = 12 := by unfold RCH_FRAME_OFS_OFS Fld.blk Fld.key bankSize; simp only; omega
theorem RCH_FRAME_OFS_VALID_blk (x0 : Nat) : (RCH_FRAME_OFS_VALID x0).blk = 12 := by unfold RCH_FRAME_OFS_VALID Fld.blk Fld.key bankSize; simp only; omega
theorem RCH_HZ_W0_AGC_TGT_blk (x0 x1 : Nat) : (RCH_HZ_W0_AGC_TGT x0 x1).blk = 12 := by unfold RCH_HZ_W0_AGC_TGT Fld.blk Fld.key bankSize; simp only; omega
theorem RCH_HZ_W0_CTF_BOOST_blk (x0 x1 : Nat) : (RCH_HZ_W0_CTF_BOOST x0 x1).blk = 12 := by unfold RCH_HZ_W0_CTF_BOOST Fld.blk Fld.key bankSize; simp only; omega
theorem RCH_HZ_W0_CTF_FC_blk (x0 x1 : Nat) : (RCH_HZ_W0_CTF_FC x0 x1).blk = 12 := by unfold RCH_HZ_W0_CTF_FC Fld.blk Fld.key bankSize; simp only; omega
theorem RCH_HZ_W0_EQ_SET_blk (x0 x1 : Nat) : (RCH_HZ_W0_EQ_SET x0 x1).blk = 12 := by unfold RCH_HZ_W0_EQ_SET Fld.blk Fld.key bankSize; simp only; omega
theorem RCH_HZ_W1_ASYM0_blk (x0 x1 : Nat) : (RCH_HZ_W1_ASYM0 x0 x1).blk = 12 := by unfold RCH_HZ_W1_ASYM0 Fld.blk Fld.key bankSize; simp only; omega
theorem RCH_HZ_W1_ASYM1_blk (x0 x1 : Nat) : (RCH_HZ_W1_ASYM1 x0 x1).blk = 12 := by unfold RCH_HZ_W1_ASYM1 Fld.blk Fld.key bankSize; simp only; omega
theorem RCH_HZ_W1_OFS0_blk (x0 x1 : Nat) : (RCH_HZ_W1_OFS0 x0 x1).blk = 12 := by unfold RCH_HZ_W1_OFS0 Fld.blk Fld.key bankSize; simp only; omega
theorem RCH_HZ_W1_OFS1_blk (x0 x1 : Nat) : (RCH_HZ_W1_OFS1 x0 x1).blk = 12 := by unfold RCH_HZ_W1_OFS1 Fld.blk Fld.key bankSize; simp only; omega
theorem RCH_HZ_W2_GLOBAL_MAX_blk (x0 x1 : Nat) : (RCH_HZ_W2_GLOBAL_MAX x0 x1).blk = 12 := by unfold RCH_HZ_W2_GLOBAL_MAX Fld.blk Fld.key bankSize; simp only; omega
theorem RCH_HZ_W2_LLR_SCALE_blk (x0 x1 : Nat) : (RCH_HZ_W2_LLR_SCALE x0 x1).blk = 12 := by unfold RCH_HZ_W2_LLR_SCALE Fld.blk Fld.key bankSize; simp only; omega
theorem RCH_HZ_W2_LOCAL_MAX_blk (x0 x1 : Nat) : (RCH_HZ_W2_LOCAL_MAX x0 x1).blk = 12 := by unfold RCH_HZ_W2_LOCAL_MAX Fld.blk Fld.key bankSize; simp only; omega
theorem RCH_HZ_W2_NMS_blk (x0 x1 : Nat) : (RCH_HZ_W2_NMS x0 x1).blk = 12 := by unfold RCH_HZ_W2_NMS Fld.blk Fld.key bankSize; simp only; omega
theorem RCH_HZ_W2_TA_LIM_blk (x0 x1 : Nat) : (RCH_HZ_W2_TA_LIM x0 x1).blk = 12 := by unfold RCH_HZ_W2_TA_LIM Fld.blk Fld.key bankSize; simp only; omega
theorem RCH_SB_PINCTL_SLOT_blk (x0 : Nat) : (RCH_SB_PINCTL_SLOT x0).blk = 12 := by unfold RCH_SB_PINCTL_SLOT Fld.blk Fld.key bankSize; simp only; omega
theorem RCH_SEL_HEAD_blk (x0 : Nat) : (RCH_SEL_HEAD x0).blk = 12 := by unfold RCH_SEL_HEAD Fld.blk Fld.key bankSize; simp only; omega
theorem RCH_SEL_LOAD_blk (x0 : Nat) : (RCH_SEL_LOAD x0).blk = 12 := by unfold RCH_SEL_LOAD Fld.blk Fld.key bankSize; simp only; omega
theorem RCH_SEL_READY_blk (x0 : Nat) : (RCH_SEL_READY x0).blk = 12 := by unfold RCH_SEL_READY Fld.blk Fld.key bankSize; simp only; omega
theorem RCH_SEL_RZ_blk (x0 : Nat) : (RCH_SEL_RZ x0).blk = 12 := by unfold RCH_SEL_RZ Fld.blk Fld.key bankSize; simp only; omega
theorem RCH_STAT_DROPPED_blk (x0 : Nat) : (RCH_STAT_DROPPED x0).blk = 12 := by unfold RCH_STAT_DROPPED Fld.blk Fld.key bankSize; simp only; omega
theorem RCH_STAT_FAIL_blk (x0 : Nat) : (RCH_STAT_FAIL x0).blk = 12 := by unfold RCH_STAT_FAIL Fld.blk Fld.key bankSize; simp only; omega
theorem RCH_STAT_MISCORR_blk (x0 : Nat) : (RCH_STAT_MISCORR x0).blk = 12 := by unfold RCH_STAT_MISCORR Fld.blk Fld.key bankSize; simp only; omega
theorem RCH_STAT_MISS_blk (x0 : Nat) : (RCH_STAT_MISS x0).blk = 12 := by unfold RCH_STAT_MISS Fld.blk Fld.key bankSize; simp only; omega
theorem RCH_STAT_OVERFLOW_blk (x0 : Nat) : (RCH_STAT_OVERFLOW x0).blk = 12 := by unfold RCH_STAT_OVERFLOW Fld.blk Fld.key bankSize; simp only; omega
theorem RCH_STAT_PIN_FULL_blk (x0 : Nat) : (RCH_STAT_PIN_FULL x0).blk = 12 := by unfold RCH_STAT_PIN_FULL Fld.blk Fld.key bankSize; simp only; omega
theorem RCH_STAT_SB_TRUNC_blk (x0 : Nat) : (RCH_STAT_SB_TRUNC x0).blk = 12 := by unfold RCH_STAT_SB_TRUNC Fld.blk Fld.key bankSize; simp only; omega
theorem RCH_STAT_TA_SEEN_blk (x0 : Nat) : (RCH_STAT_TA_SEEN x0).blk = 12 := by unfold RCH_STAT_TA_SEEN Fld.blk Fld.key bankSize; simp only; omega
theorem RCH_STAT_TP_REFUSED_blk (x0 : Nat) : (RCH_STAT_TP_REFUSED x0).blk = 12 := by unfold RCH_STAT_TP_REFUSED Fld.blk Fld.key bankSize; simp only; omega
theorem RCH_SYNC_RS_TOL_blk (x0 : Nat) : (RCH_SYNC_RS_TOL x0).blk = 12 := by unfold RCH_SYNC_RS_TOL Fld.blk Fld.key bankSize; simp only; omega
theorem RCH_TP_ADDR_ADDR_blk (x0 : Nat) : (RCH_TP_ADDR_ADDR x0).blk = 12 := by unfold RCH_TP_ADDR_ADDR Fld.blk Fld.key bankSize; simp only; omega
theorem RCH_TP_CTL_SB_SLOT_blk (x0 : Nat) : (RCH_TP_CTL_SB_SLOT x0).blk = 12 := by unfold RCH_TP_CTL_SB_SLOT Fld.blk Fld.key bankSize; simp only; omega
theorem SEC_DBG_CHAL_NONCE_blk (x0 : Nat) : (SEC_DBG_CHAL_NONCE x0).blk = 44 := by unfold SEC_DBG_CHAL_NONCE Fld.blk Fld.key bankSize; simp only; omega
theorem SEC_NSKEY_ENC_blk (x0 : Nat) : (SEC_NSKEY_ENC x0).blk = 44 := by unfold SEC_NSKEY_ENC Fld.blk Fld.key bankSize; simp only; omega
theorem SEC_NSKEY_GEN_blk (x0 : Nat) : (SEC_NSKEY_GEN x0).blk = 44 := by unfold SEC_NSKEY_GEN Fld.blk Fld.key bankSize; simp only; omega
theorem SEC_NSKEY_LOADED_blk (x0 : Nat) : (SEC_NSKEY_LOADED x0).blk = 44 := by unfold SEC_NSKEY_LOADED Fld.blk Fld.key bankSize; simp only; omega
theorem SLD_CP_W_blk (x0 : Nat) : (SLD_CP_W x0).blk = 42 := by unfold SLD_CP_W Fld.blk Fld.key bankSize; simp only; omega
theorem SLD_MB_W_blk (x0 : Nat) : (SLD_MB_W x0).blk = 42 := by unfold SLD_MB_W Fld.blk Fld.key bankSize; simp only; omega
theorem SLD_MSG_W_blk (x0 : Nat) : (SLD_MSG_W x0).blk = 42 := by unfold SLD_MSG_W Fld.blk Fld.key bankSize; simp only; omega
theorem SLD_P_CTL_EN_blk (x0 : Nat) : (SLD_P_CTL_EN x0).blk = 42 := by unfold SLD_P_CTL_EN Fld.blk Fld.key bankSize; simp only; omega
theorem SLD_P_CTL_PRBS_blk (x0 : Nat) : (SLD_P_CTL_PRBS x0).blk = 42 := by unfold SLD_P_CTL_PRBS Fld.blk Fld.key bankSize; simp only; omega
theorem SLD_P_ERR_COUNT_blk (x0 : Nat) : (SLD_P_ERR_COUNT x0).blk = 42 := by unfold SLD_P_ERR_COUNT Fld.blk Fld.key bankSize; simp only; omega
theorem SLD_P_FEC_CORR_COUNT_blk (x0 : Nat) : (SLD_P_FEC_CORR_COUNT x0).blk = 42 := by unfold SLD_P_FEC_CORR_COUNT Fld.blk Fld.key bankSize; simp only; omega
theorem SLD_P_FEC_UNC_COUNT_blk (x0 : Nat) : (SLD_P_FEC_UNC_COUNT x0).blk = 42 := by unfold SLD_P_FEC_UNC_COUNT Fld.blk Fld.key bankSize; simp only; omega
theorem SLD_P_REPLAY_COUNT_blk (x0 : Nat) : (SLD_P_REPLAY_COUNT x0).blk = 42 := by unfold SLD_P_REPLAY_COUNT Fld.blk Fld.key bankSize; simp only; omega
theorem SLD_P_STAT_PEER_NODE_blk (x0 : Nat) : (SLD_P_STAT_PEER_NODE x0).blk = 42 := by unfold SLD_P_STAT_PEER_NODE Fld.blk Fld.key bankSize; simp only; omega
theorem SLD_P_STAT_PEER_PORT_blk (x0 : Nat) : (SLD_P_STAT_PEER_PORT x0).blk = 42 := by unfold SLD_P_STAT_PEER_PORT Fld.blk Fld.key bankSize; simp only; omega
theorem SLD_P_STAT_STATE_blk (x0 : Nat) : (SLD_P_STAT_STATE x0).blk = 42 := by unfold SLD_P_STAT_STATE Fld.blk Fld.key bankSize; simp only; omega
theorem SRV_CFG_EN_bit {m : Nat} (h : m.testBit 6 = true) (k : m.testBit 7 = true) (x0 : Nat) :
    m.testBit (SRV_CFG_EN x0).blk = true := by
  have e : (SRV_CFG_EN x0).blk = 6 + x0 % 2 := by unfold SRV_CFG_EN Fld.blk Fld.key bankSize; simp only; omega
  rw [e]; rcases Nat.mod_two_eq_zero_or_one x0 with p | p <;> rw [p] <;> assumption
theorem SRV_CFG_SAM_WIN_bit {m : Nat} (h : m.testBit 6 = true) (k : m.testBit 7 = true) (x0 : Nat) :
    m.testBit (SRV_CFG_SAM_WIN x0).blk = true := by
  have e : (SRV_CFG_SAM_WIN x0).blk = 6 + x0 % 2 := by unfold SRV_CFG_SAM_WIN Fld.blk Fld.key bankSize; simp only; omega
  rw [e]; rcases Nat.mod_two_eq_zero_or_one x0 with p | p <;> rw [p] <;> assumption
theorem SRV_COEF_CTL_ACTIVE_bit {m : Nat} (h : m.testBit 6 = true) (k : m.testBit 7 = true) (x0 : Nat) :
    m.testBit (SRV_COEF_CTL_ACTIVE x0).blk = true := by
  have e : (SRV_COEF_CTL_ACTIVE x0).blk = 6 + x0 % 2 := by unfold SRV_COEF_CTL_ACTIVE Fld.blk Fld.key bankSize; simp only; omega
  rw [e]; rcases Nat.mod_two_eq_zero_or_one x0 with p | p <;> rw [p] <;> assumption
theorem SRV_COEF_CTL_LOADED_bit {m : Nat} (h : m.testBit 6 = true) (k : m.testBit 7 = true) (x0 : Nat) :
    m.testBit (SRV_COEF_CTL_LOADED x0).blk = true := by
  have e : (SRV_COEF_CTL_LOADED x0).blk = 6 + x0 % 2 := by unfold SRV_COEF_CTL_LOADED Fld.blk Fld.key bankSize; simp only; omega
  rw [e]; rcases Nat.mod_two_eq_zero_or_one x0 with p | p <;> rw [p] <;> assumption
theorem SRV_COEF_CTL_SWAP_bit {m : Nat} (h : m.testBit 6 = true) (k : m.testBit 7 = true) (x0 : Nat) :
    m.testBit (SRV_COEF_CTL_SWAP x0).blk = true := by
  have e : (SRV_COEF_CTL_SWAP x0).blk = 6 + x0 % 2 := by unfold SRV_COEF_CTL_SWAP Fld.blk Fld.key bankSize; simp only; omega
  rw [e]; rcases Nat.mod_two_eq_zero_or_one x0 with p | p <;> rw [p] <;> assumption
theorem SRV_HEAD_CFG_MA_GAIN_bit {m : Nat} (h : m.testBit 6 = true) (k : m.testBit 7 = true) (x0 x1 : Nat) :
    m.testBit (SRV_HEAD_CFG_MA_GAIN x0 x1).blk = true := by
  have e : (SRV_HEAD_CFG_MA_GAIN x0 x1).blk = 6 + x0 % 2 := by unfold SRV_HEAD_CFG_MA_GAIN Fld.blk Fld.key bankSize; simp only; omega
  rw [e]; rcases Nat.mod_two_eq_zero_or_one x0 with p | p <;> rw [p] <;> assumption
theorem SRV_HSEL_HEAD0_bit {m : Nat} (h : m.testBit 6 = true) (k : m.testBit 7 = true) (x0 : Nat) :
    m.testBit (SRV_HSEL_HEAD0 x0).blk = true := by
  have e : (SRV_HSEL_HEAD0 x0).blk = 6 + x0 % 2 := by unfold SRV_HSEL_HEAD0 Fld.blk Fld.key bankSize; simp only; omega
  rw [e]; rcases Nat.mod_two_eq_zero_or_one x0 with p | p <;> rw [p] <;> assumption
theorem SRV_HSEL_HEAD1_bit {m : Nat} (h : m.testBit 6 = true) (k : m.testBit 7 = true) (x0 : Nat) :
    m.testBit (SRV_HSEL_HEAD1 x0).blk = true := by
  have e : (SRV_HSEL_HEAD1 x0).blk = 6 + x0 % 2 := by unfold SRV_HSEL_HEAD1 Fld.blk Fld.key bankSize; simp only; omega
  rw [e]; rcases Nat.mod_two_eq_zero_or_one x0 with p | p <;> rw [p] <;> assumption
theorem SRV_LIN_CORR_bit {m : Nat} (h : m.testBit 6 = true) (k : m.testBit 7 = true) (x0 x1 x2 : Nat) :
    m.testBit (SRV_LIN_CORR x0 x1 x2).blk = true := by
  have e : (SRV_LIN_CORR x0 x1 x2).blk = 6 + x0 % 2 := by unfold SRV_LIN_CORR Fld.blk Fld.key bankSize; simp only; omega
  rw [e]; rcases Nat.mod_two_eq_zero_or_one x0 with p | p <;> rw [p] <;> assumption
theorem SRV_PA_CFG_DUAL_bit {m : Nat} (h : m.testBit 6 = true) (k : m.testBit 7 = true) (x0 : Nat) :
    m.testBit (SRV_PA_CFG_DUAL x0).blk = true := by
  have e : (SRV_PA_CFG_DUAL x0).blk = 6 + x0 % 2 := by unfold SRV_PA_CFG_DUAL Fld.blk Fld.key bankSize; simp only; omega
  rw [e]; rcases Nat.mod_two_eq_zero_or_one x0 with p | p <;> rw [p] <;> assumption
theorem SRV_PA_CMD_ADDR_bit {m : Nat} (h : m.testBit 6 = true) (k : m.testBit 7 = true) (x0 : Nat) :
    m.testBit (SRV_PA_CMD_ADDR x0).blk = true := by
  have e : (SRV_PA_CMD_ADDR x0).blk = 6 + x0 % 2 := by unfold SRV_PA_CMD_ADDR Fld.blk Fld.key bankSize; simp only; omega
  rw [e]; rcases Nat.mod_two_eq_zero_or_one x0 with p | p <;> rw [p] <;> assumption
theorem SRV_PA_CMD_DATA_bit {m : Nat} (h : m.testBit 6 = true) (k : m.testBit 7 = true) (x0 : Nat) :
    m.testBit (SRV_PA_CMD_DATA x0).blk = true := by
  have e : (SRV_PA_CMD_DATA x0).blk = 6 + x0 % 2 := by unfold SRV_PA_CMD_DATA Fld.blk Fld.key bankSize; simp only; omega
  rw [e]; rcases Nat.mod_two_eq_zero_or_one x0 with p | p <;> rw [p] <;> assumption
theorem SRV_PA_CMD_GO_bit {m : Nat} (h : m.testBit 6 = true) (k : m.testBit 7 = true) (x0 : Nat) :
    m.testBit (SRV_PA_CMD_GO x0).blk = true := by
  have e : (SRV_PA_CMD_GO x0).blk = 6 + x0 % 2 := by unfold SRV_PA_CMD_GO Fld.blk Fld.key bankSize; simp only; omega
  rw [e]; rcases Nat.mod_two_eq_zero_or_one x0 with p | p <;> rw [p] <;> assumption
theorem SRV_PA_CMD_RD_bit {m : Nat} (h : m.testBit 6 = true) (k : m.testBit 7 = true) (x0 : Nat) :
    m.testBit (SRV_PA_CMD_RD x0).blk = true := by
  have e : (SRV_PA_CMD_RD x0).blk = 6 + x0 % 2 := by unfold SRV_PA_CMD_RD Fld.blk Fld.key bankSize; simp only; omega
  rw [e]; rcases Nat.mod_two_eq_zero_or_one x0 with p | p <;> rw [p] <;> assumption
theorem SRV_PA_FAULT_CAUSE_bit {m : Nat} (h : m.testBit 6 = true) (k : m.testBit 7 = true) (x0 : Nat) :
    m.testBit (SRV_PA_FAULT_CAUSE x0).blk = true := by
  have e : (SRV_PA_FAULT_CAUSE x0).blk = 6 + x0 % 2 := by unfold SRV_PA_FAULT_CAUSE Fld.blk Fld.key bankSize; simp only; omega
  rw [e]; rcases Nat.mod_two_eq_zero_or_one x0 with p | p <;> rw [p] <;> assumption
theorem SRV_PA_MAP_FAULT_bit {m : Nat} (h : m.testBit 6 = true) (k : m.testBit 7 = true) (x0 : Nat) :
    m.testBit (SRV_PA_MAP_FAULT x0).blk = true := by
  have e : (SRV_PA_MAP_FAULT x0).blk = 6 + x0 % 2 := by unfold SRV_PA_MAP_FAULT Fld.blk Fld.key bankSize; simp only; omega
  rw [e]; rcases Nat.mod_two_eq_zero_or_one x0 with p | p <;> rw [p] <;> assumption
theorem SRV_PA_MAP_ID_ID_bit {m : Nat} (h : m.testBit 6 = true) (k : m.testBit 7 = true) (x0 : Nat) :
    m.testBit (SRV_PA_MAP_ID_ID x0).blk = true := by
  have e : (SRV_PA_MAP_ID_ID x0).blk = 6 + x0 % 2 := by unfold SRV_PA_MAP_ID_ID Fld.blk Fld.key bankSize; simp only; omega
  rw [e]; rcases Nat.mod_two_eq_zero_or_one x0 with p | p <;> rw [p] <;> assumption
theorem SRV_PA_MAP_MODE_bit {m : Nat} (h : m.testBit 6 = true) (k : m.testBit 7 = true) (x0 : Nat) :
    m.testBit (SRV_PA_MAP_MODE x0).blk = true := by
  have e : (SRV_PA_MAP_MODE x0).blk = 6 + x0 % 2 := by unfold SRV_PA_MAP_MODE Fld.blk Fld.key bankSize; simp only; omega
  rw [e]; rcases Nat.mod_two_eq_zero_or_one x0 with p | p <;> rw [p] <;> assumption
theorem SRV_PA_RESP_DATA_bit {m : Nat} (h : m.testBit 6 = true) (k : m.testBit 7 = true) (x0 : Nat) :
    m.testBit (SRV_PA_RESP_DATA x0).blk = true := by
  have e : (SRV_PA_RESP_DATA x0).blk = 6 + x0 % 2 := by unfold SRV_PA_RESP_DATA Fld.blk Fld.key bankSize; simp only; omega
  rw [e]; rcases Nat.mod_two_eq_zero_or_one x0 with p | p <;> rw [p] <;> assumption
theorem SRV_PA_RESP_DONE_bit {m : Nat} (h : m.testBit 6 = true) (k : m.testBit 7 = true) (x0 : Nat) :
    m.testBit (SRV_PA_RESP_DONE x0).blk = true := by
  have e : (SRV_PA_RESP_DONE x0).blk = 6 + x0 % 2 := by unfold SRV_PA_RESP_DONE Fld.blk Fld.key bankSize; simp only; omega
  rw [e]; rcases Nat.mod_two_eq_zero_or_one x0 with p | p <;> rw [p] <;> assumption
theorem SRV_PES_MISS_bit {m : Nat} (h : m.testBit 6 = true) (k : m.testBit 7 = true) (x0 x1 : Nat) :
    m.testBit (SRV_PES_MISS x0 x1).blk = true := by
  have e : (SRV_PES_MISS x0 x1).blk = 6 + x0 % 2 := by unfold SRV_PES_MISS Fld.blk Fld.key bankSize; simp only; omega
  rw [e]; rcases Nat.mod_two_eq_zero_or_one x0 with p | p <;> rw [p] <;> assumption
theorem SRV_PES_PES_bit {m : Nat} (h : m.testBit 6 = true) (k : m.testBit 7 = true) (x0 x1 : Nat) :
    m.testBit (SRV_PES_PES x0 x1).blk = true := by
  have e : (SRV_PES_PES x0 x1).blk = 6 + x0 % 2 := by unfold SRV_PES_PES Fld.blk Fld.key bankSize; simp only; omega
  rw [e]; rcases Nat.mod_two_eq_zero_or_one x0 with p | p <;> rw [p] <;> assumption
theorem SRV_PES_VALID_bit {m : Nat} (h : m.testBit 6 = true) (k : m.testBit 7 = true) (x0 x1 : Nat) :
    m.testBit (SRV_PES_VALID x0 x1).blk = true := by
  have e : (SRV_PES_VALID x0 x1).blk = 6 + x0 % 2 := by unfold SRV_PES_VALID Fld.blk Fld.key bankSize; simp only; omega
  rw [e]; rcases Nat.mod_two_eq_zero_or_one x0 with p | p <;> rw [p] <;> assumption
theorem SRV_PES_WEDGE_bit {m : Nat} (h : m.testBit 6 = true) (k : m.testBit 7 = true) (x0 x1 : Nat) :
    m.testBit (SRV_PES_WEDGE x0 x1).blk = true := by
  have e : (SRV_PES_WEDGE x0 x1).blk = 6 + x0 % 2 := by unfold SRV_PES_WEDGE Fld.blk Fld.key bankSize; simp only; omega
  rw [e]; rcases Nat.mod_two_eq_zero_or_one x0 with p | p <;> rw [p] <;> assumption
theorem SRV_POS_POS_bit {m : Nat} (h : m.testBit 6 = true) (k : m.testBit 7 = true) (x0 x1 : Nat) :
    m.testBit (SRV_POS_POS x0 x1).blk = true := by
  have e : (SRV_POS_POS x0 x1).blk = 6 + x0 % 2 := by unfold SRV_POS_POS Fld.blk Fld.key bankSize; simp only; omega
  rw [e]; rcases Nat.mod_two_eq_zero_or_one x0 with p | p <;> rw [p] <;> assumption
theorem SRV_PROF_W0_FALLBACK_bit {m : Nat} (h : m.testBit 6 = true) (k : m.testBit 7 = true) (x0 x1 : Nat) :
    m.testBit (SRV_PROF_W0_FALLBACK x0 x1).blk = true := by
  have e : (SRV_PROF_W0_FALLBACK x0 x1).blk = 6 + x0 % 2 := by unfold SRV_PROF_W0_FALLBACK Fld.blk Fld.key bankSize; simp only; omega
  rw [e]; rcases Nat.mod_two_eq_zero_or_one x0 with p | p <;> rw [p] <;> assumption
theorem SRV_PROF_W0_IPK_MA_bit {m : Nat} (h : m.testBit 6 = true) (k : m.testBit 7 = true) (x0 x1 : Nat) :
    m.testBit (SRV_PROF_W0_IPK_MA x0 x1).blk = true := by
  have e : (SRV_PROF_W0_IPK_MA x0 x1).blk = 6 + x0 % 2 := by unfold SRV_PROF_W0_IPK_MA Fld.blk Fld.key bankSize; simp only; omega
  rw [e]; rcases Nat.mod_two_eq_zero_or_one x0 with p | p <;> rw [p] <;> assumption
theorem SRV_PROF_W1_DUR_WEDGES_bit {m : Nat} (h : m.testBit 6 = true) (k : m.testBit 7 = true) (x0 x1 : Nat) :
    m.testBit (SRV_PROF_W1_DUR_WEDGES x0 x1).blk = true := by
  have e : (SRV_PROF_W1_DUR_WEDGES x0 x1).blk = 6 + x0 % 2 := by unfold SRV_PROF_W1_DUR_WEDGES Fld.blk Fld.key bankSize; simp only; omega
  rw [e]; rcases Nat.mod_two_eq_zero_or_one x0 with p | p <;> rw [p] <;> assumption
theorem SRV_PROF_W1_SETTLE_LIM_bit {m : Nat} (h : m.testBit 6 = true) (k : m.testBit 7 = true) (x0 x1 : Nat) :
    m.testBit (SRV_PROF_W1_SETTLE_LIM x0 x1).blk = true := by
  have e : (SRV_PROF_W1_SETTLE_LIM x0 x1).blk = 6 + x0 % 2 := by unfold SRV_PROF_W1_SETTLE_LIM Fld.blk Fld.key bankSize; simp only; omega
  rw [e]; rcases Nat.mod_two_eq_zero_or_one x0 with p | p <;> rw [p] <;> assumption
theorem SRV_SEEK_GO_bit {m : Nat} (h : m.testBit 6 = true) (k : m.testBit 7 = true) (x0 : Nat) :
    m.testBit (SRV_SEEK_GO x0).blk = true := by
  have e : (SRV_SEEK_GO x0).blk = 6 + x0 % 2 := by unfold SRV_SEEK_GO Fld.blk Fld.key bankSize; simp only; omega
  rw [e]; rcases Nat.mod_two_eq_zero_or_one x0 with p | p <;> rw [p] <;> assumption
theorem SRV_SEEK_GRANT_WAIT_bit {m : Nat} (h : m.testBit 6 = true) (k : m.testBit 7 = true) (x0 : Nat) :
    m.testBit (SRV_SEEK_GRANT_WAIT x0).blk = true := by
  have e : (SRV_SEEK_GRANT_WAIT x0).blk = 6 + x0 % 2 := by unfold SRV_SEEK_GRANT_WAIT Fld.blk Fld.key bankSize; simp only; omega
  rw [e]; rcases Nat.mod_two_eq_zero_or_one x0 with p | p <;> rw [p] <;> assumption
theorem SRV_SEEK_PROFILE_bit {m : Nat} (h : m.testBit 6 = true) (k : m.testBit 7 = true) (x0 : Nat) :
    m.testBit (SRV_SEEK_PROFILE x0).blk = true := by
  have e : (SRV_SEEK_PROFILE x0).blk = 6 + x0 % 2 := by unfold SRV_SEEK_PROFILE Fld.blk Fld.key bankSize; simp only; omega
  rw [e]; rcases Nat.mod_two_eq_zero_or_one x0 with p | p <;> rw [p] <;> assumption
theorem SRV_SEEK_TIME_WEDGES_bit {m : Nat} (h : m.testBit 6 = true) (k : m.testBit 7 = true) (x0 : Nat) :
    m.testBit (SRV_SEEK_TIME_WEDGES x0).blk = true := by
  have e : (SRV_SEEK_TIME_WEDGES x0).blk = 6 + x0 % 2 := by unfold SRV_SEEK_TIME_WEDGES Fld.blk Fld.key bankSize; simp only; omega
  rw [e]; rcases Nat.mod_two_eq_zero_or_one x0 with p | p <;> rw [p] <;> assumption
theorem SRV_SHOCK_FALL_EN_bit {m : Nat} (h : m.testBit 6 = true) (k : m.testBit 7 = true) (x0 : Nat) :
    m.testBit (SRV_SHOCK_FALL_EN x0).blk = true := by
  have e : (SRV_SHOCK_FALL_EN x0).blk = 6 + x0 % 2 := by unfold SRV_SHOCK_FALL_EN Fld.blk Fld.key bankSize; simp only; omega
  rw [e]; rcases Nat.mod_two_eq_zero_or_one x0 with p | p <;> rw [p] <;> assumption
theorem SRV_SHOCK_NOW_ROT_bit {m : Nat} (h : m.testBit 6 = true) (k : m.testBit 7 = true) (x0 : Nat) :
    m.testBit (SRV_SHOCK_NOW_ROT x0).blk = true := by
  have e : (SRV_SHOCK_NOW_ROT x0).blk = 6 + x0 % 2 := by unfold SRV_SHOCK_NOW_ROT Fld.blk Fld.key bankSize; simp only; omega
  rw [e]; rcases Nat.mod_two_eq_zero_or_one x0 with p | p <;> rw [p] <;> assumption
theorem SRV_SHOCK_NOW_X_bit {m : Nat} (h : m.testBit 6 = true) (k : m.testBit 7 = true) (x0 : Nat) :
    m.testBit (SRV_SHOCK_NOW_X x0).blk = true := by
  have e : (SRV_SHOCK_NOW_X x0).blk = 6 + x0 % 2 := by unfold SRV_SHOCK_NOW_X Fld.blk Fld.key bankSize; simp only; omega
  rw [e]; rcases Nat.mod_two_eq_zero_or_one x0 with p | p <;> rw [p] <;> assumption
theorem SRV_SHOCK_NOW_Y_bit {m : Nat} (h : m.testBit 6 = true) (k : m.testBit 7 = true) (x0 : Nat) :
    m.testBit (SRV_SHOCK_NOW_Y x0).blk = true := by
  have e : (SRV_SHOCK_NOW_Y x0).blk = 6 + x0 % 2 := by unfold SRV_SHOCK_NOW_Y Fld.blk Fld.key bankSize; simp only; omega
  rw [e]; rcases Nat.mod_two_eq_zero_or_one x0 with p | p <;> rw [p] <;> assumption
theorem SRV_SHOCK_NOW_Z_bit {m : Nat} (h : m.testBit 6 = true) (k : m.testBit 7 = true) (x0 : Nat) :
    m.testBit (SRV_SHOCK_NOW_Z x0).blk = true := by
  have e : (SRV_SHOCK_NOW_Z x0).blk = 6 + x0 % 2 := by unfold SRV_SHOCK_NOW_Z Fld.blk Fld.key bankSize; simp only; omega
  rw [e]; rcases Nat.mod_two_eq_zero_or_one x0 with p | p <;> rw [p] <;> assumption
theorem SRV_STAT_FREEFALL_bit {m : Nat} (h : m.testBit 6 = true) (k : m.testBit 7 = true) (x0 : Nat) :
    m.testBit (SRV_STAT_FREEFALL x0).blk = true := by
  have e : (SRV_STAT_FREEFALL x0).blk = 6 + x0 % 2 := by unfold SRV_STAT_FREEFALL Fld.blk Fld.key bankSize; simp only; omega
  rw [e]; rcases Nat.mod_two_eq_zero_or_one x0 with p | p <;> rw [p] <;> assumption
theorem SRV_STAT_GRANT_FALLBACK_bit {m : Nat} (h : m.testBit 6 = true) (k : m.testBit 7 = true) (x0 : Nat) :
    m.testBit (SRV_STAT_GRANT_FALLBACK x0).blk = true := by
  have e : (SRV_STAT_GRANT_FALLBACK x0).blk = 6 + x0 % 2 := by unfold SRV_STAT_GRANT_FALLBACK Fld.blk Fld.key bankSize; simp only; omega
  rw [e]; rcases Nat.mod_two_eq_zero_or_one x0 with p | p <;> rw [p] <;> assumption
theorem SRV_STAT_HS_REFUSED_bit {m : Nat} (h : m.testBit 6 = true) (k : m.testBit 7 = true) (x0 : Nat) :
    m.testBit (SRV_STAT_HS_REFUSED x0).blk = true := by
  have e : (SRV_STAT_HS_REFUSED x0).blk = 6 + x0 % 2 := by unfold SRV_STAT_HS_REFUSED Fld.blk Fld.key bankSize; simp only; omega
  rw [e]; rcases Nat.mod_two_eq_zero_or_one x0 with p | p <;> rw [p] <;> assumption
theorem SRV_STAT_IDX_CHK_bit {m : Nat} (h : m.testBit 6 = true) (k : m.testBit 7 = true) (x0 : Nat) :
    m.testBit (SRV_STAT_IDX_CHK x0).blk = true := by
  have e : (SRV_STAT_IDX_CHK x0).blk = 6 + x0 % 2 := by unfold SRV_STAT_IDX_CHK Fld.blk Fld.key bankSize; simp only; omega
  rw [e]; rcases Nat.mod_two_eq_zero_or_one x0 with p | p <;> rw [p] <;> assumption
theorem SRV_STAT_LEAD_SWAP_bit {m : Nat} (h : m.testBit 6 = true) (k : m.testBit 7 = true) (x0 : Nat) :
    m.testBit (SRV_STAT_LEAD_SWAP x0).blk = true := by
  have e : (SRV_STAT_LEAD_SWAP x0).blk = 6 + x0 % 2 := by unfold SRV_STAT_LEAD_SWAP Fld.blk Fld.key bankSize; simp only; omega
  rw [e]; rcases Nat.mod_two_eq_zero_or_one x0 with p | p <;> rw [p] <;> assumption
theorem SRV_STAT_MA_SAT_bit {m : Nat} (h : m.testBit 6 = true) (k : m.testBit 7 = true) (x0 : Nat) :
    m.testBit (SRV_STAT_MA_SAT x0).blk = true := by
  have e : (SRV_STAT_MA_SAT x0).blk = 6 + x0 % 2 := by unfold SRV_STAT_MA_SAT Fld.blk Fld.key bankSize; simp only; omega
  rw [e]; rcases Nat.mod_two_eq_zero_or_one x0 with p | p <;> rw [p] <;> assumption
theorem SRV_STAT_PA_FAULT_bit {m : Nat} (h : m.testBit 6 = true) (k : m.testBit 7 = true) (x0 : Nat) :
    m.testBit (SRV_STAT_PA_FAULT x0).blk = true := by
  have e : (SRV_STAT_PA_FAULT x0).blk = 6 + x0 % 2 := by unfold SRV_STAT_PA_FAULT Fld.blk Fld.key bankSize; simp only; omega
  rw [e]; rcases Nat.mod_two_eq_zero_or_one x0 with p | p <;> rw [p] <;> assumption
theorem SRV_STAT_SEEK_DONE_bit {m : Nat} (h : m.testBit 6 = true) (k : m.testBit 7 = true) (x0 : Nat) :
    m.testBit (SRV_STAT_SEEK_DONE x0).blk = true := by
  have e : (SRV_STAT_SEEK_DONE x0).blk = 6 + x0 % 2 := by unfold SRV_STAT_SEEK_DONE Fld.blk Fld.key bankSize; simp only; omega
  rw [e]; rcases Nat.mod_two_eq_zero_or_one x0 with p | p <;> rw [p] <;> assumption
theorem SRV_STAT_SEEK_FAIL_bit {m : Nat} (h : m.testBit 6 = true) (k : m.testBit 7 = true) (x0 : Nat) :
    m.testBit (SRV_STAT_SEEK_FAIL x0).blk = true := by
  have e : (SRV_STAT_SEEK_FAIL x0).blk = 6 + x0 % 2 := by unfold SRV_STAT_SEEK_FAIL Fld.blk Fld.key bankSize; simp only; omega
  rw [e]; rcases Nat.mod_two_eq_zero_or_one x0 with p | p <;> rw [p] <;> assumption
theorem SRV_STAT_SEEK_REFUSED_bit {m : Nat} (h : m.testBit 6 = true) (k : m.testBit 7 = true) (x0 : Nat) :
    m.testBit (SRV_STAT_SEEK_REFUSED x0).blk = true := by
  have e : (SRV_STAT_SEEK_REFUSED x0).blk = 6 + x0 % 2 := by unfold SRV_STAT_SEEK_REFUSED Fld.blk Fld.key bankSize; simp only; omega
  rw [e]; rcases Nat.mod_two_eq_zero_or_one x0 with p | p <;> rw [p] <;> assumption
theorem SRV_STAT_SEEK_STATE_bit {m : Nat} (h : m.testBit 6 = true) (k : m.testBit 7 = true) (x0 : Nat) :
    m.testBit (SRV_STAT_SEEK_STATE x0).blk = true := by
  have e : (SRV_STAT_SEEK_STATE x0).blk = 6 + x0 % 2 := by unfold SRV_STAT_SEEK_STATE Fld.blk Fld.key bankSize; simp only; omega
  rw [e]; rcases Nat.mod_two_eq_zero_or_one x0 with p | p <;> rw [p] <;> assumption
theorem SRV_STAT_TRK_IMPL_bit {m : Nat} (h : m.testBit 6 = true) (k : m.testBit 7 = true) (x0 : Nat) :
    m.testBit (SRV_STAT_TRK_IMPL x0).blk = true := by
  have e : (SRV_STAT_TRK_IMPL x0).blk = 6 + x0 % 2 := by unfold SRV_STAT_TRK_IMPL Fld.blk Fld.key bankSize; simp only; omega
  rw [e]; rcases Nat.mod_two_eq_zero_or_one x0 with p | p <;> rw [p] <;> assumption
theorem SRV_STAT_WR_OVERRUN_bit {m : Nat} (h : m.testBit 6 = true) (k : m.testBit 7 = true) (x0 : Nat) :
    m.testBit (SRV_STAT_WR_OVERRUN x0).blk = true := by
  have e : (SRV_STAT_WR_OVERRUN x0).blk = 6 + x0 % 2 := by unfold SRV_STAT_WR_OVERRUN Fld.blk Fld.key bankSize; simp only; omega
  rw [e]; rcases Nat.mod_two_eq_zero_or_one x0 with p | p <;> rw [p] <;> assumption
theorem SRV_TGT_TARGET_bit {m : Nat} (h : m.testBit 6 = true) (k : m.testBit 7 = true) (x0 x1 : Nat) :
    m.testBit (SRV_TGT_TARGET x0 x1).blk = true := by
  have e : (SRV_TGT_TARGET x0 x1).blk = 6 + x0 % 2 := by unfold SRV_TGT_TARGET Fld.blk Fld.key bankSize; simp only; omega
  rw [e]; rcases Nat.mod_two_eq_zero_or_one x0 with p | p <;> rw [p] <;> assumption
theorem SRV_TWIN_LEAD_bit {m : Nat} (h : m.testBit 6 = true) (k : m.testBit 7 = true) (x0 : Nat) :
    m.testBit (SRV_TWIN_LEAD x0).blk = true := by
  have e : (SRV_TWIN_LEAD x0).blk = 6 + x0 % 2 := by unfold SRV_TWIN_LEAD Fld.blk Fld.key bankSize; simp only; omega
  rw [e]; rcases Nat.mod_two_eq_zero_or_one x0 with p | p <;> rw [p] <;> assumption
theorem SRV_TWIN_OFS_OFS_bit {m : Nat} (h : m.testBit 6 = true) (k : m.testBit 7 = true) (x0 : Nat) :
    m.testBit (SRV_TWIN_OFS_OFS x0).blk = true := by
  have e : (SRV_TWIN_OFS_OFS x0).blk = 6 + x0 % 2 := by unfold SRV_TWIN_OFS_OFS Fld.blk Fld.key bankSize; simp only; omega
  rw [e]; rcases Nat.mod_two_eq_zero_or_one x0 with p | p <;> rw [p] <;> assumption
theorem SRV_WIN_WR_END_bit {m : Nat} (h : m.testBit 6 = true) (k : m.testBit 7 = true) (x0 : Nat) :
    m.testBit (SRV_WIN_WR_END x0).blk = true := by
  have e : (SRV_WIN_WR_END x0).blk = 6 + x0 % 2 := by unfold SRV_WIN_WR_END Fld.blk Fld.key bankSize; simp only; omega
  rw [e]; rcases Nat.mod_two_eq_zero_or_one x0 with p | p <;> rw [p] <;> assumption
theorem SRV_WIN_WR_START_bit {m : Nat} (h : m.testBit 6 = true) (k : m.testBit 7 = true) (x0 : Nat) :
    m.testBit (SRV_WIN_WR_START x0).blk = true := by
  have e : (SRV_WIN_WR_START x0).blk = 6 + x0 % 2 := by unfold SRV_WIN_WR_START Fld.blk Fld.key bankSize; simp only; omega
  rw [e]; rcases Nat.mod_two_eq_zero_or_one x0 with p | p <;> rw [p] <;> assumption
theorem THM_SENS_IMPLAUS_blk (x0 : Nat) : (THM_SENS_IMPLAUS x0).blk = 30 := by unfold THM_SENS_IMPLAUS Fld.blk Fld.key bankSize; simp only; omega
theorem THM_SENS_T_blk (x0 : Nat) : (THM_SENS_T x0).blk = 30 := by unfold THM_SENS_T Fld.blk Fld.key bankSize; simp only; omega
theorem THM_SENS_VALID_blk (x0 : Nat) : (THM_SENS_VALID x0).blk = 30 := by unfold THM_SENS_VALID Fld.blk Fld.key bankSize; simp only; omega
theorem TPR_HZ_W0_ABIAS_blk (x0 x1 : Nat) : (TPR_HZ_W0_ABIAS x0 x1).blk = 14 := by unfold TPR_HZ_W0_ABIAS Fld.blk Fld.key bankSize; simp only; omega
theorem TPR_HZ_W0_APEAK_blk (x0 x1 : Nat) : (TPR_HZ_W0_APEAK x0 x1).blk = 14 := by unfold TPR_HZ_W0_APEAK Fld.blk Fld.key bankSize; simp only; omega
theorem TPR_HZ_W1_REHEAT_blk (x0 x1 : Nat) : (TPR_HZ_W1_REHEAT x0 x1).blk = 14 := by unfold TPR_HZ_W1_REHEAT Fld.blk Fld.key bankSize; simp only; omega
theorem TPR_SEL_HEAD_blk (x0 : Nat) : (TPR_SEL_HEAD x0).blk = 14 := by unfold TPR_SEL_HEAD Fld.blk Fld.key bankSize; simp only; omega
theorem TPR_SEL_RZ_blk (x0 : Nat) : (TPR_SEL_RZ x0).blk = 14 := by unfold TPR_SEL_RZ Fld.blk Fld.key bankSize; simp only; omega
theorem TPR_SEL_SEND_blk (x0 : Nat) : (TPR_SEL_SEND x0).blk = 14 := by unfold TPR_SEL_SEND Fld.blk Fld.key bankSize; simp only; omega
theorem VLT_CMD_W_blk (x0 : Nat) : (VLT_CMD_W x0).blk = 24 := by unfold VLT_CMD_W Fld.blk Fld.key bankSize; simp only; omega
theorem VLT_REGION_BASE_blk (x0 : Nat) : (VLT_REGION_BASE x0).blk = 24 := by unfold VLT_REGION_BASE Fld.blk Fld.key bankSize; simp only; omega
theorem VLT_REGION_BLOCKS_blk (x0 : Nat) : (VLT_REGION_BLOCKS x0).blk = 24 := by unfold VLT_REGION_BLOCKS Fld.blk Fld.key bankSize; simp only; omega
theorem VLT_SAVE_MAP_ERASED_blk (x0 : Nat) : (VLT_SAVE_MAP_ERASED x0).blk = 24 := by unfold VLT_SAVE_MAP_ERASED Fld.blk Fld.key bankSize; simp only; omega
theorem WCH_CTL_EN_blk (x0 : Nat) : (WCH_CTL_EN x0).blk = 10 := by unfold WCH_CTL_EN Fld.blk Fld.key bankSize; simp only; omega
theorem WCH_CTL_RW_LIM_blk (x0 : Nat) : (WCH_CTL_RW_LIM x0).blk = 10 := by unfold WCH_CTL_RW_LIM Fld.blk Fld.key bankSize; simp only; omega
theorem WCH_CTL_WR_ACTIVE_blk (x0 : Nat) : (WCH_CTL_WR_ACTIVE x0).blk = 10 := by unfold WCH_CTL_WR_ACTIVE Fld.blk Fld.key bankSize; simp only; omega
theorem WCH_FQ_RESP_DONE_blk (x0 : Nat) : (WCH_FQ_RESP_DONE x0).blk = 10 := by unfold WCH_FQ_RESP_DONE Fld.blk Fld.key bankSize; simp only; omega
theorem WCH_FQ_RESP_RESULT_blk (x0 : Nat) : (WCH_FQ_RESP_RESULT x0).blk = 10 := by unfold WCH_FQ_RESP_RESULT Fld.blk Fld.key bankSize; simp only; omega
theorem WCH_FQ_W_blk (x0 x1 : Nat) : (WCH_FQ_W x0 x1).blk = 10 := by unfold WCH_FQ_W Fld.blk Fld.key bankSize; simp only; omega
theorem WCH_RZ_W0_START_TRK_blk (x0 x1 x2 : Nat) : (WCH_RZ_W0_START_TRK x0 x1 x2).blk = 10 := by unfold WCH_RZ_W0_START_TRK Fld.blk Fld.key bankSize; simp only; omega
theorem WCH_RZ_W1_BPW_blk (x0 x1 x2 : Nat) : (WCH_RZ_W1_BPW x0 x1 x2).blk = 10 := by unfold WCH_RZ_W1_BPW Fld.blk Fld.key bankSize; simp only; omega
theorem WCH_RZ_W1_CODE_blk (x0 x1 x2 : Nat) : (WCH_RZ_W1_CODE x0 x1 x2).blk = 10 := by unfold WCH_RZ_W1_CODE Fld.blk Fld.key bankSize; simp only; omega
theorem WCH_RZ_W2_SPT_blk (x0 x1 x2 : Nat) : (WCH_RZ_W2_SPT x0 x1 x2).blk = 10 := by unfold WCH_RZ_W2_SPT Fld.blk Fld.key bankSize; simp only; omega
theorem WCH_RZ_W2_TRK_SKEW_blk (x0 x1 x2 : Nat) : (WCH_RZ_W2_TRK_SKEW x0 x1 x2).blk = 10 := by unfold WCH_RZ_W2_TRK_SKEW Fld.blk Fld.key bankSize; simp only; omega
theorem WCH_RZ_W3_PC1_blk (x0 x1 x2 : Nat) : (WCH_RZ_W3_PC1 x0 x1 x2).blk = 10 := by unfold WCH_RZ_W3_PC1 Fld.blk Fld.key bankSize; simp only; omega
theorem WCH_RZ_W3_PC2_blk (x0 x1 x2 : Nat) : (WCH_RZ_W3_PC2 x0 x1 x2).blk = 10 := by unfold WCH_RZ_W3_PC2 Fld.blk Fld.key bankSize; simp only; omega
theorem WCH_STAT_EARLY_CLOSE_blk (x0 : Nat) : (WCH_STAT_EARLY_CLOSE x0).blk = 10 := by unfold WCH_STAT_EARLY_CLOSE Fld.blk Fld.key bankSize; simp only; omega
theorem WCH_STAT_NOT_READY_blk (x0 : Nat) : (WCH_STAT_NOT_READY x0).blk = 10 := by unfold WCH_STAT_NOT_READY Fld.blk Fld.key bankSize; simp only; omega
theorem WCH_STAT_ORPHAN_blk (x0 : Nat) : (WCH_STAT_ORPHAN x0).blk = 10 := by unfold WCH_STAT_ORPHAN Fld.blk Fld.key bankSize; simp only; omega
theorem WCH_STAT_OVERLAP_blk (x0 : Nat) : (WCH_STAT_OVERLAP x0).blk = 10 := by unfold WCH_STAT_OVERLAP Fld.blk Fld.key bankSize; simp only; omega
theorem WCH_STAT_OVERRUN_blk (x0 : Nat) : (WCH_STAT_OVERRUN x0).blk = 10 := by unfold WCH_STAT_OVERRUN Fld.blk Fld.key bankSize; simp only; omega
theorem WCH_STAT_RZ_BAD_blk (x0 : Nat) : (WCH_STAT_RZ_BAD x0).blk = 10 := by unfold WCH_STAT_RZ_BAD Fld.blk Fld.key bankSize; simp only; omega
theorem WCH_STAT_TP_REFUSED_blk (x0 : Nat) : (WCH_STAT_TP_REFUSED x0).blk = 10 := by unfold WCH_STAT_TP_REFUSED Fld.blk Fld.key bankSize; simp only; omega
theorem WCH_STAT_UNDERRUN_blk (x0 : Nat) : (WCH_STAT_UNDERRUN x0).blk = 10 := by unfold WCH_STAT_UNDERRUN Fld.blk Fld.key bankSize; simp only; omega
theorem WCH_STAT_WA_REFUSED_blk (x0 : Nat) : (WCH_STAT_WA_REFUSED x0).blk = 10 := by unfold WCH_STAT_WA_REFUSED Fld.blk Fld.key bankSize; simp only; omega
theorem WCH_TP_ADDR_ADDR_blk (x0 : Nat) : (WCH_TP_ADDR_ADDR x0).blk = 10 := by unfold WCH_TP_ADDR_ADDR Fld.blk Fld.key bankSize; simp only; omega
theorem XLT_LK_W_blk (x0 : Nat) : (XLT_LK_W x0).blk = 16 := by unfold XLT_LK_W Fld.blk Fld.key bankSize; simp only; omega
theorem XLT_NS_BASE_CHUNK_BASE_blk (x0 : Nat) : (XLT_NS_BASE_CHUNK_BASE x0).blk = 16 := by unfold XLT_NS_BASE_CHUNK_BASE Fld.blk Fld.key bankSize; simp only; omega
theorem XLT_NS_CFG_CHUNKS_blk (x0 : Nat) : (XLT_NS_CFG_CHUNKS x0).blk = 16 := by unfold XLT_NS_CFG_CHUNKS Fld.blk Fld.key bankSize; simp only; omega
theorem XLT_NS_CFG_EN_blk (x0 : Nat) : (XLT_NS_CFG_EN x0).blk = 16 := by unfold XLT_NS_CFG_EN Fld.blk Fld.key bankSize; simp only; omega
theorem XLT_NS_CFG_ZONED_blk (x0 : Nat) : (XLT_NS_CFG_ZONED x0).blk = 16 := by unfold XLT_NS_CFG_ZONED Fld.blk Fld.key bankSize; simp only; omega
theorem maOut_blk (a l : Fin 2) : (maOut a l).blk = 8 := ACT_MA_OUT_CODE_blk _
theorem hselFld_bit {m : Nat} (h : m.testBit 6 = true) (k : m.testBit 7 = true) (a l : Fin 2) : m.testBit (hselFld a l).blk = true := by
  unfold hselFld; split
  · exact SRV_HSEL_HEAD0_bit h k _
  · exact SRV_HSEL_HEAD1_bit h k _
/-- Back-EMF angle starts after the present stamp. -/
theorem State.bemfStart_ge (s : State) : s.inv.now ≤ s.bemfStart := by
  unfold State.bemfStart; omega

end Sys2Proof.Machine
end

