-- ==== Sys2Proof/Laws/Keeps/Ops.lean ====
section
/-!
SUPPORT. What each operation of Machine/Ops.lean keeps: the mask names the register blocks (bits 0 to 63) and the parts of State (bit
64 on) that the operation may change; everything outside it stays.
-/
namespace Sys2Proof.Machine

theorem patTrig_keeps (i) (detail) (s : State) : Keeps 0x80000000020000000000 s (patTrig i detail s) := by
  unfold patTrig
  split; exact Keeps.refl _ _; split; refine Keeps.upd_pat _ ?_ ?_; exact rfl; exact Keeps.refl _ _
  refine State.on_keeps _ ?_ ?_; exact rfl; refine State.bump_keeps _ _ ?_ ?_; exact rfl; exact Keeps.refl _ _

theorem roleEdge_keeps (r) (src) (s : State) : Keeps 0x4000000 s (roleEdge r src s) := by
  unfold roleEdge
  refine State.onBit_keeps _ _ ?_ ?_; rw [ENG_ROLE_IPEND_PEND_blk]; exact rfl; exact Keeps.refl _ _

end Sys2Proof.Machine
end

