-- ==== Sys2Proof/Laws/Keeps/Gates.lean ====
section
/-!
SUPPORT. What each operation of Machine/Gates.lean keeps: the mask names the register blocks (bits 0 to 63) and the parts of State (bit
64 on) that the operation may change; everything outside it stays.
-/
namespace Sys2Proof.Machine

theorem wchPost_keeps (ch) (status) (tag) (s : State) : Keeps 0x8000000000000000000000 s (wchPost ch status tag s) := by
  unfold wchPost; refine Keeps.upd_wch _ ?_ ?_; exact rfl; exact Keeps.refl _ _

theorem wchAbandon_keeps (ch) (status) (tag) (s : State) : Keeps 0x8000000000000000000000 s (wchAbandon ch status tag s) := by
  unfold wchAbandon
  split; refine Keeps.step (wchPost_keeps ..) rfl ?_; refine Keeps.upd_wch _ ?_ ?_; exact rfl; exact Keeps.refl _ _
  exact Keeps.refl _ _

theorem gateDown_keeps (ch) (s : State) : Keeps 0x8000000000000000000000 s (gateDown ch s) := by
  unfold gateDown; refine Keeps.upd_wch _ ?_ ?_; exact rfl; exact Keeps.refl _ _

theorem setAssist_keeps (ch) (b) (s : State) : Keeps 0x8000000000000000000000 s (setAssist ch b s) := by
  unfold setAssist; refine Keeps.upd_wch _ ?_ ?_; exact rfl; exact Keeps.refl _ _

theorem cutGate_keeps (ch) (reason) (pesSign) (s : State) : Keeps 0x8480000000020000000008 s (cutGate ch reason pesSign s) := by
  unfold cutGate
  split; refine Keeps.step (setAssist_keeps ..) rfl ?_; exact Keeps.refl _ _; dsimp only; split; refine Keeps.upd_qch _ ?_ ?_
  exact rfl; refine Keeps.step (wchAbandon_keeps ..) rfl ?_; refine Keeps.step (gateDown_keeps ..) rfl ?_
  refine Keeps.step (setAssist_keeps ..) rfl ?_; exact Keeps.refl _ _; refine Keeps.step (patTrig_keeps ..) rfl ?_
  refine State.on_keeps _ ?_ ?_; rw [QCH_RW_STAT_OVF_blk]; exact rfl; refine Keeps.step (wchAbandon_keeps ..) rfl ?_
  refine Keeps.step (gateDown_keeps ..) rfl ?_; refine Keeps.step (setAssist_keeps ..) rfl ?_; exact Keeps.refl _ _

theorem postRec_keeps (ch) (r) (s : State) : Keeps 0x8480000000020000000008 s (postRec ch r s) := by
  unfold postRec
  split; refine Keeps.upd_qch _ ?_ ?_; exact rfl; exact Keeps.refl _ _; refine Keeps.step (cutGate_keeps ..) rfl ?_
  refine Keeps.step (patTrig_keeps ..) rfl ?_; refine State.on_keeps _ ?_ ?_; rw [QCH_RW_STAT_OVF_blk]; exact rfl
  exact Keeps.refl _ _

theorem dropWg_keeps (ch) (reason) (tag) (s : State) : Keeps 0x8480000000020000000408 s (dropWg ch reason tag s) := by
  unfold dropWg
  refine Keeps.step (postRec_keeps ..) rfl ?_; refine Keeps.step (wchAbandon_keeps ..) rfl ?_; refine State.on_keeps _ ?_ ?_
  rw [WCH_CTL_WR_ACTIVE_blk]; exact rfl; exact Keeps.refl _ _

theorem quenchAct_keeps (i) (pesSign) (a) (s : State) : Keeps 0x8480000000020000000008 s (quenchAct i pesSign a s) := by
  unfold quenchAct
  split; exact Keeps.refl _ _; dsimp only; refine Keeps.step (cutGate_keeps ..) rfl ?_
  refine Keeps.step (cutGate_keeps ..) rfl ?_; refine Keeps.step (patTrig_keeps ..) rfl ?_; refine State.onBit_keeps _ _ ?_ ?_
  rw [QCH_CAUSE_CAUSE_blk]; exact rfl; refine Keeps.upd_qch _ ?_ ?_; exact rfl; exact Keeps.refl _ _

theorem quenchBoth_keeps (i) (s : State) : Keeps 0x8480000000020000000008 s (quenchBoth i s) := by
  unfold quenchBoth
  refine Keeps.step (quenchAct_keeps ..) rfl ?_; refine Keeps.step (quenchAct_keeps ..) rfl ?_; exact Keeps.refl _ _

theorem quenchReq_keeps (a) (s : State) : Keeps 0x8480000000020000000008 s (quenchReq a s) := by
  unfold quenchReq
  refine Keeps.step (quenchAct_keeps ..) rfl ?_; refine State.onBit_keeps _ _ ?_ ?_; exact rfl; exact Keeps.refl _ _

theorem setCond_keeps (i) (b) (a) (s : State) : Keeps 0x400000000000000000000 s (setCond i b a s) := by
  unfold setCond; refine Keeps.upd_qch _ ?_ ?_; exact rfl; exact Keeps.refl _ _

theorem quenchRelease_keeps (i) (a) (s : State) : Keeps 0x400000000000000000008 s (quenchRelease i a s) := by
  unfold quenchRelease
  dsimp only; split; refine State.offBit_keeps _ _ ?_ ?_; exact rfl; refine Keeps.upd_qch _ ?_ ?_; exact rfl
  exact Keeps.refl _ _; refine Keeps.upd_qch _ ?_ ?_; exact rfl; exact Keeps.refl _ _

theorem relCountWedge_keeps (i) (good) (a) (s : State) : Keeps 0x400000000000000000000 s (relCountWedge i good a s) := by
  unfold relCountWedge
  dsimp only; refine Keeps.upd_qch _ ?_ ?_; exact rfl; exact Keeps.refl _ _

end Sys2Proof.Machine
end

