-- ==== Sys2Proof/Laws/Keeps/Link.lean ====
section
/-!
SUPPORT. What each operation of Machine/Link.lean keeps: the mask names the register blocks (bits 0 to 63) and the parts of State (bit
64 on) that the operation may change; everything outside it stays.
-/
namespace Sys2Proof.Machine

theorem modSld_keeps (f) (s : State) : Keeps 0x2000000000000000000000000 s (modSld f s) := by
  unfold modSld; refine Keeps.upd_sld _ ?_ ?_; exact rfl; exact Keeps.refl _ _

theorem modPort_keeps (p) (f) (s : State) : Keeps 0x2000000000000000000000000 s (modPort p f s) := by
  unfold modPort; refine Keeps.step (modSld_keeps ..) rfl ?_; exact Keeps.refl _ _

theorem portSend1_keeps (p) (k) (s : State) : Keeps 0x2000000200000000000000000 s (portSend1 p k s) := by
  unfold portSend1
  dsimp only; refine State.emit_keeps _ ?_ ?_; exact rfl; refine Keeps.step (modPort_keeps ..) rfl ?_; exact Keeps.refl _ _

theorem portDrainGo_keeps (p) (x1) (s : State) : Keeps 0x2000000200000000000000000 s (portDrainGo p x1 s) := by
  induction x1 generalizing s with
  | nil =>
    unfold portDrainGo
    exact Keeps.refl _ _
  | cons e l ih =>
    unfold portDrainGo
    split; refine Keeps.step (ih ..) rfl ?_; refine Keeps.step (portSend1_keeps ..) rfl ?_; exact Keeps.refl _ _
    refine Keeps.step (ih ..) rfl ?_; refine Keeps.step (modPort_keeps ..) rfl ?_; exact Keeps.refl _ _

theorem portDrain_keeps (p) (s : State) : Keeps 0x2000000200000000000000000 s (portDrain p s) := by
  unfold portDrain
  refine Keeps.step (portDrainGo_keeps ..) rfl ?_; refine Keeps.step (modPort_keeps ..) rfl ?_; exact Keeps.refl _ _

theorem hand_keeps (from_) (k) (s : State) : Keeps 0x2000000200000040000000000 s (hand from_ k s).1 := by
  unfold hand
  split; dsimp only; refine Keeps.step (portDrain_keeps ..) rfl ?_; refine Keeps.step (modPort_keeps ..) rfl ?_
  exact Keeps.refl _ _; dsimp only; refine State.bump_keeps _ _ ?_ ?_; exact rfl; exact Keeps.refl _ _

theorem handAll_keeps (from_) (x1) (s : State) : Keeps 0x2000000200000040000000000 s (handAll from_ x1 s).1 := by
  induction x1 generalizing s with
  | nil =>
    unfold handAll
    dsimp only; exact Keeps.refl _ _
  | cons e l ih =>
    unfold handAll
    dsimp only; refine Keeps.step (ih ..) rfl ?_; split; split; refine Keeps.step (hand_keeps ..) rfl ?_; exact Keeps.refl _ _
    split; refine Keeps.step (hand_keeps ..) rfl ?_; refine Keeps.step (hand_keeps ..) rfl ?_; exact Keeps.refl _ _
    refine Keeps.step (hand_keeps ..) rfl ?_; exact Keeps.refl _ _; refine Keeps.step (hand_keeps ..) rfl ?_
    exact Keeps.refl _ _

end Sys2Proof.Machine
end

