-- ==== Sys2Proof/Laws/Keeps/Permit.lean ====
section
/-!
SUPPORT. What each operation of Machine/Permit.lean keeps: the mask names the register blocks (bits 0 to 63) and the parts of State (bit
64 on) that the operation may change; everything outside it stays.
-/
namespace Sys2Proof.Machine

theorem setActSt_keeps (a) (st) (s : State) : Keeps 0x100 s (setActSt a st s) := by
  unfold setActSt
  refine State.putBit_keeps _ _ _ ?_ ?_; exact rfl; refine State.set_keeps _ _ ?_ ?_; split; exact rfl; exact rfl
  exact Keeps.refl _ _

theorem setGrant_keeps (k) (g) (s : State) : Keeps 0x100000000000000000000 s (setGrant k g s) := by
  unfold setGrant; refine Keeps.upd_bul _ ?_ ?_; exact rfl; exact Keeps.refl _ _

theorem setWait_keeps (k) (x1) (s : State) : Keeps 0x100000000000000000000 s (setWait k x1 s) := by
  unfold setWait; refine Keeps.upd_bul _ ?_ ?_; exact rfl; exact Keeps.refl _ _

theorem onGrant_keeps (k) (s : State) : Keeps 0x20000002000000000000000c0 s (onGrant k s) := by
  unfold onGrant
  split; split; refine State.set_keeps _ _ ?_ ?_; exact SRV_STAT_SEEK_STATE_bit rfl rfl ..; exact Keeps.refl _ _
  exact Keeps.refl _ _; split; refine State.set_keeps _ _ ?_ ?_; exact SRV_STAT_SEEK_STATE_bit rfl rfl ..; exact Keeps.refl _ _
  exact Keeps.refl _ _; refine Keeps.step (portDrain_keeps ..) rfl ?_; exact Keeps.refl _ _
  refine Keeps.step (portDrain_keeps ..) rfl ?_; exact Keeps.refl _ _; refine Keeps.step (portDrain_keeps ..) rfl ?_
  exact Keeps.refl _ _; refine Keeps.step (portDrain_keeps ..) rfl ?_; exact Keeps.refl _ _; exact Keeps.refl _ _

theorem grantWait_keeps (k) (x1) (s : State) : Keeps 0x100000000000000000000 s (grantWait k x1 s) := by
  unfold grantWait
  refine Keeps.step (setWait_keeps ..) rfl ?_; refine Keeps.step (setGrant_keeps ..) rfl ?_; exact Keeps.refl _ _

theorem walkList_keeps (x0) (bar5) (bar12) (s : State) : Keeps 0x20001002000000000100000c0 s (walkList x0 bar5 bar12 s) := by
  induction x0 generalizing s bar5 bar12 with
  | nil =>
    unfold walkList
    exact Keeps.refl _ _
  | cons e l ih =>
    unfold walkList
    dsimp only; split; refine Keeps.step (ih ..) rfl ?_; exact Keeps.refl _ _; refine Keeps.step (ih ..) rfl ?_
    refine Keeps.step (onGrant_keeps ..) rfl ?_; refine State.on_keeps _ ?_ ?_; exact rfl
    refine Keeps.step (grantWait_keeps ..) rfl ?_; exact Keeps.refl _ _

theorem bulWalk_keeps (s : State) : Keeps 0x20001002000000000100000c0 s (bulWalk s) := by
  unfold bulWalk
  split; refine Keeps.step (walkList_keeps ..) rfl ?_; exact Keeps.refl _ _; exact Keeps.refl _ _

theorem bulRequest_keeps (k) (i5) (i12) (dur) (dl) (s : State) :
    Keeps 0x20001002000000000100000c0 s (bulRequest k i5 i12 dur dl s).1 := by
  unfold bulRequest
  split; split; dsimp only; refine State.on_keeps _ ?_ ?_; exact rfl; exact Keeps.refl _ _; split; dsimp only
  refine State.on_keeps _ ?_ ?_; exact rfl; refine Keeps.step (setGrant_keeps ..) rfl ?_; exact Keeps.refl _ _; dsimp only
  split; dsimp only; refine Keeps.step (bulWalk_keeps ..) rfl ?_; refine Keeps.step (setWait_keeps ..) rfl ?_
  exact Keeps.refl _ _; dsimp only; refine State.on_keeps _ ?_ ?_; exact rfl; refine Keeps.step (bulWalk_keeps ..) rfl ?_
  refine Keeps.step (setWait_keeps ..) rfl ?_; exact Keeps.refl _ _; dsimp only; split; dsimp only
  refine Keeps.step (bulWalk_keeps ..) rfl ?_; refine Keeps.step (setWait_keeps ..) rfl ?_; exact Keeps.refl _ _; dsimp only
  refine State.on_keeps _ ?_ ?_; exact rfl; refine Keeps.step (bulWalk_keeps ..) rfl ?_
  refine Keeps.step (setWait_keeps ..) rfl ?_; exact Keeps.refl _ _

theorem bulRelease_keeps (k) (s : State) : Keeps 0x20001002000000000100000c0 s (bulRelease k s) := by
  unfold bulRelease
  refine Keeps.step (bulWalk_keeps ..) rfl ?_; refine Keeps.step (setWait_keeps ..) rfl ?_
  refine Keeps.step (setGrant_keeps ..) rfl ?_; exact Keeps.refl _ _

theorem hwAsk_keeps (k) (ma) (s : State) : Keeps 0x20001002000000000100000c0 s (hwAsk k ma s) := by
  unfold hwAsk
  split; exact Keeps.refl _ _; refine Keeps.step (bulRequest_keeps ..) rfl ?_; exact Keeps.refl _ _

end Sys2Proof.Machine
end

