-- ==== Sys2Proof/Laws/Keeps/Angle.lean ====
section
/-!
SUPPORT. What each operation of Machine/Angle.lean keeps: the mask names the register blocks (bits 0 to 63) and the parts of State (bit
64 on) that the operation may change; everything outside it stays.
-/
namespace Sys2Proof.Machine

theorem setRing_keeps (a) (l) (s : State) : Keeps 0x200000000000000000000 s (setRing a l s) := by
  unfold setRing
  refine Keeps.upd_inv _ ?_ ?_ ?_; exact rfl; (first | exact Nat.le_refl _ | exact State.bemfStart_ge _); exact Keeps.refl _ _

theorem dropRemoved_keeps (a) (reason) (e) (s : State) : Keeps 0x848000000002000000040c s (dropRemoved a reason s e) := by
  unfold dropRemoved
  split; refine Keeps.step (dropWg_keeps ..) rfl ?_; refine State.onBit_keeps _ _ ?_ ?_; exact rfl; exact Keeps.refl _ _
  exact Keeps.refl _ _

theorem flushRings_keeps (s : State) : Keeps 0x868000000002000000040c s (flushRings s) := by
  unfold flushRings
  dsimp only; refine Keeps.step (patTrig_keeps ..) rfl ?_; refine State.on_keeps _ ?_ ?_; exact rfl
  refine Keeps.foldl (fun w e hw => ?_) ?_; refine Keeps.step (dropRemoved_keeps ..) rfl ?_; assumption
  refine Keeps.foldl (fun w e hw => ?_) ?_; refine Keeps.step (dropRemoved_keeps ..) rfl ?_; assumption
  refine Keeps.upd_inv_wch _ _ ?_ ?_ ?_ ?_; exact rfl; exact rfl; (first | exact Nat.le_refl _ | exact State.bemfStart_ge _)
  exact Keeps.refl _ _

theorem setSource_keeps (new) (s : State) : Keeps 0x868010000002000000040c s (setSource new s) := by
  unfold setSource
  dsimp only; split; exact Keeps.refl _ _; split; refine Keeps.step (flushRings_keeps ..) rfl ?_; refine State.off_keeps _ ?_ ?_
  exact rfl; split; refine State.set_keeps _ _ ?_ ?_; exact rfl; refine State.on_keeps _ ?_ ?_; exact rfl
  refine State.put_keeps _ _ ?_ ?_; exact rfl; refine State.set_keeps _ _ ?_ ?_; exact rfl; exact Keeps.refl _ _
  refine Keeps.step (quenchBoth_keeps ..) rfl ?_; refine Keeps.upd_inv _ ?_ ?_ ?_; exact rfl
  (first | exact Nat.le_refl _ | exact State.bemfStart_ge _); refine State.set_keeps _ _ ?_ ?_; exact rfl
  refine State.on_keeps _ ?_ ?_; exact rfl; refine State.put_keeps _ _ ?_ ?_; exact rfl; refine State.set_keeps _ _ ?_ ?_
  exact rfl; exact Keeps.refl _ _; split; refine Keeps.upd_free_inv _ _ ?_ ?_ ?_ ?_ ?_; exact rfl; exact rfl
  exact Nat.le_add_right _ _; (first | exact Nat.le_refl _ | exact State.bemfStart_ge _); split
  refine State.set_keeps _ _ ?_ ?_; exact rfl; refine State.on_keeps _ ?_ ?_; exact rfl; refine State.put_keeps _ _ ?_ ?_
  exact rfl; refine State.set_keeps _ _ ?_ ?_; exact rfl; exact Keeps.refl _ _; refine Keeps.step (quenchBoth_keeps ..) rfl ?_
  refine Keeps.upd_inv _ ?_ ?_ ?_; exact rfl; (first | exact Nat.le_refl _ | exact State.bemfStart_ge _)
  refine State.set_keeps _ _ ?_ ?_; exact rfl; refine State.on_keeps _ ?_ ?_; exact rfl; refine State.put_keeps _ _ ?_ ?_
  exact rfl; refine State.set_keeps _ _ ?_ ?_; exact rfl; exact Keeps.refl _ _; split; refine State.set_keeps _ _ ?_ ?_
  exact rfl; refine State.on_keeps _ ?_ ?_; exact rfl; refine State.put_keeps _ _ ?_ ?_; exact rfl
  refine State.set_keeps _ _ ?_ ?_; exact rfl; exact Keeps.refl _ _; refine Keeps.step (quenchBoth_keeps ..) rfl ?_
  refine Keeps.upd_inv _ ?_ ?_ ?_; exact rfl; (first | exact Nat.le_refl _ | exact State.bemfStart_ge _)
  refine State.set_keeps _ _ ?_ ?_; exact rfl; refine State.on_keeps _ ?_ ?_; exact rfl; refine State.put_keeps _ _ ?_ ?_
  exact rfl; refine State.set_keeps _ _ ?_ ?_; exact rfl; exact Keeps.refl _ _

theorem setLock_keeps (surf) (r) (s : State) : Keeps 0x200000000000000000000 s (setLock surf r s) := by
  unfold setLock
  split; refine Keeps.upd_inv _ ?_ ?_ ?_; exact rfl; (first | exact Nat.le_refl _ | exact State.bemfStart_ge _)
  exact Keeps.refl _ _; exact Keeps.refl _ _

theorem unlockSurf_keeps (surf) (s : State) : Keeps 0x868010000002000000040c s (unlockSurf surf s) := by
  unfold unlockSurf
  dsimp only; split; split; split; refine Keeps.step (setSource_keeps ..) rfl ?_; refine Keeps.upd_inv _ ?_ ?_ ?_; exact rfl
  (first | exact Nat.le_refl _ | exact State.bemfStart_ge _); refine State.offBit_keeps _ _ ?_ ?_; exact rfl
  refine Keeps.step (setLock_keeps ..) rfl ?_; exact Keeps.refl _ _; refine Keeps.upd_inv _ ?_ ?_ ?_; exact rfl
  (first | exact Nat.le_refl _ | exact State.bemfStart_ge _); refine State.offBit_keeps _ _ ?_ ?_; exact rfl
  refine Keeps.step (setLock_keeps ..) rfl ?_; exact Keeps.refl _ _; split; refine Keeps.step (setSource_keeps ..) rfl ?_
  refine State.offBit_keeps _ _ ?_ ?_; exact rfl; refine Keeps.step (setLock_keeps ..) rfl ?_; exact Keeps.refl _ _
  refine State.offBit_keeps _ _ ?_ ?_; exact rfl; refine Keeps.step (setLock_keeps ..) rfl ?_; exact Keeps.refl _ _
  refine Keeps.step (setLock_keeps ..) rfl ?_; exact Keeps.refl _ _

theorem dropSurf_keeps (surf) (s : State) : Keeps 0x868010000002000000040c s (dropSurf surf s) := by
  unfold dropSurf
  refine Keeps.step (setLock_keeps ..) rfl ?_; refine Keeps.step (unlockSurf_keeps ..) rfl ?_; exact Keeps.refl _ _

theorem invObsLock_keeps (s : State) : Keeps 0x868010000002000000040c s (invObsLock s) := by
  unfold invObsLock
  split; refine Keeps.step (setSource_keeps ..) rfl ?_; exact Keeps.refl _ _; exact Keeps.refl _ _

theorem invObsLoss_keeps (s : State) : Keeps 0x868010000002000000040c s (invObsLoss s) := by
  unfold invObsLoss
  split; refine Keeps.step (setSource_keeps ..) rfl ?_; exact Keeps.refl _ _; exact Keeps.refl _ _

theorem wedgePass_keeps (s : State) : Keeps 0x600000000000000000004 s (wedgePass s) := by
  unfold wedgePass
  dsimp only; split; split; split; refine State.set_keeps _ _ ?_ ?_; exact rfl; refine Keeps.upd_inv _ ?_ ?_ ?_; exact rfl
  (first | exact Nat.le_refl _ | exact State.bemfStart_ge _); refine Keeps.step (relCountWedge_keeps ..) rfl ?_
  refine Keeps.step (relCountWedge_keeps ..) rfl ?_; exact Keeps.refl _ _; refine Keeps.upd_inv _ ?_ ?_ ?_; exact rfl
  (first | exact Nat.le_refl _ | exact State.bemfStart_ge _); refine Keeps.step (relCountWedge_keeps ..) rfl ?_
  refine Keeps.step (relCountWedge_keeps ..) rfl ?_; exact Keeps.refl _ _; split; refine State.set_keeps _ _ ?_ ?_; exact rfl
  refine Keeps.upd_inv _ ?_ ?_ ?_; exact rfl; (first | exact Nat.le_refl _ | exact State.bemfStart_ge _)
  refine Keeps.step (relCountWedge_keeps ..) rfl ?_; refine Keeps.step (relCountWedge_keeps ..) rfl ?_
  refine Keeps.step (relCountWedge_keeps ..) rfl ?_; refine Keeps.step (relCountWedge_keeps ..) rfl ?_; exact Keeps.refl _ _
  refine Keeps.upd_inv _ ?_ ?_ ?_; exact rfl; (first | exact Nat.le_refl _ | exact State.bemfStart_ge _)
  refine Keeps.step (relCountWedge_keeps ..) rfl ?_; refine Keeps.step (relCountWedge_keeps ..) rfl ?_
  refine Keeps.step (relCountWedge_keeps ..) rfl ?_; refine Keeps.step (relCountWedge_keeps ..) rfl ?_; exact Keeps.refl _ _
  split; split; refine State.set_keeps _ _ ?_ ?_; exact rfl; refine Keeps.upd_inv _ ?_ ?_ ?_; exact rfl
  (first | exact Nat.le_refl _ | exact State.bemfStart_ge _); refine Keeps.step (relCountWedge_keeps ..) rfl ?_
  refine Keeps.step (relCountWedge_keeps ..) rfl ?_; refine Keeps.step (relCountWedge_keeps ..) rfl ?_
  refine Keeps.step (relCountWedge_keeps ..) rfl ?_; exact Keeps.refl _ _; refine Keeps.upd_inv _ ?_ ?_ ?_; exact rfl
  (first | exact Nat.le_refl _ | exact State.bemfStart_ge _); refine Keeps.step (relCountWedge_keeps ..) rfl ?_
  refine Keeps.step (relCountWedge_keeps ..) rfl ?_; refine Keeps.step (relCountWedge_keeps ..) rfl ?_
  refine Keeps.step (relCountWedge_keeps ..) rfl ?_; exact Keeps.refl _ _; split; refine State.set_keeps _ _ ?_ ?_; exact rfl
  refine Keeps.upd_inv _ ?_ ?_ ?_; exact rfl; (first | exact Nat.le_refl _ | exact State.bemfStart_ge _)
  refine Keeps.step (relCountWedge_keeps ..) rfl ?_; refine Keeps.step (relCountWedge_keeps ..) rfl ?_
  refine Keeps.step (relCountWedge_keeps ..) rfl ?_; refine Keeps.step (relCountWedge_keeps ..) rfl ?_
  refine Keeps.step (relCountWedge_keeps ..) rfl ?_; refine Keeps.step (relCountWedge_keeps ..) rfl ?_; exact Keeps.refl _ _
  refine Keeps.upd_inv _ ?_ ?_ ?_; exact rfl; (first | exact Nat.le_refl _ | exact State.bemfStart_ge _)
  refine Keeps.step (relCountWedge_keeps ..) rfl ?_; refine Keeps.step (relCountWedge_keeps ..) rfl ?_
  refine Keeps.step (relCountWedge_keeps ..) rfl ?_; refine Keeps.step (relCountWedge_keeps ..) rfl ?_
  refine Keeps.step (relCountWedge_keeps ..) rfl ?_; refine Keeps.step (relCountWedge_keeps ..) rfl ?_; exact Keeps.refl _ _

theorem wedgesPass_keeps (x0) (s : State) : Keeps 0x600000000000000000004 s (wedgesPass x0 s) := by
  induction x0 generalizing s with
  | zero =>
    unfold wedgesPass
    exact Keeps.refl _ _
  | succ k ih =>
    unfold wedgesPass
    refine Keeps.step (ih ..) rfl ?_; refine Keeps.step (wedgePass_keeps ..) rfl ?_; exact Keeps.refl _ _

theorem advanceTo_keeps (st) (s : State) : Keeps 0x600000000000000000004 s (advanceTo st s) := by
  unfold advanceTo
  split
  · exact Keeps.refl _ _
  · next hs =>
    refine Keeps.step (wedgesPass_keeps ..) rfl ?_
    exact Keeps.upd_inv _ rfl (by dsimp only; omega) (Keeps.refl _ _)

theorem wallTicks_keeps (x0) (s : State) : Keeps 0x600000000000000000004 s (wallTicks x0 s) := by
  unfold wallTicks
  refine Keeps.step (wedgesPass_keeps ..) rfl ?_; refine Keeps.upd_inv _ ?_ ?_ ?_; exact rfl
  (first | exact Nat.le_refl _ | exact State.bemfStart_ge _); exact Keeps.refl _ _

end Sys2Proof.Machine
end

