-- ==== Sys2Proof/Laws/Keeps/Hold.lean ====
section
/-!
SUPPORT. What each operation of Machine/Hold.lean keeps: the mask names the register blocks (bits 0 to 63) and the parts of State (bit
64 on) that the operation may change; everything outside it stays.
-/
namespace Sys2Proof.Machine

theorem capRecompute_keeps (before) (s : State) : Keeps 0x80000000020000400000 s (capRecompute before s) := by
  unfold capRecompute
  split; refine Keeps.step (patTrig_keeps ..) rfl ?_; refine State.on_keeps _ ?_ ?_; exact rfl; exact Keeps.refl _ _
  exact Keeps.refl _ _

theorem withCap_keeps {m : Nat} {s t : State} (hm : 0x80000000020000400000 &&& m = 0x80000000020000400000) (h : Keeps m s t) (f) (hf : ∀ w, Keeps m s w → Keeps m s (f w)) :
    Keeps m s (withCap f t) := by
  unfold withCap
  refine Keeps.step' hm (capRecompute_keeps ..) rfl ?_; refine hf  _ ?_; assumption

theorem holdupUpdate_keeps (s : State) : Keeps 0x80000000020000400010 s (holdupUpdate s) := by
  unfold holdupUpdate
  split; exact Keeps.refl _ _; refine withCap_keeps (h := ?_) (hm := ?_) (hf := fun w hw => ?_) ..; rfl; exact Keeps.refl _ _
  refine State.set_keeps _ _ ?_ ?_; exact rfl; assumption

end Sys2Proof.Machine
end

