-- ==== Sys2Proof/Laws/Keeps/Mem.lean ====
section
/-!
SUPPORT. What each operation of Machine/Mem.lean keeps: the mask names the register blocks (bits 0 to 63) and the parts of State (bit
64 on) that the operation may change; everything outside it stays.
-/
namespace Sys2Proof.Machine

theorem State.dramWrite_keeps (a) (l) (s : State) : Keeps 0xc0000000000800000 s (State.dramWrite s a l) := by
  unfold State.dramWrite
  dsimp only
  have e : Keeps 0xc0000000000000000 s { s with
      dram := storeBytes s.dram a l
      poison := s.poison.filter fun p => !(decide (a ≤ p * 64) && decide (p * 64 + 64 ≤ a + l.length)) } :=
    (Keeps.refl _ s).upd rfl rfl ⟨[], (List.append_nil _).symm⟩ (storeBytes_wf l a) (Nat.le_refl _)
      (fun _ => Nat.le_refl _) (by constructor <;> intro hb <;> first | rfl | cases hb)
  split
  · split
    · exact State.on_keeps _ rfl (e.mono rfl)
    · exact e.mono rfl
  · exact Keeps.refl _ _

theorem State.dramPut_keeps (a) (x2) (x3) (s : State) : Keeps 0xc0000000000800000 s (State.dramPut s a x2 x3) := by
  unfold State.dramPut
  refine Keeps.step (State.dramWrite_keeps ..) rfl ?_; exact Keeps.refl _ _

end Sys2Proof.Machine
end

