-- ==== Sys2Proof/Laws/Keeps/Buffer.lean ====
section
/-!
SUPPORT. What each operation of Machine/Buffer.lean keeps: the mask names the register blocks (bits 0 to 63) and the parts of State (bit
64 on) that the operation may change; everything outside it stays.
-/
namespace Sys2Proof.Machine

theorem modUnits_keeps (f) (s : State) : Keeps 0x8000000000000000000 s (modUnits f s) := by
  unfold modUnits; refine Keeps.upd_buf _ ?_ ?_; exact rfl; exact Keeps.refl _ _

theorem putUnit_keeps (x0) (x) (s : State) : Keeps 0x8000000000000000000 s (putUnit x0 x s) := by
  unfold putUnit; refine Keeps.step (modUnits_keeps ..) rfl ?_; exact Keeps.refl _ _

theorem segResp_keeps (r) (op) (x2) (addr) (res) (first) (s : State) : Keeps 0x400000 s (segResp r op x2 addr res first s) := by
  unfold segResp
  refine State.on_keeps _ ?_ ?_; rw [Fld.blk_of]; exact rfl; refine State.set_keeps _ _ ?_ ?_; rw [Fld.blk_of]; exact rfl
  refine State.set_keeps _ _ ?_ ?_; rw [Fld.blk_of]; exact rfl; refine State.set_keeps _ _ ?_ ?_
  rw [Fld.blk_of, BUF_SEG_W_blk]; exact rfl; refine State.set_keeps _ _ ?_ ?_; rw [Fld.blk_of, BUF_SEG_W_blk]; exact rfl
  exact Keeps.refl _ _

theorem segAlloc_keeps (r) (dirty) (x2) (addr) (s : State) : Keeps 0x8100000000000400000 s (segAlloc r dirty x2 addr s) := by
  unfold segAlloc
  dsimp only; split; refine Keeps.step (segResp_keeps ..) rfl ?_; exact Keeps.refl _ _; split
  refine Keeps.step (segResp_keeps ..) rfl ?_; refine State.on_keeps _ ?_ ?_; exact rfl; exact Keeps.refl _ _; split
  refine Keeps.step (segResp_keeps ..) rfl ?_; exact Keeps.refl _ _; refine Keeps.step (segResp_keeps ..) rfl ?_
  refine Keeps.foldl (fun w e hw => ?_) ?_; refine Keeps.step (putUnit_keeps ..) rfl ?_; assumption
  refine State.draw_keeps ?_ ?_; exact rfl; exact Keeps.refl _ _

theorem segNamed_keeps (r) (op) (x2) (addr) (f) (s : State) : Keeps 0x8000000000000400000 s (segNamed r op x2 addr f s) := by
  unfold segNamed
  dsimp only; split; refine Keeps.step (segResp_keeps ..) rfl ?_; exact Keeps.refl _ _; split; split
  refine Keeps.step (segResp_keeps ..) rfl ?_; exact Keeps.refl _ _; split; refine Keeps.step (segResp_keeps ..) rfl ?_
  exact Keeps.refl _ _; split; refine Keeps.step (segResp_keeps ..) rfl ?_; exact Keeps.refl _ _
  refine Keeps.step (segResp_keeps ..) rfl ?_; refine Keeps.foldl (fun w e hw => ?_) ?_
  refine Keeps.step (putUnit_keeps ..) rfl ?_; assumption; exact Keeps.refl _ _; split
  refine Keeps.step (segResp_keeps ..) rfl ?_; exact Keeps.refl _ _; split; refine Keeps.step (segResp_keeps ..) rfl ?_
  exact Keeps.refl _ _; split; refine Keeps.step (segResp_keeps ..) rfl ?_; exact Keeps.refl _ _
  refine Keeps.step (segResp_keeps ..) rfl ?_; refine Keeps.foldl (fun w e hw => ?_) ?_
  refine Keeps.step (putUnit_keeps ..) rfl ?_; assumption; exact Keeps.refl _ _

theorem execAllocClean_keeps (r) (x1) (s : State) : KeepsRes 0x8100000000000400000 s (execAllocClean r x1 s) := by
  unfold execAllocClean
  refine KeepsRes.next ?_; refine live_keeps _ (fun w hw => ?_) ?_; refine Keeps.step (segAlloc_keeps ..) rfl ?_; assumption
  exact Keeps.refl _ _

theorem execAllocDirty_keeps (r) (x1) (s : State) : KeepsRes 0x8100000000000400000 s (execAllocDirty r x1 s) := by
  unfold execAllocDirty
  refine KeepsRes.next ?_; refine live_keeps _ (fun w hw => ?_) ?_; refine Keeps.step (segAlloc_keeps ..) rfl ?_; assumption
  exact Keeps.refl _ _

theorem execRef_keeps (r) (x1) (addr) (s : State) : KeepsRes 0x8000000000000400000 s (execRef r x1 addr s) := by
  unfold execRef
  refine KeepsRes.next ?_; refine live_keeps _ (fun w hw => ?_) ?_; refine Keeps.step (segNamed_keeps ..) rfl ?_; assumption
  exact Keeps.refl _ _

theorem execUnref_keeps (r) (x1) (addr) (s : State) : KeepsRes 0x8000000000000400000 s (execUnref r x1 addr s) := by
  unfold execUnref
  refine KeepsRes.next ?_; refine live_keeps _ (fun w hw => ?_) ?_; refine Keeps.step (segNamed_keeps ..) rfl ?_; assumption
  exact Keeps.refl _ _

theorem execClean_keeps (r) (x1) (addr) (s : State) : KeepsRes 0x8000000000000400000 s (execClean r x1 addr s) := by
  unfold execClean
  refine KeepsRes.next ?_; refine live_keeps _ (fun w hw => ?_) ?_; refine Keeps.step (segNamed_keeps ..) rfl ?_; assumption
  exact Keeps.refl _ _

theorem execCleanUnref_keeps (r) (x1) (addr) (s : State) : KeepsRes 0x8000000000000400000 s (execCleanUnref r x1 addr s) := by
  unfold execCleanUnref
  refine KeepsRes.next ?_; refine live_keeps _ (fun w hw => ?_) ?_; refine Keeps.step (segNamed_keeps ..) rfl ?_; assumption
  exact Keeps.refl _ _

theorem execRestore_keeps (r) (x1) (addr) (s : State) : KeepsRes 0x8000000000000400000 s (execRestore r x1 addr s) := by
  unfold execRestore
  refine KeepsRes.next ?_; refine live_keeps _ (fun w hw => ?_) ?_; refine Keeps.step (segNamed_keeps ..) rfl ?_; assumption
  exact Keeps.refl _ _

theorem dmaGo_keeps (c) (s : State) : Keeps 0x20001002000000000104000c0 s (dmaGo c s) := by
  unfold dmaGo
  dsimp only; split; refine Keeps.step (hwAsk_keeps ..) rfl ?_; refine State.on_keeps _ ?_ ?_
  rw [BUF_DMA_CTL_GO_blk]; exact rfl; refine State.off_keeps _ ?_ ?_; rw [BUF_DMA_CTL_HALTED_blk]; exact rfl
  exact Keeps.refl _ _; refine State.on_keeps _ ?_ ?_; rw [BUF_DMA_CTL_GO_blk]; exact rfl; refine State.off_keeps _ ?_ ?_
  rw [BUF_DMA_CTL_HALTED_blk]; exact rfl; exact Keeps.refl _ _

theorem dmaStart_keeps (c) (op) (s : State) : Keeps 0x20001002000000000104000c0 s (dmaStart c op s) := by
  unfold dmaStart
  split; exact Keeps.refl _ _; refine Keeps.step (dmaGo_keeps ..) rfl ?_; refine State.set_keeps _ _ ?_ ?_
  rw [BUF_DMA_CTL_OP_blk]; exact rfl; exact Keeps.refl _ _

theorem execDmaCopy_keeps (c) (s : State) : KeepsRes 0x20001002000000000104000c0 s (execDmaCopy c s) := by
  unfold execDmaCopy
  refine KeepsRes.next ?_; refine live_keeps _ (fun w hw => ?_) ?_; refine Keeps.step (dmaStart_keeps ..) rfl ?_; assumption
  exact Keeps.refl _ _

theorem execDmaFill_keeps (c) (s : State) : KeepsRes 0x20001002000000000104000c0 s (execDmaFill c s) := by
  unfold execDmaFill
  refine KeepsRes.next ?_; refine live_keeps _ (fun w hw => ?_) ?_; refine Keeps.step (dmaStart_keeps ..) rfl ?_; assumption
  exact Keeps.refl _ _

theorem memUe_keeps (array) (reader) (addr) (s : State) : Keeps 0x80000000020000800000 s (memUe array reader addr s) := by
  unfold memUe
  dsimp only; refine Keeps.step (patTrig_keeps ..) rfl ?_; split; refine State.bump_keeps _ _ ?_ ?_; exact rfl
  refine State.on_keeps _ ?_ ?_; exact rfl; exact Keeps.refl _ _; refine State.set_keeps _ _ ?_ ?_; exact rfl
  refine State.set_keeps _ _ ?_ ?_; exact rfl; refine State.set_keeps _ _ ?_ ?_; exact rfl; refine State.on_keeps _ ?_ ?_
  exact rfl; refine State.bump_keeps _ _ ?_ ?_; exact rfl; refine State.on_keeps _ ?_ ?_; exact rfl; exact Keeps.refl _ _

theorem dramUe_keeps (reader) (line) (s : State) : Keeps 0x80080000020000800000 s (dramUe reader line s) := by
  unfold dramUe
  refine Keeps.step (memUe_keeps ..) rfl ?_; split; exact Keeps.refl _ _; refine Keeps.upd_poison _ ?_ ?_; exact rfl
  exact Keeps.refl _ _

theorem memCe_keeps (s : State) : Keeps 0x800000 s (memCe s) := by
  unfold memCe
  refine State.bump_keeps _ _ ?_ ?_; exact rfl; refine State.on_keeps _ ?_ ?_; exact rfl; exact Keeps.refl _ _

theorem scrubRead_keeps (ce) (ue) (s : State) : Keeps 0x40080080000020000800000 s (scrubRead ce ue s) := by
  unfold scrubRead
  dsimp only; split; refine State.on_keeps _ ?_ ?_; exact rfl; split; refine Keeps.upd_mem _ ?_ ?_; exact rfl
  exact Keeps.refl _ _; split; refine Keeps.step (dramUe_keeps ..) rfl ?_; refine Keeps.upd_mem _ ?_ ?_; exact rfl
  exact Keeps.refl _ _; split; refine Keeps.step (memCe_keeps ..) rfl ?_; refine Keeps.upd_mem _ ?_ ?_; exact rfl
  exact Keeps.refl _ _; refine Keeps.upd_mem _ ?_ ?_; exact rfl; exact Keeps.refl _ _; split; refine Keeps.upd_mem _ ?_ ?_
  exact rfl; exact Keeps.refl _ _; split; refine Keeps.step (dramUe_keeps ..) rfl ?_; refine Keeps.upd_mem _ ?_ ?_; exact rfl
  exact Keeps.refl _ _; split; refine Keeps.step (memCe_keeps ..) rfl ?_; refine Keeps.upd_mem _ ?_ ?_; exact rfl
  exact Keeps.refl _ _; refine Keeps.upd_mem _ ?_ ?_; exact rfl; exact Keeps.refl _ _

theorem execScrubRead_keeps (ce) (ue) (s : State) : KeepsRes 0x40080080000020000800000 s (execScrubRead ce ue s) := by
  unfold execScrubRead
  refine KeepsRes.next ?_; refine live_keeps _ (fun w hw => ?_) ?_; refine State.when_keeps _ _ (fun w hw => ?_) ?_
  refine Keeps.step (scrubRead_keeps ..) rfl ?_; assumption; assumption; exact Keeps.refl _ _

theorem rowRepair_keeps (array) (row) (s : State) : Keeps 0x40080000000020000800000 s (rowRepair array row s) := by
  unfold rowRepair
  dsimp only; split; refine Keeps.step (patTrig_keeps ..) rfl ?_; refine State.on_keeps _ ?_ ?_; exact rfl
  refine State.set_keeps _ _ ?_ ?_; exact rfl; refine State.set_keeps _ _ ?_ ?_; exact rfl; exact Keeps.refl _ _
  refine Keeps.upd_mem _ ?_ ?_; exact rfl; refine State.set_keeps _ _ ?_ ?_; exact rfl; refine State.set_keeps _ _ ?_ ?_
  exact rfl; exact Keeps.refl _ _

theorem execRowRepair_keeps (array) (row) (s : State) : KeepsRes 0x40080000000020000800000 s (execRowRepair array row s) := by
  unfold execRowRepair
  refine KeepsRes.next ?_; refine live_keeps _ (fun w hw => ?_) ?_; refine Keeps.step (rowRepair_keeps ..) rfl ?_; assumption
  exact Keeps.refl _ _

theorem execRegionRetire_keeps (i) (x1) (s : State) : KeepsRes 0x800000 s (execRegionRetire i x1 s) := by
  unfold execRegionRetire
  refine KeepsRes.next ?_; refine live_keeps _ (fun w hw => ?_) ?_; refine State.set_keeps _ _ ?_ ?_
  rw [MEM_RETIRE_REGION_blk]; exact rfl; refine State.put_keeps _ _ ?_ ?_; rw [MEM_RETIRE_VALID_blk]; exact rfl; assumption
  exact Keeps.refl _ _

theorem modVlt_keeps (f) (s : State) : Keeps 0x80000000000000000000000 s (modVlt f s) := by
  unfold modVlt; refine Keeps.upd_vlt _ ?_ ?_; exact rfl; exact Keeps.refl _ _

theorem vltAsk_keeps (s : State) : Keeps 0x20001002000000000110000c0 s (vltAsk s) := by
  unfold vltAsk
  split; dsimp only; split; refine Keeps.step (hwAsk_keeps ..) rfl ?_; exact Keeps.refl _ _; refine State.on_keeps _ ?_ ?_
  exact rfl; refine Keeps.step (hwAsk_keeps ..) rfl ?_; exact Keeps.refl _ _; exact Keeps.refl _ _

theorem vltCommit_keeps (r) (c) (s : State) : Keeps 0x20801002000000000110000c0 s (vltCommit r c s) := by
  unfold vltCommit
  dsimp only; split; refine Keeps.step (vltAsk_keeps ..) rfl ?_; refine Keeps.step (modVlt_keeps ..) rfl ?_
  refine State.on_keeps _ ?_ ?_; rw [Fld.blk_of]; exact rfl; refine State.set_keeps _ _ ?_ ?_; rw [Fld.blk_of]; exact rfl
  refine Keeps.foldl (fun w e hw => ?_) ?_; refine State.set_keeps _ _ ?_ ?_; rw [Fld.blk_of, VLT_CMD_W_blk]; exact rfl
  assumption; exact Keeps.refl _ _; refine State.on_keeps _ ?_ ?_; rw [Fld.blk_of]; exact rfl; refine State.set_keeps _ _ ?_ ?_
  rw [Fld.blk_of]; exact rfl; refine Keeps.foldl (fun w e hw => ?_) ?_; refine State.set_keeps _ _ ?_ ?_
  rw [Fld.blk_of, VLT_CMD_W_blk]; exact rfl; assumption; exact Keeps.refl _ _

theorem execVaultReadPage_keeps (r) (tag) (block) (page) (data) (spare) (s : State) :
    KeepsRes 0x20801002000000000110000c0 s (execVaultReadPage r tag block page data spare s) := by
  unfold execVaultReadPage
  refine KeepsRes.next ?_; refine live_keeps _ (fun w hw => ?_) ?_; refine Keeps.step (vltCommit_keeps ..) rfl ?_; assumption
  exact Keeps.refl _ _

theorem execVaultProgramPage_keeps (r) (tag) (block) (page) (data) (spare) (s : State) :
    KeepsRes 0x20801002000000000110000c0 s (execVaultProgramPage r tag block page data spare s) := by
  unfold execVaultProgramPage
  refine KeepsRes.next ?_; refine live_keeps _ (fun w hw => ?_) ?_; refine Keeps.step (vltCommit_keeps ..) rfl ?_; assumption
  exact Keeps.refl _ _

theorem execVaultEraseBlock_keeps (r) (tag) (block) (s : State) :
    KeepsRes 0x20801002000000000110000c0 s (execVaultEraseBlock r tag block s) := by
  unfold execVaultEraseBlock
  refine KeepsRes.next ?_; refine live_keeps _ (fun w hw => ?_) ?_; refine Keeps.step (vltCommit_keeps ..) rfl ?_; assumption
  exact Keeps.refl _ _

theorem putPage_keeps (k) (p) (s : State) : Keeps 0x80000000000000000000000 s (putPage k p s) := by
  unfold putPage; refine Keeps.step (modVlt_keeps ..) rfl ?_; exact Keeps.refl _ _

theorem vltPost_keeps (status) (tag) (maxbits) (s : State) : Keeps 0x80080000000020001000000 s (vltPost status tag maxbits s) := by
  unfold vltPost
  dsimp only; split; refine Keeps.step (patTrig_keeps ..) rfl ?_; refine State.on_keeps _ ?_ ?_; exact rfl
  refine State.on_keeps _ ?_ ?_; exact rfl; refine Keeps.step (modVlt_keeps ..) rfl ?_; exact Keeps.refl _ _
  refine State.on_keeps _ ?_ ?_; exact rfl; refine Keeps.step (modVlt_keeps ..) rfl ?_; exact Keeps.refl _ _

theorem putSaveMap_keeps (i) (b) (s : State) : Keeps 0x80000000020001400000 s (putSaveMap i b s) := by
  unfold putSaveMap
  refine withCap_keeps (h := ?_) (hm := ?_) (hf := fun w hw => ?_) ..; rfl; exact Keeps.refl _ _
  refine State.putBit_keeps _ _ _ ?_ ?_; rw [VLT_SAVE_MAP_ERASED_blk]; exact rfl; assumption

theorem vltDone_keeps (c) (maxbits) (failed) (s : State) : Keeps 0x800801c0000020001c00000 s (vltDone c maxbits failed s) := by
  unfold vltDone
  split; split; refine Keeps.step (vltPost_keeps ..) rfl ?_; exact Keeps.refl _ _; dsimp only
  refine Keeps.step (vltPost_keeps ..) rfl ?_; refine Keeps.step (State.dramPut_keeps ..) rfl ?_
  refine Keeps.step (State.dramPut_keeps ..) rfl ?_; refine Keeps.upd_free _ ?_ ?_ ?_; exact rfl; exact Nat.le_add_right _ _
  exact Keeps.refl _ _; split; refine Keeps.step (vltPost_keeps ..) rfl ?_; exact Keeps.refl _ _; split
  refine Keeps.step (vltPost_keeps ..) rfl ?_; exact Keeps.refl _ _; refine Keeps.step (vltPost_keeps ..) rfl ?_
  refine Keeps.step (putPage_keeps ..) rfl ?_; exact Keeps.refl _ _; split; refine Keeps.step (vltPost_keeps ..) rfl ?_
  exact Keeps.refl _ _; dsimp only; refine Keeps.step (vltPost_keeps ..) rfl ?_; split
  refine Keeps.step (putSaveMap_keeps ..) rfl ?_; refine Keeps.step (modVlt_keeps ..) rfl ?_; exact Keeps.refl _ _
  refine Keeps.step (modVlt_keeps ..) rfl ?_; exact Keeps.refl _ _

theorem vaultCommandDone_keeps (tag) (maxbits) (failed) (s : State) :
    Keeps 0x20801803c0000020011c000c0 s (vaultCommandDone tag maxbits failed s) := by
  unfold vaultCommandDone
  split; exact Keeps.refl _ _; split; exact Keeps.refl _ _; dsimp only; split; refine Keeps.step (bulRequest_keeps ..) rfl ?_
  refine Keeps.step (vltDone_keeps ..) rfl ?_; exact Keeps.refl _ _; refine Keeps.step (vltDone_keeps ..) rfl ?_
  exact Keeps.refl _ _

theorem execVaultCommandDone_keeps (tag) (maxbits) (failed) (s : State) :
    KeepsRes 0x20801803c0000020011c000c0 s (execVaultCommandDone tag maxbits failed s) := by
  unfold execVaultCommandDone
  refine KeepsRes.next ?_; refine live_keeps _ (fun w hw => ?_) ?_; refine Keeps.step (vaultCommandDone_keeps ..) rfl ?_
  assumption; exact Keeps.refl _ _

theorem execVaultCompletionPop_keeps (s : State) : KeepsRes 0x80000000000000000000000 s (execVaultCompletionPop s) := by
  unfold execVaultCompletionPop
  refine KeepsRes.next ?_; refine live_keeps _ (fun w hw => ?_) ?_; refine Keeps.step (modVlt_keeps ..) rfl ?_; assumption
  exact Keeps.refl _ _

end Sys2Proof.Machine
end

