-- ==== Sys2Proof/Laws/Keeps/Preamp.lean ====
section
/-!
SUPPORT. What each operation of Machine/Preamp.lean keeps: the mask names the register blocks (bits 0 to 63) and the parts of State (bit
64 on) that the operation may change; everything outside it stays.
-/
namespace Sys2Proof.Machine

theorem modSrv_keeps (a) (f) (s : State) : Keeps 0x1000000000000000000000 s (modSrv a f s) := by
  unfold modSrv; refine Keeps.upd_srv _ ?_ ?_; exact rfl; exact Keeps.refl _ _

theorem modLane_keeps (a) (l) (f) (s : State) : Keeps 0x1000000000000000000000 s (modLane a l f s) := by
  unfold modLane; refine Keeps.step (modSrv_keeps ..) rfl ?_; exact Keeps.refl _ _

theorem paKick_keeps (a) (s : State) : Keeps 0x1000000000000000000000 s (paKick a s) := by
  unfold paKick
  split; exact Keeps.refl _ _; split; exact Keeps.refl _ _; refine Keeps.step (modSrv_keeps ..) rfl ?_; exact Keeps.refl _ _

theorem paEnter_keeps (a) (f) (s : State) : Keeps 0x10000000000000000000c0 s (paEnter a f s) := by
  unfold paEnter
  dsimp only; split; refine State.off_keeps _ ?_ ?_; exact SRV_PA_CMD_GO_bit rfl rfl ..
  refine Keeps.step (modSrv_keeps ..) rfl ?_; exact Keeps.refl _ _; split; refine Keeps.step (modSrv_keeps ..) rfl ?_
  exact Keeps.refl _ _; refine Keeps.step (modLane_keeps ..) rfl ?_; refine Keeps.step (modSrv_keeps ..) rfl ?_
  exact Keeps.refl _ _; refine Keeps.step (modSrv_keeps ..) rfl ?_; exact Keeps.refl _ _

theorem paOffer_keeps (a) (f) (s : State) : Keeps 0x10000000000000000000c0 s (paOffer a f s) := by
  unfold paOffer
  split; refine Keeps.step (paKick_keeps ..) rfl ?_; refine Keeps.step (paEnter_keeps ..) rfl ?_; exact Keeps.refl _ _
  refine Keeps.step (modSrv_keeps ..) rfl ?_; exact Keeps.refl _ _

theorem paRefill_keeps (a) (x1) (s : State) : Keeps 0x10000000000000000000c0 s (paRefill a x1 s) := by
  induction x1 generalizing s with
  | zero =>
    unfold paRefill
    exact Keeps.refl _ _
  | succ k ih =>
    unfold paRefill
    split; split; exact Keeps.refl _ _; refine Keeps.step (ih ..) rfl ?_; refine Keeps.step (paEnter_keeps ..) rfl ?_
    refine Keeps.step (modSrv_keeps ..) rfl ?_; exact Keeps.refl _ _; exact Keeps.refl _ _

theorem tprPush_keeps (ch) (s : State) : Keeps 0x90000000000000000000c0 s (tprPush ch s) := by
  unfold tprPush
  dsimp only; split; exact Keeps.refl _ _; refine Keeps.foldl (fun w e hw => ?_) ?_; refine Keeps.step (paOffer_keeps ..) rfl ?_
  assumption; refine Keeps.upd_wch _ ?_ ?_; exact rfl; exact Keeps.refl _ _

theorem framesSettle_keeps (a) (s : State) : Keeps 0x90000000000000000000c0 s (framesSettle a s) := by
  unfold framesSettle
  refine Keeps.step (paKick_keeps ..) rfl ?_; refine Keeps.step (tprPush_keeps ..) rfl ?_
  refine Keeps.step (tprPush_keeps ..) rfl ?_; exact Keeps.refl _ _

theorem modeFrame_keeps (a) (kind) (data) (s : State) : Keeps 0x10000000000000000000c0 s (modeFrame a kind data s) := by
  unfold modeFrame; refine Keeps.step (paOffer_keeps ..) rfl ?_; exact Keeps.refl _ _

end Sys2Proof.Machine
end

