-- ==== Sys2Proof/Laws/Keeps/Write.lean ====
section
/-!
SUPPORT. What each operation of Machine/Write.lean keeps: the mask names the register blocks (bits 0 to 63) and the parts of State (bit
64 on) that the operation may change; everything outside it stays.
-/
namespace Sys2Proof.Machine

theorem modWch_keeps (ch) (f) (s : State) : Keeps 0x8000000000000000000000 s (modWch ch f s) := by
  unfold modWch; refine Keeps.upd_wch _ ?_ ?_; exact rfl; exact Keeps.refl _ _

theorem writeDescriptorCommit_keeps (r) (ch) (w7) (s : State) :
    Keeps 0x8000000000000000000400 s (writeDescriptorCommit r ch w7 s) := by
  unfold writeDescriptorCommit
  dsimp only; split; refine Keeps.step (modWch_keeps ..) rfl ?_; refine State.on_keeps _ ?_ ?_
  rw [Fld.blk_of, WCH_FQ_RESP_DONE_blk]; exact rfl; refine State.set_keeps _ _ ?_ ?_
  rw [Fld.blk_of, WCH_FQ_RESP_RESULT_blk]; exact rfl; refine State.set_keeps _ _ ?_ ?_; rw [Fld.blk_of, WCH_FQ_W_blk]; exact rfl
  exact Keeps.refl _ _; split; refine State.on_keeps _ ?_ ?_; rw [WCH_STAT_RZ_BAD_blk]; exact rfl; refine State.on_keeps _ ?_ ?_
  rw [Fld.blk_of, WCH_FQ_RESP_DONE_blk]; exact rfl; refine State.set_keeps _ _ ?_ ?_
  rw [Fld.blk_of, WCH_FQ_RESP_RESULT_blk]; exact rfl; refine State.set_keeps _ _ ?_ ?_; rw [Fld.blk_of, WCH_FQ_W_blk]; exact rfl
  exact Keeps.refl _ _; refine State.on_keeps _ ?_ ?_; rw [Fld.blk_of, WCH_FQ_RESP_DONE_blk]; exact rfl
  refine State.set_keeps _ _ ?_ ?_; rw [Fld.blk_of, WCH_FQ_RESP_RESULT_blk]; exact rfl; refine State.set_keeps _ _ ?_ ?_
  rw [Fld.blk_of, WCH_FQ_W_blk]; exact rfl; exact Keeps.refl _ _

theorem execWriteDescriptorCommit_keeps (r) (ch) (w7) (s : State) :
    KeepsRes 0x8000000000000000000400 s (execWriteDescriptorCommit r ch w7 s) := by
  unfold execWriteDescriptorCommit
  refine KeepsRes.next ?_; refine live_keeps _ (fun w hw => ?_) ?_; refine Keeps.step (writeDescriptorCommit_keeps ..) rfl ?_
  assumption; exact Keeps.refl _ _

theorem modDesc_keeps (ch) (tag) (f) (s : State) : Keeps 0x8000000000000000000000 s (modDesc ch tag f s) := by
  unfold modDesc; refine Keeps.step (modWch_keeps ..) rfl ?_; exact Keeps.refl _ _

theorem descriptorReady_keeps (ch) (tag) (s : State) : Keeps 0x8000000000000000000000 s (descriptorReady ch tag s) := by
  unfold descriptorReady
  split; exact Keeps.refl _ _; split; exact Keeps.refl _ _; dsimp only; refine Keeps.step (modWch_keeps ..) rfl ?_
  refine Keeps.step (modDesc_keeps ..) rfl ?_; exact Keeps.refl _ _

theorem execDescriptorReady_keeps (ch) (tag) (s : State) : KeepsRes 0x8000000000000000000000 s (execDescriptorReady ch tag s) := by
  unfold execDescriptorReady
  refine KeepsRes.next ?_; refine live_keeps _ (fun w hw => ?_) ?_; refine Keeps.step (descriptorReady_keeps ..) rfl ?_
  assumption; exact Keeps.refl _ _

theorem guardCut_keeps (ch) (tag) (s : State) : Keeps 0x80800000000200000004c0 s (guardCut ch tag s) := by
  unfold guardCut
  dsimp only; refine Keeps.step (patTrig_keeps ..) rfl ?_; refine State.on_keeps _ ?_ ?_; rw [WCH_STAT_OVERRUN_blk]; exact rfl
  refine State.on_keeps _ ?_ ?_; exact SRV_STAT_WR_OVERRUN_bit rfl rfl ..; refine Keeps.step (wchAbandon_keeps ..) rfl ?_
  refine Keeps.step (gateDown_keeps ..) rfl ?_; exact Keeps.refl _ _

theorem wchRaise_keeps {m : Nat} {s t : State} (hm : 0x8480000000020000000408 &&& m = 0x8480000000020000000408) (h : Keeps m s t) (ch) (flag) (patina) (tag) (hflag : m.testBit flag.blk = true) :
    Keeps m s (wchRaise ch flag patina tag t) := by
  unfold wchRaise
  dsimp only; refine Keeps.step' hm (dropWg_keeps ..) rfl ?_; refine Keeps.step' hm (quenchAct_keeps ..) rfl ?_; split
  refine Keeps.step' hm (patTrig_keeps ..) rfl ?_; refine State.on_keeps _ ?_ ?_; assumption; assumption
  refine State.on_keeps _ ?_ ?_; assumption; assumption

theorem wgWrite_keeps (ch) (tag) (s : State) : Keeps 0x84802000000200000044c8 s (wgWrite ch tag s) := by
  unfold wgWrite
  dsimp only; split; exact Keeps.refl _ _; split; refine wchRaise_keeps (h := ?_) (hm := ?_) (hflag := ?_) ..; rfl
  exact Keeps.refl _ _; rw [WCH_STAT_ORPHAN_blk]; exact rfl; split; refine wchRaise_keeps (h := ?_) (hm := ?_) (hflag := ?_) ..
  rfl; exact Keeps.refl _ _; rw [WCH_STAT_UNDERRUN_blk]; exact rfl; split
  refine wchRaise_keeps (h := ?_) (hm := ?_) (hflag := ?_) ..; rfl; exact Keeps.refl _ _; rw [WCH_STAT_NOT_READY_blk]; exact rfl
  split; split; exact Keeps.refl _ _; refine wchRaise_keeps (h := ?_) (hm := ?_) (hflag := ?_) ..; rfl; exact Keeps.refl _ _
  rw [WCH_STAT_OVERLAP_blk]; exact rfl; split; refine Keeps.step (guardCut_keeps ..) rfl ?_; exact Keeps.refl _ _
  refine State.emit_keeps _ ?_ ?_; exact rfl; refine Keeps.step (modWch_keeps ..) rfl ?_; exact Keeps.refl _ _

theorem wgOpenFire_keeps (ch) (tag) (s : State) : Keeps 0x84802000000200000044cc s (wgOpenFire ch tag s) := by
  unfold wgOpenFire
  dsimp only; split; refine Keeps.step (dropWg_keeps ..) rfl ?_; refine State.onBit_keeps _ _ ?_ ?_; exact rfl
  exact Keeps.refl _ _; split; refine Keeps.step (dropWg_keeps ..) rfl ?_; refine State.onBit_keeps _ _ ?_ ?_; exact rfl
  exact Keeps.refl _ _; split; refine Keeps.step (dropWg_keeps ..) rfl ?_; refine State.on_keeps _ ?_ ?_; exact rfl
  refine State.onBit_keeps _ _ ?_ ?_; exact rfl; exact Keeps.refl _ _; refine Keeps.step (wgWrite_keeps ..) rfl ?_
  refine State.on_keeps _ ?_ ?_; rw [WCH_CTL_WR_ACTIVE_blk]; exact rfl; exact Keeps.refl _ _

theorem wchComplete_keeps (ch) (d) (s : State) : Keeps 0x8000000000000000000000 s (wchComplete ch d s) := by
  unfold wchComplete
  dsimp only; split; refine Keeps.step (modWch_keeps ..) rfl ?_; refine Keeps.step (wchPost_keeps ..) rfl ?_
  refine Keeps.step (modWch_keeps ..) rfl ?_; exact Keeps.refl _ _; refine Keeps.step (wchPost_keeps ..) rfl ?_
  refine Keeps.step (modWch_keeps ..) rfl ?_; exact Keeps.refl _ _

theorem wgCloseFire_keeps (ch) (tag) (s : State) : Keeps 0x8000000000000000000400 s (wgCloseFire ch tag s) := by
  unfold wgCloseFire
  split; exact Keeps.refl _ _; split; exact Keeps.refl _ _; split; refine Keeps.step (gateDown_keeps ..) rfl ?_
  exact Keeps.refl _ _; dsimp only; split; refine State.on_keeps _ ?_ ?_; rw [WCH_STAT_EARLY_CLOSE_blk]; exact rfl
  refine Keeps.step (wchAbandon_keeps ..) rfl ?_; refine Keeps.step (gateDown_keeps ..) rfl ?_; exact Keeps.refl _ _; split
  refine Keeps.step (wchComplete_keeps ..) rfl ?_; refine Keeps.step (gateDown_keeps ..) rfl ?_; exact Keeps.refl _ _
  refine Keeps.step (modDesc_keeps ..) rfl ?_; refine Keeps.step (gateDown_keeps ..) rfl ?_; exact Keeps.refl _ _

theorem execWrEndGuard_keeps (a) (l) (s : State) : KeepsRes 0x90800000000200000004c0 s (execWrEndGuard a l s) := by
  unfold execWrEndGuard
  refine KeepsRes.next ?_; refine live_keeps _ (fun w hw => ?_) ?_; split; assumption
  refine Keeps.step (framesSettle_keeps ..) rfl ?_; refine Keeps.step (guardCut_keeps ..) rfl ?_; assumption
  exact Keeps.refl _ _

theorem execWrActiveSet_keeps (ch) (s : State) : KeepsRes 0x400 s (execWrActiveSet ch s) := by
  unfold execWrActiveSet
  refine KeepsRes.next ?_; refine live_keeps _ (fun w hw => ?_) ?_; refine State.on_keeps _ ?_ ?_
  rw [WCH_CTL_WR_ACTIVE_blk]; exact rfl; assumption; exact Keeps.refl _ _

theorem wrActiveClear_keeps (ch) (s : State) : Keeps 0x8000000000000000000400 s (wrActiveClear ch s) := by
  unfold wrActiveClear
  dsimp only; split; refine Keeps.step (modWch_keeps ..) rfl ?_; refine State.off_keeps _ ?_ ?_
  rw [WCH_CTL_WR_ACTIVE_blk]; exact rfl; exact Keeps.refl _ _; refine State.on_keeps _ ?_ ?_
  rw [WCH_STAT_WA_REFUSED_blk]; exact rfl; exact Keeps.refl _ _

theorem execWrActiveClear_keeps (ch) (s : State) : KeepsRes 0x8000000000000000000400 s (execWrActiveClear ch s) := by
  unfold execWrActiveClear
  refine KeepsRes.next ?_; refine live_keeps _ (fun w hw => ?_) ?_; refine Keeps.step (wrActiveClear_keeps ..) rfl ?_
  assumption; exact Keeps.refl _ _

theorem execWriteCompletionPop_keeps (ch) (s : State) : KeepsRes 0x8000000000000000000000 s (execWriteCompletionPop ch s) := by
  unfold execWriteCompletionPop
  refine KeepsRes.next ?_; refine live_keeps _ (fun w hw => ?_) ?_; refine Keeps.step (modWch_keeps ..) rfl ?_; assumption
  exact Keeps.refl _ _

theorem wTp_keeps {m : Nat} {s t : State} (hm : 0x400 &&& m = 0x400) (h : Keeps m s t) (ch) (f) (hf : ∀ w, Keeps m s w → Keeps m s (f w)) :
    Keeps m s (wTp ch f t) := by
  unfold wTp
  split; refine State.on_keeps _ ?_ ?_; rw [WCH_STAT_TP_REFUSED_blk]; exact (testBit_strengthen hm rfl); assumption
  refine hf  _ ?_; assumption

theorem wchTpSave_keeps (ch) (s : State) : Keeps 0xc0000000000800400 s (wchTpSave ch s) := by
  unfold wchTpSave
  refine wTp_keeps (h := ?_) (hm := ?_) (hf := fun w hw => ?_) ..; rfl; exact Keeps.refl _ _
  refine Keeps.step (State.dramWrite_keeps ..) rfl ?_; assumption

theorem wchTpRestore_keeps (ch) (s : State) : Keeps 0x8000000000000000000400 s (wchTpRestore ch s) := by
  unfold wchTpRestore
  refine wTp_keeps (h := ?_) (hm := ?_) (hf := fun w hw => ?_) ..; rfl; exact Keeps.refl _ _; dsimp only
  refine Keeps.step (modWch_keeps ..) rfl ?_; assumption

theorem wchTpClear_keeps (ch) (s : State) : Keeps 0x8000000000000000000400 s (wchTpClear ch s) := by
  unfold wchTpClear
  refine wTp_keeps (h := ?_) (hm := ?_) (hf := fun w hw => ?_) ..; rfl; exact Keeps.refl _ _
  refine Keeps.step (modWch_keeps ..) rfl ?_; assumption

theorem execWchTpSave_keeps (ch) (s : State) : KeepsRes 0xc0000000000800400 s (execWchTpSave ch s) := by
  unfold execWchTpSave
  refine KeepsRes.next ?_; refine live_keeps _ (fun w hw => ?_) ?_; refine Keeps.step (wchTpSave_keeps ..) rfl ?_; assumption
  exact Keeps.refl _ _

theorem execWchTpRestore_keeps (ch) (s : State) : KeepsRes 0x8000000000000000000400 s (execWchTpRestore ch s) := by
  unfold execWchTpRestore
  refine KeepsRes.next ?_; refine live_keeps _ (fun w hw => ?_) ?_; refine Keeps.step (wchTpRestore_keeps ..) rfl ?_; assumption
  exact Keeps.refl _ _

theorem execWchTpClear_keeps (ch) (s : State) : KeepsRes 0x8000000000000000000400 s (execWchTpClear ch s) := by
  unfold execWchTpClear
  refine KeepsRes.next ?_; refine live_keeps _ (fun w hw => ?_) ?_; refine Keeps.step (wchTpClear_keeps ..) rfl ?_; assumption
  exact Keeps.refl _ _

theorem rateZoneWrite_keeps (a) (x1) (z) (x3) (x4) (s : State) : Keeps 0x400 s (rateZoneWrite a x1 z x3 x4 s) := by
  unfold rateZoneWrite
  split; refine State.set_keeps _ _ ?_ ?_; rw [WCH_RZ_W0_START_TRK_blk]; exact rfl; exact Keeps.refl _ _
  refine State.set_keeps _ _ ?_ ?_; rw [WCH_RZ_W1_BPW_blk]; exact rfl; refine State.set_keeps _ _ ?_ ?_
  rw [WCH_RZ_W1_CODE_blk]; exact rfl; exact Keeps.refl _ _; refine State.set_keeps _ _ ?_ ?_
  rw [WCH_RZ_W2_TRK_SKEW_blk]; exact rfl; refine State.set_keeps _ _ ?_ ?_; rw [WCH_RZ_W2_SPT_blk]; exact rfl
  exact Keeps.refl _ _; refine State.set_keeps _ _ ?_ ?_; rw [WCH_RZ_W3_PC1_blk]; exact rfl; refine State.set_keeps _ _ ?_ ?_
  rw [WCH_RZ_W3_PC2_blk]; exact rfl; exact Keeps.refl _ _; exact Keeps.refl _ _

theorem execRateZoneWrite_keeps (a) (x1) (z) (x3) (x4) (s : State) : KeepsRes 0x400 s (execRateZoneWrite a x1 z x3 x4 s) := by
  unfold execRateZoneWrite
  refine KeepsRes.next ?_; refine live_keeps _ (fun w hw => ?_) ?_; refine Keeps.step (rateZoneWrite_keeps ..) rfl ?_
  assumption; exact Keeps.refl _ _

theorem tprSend_keeps (ch) (x1) (s : State) : Keeps 0x90800000000200000040c0 s (tprSend ch x1 s) := by
  unfold tprSend
  dsimp only; split; refine Keeps.step (tprPush_keeps ..) rfl ?_; refine Keeps.step (modWch_keeps ..) rfl ?_; split
  refine Keeps.step (patTrig_keeps ..) rfl ?_; refine State.onBit_keeps _ _ ?_ ?_; exact rfl
  refine State.offBit_keeps _ _ ?_ ?_; exact rfl; refine State.on_keeps _ ?_ ?_; rw [TPR_SEL_SEND_blk]; exact rfl
  refine State.set_keeps _ _ ?_ ?_; rw [TPR_SEL_RZ_blk]; exact rfl; refine State.set_keeps _ _ ?_ ?_
  rw [TPR_SEL_HEAD_blk]; exact rfl; exact Keeps.refl _ _; refine State.offBit_keeps _ _ ?_ ?_; exact rfl
  refine State.on_keeps _ ?_ ?_; rw [TPR_SEL_SEND_blk]; exact rfl; refine State.set_keeps _ _ ?_ ?_
  rw [TPR_SEL_RZ_blk]; exact rfl; refine State.set_keeps _ _ ?_ ?_; rw [TPR_SEL_HEAD_blk]; exact rfl; exact Keeps.refl _ _
  refine State.offBit_keeps _ _ ?_ ?_; exact rfl; refine State.on_keeps _ ?_ ?_; rw [TPR_SEL_SEND_blk]; exact rfl
  refine State.set_keeps _ _ ?_ ?_; rw [TPR_SEL_RZ_blk]; exact rfl; refine State.set_keeps _ _ ?_ ?_
  rw [TPR_SEL_HEAD_blk]; exact rfl; exact Keeps.refl _ _

theorem execTprSend_keeps (ch) (x1) (s : State) : KeepsRes 0x90800000000200000040c0 s (execTprSend ch x1 s) := by
  unfold execTprSend
  refine KeepsRes.next ?_; refine live_keeps _ (fun w hw => ?_) ?_; refine Keeps.step (tprSend_keeps ..) rfl ?_; assumption
  exact Keeps.refl _ _

end Sys2Proof.Machine
end

