-- ==== Sys2Proof/Laws/Keeps/Read.lean ====
section
/-!
SUPPORT. What each operation of Machine/Read.lean keeps: the mask names the register blocks (bits 0 to 63) and the parts of State (bit
64 on) that the operation may change; everything outside it stays.
-/
namespace Sys2Proof.Machine

theorem modRch_keeps (ch) (f) (s : State) : Keeps 0x10000000000000000000000 s (modRch ch f s) := by
  unfold modRch; refine Keeps.upd_rch _ ?_ ?_; exact rfl; exact Keeps.refl _ _

theorem modDeep_keeps (f) (s : State) : Keeps 0x20000000000000000000000 s (modDeep f s) := by
  unfold modDeep; refine Keeps.upd_deep _ ?_ ?_; exact rfl; exact Keeps.refl _ _

theorem readDescriptorCommit_keeps (r) (ch) (w7) (s : State) :
    Keeps 0x10000000000000000001000 s (readDescriptorCommit r ch w7 s) := by
  unfold readDescriptorCommit
  dsimp only; split; refine Keeps.step (modRch_keeps ..) rfl ?_; refine State.on_keeps _ ?_ ?_
  rw [Fld.blk_of, RCH_FQ_RESP_DONE_blk]; exact rfl; refine State.set_keeps _ _ ?_ ?_
  rw [Fld.blk_of, RCH_FQ_RESP_RESULT_blk]; exact rfl; refine State.set_keeps _ _ ?_ ?_; rw [Fld.blk_of, RCH_FQ_W_blk]; exact rfl
  exact Keeps.refl _ _; refine State.on_keeps _ ?_ ?_; rw [Fld.blk_of, RCH_FQ_RESP_DONE_blk]; exact rfl
  refine State.set_keeps _ _ ?_ ?_; rw [Fld.blk_of, RCH_FQ_RESP_RESULT_blk]; exact rfl; refine State.set_keeps _ _ ?_ ?_
  rw [Fld.blk_of, RCH_FQ_W_blk]; exact rfl; exact Keeps.refl _ _

theorem execReadDescriptorCommit_keeps (r) (ch) (w7) (s : State) :
    KeepsRes 0x10000000000000000001000 s (execReadDescriptorCommit r ch w7 s) := by
  unfold execReadDescriptorCommit
  refine KeepsRes.next ?_; refine live_keeps _ (fun w hw => ?_) ?_; refine Keeps.step (readDescriptorCommit_keeps ..) rfl ?_
  assumption; exact Keeps.refl _ _

theorem pinSlot_keeps (ch) (k) (s : State) : Keeps 0x10000000000000000001000 s (pinSlot ch k s) := by
  unfold pinSlot
  dsimp only; split; exact Keeps.refl _ _; split; refine State.on_keeps _ ?_ ?_; rw [RCH_STAT_PIN_FULL_blk]; exact rfl
  exact Keeps.refl _ _; refine Keeps.step (modRch_keeps ..) rfl ?_; exact Keeps.refl _ _

theorem unpinSlot_keeps (ch) (k) (s : State) : Keeps 0x10000000000000000000000 s (unpinSlot ch k s) := by
  unfold unpinSlot; refine Keeps.step (modRch_keeps ..) rfl ?_; exact Keeps.refl _ _

theorem execSampleSlotPin_keeps (ch) (k) (s : State) : KeepsRes 0x10000000000000000001000 s (execSampleSlotPin ch k s) := by
  unfold execSampleSlotPin
  refine KeepsRes.next ?_; refine live_keeps _ (fun w hw => ?_) ?_; refine Keeps.step (pinSlot_keeps ..) rfl ?_
  refine State.set_keeps _ _ ?_ ?_; rw [RCH_SB_PINCTL_SLOT_blk]; exact rfl; assumption; exact Keeps.refl _ _

theorem execSampleSlotUnpin_keeps (ch) (k) (s : State) : KeepsRes 0x10000000000000000001000 s (execSampleSlotUnpin ch k s) := by
  unfold execSampleSlotUnpin
  refine KeepsRes.next ?_; refine live_keeps _ (fun w hw => ?_) ?_; refine Keeps.step (unpinSlot_keeps ..) rfl ?_
  refine State.set_keeps _ _ ?_ ?_; rw [RCH_SB_PINCTL_SLOT_blk]; exact rfl; assumption; exact Keeps.refl _ _

theorem rchStatFlag_keeps (ch) (status) (s : State) : Keeps 0x1000 s (rchStatFlag ch status s) := by
  unfold rchStatFlag
  split; refine State.on_keeps _ ?_ ?_; rw [RCH_STAT_FAIL_blk]; exact rfl; exact Keeps.refl _ _; refine State.on_keeps _ ?_ ?_
  rw [RCH_STAT_MISCORR_blk]; exact rfl; exact Keeps.refl _ _; refine State.on_keeps _ ?_ ?_
  rw [RCH_STAT_MISCORR_blk]; exact rfl; exact Keeps.refl _ _; refine State.on_keeps _ ?_ ?_; rw [RCH_STAT_MISS_blk]; exact rfl
  exact Keeps.refl _ _; refine State.on_keeps _ ?_ ?_; rw [RCH_STAT_OVERFLOW_blk]; exact rfl; exact Keeps.refl _ _
  refine State.on_keeps _ ?_ ?_; rw [RCH_STAT_DROPPED_blk]; exact rfl; exact Keeps.refl _ _; refine State.on_keeps _ ?_ ?_
  rw [RCH_STAT_DROPPED_blk]; exact rfl; exact Keeps.refl _ _; exact Keeps.refl _ _

theorem rchPost_keeps (ch) (c) (s : State) : Keeps 0x10000000000000000001000 s (rchPost ch c s) := by
  unfold rchPost
  dsimp only; refine Keeps.step (modRch_keeps ..) rfl ?_; refine Keeps.step (rchStatFlag_keeps ..) rfl ?_; split
  refine Keeps.step (pinSlot_keeps ..) rfl ?_; exact Keeps.refl _ _; exact Keeps.refl _ _

theorem takeWaiting_keeps (ch) (s : State) : Keeps 0x10000000000000000000000 s (takeWaiting ch s) := by
  unfold takeWaiting; refine Keeps.step (modRch_keeps ..) rfl ?_; exact Keeps.refl _ _

theorem recordOfs_keeps (ch) (head) (o) (s : State) : Keeps 0x10000000000000000001000 s (recordOfs ch head o s) := by
  unfold recordOfs
  refine Keeps.step (modRch_keeps ..) rfl ?_; refine State.setI_keeps _ _ ?_ ?_; rw [RCH_FRAME_OFS_OFS_blk]; exact rfl
  refine State.set_keeps _ _ ?_ ?_; rw [RCH_FRAME_OFS_HEAD_blk]; exact rfl; refine State.on_keeps _ ?_ ?_
  rw [RCH_FRAME_OFS_VALID_blk]; exact rfl; exact Keeps.refl _ _

theorem inlineOverflow_keeps (ch) (g) (l) (x3) (s : State) : Keeps 0x10000000000000000001000 s (inlineOverflow ch g l x3 s) := by
  unfold inlineOverflow
  dsimp only; split; split; refine Keeps.step (takeWaiting_keeps ..) rfl ?_; refine Keeps.step (rchPost_keeps ..) rfl ?_
  refine Keeps.step (modRch_keeps ..) rfl ?_; exact Keeps.refl _ _; exact Keeps.refl _ _; exact Keeps.refl _ _

theorem captureSpanStart_keeps (ch) (tag) (s : State) : Keeps 0x10000000000000000000000 s (captureSpanStart ch tag s) := by
  unfold captureSpanStart
  split; exact Keeps.refl _ _; split; exact Keeps.refl _ _; refine Keeps.step (modRch_keeps ..) rfl ?_; exact Keeps.refl _ _

theorem execCaptureSpanStart_keeps (ch) (tag) (s : State) :
    KeepsRes 0x10000000000000000000000 s (execCaptureSpanStart ch tag s) := by
  unfold execCaptureSpanStart
  refine KeepsRes.next ?_; refine live_keeps _ (fun w hw => ?_) ?_; refine Keeps.step (captureSpanStart_keeps ..) rfl ?_
  assumption; exact Keeps.refl _ _

theorem captureSpanEnd_keeps (ch) (tag) (cover) (samples) (x4) (rs) (run) (g0) (g1) (taps) (ovf) (s : State) :
    Keeps 0x10080000000020000001000 s (captureSpanEnd ch tag cover samples x4 rs run g0 g1 taps ovf s) := by
  unfold captureSpanEnd
  split; exact Keeps.refl _ _; dsimp only; split; refine Keeps.step (rchPost_keeps ..) rfl ?_
  refine Keeps.step (modRch_keeps ..) rfl ?_; exact Keeps.refl _ _; split; refine Keeps.step (rchPost_keeps ..) rfl ?_; split
  refine Keeps.step (recordOfs_keeps ..) rfl ?_; split; refine Keeps.step (patTrig_keeps ..) rfl ?_
  refine State.on_keeps _ ?_ ?_; rw [RCH_STAT_TA_SEEN_blk]; exact rfl; refine Keeps.step (modRch_keeps ..) rfl ?_
  refine State.set_keeps _ _ ?_ ?_; rw [RCH_AGC_GAIN1_blk]; exact rfl; refine State.set_keeps _ _ ?_ ?_
  rw [RCH_AGC_GAIN0_blk]; exact rfl; refine Keeps.step (modRch_keeps ..) rfl ?_; exact Keeps.refl _ _
  refine Keeps.step (modRch_keeps ..) rfl ?_; refine State.set_keeps _ _ ?_ ?_; rw [RCH_AGC_GAIN1_blk]; exact rfl
  refine State.set_keeps _ _ ?_ ?_; rw [RCH_AGC_GAIN0_blk]; exact rfl; refine Keeps.step (modRch_keeps ..) rfl ?_
  exact Keeps.refl _ _; split; refine Keeps.step (patTrig_keeps ..) rfl ?_; refine State.on_keeps _ ?_ ?_
  rw [RCH_STAT_TA_SEEN_blk]; exact rfl; refine Keeps.step (modRch_keeps ..) rfl ?_; refine State.set_keeps _ _ ?_ ?_
  rw [RCH_AGC_GAIN1_blk]; exact rfl; refine State.set_keeps _ _ ?_ ?_; rw [RCH_AGC_GAIN0_blk]; exact rfl
  refine Keeps.step (modRch_keeps ..) rfl ?_; exact Keeps.refl _ _; refine Keeps.step (modRch_keeps ..) rfl ?_
  refine State.set_keeps _ _ ?_ ?_; rw [RCH_AGC_GAIN1_blk]; exact rfl; refine State.set_keeps _ _ ?_ ?_
  rw [RCH_AGC_GAIN0_blk]; exact rfl; refine Keeps.step (modRch_keeps ..) rfl ?_; exact Keeps.refl _ _
  refine Keeps.step (rchPost_keeps ..) rfl ?_; refine State.on_keeps _ ?_ ?_; rw [RCH_STAT_SB_TRUNC_blk]; exact rfl; split
  refine Keeps.step (recordOfs_keeps ..) rfl ?_; split; refine Keeps.step (patTrig_keeps ..) rfl ?_
  refine State.on_keeps _ ?_ ?_; rw [RCH_STAT_TA_SEEN_blk]; exact rfl; refine Keeps.step (modRch_keeps ..) rfl ?_
  refine State.set_keeps _ _ ?_ ?_; rw [RCH_AGC_GAIN1_blk]; exact rfl; refine State.set_keeps _ _ ?_ ?_
  rw [RCH_AGC_GAIN0_blk]; exact rfl; refine Keeps.step (modRch_keeps ..) rfl ?_; exact Keeps.refl _ _
  refine Keeps.step (modRch_keeps ..) rfl ?_; refine State.set_keeps _ _ ?_ ?_; rw [RCH_AGC_GAIN1_blk]; exact rfl
  refine State.set_keeps _ _ ?_ ?_; rw [RCH_AGC_GAIN0_blk]; exact rfl; refine Keeps.step (modRch_keeps ..) rfl ?_
  exact Keeps.refl _ _; split; refine Keeps.step (patTrig_keeps ..) rfl ?_; refine State.on_keeps _ ?_ ?_
  rw [RCH_STAT_TA_SEEN_blk]; exact rfl; refine Keeps.step (modRch_keeps ..) rfl ?_; refine State.set_keeps _ _ ?_ ?_
  rw [RCH_AGC_GAIN1_blk]; exact rfl; refine State.set_keeps _ _ ?_ ?_; rw [RCH_AGC_GAIN0_blk]; exact rfl
  refine Keeps.step (modRch_keeps ..) rfl ?_; exact Keeps.refl _ _; refine Keeps.step (modRch_keeps ..) rfl ?_
  refine State.set_keeps _ _ ?_ ?_; rw [RCH_AGC_GAIN1_blk]; exact rfl; refine State.set_keeps _ _ ?_ ?_
  rw [RCH_AGC_GAIN0_blk]; exact rfl; refine Keeps.step (modRch_keeps ..) rfl ?_; exact Keeps.refl _ _
  refine Keeps.step (rchPost_keeps ..) rfl ?_; split; refine Keeps.step (recordOfs_keeps ..) rfl ?_; split
  refine Keeps.step (patTrig_keeps ..) rfl ?_; refine State.on_keeps _ ?_ ?_; rw [RCH_STAT_TA_SEEN_blk]; exact rfl
  refine Keeps.step (modRch_keeps ..) rfl ?_; refine State.set_keeps _ _ ?_ ?_; rw [RCH_AGC_GAIN1_blk]; exact rfl
  refine State.set_keeps _ _ ?_ ?_; rw [RCH_AGC_GAIN0_blk]; exact rfl; refine Keeps.step (modRch_keeps ..) rfl ?_
  exact Keeps.refl _ _; refine Keeps.step (modRch_keeps ..) rfl ?_; refine State.set_keeps _ _ ?_ ?_
  rw [RCH_AGC_GAIN1_blk]; exact rfl; refine State.set_keeps _ _ ?_ ?_; rw [RCH_AGC_GAIN0_blk]; exact rfl
  refine Keeps.step (modRch_keeps ..) rfl ?_; exact Keeps.refl _ _; split; refine Keeps.step (patTrig_keeps ..) rfl ?_
  refine State.on_keeps _ ?_ ?_; rw [RCH_STAT_TA_SEEN_blk]; exact rfl; refine Keeps.step (modRch_keeps ..) rfl ?_
  refine State.set_keeps _ _ ?_ ?_; rw [RCH_AGC_GAIN1_blk]; exact rfl; refine State.set_keeps _ _ ?_ ?_
  rw [RCH_AGC_GAIN0_blk]; exact rfl; refine Keeps.step (modRch_keeps ..) rfl ?_; exact Keeps.refl _ _
  refine Keeps.step (modRch_keeps ..) rfl ?_; refine State.set_keeps _ _ ?_ ?_; rw [RCH_AGC_GAIN1_blk]; exact rfl
  refine State.set_keeps _ _ ?_ ?_; rw [RCH_AGC_GAIN0_blk]; exact rfl; refine Keeps.step (modRch_keeps ..) rfl ?_
  exact Keeps.refl _ _; refine Keeps.step (inlineOverflow_keeps ..) rfl ?_; refine Keeps.step (takeWaiting_keeps ..) rfl ?_
  refine Keeps.step (modRch_keeps ..) rfl ?_; split; refine Keeps.step (recordOfs_keeps ..) rfl ?_; split
  refine Keeps.step (patTrig_keeps ..) rfl ?_; refine State.on_keeps _ ?_ ?_; rw [RCH_STAT_TA_SEEN_blk]; exact rfl
  refine Keeps.step (modRch_keeps ..) rfl ?_; refine State.set_keeps _ _ ?_ ?_; rw [RCH_AGC_GAIN1_blk]; exact rfl
  refine State.set_keeps _ _ ?_ ?_; rw [RCH_AGC_GAIN0_blk]; exact rfl; refine Keeps.step (modRch_keeps ..) rfl ?_
  exact Keeps.refl _ _; refine Keeps.step (modRch_keeps ..) rfl ?_; refine State.set_keeps _ _ ?_ ?_
  rw [RCH_AGC_GAIN1_blk]; exact rfl; refine State.set_keeps _ _ ?_ ?_; rw [RCH_AGC_GAIN0_blk]; exact rfl
  refine Keeps.step (modRch_keeps ..) rfl ?_; exact Keeps.refl _ _; split; refine Keeps.step (patTrig_keeps ..) rfl ?_
  refine State.on_keeps _ ?_ ?_; rw [RCH_STAT_TA_SEEN_blk]; exact rfl; refine Keeps.step (modRch_keeps ..) rfl ?_
  refine State.set_keeps _ _ ?_ ?_; rw [RCH_AGC_GAIN1_blk]; exact rfl; refine State.set_keeps _ _ ?_ ?_
  rw [RCH_AGC_GAIN0_blk]; exact rfl; refine Keeps.step (modRch_keeps ..) rfl ?_; exact Keeps.refl _ _
  refine Keeps.step (modRch_keeps ..) rfl ?_; refine State.set_keeps _ _ ?_ ?_; rw [RCH_AGC_GAIN1_blk]; exact rfl
  refine State.set_keeps _ _ ?_ ?_; rw [RCH_AGC_GAIN0_blk]; exact rfl; refine Keeps.step (modRch_keeps ..) rfl ?_
  exact Keeps.refl _ _

theorem execCaptureSpanEnd_keeps (ch) (tag) (cover) (samples) (x4) (rs) (run) (g0) (g1) (taps) (ovf) (s : State) :
    KeepsRes 0x10080000000020000001000 s (execCaptureSpanEnd ch tag cover samples x4 rs run g0 g1 taps ovf s) := by
  unfold execCaptureSpanEnd
  refine KeepsRes.next ?_; refine live_keeps _ (fun w hw => ?_) ?_; refine Keeps.step (captureSpanEnd_keeps ..) rfl ?_
  assumption; exact Keeps.refl _ _

theorem writeFrame_keeps (d) (plain) (hlba) (ns) (kind) (seq) (s : State) :
    Keeps 0xc0000000000800000 s (writeFrame d plain hlba ns kind seq s) := by
  unfold writeFrame
  dsimp only; split; refine Keeps.step (State.dramWrite_keeps ..) rfl ?_; refine Keeps.step (State.dramWrite_keeps ..) rfl ?_
  exact Keeps.refl _ _; refine Keeps.step (State.dramWrite_keeps ..) rfl ?_; exact Keeps.refl _ _

theorem acceptFrame_keeps (ch) (d) (info) (s : State) : Keeps 0x100000c0000000000800000 s (acceptFrame ch d info s) := by
  unfold acceptFrame
  dsimp only; refine Keeps.step (modRch_keeps ..) rfl ?_; split; exact Keeps.refl _ _
  refine Keeps.step (writeFrame_keeps ..) rfl ?_; exact Keeps.refl _ _

theorem countDecode_keeps (dec) (liter) (s : State) : Keeps 0x1000 s (countDecode dec liter s) := by
  unfold countDecode
  refine State.bump_keeps _ _ ?_ ?_; rw [RCH_DEC_ITER_LOCAL_blk]; exact rfl; refine State.bump_keeps _ _ ?_ ?_
  rw [RCH_DEC_CNT_FRAMES_blk]; exact rfl; exact Keeps.refl _ _

theorem inlineDecodeDone_keeps (ch) (run) (s : State) : Keeps 0x100000c0000000000801000 s (inlineDecodeDone ch run s) := by
  unfold inlineDecodeDone
  split; exact Keeps.refl _ _; dsimp only; split; exact Keeps.refl _ _; refine Keeps.step (takeWaiting_keeps ..) rfl ?_
  refine Keeps.step (rchPost_keeps ..) rfl ?_; refine Keeps.step (modRch_keeps ..) rfl ?_
  refine Keeps.step (countDecode_keeps ..) rfl ?_; split; refine Keeps.step (acceptFrame_keeps ..) rfl ?_; exact Keeps.refl _ _
  exact Keeps.refl _ _

theorem execInlineDecodeDone_keeps (ch) (run) (s : State) :
    KeepsRes 0x100000c0000000000801000 s (execInlineDecodeDone ch run s) := by
  unfold execInlineDecodeDone
  refine KeepsRes.next ?_; refine live_keeps _ (fun w hw => ?_) ?_; refine Keeps.step (inlineDecodeDone_keeps ..) rfl ?_
  assumption; exact Keeps.refl _ _

theorem execReadCompletionPop_keeps (ch) (s : State) : KeepsRes 0x10000000000000000000000 s (execReadCompletionPop ch s) := by
  unfold execReadCompletionPop
  refine KeepsRes.next ?_; refine live_keeps _ (fun w hw => ?_) ?_; refine Keeps.step (modRch_keeps ..) rfl ?_; assumption
  exact Keeps.refl _ _

theorem activeSetLoad_keeps (ch) (x1) (s : State) : Keeps 0x1000 s (activeSetLoad ch x1 s) := by
  unfold activeSetLoad
  refine State.off_keeps _ ?_ ?_; rw [RCH_SEL_READY_blk]; exact rfl; refine State.on_keeps _ ?_ ?_
  rw [RCH_SEL_LOAD_blk]; exact rfl; refine State.set_keeps _ _ ?_ ?_; rw [RCH_SEL_RZ_blk]; exact rfl
  refine State.set_keeps _ _ ?_ ?_; rw [RCH_SEL_HEAD_blk]; exact rfl; exact Keeps.refl _ _

theorem execActiveSetLoad_keeps (ch) (x1) (s : State) : KeepsRes 0x1000 s (execActiveSetLoad ch x1 s) := by
  unfold execActiveSetLoad
  refine KeepsRes.next ?_; refine live_keeps _ (fun w hw => ?_) ?_; refine Keeps.step (activeSetLoad_keeps ..) rfl ?_
  assumption; exact Keeps.refl _ _

theorem activeSetCopy_keeps (ch) (s : State) : Keeps 0x10000000000000000003000 s (activeSetCopy ch s) := by
  unfold activeSetCopy
  split
  · dsimp only
    refine Keeps.step (modRch_keeps ..) rfl ?_
    refine State.on_keeps _ (by rw [RCH_SEL_READY_blk]; rfl) ?_
    refine State.off_keeps _ (by rw [RCH_SEL_LOAD_blk]; rfl) ?_
    refine Keeps.foldl_mem (fun v e he hv => State.set_keeps _ _ ?_ hv) (Keeps.refl _ _)
    simp only [actSetPairs, List.mem_cons, List.not_mem_nil, or_false] at he
    rcases he with rfl | rfl | rfl | rfl | rfl | rfl | rfl | rfl | rfl | rfl | rfl | rfl | rfl
    · rw [RCH_ACT_W0_CTF_FC_blk]; rfl
    · rw [RCH_ACT_W0_CTF_BOOST_blk]; rfl
    · rw [RCH_ACT_W0_AGC_TGT_blk]; rfl
    · rw [RCH_ACT_W0_EQ_SET_blk]; rfl
    · rw [RCH_ACT_W1_OFS0_blk]; rfl
    · rw [RCH_ACT_W1_OFS1_blk]; rfl
    · rw [RCH_ACT_W1_ASYM0_blk]; rfl
    · rw [RCH_ACT_W1_ASYM1_blk]; rfl
    · rw [RCH_ACT_W2_GLOBAL_MAX_blk]; rfl
    · rw [RCH_ACT_W2_LOCAL_MAX_blk]; rfl
    · rw [RCH_ACT_W2_NMS_blk]; rfl
    · rw [RCH_ACT_W2_LLR_SCALE_blk]; rfl
    · rw [RCH_ACT_W2_TA_LIM_blk]; rfl
  · exact Keeps.refl _ _

theorem execActiveSetCopy_keeps (ch) (s : State) : KeepsRes 0x10000000000000000003000 s (execActiveSetCopy ch s) := by
  unfold execActiveSetCopy
  refine KeepsRes.next ?_; refine live_keeps _ (fun w hw => ?_) ?_; refine Keeps.step (activeSetCopy_keeps ..) rfl ?_
  assumption; exact Keeps.refl _ _

theorem xbarWrite_keeps (x0) (s : State) : Keeps 0x1000 s (xbarWrite x0 s) := by
  unfold xbarWrite
  split; refine State.on_keeps _ ?_ ?_; exact rfl; exact Keeps.refl _ _; refine State.set_keeps _ _ ?_ ?_; exact rfl
  exact Keeps.refl _ _

theorem execXbarWrite_keeps (x0) (s : State) : KeepsRes 0x1000 s (execXbarWrite x0 s) := by
  unfold execXbarWrite
  refine KeepsRes.next ?_; refine live_keeps _ (fun w hw => ?_) ?_; refine Keeps.step (xbarWrite_keeps ..) rfl ?_; assumption
  exact Keeps.refl _ _

theorem rchEnable_keeps (ch) (en) (s : State) : Keeps 0x1000 s (rchEnable ch en s) := by
  unfold rchEnable
  split; refine State.on_keeps _ ?_ ?_; exact rfl; exact Keeps.refl _ _; refine State.put_keeps _ _ ?_ ?_
  rw [RCH_CTL_EN_blk]; exact rfl; exact Keeps.refl _ _

theorem deepAsk_keeps (s : State) : Keeps 0x20001002000000000100010c0 s (deepAsk s) := by
  unfold deepAsk
  dsimp only; split; refine State.on_keeps _ ?_ ?_; exact rfl; refine Keeps.foldl (fun w e hw => ?_) ?_
  refine Keeps.step (hwAsk_keeps ..) rfl ?_; assumption; exact Keeps.refl _ _; refine Keeps.foldl (fun w e hw => ?_) ?_
  refine Keeps.step (hwAsk_keeps ..) rfl ?_; assumption; exact Keeps.refl _ _

theorem deepJobCommit_keeps (r) (w1) (s : State) : Keeps 0x20201002000000000100010c0 s (deepJobCommit r w1 s) := by
  unfold deepJobCommit
  dsimp only; split; refine Keeps.step (deepAsk_keeps ..) rfl ?_; refine Keeps.step (modDeep_keeps ..) rfl ?_
  refine State.on_keeps _ ?_ ?_; rw [Fld.blk_of]; exact rfl; refine State.set_keeps _ _ ?_ ?_; rw [Fld.blk_of]; exact rfl
  refine State.set_keeps _ _ ?_ ?_; rw [Fld.blk_of]; exact rfl; refine State.set_keeps _ _ ?_ ?_; rw [Fld.blk_of]; exact rfl
  exact Keeps.refl _ _; refine State.on_keeps _ ?_ ?_; rw [Fld.blk_of]; exact rfl; refine State.set_keeps _ _ ?_ ?_
  rw [Fld.blk_of]; exact rfl; refine State.set_keeps _ _ ?_ ?_; rw [Fld.blk_of]; exact rfl; refine State.set_keeps _ _ ?_ ?_
  rw [Fld.blk_of]; exact rfl; exact Keeps.refl _ _

theorem execDeepJobCommit_keeps (r) (w1) (s : State) : KeepsRes 0x20201002000000000100010c0 s (execDeepJobCommit r w1 s) := by
  unfold execDeepJobCommit
  refine KeepsRes.next ?_; refine live_keeps _ (fun w hw => ?_) ?_; refine Keeps.step (deepJobCommit_keeps ..) rfl ?_
  assumption; exact Keeps.refl _ _

theorem deepJobStart_keeps (s : State) : Keeps 0x20201002000000000100000c0 s (deepJobStart s) := by
  unfold deepJobStart
  split; split; refine Keeps.step (bulRequest_keeps ..) rfl ?_; refine Keeps.step (modDeep_keeps ..) rfl ?_
  exact Keeps.refl _ _; exact Keeps.refl _ _; exact Keeps.refl _ _

theorem execDeepJobStart_keeps (s : State) : KeepsRes 0x20201002000000000100000c0 s (execDeepJobStart s) := by
  unfold execDeepJobStart
  refine KeepsRes.next ?_; refine live_keeps _ (fun w hw => ?_) ?_; refine Keeps.step (deepJobStart_keeps ..) rfl ?_; assumption
  exact Keeps.refl _ _

theorem deepJobDone_keeps (d) (marks) (screens) (runs) (s : State) :
    Keeps 0x20301002c00000000108010c0 s (deepJobDone d marks screens runs s) := by
  unfold deepJobDone
  split; exact Keeps.refl _ _; split; exact Keeps.refl _ _; dsimp only; refine Keeps.step (deepAsk_keeps ..) rfl ?_
  refine Keeps.step (modDeep_keeps ..) rfl ?_; split; refine Keeps.step (unpinSlot_keeps ..) rfl ?_; split
  refine Keeps.step (unpinSlot_keeps ..) rfl ?_; refine Keeps.step (countDecode_keeps ..) rfl ?_; split
  refine Keeps.step (acceptFrame_keeps ..) rfl ?_; exact Keeps.refl _ _; exact Keeps.refl _ _
  refine Keeps.step (countDecode_keeps ..) rfl ?_; split; refine Keeps.step (acceptFrame_keeps ..) rfl ?_; exact Keeps.refl _ _
  exact Keeps.refl _ _; refine Keeps.step (countDecode_keeps ..) rfl ?_; split; refine Keeps.step (acceptFrame_keeps ..) rfl ?_
  exact Keeps.refl _ _; exact Keeps.refl _ _

theorem execDeepJobDone_keeps (d) (marks) (screens) (runs) (s : State) :
    KeepsRes 0x20301002c00000000108010c0 s (execDeepJobDone d marks screens runs s) := by
  unfold execDeepJobDone
  refine KeepsRes.next ?_; refine live_keeps _ (fun w hw => ?_) ?_; refine Keeps.step (deepJobDone_keeps ..) rfl ?_; assumption
  exact Keeps.refl _ _

theorem execDeepCompletionPop_keeps (s : State) : KeepsRes 0x20000000000000000000000 s (execDeepCompletionPop s) := by
  unfold execDeepCompletionPop
  refine KeepsRes.next ?_; refine live_keeps _ (fun w hw => ?_) ?_; refine Keeps.step (modDeep_keeps ..) rfl ?_; assumption
  exact Keeps.refl _ _

theorem rebuild_keeps (ch) (k) (s : State) : Keeps 0x100000c0000000000801000 s (rebuild ch k s) := by
  unfold rebuild
  dsimp only; split; refine Keeps.step (modRch_keeps ..) rfl ?_; split; refine Keeps.step (writeFrame_keeps ..) rfl ?_
  refine State.set_keeps _ _ ?_ ?_; rw [RCH_TP_CTL_SB_SLOT_blk]; exact rfl; exact Keeps.refl _ _
  refine State.set_keeps _ _ ?_ ?_; rw [RCH_TP_CTL_SB_SLOT_blk]; exact rfl; exact Keeps.refl _ _; refine State.on_keeps _ ?_ ?_
  rw [RCH_STAT_TP_REFUSED_blk]; exact rfl; refine State.set_keeps _ _ ?_ ?_; rw [RCH_TP_CTL_SB_SLOT_blk]; exact rfl
  exact Keeps.refl _ _

theorem execRebuild_keeps (ch) (k) (s : State) : KeepsRes 0x100000c0000000000801000 s (execRebuild ch k s) := by
  unfold execRebuild
  refine KeepsRes.next ?_; refine live_keeps _ (fun w hw => ?_) ?_; refine Keeps.step (rebuild_keeps ..) rfl ?_; assumption
  exact Keeps.refl _ _

theorem rTp_keeps {m : Nat} {s t : State} (hm : 0x1000 &&& m = 0x1000) (h : Keeps m s t) (ch) (f) (hf : ∀ w, Keeps m s w → Keeps m s (f w)) :
    Keeps m s (rTp ch f t) := by
  unfold rTp
  split; refine State.on_keeps _ ?_ ?_; rw [RCH_STAT_TP_REFUSED_blk]; exact (testBit_strengthen hm rfl); assumption
  refine hf  _ ?_; assumption

theorem rchTpSave_keeps (ch) (s : State) : Keeps 0xc0000000000801000 s (rchTpSave ch s) := by
  unfold rchTpSave
  refine rTp_keeps (h := ?_) (hm := ?_) (hf := fun w hw => ?_) ..; rfl; exact Keeps.refl _ _; dsimp only
  refine Keeps.step (State.dramWrite_keeps ..) rfl ?_; assumption

theorem rchTpRestore_keeps (ch) (s : State) : Keeps 0x10000000000000000001000 s (rchTpRestore ch s) := by
  unfold rchTpRestore
  refine rTp_keeps (h := ?_) (hm := ?_) (hf := fun w hw => ?_) ..; rfl; exact Keeps.refl _ _; dsimp only
  refine Keeps.step (modRch_keeps ..) rfl ?_; assumption

theorem rchTpClear_keeps (ch) (s : State) : Keeps 0x10000000000000000001000 s (rchTpClear ch s) := by
  unfold rchTpClear
  refine rTp_keeps (h := ?_) (hm := ?_) (hf := fun w hw => ?_) ..; rfl; exact Keeps.refl _ _
  refine Keeps.step (modRch_keeps ..) rfl ?_; assumption

theorem execRchTpSave_keeps (ch) (s : State) : KeepsRes 0xc0000000000801000 s (execRchTpSave ch s) := by
  unfold execRchTpSave
  refine KeepsRes.next ?_; refine live_keeps _ (fun w hw => ?_) ?_; refine Keeps.step (rchTpSave_keeps ..) rfl ?_; assumption
  exact Keeps.refl _ _

theorem execRchTpRestore_keeps (ch) (s : State) : KeepsRes 0x10000000000000000001000 s (execRchTpRestore ch s) := by
  unfold execRchTpRestore
  refine KeepsRes.next ?_; refine live_keeps _ (fun w hw => ?_) ?_; refine Keeps.step (rchTpRestore_keeps ..) rfl ?_; assumption
  exact Keeps.refl _ _

theorem execRchTpClear_keeps (ch) (s : State) : KeepsRes 0x10000000000000000001000 s (execRchTpClear ch s) := by
  unfold execRchTpClear
  refine KeepsRes.next ?_; refine live_keeps _ (fun w hw => ?_) ?_; refine Keeps.step (rchTpClear_keeps ..) rfl ?_; assumption
  exact Keeps.refl _ _

theorem requeueJob_keeps (d) (s : State) : Keeps 0x20000000000000000000000 s (requeueJob s d) := by
  unfold requeueJob
  split; split; exact Keeps.refl _ _; refine Keeps.step (modDeep_keeps ..) rfl ?_; exact Keeps.refl _ _; exact Keeps.refl _ _

theorem decoderRebind_keeps (x0) (s : State) : Keeps 0x20201002000000000100010c0 s (decoderRebind x0 s) := by
  unfold decoderRebind
  split; refine State.on_keeps _ ?_ ?_; exact rfl; exact Keeps.refl _ _; dsimp only; refine Keeps.step (deepAsk_keeps ..) rfl ?_
  refine Keeps.foldl (fun w e hw => ?_) ?_; refine Keeps.step (requeueJob_keeps ..) rfl ?_; assumption
  refine State.set_keeps _ _ ?_ ?_; exact rfl; refine State.set_keeps _ _ ?_ ?_; exact rfl; refine State.set_keeps _ _ ?_ ?_
  exact rfl; refine State.set_keeps _ _ ?_ ?_; exact rfl; exact Keeps.refl _ _

theorem execDecoderRebind_keeps (x0) (s : State) : KeepsRes 0x20201002000000000100010c0 s (execDecoderRebind x0 s) := by
  unfold execDecoderRebind
  refine KeepsRes.next ?_; refine live_keeps _ (fun w hw => ?_) ?_; refine Keeps.step (decoderRebind_keeps ..) rfl ?_
  assumption; exact Keeps.refl _ _

theorem unpinTag_keeps (ch) (tag) (s : State) : Keeps 0x10000000000000000000000 s (unpinTag ch tag s) := by
  unfold unpinTag
  refine Keeps.foldl (fun w e hw => ?_) ?_; split; refine Keeps.step (unpinSlot_keeps ..) rfl ?_; assumption; assumption
  exact Keeps.refl _ _

theorem retryLadder_keeps (ch) (k) (limited) (first) (tries) (s : State) :
    Keeps 0x10080200000020000000000 s (retryLadder ch k limited first tries s) := by
  unfold retryLadder
  dsimp only; split; exact Keeps.refl _ _; split; exact Keeps.refl _ _; split; refine State.emit_keeps _ ?_ ?_; exact rfl
  exact Keeps.refl _ _; refine State.emit_keeps _ ?_ ?_; exact rfl; refine Keeps.step (patTrig_keeps ..) rfl ?_
  refine Keeps.step (unpinTag_keeps ..) rfl ?_; exact Keeps.refl _ _

theorem execRetryLadder_keeps (ch) (k) (limited) (first) (tries) (s : State) :
    KeepsRes 0x10080200000020000000000 s (execRetryLadder ch k limited first tries s) := by
  unfold execRetryLadder
  refine KeepsRes.next ?_; refine live_keeps _ (fun w hw => ?_) ?_; refine Keeps.step (retryLadder_keeps ..) rfl ?_; assumption
  exact Keeps.refl _ _

theorem frameRewrite_keeps (ch) (tag) (slot) (s : State) : Keeps 0x8000200000000000000000 s (frameRewrite ch tag slot s) := by
  unfold frameRewrite
  dsimp only; split; split; refine State.emit_keeps _ ?_ ?_; exact rfl; refine Keeps.step (modWch_keeps ..) rfl ?_
  exact Keeps.refl _ _; refine State.emit_keeps _ ?_ ?_; exact rfl; refine Keeps.step (modWch_keeps ..) rfl ?_
  exact Keeps.refl _ _; exact Keeps.refl _ _

theorem execFrameRewrite_keeps (ch) (tag) (slot) (s : State) :
    KeepsRes 0x8000200000000000000000 s (execFrameRewrite ch tag slot s) := by
  unfold execFrameRewrite
  refine KeepsRes.next ?_; refine live_keeps _ (fun w hw => ?_) ?_; refine Keeps.step (frameRewrite_keeps ..) rfl ?_; assumption
  exact Keeps.refl _ _

end Sys2Proof.Machine
end

