-- ==== Sys2Proof/Laws/Keeps/Spindle.lean ====
section
/-!
SUPPORT. What each operation of Machine/Spindle.lean keeps: the mask names the register blocks (bits 0 to 63) and the parts of State (bit
64 on) that the operation may change; everything outside it stays.
-/
namespace Sys2Proof.Machine

theorem modSpn_keeps (f) (s : State) : Keeps 0x800000000000000000000 s (modSpn f s) := by
  unfold modSpn; refine Keeps.upd_spn _ ?_ ?_; exact rfl; exact Keeps.refl _ _

theorem spnGo_keeps (st) (b) (s : State) : Keeps 0x20009002000000000100000d0 s (spnGo st b s) := by
  unfold spnGo
  dsimp only; split; split; refine Keeps.step (bulWalk_keeps ..) rfl ?_; refine Keeps.step (modSpn_keeps ..) rfl ?_
  refine State.set_keeps _ _ ?_ ?_; exact rfl; exact Keeps.refl _ _; refine Keeps.step (modSpn_keeps ..) rfl ?_
  refine State.set_keeps _ _ ?_ ?_; exact rfl; exact Keeps.refl _ _; split; refine Keeps.step (bulWalk_keeps ..) rfl ?_
  refine Keeps.step (modSpn_keeps ..) rfl ?_; refine State.off_keeps _ ?_ ?_; exact rfl
  refine Keeps.step (modSpn_keeps ..) rfl ?_; refine State.set_keeps _ _ ?_ ?_; exact rfl; exact Keeps.refl _ _
  refine Keeps.step (modSpn_keeps ..) rfl ?_; refine State.off_keeps _ ?_ ?_; exact rfl
  refine Keeps.step (modSpn_keeps ..) rfl ?_; refine State.set_keeps _ _ ?_ ?_; exact rfl; exact Keeps.refl _ _

theorem startFail_keeps (s : State) : Keeps 0x20009802000000200100000d0 s (startFail s) := by
  unfold startFail
  dsimp only; refine Keeps.step (patTrig_keeps ..) rfl ?_; refine State.on_keeps _ ?_ ?_; exact rfl
  refine Keeps.step (spnGo_keeps ..) rfl ?_; exact Keeps.refl _ _

theorem lapseOff_keeps (s : State) : Keeps 0x20009802000000200100000d0 s (lapseOff s) := by
  unfold lapseOff
  refine Keeps.step (startFail_keeps ..) rfl ?_; refine State.on_keeps _ ?_ ?_; exact rfl; exact Keeps.refl _ _

theorem enterLocate_keeps (s : State) : Keeps 0x20009802000000200100000d0 s (enterLocate s) := by
  unfold enterLocate
  split; refine Keeps.step (modSpn_keeps ..) rfl ?_; refine Keeps.step (spnGo_keeps ..) rfl ?_; exact Keeps.refl _ _
  refine Keeps.step (lapseOff_keeps ..) rfl ?_; exact Keeps.refl _ _

theorem enterRamp_keeps (step) (s : State) : Keeps 0x20009802000000200100000d0 s (enterRamp step s) := by
  unfold enterRamp
  split; refine Keeps.step (modSpn_keeps ..) rfl ?_; refine Keeps.step (spnGo_keeps ..) rfl ?_; exact Keeps.refl _ _
  refine Keeps.step (lapseOff_keeps ..) rfl ?_; exact Keeps.refl _ _

theorem enterAccel_keeps (s : State) : Keeps 0x20009002000000000100000d0 s (enterAccel s) := by
  unfold enterAccel
  dsimp only; split; refine Keeps.step (modSpn_keeps ..) rfl ?_; refine Keeps.step (spnGo_keeps ..) rfl ?_; exact Keeps.refl _ _
  refine State.on_keeps _ ?_ ?_; exact rfl; refine Keeps.step (modSpn_keeps ..) rfl ?_
  refine Keeps.step (spnGo_keeps ..) rfl ?_; exact Keeps.refl _ _

theorem enterSlew_keeps (s : State) : Keeps 0x20009002000000000100000d0 s (enterSlew s) := by
  unfold enterSlew
  dsimp only; split; refine State.on_keeps _ ?_ ?_; exact rfl; refine Keeps.step (modSpn_keeps ..) rfl ?_
  refine Keeps.step (spnGo_keeps ..) rfl ?_; exact Keeps.refl _ _; refine Keeps.step (modSpn_keeps ..) rfl ?_
  refine Keeps.step (spnGo_keeps ..) rfl ?_; exact Keeps.refl _ _

theorem enterBrake_keeps (stop) (ms) (s : State) : Keeps 0x20009002000000000100000d0 s (enterBrake stop ms s) := by
  unfold enterBrake
  refine Keeps.step (modSpn_keeps ..) rfl ?_; refine Keeps.step (spnGo_keeps ..) rfl ?_; exact Keeps.refl _ _

theorem spnRefuse_keeps (s : State) : Keeps 0x10 s (spnRefuse s) := by
  unfold spnRefuse; refine State.on_keeps _ ?_ ?_; exact rfl; exact Keeps.refl _ _

theorem cmdStart_keeps (s : State) : Keeps 0x20009002000000000100000d0 s (cmdStart s) := by
  unfold cmdStart
  split; refine Keeps.step (spnRefuse_keeps ..) rfl ?_; exact Keeps.refl _ _; split; refine Keeps.step (spnGo_keeps ..) rfl ?_
  refine State.off_keeps _ ?_ ?_; exact rfl; refine State.set_keeps _ _ ?_ ?_; exact rfl; refine State.off_keeps _ ?_ ?_
  exact rfl; exact Keeps.refl _ _; refine Keeps.step (spnRefuse_keeps ..) rfl ?_; exact Keeps.refl _ _

theorem cmdStop_keeps (s : State) : Keeps 0x20009002000000000100000d0 s (cmdStop s) := by
  unfold cmdStop
  split; refine Keeps.step (spnRefuse_keeps ..) rfl ?_; exact Keeps.refl _ _; split; refine Keeps.step (spnGo_keeps ..) rfl ?_
  exact Keeps.refl _ _; refine Keeps.step (spnRefuse_keeps ..) rfl ?_; exact Keeps.refl _ _

theorem cmdFloat_keeps (s : State) : Keeps 0x20009002000000000100000d0 s (cmdFloat s) := by
  unfold cmdFloat
  split; refine Keeps.step (spnRefuse_keeps ..) rfl ?_; exact Keeps.refl _ _; split
  refine Keeps.step (spnRefuse_keeps ..) rfl ?_; exact Keeps.refl _ _; refine Keeps.step (spnGo_keeps ..) rfl ?_
  exact Keeps.refl _ _

theorem execCmdStart_keeps (s : State) : KeepsRes 0x20009002000000000100000d0 s (execCmdStart s) := by
  unfold execCmdStart
  refine KeepsRes.next ?_; refine live_keeps _ (fun w hw => ?_) ?_; refine Keeps.step (cmdStart_keeps ..) rfl ?_; assumption
  exact Keeps.refl _ _

theorem execCmdStop_keeps (s : State) : KeepsRes 0x20009002000000000100000d0 s (execCmdStop s) := by
  unfold execCmdStop
  refine KeepsRes.next ?_; refine live_keeps _ (fun w hw => ?_) ?_; refine Keeps.step (cmdStop_keeps ..) rfl ?_; assumption
  exact Keeps.refl _ _

theorem execCmdFloat_keeps (s : State) : KeepsRes 0x20009002000000000100000d0 s (execCmdFloat s) := by
  unfold execCmdFloat
  refine KeepsRes.next ?_; refine live_keeps _ (fun w hw => ?_) ?_; refine Keeps.step (cmdFloat_keeps ..) rfl ?_; assumption
  exact Keeps.refl _ _

theorem senseDone_keeps (fwd) (low) (rpm16) (s : State) : Keeps 0x20009002000000000100000d0 s (senseDone fwd low rpm16 s) := by
  unfold senseDone
  dsimp only; split; refine Keeps.step (enterBrake_keeps ..) rfl ?_; refine State.set_keeps _ _ ?_ ?_; exact rfl
  refine State.set_keeps _ _ ?_ ?_; exact rfl; refine State.put_keeps _ _ ?_ ?_; exact rfl; exact Keeps.refl _ _; split
  refine Keeps.step (enterAccel_keeps ..) rfl ?_; refine State.set_keeps _ _ ?_ ?_; exact rfl; refine State.set_keeps _ _ ?_ ?_
  exact rfl; refine State.set_keeps _ _ ?_ ?_; exact rfl; refine State.put_keeps _ _ ?_ ?_; exact rfl; exact Keeps.refl _ _
  refine Keeps.step (enterBrake_keeps ..) rfl ?_; refine State.set_keeps _ _ ?_ ?_; exact rfl; refine State.set_keeps _ _ ?_ ?_
  exact rfl; refine State.put_keeps _ _ ?_ ?_; exact rfl; exact Keeps.refl _ _

theorem execSenseDone_keeps (fwd) (low) (rpm16) (s : State) :
    KeepsRes 0x20009002000000000100000d0 s (execSenseDone fwd low rpm16 s) := by
  unfold execSenseDone
  refine KeepsRes.next ?_; refine live_keeps _ (fun w hw => ?_) ?_; refine State.when_keeps _ _ (fun w hw => ?_) ?_
  refine Keeps.step (senseDone_keeps ..) rfl ?_; assumption; assumption; exact Keeps.refl _ _

theorem brakeDone_keeps (s : State) : Keeps 0x20009802000000200100000d0 s (brakeDone s) := by
  unfold brakeDone
  split; refine State.on_keeps _ ?_ ?_; exact rfl; refine Keeps.step (spnGo_keeps ..) rfl ?_; exact Keeps.refl _ _
  refine Keeps.step (enterLocate_keeps ..) rfl ?_; exact Keeps.refl _ _

theorem execBrakeDone_keeps (rpm16) (s : State) : KeepsRes 0x20009802000000200100000d0 s (execBrakeDone rpm16 s) := by
  unfold execBrakeDone
  refine KeepsRes.next ?_; refine live_keeps _ (fun w hw => ?_) ?_; refine State.when_keeps _ _ (fun w hw => ?_) ?_
  refine Keeps.step (brakeDone_keeps ..) rfl ?_; assumption; assumption; exact Keeps.refl _ _

theorem locateDone_keeps (rises) (pos) (neg) (s : State) : Keeps 0x20009802000000200100000d0 s (locateDone rises pos neg s) := by
  unfold locateDone
  split; exact Keeps.refl _ _; dsimp only; split; split; split; refine Keeps.step (modSpn_keeps ..) rfl ?_; exact Keeps.refl _ _
  refine Keeps.step (startFail_keeps ..) rfl ?_; exact Keeps.refl _ _; refine Keeps.step (enterRamp_keeps ..) rfl ?_
  refine State.set_keeps _ _ ?_ ?_; exact rfl; exact Keeps.refl _ _; split; split; refine Keeps.step (modSpn_keeps ..) rfl ?_
  exact Keeps.refl _ _; refine Keeps.step (startFail_keeps ..) rfl ?_; exact Keeps.refl _ _
  refine Keeps.step (enterRamp_keeps ..) rfl ?_; refine State.set_keeps _ _ ?_ ?_; exact rfl; exact Keeps.refl _ _

theorem execLocateAttemptDone_keeps (rises) (pos) (neg) (s : State) :
    KeepsRes 0x20009802000000200100000d0 s (execLocateAttemptDone rises pos neg s) := by
  unfold execLocateAttemptDone
  refine KeepsRes.next ?_; refine live_keeps _ (fun w hw => ?_) ?_; refine State.when_keeps _ _ (fun w hw => ?_) ?_
  refine Keeps.step (locateDone_keeps ..) rfl ?_; assumption; assumption; exact Keeps.refl _ _

theorem execLocateRetry_keeps (s : State) : KeepsRes 0x800000000000000000000 s (execLocateRetry s) := by
  unfold execLocateRetry
  refine KeepsRes.next ?_; refine live_keeps _ (fun w hw => ?_) ?_; refine State.when_keeps _ _ (fun w hw => ?_) ?_
  refine Keeps.step (modSpn_keeps ..) rfl ?_; assumption; assumption; exact Keeps.refl _ _

theorem rampTimeout_keeps (s : State) : Keeps 0x20009802000000200100000d0 s (rampTimeout s) := by
  unfold rampTimeout
  dsimp only; split; refine Keeps.step (enterBrake_keeps ..) rfl ?_; refine State.set_keeps _ _ ?_ ?_; exact rfl
  exact Keeps.refl _ _; refine Keeps.step (startFail_keeps ..) rfl ?_; refine State.set_keeps _ _ ?_ ?_; exact rfl
  exact Keeps.refl _ _

theorem execRampTimeout_keeps (s : State) : KeepsRes 0x20009802000000200100000d0 s (execRampTimeout s) := by
  unfold execRampTimeout
  refine KeepsRes.next ?_; refine live_keeps _ (fun w hw => ?_) ?_; refine State.when_keeps _ _ (fun w hw => ?_) ?_
  refine Keeps.step (rampTimeout_keeps ..) rfl ?_; assumption; assumption; exact Keeps.refl _ _

theorem zeroCrossing_keeps (ofs) (rising) (zero) (s : State) :
    Keeps 0x800000000000000000004 s (zeroCrossing ofs rising zero s) := by
  unfold zeroCrossing
  dsimp only; split; refine State.set_keeps _ _ ?_ ?_; exact rfl; refine Keeps.step (modSpn_keeps ..) rfl ?_
  exact Keeps.refl _ _; refine Keeps.step (modSpn_keeps ..) rfl ?_; exact Keeps.refl _ _

theorem execZeroCrossing_keeps (ofs) (rising) (zero) (s : State) :
    KeepsRes 0x800000000000000000004 s (execZeroCrossing ofs rising zero s) := by
  unfold execZeroCrossing
  refine KeepsRes.next ?_; refine live_keeps _ (fun w hw => ?_) ?_; refine Keeps.step (zeroCrossing_keeps ..) rfl ?_; assumption
  exact Keeps.refl _ _

theorem observerLock_keeps (rpm16) (s : State) : Keeps 0x2008f803000000200100004dc s (observerLock rpm16 s) := by
  unfold observerLock
  dsimp only; split; refine Keeps.step (enterAccel_keeps ..) rfl ?_; refine Keeps.step (invObsLock_keeps ..) rfl ?_
  refine State.set_keeps _ _ ?_ ?_; exact rfl; refine State.on_keeps _ ?_ ?_; exact rfl; exact Keeps.refl _ _; split
  refine Keeps.step (enterAccel_keeps ..) rfl ?_; refine Keeps.step (invObsLock_keeps ..) rfl ?_
  refine State.set_keeps _ _ ?_ ?_; exact rfl; refine State.on_keeps _ ?_ ?_; exact rfl; exact Keeps.refl _ _; split
  refine Keeps.step (modSpn_keeps ..) rfl ?_; refine Keeps.step (invObsLock_keeps ..) rfl ?_; refine State.set_keeps _ _ ?_ ?_
  exact rfl; refine State.on_keeps _ ?_ ?_; exact rfl; exact Keeps.refl _ _; refine Keeps.step (invObsLock_keeps ..) rfl ?_
  refine State.set_keeps _ _ ?_ ?_; exact rfl; refine State.on_keeps _ ?_ ?_; exact rfl; exact Keeps.refl _ _

theorem execObserverLock_keeps (rpm16) (s : State) : KeepsRes 0x2008f803000000200100004dc s (execObserverLock rpm16 s) := by
  unfold execObserverLock
  refine KeepsRes.next ?_; refine live_keeps _ (fun w hw => ?_) ?_; refine State.when_keeps _ _ (fun w hw => ?_) ?_
  refine Keeps.step (observerLock_keeps ..) rfl ?_; assumption; assumption; exact Keeps.refl _ _

theorem observerLoss_keeps (s : State) : Keeps 0x2008f803000000200100004dc s (observerLoss s) := by
  unfold observerLoss
  dsimp only; split; refine Keeps.step (patTrig_keeps ..) rfl ?_; refine State.on_keeps _ ?_ ?_; exact rfl
  refine Keeps.step (modSpn_keeps ..) rfl ?_; refine Keeps.step (spnGo_keeps ..) rfl ?_
  refine Keeps.step (invObsLoss_keeps ..) rfl ?_; refine Keeps.step (modSpn_keeps ..) rfl ?_; refine State.off_keeps _ ?_ ?_
  exact rfl; exact Keeps.refl _ _; refine Keeps.step (invObsLoss_keeps ..) rfl ?_; refine Keeps.step (modSpn_keeps ..) rfl ?_
  refine State.off_keeps _ ?_ ?_; exact rfl; exact Keeps.refl _ _

theorem execObserverLockLoss_keeps (s : State) : KeepsRes 0x2008f803000000200100004dc s (execObserverLockLoss s) := by
  unfold execObserverLockLoss
  refine KeepsRes.next ?_; refine live_keeps _ (fun w hw => ?_) ?_; refine State.when_keeps _ _ (fun w hw => ?_) ?_
  refine Keeps.step (observerLoss_keeps ..) rfl ?_; assumption; assumption; exact Keeps.refl _ _

theorem selfCommutate_keeps (s : State) : Keeps 0x800000000000000000010 s (selfCommutate s) := by
  unfold selfCommutate
  dsimp only; split; refine State.on_keeps _ ?_ ?_; exact rfl; refine Keeps.step (modSpn_keeps ..) rfl ?_; exact Keeps.refl _ _
  refine Keeps.step (modSpn_keeps ..) rfl ?_; exact Keeps.refl _ _

theorem execSelfTimedCommutation_keeps (s : State) : KeepsRes 0x800000000000000000010 s (execSelfTimedCommutation s) := by
  unfold execSelfTimedCommutation
  refine KeepsRes.next ?_; refine live_keeps _ (fun w hw => ?_) ?_; refine State.when_keeps _ _ (fun w hw => ?_) ?_
  refine Keeps.step (selfCommutate_keeps ..) rfl ?_; assumption; assumption; exact Keeps.refl _ _

theorem commut_keeps (k) (s : State) : Keeps 0x800000000000000000000 s (commut k s) := by
  unfold commut
  split; refine Keeps.step (modSpn_keeps ..) rfl ?_; exact Keeps.refl _ _; exact Keeps.refl _ _

theorem speedReached_keeps (ms) (s : State) : Keeps 0x20009002000000000100000d0 s (speedReached ms s) := by
  unfold speedReached
  split; split; split; refine Keeps.step (spnGo_keeps ..) rfl ?_; refine State.set_keeps _ _ ?_ ?_; exact rfl
  exact Keeps.refl _ _; refine State.on_keeps _ ?_ ?_; exact rfl; refine Keeps.step (spnGo_keeps ..) rfl ?_
  exact Keeps.refl _ _; refine State.on_keeps _ ?_ ?_; exact rfl; refine Keeps.step (spnGo_keeps ..) rfl ?_
  exact Keeps.refl _ _; split; refine Keeps.step (spnGo_keeps ..) rfl ?_; exact Keeps.refl _ _; exact Keeps.refl _ _

theorem execSpeedReached_keeps (ms) (s : State) : KeepsRes 0x20009002000000000100000d0 s (execSpeedReached ms s) := by
  unfold execSpeedReached
  refine KeepsRes.next ?_; refine live_keeps _ (fun w hw => ?_) ?_; refine Keeps.step (speedReached_keeps ..) rfl ?_; assumption
  exact Keeps.refl _ _

theorem coastDone_keeps (ke) (drop) (s : State) : Keeps 0x20009802000000200104000d0 s (coastDone ke drop s) := by
  unfold coastDone
  dsimp only; refine Keeps.step (holdupUpdate_keeps ..) rfl ?_; refine State.on_keeps _ ?_ ?_; exact rfl
  refine State.on_keeps _ ?_ ?_; exact rfl; refine Keeps.step (spnGo_keeps ..) rfl ?_; refine State.on_keeps _ ?_ ?_; exact rfl
  refine State.on_keeps _ ?_ ?_; exact rfl; refine State.set_keeps _ _ ?_ ?_; exact rfl; refine State.set_keeps _ _ ?_ ?_
  exact rfl; refine State.set_keeps _ _ ?_ ?_; exact rfl; refine State.set_keeps _ _ ?_ ?_; exact rfl; exact Keeps.refl _ _

theorem execCoastMeasDone_keeps (ke) (drop) (s : State) :
    KeepsRes 0x20009802000000200104000d0 s (execCoastMeasDone ke drop s) := by
  unfold execCoastMeasDone
  refine KeepsRes.next ?_; refine live_keeps _ (fun w hw => ?_) ?_; refine State.when_keeps _ _ (fun w hw => ?_) ?_
  refine Keeps.step (coastDone_keeps ..) rfl ?_; assumption; assumption; exact Keeps.refl _ _

theorem targetWrite_keeps (x0) (s : State) : Keeps 0x20009802000000200104000d0 s (targetWrite x0 s) := by
  unfold targetWrite
  dsimp only; split; split; refine Keeps.step (modSpn_keeps ..) rfl ?_; refine Keeps.step (holdupUpdate_keeps ..) rfl ?_
  refine State.set_keeps _ _ ?_ ?_; exact rfl; exact Keeps.refl _ _; refine Keeps.step (enterSlew_keeps ..) rfl ?_
  refine Keeps.step (holdupUpdate_keeps ..) rfl ?_; refine State.set_keeps _ _ ?_ ?_; exact rfl; exact Keeps.refl _ _
  refine Keeps.step (holdupUpdate_keeps ..) rfl ?_; refine State.set_keeps _ _ ?_ ?_; exact rfl; exact Keeps.refl _ _

theorem execSpeedTargetWrite_keeps (x0) (s : State) : KeepsRes 0x20009802000000200104000d0 s (execSpeedTargetWrite x0 s) := by
  unfold execSpeedTargetWrite
  refine KeepsRes.next ?_; refine live_keeps _ (fun w hw => ?_) ?_; refine Keeps.step (targetWrite_keeps ..) rfl ?_; assumption
  exact Keeps.refl _ _

theorem execSlewEntry_keeps (s : State) : KeepsRes 0x20009002000000000100000d0 s (execSlewEntry s) := by
  unfold execSlewEntry
  refine KeepsRes.next ?_; refine live_keeps _ (fun w hw => ?_) ?_; refine State.when_keeps _ _ (fun w hw => ?_) ?_
  refine Keeps.step (enterSlew_keeps ..) rfl ?_; assumption; assumption; exact Keeps.refl _ _

theorem reacqTimeout_keeps (s : State) : Keeps 0x20009802000000200100000d0 s (reacqTimeout s) := by
  unfold reacqTimeout
  dsimp only; split; refine Keeps.step (enterBrake_keeps ..) rfl ?_; refine State.set_keeps _ _ ?_ ?_; exact rfl
  refine Keeps.step (patTrig_keeps ..) rfl ?_; refine State.on_keeps _ ?_ ?_; exact rfl; exact Keeps.refl _ _
  refine Keeps.step (modSpn_keeps ..) rfl ?_; refine Keeps.step (patTrig_keeps ..) rfl ?_; refine State.on_keeps _ ?_ ?_
  exact rfl; exact Keeps.refl _ _

theorem execReacqTimeout_keeps (s : State) : KeepsRes 0x20009802000000200100000d0 s (execReacqTimeout s) := by
  unfold execReacqTimeout
  refine KeepsRes.next ?_; refine live_keeps _ (fun w hw => ?_) ?_; refine State.when_keeps _ _ (fun w hw => ?_) ?_
  refine Keeps.step (reacqTimeout_keeps ..) rfl ?_; assumption; assumption; exact Keeps.refl _ _

theorem execReacqBrake_keeps (s : State) : KeepsRes 0x20009002000000000100000d0 s (execReacqBrake s) := by
  unfold execReacqBrake
  refine KeepsRes.next ?_; refine live_keeps _ (fun w hw => ?_) ?_; refine State.when_keeps _ _ (fun w hw => ?_) ?_
  refine Keeps.step (enterBrake_keeps ..) rfl ?_; refine State.set_keeps _ _ ?_ ?_; exact rfl; assumption; assumption
  exact Keeps.refl _ _

theorem execStoppingDone_keeps (rpm16) (s : State) : KeepsRes 0x20009002000000000100000d0 s (execStoppingDone rpm16 s) := by
  unfold execStoppingDone
  refine KeepsRes.next ?_; refine live_keeps _ (fun w hw => ?_) ?_; refine State.when_keeps _ _ (fun w hw => ?_) ?_
  refine Keeps.step (enterBrake_keeps ..) rfl ?_; assumption; assumption; exact Keeps.refl _ _

theorem rectifyEntry_keeps (s : State) : Keeps 0x20009002000000000100000d0 s (rectifyEntry s) := by
  unfold rectifyEntry
  split; exact Keeps.refl _ _; refine Keeps.step (spnGo_keeps ..) rfl ?_; exact Keeps.refl _ _

theorem execRectifyFloor_keeps (rpm16) (s : State) : KeepsRes 0x20009002000000000100000d0 s (execRectifyFloor rpm16 s) := by
  unfold execRectifyFloor
  refine KeepsRes.next ?_; refine State.when_keeps _ _ (fun w hw => ?_) ?_; refine State.on_keeps _ ?_ ?_; exact rfl
  refine Keeps.step (spnGo_keeps ..) rfl ?_; assumption; exact Keeps.refl _ _

theorem execRectifyRecovery_keeps (s : State) : KeepsRes 0x20009002000000000100000d0 s (execRectifyRecovery s) := by
  unfold execRectifyRecovery
  refine KeepsRes.next ?_; refine State.when_keeps _ _ (fun w hw => ?_) ?_; refine Keeps.step (spnGo_keeps ..) rfl ?_
  refine State.set_keeps _ _ ?_ ?_; exact rfl; assumption; exact Keeps.refl _ _

theorem holdupRev_keeps (rpm16) (s : State) : Keeps 0x880000000020000400010 s (holdupRev rpm16 s) := by
  unfold holdupRev
  dsimp only; refine Keeps.step (holdupUpdate_keeps ..) rfl ?_; refine State.put_keeps _ _ ?_ ?_; exact rfl
  refine Keeps.step (modSpn_keeps ..) rfl ?_; refine State.put_keeps _ _ ?_ ?_; exact rfl; refine State.set_keeps _ _ ?_ ?_
  exact rfl; exact Keeps.refl _ _

theorem execHoldupUpdate_keeps (rpm16) (s : State) : KeepsRes 0x880000000020000400010 s (execHoldupUpdate rpm16 s) := by
  unfold execHoldupUpdate
  refine KeepsRes.next ?_; refine live_keeps _ (fun w hw => ?_) ?_; refine Keeps.step (holdupRev_keeps ..) rfl ?_; assumption
  exact Keeps.refl _ _

theorem spnJWrite_keeps (x0) (s : State) : Keeps 0x80000000020000400010 s (spnJWrite x0 s) := by
  unfold spnJWrite
  refine Keeps.step (holdupUpdate_keeps ..) rfl ?_; refine State.off_keeps _ ?_ ?_; exact rfl; refine State.set_keeps _ _ ?_ ?_
  exact rfl; refine State.put_keeps _ _ ?_ ?_; exact rfl; exact Keeps.refl _ _

theorem execSpnJWrite_keeps (x0) (s : State) : KeepsRes 0x80000000020000400010 s (execSpnJWrite x0 s) := by
  unfold execSpnJWrite
  refine KeepsRes.next ?_; refine live_keeps _ (fun w hw => ?_) ?_; refine Keeps.step (spnJWrite_keeps ..) rfl ?_; assumption
  exact Keeps.refl _ _

theorem permitLapse_keeps (s : State) : Keeps 0x20009802000000200100000d0 s (permitLapse s) := by
  unfold permitLapse
  dsimp only; split; refine Keeps.step (lapseOff_keeps ..) rfl ?_; refine State.off_keeps _ ?_ ?_; exact rfl
  exact Keeps.refl _ _; split; refine Keeps.step (modSpn_keeps ..) rfl ?_; refine State.on_keeps _ ?_ ?_; exact rfl
  refine State.off_keeps _ ?_ ?_; exact rfl; exact Keeps.refl _ _; refine State.off_keeps _ ?_ ?_; exact rfl
  exact Keeps.refl _ _

theorem permitChange_keeps (b) (s : State) : Keeps 0x20009802000000200100000d0 s (permitChange b s) := by
  unfold permitChange
  split; refine State.on_keeps _ ?_ ?_; exact rfl; exact Keeps.refl _ _; split; refine Keeps.step (permitLapse_keeps ..) rfl ?_
  exact Keeps.refl _ _; exact Keeps.refl _ _

theorem execSpinPermitChange_keeps (b) (s : State) : KeepsRes 0x20009802000000200100000d0 s (execSpinPermitChange b s) := by
  unfold execSpinPermitChange
  refine KeepsRes.next ?_; refine live_keeps _ (fun w hw => ?_) ?_; refine Keeps.step (permitChange_keeps ..) rfl ?_; assumption
  exact Keeps.refl _ _

end Sys2Proof.Machine
end

