-- ==== Sys2Proof/Laws/Keeps/Fire.lean ====
section
/-!
SUPPORT. What each operation of Machine/Fire.lean keeps: the mask names the register blocks (bits 0 to 63) and the parts of State (bit
64 on) that the operation may change; everything outside it stays.
-/
namespace Sys2Proof.Machine

theorem dropEntry_keeps (a) (s : State) : Keeps 0x4 s (dropEntry a s) := by
  unfold dropEntry; refine State.onBit_keeps _ _ ?_ ?_; exact rfl; exact Keeps.refl _ _

theorem setQuiet_keeps (ch) (isOpen) (wait) (s : State) : Keeps 0x200000000000000000000 s (setQuiet ch isOpen wait s) := by
  unfold setQuiet
  refine Keeps.upd_inv _ ?_ ?_ ?_; exact rfl; (first | exact Nat.le_refl _ | exact State.bemfStart_ge _); exact Keeps.refl _ _

theorem setRg_keeps (ch) (b) (s : State) : Keeps 0x200000000000000000000 s (setRg ch b s) := by
  unfold setRg
  refine Keeps.upd_inv _ ?_ ?_ ?_; exact rfl; (first | exact Nat.le_refl _ | exact State.bemfStart_ge _); exact Keeps.refl _ _

theorem aeOnFire_keeps (ch) (s : State) : Keeps 0x8000000000000000000004 s (aeOnFire ch s) := by
  unfold aeOnFire
  split; refine Keeps.step (dropEntry_keeps ..) rfl ?_; exact Keeps.refl _ _; split
  refine Keeps.step (dropEntry_keeps ..) rfl ?_; refine State.on_keeps _ ?_ ?_; exact rfl; exact Keeps.refl _ _
  refine Keeps.step (setAssist_keeps ..) rfl ?_; exact Keeps.refl _ _

theorem rgOpenFire_keeps (ch) (s : State) : Keeps 0x200000000000000000004 s (rgOpenFire ch s) := by
  unfold rgOpenFire
  split; refine Keeps.step (dropEntry_keeps ..) rfl ?_; refine State.on_keeps _ ?_ ?_; exact rfl; exact Keeps.refl _ _
  refine Keeps.step (setRg_keeps ..) rfl ?_; exact Keeps.refl _ _

theorem quietOpenFire_keeps (ch) (s : State) : Keeps 0x200000000000000000000 s (quietOpenFire ch s) := by
  unfold quietOpenFire
  split; refine Keeps.step (setQuiet_keeps ..) rfl ?_; exact Keeps.refl _ _; refine Keeps.step (setQuiet_keeps ..) rfl ?_
  exact Keeps.refl _ _

theorem quietOpenDeferred_keeps (ch) (s : State) : Keeps 0x200000000000000000000 s (quietOpenDeferred ch s) := by
  unfold quietOpenDeferred
  split; refine Keeps.step (setQuiet_keeps ..) rfl ?_; exact Keeps.refl _ _; exact Keeps.refl _ _

theorem coreIrqFire_keeps (param) (s : State) : Keeps 0x200000000000000000 s (coreIrqFire param s) := by
  unfold coreIrqFire; refine State.emit_keeps _ ?_ ?_; exact rfl; exact Keeps.refl _ _

theorem dmaStartFire_keeps (param) (s : State) : Keeps 0x20001002000000000104000c0 s (dmaStartFire param s) := by
  unfold dmaStartFire
  split; split; exact Keeps.refl _ _; refine Keeps.step (dmaGo_keeps ..) rfl ?_; exact Keeps.refl _ _; exact Keeps.refl _ _

theorem fireEntry_keeps (a) (e) (s : State) : Keeps 0x2009f802000000200144044cc s (fireEntry a e s) := by
  unfold fireEntry
  dsimp only; split; refine Keeps.step (wgOpenFire_keeps ..) rfl ?_; exact Keeps.refl _ _
  refine Keeps.step (framesSettle_keeps ..) rfl ?_; refine Keeps.step (wgCloseFire_keeps ..) rfl ?_; exact Keeps.refl _ _
  refine Keeps.step (aeOnFire_keeps ..) rfl ?_; exact Keeps.refl _ _; refine Keeps.step (setAssist_keeps ..) rfl ?_
  exact Keeps.refl _ _; refine Keeps.step (rgOpenFire_keeps ..) rfl ?_; exact Keeps.refl _ _
  refine Keeps.step (framesSettle_keeps ..) rfl ?_; refine Keeps.step (setRg_keeps ..) rfl ?_; exact Keeps.refl _ _
  refine Keeps.step (quietOpenFire_keeps ..) rfl ?_; exact Keeps.refl _ _; refine Keeps.step (setQuiet_keeps ..) rfl ?_
  exact Keeps.refl _ _; refine Keeps.step (roleEdge_keeps ..) rfl ?_; exact Keeps.refl _ _
  refine Keeps.step (dmaStartFire_keeps ..) rfl ?_; exact Keeps.refl _ _; refine Keeps.step (coreIrqFire_keeps ..) rfl ?_
  exact Keeps.refl _ _; refine Keeps.step (commut_keeps ..) rfl ?_; exact Keeps.refl _ _

theorem fireHead_keeps {m : Nat} {s t : State} (hm : 0x600000000000000000004 &&& m = 0x600000000000000000004) (h : Keeps m s t) (a) (c) (act) (hact : ∀ a0 w, Keeps m s w → Keeps m s (act a0 w)) :
    Keeps m s (fireHead a c act t) := by
  unfold fireHead
  split; split; refine hact _ _ ?_; refine Keeps.step' hm (advanceTo_keeps ..) rfl ?_
  refine Keeps.step' hm (setRing_keeps ..) rfl ?_; assumption; assumption; assumption

theorem execWgOpen_keeps (a) (s : State) : KeepsRes 0x86802000000200000044cc s (execWgOpen a s) := by
  unfold execWgOpen
  refine KeepsRes.next ?_; refine live_keeps _ (fun w hw => ?_) ?_
  refine fireHead_keeps (h := ?_) (hm := ?_) (hact := fun a0 w hw => ?_) ..; rfl; assumption
  refine Keeps.step (wgOpenFire_keeps ..) rfl ?_; assumption; exact Keeps.refl _ _

theorem execWgClose_keeps (a) (s : State) : KeepsRes 0x96000000000000000004c4 s (execWgClose a s) := by
  unfold execWgClose
  refine KeepsRes.next ?_; refine live_keeps _ (fun w hw => ?_) ?_
  refine fireHead_keeps (h := ?_) (hm := ?_) (hact := fun a0 w hw => ?_) ..; rfl; assumption
  refine Keeps.step (framesSettle_keeps ..) rfl ?_; refine Keeps.step (wgCloseFire_keeps ..) rfl ?_; assumption
  exact Keeps.refl _ _

theorem execAeOn_keeps (a) (s : State) : KeepsRes 0x8600000000000000000004 s (execAeOn a s) := by
  unfold execAeOn
  refine KeepsRes.next ?_; refine live_keeps _ (fun w hw => ?_) ?_
  refine fireHead_keeps (h := ?_) (hm := ?_) (hact := fun a0 w hw => ?_) ..; rfl; assumption
  refine Keeps.step (aeOnFire_keeps ..) rfl ?_; assumption; exact Keeps.refl _ _

theorem execAeOff_keeps (a) (s : State) : KeepsRes 0x8600000000000000000004 s (execAeOff a s) := by
  unfold execAeOff
  refine KeepsRes.next ?_; refine live_keeps _ (fun w hw => ?_) ?_
  refine fireHead_keeps (h := ?_) (hm := ?_) (hact := fun a0 w hw => ?_) ..; rfl; assumption
  refine Keeps.step (setAssist_keeps ..) rfl ?_; assumption; exact Keeps.refl _ _

theorem execRgOpen_keeps (a) (s : State) : KeepsRes 0x600000000000000000004 s (execRgOpen a s) := by
  unfold execRgOpen
  refine KeepsRes.next ?_; refine live_keeps _ (fun w hw => ?_) ?_
  refine fireHead_keeps (h := ?_) (hm := ?_) (hact := fun a0 w hw => ?_) ..; rfl; assumption
  refine Keeps.step (rgOpenFire_keeps ..) rfl ?_; assumption; exact Keeps.refl _ _

theorem execRgClose_keeps (a) (s : State) : KeepsRes 0x96000000000000000000c4 s (execRgClose a s) := by
  unfold execRgClose
  refine KeepsRes.next ?_; refine live_keeps _ (fun w hw => ?_) ?_
  refine fireHead_keeps (h := ?_) (hm := ?_) (hact := fun a0 w hw => ?_) ..; rfl; assumption
  refine Keeps.step (framesSettle_keeps ..) rfl ?_; refine Keeps.step (setRg_keeps ..) rfl ?_; assumption; exact Keeps.refl _ _

theorem execQuietOpen_keeps (a) (s : State) : KeepsRes 0x600000000000000000004 s (execQuietOpen a s) := by
  unfold execQuietOpen
  refine KeepsRes.next ?_; refine live_keeps _ (fun w hw => ?_) ?_
  refine fireHead_keeps (h := ?_) (hm := ?_) (hact := fun a0 w hw => ?_) ..; rfl; assumption
  refine Keeps.step (quietOpenFire_keeps ..) rfl ?_; assumption; exact Keeps.refl _ _

theorem execQuietOpenDeferred_keeps (ch) (s : State) : KeepsRes 0x200000000000000000000 s (execQuietOpenDeferred ch s) := by
  unfold execQuietOpenDeferred
  refine KeepsRes.next ?_; refine live_keeps _ (fun w hw => ?_) ?_; refine Keeps.step (quietOpenDeferred_keeps ..) rfl ?_
  assumption; exact Keeps.refl _ _

theorem execQuietClose_keeps (a) (s : State) : KeepsRes 0x600000000000000000004 s (execQuietClose a s) := by
  unfold execQuietClose
  refine KeepsRes.next ?_; refine live_keeps _ (fun w hw => ?_) ?_
  refine fireHead_keeps (h := ?_) (hm := ?_) (hact := fun a0 w hw => ?_) ..; rfl; assumption
  refine Keeps.step (setQuiet_keeps ..) rfl ?_; assumption; exact Keeps.refl _ _

theorem execEngWake_keeps (a) (s : State) : KeepsRes 0x600000000000004000004 s (execEngWake a s) := by
  unfold execEngWake
  refine KeepsRes.next ?_; refine live_keeps _ (fun w hw => ?_) ?_
  refine fireHead_keeps (h := ?_) (hm := ?_) (hact := fun a0 w hw => ?_) ..; rfl; assumption
  refine Keeps.step (roleEdge_keeps ..) rfl ?_; assumption; exact Keeps.refl _ _

theorem execDmaStart_keeps (a) (s : State) : KeepsRes 0x20007002000000000104000c4 s (execDmaStart a s) := by
  unfold execDmaStart
  refine KeepsRes.next ?_; refine live_keeps _ (fun w hw => ?_) ?_
  refine fireHead_keeps (h := ?_) (hm := ?_) (hact := fun a0 w hw => ?_) ..; rfl; assumption
  refine Keeps.step (dmaStartFire_keeps ..) rfl ?_; assumption; exact Keeps.refl _ _

theorem execCoreIrq_keeps (a) (s : State) : KeepsRes 0x600200000000000000004 s (execCoreIrq a s) := by
  unfold execCoreIrq
  refine KeepsRes.next ?_; refine live_keeps _ (fun w hw => ?_) ?_
  refine fireHead_keeps (h := ?_) (hm := ?_) (hact := fun a0 w hw => ?_) ..; rfl; assumption
  refine Keeps.step (coreIrqFire_keeps ..) rfl ?_; assumption; exact Keeps.refl _ _

theorem execCommut_keeps (s : State) : KeepsRes 0xe00000000000000000004 s (execCommut s) := by
  unfold execCommut
  refine KeepsRes.next ?_; refine live_keeps _ (fun w hw => ?_) ?_
  refine fireHead_keeps (h := ?_) (hm := ?_) (hact := fun a0 w hw => ?_) ..; rfl; assumption
  refine Keeps.step (commut_keeps ..) rfl ?_; assumption; exact Keeps.refl _ _

theorem fireDue_keeps (x0) (s : State) : Keeps 0x2009f802000000200144044cc s (fireDue x0 s) := by
  induction x0 generalizing s with
  | zero =>
    unfold fireDue
    exact Keeps.refl _ _
  | succ k ih =>
    unfold fireDue
    split; refine Keeps.step (ih ..) rfl ?_; refine Keeps.step (fireEntry_keeps ..) rfl ?_
    refine Keeps.step (setRing_keeps ..) rfl ?_; exact Keeps.refl _ _; refine Keeps.step (ih ..) rfl ?_
    refine Keeps.step (fireEntry_keeps ..) rfl ?_; refine Keeps.step (setRing_keeps ..) rfl ?_; exact Keeps.refl _ _
    exact Keeps.refl _ _

theorem passEntry_keeps (a) (e) (s : State) : Keeps 0x2009f802000000200144044cc s (passEntry a s e) := by
  unfold passEntry
  split; refine Keeps.step (fireEntry_keeps ..) rfl ?_; exact Keeps.refl _ _; split; refine Keeps.step (dropWg_keeps ..) rfl ?_
  refine Keeps.step (dropEntry_keeps ..) rfl ?_; exact Keeps.refl _ _; refine Keeps.step (dropEntry_keeps ..) rfl ?_
  exact Keeps.refl _ _; split; refine Keeps.step (dropEntry_keeps ..) rfl ?_; exact Keeps.refl _ _
  refine Keeps.step (fireEntry_keeps ..) rfl ?_; exact Keeps.refl _ _

theorem angleStep_keeps (st) (s : State) : Keeps 0x2009f802000000200144044cc s (angleStep st s) := by
  unfold angleStep
  dsimp only; refine Keeps.foldl (fun w e hw => ?_) ?_; refine Keeps.step (passEntry_keeps ..) rfl ?_; assumption
  refine Keeps.foldl (fun w e hw => ?_) ?_; refine Keeps.step (passEntry_keeps ..) rfl ?_; assumption
  refine Keeps.step (setRing_keeps ..) rfl ?_; refine Keeps.step (setRing_keeps ..) rfl ?_
  refine Keeps.step (advanceTo_keeps ..) rfl ?_; refine State.on_keeps _ ?_ ?_; exact rfl; exact Keeps.refl _ _

theorem lateEntry_keeps (a) (e) (s : State) : Keeps 0x2009f802000000200144044cc s (lateEntry a e s).1 := by
  unfold lateEntry
  dsimp only; split; dsimp only; split; refine Keeps.step (dropWg_keeps ..) rfl ?_
  refine Keeps.step (dropEntry_keeps ..) rfl ?_; refine State.onBit_keeps _ _ ?_ ?_; exact rfl; exact Keeps.refl _ _
  refine Keeps.step (dropEntry_keeps ..) rfl ?_; refine State.onBit_keeps _ _ ?_ ?_; exact rfl; exact Keeps.refl _ _; dsimp only
  refine Keeps.step (fireEntry_keeps ..) rfl ?_; refine State.onBit_keeps _ _ ?_ ?_; exact rfl; exact Keeps.refl _ _

theorem judgeEntry_keeps (a) (e) (s : State) : Keeps 0x2009f802000000200144044cc s (judgeEntry a e s).1 := by
  unfold judgeEntry
  split; dsimp only; exact Keeps.refl _ _; split; dsimp only; exact Keeps.refl _ _; split
  refine Keeps.step (lateEntry_keeps ..) rfl ?_; exact Keeps.refl _ _; split; dsimp only
  refine Keeps.step (patTrig_keeps ..) rfl ?_; refine State.onBit_keeps _ _ ?_ ?_; exact rfl; exact Keeps.refl _ _; dsimp only
  refine State.set_keeps _ _ ?_ ?_; rw [INV_RING_STAT_HWM_blk]; exact rfl; refine Keeps.step (setRing_keeps ..) rfl ?_
  exact Keeps.refl _ _

theorem ringCommit_keeps (r) (a) (w3) (s : State) : Keeps 0x2009f802000000200144044cc s (ringCommit r a w3 s) := by
  unfold ringCommit
  dsimp only; refine State.on_keeps _ ?_ ?_; rw [Fld.blk_of, INV_RING_RESP_DONE_blk]; exact rfl
  refine State.set_keeps _ _ ?_ ?_; rw [Fld.blk_of, INV_RING_RESP_RESULT_blk]; exact rfl
  refine Keeps.step (judgeEntry_keeps ..) rfl ?_; refine State.set_keeps _ _ ?_ ?_; rw [Fld.blk_of, INV_RING_W_blk]; exact rfl
  exact Keeps.refl _ _

theorem execRingEntryCommit_keeps (r) (a) (w3) (s : State) :
    KeepsRes 0x2009f802000000200144044cc s (execRingEntryCommit r a w3 s) := by
  unfold execRingEntryCommit
  refine KeepsRes.next ?_; refine live_keeps _ (fun w hw => ?_) ?_; refine Keeps.step (ringCommit_keeps ..) rfl ?_; assumption
  exact Keeps.refl _ _

theorem ringCancel_keeps (a) (tag) (s : State) : Keeps 0x200000000000000000004 s (ringCancel a tag s) := by
  unfold ringCancel
  refine Keeps.step (setRing_keeps ..) rfl ?_; refine State.set_keeps _ _ ?_ ?_; rw [INV_RING_CANCEL_TAG_blk]; exact rfl
  exact Keeps.refl _ _

theorem execRingCancel_keeps (a) (tag) (s : State) : KeepsRes 0x200000000000000000004 s (execRingCancel a tag s) := by
  unfold execRingCancel
  refine KeepsRes.next ?_; refine live_keeps _ (fun w hw => ?_) ?_; refine Keeps.step (ringCancel_keeps ..) rfl ?_; assumption
  exact Keeps.refl _ _

theorem wallTimerExpiry_keeps (x0) (s : State) : Keeps 0x200000000000000004 s (wallTimerExpiry x0 s) := by
  unfold wallTimerExpiry
  split; dsimp only; split; refine State.emit_keeps _ ?_ ?_; exact rfl; refine State.onBit_keeps _ _ ?_ ?_; exact rfl
  exact Keeps.refl _ _; refine State.off_keeps _ ?_ ?_; rw [INV_WTMR_ARM_blk]; exact rfl; refine State.emit_keeps _ ?_ ?_
  exact rfl; refine State.onBit_keeps _ _ ?_ ?_; exact rfl; exact Keeps.refl _ _; exact Keeps.refl _ _

theorem execWallTimerExpiry_keeps (x0) (s : State) : KeepsRes 0x200000000000000004 s (execWallTimerExpiry x0 s) := by
  unfold execWallTimerExpiry
  refine KeepsRes.next ?_; refine live_keeps _ (fun w hw => ?_) ?_; refine Keeps.step (wallTimerExpiry_keeps ..) rfl ?_
  assumption; exact Keeps.refl _ _

theorem execRewriteOvfClear_keeps (ch) (s : State) : KeepsRes 0x8 s (execRewriteOvfClear ch s) := by
  unfold execRewriteOvfClear
  refine KeepsRes.next ?_; refine live_keeps _ (fun w hw => ?_) ?_; refine State.off_keeps _ ?_ ?_
  rw [QCH_RW_STAT_OVF_blk]; exact rfl; assumption; exact Keeps.refl _ _

theorem rewritePop_keeps (ch) (s : State) : Keeps 0x400000000000000000000 s (rewritePop ch s) := by
  unfold rewritePop; refine Keeps.upd_qch _ ?_ ?_; exact rfl; exact Keeps.refl _ _

theorem execRewritePop_keeps (ch) (s : State) : KeepsRes 0x400000000000000000000 s (execRewritePop ch s) := by
  unfold execRewritePop
  refine KeepsRes.next ?_; refine live_keeps _ (fun w hw => ?_) ?_; refine Keeps.step (rewritePop_keeps ..) rfl ?_; assumption
  exact Keeps.refl _ _

theorem autoRelease_keeps (a) (i) (s : State) : Keeps 0x400000000000000000008 s (autoRelease a i s) := by
  unfold autoRelease
  split; refine Keeps.step (quenchRelease_keeps ..) rfl ?_; exact Keeps.refl _ _; exact Keeps.refl _ _

theorem execQuenchAutoRelease_keeps (a) (i) (s : State) : KeepsRes 0x400000000000000000008 s (execQuenchAutoRelease a i s) := by
  unfold execQuenchAutoRelease
  refine KeepsRes.next ?_; refine live_keeps _ (fun w hw => ?_) ?_; refine Keeps.step (autoRelease_keeps ..) rfl ?_; assumption
  exact Keeps.refl _ _

theorem releaseWrite_keeps (a) (s : State) : Keeps 0x400000000000000000008 s (releaseWrite a s) := by
  unfold releaseWrite
  split; refine State.on_keeps _ ?_ ?_; exact rfl; exact Keeps.refl _ _; refine Keeps.foldl (fun w e hw => ?_) ?_; split
  refine Keeps.step (quenchRelease_keeps ..) rfl ?_; assumption; assumption; exact Keeps.refl _ _

theorem quenchRel_keeps (x0) (s : State) : Keeps 0x400000000000000000008 s (quenchRel x0 s) := by
  unfold quenchRel
  dsimp only; split; refine Keeps.step (releaseWrite_keeps ..) rfl ?_; split; refine Keeps.step (releaseWrite_keeps ..) rfl ?_
  exact Keeps.refl _ _; exact Keeps.refl _ _; split; refine Keeps.step (releaseWrite_keeps ..) rfl ?_; exact Keeps.refl _ _
  exact Keeps.refl _ _

theorem execQuenchRelease_keeps (x0) (s : State) : KeepsRes 0x400000000000000000008 s (execQuenchRelease x0 s) := by
  unfold execQuenchRelease
  refine KeepsRes.next ?_; refine live_keeps _ (fun w hw => ?_) ?_; refine Keeps.step (quenchRel_keeps ..) rfl ?_; assumption
  exact Keeps.refl _ _

theorem holdWrite_keeps (a) (s : State) : Keeps 0x8480000000020000000008 s (holdWrite a s) := by
  unfold holdWrite
  refine Keeps.step (cutGate_keeps ..) rfl ?_; refine Keeps.step (cutGate_keeps ..) rfl ?_; exact Keeps.refl _ _

theorem quenchHold_keeps (x0) (s : State) : Keeps 0x8480000000020000000008 s (quenchHold x0 s) := by
  unfold quenchHold
  dsimp only; split; refine Keeps.step (holdWrite_keeps ..) rfl ?_; split; refine Keeps.step (holdWrite_keeps ..) rfl ?_
  refine State.set_keeps _ _ ?_ ?_; exact rfl; exact Keeps.refl _ _; refine State.set_keeps _ _ ?_ ?_; exact rfl
  exact Keeps.refl _ _; split; refine Keeps.step (holdWrite_keeps ..) rfl ?_; refine State.set_keeps _ _ ?_ ?_; exact rfl
  exact Keeps.refl _ _; refine State.set_keeps _ _ ?_ ?_; exact rfl; exact Keeps.refl _ _

theorem execQuenchHold_keeps (x0) (s : State) : KeepsRes 0x8480000000020000000008 s (execQuenchHold x0 s) := by
  unfold execQuenchHold
  refine KeepsRes.next ?_; refine live_keeps _ (fun w hw => ?_) ?_; refine Keeps.step (quenchHold_keeps ..) rfl ?_; assumption
  exact Keeps.refl _ _

theorem swreq_keeps (x0) (s : State) : Keeps 0x8480000000020000000008 s (swreq x0 s) := by
  unfold swreq
  dsimp only; split; refine Keeps.step (quenchReq_keeps ..) rfl ?_; split; refine Keeps.step (quenchReq_keeps ..) rfl ?_
  exact Keeps.refl _ _; exact Keeps.refl _ _; split; refine Keeps.step (quenchReq_keeps ..) rfl ?_; exact Keeps.refl _ _
  exact Keeps.refl _ _

theorem execSwreq_keeps (x0) (s : State) : KeepsRes 0x8480000000020000000008 s (execSwreq x0 s) := by
  unfold execSwreq
  refine KeepsRes.next ?_; refine live_keeps _ (fun w hw => ?_) ?_; refine Keeps.step (swreq_keeps ..) rfl ?_; assumption
  exact Keeps.refl _ _

theorem execQuenchTestPulse_keeps (ns) (s : State) : KeepsRes 0x8 s (execQuenchTestPulse ns s) := by
  unfold execQuenchTestPulse
  refine KeepsRes.next ?_; refine live_keeps _ (fun w hw => ?_) ?_; split; refine State.set_keeps _ _ ?_ ?_; exact rfl
  assumption; assumption; exact Keeps.refl _ _

end Sys2Proof.Machine
end

