-- ==== Sys2Proof/Laws/Keeps/Actuator.lean ====
section
/-!
SUPPORT. What each operation of Machine/Actuator.lean keeps: the mask names the register blocks (bits 0 to 63) and the parts of State (bit
64 on) that the operation may change; everything outside it stays.
-/
namespace Sys2Proof.Machine

theorem modAct_keeps (a) (f) (s : State) : Keeps 0x2000000000000000000000 s (modAct a f s) := by
  unfold modAct; refine Keeps.upd_act _ ?_ ?_; exact rfl; exact Keeps.refl _ _

theorem seekFail_keeps (a) (s : State) : Keeps 0x20001802000000200100000c0 s (seekFail a s) := by
  unfold seekFail
  dsimp only; refine Keeps.step (bulRelease_keeps ..) rfl ?_; refine Keeps.step (patTrig_keeps ..) rfl ?_
  refine State.on_keeps _ ?_ ?_; exact SRV_STAT_SEEK_FAIL_bit rfl rfl ..; refine State.off_keeps _ ?_ ?_
  exact SRV_SEEK_GO_bit rfl rfl ..; refine State.set_keeps _ _ ?_ ?_; exact SRV_STAT_SEEK_STATE_bit rfl rfl ..
  exact Keeps.refl _ _

theorem laneDrop_keeps (a) (l) (s : State) : Keeps 0x968010000002000000040c s (laneDrop a l s) := by
  unfold laneDrop
  dsimp only; split; refine Keeps.step (dropSurf_keeps ..) rfl ?_; refine Keeps.step (modLane_keeps ..) rfl ?_
  exact Keeps.refl _ _; refine Keeps.step (modLane_keeps ..) rfl ?_; exact Keeps.refl _ _

theorem maZero_keeps (a) (s : State) : Keeps 0x100 s (maZero a s) := by
  unfold maZero
  refine State.set_keeps _ _ ?_ ?_; rw [maOut_blk]; exact rfl; refine State.set_keeps _ _ ?_ ?_; rw [maOut_blk]; exact rfl
  exact Keeps.refl _ _

theorem actGo_keeps (a) (st) (s : State) : Keeps 0x20097803000000200100005cc s (actGo a st s) := by
  unfold actGo
  dsimp only; split; split; split; refine Keeps.step (bulWalk_keeps ..) rfl ?_; refine Keeps.step (modSrv_keeps ..) rfl ?_
  refine Keeps.step (laneDrop_keeps ..) rfl ?_; refine Keeps.step (laneDrop_keeps ..) rfl ?_
  refine Keeps.step (setActSt_keeps ..) rfl ?_; refine Keeps.step (seekFail_keeps ..) rfl ?_; exact Keeps.refl _ _
  refine Keeps.step (modSrv_keeps ..) rfl ?_; refine Keeps.step (laneDrop_keeps ..) rfl ?_
  refine Keeps.step (laneDrop_keeps ..) rfl ?_; refine Keeps.step (setActSt_keeps ..) rfl ?_
  refine Keeps.step (seekFail_keeps ..) rfl ?_; exact Keeps.refl _ _; split; refine Keeps.step (bulWalk_keeps ..) rfl ?_
  refine Keeps.step (setActSt_keeps ..) rfl ?_; refine Keeps.step (seekFail_keeps ..) rfl ?_; exact Keeps.refl _ _
  refine Keeps.step (setActSt_keeps ..) rfl ?_; refine Keeps.step (seekFail_keeps ..) rfl ?_; exact Keeps.refl _ _; split; split
  refine Keeps.step (bulWalk_keeps ..) rfl ?_; refine Keeps.step (modSrv_keeps ..) rfl ?_
  refine Keeps.step (laneDrop_keeps ..) rfl ?_; refine Keeps.step (laneDrop_keeps ..) rfl ?_
  refine Keeps.step (setActSt_keeps ..) rfl ?_; exact Keeps.refl _ _; refine Keeps.step (modSrv_keeps ..) rfl ?_
  refine Keeps.step (laneDrop_keeps ..) rfl ?_; refine Keeps.step (laneDrop_keeps ..) rfl ?_
  refine Keeps.step (setActSt_keeps ..) rfl ?_; exact Keeps.refl _ _; split; refine Keeps.step (bulWalk_keeps ..) rfl ?_
  refine Keeps.step (setActSt_keeps ..) rfl ?_; exact Keeps.refl _ _; refine Keeps.step (setActSt_keeps ..) rfl ?_
  exact Keeps.refl _ _

theorem actPark_keeps (a) (s : State) : Keeps 0x200b7803000000200100005cc s (actPark a s) := by
  unfold actPark
  refine Keeps.step (actGo_keeps ..) rfl ?_; refine Keeps.step (modAct_keeps ..) rfl ?_; exact Keeps.refl _ _

theorem retract_keeps (a) (s : State) : Keeps 0x200b7803000000200100005cc s (retract a s) := by
  unfold retract
  split; exact Keeps.refl _ _; refine Keeps.step (actGo_keeps ..) rfl ?_; refine Keeps.step (maZero_keeps ..) rfl ?_
  refine Keeps.step (modAct_keeps ..) rfl ?_; exact Keeps.refl _ _

theorem actRefuse_keeps (s : State) : Keeps 0x100 s (actRefuse s) := by
  unfold actRefuse; refine State.on_keeps _ ?_ ?_; exact rfl; exact Keeps.refl _ _

theorem cmdLoad_keeps (a) (s : State) : Keeps 0x200b7803000000200100005cc s (cmdLoad a s) := by
  unfold cmdLoad
  split; refine Keeps.step (modeFrame_keeps ..) rfl ?_; refine Keeps.step (modAct_keeps ..) rfl ?_
  refine Keeps.step (actGo_keeps ..) rfl ?_; exact Keeps.refl _ _; refine Keeps.step (actRefuse_keeps ..) rfl ?_
  exact Keeps.refl _ _

theorem execCmdLoad_keeps (a) (s : State) : KeepsRes 0x200b7803000000200100005cc s (execCmdLoad a s) := by
  unfold execCmdLoad
  refine KeepsRes.next ?_; refine live_keeps _ (fun w hw => ?_) ?_; refine Keeps.step (cmdLoad_keeps ..) rfl ?_; assumption
  exact Keeps.refl _ _

theorem unloadGo_keeps (a) (s : State) : Keeps 0x200b7803000000200100005cc s (unloadGo a s) := by
  unfold unloadGo
  refine Keeps.step (actGo_keeps ..) rfl ?_; refine Keeps.step (maZero_keeps ..) rfl ?_
  refine Keeps.step (modAct_keeps ..) rfl ?_; exact Keeps.refl _ _

theorem loadTimeout_keeps (a) (s : State) : Keeps 0x200b7803000000200100005cc s (loadTimeout a s) := by
  unfold loadTimeout
  split; dsimp only; refine Keeps.step (patTrig_keeps ..) rfl ?_; refine Keeps.step (unloadGo_keeps ..) rfl ?_
  refine State.onBit_keeps _ _ ?_ ?_; exact rfl; exact Keeps.refl _ _; exact Keeps.refl _ _

theorem execLoadTimeout_keeps (a) (s : State) : KeepsRes 0x200b7803000000200100005cc s (execLoadTimeout a s) := by
  unfold execLoadTimeout
  refine KeepsRes.next ?_; refine live_keeps _ (fun w hw => ?_) ?_; refine Keeps.step (loadTimeout_keeps ..) rfl ?_; assumption
  exact Keeps.refl _ _

theorem unloadUp_keeps (a) (s : State) : Keeps 0x200b7803000000200100005cc s (unloadUp a s) := by
  unfold unloadUp
  refine Keeps.step (unloadGo_keeps ..) rfl ?_; split; refine Keeps.step (quenchReq_keeps ..) rfl ?_; exact Keeps.refl _ _
  exact Keeps.refl _ _

theorem cmdUnload_keeps (a) (s : State) : Keeps 0x200b7803000000200100005cc s (cmdUnload a s) := by
  unfold cmdUnload
  split; refine Keeps.step (unloadUp_keeps ..) rfl ?_; exact Keeps.refl _ _; refine Keeps.step (actRefuse_keeps ..) rfl ?_
  exact Keeps.refl _ _

theorem execCmdUnload_keeps (a) (s : State) : KeepsRes 0x200b7803000000200100005cc s (execCmdUnload a s) := by
  unfold execCmdUnload
  refine KeepsRes.next ?_; refine live_keeps _ (fun w hw => ?_) ?_; refine Keeps.step (cmdUnload_keeps ..) rfl ?_; assumption
  exact Keeps.refl _ _

theorem unloadPark_keeps (a) (s : State) : Keeps 0x200b7803000000200100005cc s (unloadPark a s) := by
  unfold unloadPark
  split; refine Keeps.step (modeFrame_keeps ..) rfl ?_; refine Keeps.step (actPark_keeps ..) rfl ?_; exact Keeps.refl _ _
  exact Keeps.refl _ _

theorem execUnloadPark_keeps (a) (s : State) : KeepsRes 0x200b7803000000200100005cc s (execUnloadPark a s) := by
  unfold execUnloadPark
  refine KeepsRes.next ?_; refine live_keeps _ (fun w hw => ?_) ?_; refine Keeps.step (unloadPark_keeps ..) rfl ?_; assumption
  exact Keeps.refl _ _

theorem unloadTimeout_keeps (a) (s : State) : Keeps 0x200b7803000000200100005cc s (unloadTimeout a s) := by
  unfold unloadTimeout
  split; dsimp only; refine Keeps.step (patTrig_keeps ..) rfl ?_; refine Keeps.step (retract_keeps ..) rfl ?_
  refine State.onBit_keeps _ _ ?_ ?_; exact rfl; exact Keeps.refl _ _; exact Keeps.refl _ _

theorem execUnloadTimeout_keeps (a) (s : State) : KeepsRes 0x200b7803000000200100005cc s (execUnloadTimeout a s) := by
  unfold execUnloadTimeout
  refine KeepsRes.next ?_; refine live_keeps _ (fun w hw => ?_) ?_; refine Keeps.step (unloadTimeout_keeps ..) rfl ?_
  assumption; exact Keeps.refl _ _

theorem cmdRetract_keeps (a) (s : State) : Keeps 0x200b7803000000200100005cc s (cmdRetract a s) := by
  unfold cmdRetract
  split; refine Keeps.step (actRefuse_keeps ..) rfl ?_; exact Keeps.refl _ _; refine Keeps.step (retract_keeps ..) rfl ?_
  exact Keeps.refl _ _

theorem execCmdRetract_keeps (a) (s : State) : KeepsRes 0x200b7803000000200100005cc s (execCmdRetract a s) := by
  unfold execCmdRetract
  refine KeepsRes.next ?_; refine live_keeps _ (fun w hw => ?_) ?_; refine Keeps.step (cmdRetract_keeps ..) rfl ?_; assumption
  exact Keeps.refl _ _

theorem execRetractRequest_keeps (a) (s : State) : KeepsRes 0x200b7803000000200100005cc s (execRetractRequest a s) := by
  unfold execRetractRequest
  refine KeepsRes.next ?_; refine Keeps.step (retract_keeps ..) rfl ?_; exact Keeps.refl _ _

theorem retractHold_keeps (a) (s : State) : Keeps 0x2000000000000000000000 s (retractHold a s) := by
  unfold retractHold
  split; refine Keeps.step (modAct_keeps ..) rfl ?_; exact Keeps.refl _ _; exact Keeps.refl _ _

theorem execRetractHoldStart_keeps (a) (s : State) : KeepsRes 0x2000000000000000000000 s (execRetractHoldStart a s) := by
  unfold execRetractHoldStart
  refine KeepsRes.next ?_; refine Keeps.step (retractHold_keeps ..) rfl ?_; exact Keeps.refl _ _

theorem retractDone_keeps (a) (s : State) : Keeps 0x200b7803000000200100005cc s (retractDone a s) := by
  unfold retractDone
  split; dsimp only; split; refine Keeps.step (modeFrame_keeps ..) rfl ?_; refine State.onBit_keeps _ _ ?_ ?_; exact rfl
  refine Keeps.step (actPark_keeps ..) rfl ?_; exact Keeps.refl _ _; refine State.onBit_keeps _ _ ?_ ?_; exact rfl
  refine Keeps.step (actPark_keeps ..) rfl ?_; exact Keeps.refl _ _; exact Keeps.refl _ _

theorem execRetractDone_keeps (a) (s : State) : KeepsRes 0x200b7803000000200100005cc s (execRetractDone a s) := by
  unfold execRetractDone
  refine KeepsRes.next ?_; refine Keeps.step (retractDone_keeps ..) rfl ?_; exact Keeps.refl _ _

theorem execReacqRetractTimeout_keeps (s : State) : KeepsRes 0x200b7803000000200100005cc s (execReacqRetractTimeout s) := by
  unfold execReacqRetractTimeout
  refine KeepsRes.next ?_; refine live_keeps _ (fun w hw => ?_) ?_; refine State.when_keeps _ _ (fun w hw => ?_) ?_
  refine Keeps.step (retract_keeps ..) rfl ?_; refine Keeps.step (retract_keeps ..) rfl ?_; assumption; assumption
  exact Keeps.refl _ _

end Sys2Proof.Machine
end

