-- ==== Sys2Proof/Laws/Keeps/Servo.lean ====
section
/-!
SUPPORT. What each operation of Machine/Servo.lean keeps: the mask names the register blocks (bits 0 to 63) and the parts of State (bit
64 on) that the operation may change; everything outside it stays.
-/
namespace Sys2Proof.Machine

theorem invarEnable_keeps (s : State) : Keeps 0x4 s (invarEnable s) := by
  unfold invarEnable; refine State.on_keeps _ ?_ ?_; exact rfl; exact Keeps.refl _ _

theorem execInvarEnable_keeps (s : State) : KeepsRes 0x4 s (execInvarEnable s) := by
  unfold execInvarEnable
  refine KeepsRes.next ?_; refine live_keeps _ (fun w hw => ?_) ?_; refine Keeps.step (invarEnable_keeps ..) rfl ?_; assumption
  exact Keeps.refl _ _

theorem invarDisable_keeps (s : State) : Keeps 0x868010000002000000040c s (invarDisable s) := by
  unfold invarDisable
  dsimp only; refine Keeps.step (setSource_keeps ..) rfl ?_; refine Keeps.upd_inv _ ?_ ?_ ?_; exact rfl
  (first | exact Nat.le_refl _ | exact State.bemfStart_ge _); refine State.off_keeps _ ?_ ?_; exact rfl
  refine State.set_keeps _ _ ?_ ?_; exact rfl; refine State.off_keeps _ ?_ ?_; exact rfl; exact Keeps.refl _ _

theorem execInvarDisable_keeps (s : State) : KeepsRes 0x868010000002000000040c s (execInvarDisable s) := by
  unfold execInvarDisable
  refine KeepsRes.next ?_; refine live_keeps _ (fun w hw => ?_) ?_; refine Keeps.step (invarDisable_keeps ..) rfl ?_; assumption
  exact Keeps.refl _ _

theorem holdoverExpiry_keeps (s : State) : Keeps 0x868010000002000000040c s (holdoverExpiry s) := by
  unfold holdoverExpiry
  split; refine Keeps.step (setSource_keeps ..) rfl ?_; exact Keeps.refl _ _; exact Keeps.refl _ _

theorem execHoldoverExpiry_keeps (s : State) : KeepsRes 0x868010000002000000040c s (execHoldoverExpiry s) := by
  unfold execHoldoverExpiry
  refine KeepsRes.next ?_; refine live_keeps _ (fun w hw => ?_) ?_; refine Keeps.step (holdoverExpiry_keeps ..) rfl ?_
  assumption; exact Keeps.refl _ _

theorem skewWrite_keeps (surf) (x1) (s : State) : Keeps 0x200000000000000000004 s (skewWrite surf x1 s) := by
  unfold skewWrite
  dsimp only; refine State.set_keeps _ _ ?_ ?_; rw [INV_SKEW_VALUE_blk]; exact rfl; split; refine Keeps.upd_inv _ ?_ ?_ ?_
  exact rfl; (first | exact Nat.le_refl _ | exact State.bemfStart_ge _); exact Keeps.refl _ _; exact Keeps.refl _ _

theorem execSkewWrite_keeps (surf) (x1) (s : State) : KeepsRes 0x200000000000000000004 s (execSkewWrite surf x1 s) := by
  unfold execSkewWrite
  refine KeepsRes.next ?_; refine live_keeps _ (fun w hw => ?_) ?_; refine Keeps.step (skewWrite_keeps ..) rfl ?_; assumption
  exact Keeps.refl _ _

theorem runTo_keeps (x0) (s : State) : Keeps 0x2009f802000000200144044cc s (runTo x0 s) := by
  unfold runTo
  dsimp only; refine Keeps.step (fireDue_keeps ..) rfl ?_; refine Keeps.step (advanceTo_keeps ..) rfl ?_; exact Keeps.refl _ _

theorem phaseCorrect_keeps (err) (s : State) : Keeps 0x2009f802000000200144044cc s (phaseCorrect err s) := by
  unfold phaseCorrect
  dsimp only; split; refine Keeps.upd_inv _ ?_ ?_ ?_; exact rfl; (first | exact Nat.le_refl _ | exact State.bemfStart_ge _)
  exact Keeps.refl _ _; split; refine Keeps.step (angleStep_keeps ..) rfl ?_; refine Keeps.upd_inv _ ?_ ?_ ?_; exact rfl
  (first | exact Nat.le_refl _ | exact State.bemfStart_ge _); exact Keeps.refl _ _
  refine Keeps.step (angleStep_keeps ..) rfl ?_; refine Keeps.upd_inv _ ?_ ?_ ?_; exact rfl
  (first | exact Nat.le_refl _ | exact State.bemfStart_ge _); exact Keeps.refl _ _

theorem phaseQuench_keeps (err) (s : State) : Keeps 0x8480000000020000000008 s (phaseQuench err s) := by
  unfold phaseQuench
  dsimp only; split; refine Keeps.step (quenchBoth_keeps ..) rfl ?_; refine Keeps.step (relCountWedge_keeps ..) rfl ?_
  refine Keeps.step (relCountWedge_keeps ..) rfl ?_; refine Keeps.step (setCond_keeps ..) rfl ?_
  refine Keeps.step (setCond_keeps ..) rfl ?_; exact Keeps.refl _ _; refine Keeps.step (relCountWedge_keeps ..) rfl ?_
  refine Keeps.step (relCountWedge_keeps ..) rfl ?_; refine Keeps.step (setCond_keeps ..) rfl ?_
  refine Keeps.step (setCond_keeps ..) rfl ?_; exact Keeps.refl _ _

theorem primarySync_keeps (surf) (period) (dev) (s : State) :
    Keeps 0x2009f802000000200144044cc s (primarySync surf period dev s) := by
  unfold primarySync
  dsimp only; refine Keeps.step (phaseQuench_keeps ..) rfl ?_; refine Keeps.step (phaseCorrect_keeps ..) rfl ?_
  refine State.set_keeps _ _ ?_ ?_; exact rfl; refine Keeps.upd_inv _ ?_ ?_ ?_; exact rfl
  (first | exact Nat.le_refl _ | exact State.bemfStart_ge _); exact Keeps.refl _ _

theorem crossSync_keeps (surf) (dev) (s : State) : Keeps 0x80000000020000000004 s (crossSync surf dev s) := by
  unfold crossSync
  dsimp only; split; refine Keeps.step (patTrig_keeps ..) rfl ?_; refine State.on_keeps _ ?_ ?_; exact rfl
  refine State.on_keeps _ ?_ ?_; exact rfl; refine State.on_keeps _ ?_ ?_; rw [INV_SKEW_MEAS_NEW_blk]; exact rfl
  refine State.setI_keeps _ _ ?_ ?_; rw [INV_SKEW_MEAS_VALUE_blk]; exact rfl; exact Keeps.refl _ _
  refine State.on_keeps _ ?_ ?_; exact rfl; refine State.on_keeps _ ?_ ?_; rw [INV_SKEW_MEAS_NEW_blk]; exact rfl
  refine State.setI_keeps _ _ ?_ ?_; rw [INV_SKEW_MEAS_VALUE_blk]; exact rfl; exact Keeps.refl _ _

theorem lockedSync_keeps (surf) (period) (dev) (s : State) :
    Keeps 0x2009f802000000200144044cc s (lockedSync surf period dev s) := by
  unfold lockedSync
  split; dsimp only; refine Keeps.step (primarySync_keeps ..) rfl ?_; refine State.set_keeps _ _ ?_ ?_; exact rfl
  refine Keeps.upd_inv _ ?_ ?_ ?_; exact rfl; (first | exact Nat.le_refl _ | exact State.bemfStart_ge _); exact Keeps.refl _ _
  refine Keeps.step (crossSync_keeps ..) rfl ?_; exact Keeps.refl _ _

theorem lockCount_keeps (surf) (good) (idx) (s : State) : Keeps 0x200000000000000000000 s (lockCount surf good idx s) := by
  unfold lockCount
  dsimp only; refine Keeps.step (setLock_keeps ..) rfl ?_; exact Keeps.refl _ _

theorem invSync_keeps (surf) (idx) (period) (chk) (dev) (s : State) :
    Keeps 0x2009f802000000200144044cc s (invSync surf idx period chk dev s) := by
  unfold invSync
  split; exact Keeps.refl _ _; dsimp only; split; split; split; refine Keeps.step (lockedSync_keeps ..) rfl ?_
  refine Keeps.step (lockCount_keeps ..) rfl ?_; exact Keeps.refl _ _; refine Keeps.step (lockCount_keeps ..) rfl ?_
  exact Keeps.refl _ _; split; refine Keeps.step (lockedSync_keeps ..) rfl ?_; refine Keeps.step (lockCount_keeps ..) rfl ?_
  exact Keeps.refl _ _; refine Keeps.step (lockCount_keeps ..) rfl ?_; exact Keeps.refl _ _; split; split
  refine Keeps.step (lockedSync_keeps ..) rfl ?_; refine Keeps.step (lockCount_keeps ..) rfl ?_
  refine Keeps.step (runTo_keeps ..) rfl ?_; exact Keeps.refl _ _; refine Keeps.step (lockCount_keeps ..) rfl ?_
  refine Keeps.step (runTo_keeps ..) rfl ?_; exact Keeps.refl _ _; split; refine Keeps.step (lockedSync_keeps ..) rfl ?_
  refine Keeps.step (lockCount_keeps ..) rfl ?_; refine Keeps.step (runTo_keeps ..) rfl ?_; exact Keeps.refl _ _
  refine Keeps.step (lockCount_keeps ..) rfl ?_; refine Keeps.step (runTo_keeps ..) rfl ?_; exact Keeps.refl _ _

theorem invMiss_keeps (a) (surf) (s : State) : Keeps 0x2009f802000000200144044cc s (invMiss a surf s) := by
  unfold invMiss
  split; exact Keeps.refl _ _; dsimp only; refine Keeps.step (lockCount_keeps ..) rfl ?_; split; exact Keeps.refl _ _
  refine Keeps.step (runTo_keeps ..) rfl ?_; exact Keeps.refl _ _

theorem missCount_keeps (a) (l) (s : State) : Keeps 0x400000000000000000000 s (missCount a l s) := by
  unfold missCount
  split; dsimp only; refine Keeps.step (relCountWedge_keeps ..) rfl ?_; exact Keeps.refl _ _; exact Keeps.refl _ _

theorem pesCount_keeps (a) (l) (s : State) : Keeps 0x400000000000000000000 s (pesCount a l s) := by
  unfold pesCount
  split; dsimp only; refine Keeps.step (relCountWedge_keeps ..) rfl ?_; exact Keeps.refl _ _; exact Keeps.refl _ _

theorem settleCount_keeps (a) (l) (good) (s : State) : Keeps 0x1000000000000000000000 s (settleCount a l good s) := by
  unfold settleCount
  split; refine Keeps.step (modSrv_keeps ..) rfl ?_; exact Keeps.refl _ _; exact Keeps.refl _ _

theorem samFound_keeps (a) (l) (surf) (idx) (period) (chk) (dev) (s : State) :
    Keeps 0x2009f803000000200144045cc s (samFound a l surf idx period chk dev s) := by
  unfold samFound
  dsimp only; split; split; split; refine Keeps.step (actGo_keeps ..) rfl ?_; refine Keeps.step (invSync_keeps ..) rfl ?_
  refine Keeps.step (missCount_keeps ..) rfl ?_; refine Keeps.step (setCond_keeps ..) rfl ?_; refine State.off_keeps _ ?_ ?_
  exact SRV_PES_MISS_bit rfl rfl ..; refine Keeps.step (modSrv_keeps ..) rfl ?_; refine Keeps.step (modLane_keeps ..) rfl ?_
  exact Keeps.refl _ _; refine Keeps.step (invSync_keeps ..) rfl ?_; refine Keeps.step (missCount_keeps ..) rfl ?_
  refine Keeps.step (setCond_keeps ..) rfl ?_; refine State.off_keeps _ ?_ ?_; exact SRV_PES_MISS_bit rfl rfl ..
  refine Keeps.step (modSrv_keeps ..) rfl ?_; refine Keeps.step (modLane_keeps ..) rfl ?_; exact Keeps.refl _ _; split
  refine Keeps.step (actGo_keeps ..) rfl ?_; refine Keeps.step (invSync_keeps ..) rfl ?_
  refine Keeps.step (missCount_keeps ..) rfl ?_; refine Keeps.step (setCond_keeps ..) rfl ?_; refine State.off_keeps _ ?_ ?_
  exact SRV_PES_MISS_bit rfl rfl ..; refine Keeps.step (modLane_keeps ..) rfl ?_; exact Keeps.refl _ _
  refine Keeps.step (invSync_keeps ..) rfl ?_; refine Keeps.step (missCount_keeps ..) rfl ?_
  refine Keeps.step (setCond_keeps ..) rfl ?_; refine State.off_keeps _ ?_ ?_; exact SRV_PES_MISS_bit rfl rfl ..
  refine Keeps.step (modLane_keeps ..) rfl ?_; exact Keeps.refl _ _; split; split; refine Keeps.step (actGo_keeps ..) rfl ?_
  refine Keeps.step (invSync_keeps ..) rfl ?_; refine Keeps.step (missCount_keeps ..) rfl ?_
  refine Keeps.step (setCond_keeps ..) rfl ?_; refine State.on_keeps _ ?_ ?_; exact SRV_STAT_IDX_CHK_bit rfl rfl ..
  refine State.off_keeps _ ?_ ?_; exact SRV_PES_MISS_bit rfl rfl ..; refine Keeps.step (modSrv_keeps ..) rfl ?_
  refine Keeps.step (modLane_keeps ..) rfl ?_; exact Keeps.refl _ _; refine Keeps.step (invSync_keeps ..) rfl ?_
  refine Keeps.step (missCount_keeps ..) rfl ?_; refine Keeps.step (setCond_keeps ..) rfl ?_; refine State.on_keeps _ ?_ ?_
  exact SRV_STAT_IDX_CHK_bit rfl rfl ..; refine State.off_keeps _ ?_ ?_; exact SRV_PES_MISS_bit rfl rfl ..
  refine Keeps.step (modSrv_keeps ..) rfl ?_; refine Keeps.step (modLane_keeps ..) rfl ?_; exact Keeps.refl _ _; split
  refine Keeps.step (actGo_keeps ..) rfl ?_; refine Keeps.step (invSync_keeps ..) rfl ?_
  refine Keeps.step (missCount_keeps ..) rfl ?_; refine Keeps.step (setCond_keeps ..) rfl ?_; refine State.on_keeps _ ?_ ?_
  exact SRV_STAT_IDX_CHK_bit rfl rfl ..; refine State.off_keeps _ ?_ ?_; exact SRV_PES_MISS_bit rfl rfl ..
  refine Keeps.step (modLane_keeps ..) rfl ?_; exact Keeps.refl _ _; refine Keeps.step (invSync_keeps ..) rfl ?_
  refine Keeps.step (missCount_keeps ..) rfl ?_; refine Keeps.step (setCond_keeps ..) rfl ?_; refine State.on_keeps _ ?_ ?_
  exact SRV_STAT_IDX_CHK_bit rfl rfl ..; refine State.off_keeps _ ?_ ?_; exact SRV_PES_MISS_bit rfl rfl ..
  refine Keeps.step (modLane_keeps ..) rfl ?_; exact Keeps.refl _ _

theorem samMiss_keeps (a) (l) (surf) (s : State) : Keeps 0x200bf802000000200144044cc s (samMiss a l surf s) := by
  unfold samMiss
  dsimp only; refine Keeps.step (invMiss_keeps ..) rfl ?_; split; split; split; split
  refine Keeps.step (quenchAct_keeps ..) rfl ?_; refine Keeps.step (setCond_keeps ..) rfl ?_
  refine Keeps.step (settleCount_keeps ..) rfl ?_; refine Keeps.step (pesCount_keeps ..) rfl ?_
  refine Keeps.step (missCount_keeps ..) rfl ?_; refine Keeps.step (modSrv_keeps ..) rfl ?_
  refine Keeps.step (modAct_keeps ..) rfl ?_; refine Keeps.step (modSrv_keeps ..) rfl ?_; refine State.on_keeps _ ?_ ?_
  exact SRV_PES_MISS_bit rfl rfl ..; refine Keeps.step (modLane_keeps ..) rfl ?_; exact Keeps.refl _ _
  refine Keeps.step (setCond_keeps ..) rfl ?_; refine Keeps.step (settleCount_keeps ..) rfl ?_
  refine Keeps.step (pesCount_keeps ..) rfl ?_; refine Keeps.step (missCount_keeps ..) rfl ?_
  refine Keeps.step (modSrv_keeps ..) rfl ?_; refine Keeps.step (modAct_keeps ..) rfl ?_
  refine Keeps.step (modSrv_keeps ..) rfl ?_; refine State.on_keeps _ ?_ ?_; exact SRV_PES_MISS_bit rfl rfl ..
  refine Keeps.step (modLane_keeps ..) rfl ?_; exact Keeps.refl _ _; split; refine Keeps.step (quenchAct_keeps ..) rfl ?_
  refine Keeps.step (setCond_keeps ..) rfl ?_; refine Keeps.step (settleCount_keeps ..) rfl ?_
  refine Keeps.step (pesCount_keeps ..) rfl ?_; refine Keeps.step (missCount_keeps ..) rfl ?_
  refine Keeps.step (modAct_keeps ..) rfl ?_; refine Keeps.step (modSrv_keeps ..) rfl ?_; refine State.on_keeps _ ?_ ?_
  exact SRV_PES_MISS_bit rfl rfl ..; refine Keeps.step (modLane_keeps ..) rfl ?_; exact Keeps.refl _ _
  refine Keeps.step (setCond_keeps ..) rfl ?_; refine Keeps.step (settleCount_keeps ..) rfl ?_
  refine Keeps.step (pesCount_keeps ..) rfl ?_; refine Keeps.step (missCount_keeps ..) rfl ?_
  refine Keeps.step (modAct_keeps ..) rfl ?_; refine Keeps.step (modSrv_keeps ..) rfl ?_; refine State.on_keeps _ ?_ ?_
  exact SRV_PES_MISS_bit rfl rfl ..; refine Keeps.step (modLane_keeps ..) rfl ?_; exact Keeps.refl _ _; split; split
  refine Keeps.step (quenchAct_keeps ..) rfl ?_; refine Keeps.step (setCond_keeps ..) rfl ?_
  refine Keeps.step (settleCount_keeps ..) rfl ?_; refine Keeps.step (pesCount_keeps ..) rfl ?_
  refine Keeps.step (missCount_keeps ..) rfl ?_; refine Keeps.step (modSrv_keeps ..) rfl ?_
  refine Keeps.step (modSrv_keeps ..) rfl ?_; refine State.on_keeps _ ?_ ?_; exact SRV_PES_MISS_bit rfl rfl ..
  refine Keeps.step (modLane_keeps ..) rfl ?_; exact Keeps.refl _ _; refine Keeps.step (setCond_keeps ..) rfl ?_
  refine Keeps.step (settleCount_keeps ..) rfl ?_; refine Keeps.step (pesCount_keeps ..) rfl ?_
  refine Keeps.step (missCount_keeps ..) rfl ?_; refine Keeps.step (modSrv_keeps ..) rfl ?_
  refine Keeps.step (modSrv_keeps ..) rfl ?_; refine State.on_keeps _ ?_ ?_; exact SRV_PES_MISS_bit rfl rfl ..
  refine Keeps.step (modLane_keeps ..) rfl ?_; exact Keeps.refl _ _; split; refine Keeps.step (quenchAct_keeps ..) rfl ?_
  refine Keeps.step (setCond_keeps ..) rfl ?_; refine Keeps.step (settleCount_keeps ..) rfl ?_
  refine Keeps.step (pesCount_keeps ..) rfl ?_; refine Keeps.step (missCount_keeps ..) rfl ?_
  refine Keeps.step (modSrv_keeps ..) rfl ?_; refine State.on_keeps _ ?_ ?_; exact SRV_PES_MISS_bit rfl rfl ..
  refine Keeps.step (modLane_keeps ..) rfl ?_; exact Keeps.refl _ _; refine Keeps.step (setCond_keeps ..) rfl ?_
  refine Keeps.step (settleCount_keeps ..) rfl ?_; refine Keeps.step (pesCount_keeps ..) rfl ?_
  refine Keeps.step (missCount_keeps ..) rfl ?_; refine Keeps.step (modSrv_keeps ..) rfl ?_; refine State.on_keeps _ ?_ ?_
  exact SRV_PES_MISS_bit rfl rfl ..; refine Keeps.step (modLane_keeps ..) rfl ?_; exact Keeps.refl _ _; split
  refine Keeps.step (quenchAct_keeps ..) rfl ?_; refine Keeps.step (setCond_keeps ..) rfl ?_
  refine Keeps.step (settleCount_keeps ..) rfl ?_; refine Keeps.step (pesCount_keeps ..) rfl ?_
  refine Keeps.step (missCount_keeps ..) rfl ?_; refine Keeps.step (modSrv_keeps ..) rfl ?_; refine State.on_keeps _ ?_ ?_
  exact SRV_PES_MISS_bit rfl rfl ..; refine Keeps.step (modLane_keeps ..) rfl ?_; exact Keeps.refl _ _
  refine Keeps.step (setCond_keeps ..) rfl ?_; refine Keeps.step (settleCount_keeps ..) rfl ?_
  refine Keeps.step (pesCount_keeps ..) rfl ?_; refine Keeps.step (missCount_keeps ..) rfl ?_
  refine Keeps.step (modSrv_keeps ..) rfl ?_; refine State.on_keeps _ ?_ ?_; exact SRV_PES_MISS_bit rfl rfl ..
  refine Keeps.step (modLane_keeps ..) rfl ?_; exact Keeps.refl _ _

theorem samSearch_keeps (a) (l) (mark) (chk) (idx) (period) (dev) (s : State) :
    Keeps 0x200bf803000000200144045cc s (samSearch a l mark chk idx period dev s) := by
  unfold samSearch
  split; split; split; refine Keeps.step (samFound_keeps ..) rfl ?_; exact Keeps.refl _ _
  refine Keeps.step (samMiss_keeps ..) rfl ?_; exact Keeps.refl _ _; exact Keeps.refl _ _; exact Keeps.refl _ _

theorem execSamSearch_keeps (a) (l) (mark) (chk) (idx) (period) (dev) (s : State) :
    KeepsRes 0x200bf803000000200144045cc s (execSamSearch a l mark chk idx period dev s) := by
  unfold execSamSearch
  refine KeepsRes.next ?_; refine live_keeps _ (fun w hw => ?_) ?_; refine Keeps.step (samSearch_keeps ..) rfl ?_; assumption
  exact Keeps.refl _ _

theorem acquireCheck_keeps (a) (s : State) : Keeps 0x20097803000000200100005cc s (acquireCheck a s) := by
  unfold acquireCheck
  split; split; refine Keeps.step (actGo_keeps ..) rfl ?_; refine State.set_keeps _ _ ?_ ?_; exact SRV_TGT_TARGET_bit rfl rfl ..
  exact Keeps.refl _ _; exact Keeps.refl _ _; exact Keeps.refl _ _

theorem lockAngle_keeps (surf) (idx) (s : State) : Keeps 0x2009f802000000200144044cc s (lockAngle surf idx s) := by
  unfold lockAngle
  dsimp only
  split
  · exact Keeps.upd_inv _ rfl (Nat.le_max_left _ _) (Keeps.refl _ _)
  · refine Keeps.step (phaseCorrect_keeps ..) rfl ?_; exact Keeps.refl _ _

theorem headLock_keeps (a) (l) (s : State) : Keeps 0x2009f803000000200144045cc s (headLock a l s) := by
  unfold headLock
  split; exact Keeps.refl _ _; dsimp only; split; exact Keeps.refl _ _; refine Keeps.step (acquireCheck_keeps ..) rfl ?_; split
  refine State.onBit_keeps _ _ ?_ ?_; exact rfl; exact Keeps.refl _ _; refine State.set_keeps _ _ ?_ ?_; exact rfl
  refine Keeps.upd_inv _ ?_ ?_ ?_; exact rfl; (first | exact Nat.le_refl _ | exact State.bemfStart_ge _)
  refine Keeps.step (setSource_keeps ..) rfl ?_; refine State.on_keeps _ ?_ ?_; exact rfl
  refine Keeps.step (lockAngle_keeps ..) rfl ?_; refine State.onBit_keeps _ _ ?_ ?_; exact rfl; exact Keeps.refl _ _

theorem execHeadLock_keeps (a) (l) (s : State) : KeepsRes 0x2009f803000000200144045cc s (execHeadLock a l s) := by
  unfold execHeadLock
  refine KeepsRes.next ?_; refine live_keeps _ (fun w hw => ?_) ?_; refine Keeps.step (headLock_keeps ..) rfl ?_; assumption
  exact Keeps.refl _ _

theorem headLockLoss_keeps (a) (l) (s : State) : Keeps 0x20097803000000200100005cc s (headLockLoss a l s) := by
  unfold headLockLoss
  split; exact Keeps.refl _ _; dsimp only; split; exact Keeps.refl _ _; split; refine Keeps.step (modLane_keeps ..) rfl ?_
  refine Keeps.step (unlockSurf_keeps ..) rfl ?_; exact Keeps.refl _ _; split; refine Keeps.step (modSrv_keeps ..) rfl ?_
  refine Keeps.step (modLane_keeps ..) rfl ?_; refine Keeps.step (unlockSurf_keeps ..) rfl ?_; exact Keeps.refl _ _
  refine Keeps.step (actGo_keeps ..) rfl ?_; refine Keeps.step (modLane_keeps ..) rfl ?_
  refine Keeps.step (unlockSurf_keeps ..) rfl ?_; exact Keeps.refl _ _

theorem execHeadLockLoss_keeps (a) (l) (s : State) : KeepsRes 0x20097803000000200100005cc s (execHeadLockLoss a l s) := by
  unfold execHeadLockLoss
  refine KeepsRes.next ?_; refine live_keeps _ (fun w hw => ?_) ?_; refine Keeps.step (headLockLoss_keeps ..) rfl ?_; assumption
  exact Keeps.refl _ _

theorem leadHandover_keeps (a) (s : State) : Keeps 0x10000000000000000000c0 s (leadHandover a s) := by
  unfold leadHandover
  split; refine Keeps.step (modSrv_keeps ..) rfl ?_; refine State.on_keeps _ ?_ ?_; exact SRV_STAT_LEAD_SWAP_bit rfl rfl ..
  refine State.put_keeps _ _ ?_ ?_; exact SRV_TWIN_LEAD_bit rfl rfl ..; exact Keeps.refl _ _; exact Keeps.refl _ _

theorem execLeadHandover_keeps (a) (s : State) : KeepsRes 0x10000000000000000000c0 s (execLeadHandover a s) := by
  unfold execLeadHandover
  refine KeepsRes.next ?_; refine live_keeps _ (fun w hw => ?_) ?_; refine Keeps.step (leadHandover_keeps ..) rfl ?_; assumption
  exact Keeps.refl _ _

theorem maStage_keeps (a) (l) (pes) (s : State) : Keeps 0x10000000000000000001c0 s (maStage a l pes s) := by
  unfold maStage
  split; refine State.set_keeps _ _ ?_ ?_; rw [maOut_blk]; exact rfl; exact Keeps.refl _ _; dsimp only; split; split
  refine State.on_keeps _ ?_ ?_; exact SRV_STAT_MA_SAT_bit rfl rfl ..; refine Keeps.step (modLane_keeps ..) rfl ?_
  refine State.setI_keeps _ _ ?_ ?_; rw [maOut_blk]; exact rfl; exact Keeps.refl _ _
  refine Keeps.step (modLane_keeps ..) rfl ?_; refine State.setI_keeps _ _ ?_ ?_; rw [maOut_blk]; exact rfl
  exact Keeps.refl _ _; split; refine State.on_keeps _ ?_ ?_; exact SRV_STAT_MA_SAT_bit rfl rfl ..
  refine Keeps.step (modLane_keeps ..) rfl ?_; refine State.setI_keeps _ _ ?_ ?_; rw [maOut_blk]; exact rfl
  exact Keeps.refl _ _; refine Keeps.step (modLane_keeps ..) rfl ?_; refine State.setI_keeps _ _ ?_ ?_
  rw [maOut_blk]; exact rfl; exact Keeps.refl _ _

theorem vcmStage_keeps (a) (l) (pes) (ref) (s : State) : Keeps 0x3000000000000000000000 s (vcmStage a l pes ref s) := by
  unfold vcmStage
  dsimp only; refine Keeps.step (modAct_keeps ..) rfl ?_; refine Keeps.step (modSrv_keeps ..) rfl ?_; exact Keeps.refl _ _

theorem coefExchange_keeps (a) (s : State) : Keeps 0xc0 s (coefExchange a s) := by
  unfold coefExchange
  refine State.off_keeps _ ?_ ?_; exact SRV_COEF_CTL_SWAP_bit rfl rfl ..; refine State.on_keeps _ ?_ ?_
  exact SRV_COEF_CTL_LOADED_bit rfl rfl ..; refine State.put_keeps _ _ ?_ ?_; exact SRV_COEF_CTL_ACTIVE_bit rfl rfl ..
  exact Keeps.refl _ _

theorem coefAtWord_keeps (a) (l) (s : State) : Keeps 0xc0 s (coefAtWord a l s) := by
  unfold coefAtWord
  split; refine Keeps.step (coefExchange_keeps ..) rfl ?_; exact Keeps.refl _ _; exact Keeps.refl _ _

theorem servoLoop_keeps (a) (l) (pes) (ref) (s : State) : Keeps 0x30000000000000000001c0 s (servoLoop a l pes ref s) := by
  unfold servoLoop
  dsimp only; split; split; refine Keeps.step (vcmStage_keeps ..) rfl ?_; refine Keeps.step (maStage_keeps ..) rfl ?_
  refine Keeps.step (coefAtWord_keeps ..) rfl ?_; exact Keeps.refl _ _; refine Keeps.step (maStage_keeps ..) rfl ?_
  refine Keeps.step (coefAtWord_keeps ..) rfl ?_; exact Keeps.refl _ _; refine Keeps.step (coefAtWord_keeps ..) rfl ?_
  exact Keeps.refl _ _

theorem pesQuench_keeps (a) (l) (pes) (s : State) : Keeps 0x9480000000020000000008 s (pesQuench a l pes s) := by
  unfold pesQuench
  dsimp only; split; refine Keeps.step (quenchAct_keeps ..) rfl ?_; refine Keeps.step (pesCount_keeps ..) rfl ?_
  refine Keeps.step (setCond_keeps ..) rfl ?_; refine Keeps.step (modLane_keeps ..) rfl ?_; exact Keeps.refl _ _
  refine Keeps.step (pesCount_keeps ..) rfl ?_; refine Keeps.step (setCond_keeps ..) rfl ?_
  refine Keeps.step (modLane_keeps ..) rfl ?_; exact Keeps.refl _ _

theorem wordInvalid_keeps (a) (l) (s : State) : Keeps 0x14000000000000000000c0 s (wordInvalid a l s) := by
  unfold wordInvalid
  refine Keeps.step (settleCount_keeps ..) rfl ?_; refine Keeps.step (pesCount_keeps ..) rfl ?_
  refine Keeps.step (modLane_keeps ..) rfl ?_; refine Keeps.step (coefAtWord_keeps ..) rfl ?_; refine State.off_keeps _ ?_ ?_
  exact SRV_PES_VALID_bit rfl rfl ..; exact Keeps.refl _ _

theorem trkCount_keeps (a) (l) (ok) (s : State) : Keeps 0x10000000000000000000c0 s (trkCount a l ok s) := by
  unfold trkCount
  dsimp only; split; refine Keeps.step (modLane_keeps ..) rfl ?_; exact Keeps.refl _ _; refine State.on_keeps _ ?_ ?_
  exact SRV_STAT_TRK_IMPL_bit rfl rfl ..; refine Keeps.step (modLane_keeps ..) rfl ?_; exact Keeps.refl _ _

theorem twinOfs_keeps (a) (l) (s : State) : Keeps 0xc0 s (twinOfs a l s) := by
  unfold twinOfs
  split; refine State.setI_keeps _ _ ?_ ?_; exact SRV_TWIN_OFS_OFS_bit rfl rfl ..; exact Keeps.refl _ _; exact Keeps.refl _ _

theorem positionWord_keeps (a) (l) (ba) (bb) (bc) (bd) (x6) (rro) (vel) (ref) (s : State) :
    Keeps 0x200b7803000000200100005cc s (positionWord a l ba bb bc bd x6 rro vel ref s) := by
  unfold positionWord
  dsimp only; split; exact Keeps.refl _ _; split; refine Keeps.step (wordInvalid_keeps ..) rfl ?_; exact Keeps.refl _ _; split
  refine Keeps.step (acquireCheck_keeps ..) rfl ?_; refine Keeps.step (settleCount_keeps ..) rfl ?_
  refine Keeps.step (servoLoop_keeps ..) rfl ?_; refine Keeps.step (pesQuench_keeps ..) rfl ?_
  refine Keeps.step (twinOfs_keeps ..) rfl ?_; refine State.put_keeps _ _ ?_ ?_; exact SRV_PES_VALID_bit rfl rfl ..
  refine State.set_keeps _ _ ?_ ?_; exact SRV_PES_WEDGE_bit rfl rfl ..; refine State.setI_keeps _ _ ?_ ?_
  exact SRV_PES_PES_bit rfl rfl ..; refine State.setI_keeps _ _ ?_ ?_; exact SRV_POS_POS_bit rfl rfl ..
  refine Keeps.step (trkCount_keeps ..) rfl ?_; refine Keeps.step (modLane_keeps ..) rfl ?_; exact Keeps.refl _ _
  refine Keeps.step (settleCount_keeps ..) rfl ?_; refine Keeps.step (servoLoop_keeps ..) rfl ?_
  refine Keeps.step (pesQuench_keeps ..) rfl ?_; refine Keeps.step (twinOfs_keeps ..) rfl ?_; refine State.put_keeps _ _ ?_ ?_
  exact SRV_PES_VALID_bit rfl rfl ..; refine State.set_keeps _ _ ?_ ?_; exact SRV_PES_WEDGE_bit rfl rfl ..
  refine State.setI_keeps _ _ ?_ ?_; exact SRV_PES_PES_bit rfl rfl ..; refine State.setI_keeps _ _ ?_ ?_
  exact SRV_POS_POS_bit rfl rfl ..; refine Keeps.step (trkCount_keeps ..) rfl ?_; refine Keeps.step (modLane_keeps ..) rfl ?_
  exact Keeps.refl _ _

theorem execPositionWord_keeps (a) (l) (ba) (bb) (bc) (bd) (x6) (rro) (vel) (ref) (s : State) :
    KeepsRes 0x200b7803000000200100005cc s (execPositionWord a l ba bb bc bd x6 rro vel ref s) := by
  unfold execPositionWord
  refine KeepsRes.next ?_; refine live_keeps _ (fun w hw => ?_) ?_; refine Keeps.step (positionWord_keeps ..) rfl ?_; assumption
  exact Keeps.refl _ _

theorem coefSwap_keeps (a) (s : State) : Keeps 0xc0 s (coefSwap a s) := by
  unfold coefSwap
  dsimp only; split; refine State.on_keeps _ ?_ ?_; exact SRV_COEF_CTL_SWAP_bit rfl rfl ..; exact Keeps.refl _ _
  refine Keeps.step (coefExchange_keeps ..) rfl ?_; exact Keeps.refl _ _

theorem execCoefSwap_keeps (a) (s : State) : KeepsRes 0xc0 s (execCoefSwap a s) := by
  unfold execCoefSwap
  refine KeepsRes.next ?_; refine live_keeps _ (fun w hw => ?_) ?_; refine Keeps.step (coefSwap_keeps ..) rfl ?_; assumption
  exact Keeps.refl _ _

theorem servoEnable_keeps (a) (s : State) : Keeps 0x10000000000000000000c0 s (servoEnable a s) := by
  unfold servoEnable
  split; exact Keeps.refl _ _; refine Keeps.step (modeFrame_keeps ..) rfl ?_; refine Keeps.step (paOffer_keeps ..) rfl ?_
  refine Keeps.step (modSrv_keeps ..) rfl ?_; refine State.on_keeps _ ?_ ?_; exact SRV_CFG_EN_bit rfl rfl ..
  exact Keeps.refl _ _

theorem execServoEnable_keeps (a) (s : State) : KeepsRes 0x10000000000000000000c0 s (execServoEnable a s) := by
  unfold execServoEnable
  refine KeepsRes.next ?_; refine live_keeps _ (fun w hw => ?_) ?_; refine Keeps.step (servoEnable_keeps ..) rfl ?_; assumption
  exact Keeps.refl _ _

theorem servoDisable_keeps (a) (s : State) : Keeps 0x96801000000200000004cc s (servoDisable a s) := by
  unfold servoDisable
  refine Keeps.step (laneDrop_keeps ..) rfl ?_; refine Keeps.step (laneDrop_keeps ..) rfl ?_; refine State.off_keeps _ ?_ ?_
  exact SRV_CFG_EN_bit rfl rfl ..; exact Keeps.refl _ _

theorem execServoDisable_keeps (a) (s : State) : KeepsRes 0x96801000000200000004cc s (execServoDisable a s) := by
  unfold execServoDisable
  refine KeepsRes.next ?_; refine live_keeps _ (fun w hw => ?_) ?_; refine Keeps.step (servoDisable_keeps ..) rfl ?_; assumption
  exact Keeps.refl _ _

theorem frameEffect_keeps (a) (f) (data) (s : State) : Keeps 0xb6811000000200000044cc s (frameEffect a f data s) := by
  unfold frameEffect
  split; dsimp only; refine Keeps.step (patTrig_keeps ..) rfl ?_; refine State.on_keeps _ ?_ ?_
  exact SRV_STAT_PA_FAULT_bit rfl rfl ..; refine State.set_keeps _ _ ?_ ?_; exact SRV_PA_FAULT_CAUSE_bit rfl rfl ..
  exact Keeps.refl _ _; refine Keeps.step (modSrv_keeps ..) rfl ?_; exact Keeps.refl _ _
  refine Keeps.step (modLane_keeps ..) rfl ?_; refine Keeps.step (laneDrop_keeps ..) rfl ?_; exact Keeps.refl _ _; split
  refine Keeps.step (modAct_keeps ..) rfl ?_; exact Keeps.refl _ _; exact Keeps.refl _ _; exact Keeps.refl _ _
  exact Keeps.refl _ _; dsimp only; split; refine State.set_keeps _ _ ?_ ?_; exact SRV_PA_RESP_DATA_bit rfl rfl ..
  refine State.on_keeps _ ?_ ?_; exact SRV_PA_RESP_DONE_bit rfl rfl ..; exact Keeps.refl _ _; split
  refine Keeps.upd_pins _ ?_ ?_; exact rfl; refine State.on_keeps _ ?_ ?_; exact SRV_PA_RESP_DONE_bit rfl rfl ..
  exact Keeps.refl _ _; refine State.on_keeps _ ?_ ?_; exact SRV_PA_RESP_DONE_bit rfl rfl ..; exact Keeps.refl _ _; split
  refine State.off_keeps _ ?_ ?_; rw [TPR_SEL_SEND_blk]; exact rfl; refine State.onBit_keeps _ _ ?_ ?_; exact rfl
  exact Keeps.refl _ _; exact Keeps.refl _ _

theorem preampFrameDone_keeps (a) (data) (s : State) : Keeps 0xb6811000000200000044cc s (preampFrameDone a data s) := by
  unfold preampFrameDone
  dsimp only; split; refine Keeps.step (framesSettle_keeps ..) rfl ?_; exact Keeps.refl _ _
  refine Keeps.step (framesSettle_keeps ..) rfl ?_; refine Keeps.step (paRefill_keeps ..) rfl ?_
  refine Keeps.step (frameEffect_keeps ..) rfl ?_; refine Keeps.step (modSrv_keeps ..) rfl ?_
  refine Keeps.step (framesSettle_keeps ..) rfl ?_; exact Keeps.refl _ _

theorem execPreampFrameDone_keeps (a) (data) (s : State) : KeepsRes 0xb6811000000200000044cc s (execPreampFrameDone a data s) := by
  unfold execPreampFrameDone
  refine KeepsRes.next ?_; refine live_keeps _ (fun w hw => ?_) ?_; refine Keeps.step (preampFrameDone_keeps ..) rfl ?_
  assumption; exact Keeps.refl _ _

theorem paCmdGo_keeps (a) (x1) (s : State) : Keeps 0x10000000000000000000c0 s (paCmdGo a x1 s) := by
  unfold paCmdGo
  split; exact Keeps.refl _ _; dsimp only; refine Keeps.step (paOffer_keeps ..) rfl ?_; refine State.on_keeps _ ?_ ?_
  exact SRV_PA_CMD_GO_bit rfl rfl ..; refine State.set_keeps _ _ ?_ ?_; exact SRV_PA_CMD_DATA_bit rfl rfl ..
  refine State.set_keeps _ _ ?_ ?_; exact SRV_PA_CMD_ADDR_bit rfl rfl ..; refine State.set_keeps _ _ ?_ ?_
  exact SRV_PA_CMD_RD_bit rfl rfl ..; exact Keeps.refl _ _

theorem execPaCmdGo_keeps (a) (x1) (s : State) : KeepsRes 0x10000000000000000000c0 s (execPaCmdGo a x1 s) := by
  unfold execPaCmdGo
  refine KeepsRes.next ?_; refine live_keeps _ (fun w hw => ?_) ?_; refine Keeps.step (paCmdGo_keeps ..) rfl ?_; assumption
  exact Keeps.refl _ _

theorem selectLane_keeps (a) (l) (x2) (clash) (s : State) : Keeps 0x10000000000000000000c0 s (selectLane a l x2 clash s) := by
  unfold selectLane
  split; exact Keeps.refl _ _; split; refine State.on_keeps _ ?_ ?_; exact SRV_STAT_HS_REFUSED_bit rfl rfl ..
  exact Keeps.refl _ _; dsimp only; refine Keeps.step (paOffer_keeps ..) rfl ?_; refine State.set_keeps _ _ ?_ ?_
  exact hselFld_bit rfl rfl ..; exact Keeps.refl _ _

theorem headSelect_keeps (a) (x1) (s : State) : Keeps 0x10000000000000000000c0 s (headSelect a x1 s) := by
  unfold headSelect
  dsimp only; refine Keeps.step (selectLane_keeps ..) rfl ?_; refine Keeps.step (selectLane_keeps ..) rfl ?_
  exact Keeps.refl _ _

theorem execHeadSelect_keeps (a) (x1) (s : State) : KeepsRes 0x10000000000000000000c0 s (execHeadSelect a x1 s) := by
  unfold execHeadSelect
  refine KeepsRes.next ?_; refine live_keeps _ (fun w hw => ?_) ?_; refine Keeps.step (headSelect_keeps ..) rfl ?_; assumption
  exact Keeps.refl _ _

theorem execHsSettleDone_keeps (a) (l) (s : State) : KeepsRes 0x1000000000000000000000 s (execHsSettleDone a l s) := by
  unfold execHsSettleDone
  refine KeepsRes.next ?_; refine live_keeps _ (fun w hw => ?_) ?_; refine Keeps.step (modLane_keeps ..) rfl ?_; assumption
  exact Keeps.refl _ _

theorem preampFault_keeps (a) (s : State) : Keeps 0x94810000000200000000c8 s (preampFault a s) := by
  unfold preampFault
  dsimp only; refine Keeps.step (paOffer_keeps ..) rfl ?_; refine Keeps.step (quenchAct_keeps ..) rfl ?_
  refine Keeps.upd_pins _ ?_ ?_; exact rfl; exact Keeps.refl _ _

theorem execPreampFault_keeps (a) (s : State) : KeepsRes 0x94810000000200000000c8 s (execPreampFault a s) := by
  unfold execPreampFault
  refine KeepsRes.next ?_; refine live_keeps _ (fun w hw => ?_) ?_; refine Keeps.step (preampFault_keeps ..) rfl ?_; assumption
  exact Keeps.refl _ _

theorem shockShow_keeps (a) (x) (y) (z) (r) (s : State) : Keeps 0xc0 s (shockShow a x y z r s) := by
  unfold shockShow
  refine State.setI_keeps _ _ ?_ ?_; exact SRV_SHOCK_NOW_ROT_bit rfl rfl ..; refine State.setI_keeps _ _ ?_ ?_
  exact SRV_SHOCK_NOW_Z_bit rfl rfl ..; refine State.setI_keeps _ _ ?_ ?_; exact SRV_SHOCK_NOW_Y_bit rfl rfl ..
  refine State.setI_keeps _ _ ?_ ?_; exact SRV_SHOCK_NOW_X_bit rfl rfl ..; exact Keeps.refl _ _

theorem shockSample_keeps (x) (y) (z) (r) (s : State) : Keeps 0xc6800000000200000000c8 s (shockSample x y z r s) := by
  unfold shockSample
  dsimp only; split; refine Keeps.step (quenchBoth_keeps ..) rfl ?_; refine Keeps.step (setCond_keeps ..) rfl ?_
  refine Keeps.step (setCond_keeps ..) rfl ?_; refine Keeps.upd_inv_shock _ _ ?_ ?_ ?_ ?_; exact rfl; exact rfl
  (first | exact Nat.le_refl _ | exact State.bemfStart_ge _); refine Keeps.step (shockShow_keeps ..) rfl ?_
  refine Keeps.step (shockShow_keeps ..) rfl ?_; exact Keeps.refl _ _; refine Keeps.step (setCond_keeps ..) rfl ?_
  refine Keeps.step (setCond_keeps ..) rfl ?_; refine Keeps.upd_inv_shock _ _ ?_ ?_ ?_ ?_; exact rfl; exact rfl
  (first | exact Nat.le_refl _ | exact State.bemfStart_ge _); refine Keeps.step (shockShow_keeps ..) rfl ?_
  refine Keeps.step (shockShow_keeps ..) rfl ?_; exact Keeps.refl _ _

theorem execShockSample_keeps (x) (y) (z) (r) (s : State) : KeepsRes 0xc6800000000200000000c8 s (execShockSample x y z r s) := by
  unfold execShockSample
  refine KeepsRes.next ?_; refine live_keeps _ (fun w hw => ?_) ?_; refine Keeps.step (shockSample_keeps ..) rfl ?_; assumption
  exact Keeps.refl _ _

theorem freefall_keeps (a) (s : State) : Keeps 0x200f7803000000200100005cc s (freefall a s) := by
  unfold freefall
  split; dsimp only; refine Keeps.step (patTrig_keeps ..) rfl ?_; refine State.on_keeps _ ?_ ?_
  exact SRV_STAT_FREEFALL_bit rfl rfl ..; refine State.on_keeps _ ?_ ?_; exact SRV_STAT_FREEFALL_bit rfl rfl ..; split; split
  refine Keeps.step (unloadUp_keeps ..) rfl ?_; refine Keeps.step (unloadUp_keeps ..) rfl ?_
  refine Keeps.step (quenchReq_keeps ..) rfl ?_; refine Keeps.step (quenchReq_keeps ..) rfl ?_; refine Keeps.upd_shock _ ?_ ?_
  exact rfl; exact Keeps.refl _ _; refine Keeps.step (unloadUp_keeps ..) rfl ?_; refine Keeps.step (quenchReq_keeps ..) rfl ?_
  refine Keeps.step (quenchReq_keeps ..) rfl ?_; refine Keeps.upd_shock _ ?_ ?_; exact rfl; exact Keeps.refl _ _; split
  refine Keeps.step (unloadUp_keeps ..) rfl ?_; refine Keeps.step (quenchReq_keeps ..) rfl ?_
  refine Keeps.step (quenchReq_keeps ..) rfl ?_; refine Keeps.upd_shock _ ?_ ?_; exact rfl; exact Keeps.refl _ _
  refine Keeps.step (quenchReq_keeps ..) rfl ?_; refine Keeps.step (quenchReq_keeps ..) rfl ?_; refine Keeps.upd_shock _ ?_ ?_
  exact rfl; exact Keeps.refl _ _; exact Keeps.refl _ _

theorem execFreefallDetect_keeps (a) (s : State) : KeepsRes 0x200f7803000000200100005cc s (execFreefallDetect a s) := by
  unfold execFreefallDetect
  refine KeepsRes.next ?_; refine live_keeps _ (fun w hw => ?_) ?_; refine Keeps.step (freefall_keeps ..) rfl ?_; assumption
  exact Keeps.refl _ _

theorem seekAsk_keeps (a) (p) (s : State) : Keeps 0x20011002000000000100000c0 s (seekAsk a p s) := by
  unfold seekAsk
  dsimp only; refine Keeps.step (bulRequest_keeps ..) rfl ?_; refine Keeps.step (modSrv_keeps ..) rfl ?_
  refine State.set_keeps _ _ ?_ ?_; exact SRV_STAT_SEEK_STATE_bit rfl rfl ..; exact Keeps.refl _ _

theorem seekBegin_keeps (a) (p) (s : State) : Keeps 0x20011002000000000100000c0 s (seekBegin a p s) := by
  unfold seekBegin
  split; refine Keeps.step (modSrv_keeps ..) rfl ?_; refine State.set_keeps _ _ ?_ ?_; exact SRV_STAT_SEEK_STATE_bit rfl rfl ..
  exact Keeps.refl _ _; refine Keeps.step (seekAsk_keeps ..) rfl ?_; exact Keeps.refl _ _

theorem seekGo_keeps (a) (x1) (s : State) : Keeps 0x20011002000000000100000c0 s (seekGo a x1 s) := by
  unfold seekGo
  split; exact Keeps.refl _ _; dsimp only; split; refine State.on_keeps _ ?_ ?_; exact SRV_STAT_SEEK_REFUSED_bit rfl rfl ..
  refine State.set_keeps _ _ ?_ ?_; exact SRV_SEEK_GRANT_WAIT_bit rfl rfl ..; refine State.set_keeps _ _ ?_ ?_
  exact SRV_SEEK_PROFILE_bit rfl rfl ..; exact Keeps.refl _ _; refine Keeps.step (seekBegin_keeps ..) rfl ?_
  refine Keeps.step (modSrv_keeps ..) rfl ?_; refine State.on_keeps _ ?_ ?_; exact SRV_SEEK_GO_bit rfl rfl ..
  refine State.set_keeps _ _ ?_ ?_; exact SRV_SEEK_GRANT_WAIT_bit rfl rfl ..; refine State.set_keeps _ _ ?_ ?_
  exact SRV_SEEK_PROFILE_bit rfl rfl ..; exact Keeps.refl _ _

theorem execSeekGo_keeps (a) (x1) (s : State) : KeepsRes 0x20011002000000000100000c0 s (execSeekGo a x1 s) := by
  unfold execSeekGo
  refine KeepsRes.next ?_; refine live_keeps _ (fun w hw => ?_) ?_; refine Keeps.step (seekGo_keeps ..) rfl ?_; assumption
  exact Keeps.refl _ _

theorem seekGrantTimeout_keeps (a) (s : State) : Keeps 0x20011002000000000100000c0 s (seekGrantTimeout a s) := by
  unfold seekGrantTimeout
  split; refine Keeps.step (seekBegin_keeps ..) rfl ?_; refine Keeps.step (bulRelease_keeps ..) rfl ?_
  refine State.on_keeps _ ?_ ?_; exact SRV_STAT_GRANT_FALLBACK_bit rfl rfl ..; exact Keeps.refl _ _; exact Keeps.refl _ _

theorem execSeekGrantTimeout_keeps (a) (s : State) : KeepsRes 0x20011002000000000100000c0 s (execSeekGrantTimeout a s) := by
  unfold execSeekGrantTimeout
  refine KeepsRes.next ?_; refine live_keeps _ (fun w hw => ?_) ?_; refine Keeps.step (seekGrantTimeout_keeps ..) rfl ?_
  assumption; exact Keeps.refl _ _

theorem trajectoryEnd_keeps (a) (s : State) : Keeps 0x10000000000000000000c0 s (trajectoryEnd a s) := by
  unfold trajectoryEnd
  split; refine Keeps.step (modSrv_keeps ..) rfl ?_; refine State.set_keeps _ _ ?_ ?_; exact SRV_STAT_SEEK_STATE_bit rfl rfl ..
  exact Keeps.refl _ _; exact Keeps.refl _ _

theorem execTrajectoryEnd_keeps (a) (s : State) : KeepsRes 0x10000000000000000000c0 s (execTrajectoryEnd a s) := by
  unfold execTrajectoryEnd
  refine KeepsRes.next ?_; refine live_keeps _ (fun w hw => ?_) ?_; refine Keeps.step (trajectoryEnd_keeps ..) rfl ?_
  assumption; exact Keeps.refl _ _

theorem settleDone_keeps (a) (s : State) : Keeps 0x20001002000000000100000c0 s (settleDone a s) := by
  unfold settleDone
  split; dsimp only; refine Keeps.step (bulRelease_keeps ..) rfl ?_; refine State.set_keeps _ _ ?_ ?_
  exact SRV_SEEK_TIME_WEDGES_bit rfl rfl ..; refine State.on_keeps _ ?_ ?_; exact SRV_STAT_SEEK_DONE_bit rfl rfl ..
  refine State.off_keeps _ ?_ ?_; exact SRV_SEEK_GO_bit rfl rfl ..; refine State.set_keeps _ _ ?_ ?_
  exact SRV_STAT_SEEK_STATE_bit rfl rfl ..; exact Keeps.refl _ _; exact Keeps.refl _ _

theorem execSeekSettleDone_keeps (a) (s : State) : KeepsRes 0x20001002000000000100000c0 s (execSeekSettleDone a s) := by
  unfold execSeekSettleDone
  refine KeepsRes.next ?_; refine live_keeps _ (fun w hw => ?_) ?_; refine Keeps.step (settleDone_keeps ..) rfl ?_; assumption
  exact Keeps.refl _ _

theorem settleTimeout_keeps (a) (s : State) : Keeps 0x20001802000000200100000c0 s (settleTimeout a s) := by
  unfold settleTimeout
  split; refine Keeps.step (seekFail_keeps ..) rfl ?_; exact Keeps.refl _ _; exact Keeps.refl _ _

theorem execSeekSettleTimeout_keeps (a) (s : State) : KeepsRes 0x20001802000000200100000c0 s (execSeekSettleTimeout a s) := by
  unfold execSeekSettleTimeout
  refine KeepsRes.next ?_; refine live_keeps _ (fun w hw => ?_) ?_; refine Keeps.step (settleTimeout_keeps ..) rfl ?_
  assumption; exact Keeps.refl _ _

end Sys2Proof.Machine
end

