-- ==== Sys2Proof/Laws/Keeps/Bullion.lean ====
section
/-!
SUPPORT. What each operation of Machine/Bullion.lean keeps: the mask names the register blocks (bits 0 to 63) and the parts of State (bit
64 on) that the operation may change; everything outside it stays.
-/
namespace Sys2Proof.Machine

theorem elapseTo_keeps (x0) (s : State) : Keeps 0x2009f802000000200144044cc s (elapseTo x0 s) := by
  unfold elapseTo
  split; exact Keeps.refl _ _; split; refine Keeps.step (wallTicks_keeps ..) rfl ?_; exact Keeps.refl _ _
  refine Keeps.step (runTo_keeps ..) rfl ?_; exact Keeps.refl _ _

theorem spinEnd_keeps (k) (s : State) : Keeps 0x20009802000000200100000d0 s (spinEnd k s) := by
  unfold spinEnd
  split; refine Keeps.step (permitChange_keeps ..) rfl ?_; exact Keeps.refl _ _; exact Keeps.refl _ _

theorem slotRelease_keeps (k) (s : State) : Keeps 0x20009802000000200100000d0 s (slotRelease k s) := by
  unfold slotRelease
  split; refine Keeps.step (spinEnd_keeps ..) rfl ?_; refine Keeps.step (bulRelease_keeps ..) rfl ?_; exact Keeps.refl _ _
  refine Keeps.step (bulRelease_keeps ..) rfl ?_; exact Keeps.refl _ _

theorem permitCommit_keeps (r) (w1) (s : State) : Keeps 0x20009802000000200100000d0 s (permitCommit r w1 s) := by
  unfold permitCommit
  dsimp only; refine State.on_keeps _ ?_ ?_; rw [Fld.blk_of]; exact rfl; refine State.set_keeps _ _ ?_ ?_
  rw [Fld.blk_of]; exact rfl; split; split; dsimp only; refine State.set_keeps _ _ ?_ ?_; rw [Fld.blk_of]; exact rfl
  refine State.set_keeps _ _ ?_ ?_; rw [Fld.blk_of]; exact rfl; exact Keeps.refl _ _; split; dsimp only
  refine Keeps.step (slotRelease_keeps ..) rfl ?_; refine State.set_keeps _ _ ?_ ?_; rw [Fld.blk_of]; exact rfl
  refine State.set_keeps _ _ ?_ ?_; rw [Fld.blk_of]; exact rfl; exact Keeps.refl _ _; split; dsimp only
  refine State.set_keeps _ _ ?_ ?_; rw [Fld.blk_of]; exact rfl; refine State.set_keeps _ _ ?_ ?_; rw [Fld.blk_of]; exact rfl
  exact Keeps.refl _ _; refine Keeps.step (bulRequest_keeps ..) rfl ?_; refine State.set_keeps _ _ ?_ ?_
  rw [Fld.blk_of]; exact rfl; refine State.set_keeps _ _ ?_ ?_; rw [Fld.blk_of]; exact rfl; exact Keeps.refl _ _; dsimp only
  refine State.set_keeps _ _ ?_ ?_; rw [Fld.blk_of]; exact rfl; refine State.set_keeps _ _ ?_ ?_; rw [Fld.blk_of]; exact rfl
  exact Keeps.refl _ _

theorem execPermitRequest_keeps (r) (w1) (s : State) : KeepsRes 0x20009802000000200100000d0 s (execPermitRequest r w1 s) := by
  unfold execPermitRequest
  refine KeepsRes.next ?_; refine live_keeps _ (fun w hw => ?_) ?_; refine Keeps.step (permitCommit_keeps ..) rfl ?_; assumption
  exact Keeps.refl _ _

theorem permitRelease_keeps (r) (k) (s : State) : Keeps 0x20009802000000200100000d0 s (permitRelease r k s) := by
  unfold permitRelease
  refine Keeps.step (permitCommit_keeps ..) rfl ?_; refine State.set_keeps _ _ ?_ ?_; rw [Fld.blk_of]; exact rfl
  refine State.on_keeps _ ?_ ?_; rw [Fld.blk_of]; exact rfl; exact Keeps.refl _ _

theorem execPermitRelease_keeps (r) (k) (s : State) : KeepsRes 0x20009802000000200100000d0 s (execPermitRelease r k s) := by
  unfold execPermitRelease
  refine KeepsRes.next ?_; refine live_keeps _ (fun w hw => ?_) ?_; refine Keeps.step (permitRelease_keeps ..) rfl ?_
  assumption; exact Keeps.refl _ _

theorem requestDeadline_keeps (k) (s : State) : Keeps 0x2009f802000000200144044cc s (requestDeadline k s) := by
  unfold requestDeadline
  split; exact Keeps.refl _ _; split; exact Keeps.refl _ _; dsimp only; refine Keeps.step (patTrig_keeps ..) rfl ?_
  refine State.on_keeps _ ?_ ?_; exact rfl; refine Keeps.step (setWait_keeps ..) rfl ?_
  refine Keeps.step (elapseTo_keeps ..) rfl ?_; exact Keeps.refl _ _

theorem execRequestDeadline_keeps (k) (s : State) : KeepsRes 0x2009f802000000200144044cc s (execRequestDeadline k s) := by
  unfold execRequestDeadline
  refine KeepsRes.next ?_; refine live_keeps _ (fun w hw => ?_) ?_; refine Keeps.step (requestDeadline_keeps ..) rfl ?_
  assumption; exact Keeps.refl _ _

theorem onLapse_keeps (k) (s : State) : Keeps 0x20019802000000200100000d0 s (onLapse k s) := by
  unfold onLapse
  split; refine Keeps.step (permitChange_keeps ..) rfl ?_; exact Keeps.refl _ _; refine Keeps.step (modSrv_keeps ..) rfl ?_
  exact Keeps.refl _ _; refine Keeps.step (modSrv_keeps ..) rfl ?_; exact Keeps.refl _ _; exact Keeps.refl _ _

theorem grantExpiry_keeps (k) (s : State) : Keeps 0x2009f802000000200144044dc s (grantExpiry k s) := by
  unfold grantExpiry
  split; exact Keeps.refl _ _; dsimp only; refine Keeps.step (bulWalk_keeps ..) rfl ?_
  refine Keeps.step (onLapse_keeps ..) rfl ?_; refine State.on_keeps _ ?_ ?_; exact rfl
  refine Keeps.step (setGrant_keeps ..) rfl ?_; refine Keeps.step (elapseTo_keeps ..) rfl ?_; exact Keeps.refl _ _

theorem execGrantExpiry_keeps (k) (s : State) : KeepsRes 0x2009f802000000200144044dc s (execGrantExpiry k s) := by
  unfold execGrantExpiry
  refine KeepsRes.next ?_; refine live_keeps _ (fun w hw => ?_) ?_; refine Keeps.step (grantExpiry_keeps ..) rfl ?_; assumption
  exact Keeps.refl _ _

theorem permitIdleRelease_keeps (k) (s : State) : Keeps 0x20001002000000000100000c0 s (permitIdleRelease k s) := by
  unfold permitIdleRelease
  refine State.when_keeps _ _ (fun w hw => ?_) ?_; refine Keeps.step (bulRelease_keeps ..) rfl ?_; assumption
  exact Keeps.refl _ _

theorem execPermitIdleRelease_keeps (k) (s : State) : KeepsRes 0x20001002000000000100000c0 s (execPermitIdleRelease k s) := by
  unfold execPermitIdleRelease
  refine KeepsRes.next ?_; refine live_keeps _ (fun w hw => ?_) ?_; refine Keeps.step (permitIdleRelease_keeps ..) rfl ?_
  assumption; exact Keeps.refl _ _

theorem permitRenew_keeps (k) (s : State) : Keeps 0x20001002000000000100000c0 s (permitRenew k s) := by
  unfold permitRenew
  split; split; refine Keeps.step (bulRequest_keeps ..) rfl ?_; exact Keeps.refl _ _; exact Keeps.refl _ _; exact Keeps.refl _ _

theorem leaseWrite_keeps (k) (w0) (s : State) : Keeps 0x20001002000000000100000c0 s (leaseWrite k w0 s) := by
  unfold leaseWrite
  dsimp only; split; refine Keeps.step (bulWalk_keeps ..) rfl ?_; refine State.set_keeps _ _ ?_ ?_
  rw [BUL_LEASE_W0_MA_blk]; exact rfl; refine State.set_keeps _ _ ?_ ?_; rw [BUL_LEASE_W0_PEER_blk]; exact rfl
  refine State.put_keeps _ _ ?_ ?_; rw [BUL_LEASE_W0_OUT_blk]; exact rfl; refine State.put_keeps _ _ ?_ ?_
  rw [BUL_LEASE_W0_VALID_blk]; exact rfl; exact Keeps.refl _ _; refine State.set_keeps _ _ ?_ ?_
  rw [BUL_LEASE_W0_MA_blk]; exact rfl; refine State.set_keeps _ _ ?_ ?_; rw [BUL_LEASE_W0_PEER_blk]; exact rfl
  refine State.put_keeps _ _ ?_ ?_; rw [BUL_LEASE_W0_OUT_blk]; exact rfl; refine State.put_keeps _ _ ?_ ?_
  rw [BUL_LEASE_W0_VALID_blk]; exact rfl; exact Keeps.refl _ _

theorem execLeaseWrite_keeps (k) (w0) (w1) (s : State) : KeepsRes 0x20001002000000000100000c0 s (execLeaseWrite k w0 w1 s) := by
  unfold execLeaseWrite
  refine KeepsRes.next ?_; refine live_keeps _ (fun w hw => ?_) ?_; refine Keeps.step (leaseWrite_keeps ..) rfl ?_
  refine State.set_keeps _ _ ?_ ?_; rw [BUL_LEASE_W1_END_blk]; exact rfl; assumption; exact Keeps.refl _ _

theorem leaseEnd_keeps (k) (s : State) : Keeps 0x20003002000000000100000c0 s (leaseEnd k s) := by
  unfold leaseEnd
  split; dsimp only; split; refine Keeps.step (bulWalk_keeps ..) rfl ?_; refine Keeps.upd_inv _ ?_ ?_ ?_; exact rfl
  (first | exact Nat.le_refl _ | exact State.bemfStart_ge _); refine State.on_keeps _ ?_ ?_; exact rfl
  refine State.off_keeps _ ?_ ?_; rw [BUL_LEASE_W0_VALID_blk]; exact rfl; exact Keeps.refl _ _; refine Keeps.upd_inv _ ?_ ?_ ?_
  exact rfl; (first | exact Nat.le_refl _ | exact State.bemfStart_ge _); refine State.on_keeps _ ?_ ?_; exact rfl
  refine State.off_keeps _ ?_ ?_; rw [BUL_LEASE_W0_VALID_blk]; exact rfl; exact Keeps.refl _ _; exact Keeps.refl _ _

theorem execLeaseEnd_keeps (k) (s : State) : KeepsRes 0x20003002000000000100000c0 s (execLeaseEnd k s) := by
  unfold execLeaseEnd
  refine KeepsRes.next ?_; refine live_keeps _ (fun w hw => ?_) ?_; refine Keeps.step (leaseEnd_keeps ..) rfl ?_; assumption
  exact Keeps.refl _ _

theorem budgetWrite_keeps {m : Nat} {s t : State} (hm : 0x20001002000000000100000c0 &&& m = 0x20001002000000000100000c0) (h : Keeps m s t) (f) (x1) (hf : m.testBit f.blk = true) :
    Keeps m s (budgetWrite f x1 t) := by
  unfold budgetWrite
  dsimp only; split; refine Keeps.step' hm (bulWalk_keeps ..) rfl ?_; refine State.set_keeps _ _ ?_ ?_; assumption; assumption
  refine State.set_keeps _ _ ?_ ?_; assumption; assumption

theorem revokeAll_keeps (s : State) : Keeps 0x20019802000000200100000d0 s (revokeAll s) := by
  unfold revokeAll
  refine Keeps.foldl (fun w e hw => ?_) ?_; split; refine Keeps.step (onLapse_keeps ..) rfl ?_
  refine Keeps.step (setGrant_keeps ..) rfl ?_; assumption; assumption; exact Keeps.refl _ _

theorem emergency_keeps (causes) (s : State) : Keeps 0x2009d802000000200100000d8 s (emergency causes s) := by
  unfold emergency
  dsimp only; refine Keeps.step (patTrig_keeps ..) rfl ?_; split; refine State.on_keeps _ ?_ ?_; exact rfl
  refine Keeps.step (revokeAll_keeps ..) rfl ?_; refine Keeps.step (quenchBoth_keeps ..) rfl ?_; refine State.on_keeps _ ?_ ?_
  exact rfl; exact Keeps.refl _ _; refine Keeps.step (revokeAll_keeps ..) rfl ?_; refine Keeps.step (quenchBoth_keeps ..) rfl ?_
  refine State.on_keeps _ ?_ ?_; exact rfl; exact Keeps.refl _ _

theorem execEmergencyWrite_keeps (s : State) : KeepsRes 0x2009d802000000200100000d8 s (execEmergencyWrite s) := by
  unfold execEmergencyWrite
  refine KeepsRes.next ?_; refine live_keeps _ (fun w hw => ?_) ?_; refine Keeps.step (emergency_keeps ..) rfl ?_; assumption
  exact Keeps.refl _ _

theorem emergencyClear_keeps (s : State) : Keeps 0x20001002000000000100000c0 s (emergencyClear s) := by
  unfold emergencyClear
  split; exact Keeps.refl _ _; refine Keeps.step (bulWalk_keeps ..) rfl ?_; refine State.off_keeps _ ?_ ?_; exact rfl
  exact Keeps.refl _ _

theorem execEmergencyClear_keeps (s : State) : KeepsRes 0x20001002000000000100000c0 s (execEmergencyClear s) := by
  unfold execEmergencyClear
  refine KeepsRes.next ?_; refine live_keeps _ (fun w hw => ?_) ?_; refine Keeps.step (emergencyClear_keeps ..) rfl ?_
  assumption; exact Keeps.refl _ _

theorem overCurrent_keeps (present) (s : State) : Keeps 0x2009d842000000200100000d8 s (overCurrent present s) := by
  unfold overCurrent
  dsimp only; split; refine Keeps.step (emergency_keeps ..) rfl ?_; refine Keeps.upd_pwr _ ?_ ?_; exact rfl
  exact Keeps.refl _ _; refine Keeps.upd_pwr _ ?_ ?_; exact rfl; exact Keeps.refl _ _

theorem execOverCurrent_keeps (present) (s : State) : KeepsRes 0x2009d842000000200100000d8 s (execOverCurrent present s) := by
  unfold execOverCurrent
  refine KeepsRes.next ?_; refine live_keeps _ (fun w hw => ?_) ?_; refine Keeps.step (overCurrent_keeps ..) rfl ?_; assumption
  exact Keeps.refl _ _

end Sys2Proof.Machine
end

