-- ==== Sys2Proof/Laws/Keeps/Clock.lean ====
section
/-!
SUPPORT. What each operation of Machine/Clock.lean keeps: the mask names the register blocks (bits 0 to 63) and the parts of State (bit
64 on) that the operation may change; everything outside it stays.
-/
namespace Sys2Proof.Machine

theorem modClk_keeps (f) (s : State) : Keeps 0x10000000000000000000 s (modClk f s) := by
  unfold modClk; refine Keeps.upd_clk _ ?_ ?_; exact rfl; exact Keeps.refl _ _

theorem clkPat_keeps (i) (s : State) : Keeps 0x80000000020000000000 s (clkPat i s) := by
  unfold clkPat; refine Keeps.step (patTrig_keeps ..) rfl ?_; exact Keeps.refl _ _

theorem sourceStable_keeps (k) (s : State) : Keeps 0x10000000000040000004 s (sourceStable k s) := by
  unfold sourceStable
  dsimp only; split; refine Keeps.step (modClk_keeps ..) rfl ?_; refine State.off_keeps _ ?_ ?_; exact rfl
  refine State.set_keeps _ _ ?_ ?_; rw [CLK_MUX_SEL_blk]; exact rfl; refine Keeps.step (modClk_keeps ..) rfl ?_
  refine State.onBit_keeps _ _ ?_ ?_; exact rfl; refine State.onBit_keeps _ _ ?_ ?_; exact rfl; exact Keeps.refl _ _
  refine Keeps.step (modClk_keeps ..) rfl ?_; refine State.onBit_keeps _ _ ?_ ?_; exact rfl; refine State.onBit_keeps _ _ ?_ ?_
  exact rfl; exact Keeps.refl _ _

theorem execSourceStable_keeps (k) (s : State) : KeepsRes 0x10400000000040000004 s (execSourceStable k s) := by
  unfold execSourceStable
  refine KeepsRes.next ?_; split; refine Keeps.step (sourceStable_keeps ..) rfl ?_; exact Keeps.refl _ _; split
  refine Keeps.upd_die _ ?_ ?_; exact rfl; exact Keeps.refl _ _; exact Keeps.refl _ _

theorem muxLand_keeps (d) (s : State) : Keeps 0x10000000000040000000 s (muxLand d s) := by
  unfold muxLand
  refine Keeps.step (modClk_keeps ..) rfl ?_; refine State.off_keeps _ ?_ ?_; rw [CLK_MUX_BUSY_blk]; exact rfl
  exact Keeps.refl _ _

theorem muxWrite_keeps (d) (sel) (s : State) : Keeps 0x10000000000040000000 s (muxWrite d sel s) := by
  unfold muxWrite
  dsimp only; split; refine State.on_keeps _ ?_ ?_; exact rfl; exact Keeps.refl _ _; split; refine State.on_keeps _ ?_ ?_
  rw [CLK_MUX_BUSY_blk]; exact rfl; refine State.set_keeps _ _ ?_ ?_; rw [CLK_MUX_SEL_blk]; exact rfl; exact Keeps.refl _ _
  refine Keeps.step (modClk_keeps ..) rfl ?_; refine State.on_keeps _ ?_ ?_; rw [CLK_MUX_BUSY_blk]; exact rfl
  refine State.set_keeps _ _ ?_ ?_; rw [CLK_MUX_SEL_blk]; exact rfl; exact Keeps.refl _ _

theorem execClockSwitch_keeps (d) (sel) (s : State) : KeepsRes 0x10000000000040000000 s (execClockSwitch d sel s) := by
  unfold execClockSwitch
  refine KeepsRes.next ?_; refine live_keeps _ (fun w hw => ?_) ?_; refine Keeps.step (muxWrite_keeps ..) rfl ?_; assumption
  exact Keeps.refl _ _

theorem muxDone_keeps (d) (s : State) : Keeps 0x10000000000040000000 s (muxDone d s) := by
  unfold muxDone
  refine State.when_keeps _ _ (fun w hw => ?_) ?_; refine Keeps.step (muxLand_keeps ..) rfl ?_; assumption; exact Keeps.refl _ _

theorem execClockSwitchDone_keeps (d) (s : State) : KeepsRes 0x10000000000040000000 s (execClockSwitchDone d s) := by
  unfold execClockSwitchDone
  refine KeepsRes.next ?_; refine live_keeps _ (fun w hw => ?_) ?_; refine Keeps.step (muxDone_keeps ..) rfl ?_; assumption
  exact Keeps.refl _ _

theorem muxForce_keeps (x0) (s : State) : Keeps 0x10000000000040000000 s (muxForce x0 s) := by
  unfold muxForce
  refine Keeps.foldl (fun w e hw => ?_) ?_; split; refine Keeps.step (muxLand_keeps ..) rfl ?_; assumption; assumption
  exact Keeps.refl _ _

theorem execForcedSwitch_keeps (x0) (s : State) : KeepsRes 0x10000000000040000000 s (execForcedSwitch x0 s) := by
  unfold execForcedSwitch
  refine KeepsRes.next ?_; refine live_keeps _ (fun w hw => ?_) ?_; refine Keeps.step (muxForce_keeps ..) rfl ?_; assumption
  exact Keeps.refl _ _

theorem forceFrc_keeps (s : State) : Keeps 0x10000000000040000000 s (forceFrc s) := by
  unfold forceFrc
  refine Keeps.step (muxLand_keeps ..) rfl ?_; refine Keeps.step (muxLand_keeps ..) rfl ?_; refine State.set_keeps _ _ ?_ ?_
  rw [CLK_MUX_SEL_blk]; exact rfl; refine State.set_keeps _ _ ?_ ?_; rw [CLK_MUX_SEL_blk]; exact rfl; exact Keeps.refl _ _

theorem pllWrite_keeps (p) (en) (s : State) : Keeps 0x40000000 s (pllWrite p en s) := by
  unfold pllWrite
  split; refine State.on_keeps _ ?_ ?_; rw [CLK_PLL_EN_blk]; exact rfl; exact Keeps.refl _ _
  refine State.offBit_keeps _ _ ?_ ?_; exact rfl; refine State.off_keeps _ ?_ ?_; rw [CLK_PLL_COASTING_blk]; exact rfl
  refine State.off_keeps _ ?_ ?_; rw [CLK_PLL_LOCK_blk]; exact rfl; refine State.off_keeps _ ?_ ?_
  rw [CLK_PLL_EN_blk]; exact rfl; exact Keeps.refl _ _

theorem execPllEnable_keeps (p) (s : State) : KeepsRes 0x40000000 s (execPllEnable p s) := by
  unfold execPllEnable
  refine KeepsRes.next ?_; refine live_keeps _ (fun w hw => ?_) ?_; refine Keeps.step (pllWrite_keeps ..) rfl ?_; assumption
  exact Keeps.refl _ _

theorem pllLock_keeps (i) (s : State) : Keeps 0x400000000000040000000 s (pllLock i s) := by
  unfold pllLock
  split; split; refine State.onBit_keeps _ _ ?_ ?_; exact rfl; refine State.off_keeps _ ?_ ?_
  rw [CLK_PLL_COASTING_blk]; exact rfl; refine State.on_keeps _ ?_ ?_; rw [CLK_PLL_LOCK_blk]; exact rfl; exact Keeps.refl _ _
  exact Keeps.refl _ _; dsimp only; split; refine Keeps.upd_qch _ ?_ ?_; exact rfl; refine State.onBit_keeps _ _ ?_ ?_
  exact rfl; refine State.on_keeps _ ?_ ?_; rw [CLK_CHSYN_LOCK_blk]; exact rfl; exact Keeps.refl _ _; exact Keeps.refl _ _

theorem execPllLock_keeps (i) (s : State) : KeepsRes 0x400000000000040000000 s (execPllLock i s) := by
  unfold execPllLock
  refine KeepsRes.next ?_; refine live_keeps _ (fun w hw => ?_) ?_; refine Keeps.step (pllLock_keeps ..) rfl ?_; assumption
  exact Keeps.refl _ _

theorem synthOut_keeps (x0) (s : State) : Keeps 0x40000000 s (synthOut x0 s) := by
  unfold synthOut
  refine State.offBit_keeps _ _ ?_ ?_; exact rfl; refine State.off_keeps _ ?_ ?_; rw [CLK_CHSYN_LOCK_blk]; exact rfl
  exact Keeps.refl _ _

theorem synthUnlock_keeps (x0) (s : State) : Keeps 0x8480000000020040000008 s (synthUnlock x0 s) := by
  unfold synthUnlock
  split; dsimp only; split; refine Keeps.step (quenchAct_keeps ..) rfl ?_; refine Keeps.upd_qch _ ?_ ?_; exact rfl
  refine Keeps.step (clkPat_keeps ..) rfl ?_; refine State.onBit_keeps _ _ ?_ ?_; exact rfl
  refine Keeps.step (synthOut_keeps ..) rfl ?_; exact Keeps.refl _ _; refine Keeps.step (clkPat_keeps ..) rfl ?_
  refine State.onBit_keeps _ _ ?_ ?_; exact rfl; refine Keeps.step (synthOut_keeps ..) rfl ?_; exact Keeps.refl _ _
  exact Keeps.refl _ _

theorem execSynthUnlock_keeps (x0) (s : State) : KeepsRes 0x8480000000020040000008 s (execSynthUnlock x0 s) := by
  unfold execSynthUnlock
  refine KeepsRes.next ?_; refine live_keeps _ (fun w hw => ?_) ?_; refine Keeps.step (synthUnlock_keeps ..) rfl ?_; assumption
  exact Keeps.refl _ _

theorem coastPlls_keeps (mask) (s : State) : Keeps 0x40000000 s (coastPlls mask s) := by
  unfold coastPlls
  dsimp only; refine State.on_keeps _ ?_ ?_; exact rfl; split; split; refine State.offBit_keeps _ _ ?_ ?_; exact rfl
  refine State.off_keeps _ ?_ ?_; rw [CLK_PLL_LOCK_blk]; exact rfl; refine State.on_keeps _ ?_ ?_
  rw [CLK_PLL_COASTING_blk]; exact rfl; refine State.offBit_keeps _ _ ?_ ?_; exact rfl; refine State.off_keeps _ ?_ ?_
  rw [CLK_PLL_LOCK_blk]; exact rfl; refine State.on_keeps _ ?_ ?_; rw [CLK_PLL_COASTING_blk]; exact rfl; exact Keeps.refl _ _
  refine State.offBit_keeps _ _ ?_ ?_; exact rfl; refine State.off_keeps _ ?_ ?_; rw [CLK_PLL_LOCK_blk]; exact rfl
  refine State.on_keeps _ ?_ ?_; rw [CLK_PLL_COASTING_blk]; exact rfl; exact Keeps.refl _ _; split
  refine State.offBit_keeps _ _ ?_ ?_; exact rfl; refine State.off_keeps _ ?_ ?_; rw [CLK_PLL_LOCK_blk]; exact rfl
  refine State.on_keeps _ ?_ ?_; rw [CLK_PLL_COASTING_blk]; exact rfl; exact Keeps.refl _ _; exact Keeps.refl _ _

theorem clockFail_keeps (s : State) : Keeps 0x80200000020040000000 s (clockFail s) := by
  unfold clockFail
  refine State.emit_keeps _ ?_ ?_; exact rfl; refine Keeps.step (clkPat_keeps ..) rfl ?_; refine State.on_keeps _ ?_ ?_
  exact rfl; exact Keeps.refl _ _

theorem pllUnlock_keeps (p) (s : State) : Keeps 0x90200000020040000000 s (pllUnlock p s) := by
  unfold pllUnlock
  split; dsimp only; split; refine Keeps.step (coastPlls_keeps ..) rfl ?_; refine State.on_keeps _ ?_ ?_; exact rfl
  refine State.offBit_keeps _ _ ?_ ?_; exact rfl; refine State.off_keeps _ ?_ ?_; rw [CLK_PLL_LOCK_blk]; exact rfl
  exact Keeps.refl _ _; refine Keeps.step (clockFail_keeps ..) rfl ?_; refine Keeps.step (forceFrc_keeps ..) rfl ?_
  refine State.on_keeps _ ?_ ?_; exact rfl; refine State.offBit_keeps _ _ ?_ ?_; exact rfl; refine State.off_keeps _ ?_ ?_
  rw [CLK_PLL_LOCK_blk]; exact rfl; exact Keeps.refl _ _; exact Keeps.refl _ _

theorem execPllUnlock_keeps (p) (s : State) : KeepsRes 0x90200000020040000000 s (execPllUnlock p s) := by
  unfold execPllUnlock
  refine KeepsRes.next ?_; refine live_keeps _ (fun w hw => ?_) ?_; refine State.when_keeps _ _ (fun w hw => ?_) ?_
  refine Keeps.step (pllUnlock_keeps ..) rfl ?_; assumption; assumption; exact Keeps.refl _ _

theorem mxoFail_keeps (s : State) : Keeps 0x90200000020040000004 s (mxoFail s) := by
  unfold mxoFail
  dsimp only; split; refine Keeps.step (coastPlls_keeps ..) rfl ?_; refine Keeps.step (modClk_keeps ..) rfl ?_
  refine State.on_keeps _ ?_ ?_; exact rfl; refine State.set_keeps _ _ ?_ ?_; rw [CLK_MUX_SEL_blk]; exact rfl
  refine State.on_keeps _ ?_ ?_; exact rfl; exact Keeps.refl _ _; refine Keeps.step (clockFail_keeps ..) rfl ?_
  refine Keeps.step (modClk_keeps ..) rfl ?_; refine Keeps.step (forceFrc_keeps ..) rfl ?_; refine State.offBit_keeps _ _ ?_ ?_
  exact rfl; refine State.off_keeps _ ?_ ?_; rw [CLK_PLL_LOCK_blk]; exact rfl; refine Keeps.step (modClk_keeps ..) rfl ?_
  refine State.on_keeps _ ?_ ?_; exact rfl; refine State.set_keeps _ _ ?_ ?_; rw [CLK_MUX_SEL_blk]; exact rfl
  refine State.on_keeps _ ?_ ?_; exact rfl; exact Keeps.refl _ _

theorem sourceFail_keeps (k) (s : State) : Keeps 0x90200000020040100004 s (sourceFail k s) := by
  unfold sourceFail
  dsimp only; split; refine Keeps.step (mxoFail_keeps ..) rfl ?_; refine Keeps.step (modClk_keeps ..) rfl ?_
  refine State.offBit_keeps _ _ ?_ ?_; exact rfl; refine State.offBit_keeps _ _ ?_ ?_; exact rfl; exact Keeps.refl _ _
  refine Keeps.step (clkPat_keeps ..) rfl ?_; refine State.on_keeps _ ?_ ?_; exact rfl
  refine Keeps.step (modClk_keeps ..) rfl ?_; refine State.offBit_keeps _ _ ?_ ?_; exact rfl
  refine State.offBit_keeps _ _ ?_ ?_; exact rfl; exact Keeps.refl _ _; refine Keeps.step (clkPat_keeps ..) rfl ?_
  refine State.on_keeps _ ?_ ?_; exact rfl; refine Keeps.step (modClk_keeps ..) rfl ?_; refine State.offBit_keeps _ _ ?_ ?_
  exact rfl; refine State.offBit_keeps _ _ ?_ ?_; exact rfl; exact Keeps.refl _ _; refine State.off_keeps _ ?_ ?_
  rw [HIF_PORT_LINK_UP_blk]; exact rfl; refine Keeps.step (clkPat_keeps ..) rfl ?_; refine State.onBit_keeps _ _ ?_ ?_
  exact rfl; refine Keeps.step (modClk_keeps ..) rfl ?_; refine State.offBit_keeps _ _ ?_ ?_; exact rfl
  refine State.offBit_keeps _ _ ?_ ?_; exact rfl; exact Keeps.refl _ _

theorem monitorWindow_keeps (k) (count) (s : State) : Keeps 0x90200000020040100004 s (monitorWindow k count s) := by
  unfold monitorWindow
  dsimp only; split; exact Keeps.refl _ _; split; split; refine Keeps.step (sourceFail_keeps ..) rfl ?_; exact Keeps.refl _ _
  refine Keeps.step (modClk_keeps ..) rfl ?_; exact Keeps.refl _ _; refine Keeps.step (modClk_keeps ..) rfl ?_
  exact Keeps.refl _ _

theorem execMonitorWindow_keeps (k) (count) (s : State) : KeepsRes 0x90200000020040100004 s (execMonitorWindow k count s) := by
  unfold execMonitorWindow
  refine KeepsRes.next ?_; refine live_keeps _ (fun w hw => ?_) ?_; refine Keeps.step (monitorWindow_keeps ..) rfl ?_
  assumption; exact Keeps.refl _ _

theorem clockGate_keeps (i) (s : State) : Keeps 0x40000000 s (clockGate i s) := by
  unfold clockGate
  split; exact Keeps.refl _ _; refine State.offBit_keeps _ _ ?_ ?_; exact rfl; exact Keeps.refl _ _

theorem execClockGate_keeps (i) (s : State) : KeepsRes 0x40000000 s (execClockGate i s) := by
  unfold execClockGate
  refine KeepsRes.next ?_; refine live_keeps _ (fun w hw => ?_) ?_; refine Keeps.step (clockGate_keeps ..) rfl ?_; assumption
  exact Keeps.refl _ _

theorem gateForce_keeps (x0) (s : State) : Keeps 0x40000000 s (gateForce x0 s) := by
  unfold gateForce
  refine Keeps.foldl (fun w e hw => ?_) ?_; split; refine State.offBit_keeps _ _ ?_ ?_; exact rfl; assumption; assumption
  refine State.set_keeps _ _ ?_ ?_; exact rfl; exact Keeps.refl _ _

theorem execGateForce_keeps (x0) (s : State) : KeepsRes 0x40000000 s (execGateForce x0 s) := by
  unfold execGateForce
  refine KeepsRes.next ?_; refine live_keeps _ (fun w hw => ?_) ?_; refine Keeps.step (gateForce_keeps ..) rfl ?_; assumption
  exact Keeps.refl _ _

theorem accessTimeout_keeps (r) (wr) (addr) (s : State) : Keeps 0x80000000020040000000 s (accessTimeout r wr addr s) := by
  unfold accessTimeout
  dsimp only; refine Keeps.step (clkPat_keeps ..) rfl ?_; split; refine State.on_keeps _ ?_ ?_; exact rfl; exact Keeps.refl _ _
  refine State.set_keeps _ _ ?_ ?_; exact rfl; refine State.put_keeps _ _ ?_ ?_; exact rfl; refine State.set_keeps _ _ ?_ ?_
  exact rfl; refine State.on_keeps _ ?_ ?_; exact rfl; refine State.on_keeps _ ?_ ?_; exact rfl; exact Keeps.refl _ _

theorem execAccessTimeout_keeps (r) (wr) (addr) (s : State) :
    KeepsRes 0x80000000020040000000 s (execAccessTimeout r wr addr s) := by
  unfold execAccessTimeout
  refine KeepsRes.next ?_; refine live_keeps _ (fun w hw => ?_) ?_; refine Keeps.step (accessTimeout_keeps ..) rfl ?_
  assumption; exact Keeps.refl _ _

end Sys2Proof.Machine
end

