-- ==== Sys2Proof/Laws/Keeps/Cmp.lean ====
section
/-!
SUPPORT. What each operation of Machine/Cmp.lean keeps: the mask names the register blocks (bits 0 to 63) and the parts of State (bit
64 on) that the operation may change; everything outside it stays.
-/
namespace Sys2Proof.Machine

theorem modEng_keeps (e) (f) (s : State) : Keeps 0x400000000000000000000000 s (modEng e f s) := by
  unfold modEng; refine Keeps.upd_cmp _ ?_ ?_; exact rfl; exact Keeps.refl _ _

theorem cmpAsk_keeps (e) (s : State) : Keeps 0x20001002000000000100400c0 s (cmpAsk e s) := by
  unfold cmpAsk
  split; exact Keeps.refl _ _; dsimp only; split; refine Keeps.step (hwAsk_keeps ..) rfl ?_; exact Keeps.refl _ _
  refine State.on_keeps _ ?_ ?_; exact rfl; refine Keeps.step (hwAsk_keeps ..) rfl ?_; exact Keeps.refl _ _

theorem cmpJobCommit_keeps (r) (w7) (s : State) : Keeps 0x24001002000000000100400c0 s (cmpJobCommit r w7 s) := by
  unfold cmpJobCommit
  dsimp only; split; refine Keeps.step (cmpAsk_keeps ..) rfl ?_; refine Keeps.step (modEng_keeps ..) rfl ?_
  refine State.on_keeps _ ?_ ?_; rw [Fld.blk_of]; exact rfl; refine State.set_keeps _ _ ?_ ?_; rw [Fld.blk_of]; exact rfl
  refine State.set_keeps _ _ ?_ ?_; rw [Fld.blk_of, CMP_JQ_W_blk]; exact rfl; exact Keeps.refl _ _
  refine State.on_keeps _ ?_ ?_; rw [Fld.blk_of]; exact rfl; refine State.set_keeps _ _ ?_ ?_; rw [Fld.blk_of]; exact rfl
  refine State.set_keeps _ _ ?_ ?_; rw [Fld.blk_of, CMP_JQ_W_blk]; exact rfl; exact Keeps.refl _ _

theorem execCmpJobCommit_keeps (r) (w7) (s : State) : KeepsRes 0x24001002000000000100400c0 s (execCmpJobCommit r w7 s) := by
  unfold execCmpJobCommit
  refine KeepsRes.next ?_; refine live_keeps _ (fun w hw => ?_) ?_; refine Keeps.step (cmpJobCommit_keeps ..) rfl ?_; assumption
  exact Keeps.refl _ _

theorem cmpJobStart_keeps (e) (s : State) : Keeps 0x24001002000000000100400c0 s (cmpJobStart e s) := by
  unfold cmpJobStart
  split; split; exact Keeps.refl _ _; split; refine Keeps.step (bulRequest_keeps ..) rfl ?_
  refine Keeps.step (modEng_keeps ..) rfl ?_; exact Keeps.refl _ _; refine Keeps.step (cmpAsk_keeps ..) rfl ?_
  exact Keeps.refl _ _; exact Keeps.refl _ _

theorem execCmpJobStart_keeps (e) (s : State) : KeepsRes 0x24001002000000000100400c0 s (execCmpJobStart e s) := by
  unfold execCmpJobStart
  refine KeepsRes.next ?_; refine live_keeps _ (fun w hw => ?_) ?_; refine Keeps.step (cmpJobStart_keeps ..) rfl ?_; assumption
  exact Keeps.refl _ _

theorem cmpUe_keeps (a) (x1) (s : State) : Keeps 0x80080000020000800000 s (cmpUe a x1 s) := by
  unfold cmpUe
  split; exact Keeps.refl _ _; split; refine Keeps.step (dramUe_keeps ..) rfl ?_; exact Keeps.refl _ _; exact Keeps.refl _ _

theorem cmpFlags_keeps (status) (tag) (s : State) : Keeps 0x80000000020000040000 s (cmpFlags status tag s) := by
  unfold cmpFlags
  dsimp only; split; refine State.on_keeps _ ?_ ?_; exact rfl; exact Keeps.refl _ _; refine State.on_keeps _ ?_ ?_; exact rfl
  refine State.on_keeps _ ?_ ?_; exact rfl; exact Keeps.refl _ _; refine Keeps.step (patTrig_keeps ..) rfl ?_
  refine State.on_keeps _ ?_ ?_; exact rfl; refine State.on_keeps _ ?_ ?_; exact rfl; exact Keeps.refl _ _
  refine Keeps.step (patTrig_keeps ..) rfl ?_; refine State.on_keeps _ ?_ ?_; exact rfl; refine State.on_keeps _ ?_ ?_
  exact rfl; exact Keeps.refl _ _; refine Keeps.step (patTrig_keeps ..) rfl ?_; refine State.on_keeps _ ?_ ?_; exact rfl
  refine State.on_keeps _ ?_ ?_; exact rfl; exact Keeps.refl _ _; refine State.on_keeps _ ?_ ?_; exact rfl
  refine State.on_keeps _ ?_ ?_; exact rfl; exact Keeps.refl _ _

theorem cmpPost_keeps (c) (s : State) : Keeps 0x400080000000020000040000 s (cmpPost c s) := by
  unfold cmpPost
  refine Keeps.step (cmpFlags_keeps ..) rfl ?_; refine Keeps.upd_cmp _ ?_ ?_; exact rfl; exact Keeps.refl _ _

theorem cmpJobDone_keeps (e) (s : State) : Keeps 0x4000801c0000020000840000 s (cmpJobDone e s) := by
  unfold cmpJobDone
  split; exact Keeps.refl _ _; split; exact Keeps.refl _ _; dsimp only; refine Keeps.step (cmpPost_keeps ..) rfl ?_
  refine Keeps.step (modEng_keeps ..) rfl ?_; refine State.bump_keeps _ _ ?_ ?_; rw [CMP_ENG_OUT_KIB_blk]; exact rfl
  refine State.bump_keeps _ _ ?_ ?_; rw [CMP_ENG_IN_KIB_blk]; exact rfl; split
  refine Keeps.step (State.dramWrite_keeps ..) rfl ?_; split; refine Keeps.step (State.dramWrite_keeps ..) rfl ?_; split
  refine Keeps.step (cmpUe_keeps ..) rfl ?_; split; refine Keeps.step (cmpUe_keeps ..) rfl ?_; refine Keeps.upd_free _ ?_ ?_ ?_
  exact rfl; exact Nat.le_add_right _ _; exact Keeps.refl _ _; refine Keeps.upd_free _ ?_ ?_ ?_; exact rfl
  exact Nat.le_add_right _ _; exact Keeps.refl _ _; refine Keeps.upd_free _ ?_ ?_ ?_; exact rfl; exact Nat.le_add_right _ _
  exact Keeps.refl _ _; refine Keeps.step (State.dramWrite_keeps ..) rfl ?_; split; refine Keeps.step (cmpUe_keeps ..) rfl ?_
  split; refine Keeps.step (cmpUe_keeps ..) rfl ?_; refine Keeps.upd_free _ ?_ ?_ ?_; exact rfl; exact Nat.le_add_right _ _
  exact Keeps.refl _ _; refine Keeps.upd_free _ ?_ ?_ ?_; exact rfl; exact Nat.le_add_right _ _; exact Keeps.refl _ _
  refine Keeps.upd_free _ ?_ ?_ ?_; exact rfl; exact Nat.le_add_right _ _; exact Keeps.refl _ _; split
  refine Keeps.step (State.dramWrite_keeps ..) rfl ?_; split; refine Keeps.step (cmpUe_keeps ..) rfl ?_; split
  refine Keeps.step (cmpUe_keeps ..) rfl ?_; refine Keeps.upd_free _ ?_ ?_ ?_; exact rfl; exact Nat.le_add_right _ _
  exact Keeps.refl _ _; refine Keeps.upd_free _ ?_ ?_ ?_; exact rfl; exact Nat.le_add_right _ _; exact Keeps.refl _ _
  refine Keeps.upd_free _ ?_ ?_ ?_; exact rfl; exact Nat.le_add_right _ _; exact Keeps.refl _ _
  refine Keeps.step (State.dramWrite_keeps ..) rfl ?_; split; refine Keeps.step (cmpUe_keeps ..) rfl ?_; split
  refine Keeps.step (cmpUe_keeps ..) rfl ?_; refine Keeps.upd_free _ ?_ ?_ ?_; exact rfl; exact Nat.le_add_right _ _
  exact Keeps.refl _ _; refine Keeps.upd_free _ ?_ ?_ ?_; exact rfl; exact Nat.le_add_right _ _; exact Keeps.refl _ _
  refine Keeps.upd_free _ ?_ ?_ ?_; exact rfl; exact Nat.le_add_right _ _; exact Keeps.refl _ _

theorem execCmpJobDone_keeps (e) (s : State) : KeepsRes 0x4000801c0000020000840000 s (execCmpJobDone e s) := by
  unfold execCmpJobDone
  refine KeepsRes.next ?_; refine live_keeps _ (fun w hw => ?_) ?_; refine Keeps.step (cmpJobDone_keeps ..) rfl ?_; assumption
  exact Keeps.refl _ _

theorem abortEng_keeps (e) (s : State) : Keeps 0x400080100000020000040000 s (abortEng e s) := by
  unfold abortEng
  dsimp only; refine Keeps.foldl (fun w e hw => ?_) ?_; refine Keeps.step (cmpPost_keeps ..) rfl ?_
  refine Keeps.upd_free _ ?_ ?_ ?_; exact rfl; exact Nat.le_add_right _ _; assumption
  refine Keeps.step (modEng_keeps ..) rfl ?_; exact Keeps.refl _ _

theorem abortOut_keeps (e) (s : State) : Keeps 0x1c0000000000800000 s (abortOut e s) := by
  unfold abortOut
  split; refine Keeps.step (State.dramWrite_keeps ..) rfl ?_; refine State.draw_keeps ?_ ?_; exact rfl; exact Keeps.refl _ _
  exact Keeps.refl _ _

theorem cmpAbort_keeps (x0) (s : State) : Keeps 0x4000801c0000020000840000 s (cmpAbort x0 s) := by
  unfold cmpAbort
  dsimp only; split; refine Keeps.step (abortEng_keeps ..) rfl ?_; refine Keeps.step (abortOut_keeps ..) rfl ?_; split
  refine Keeps.step (abortEng_keeps ..) rfl ?_; refine Keeps.step (abortOut_keeps ..) rfl ?_; exact Keeps.refl _ _
  exact Keeps.refl _ _; split; refine Keeps.step (abortEng_keeps ..) rfl ?_; refine Keeps.step (abortOut_keeps ..) rfl ?_
  exact Keeps.refl _ _; exact Keeps.refl _ _

theorem execCmpAbort_keeps (x0) (s : State) : KeepsRes 0x4000801c0000020000840000 s (execCmpAbort x0 s) := by
  unfold execCmpAbort
  refine KeepsRes.next ?_; refine live_keeps _ (fun w hw => ?_) ?_; refine Keeps.step (cmpAbort_keeps ..) rfl ?_; assumption
  exact Keeps.refl _ _

theorem cmpControl_keeps (en) (dis) (s : State) : Keeps 0x4000801c0000020000840000 s (cmpControl en dis s) := by
  unfold cmpControl
  dsimp only; refine Keeps.step (cmpAbort_keeps ..) rfl ?_; refine State.set_keeps _ _ ?_ ?_; exact rfl
  refine State.put_keeps _ _ ?_ ?_; exact rfl; exact Keeps.refl _ _

theorem execCmpDisable_keeps (en) (dis) (s : State) : KeepsRes 0x4000801c0000020000840000 s (execCmpDisable en dis s) := by
  unfold execCmpDisable
  refine KeepsRes.next ?_; refine live_keeps _ (fun w hw => ?_) ?_; refine Keeps.step (cmpControl_keeps ..) rfl ?_; assumption
  exact Keeps.refl _ _

theorem execCmpCompletionPop_keeps (s : State) : KeepsRes 0x400000000000000000000000 s (execCmpCompletionPop s) := by
  unfold execCmpCompletionPop
  refine KeepsRes.next ?_; refine live_keeps _ (fun w hw => ?_) ?_; refine Keeps.upd_cmp _ ?_ ?_; exact rfl; assumption
  exact Keeps.refl _ _

end Sys2Proof.Machine
end

