-- ==== Sys2Proof/Laws/Keeps/Xlt.lean ====
section
/-!
SUPPORT. What each operation of Machine/Xlt.lean keeps: the mask names the register blocks (bits 0 to 63) and the parts of State (bit
64 on) that the operation may change; everything outside it stays.
-/
namespace Sys2Proof.Machine

theorem modXlt_keeps (f) (s : State) : Keeps 0x100000000000000000000000 s (modXlt f s) := by
  unfold modXlt; refine Keeps.upd_xlt _ ?_ ?_; exact rfl; exact Keeps.refl _ _

theorem modXl1_keeps (f) (s : State) : Keeps 0x200000000000000000000000 s (modXl1 f s) := by
  unfold modXl1; refine Keeps.upd_xl1 _ ?_ ?_; exact rfl; exact Keeps.refl _ _

theorem xput_keeps (set) (x1) (x) (s : State) : Keeps 0x100000000000000000000000 s (xput set x1 x s) := by
  unfold xput; refine Keeps.step (modXlt_keeps ..) rfl ?_; exact Keeps.refl _ _

theorem xevict_keeps (x) (s : State) : Keeps 0x100000000000000000000000 s (xevict x s) := by
  unfold xevict
  split; exact Keeps.refl _ _; refine Keeps.step (modXlt_keeps ..) rfl ?_; exact Keeps.refl _ _

theorem xinstallAt_keeps (x0) (x) (s : State) : Keeps 0x100000000000000000000000 s (xinstallAt x0 x s) := by
  unfold xinstallAt
  refine Keeps.step (xput_keeps ..) rfl ?_; refine Keeps.step (xevict_keeps ..) rfl ?_; exact Keeps.refl _ _

theorem xinstall_keeps (x) (s : State) : Keeps 0x100000100000000000000000 s (xinstall x s) := by
  unfold xinstall
  split; exact Keeps.refl _ _; refine Keeps.step (xinstallAt_keeps ..) rfl ?_; refine State.draw_keeps ?_ ?_; exact rfl
  exact Keeps.refl _ _

theorem xtake_keeps (l) (s : State) : Keeps 0x100000000000000000000000 s (xtake l s) := by
  unfold xtake; refine Keeps.step (modXlt_keeps ..) rfl ?_; exact Keeps.refl _ _

theorem mapFetch_keeps (l) (s : State) : Keeps 0x80080000020000800000 s (mapFetch l s).1 := by
  unfold mapFetch
  split; dsimp only; exact Keeps.refl _ _; dsimp only; refine Keeps.step (dramUe_keeps ..) rfl ?_; exact Keeps.refl _ _

theorem xread_keeps (l) (s : State) : Keeps 0x100080180000020000820000 s (xread l s).1 := by
  unfold xread
  split; dsimp only; refine Keeps.step (mapFetch_keeps ..) rfl ?_; exact Keeps.refl _ _; split; dsimp only
  refine State.bump_keeps _ _ ?_ ?_; exact rfl; exact Keeps.refl _ _; split; dsimp only
  refine Keeps.step (xinstall_keeps ..) rfl ?_; refine State.bump_keeps _ _ ?_ ?_; exact rfl
  refine Keeps.step (xtake_keeps ..) rfl ?_; exact Keeps.refl _ _; dsimp only; split; dsimp only
  refine Keeps.step (xinstall_keeps ..) rfl ?_; refine Keeps.step (mapFetch_keeps ..) rfl ?_; refine State.bump_keeps _ _ ?_ ?_
  exact rfl; exact Keeps.refl _ _; dsimp only; refine Keeps.step (mapFetch_keeps ..) rfl ?_; refine State.bump_keeps _ _ ?_ ?_
  exact rfl; exact Keeps.refl _ _

theorem xrefetch_keeps (l) (s : State) : Keeps 0x100080080000020000820000 s (xrefetch l s).1 := by
  unfold xrefetch
  dsimp only; split; dsimp only; refine Keeps.step (xput_keeps ..) rfl ?_; refine Keeps.step (mapFetch_keeps ..) rfl ?_
  refine Keeps.step (patTrig_keeps ..) rfl ?_; refine State.bump_keeps _ _ ?_ ?_; exact rfl; refine State.bump_keeps _ _ ?_ ?_
  exact rfl; refine State.on_keeps _ ?_ ?_; exact rfl; exact Keeps.refl _ _; dsimp only
  refine Keeps.step (xput_keeps ..) rfl ?_; refine Keeps.step (mapFetch_keeps ..) rfl ?_
  refine Keeps.step (patTrig_keeps ..) rfl ?_; refine State.bump_keeps _ _ ?_ ?_; exact rfl; refine State.bump_keeps _ _ ?_ ?_
  exact rfl; refine State.on_keeps _ ?_ ?_; exact rfl; exact Keeps.refl _ _; dsimp only
  refine Keeps.step (mapFetch_keeps ..) rfl ?_; refine Keeps.step (patTrig_keeps ..) rfl ?_; refine State.bump_keeps _ _ ?_ ?_
  exact rfl; refine State.bump_keeps _ _ ?_ ?_; exact rfl; refine State.on_keeps _ ?_ ?_; exact rfl; exact Keeps.refl _ _

theorem readImage_keeps (desc) (i) (s : State) : Keeps 0x100080180000020000820000 s (readImage desc i s).1 := by
  unfold readImage
  dsimp only; split; dsimp only; refine Keeps.step (xread_keeps ..) rfl ?_; exact Keeps.refl _ _; split; dsimp only
  refine Keeps.step (xrefetch_keeps ..) rfl ?_; refine Keeps.step (xread_keeps ..) rfl ?_; exact Keeps.refl _ _; dsimp only
  refine Keeps.step (xread_keeps ..) rfl ?_; exact Keeps.refl _ _

theorem xlose_keeps (l) (s : State) : Keeps 0x80000000020000020000 s (xlose l s) := by
  unfold xlose
  refine Keeps.step (patTrig_keeps ..) rfl ?_; refine State.bump_keeps _ _ ?_ ?_; exact rfl; refine State.on_keeps _ ?_ ?_
  exact rfl; exact Keeps.refl _ _

theorem xinvalidate_keeps (p) (s : State) : Keeps 0x100080000000020000020000 s (xinvalidate p s) := by
  unfold xinvalidate
  dsimp only; refine Keeps.foldl (fun w e hw => ?_) ?_; refine Keeps.step (xlose_keeps ..) rfl ?_; assumption
  refine Keeps.step (modXlt_keeps ..) rfl ?_; exact Keeps.refl _ _

theorem invAll_keeps (s : State) : Keeps 0x100000000000000000020000 s (invAll s) := by
  unfold invAll
  refine State.on_keeps _ ?_ ?_; exact rfl; refine Keeps.step (modXlt_keeps ..) rfl ?_; exact Keeps.refl _ _

theorem execInvAll_keeps (s : State) : KeepsRes 0x100000000000000000020000 s (execInvAll s) := by
  unfold execInvAll
  refine KeepsRes.next ?_; refine live_keeps _ (fun w hw => ?_) ?_; refine Keeps.step (invAll_keeps ..) rfl ?_; assumption
  exact Keeps.refl _ _

theorem cacheEnable_keeps (s : State) : Keeps 0x20000 s (cacheEnable s) := by
  unfold cacheEnable
  split; refine State.on_keeps _ ?_ ?_; exact rfl; exact Keeps.refl _ _; refine State.on_keeps _ ?_ ?_; exact rfl
  exact Keeps.refl _ _

theorem cacheDisable_keeps (s : State) : Keeps 0x20000 s (cacheDisable s) := by
  unfold cacheDisable
  split; refine State.off_keeps _ ?_ ?_; exact rfl; refine State.off_keeps _ ?_ ?_; exact rfl; exact Keeps.refl _ _
  exact Keeps.refl _ _

theorem execCacheEnable_keeps (s : State) : KeepsRes 0x20000 s (execCacheEnable s) := by
  unfold execCacheEnable
  refine KeepsRes.next ?_; refine live_keeps _ (fun w hw => ?_) ?_; refine Keeps.step (cacheEnable_keeps ..) rfl ?_; assumption
  exact Keeps.refl _ _

theorem rangeInvalidate_keeps (last) (s : State) : Keeps 0x100080000000020000020000 s (rangeInvalidate last s) := by
  unfold rangeInvalidate
  dsimp only; refine Keeps.step (xinvalidate_keeps ..) rfl ?_; refine Keeps.step (modXlt_keeps ..) rfl ?_
  refine State.set_keeps _ _ ?_ ?_; exact rfl; exact Keeps.refl _ _

theorem execRangeInvalidate_keeps (last) (s : State) : KeepsRes 0x100080000000020000020000 s (execRangeInvalidate last s) := by
  unfold execRangeInvalidate
  refine KeepsRes.next ?_; refine live_keeps _ (fun w hw => ?_) ?_; refine Keeps.step (rangeInvalidate_keeps ..) rfl ?_
  assumption; exact Keeps.refl _ _

theorem lockInstall_keeps (l) (x1) (s : State) : Keeps 0x100080080000020000820000 s (lockInstall l x1 s) := by
  unfold lockInstall
  split; split; split; refine Keeps.step (xput_keeps ..) rfl ?_; exact Keeps.refl _ _
  refine Keeps.step (xinstallAt_keeps ..) rfl ?_; refine Keeps.step (xput_keeps ..) rfl ?_; exact Keeps.refl _ _
  exact Keeps.refl _ _; split; refine Keeps.step (xinstallAt_keeps ..) rfl ?_; refine State.bump_keeps _ _ ?_ ?_; exact rfl
  refine Keeps.step (xtake_keeps ..) rfl ?_; exact Keeps.refl _ _; dsimp only; split
  refine Keeps.step (xinstallAt_keeps ..) rfl ?_; refine Keeps.step (mapFetch_keeps ..) rfl ?_
  refine State.bump_keeps _ _ ?_ ?_; exact rfl; exact Keeps.refl _ _; refine Keeps.step (mapFetch_keeps ..) rfl ?_
  refine State.bump_keeps _ _ ?_ ?_; exact rfl; exact Keeps.refl _ _

theorem lineLock_keeps (l) (s : State) : Keeps 0x100080080000020000820000 s (lineLock l s) := by
  unfold lineLock
  dsimp only; split; refine State.set_keeps _ _ ?_ ?_; exact rfl; refine State.off_keeps _ ?_ ?_; exact rfl
  exact Keeps.refl _ _; split; refine State.on_keeps _ ?_ ?_; exact rfl; refine State.set_keeps _ _ ?_ ?_; exact rfl
  refine State.off_keeps _ ?_ ?_; exact rfl; exact Keeps.refl _ _; refine Keeps.step (lockInstall_keeps ..) rfl ?_
  refine State.set_keeps _ _ ?_ ?_; exact rfl; refine State.off_keeps _ ?_ ?_; exact rfl; exact Keeps.refl _ _

theorem execLineLock_keeps (l) (s : State) : KeepsRes 0x100080080000020000820000 s (execLineLock l s) := by
  unfold execLineLock
  refine KeepsRes.next ?_; refine live_keeps _ (fun w hw => ?_) ?_; refine Keeps.step (lineLock_keeps ..) rfl ?_; assumption
  exact Keeps.refl _ _

theorem lineUnlock_keeps (l) (s : State) : Keeps 0x100000000000000000020000 s (lineUnlock l s) := by
  unfold lineUnlock
  dsimp only; split; refine Keeps.step (xput_keeps ..) rfl ?_; refine State.set_keeps _ _ ?_ ?_; exact rfl
  refine State.on_keeps _ ?_ ?_; exact rfl; exact Keeps.refl _ _; refine State.set_keeps _ _ ?_ ?_; exact rfl
  refine State.on_keeps _ ?_ ?_; exact rfl; exact Keeps.refl _ _

theorem execLineUnlock_keeps (l) (s : State) : KeepsRes 0x100000000000000000020000 s (execLineUnlock l s) := by
  unfold execLineUnlock
  refine KeepsRes.next ?_; refine live_keeps _ (fun w hw => ?_) ?_; refine Keeps.step (lineUnlock_keeps ..) rfl ?_; assumption
  exact Keeps.refl _ _

theorem wayDisable_keeps (x0) (s : State) : Keeps 0x100080000000020000020000 s (wayDisable x0 s) := by
  unfold wayDisable
  split; refine State.on_keeps _ ?_ ?_; exact rfl; exact Keeps.refl _ _; refine Keeps.step (xinvalidate_keeps ..) rfl ?_
  refine State.set_keeps _ _ ?_ ?_; exact rfl; exact Keeps.refl _ _

theorem execWayDisable_keeps (x0) (s : State) : KeepsRes 0x100080000000020000020000 s (execWayDisable x0 s) := by
  unfold execWayDisable
  refine KeepsRes.next ?_; refine live_keeps _ (fun w hw => ?_) ?_; refine Keeps.step (wayDisable_keeps ..) rfl ?_; assumption
  exact Keeps.refl _ _

theorem lookupCommit_keeps (r) (w3) (s : State) : Keeps 0x100000000000000000010000 s (lookupCommit r w3 s) := by
  unfold lookupCommit
  dsimp only; split; split; refine Keeps.step (modXlt_keeps ..) rfl ?_; refine State.on_keeps _ ?_ ?_
  rw [Fld.blk_of]; exact rfl; refine State.set_keeps _ _ ?_ ?_; rw [Fld.blk_of]; exact rfl; refine State.set_keeps _ _ ?_ ?_
  rw [Fld.blk_of, XLT_LK_W_blk]; exact rfl; exact Keeps.refl _ _; refine State.on_keeps _ ?_ ?_; rw [Fld.blk_of]; exact rfl
  refine State.set_keeps _ _ ?_ ?_; rw [Fld.blk_of]; exact rfl; refine State.set_keeps _ _ ?_ ?_
  rw [Fld.blk_of, XLT_LK_W_blk]; exact rfl; exact Keeps.refl _ _; split; split; refine Keeps.step (modXlt_keeps ..) rfl ?_
  refine State.on_keeps _ ?_ ?_; rw [Fld.blk_of]; exact rfl; refine State.set_keeps _ _ ?_ ?_; rw [Fld.blk_of]; exact rfl
  refine State.set_keeps _ _ ?_ ?_; rw [Fld.blk_of, XLT_LK_W_blk]; exact rfl; exact Keeps.refl _ _
  refine State.on_keeps _ ?_ ?_; rw [Fld.blk_of]; exact rfl; refine State.set_keeps _ _ ?_ ?_; rw [Fld.blk_of]; exact rfl
  refine State.set_keeps _ _ ?_ ?_; rw [Fld.blk_of, XLT_LK_W_blk]; exact rfl; exact Keeps.refl _ _; split
  refine Keeps.step (modXlt_keeps ..) rfl ?_; refine State.on_keeps _ ?_ ?_; rw [Fld.blk_of]; exact rfl
  refine State.set_keeps _ _ ?_ ?_; rw [Fld.blk_of]; exact rfl; refine State.set_keeps _ _ ?_ ?_
  rw [Fld.blk_of, XLT_LK_W_blk]; exact rfl; exact Keeps.refl _ _; refine State.on_keeps _ ?_ ?_; rw [Fld.blk_of]; exact rfl
  refine State.set_keeps _ _ ?_ ?_; rw [Fld.blk_of]; exact rfl; refine State.set_keeps _ _ ?_ ?_
  rw [Fld.blk_of, XLT_LK_W_blk]; exact rfl; exact Keeps.refl _ _

theorem execLookupCommit_keeps (r) (w3) (s : State) : KeepsRes 0x100000000000000000010000 s (execLookupCommit r w3 s) := by
  unfold execLookupCommit
  refine KeepsRes.next ?_; refine live_keeps _ (fun w hw => ?_) ?_; refine Keeps.step (lookupCommit_keeps ..) rfl ?_; assumption
  exact Keeps.refl _ _

theorem walkStep_keeps (s : State) : Keeps 0x10000 s (walkStep s) := by
  unfold walkStep; refine State.bump_keeps _ _ ?_ ?_; exact rfl; exact Keeps.refl _ _

theorem walkGo_keeps (ns) (lba) (fuel) (slot) (bound) (s : State) :
    Keeps 0x100080180000020000830000 s (walkGo ns lba fuel slot bound s).1 := by
  induction fuel generalizing s slot bound with
  | zero =>
    unfold walkGo
    dsimp only; exact Keeps.refl _ _
  | succ k ih =>
    unfold walkGo
    dsimp only; split; dsimp only; refine Keeps.step (readImage_keeps ..) rfl ?_; refine Keeps.step (walkStep_keeps ..) rfl ?_
    exact Keeps.refl _ _; split; dsimp only; refine Keeps.step (readImage_keeps ..) rfl ?_
    refine Keeps.step (walkStep_keeps ..) rfl ?_; exact Keeps.refl _ _; split; split; refine Keeps.step (ih ..) rfl ?_
    refine Keeps.step (readImage_keeps ..) rfl ?_; refine Keeps.step (walkStep_keeps ..) rfl ?_; exact Keeps.refl _ _
    dsimp only; refine Keeps.step (readImage_keeps ..) rfl ?_; refine Keeps.step (walkStep_keeps ..) rfl ?_
    exact Keeps.refl _ _; split; split; refine Keeps.step (ih ..) rfl ?_; refine Keeps.step (readImage_keeps ..) rfl ?_
    refine Keeps.step (walkStep_keeps ..) rfl ?_; exact Keeps.refl _ _; dsimp only
    refine Keeps.step (readImage_keeps ..) rfl ?_; refine Keeps.step (walkStep_keeps ..) rfl ?_; exact Keeps.refl _ _
    dsimp only; refine Keeps.step (readImage_keeps ..) rfl ?_; refine Keeps.step (walkStep_keeps ..) rfl ?_
    exact Keeps.refl _ _

theorem walk_keeps (ns) (lba) (s : State) : Keeps 0x100080180000020000830000 s (walk ns lba s).1 := by
  unfold walk
  dsimp only; split; dsimp only; refine Keeps.step (readImage_keeps ..) rfl ?_; refine Keeps.step (walkStep_keeps ..) rfl ?_
  exact Keeps.refl _ _; split; dsimp only; refine Keeps.step (readImage_keeps ..) rfl ?_
  refine Keeps.step (walkStep_keeps ..) rfl ?_; exact Keeps.refl _ _; split; dsimp only
  refine Keeps.step (readImage_keeps ..) rfl ?_; refine Keeps.step (walkStep_keeps ..) rfl ?_; exact Keeps.refl _ _
  refine Keeps.step (walkGo_keeps ..) rfl ?_; refine Keeps.step (readImage_keeps ..) rfl ?_
  refine Keeps.step (walkStep_keeps ..) rfl ?_; exact Keeps.refl _ _

theorem segRef_keeps (x0) (x1) (s : State) : Keeps 0x8000000000000000000 s (segRef x0 x1 s) := by
  unfold segRef
  refine Keeps.foldl (fun w e hw => ?_) ?_; dsimp only; split; assumption; refine Keeps.step (putUnit_keeps ..) rfl ?_
  assumption; exact Keeps.refl _ _

theorem walkFault_keeps (reason) (slot) (chunk) (s : State) : Keeps 0x80100000020000010000 s (walkFault reason slot chunk s) := by
  unfold walkFault
  dsimp only; refine Keeps.step (patTrig_keeps ..) rfl ?_; split; refine State.on_keeps _ ?_ ?_; exact rfl; split
  exact Keeps.refl _ _; split; refine State.set_keeps _ _ ?_ ?_; exact rfl; refine State.set_keeps _ _ ?_ ?_; exact rfl
  refine State.set_keeps _ _ ?_ ?_; exact rfl; exact Keeps.refl _ _; refine State.set_keeps _ _ ?_ ?_; exact rfl
  refine State.set_keeps _ _ ?_ ?_; exact rfl; refine State.set_keeps _ _ ?_ ?_; exact rfl; refine State.draw_keeps ?_ ?_
  exact rfl; exact Keeps.refl _ _; refine State.on_keeps _ ?_ ?_; exact rfl; split; exact Keeps.refl _ _; split
  refine State.set_keeps _ _ ?_ ?_; exact rfl; refine State.set_keeps _ _ ?_ ?_; exact rfl; refine State.set_keeps _ _ ?_ ?_
  exact rfl; exact Keeps.refl _ _; refine State.set_keeps _ _ ?_ ?_; exact rfl; refine State.set_keeps _ _ ?_ ?_; exact rfl
  refine State.set_keeps _ _ ?_ ?_; exact rfl; refine State.draw_keeps ?_ ?_; exact rfl; exact Keeps.refl _ _

theorem lookupGo_keeps (k) (base) (fuel) (ofs) (left) (x5) (s : State) :
    Keeps 0x1000881c0000020000830000 s (lookupGo k base fuel ofs left x5 s).1 := by
  induction fuel generalizing s ofs left x5 with
  | zero =>
    unfold lookupGo
    dsimp only; exact Keeps.refl _ _
  | succ k ih =>
    unfold lookupGo
    split; dsimp only; exact Keeps.refl _ _; split; dsimp only; exact Keeps.refl _ _; dsimp only; split; dsimp only
    refine Keeps.step (walk_keeps ..) rfl ?_; exact Keeps.refl _ _; dsimp only; refine Keeps.step (walkFault_keeps ..) rfl ?_
    refine Keeps.step (walk_keeps ..) rfl ?_; exact Keeps.refl _ _; refine Keeps.step (ih ..) rfl ?_
    refine Keeps.step (State.dramPut_keeps ..) rfl ?_; refine State.draw_keeps ?_ ?_; exact rfl
    refine Keeps.step (walk_keeps ..) rfl ?_; exact Keeps.refl _ _; refine Keeps.step (ih ..) rfl ?_; split
    refine Keeps.step (segRef_keeps ..) rfl ?_; refine Keeps.step (State.dramPut_keeps ..) rfl ?_
    refine Keeps.step (walk_keeps ..) rfl ?_; exact Keeps.refl _ _; refine Keeps.step (State.dramPut_keeps ..) rfl ?_
    refine Keeps.step (walk_keeps ..) rfl ?_; exact Keeps.refl _ _

theorem corrupt_keeps (bad) (s : State) : Keeps 0x100000000000000000000000 s (corrupt bad s) := by
  unfold corrupt
  dsimp only; refine Keeps.step (modXlt_keeps ..) rfl ?_; exact Keeps.refl _ _

theorem lookupDone_keeps (tag) (bad) (s : State) : Keeps 0x1000881c0000020000830000 s (lookupDone tag bad s) := by
  unfold lookupDone
  split; exact Keeps.refl _ _; dsimp only; refine State.on_keeps _ ?_ ?_; exact rfl; refine Keeps.step (modXlt_keeps ..) rfl ?_
  split; refine Keeps.step (lookupGo_keeps ..) rfl ?_; refine Keeps.step (modXlt_keeps ..) rfl ?_
  refine Keeps.step (corrupt_keeps ..) rfl ?_; exact Keeps.refl _ _; dsimp only; refine Keeps.step (modXlt_keeps ..) rfl ?_
  refine Keeps.step (corrupt_keeps ..) rfl ?_; exact Keeps.refl _ _

theorem execLookupDone_keeps (tag) (bad) (s : State) : KeepsRes 0x1000881c0000020000830000 s (execLookupDone tag bad s) := by
  unfold execLookupDone
  refine KeepsRes.next ?_; refine live_keeps _ (fun w hw => ?_) ?_; refine Keeps.step (lookupDone_keeps ..) rfl ?_; assumption
  exact Keeps.refl _ _

theorem execLookupCompletionPop_keeps (s : State) : KeepsRes 0x100000000000000000000000 s (execLookupCompletionPop s) := by
  unfold execLookupCompletionPop
  refine KeepsRes.next ?_; refine live_keeps _ (fun w hw => ?_) ?_; refine Keeps.step (modXlt_keeps ..) rfl ?_; assumption
  exact Keeps.refl _ _

theorem recordCommit_keeps (addr) (s : State) : Keeps 0x100000000000000000010000 s (recordCommit addr s) := by
  unfold recordCommit
  dsimp only; split; split; refine Keeps.step (modXlt_keeps ..) rfl ?_; refine State.off_keeps _ ?_ ?_; exact rfl
  refine State.on_keeps _ ?_ ?_; exact rfl; refine State.set_keeps _ _ ?_ ?_; exact rfl; exact Keeps.refl _ _
  refine State.on_keeps _ ?_ ?_; exact rfl; refine State.on_keeps _ ?_ ?_; exact rfl; refine State.set_keeps _ _ ?_ ?_
  exact rfl; refine State.set_keeps _ _ ?_ ?_; exact rfl; exact Keeps.refl _ _; split; split
  refine Keeps.step (modXlt_keeps ..) rfl ?_; refine State.off_keeps _ ?_ ?_; exact rfl; refine State.on_keeps _ ?_ ?_
  exact rfl; refine State.set_keeps _ _ ?_ ?_; exact rfl; exact Keeps.refl _ _; refine State.on_keeps _ ?_ ?_; exact rfl
  refine State.on_keeps _ ?_ ?_; exact rfl; refine State.set_keeps _ _ ?_ ?_; exact rfl; refine State.set_keeps _ _ ?_ ?_
  exact rfl; exact Keeps.refl _ _; split; refine Keeps.step (modXlt_keeps ..) rfl ?_; refine State.off_keeps _ ?_ ?_; exact rfl
  refine State.on_keeps _ ?_ ?_; exact rfl; refine State.set_keeps _ _ ?_ ?_; exact rfl; exact Keeps.refl _ _
  refine State.on_keeps _ ?_ ?_; exact rfl; refine State.on_keeps _ ?_ ?_; exact rfl; refine State.set_keeps _ _ ?_ ?_
  exact rfl; refine State.set_keeps _ _ ?_ ?_; exact rfl; exact Keeps.refl _ _

theorem execRecordCommit_keeps (addr) (s : State) : KeepsRes 0x100000000000000000010000 s (execRecordCommit addr s) := by
  unfold execRecordCommit
  refine KeepsRes.next ?_; refine live_keeps _ (fun w hw => ?_) ?_; refine Keeps.step (recordCommit_keeps ..) rfl ?_; assumption
  exact Keeps.refl _ _

theorem mapWrite_keeps (ofs) (x1) (x2) (s : State) : Keeps 0x1000000c0000000000800000 s (mapWrite ofs x1 x2 s) := by
  unfold mapWrite
  dsimp only; refine Keeps.step (modXlt_keeps ..) rfl ?_; refine Keeps.step (State.dramPut_keeps ..) rfl ?_
  exact Keeps.refl _ _

theorem applyEntry_keeps (e) (s : State) : Keeps 0x1000000c0000000000800000 s (applyEntry e s) := by
  unfold applyEntry
  split; refine Keeps.step (mapWrite_keeps ..) rfl ?_; exact Keeps.refl _ _; refine Keeps.step (mapWrite_keeps ..) rfl ?_
  exact Keeps.refl _ _; refine Keeps.step (mapWrite_keeps ..) rfl ?_; exact Keeps.refl _ _

theorem applyRecord_keeps (a) (s : State) : Keeps 0x3000000c0000000000810000 s (applyRecord a s) := by
  unfold applyRecord
  dsimp only; refine Keeps.step (modXl1_keeps ..) rfl ?_; refine State.set_keeps _ _ ?_ ?_; exact rfl
  refine Keeps.foldl (fun w e hw => ?_) ?_; refine Keeps.step (applyEntry_keeps ..) rfl ?_; assumption; exact Keeps.refl _ _

theorem recordApplied_keeps (s : State) : Keeps 0x3000000c0000000000810000 s (recordApplied s) := by
  unfold recordApplied
  split; exact Keeps.refl _ _; split; exact Keeps.refl _ _; dsimp only; refine State.on_keeps _ ?_ ?_; exact rfl
  refine State.on_keeps _ ?_ ?_; exact rfl; refine State.set_keeps _ _ ?_ ?_; exact rfl; refine State.off_keeps _ ?_ ?_
  exact rfl; refine Keeps.step (modXlt_keeps ..) rfl ?_; refine Keeps.step (applyRecord_keeps ..) rfl ?_; exact Keeps.refl _ _

theorem execRecordApplied_keeps (s : State) : KeepsRes 0x3000000c0000000000810000 s (execRecordApplied s) := by
  unfold execRecordApplied
  refine KeepsRes.next ?_; refine live_keeps _ (fun w hw => ?_) ?_; refine Keeps.step (recordApplied_keeps ..) rfl ?_
  assumption; exact Keeps.refl _ _

theorem modBand_keeps (p) (f) (s : State) : Keeps 0x200000000000000000000000 s (modBand p f s) := by
  unfold modBand; refine Keeps.step (modXl1_keeps ..) rfl ?_; exact Keeps.refl _ _

theorem freeBand_keeps (p) (s : State) : Keeps 0x200000000000000000000000 s (freeBand p s) := by
  unfold freeBand; refine Keeps.step (modBand_keeps ..) rfl ?_; exact Keeps.refl _ _

theorem roleRecord_keeps (addr) (s : State) : Keeps 0x3000000c0000000000810000 s (roleRecord addr s).1 := by
  unfold roleRecord
  dsimp only; split; dsimp only; refine Keeps.step (recordApplied_keeps ..) rfl ?_
  refine Keeps.step (recordCommit_keeps ..) rfl ?_; exact Keeps.refl _ _; dsimp only
  refine Keeps.step (recordCommit_keeps ..) rfl ?_; exact Keeps.refl _ _

theorem checkpoint_keeps (s : State) : Keeps 0x200000000000000000000000 s (checkpoint s) := by
  unfold checkpoint
  dsimp only; refine Keeps.step (modXl1_keeps ..) rfl ?_; exact Keeps.refl _ _

theorem execCheckpoint_keeps (s : State) : KeepsRes 0x200000000000000000000000 s (execCheckpoint s) := by
  unfold execCheckpoint
  refine KeepsRes.next ?_; refine live_keeps _ (fun w hw => ?_) ?_; refine Keeps.step (checkpoint_keeps ..) rfl ?_; assumption
  exact Keeps.refl _ _

theorem loadMap_keeps (c) (s : State) : Keeps 0x2000000c0000000000810000 s (loadMap c s) := by
  unfold loadMap
  dsimp only
  refine Keeps.step (modXl1_keeps ..) rfl ?_
  refine State.set_keeps _ _ rfl ?_
  refine Keeps.foldl (fun w e hw => Keeps.step (State.dramPut_keeps ..) rfl hw) ?_
  exact (Keeps.refl _ s).upd rfl rfl ⟨[], (List.append_nil _).symm⟩ (fun h => tabWf_filter _ _ h) (Nat.le_refl _)
    (fun _ => Nat.le_refl _) (by constructor <;> intro hb <;> first | rfl | cases hb)

theorem replay_keeps (x0) (s : State) : Keeps 0x3000000c0000000000810000 s (replay x0 s).1 := by
  induction x0 generalizing s with
  | nil =>
    unfold replay
    dsimp only; exact Keeps.refl _ _
  | cons e l ih =>
    unfold replay
    split; refine Keeps.step (ih ..) rfl ?_; exact Keeps.refl _ _; split; refine Keeps.step (ih ..) rfl ?_
    refine Keeps.step (applyRecord_keeps ..) rfl ?_; exact Keeps.refl _ _; dsimp only; exact Keeps.refl _ _

theorem mapRebuild_keeps (pass) (recs) (images) (seqs) (s : State) :
    Keeps 0x3000800c0000020000830000 s (mapRebuild pass recs images seqs s) := by
  unfold mapRebuild
  dsimp only; refine Keeps.step (modXl1_keeps ..) rfl ?_; refine Keeps.step (xinvalidate_keeps ..) rfl ?_
  refine Keeps.step (modXlt_keeps ..) rfl ?_; split; split; refine Keeps.step (replay_keeps ..) rfl ?_
  refine Keeps.step (loadMap_keeps ..) rfl ?_; exact Keeps.refl _ _; refine Keeps.step (patTrig_keeps ..) rfl ?_
  refine State.on_keeps _ ?_ ?_; exact rfl; refine Keeps.foldl (fun w e hw => ?_) ?_
  refine Keeps.step (mapWrite_keeps ..) rfl ?_; assumption; refine Keeps.step (replay_keeps ..) rfl ?_
  refine Keeps.step (loadMap_keeps ..) rfl ?_; exact Keeps.refl _ _; split; refine Keeps.step (replay_keeps ..) rfl ?_
  exact Keeps.refl _ _; refine Keeps.step (patTrig_keeps ..) rfl ?_; refine State.on_keeps _ ?_ ?_; exact rfl
  refine Keeps.foldl (fun w e hw => ?_) ?_; refine Keeps.step (mapWrite_keeps ..) rfl ?_; assumption
  refine Keeps.step (replay_keeps ..) rfl ?_; exact Keeps.refl _ _

theorem execMapRebuild_keeps (p0) (p1) (p2) (p3) (recs) (images) (seqs) (s : State) :
    KeepsRes 0x3000800c0000020000830000 s (execMapRebuild p0 p1 p2 p3 recs images seqs s) := by
  unfold execMapRebuild
  refine KeepsRes.next ?_; refine live_keeps _ (fun w hw => ?_) ?_; refine Keeps.step (mapRebuild_keeps ..) rfl ?_; assumption
  exact Keeps.refl _ _

theorem cleaning_keeps (addr) (old) (new) (units) (s : State) :
    Keeps 0x3000000c0000000000810000 s (cleaning addr old new units s) := by
  unfold cleaning
  split; exact Keeps.refl _ _; dsimp only; split; refine Keeps.foldl (fun w e hw => ?_) ?_
  refine Keeps.step (modBand_keeps ..) rfl ?_; assumption; refine Keeps.step (freeBand_keeps ..) rfl ?_
  refine Keeps.step (modBand_keeps ..) rfl ?_; refine Keeps.step (roleRecord_keeps ..) rfl ?_; exact Keeps.refl _ _
  refine Keeps.step (roleRecord_keeps ..) rfl ?_; exact Keeps.refl _ _

theorem execCleaning_keeps (addr) (old) (new) (units) (s : State) :
    KeepsRes 0x3000000c0000000000810000 s (execCleaning addr old new units s) := by
  unfold execCleaning
  refine KeepsRes.next ?_; refine live_keeps _ (fun w hw => ?_) ?_; refine Keeps.step (cleaning_keeps ..) rfl ?_; assumption
  exact Keeps.refl _ _

theorem compaction_keeps (ns) (x1) (x2) (done) (same) (srcs) (addr) (s : State) :
    Keeps 0x3000000c0000000000810000 s (compaction ns x1 x2 done same srcs addr s) := by
  unfold compaction
  dsimp only; split; refine Keeps.step (roleRecord_keeps ..) rfl ?_; exact Keeps.refl _ _; exact Keeps.refl _ _

theorem execCompaction_keeps (ns) (x1) (x2) (done) (same) (srcs) (addr) (s : State) :
    KeepsRes 0x3000000c0000000000810000 s (execCompaction ns x1 x2 done same srcs addr s) := by
  unfold execCompaction
  refine KeepsRes.next ?_; refine live_keeps _ (fun w hw => ?_) ?_; refine Keeps.step (compaction_keeps ..) rfl ?_; assumption
  exact Keeps.refl _ _

theorem relocation_keeps (recovered) (addr) (old) (unit) (s : State) :
    Keeps 0x3000000c0000000000810000 s (relocation recovered addr old unit s) := by
  unfold relocation
  dsimp only; split; refine Keeps.step (modBand_keeps ..) rfl ?_; refine Keeps.step (modBand_keeps ..) rfl ?_
  refine Keeps.step (roleRecord_keeps ..) rfl ?_; exact Keeps.refl _ _; refine Keeps.step (roleRecord_keeps ..) rfl ?_
  exact Keeps.refl _ _

theorem execSectorRelocation_keeps (recovered) (addr) (old) (unit) (s : State) :
    KeepsRes 0x3000000c0000000000810000 s (execSectorRelocation recovered addr old unit s) := by
  unfold execSectorRelocation
  refine KeepsRes.next ?_; refine live_keeps _ (fun w hw => ?_) ?_; refine Keeps.step (relocation_keeps ..) rfl ?_; assumption
  exact Keeps.refl _ _

end Sys2Proof.Machine
end

