-- ==== Sys2Proof/Laws/Keeps/Solder.lean ====
section
/-!
SUPPORT. What each operation of Machine/Solder.lean keeps: the mask names the register blocks (bits 0 to 63) and the parts of State (bit
64 on) that the operation may change; everything outside it stays.
-/
namespace Sys2Proof.Machine

theorem srcEnd_keeps (id) (status) (s : State) : Keeps 0x2000000000000040000000000 s (srcEnd id status s) := by
  unfold srcEnd
  split; exact Keeps.refl _ _; dsimp only; refine State.on_keeps _ ?_ ?_; exact rfl; refine Keeps.step (modSld_keeps ..) rfl ?_
  exact Keeps.refl _ _

theorem mbAnswer_keeps (tag) (status) (data) (s : State) : Keeps 0x2000000000000040000000000 s (mbAnswer tag status data s) := by
  unfold mbAnswer
  split; exact Keeps.refl _ _; dsimp only; split; refine State.set_keeps _ _ ?_ ?_; rw [Fld.blk_inBank]; exact rfl
  refine State.set_keeps _ _ ?_ ?_; rw [Fld.blk_inBank]; exact rfl; refine State.on_keeps _ ?_ ?_; rw [Fld.blk_inBank]
  exact rfl; refine Keeps.step (modSld_keeps ..) rfl ?_; exact Keeps.refl _ _; refine State.set_keeps _ _ ?_ ?_
  rw [Fld.blk_inBank]; exact rfl; refine State.on_keeps _ ?_ ?_; rw [Fld.blk_inBank]; exact rfl
  refine Keeps.step (modSld_keeps ..) rfl ?_; exact Keeps.refl _ _

theorem ownDrop_keeps (k) (s : State) : Keeps 0x2000000000000040000000000 s (ownDrop k s) := by
  unfold ownDrop
  split; refine Keeps.step (srcEnd_keeps ..) rfl ?_; exact Keeps.refl _ _; refine Keeps.step (srcEnd_keeps ..) rfl ?_
  exact Keeps.refl _ _; refine Keeps.step (srcEnd_keeps ..) rfl ?_; exact Keeps.refl _ _
  refine Keeps.step (mbAnswer_keeps ..) rfl ?_; exact Keeps.refl _ _; exact Keeps.refl _ _

theorem portAsk_keeps (p) (s : State) : Keeps 0x20001002000000400100000c0 s (portAsk p s) := by
  unfold portAsk
  split; dsimp only; split; refine Keeps.step (portDrain_keeps ..) rfl ?_; refine Keeps.step (hwAsk_keeps ..) rfl ?_
  exact Keeps.refl _ _; refine State.on_keeps _ ?_ ?_; exact rfl; refine Keeps.step (hwAsk_keeps ..) rfl ?_
  exact Keeps.refl _ _; exact Keeps.refl _ _

theorem sldSend_keeps (from_) (ks) (s : State) : Keeps 0x20001002000000400100000c0 s (sldSend from_ ks s) := by
  unfold sldSend
  dsimp only; refine Keeps.step (portAsk_keeps ..) rfl ?_; refine Keeps.step (portAsk_keeps ..) rfl ?_
  refine Keeps.step (portAsk_keeps ..) rfl ?_; refine Keeps.step (portAsk_keeps ..) rfl ?_
  refine Keeps.foldl (fun w e hw => ?_) ?_; refine Keeps.step (ownDrop_keeps ..) rfl ?_; assumption
  refine Keeps.step (handAll_keeps ..) rfl ?_; exact Keeps.refl _ _

theorem copyAnswer_keeps (node) (id) (ans) (s : State) : Keeps 0x20001002000000400100000c0 s (copyAnswer node id ans s) := by
  unfold copyAnswer; refine Keeps.step (sldSend_keeps ..) rfl ?_; exact Keeps.refl _ _

theorem setPort_keeps (p) (st) (s : State) : Keeps 0x40000000000 s (setPort p st s) := by
  unfold setPort
  refine State.set_keeps _ _ ?_ ?_; rw [SLD_P_STAT_STATE_blk]; exact rfl; exact Keeps.refl _ _

theorem portLeaves_keeps (p) (s : State) : Keeps 0x40000000000 s (portLeaves p s) := by
  unfold portLeaves
  refine State.when_keeps _ _ (fun w hw => ?_) ?_; refine State.on_keeps _ ?_ ?_; exact rfl; assumption; exact Keeps.refl _ _

theorem portDisable_keeps (p) (s : State) : Keeps 0x2000000000000040000000000 s (portDisable p s) := by
  unfold portDisable
  refine Keeps.step (setPort_keeps ..) rfl ?_; refine Keeps.step (modPort_keeps ..) rfl ?_
  refine Keeps.step (portLeaves_keeps ..) rfl ?_; exact Keeps.refl _ _

theorem portFail_keeps (st) (p) (s : State) : Keeps 0x40000000000 s (portFail st p s) := by
  unfold portFail
  refine State.when_keeps _ _ (fun w hw => ?_) ?_; refine Keeps.step (setPort_keeps ..) rfl ?_; assumption; exact Keeps.refl _ _

theorem portEnable_keeps (p) (s : State) : Keeps 0x40000000000 s (portEnable p s) := by
  unfold portEnable
  refine State.when_keeps _ _ (fun w hw => ?_) ?_; refine Keeps.step (setPort_keeps ..) rfl ?_; assumption; exact Keeps.refl _ _

theorem execPortEnable_keeps (p) (s : State) : KeepsRes 0x40000000000 s (execPortEnable p s) := by
  unfold execPortEnable
  refine KeepsRes.next ?_; refine live_keeps _ (fun w hw => ?_) ?_; refine Keeps.step (portEnable_keeps ..) rfl ?_; assumption
  exact Keeps.refl _ _

theorem execTrainLock_keeps (p) (s : State) : KeepsRes 0x40000000000 s (execTrainLock p s) := by
  unfold execTrainLock
  refine KeepsRes.next ?_; refine live_keeps _ (fun w hw => ?_) ?_; refine State.when_keeps _ _ (fun w hw => ?_) ?_
  refine Keeps.step (setPort_keeps ..) rfl ?_; assumption; assumption; exact Keeps.refl _ _

theorem execTrainTimeout_keeps (p) (s : State) : KeepsRes 0x40000000000 s (execTrainTimeout p s) := by
  unfold execTrainTimeout
  refine KeepsRes.next ?_; refine live_keeps _ (fun w hw => ?_) ?_; refine Keeps.step (portFail_keeps ..) rfl ?_; assumption
  exact Keeps.refl _ _

theorem execFrameAlign_keeps (p) (s : State) : KeepsRes 0x40000000000 s (execFrameAlign p s) := by
  unfold execFrameAlign
  refine KeepsRes.next ?_; refine live_keeps _ (fun w hw => ?_) ?_; refine State.when_keeps _ _ (fun w hw => ?_) ?_
  refine Keeps.step (setPort_keeps ..) rfl ?_; assumption; assumption; exact Keeps.refl _ _

theorem execAlignTimeout_keeps (p) (s : State) : KeepsRes 0x40000000000 s (execAlignTimeout p s) := by
  unfold execAlignTimeout
  refine KeepsRes.next ?_; refine live_keeps _ (fun w hw => ?_) ?_; refine Keeps.step (portFail_keeps ..) rfl ?_; assumption
  exact Keeps.refl _ _

theorem helloSend_keeps (p) (s : State) : Keeps 0x200000000000000000 s (helloSend p s) := by
  unfold helloSend
  refine State.when_keeps _ _ (fun w hw => ?_) ?_; refine State.emit_keeps _ ?_ ?_; exact rfl; assumption; exact Keeps.refl _ _

theorem execHelloSend_keeps (p) (s : State) : KeepsRes 0x200000000000000000 s (execHelloSend p s) := by
  unfold execHelloSend
  refine KeepsRes.next ?_; refine live_keeps _ (fun w hw => ?_) ?_; refine Keeps.step (helloSend_keeps ..) rfl ?_; assumption
  exact Keeps.refl _ _

theorem hello_keeps (p) (node) (port) (xdim) (ydim) (s : State) :
    Keeps 0x2000000000000040000000000 s (hello p node port xdim ydim s) := by
  unfold hello
  split; exact Keeps.refl _ _; dsimp only; split; refine Keeps.step (setPort_keeps ..) rfl ?_
  refine Keeps.step (modPort_keeps ..) rfl ?_; refine State.on_keeps _ ?_ ?_; exact rfl; refine State.set_keeps _ _ ?_ ?_
  rw [SLD_P_STAT_PEER_PORT_blk]; exact rfl; refine State.set_keeps _ _ ?_ ?_; rw [SLD_P_STAT_PEER_NODE_blk]; exact rfl
  exact Keeps.refl _ _; refine Keeps.step (setPort_keeps ..) rfl ?_; refine State.on_keeps _ ?_ ?_; exact rfl
  refine State.set_keeps _ _ ?_ ?_; rw [SLD_P_STAT_PEER_PORT_blk]; exact rfl; refine State.set_keeps _ _ ?_ ?_
  rw [SLD_P_STAT_PEER_NODE_blk]; exact rfl; exact Keeps.refl _ _

theorem execHello_keeps (p) (node) (port) (xdimM1) (ydimM1) (s : State) :
    KeepsRes 0x2000000000000040000000000 s (execHello p node port xdimM1 ydimM1 s) := by
  unfold execHello
  refine KeepsRes.next ?_; refine live_keeps _ (fun w hw => ?_) ?_; refine Keeps.step (hello_keeps ..) rfl ?_; assumption
  exact Keeps.refl _ _

theorem execHelloTimeout_keeps (p) (s : State) : KeepsRes 0x40000000000 s (execHelloTimeout p s) := by
  unfold execHelloTimeout
  refine KeepsRes.next ?_; refine live_keeps _ (fun w hw => ?_) ?_; refine Keeps.step (portFail_keeps ..) rfl ?_; assumption
  exact Keeps.refl _ _

theorem linkFailure_keeps (p) (s : State) : Keeps 0x20001802000000600100000c0 s (linkFailure p s) := by
  unfold linkFailure
  split; dsimp only; refine Keeps.step (sldSend_keeps ..) rfl ?_; refine Keeps.step (patTrig_keeps ..) rfl ?_
  refine Keeps.step (setPort_keeps ..) rfl ?_; refine Keeps.step (modPort_keeps ..) rfl ?_
  refine Keeps.step (portLeaves_keeps ..) rfl ?_; exact Keeps.refl _ _; exact Keeps.refl _ _

theorem execLinkFailure_keeps (p) (unc) (s : State) : KeepsRes 0x20001802000000600100000c0 s (execLinkFailure p unc s) := by
  unfold execLinkFailure
  refine KeepsRes.next ?_; refine live_keeps _ (fun w hw => ?_) ?_; refine Keeps.step (linkFailure_keeps ..) rfl ?_
  refine State.when_keeps _ _ (fun w hw => ?_) ?_; refine State.bump_keeps _ _ ?_ ?_; rw [SLD_P_FEC_UNC_COUNT_blk]; exact rfl
  assumption; assumption; exact Keeps.refl _ _

theorem execDownRetry_keeps (p) (s : State) : KeepsRes 0x40000000000 s (execDownRetry p s) := by
  unfold execDownRetry
  refine KeepsRes.next ?_; refine live_keeps _ (fun w hw => ?_) ?_; refine State.when_keeps _ _ (fun w hw => ?_) ?_
  refine Keeps.step (setPort_keeps ..) rfl ?_; assumption; assumption; exact Keeps.refl _ _

theorem portOff_keeps (p) (s : State) : Keeps 0x2000000000000040000000000 s (portOff p s) := by
  unfold portOff
  refine Keeps.step (portDisable_keeps ..) rfl ?_; refine State.off_keeps _ ?_ ?_; rw [SLD_P_CTL_EN_blk]; exact rfl
  exact Keeps.refl _ _

theorem execPortDisable_keeps (p) (s : State) : KeepsRes 0x2000000000000040000000000 s (execPortDisable p s) := by
  unfold execPortDisable
  refine KeepsRes.next ?_; refine live_keeps _ (fun w hw => ?_) ?_; refine Keeps.step (portOff_keeps ..) rfl ?_; assumption
  exact Keeps.refl _ _

theorem replayAll_keeps (p) (s : State) : Keeps 0x20001802000000600100000c0 s (replayAll p s) := by
  unfold replayAll
  dsimp only; split; exact Keeps.refl _ _; split; refine Keeps.step (linkFailure_keeps ..) rfl ?_; exact Keeps.refl _ _
  refine Keeps.foldl (fun w e hw => ?_) ?_; refine State.emit_keeps _ ?_ ?_; exact rfl; assumption
  refine Keeps.step (modPort_keeps ..) rfl ?_; refine State.bump_keeps _ _ ?_ ?_; rw [SLD_P_REPLAY_COUNT_blk]; exact rfl
  exact Keeps.refl _ _

theorem lack_keeps (p) (r) (next) (nak) (s : State) : Keeps 0x20001802000000600100000c0 s (lack p r next nak s) := by
  unfold lack
  split; exact Keeps.refl _ _; dsimp only; split; refine State.bump_keeps _ _ ?_ ?_; rw [SLD_P_FEC_UNC_COUNT_blk]; exact rfl
  refine State.bump_keeps _ _ ?_ ?_; rw [SLD_P_FEC_CORR_COUNT_blk]; exact rfl; exact Keeps.refl _ _; split
  refine State.bump_keeps _ _ ?_ ?_; rw [SLD_P_ERR_COUNT_blk]; exact rfl; refine State.bump_keeps _ _ ?_ ?_
  rw [SLD_P_FEC_CORR_COUNT_blk]; exact rfl; exact Keeps.refl _ _; refine Keeps.step (portAsk_keeps ..) rfl ?_
  refine Keeps.step (portDrain_keeps ..) rfl ?_; split; refine Keeps.step (replayAll_keeps ..) rfl ?_
  refine Keeps.step (modPort_keeps ..) rfl ?_; refine State.bump_keeps _ _ ?_ ?_; rw [SLD_P_FEC_CORR_COUNT_blk]; exact rfl
  exact Keeps.refl _ _; refine Keeps.step (modPort_keeps ..) rfl ?_; refine State.bump_keeps _ _ ?_ ?_
  rw [SLD_P_FEC_CORR_COUNT_blk]; exact rfl; exact Keeps.refl _ _

theorem execLack_keeps (p) (r) (next) (nak) (s : State) : KeepsRes 0x20001802000000600100000c0 s (execLack p r next nak s) := by
  unfold execLack
  refine KeepsRes.next ?_; refine live_keeps _ (fun w hw => ?_) ?_; refine Keeps.step (lack_keeps ..) rfl ?_; assumption
  exact Keeps.refl _ _

theorem lackSend_keeps (p) (s : State) : Keeps 0x2000000200000000000000000 s (lackSend p s) := by
  unfold lackSend
  split; refine Keeps.step (modPort_keeps ..) rfl ?_; refine State.emit_keeps _ ?_ ?_; exact rfl; exact Keeps.refl _ _
  exact Keeps.refl _ _

theorem execLackSend_keeps (p) (s : State) : KeepsRes 0x2000000200000000000000000 s (execLackSend p s) := by
  unfold execLackSend
  refine KeepsRes.next ?_; refine live_keeps _ (fun w hw => ?_) ?_; refine Keeps.step (lackSend_keeps ..) rfl ?_; assumption
  exact Keeps.refl _ _

theorem execReplayTimeout_keeps (p) (s : State) : KeepsRes 0x20001802000000600100000c0 s (execReplayTimeout p s) := by
  unfold execReplayTimeout
  refine KeepsRes.next ?_; refine live_keeps _ (fun w hw => ?_) ?_; refine State.when_keeps _ _ (fun w hw => ?_) ?_
  refine Keeps.step (replayAll_keeps ..) rfl ?_; assumption; assumption; exact Keeps.refl _ _

theorem rxTake_keeps (p) (r) (s : State) : Keeps 0x2000000000000040000000000 s (rxTake p r s).1 := by
  unfold rxTake
  split; dsimp only; exact Keeps.refl _ _; dsimp only; split; dsimp only; refine Keeps.step (modPort_keeps ..) rfl ?_
  refine State.bump_keeps _ _ ?_ ?_; rw [SLD_P_FEC_UNC_COUNT_blk]; exact rfl; refine State.bump_keeps _ _ ?_ ?_
  rw [SLD_P_FEC_CORR_COUNT_blk]; exact rfl; exact Keeps.refl _ _; split; dsimp only; refine Keeps.step (modPort_keeps ..) rfl ?_
  refine State.bump_keeps _ _ ?_ ?_; rw [SLD_P_ERR_COUNT_blk]; exact rfl; refine State.bump_keeps _ _ ?_ ?_
  rw [SLD_P_FEC_CORR_COUNT_blk]; exact rfl; exact Keeps.refl _ _; split; dsimp only; refine Keeps.step (modPort_keeps ..) rfl ?_
  refine State.bump_keeps _ _ ?_ ?_; rw [SLD_P_FEC_CORR_COUNT_blk]; exact rfl; exact Keeps.refl _ _; dsimp only
  refine Keeps.step (modPort_keeps ..) rfl ?_; refine State.bump_keeps _ _ ?_ ?_; rw [SLD_P_FEC_CORR_COUNT_blk]; exact rfl
  exact Keeps.refl _ _

theorem rxDo_keeps {m : Nat} {s t : State} (hm : 0x2000000000000040000000000 &&& m = 0x2000000000000040000000000) (h : Keeps m s t) (p) (r) (f) (hf : ∀ w, Keeps m s w → Keeps m s (f w)) :
    Keeps m s (rxDo p r f t) := by
  unfold rxDo
  dsimp only; split; refine hf  _ ?_; refine Keeps.step' hm (rxTake_keeps ..) rfl ?_; assumption
  refine Keeps.step' hm (rxTake_keeps ..) rfl ?_; assumption

theorem packetForward_keeps (p) (r) (reserved) (k) (s : State) :
    Keeps 0x20001002000000400100000c0 s (packetForward p r reserved k s) := by
  unfold packetForward
  split; refine rxDo_keeps (h := ?_) (hm := ?_) (hf := fun w hw => ?_) ..; rfl; exact Keeps.refl _ _
  refine State.bump_keeps _ _ ?_ ?_; rw [SLD_P_ERR_COUNT_blk]; exact rfl; assumption; split; exact Keeps.refl _ _
  refine rxDo_keeps (h := ?_) (hm := ?_) (hf := fun w hw => ?_) ..; rfl; exact Keeps.refl _ _
  refine Keeps.step (sldSend_keeps ..) rfl ?_; assumption

theorem execPacketForward_keeps (p) (r) (reserved) (k) (s : State) :
    KeepsRes 0x20001002000000400100000c0 s (execPacketForward p r reserved k s) := by
  unfold execPacketForward
  refine KeepsRes.next ?_; refine live_keeps _ (fun w hw => ?_) ?_; refine Keeps.step (packetForward_keeps ..) rfl ?_
  assumption; exact Keeps.refl _ _

theorem mapSpan_keeps (ns) (last) (fuel) (lba) (s : State) :
    Keeps 0x100080180000020000830000 s (mapSpan ns last fuel lba s).1 := by
  induction fuel generalizing s lba with
  | zero =>
    unfold mapSpan
    dsimp only; exact Keeps.refl _ _
  | succ k ih =>
    unfold mapSpan
    split; dsimp only; exact Keeps.refl _ _; dsimp only; split; split; dsimp only; refine Keeps.step (walk_keeps ..) rfl ?_
    exact Keeps.refl _ _; dsimp only; refine Keeps.step (ih ..) rfl ?_; refine Keeps.step (walk_keeps ..) rfl ?_
    exact Keeps.refl _ _; refine Keeps.step (ih ..) rfl ?_; refine Keeps.step (walk_keeps ..) rfl ?_; exact Keeps.refl _ _
    dsimp only; refine Keeps.step (walk_keeps ..) rfl ?_; exact Keeps.refl _ _; dsimp only
    refine Keeps.step (walk_keeps ..) rfl ?_; exact Keeps.refl _ _

theorem pieceSpan_keeps (ns) (chunk) (piece) (s : State) : Keeps 0x100080180000020000830000 s (pieceSpan ns chunk piece s).1 := by
  unfold pieceSpan
  dsimp only; refine Keeps.step (mapSpan_keeps ..) rfl ?_; exact Keeps.refl _ _

theorem modSrc_keeps (id) (f) (s : State) : Keeps 0x2000000000000000000000000 s (modSrc id f s) := by
  unfold modSrc; refine Keeps.step (modSld_keeps ..) rfl ?_; exact Keeps.refl _ _

theorem srcPiece_keeps (c) (piece) (first) (flits) (s : State) :
    Keeps 0x21001803800000600108300c0 s (srcPiece c piece first flits s) := by
  unfold srcPiece
  dsimp only; split; refine Keeps.step (srcEnd_keeps ..) rfl ?_; refine Keeps.step (pieceSpan_keeps ..) rfl ?_
  exact Keeps.refl _ _; refine Keeps.step (sldSend_keeps ..) rfl ?_; split; refine Keeps.step (modSrc_keeps ..) rfl ?_
  refine Keeps.step (pieceSpan_keeps ..) rfl ?_; exact Keeps.refl _ _; refine Keeps.step (pieceSpan_keeps ..) rfl ?_
  exact Keeps.refl _ _

theorem srcGo_keeps (id) (x1) (s : State) : Keeps 0x21001803800000600108300c0 s (srcGo id x1 s) := by
  induction x1 generalizing s with
  | nil =>
    unfold srcGo
    exact Keeps.refl _ _
  | cons e l ih =>
    unfold srcGo
    split; split; refine Keeps.step (ih ..) rfl ?_; refine Keeps.step (srcPiece_keeps ..) rfl ?_; exact Keeps.refl _ _
    exact Keeps.refl _ _; exact Keeps.refl _ _

theorem chunkSpan_keeps (ns) (chunk) (x2) (s : State) : Keeps 0x100080180000020000830000 s (chunkSpan ns chunk x2 s).1 := by
  induction x2 generalizing s with
  | nil =>
    unfold chunkSpan
    dsimp only; exact Keeps.refl _ _
  | cons e l ih =>
    unfold chunkSpan
    dsimp only; refine Keeps.step (ih ..) rfl ?_; refine Keeps.step (pieceSpan_keeps ..) rfl ?_; exact Keeps.refl _ _

theorem srcFinish_keeps (c) (digest) (s : State) : Keeps 0x21001803800000600108300c0 s (srcFinish c digest s) := by
  unfold srcFinish
  dsimp only; split; refine Keeps.step (srcEnd_keeps ..) rfl ?_; refine Keeps.step (chunkSpan_keeps ..) rfl ?_
  exact Keeps.refl _ _; refine Keeps.step (sldSend_keeps ..) rfl ?_; refine Keeps.step (modSrc_keeps ..) rfl ?_
  refine Keeps.step (chunkSpan_keeps ..) rfl ?_; exact Keeps.refl _ _

theorem copyResp_keeps (src) (id) (ans) (data) (digest) (s : State) :
    Keeps 0x21001803800000600108300c0 s (copyResp src id ans data digest s) := by
  unfold copyResp
  split; exact Keeps.refl _ _; split; refine Keeps.step (srcEnd_keeps ..) rfl ?_; exact Keeps.refl _ _; split
  exact Keeps.refl _ _; split; split; refine Keeps.step (srcGo_keeps ..) rfl ?_; refine Keeps.step (modSrc_keeps ..) rfl ?_
  exact Keeps.refl _ _; exact Keeps.refl _ _; split; exact Keeps.refl _ _; dsimp only; split
  refine Keeps.step (srcFinish_keeps ..) rfl ?_; refine Keeps.step (modSrc_keeps ..) rfl ?_; exact Keeps.refl _ _
  refine Keeps.step (srcGo_keeps ..) rfl ?_; refine Keeps.step (modSrc_keeps ..) rfl ?_; exact Keeps.refl _ _; split
  exact Keeps.refl _ _; split; refine Keeps.step (srcEnd_keeps ..) rfl ?_; exact Keeps.refl _ _; dsimp only
  refine Keeps.step (srcPiece_keeps ..) rfl ?_; refine Keeps.step (modSrc_keeps ..) rfl ?_; exact Keeps.refl _ _
  refine Keeps.step (srcEnd_keeps ..) rfl ?_; exact Keeps.refl _ _; split; refine Keeps.step (srcEnd_keeps ..) rfl ?_
  exact Keeps.refl _ _; exact Keeps.refl _ _; split; refine Keeps.step (srcEnd_keeps ..) rfl ?_; exact Keeps.refl _ _
  exact Keeps.refl _ _; refine Keeps.step (srcEnd_keeps ..) rfl ?_; exact Keeps.refl _ _; exact Keeps.refl _ _

theorem execCopyResp_keeps (p) (r) (src) (id) (ans) (data) (digest) (s : State) :
    KeepsRes 0x21001803800000600108300c0 s (execCopyResp p r src id ans data digest s) := by
  unfold execCopyResp
  refine KeepsRes.next ?_; refine live_keeps _ (fun w hw => ?_) ?_
  refine rxDo_keeps (h := ?_) (hm := ?_) (hf := fun w hw => ?_) ..; rfl; assumption
  refine Keeps.step (copyResp_keeps ..) rfl ?_; assumption; exact Keeps.refl _ _

theorem copyable_keeps (ns) (chunk) (s : State) : Keeps 0x100080180000020000820000 s (copyable ns chunk s).1 := by
  unfold copyable
  split; dsimp only; exact Keeps.refl _ _; split; dsimp only; exact Keeps.refl _ _; dsimp only
  refine Keeps.step (readImage_keeps ..) rfl ?_; exact Keeps.refl _ _

theorem copyStart_keeps (r) (w0) (w1) (w2) (tag) (s : State) :
    Keeps 0x20001003000000400100000c0 s (copyStart r w0 w1 w2 tag s) := by
  unfold copyStart
  dsimp only; refine Keeps.step (sldSend_keeps ..) rfl ?_; refine State.set_keeps _ _ ?_ ?_; rw [Fld.blk_of]; exact rfl
  refine Keeps.step (modSld_keeps ..) rfl ?_; refine State.draw_keeps ?_ ?_; exact rfl; exact Keeps.refl _ _

theorem copyCommit_keeps (r) (w3) (s : State) : Keeps 0x21001803800000600108200c0 s (copyCommit r w3 s) := by
  unfold copyCommit
  dsimp only; split; split; refine Keeps.step (copyStart_keeps ..) rfl ?_; refine State.on_keeps _ ?_ ?_
  rw [Fld.blk_of]; exact rfl; refine State.set_keeps _ _ ?_ ?_; rw [Fld.blk_of]; exact rfl; split
  refine Keeps.step (copyable_keeps ..) rfl ?_; refine State.set_keeps _ _ ?_ ?_; rw [Fld.blk_of, SLD_CP_W_blk]; exact rfl
  exact Keeps.refl _ _; refine State.set_keeps _ _ ?_ ?_; rw [Fld.blk_of, SLD_CP_W_blk]; exact rfl; exact Keeps.refl _ _
  refine State.on_keeps _ ?_ ?_; rw [Fld.blk_of]; exact rfl; refine State.set_keeps _ _ ?_ ?_; rw [Fld.blk_of]; exact rfl; split
  refine Keeps.step (copyable_keeps ..) rfl ?_; refine State.set_keeps _ _ ?_ ?_; rw [Fld.blk_of, SLD_CP_W_blk]; exact rfl
  exact Keeps.refl _ _; refine State.set_keeps _ _ ?_ ?_; rw [Fld.blk_of, SLD_CP_W_blk]; exact rfl; exact Keeps.refl _ _; split
  split; refine Keeps.step (copyStart_keeps ..) rfl ?_; refine State.on_keeps _ ?_ ?_; rw [Fld.blk_of]; exact rfl
  refine State.set_keeps _ _ ?_ ?_; rw [Fld.blk_of]; exact rfl; split; refine Keeps.step (copyable_keeps ..) rfl ?_
  refine State.set_keeps _ _ ?_ ?_; rw [Fld.blk_of, SLD_CP_W_blk]; exact rfl; exact Keeps.refl _ _
  refine State.set_keeps _ _ ?_ ?_; rw [Fld.blk_of, SLD_CP_W_blk]; exact rfl; exact Keeps.refl _ _
  refine State.on_keeps _ ?_ ?_; rw [Fld.blk_of]; exact rfl; refine State.set_keeps _ _ ?_ ?_; rw [Fld.blk_of]; exact rfl; split
  refine Keeps.step (copyable_keeps ..) rfl ?_; refine State.set_keeps _ _ ?_ ?_; rw [Fld.blk_of, SLD_CP_W_blk]; exact rfl
  exact Keeps.refl _ _; refine State.set_keeps _ _ ?_ ?_; rw [Fld.blk_of, SLD_CP_W_blk]; exact rfl; exact Keeps.refl _ _; split
  split; refine Keeps.step (copyStart_keeps ..) rfl ?_; refine State.on_keeps _ ?_ ?_; rw [Fld.blk_of]; exact rfl
  refine State.set_keeps _ _ ?_ ?_; rw [Fld.blk_of]; exact rfl; split; refine Keeps.step (copyable_keeps ..) rfl ?_
  refine State.set_keeps _ _ ?_ ?_; rw [Fld.blk_of, SLD_CP_W_blk]; exact rfl; exact Keeps.refl _ _
  refine State.set_keeps _ _ ?_ ?_; rw [Fld.blk_of, SLD_CP_W_blk]; exact rfl; exact Keeps.refl _ _
  refine State.on_keeps _ ?_ ?_; rw [Fld.blk_of]; exact rfl; refine State.set_keeps _ _ ?_ ?_; rw [Fld.blk_of]; exact rfl; split
  refine Keeps.step (copyable_keeps ..) rfl ?_; refine State.set_keeps _ _ ?_ ?_; rw [Fld.blk_of, SLD_CP_W_blk]; exact rfl
  exact Keeps.refl _ _; refine State.set_keeps _ _ ?_ ?_; rw [Fld.blk_of, SLD_CP_W_blk]; exact rfl; exact Keeps.refl _ _; split
  split; refine Keeps.step (copyStart_keeps ..) rfl ?_; refine State.on_keeps _ ?_ ?_; rw [Fld.blk_of]; exact rfl
  refine State.set_keeps _ _ ?_ ?_; rw [Fld.blk_of]; exact rfl; split; refine Keeps.step (copyable_keeps ..) rfl ?_
  refine State.set_keeps _ _ ?_ ?_; rw [Fld.blk_of, SLD_CP_W_blk]; exact rfl; exact Keeps.refl _ _
  refine State.set_keeps _ _ ?_ ?_; rw [Fld.blk_of, SLD_CP_W_blk]; exact rfl; exact Keeps.refl _ _
  refine State.on_keeps _ ?_ ?_; rw [Fld.blk_of]; exact rfl; refine State.set_keeps _ _ ?_ ?_; rw [Fld.blk_of]; exact rfl; split
  refine Keeps.step (copyable_keeps ..) rfl ?_; refine State.set_keeps _ _ ?_ ?_; rw [Fld.blk_of, SLD_CP_W_blk]; exact rfl
  exact Keeps.refl _ _; refine State.set_keeps _ _ ?_ ?_; rw [Fld.blk_of, SLD_CP_W_blk]; exact rfl; exact Keeps.refl _ _; split
  refine Keeps.step (copyStart_keeps ..) rfl ?_; refine State.on_keeps _ ?_ ?_; rw [Fld.blk_of]; exact rfl
  refine State.set_keeps _ _ ?_ ?_; rw [Fld.blk_of]; exact rfl; split; refine Keeps.step (copyable_keeps ..) rfl ?_
  refine State.set_keeps _ _ ?_ ?_; rw [Fld.blk_of, SLD_CP_W_blk]; exact rfl; exact Keeps.refl _ _
  refine State.set_keeps _ _ ?_ ?_; rw [Fld.blk_of, SLD_CP_W_blk]; exact rfl; exact Keeps.refl _ _
  refine State.on_keeps _ ?_ ?_; rw [Fld.blk_of]; exact rfl; refine State.set_keeps _ _ ?_ ?_; rw [Fld.blk_of]; exact rfl; split
  refine Keeps.step (copyable_keeps ..) rfl ?_; refine State.set_keeps _ _ ?_ ?_; rw [Fld.blk_of, SLD_CP_W_blk]; exact rfl
  exact Keeps.refl _ _; refine State.set_keeps _ _ ?_ ?_; rw [Fld.blk_of, SLD_CP_W_blk]; exact rfl; exact Keeps.refl _ _

theorem execCopyCommit_keeps (r) (w3) (s : State) : KeepsRes 0x21001803800000600108200c0 s (execCopyCommit r w3 s) := by
  unfold execCopyCommit
  refine KeepsRes.next ?_; refine live_keeps _ (fun w hw => ?_) ?_; refine Keeps.step (copyCommit_keeps ..) rfl ?_; assumption
  exact Keeps.refl _ _

theorem dstGone_keeps (c) (s : State) : Keeps 0x2000000000000000000000000 s (dstGone c s) := by
  unfold dstGone; refine Keeps.step (modSld_keeps ..) rfl ?_; exact Keeps.refl _ _

theorem dstDrop_keeps (c) (s : State) : Keeps 0x2200000000000000000000000 s (dstDrop c s) := by
  unfold dstDrop
  refine Keeps.step (freeBand_keeps ..) rfl ?_; refine Keeps.step (dstGone_keeps ..) rfl ?_; exact Keeps.refl _ _

theorem dstAbort_keeps (c) (s : State) : Keeps 0x22001002000000400100000c0 s (dstAbort c s) := by
  unfold dstAbort
  refine Keeps.step (copyAnswer_keeps ..) rfl ?_; refine Keeps.step (dstDrop_keeps ..) rfl ?_; exact Keeps.refl _ _

theorem dstAbortChunk_keeps (ns) (chunk) (s : State) : Keeps 0x22001002000000400100000c0 s (dstAbortChunk ns chunk s) := by
  unfold dstAbortChunk
  refine Keeps.foldl (fun w e hw => ?_) ?_; split; refine Keeps.step (dstAbort_keeps ..) rfl ?_; assumption; assumption
  exact Keeps.refl _ _

theorem copyAccept_keeps (ns) (chunk) (md) (s : State) : Keeps 0x100080180000020000820000 s (copyAccept ns chunk md s).1 := by
  unfold copyAccept
  split; dsimp only; exact Keeps.refl _ _; dsimp only; refine Keeps.step (readImage_keeps ..) rfl ?_; exact Keeps.refl _ _

theorem copyReq_keeps (src) (id) (ns) (chunk) (md) (band) (s : State) :
    Keeps 0x23001803800000600108200c0 s (copyReq src id ns chunk md band s) := by
  unfold copyReq
  dsimp only; split; refine Keeps.step (copyAnswer_keeps ..) rfl ?_; refine Keeps.step (copyAccept_keeps ..) rfl ?_
  exact Keeps.refl _ _; split; exact Keeps.refl _ _; refine Keeps.step (copyAnswer_keeps ..) rfl ?_
  refine Keeps.step (modBand_keeps ..) rfl ?_; refine Keeps.step (modSld_keeps ..) rfl ?_
  refine Keeps.step (copyAccept_keeps ..) rfl ?_; exact Keeps.refl _ _

theorem execCopyReq_keeps (p) (r) (src) (id) (ns) (chunk) (md) (band) (s : State) :
    KeepsRes 0x23001803800000600108200c0 s (execCopyReq p r src id ns chunk md band s) := by
  unfold execCopyReq
  refine KeepsRes.next ?_; refine live_keeps _ (fun w hw => ?_) ?_
  refine rxDo_keeps (h := ?_) (hm := ?_) (hf := fun w hw => ?_) ..; rfl; assumption; refine Keeps.step (copyReq_keeps ..) rfl ?_
  assumption; exact Keeps.refl _ _

theorem modDst_keeps (c) (f) (s : State) : Keeps 0x2000000000000000000000000 s (modDst c f s) := by
  unfold modDst; refine Keeps.step (modSld_keeps ..) rfl ?_; exact Keeps.refl _ _

theorem dstResend_keeps (c) (piece) (s : State) : Keeps 0x22001002000000400100000c0 s (dstResend c piece s) := by
  unfold dstResend
  dsimp only; split; refine Keeps.step (dstDrop_keeps ..) rfl ?_; refine Keeps.step (copyAnswer_keeps ..) rfl ?_
  exact Keeps.refl _ _; refine Keeps.step (modDst_keeps ..) rfl ?_; refine Keeps.step (copyAnswer_keeps ..) rfl ?_
  exact Keeps.refl _ _

theorem copyData_keeps (src) (id) (piece) (comp) (last) (ofs) (decOk) (s : State) :
    Keeps 0x22001002000000400100000c0 s (copyData src id piece comp last ofs decOk s) := by
  unfold copyData
  split; exact Keeps.refl _ _; split; exact Keeps.refl _ _; dsimp only; split; split; split
  refine Keeps.step (modDst_keeps ..) rfl ?_; exact Keeps.refl _ _; split; refine Keeps.step (dstResend_keeps ..) rfl ?_
  refine Keeps.step (modDst_keeps ..) rfl ?_; exact Keeps.refl _ _; refine Keeps.step (copyAnswer_keeps ..) rfl ?_
  refine Keeps.step (modBand_keeps ..) rfl ?_; refine Keeps.step (modDst_keeps ..) rfl ?_
  refine Keeps.step (modDst_keeps ..) rfl ?_; exact Keeps.refl _ _; split; refine Keeps.step (modDst_keeps ..) rfl ?_
  exact Keeps.refl _ _; split; refine Keeps.step (dstResend_keeps ..) rfl ?_; refine Keeps.step (modDst_keeps ..) rfl ?_
  exact Keeps.refl _ _; refine Keeps.step (copyAnswer_keeps ..) rfl ?_; refine Keeps.step (modBand_keeps ..) rfl ?_
  refine Keeps.step (modDst_keeps ..) rfl ?_; refine Keeps.step (modDst_keeps ..) rfl ?_; exact Keeps.refl _ _; split; split
  refine Keeps.step (modDst_keeps ..) rfl ?_; exact Keeps.refl _ _; split; refine Keeps.step (dstResend_keeps ..) rfl ?_
  refine Keeps.step (modDst_keeps ..) rfl ?_; exact Keeps.refl _ _; refine Keeps.step (copyAnswer_keeps ..) rfl ?_
  refine Keeps.step (modBand_keeps ..) rfl ?_; refine Keeps.step (modDst_keeps ..) rfl ?_
  refine Keeps.step (modDst_keeps ..) rfl ?_; exact Keeps.refl _ _; split; refine Keeps.step (modDst_keeps ..) rfl ?_
  exact Keeps.refl _ _; split; refine Keeps.step (dstResend_keeps ..) rfl ?_; refine Keeps.step (modDst_keeps ..) rfl ?_
  exact Keeps.refl _ _; refine Keeps.step (copyAnswer_keeps ..) rfl ?_; refine Keeps.step (modBand_keeps ..) rfl ?_
  refine Keeps.step (modDst_keeps ..) rfl ?_; refine Keeps.step (modDst_keeps ..) rfl ?_; exact Keeps.refl _ _

theorem execData_keeps (p) (r) (src) (id) (piece) (comp) (last) (ofs) (decOk) (s : State) :
    KeepsRes 0x22001002000000400100000c0 s (execData p r src id piece comp last ofs decOk s) := by
  unfold execData
  refine KeepsRes.next ?_; refine live_keeps _ (fun w hw => ?_) ?_
  refine rxDo_keeps (h := ?_) (hm := ?_) (hf := fun w hw => ?_) ..; rfl; assumption
  refine Keeps.step (copyData_keeps ..) rfl ?_; assumption; exact Keeps.refl _ _

theorem pieceTimeout_keeps (src) (id) (piece) (s : State) : Keeps 0x22001002000000400100000c0 s (pieceTimeout src id piece s) := by
  unfold pieceTimeout
  split; exact Keeps.refl _ _; split; refine Keeps.step (dstResend_keeps ..) rfl ?_; exact Keeps.refl _ _; exact Keeps.refl _ _

theorem execPieceTimeout_keeps (src) (id) (piece) (s : State) :
    KeepsRes 0x22001002000000400100000c0 s (execPieceTimeout src id piece s) := by
  unfold execPieceTimeout
  refine KeepsRes.next ?_; refine live_keeps _ (fun w hw => ?_) ?_; refine Keeps.step (pieceTimeout_keeps ..) rfl ?_; assumption
  exact Keeps.refl _ _

theorem copyEnd_keeps (src) (id) (digest) (own) (addr) (s : State) :
    Keeps 0x23001802c00000600108100c0 s (copyEnd src id digest own addr s) := by
  unfold copyEnd
  split; refine Keeps.step (copyAnswer_keeps ..) rfl ?_; exact Keeps.refl _ _; split; dsimp only; split
  refine Keeps.step (copyAnswer_keeps ..) rfl ?_; refine Keeps.step (modBand_keeps ..) rfl ?_
  refine Keeps.step (dstGone_keeps ..) rfl ?_; refine Keeps.step (roleRecord_keeps ..) rfl ?_; exact Keeps.refl _ _
  refine Keeps.step (dstAbort_keeps ..) rfl ?_; refine Keeps.step (roleRecord_keeps ..) rfl ?_; exact Keeps.refl _ _
  refine Keeps.step (patTrig_keeps ..) rfl ?_; refine Keeps.step (copyAnswer_keeps ..) rfl ?_
  refine Keeps.step (dstDrop_keeps ..) rfl ?_; exact Keeps.refl _ _

theorem execCopyEnd_keeps (p) (r) (src) (id) (digest) (own) (addr) (s : State) :
    KeepsRes 0x23001802c00000600108100c0 s (execCopyEnd p r src id digest own addr s) := by
  unfold execCopyEnd
  refine KeepsRes.next ?_; refine live_keeps _ (fun w hw => ?_) ?_
  refine rxDo_keeps (h := ?_) (hm := ?_) (hf := fun w hw => ?_) ..; rfl; assumption; refine Keeps.step (copyEnd_keeps ..) rfl ?_
  assumption; exact Keeps.refl _ _

theorem copyTimeout_keeps (src) (id) (s : State) : Keeps 0x2200000000000040000000000 s (copyTimeout src id s) := by
  unfold copyTimeout
  split; refine Keeps.step (srcEnd_keeps ..) rfl ?_; exact Keeps.refl _ _; split; refine Keeps.step (dstDrop_keeps ..) rfl ?_
  exact Keeps.refl _ _; exact Keeps.refl _ _

theorem execCopyTimeout_keeps (src) (id) (s : State) : KeepsRes 0x2200000000000040000000000 s (execCopyTimeout src id s) := by
  unfold execCopyTimeout
  refine KeepsRes.next ?_; refine live_keeps _ (fun w hw => ?_) ?_; refine Keeps.step (copyTimeout_keeps ..) rfl ?_; assumption
  exact Keeps.refl _ _

theorem execCopyCompletionPop_keeps (s : State) : KeepsRes 0x2000000000000000000000000 s (execCopyCompletionPop s) := by
  unfold execCopyCompletionPop
  refine KeepsRes.next ?_; refine live_keeps _ (fun w hw => ?_) ?_; refine Keeps.step (modSld_keeps ..) rfl ?_; assumption
  exact Keeps.refl _ _

theorem copiesAbort_keeps (s : State) : Keeps 0x22001002000000400100000c0 s (copiesAbort s) := by
  unfold copiesAbort
  dsimp only; refine Keeps.foldl (fun w e hw => ?_) ?_; refine Keeps.step (dstAbort_keeps ..) rfl ?_; assumption
  refine Keeps.foldl (fun w e hw => ?_) ?_; refine Keeps.step (srcEnd_keeps ..) rfl ?_; assumption; exact Keeps.refl _ _

theorem portsDisable_keeps (s : State) : Keeps 0x2000000000000040000000000 s (portsDisable s) := by
  unfold portsDisable
  refine Keeps.step (portDisable_keeps ..) rfl ?_; refine Keeps.step (portDisable_keeps ..) rfl ?_
  refine Keeps.step (portDisable_keeps ..) rfl ?_; refine Keeps.step (portDisable_keeps ..) rfl ?_; exact Keeps.refl _ _

theorem sldDisable_keeps (s : State) : Keeps 0x22001002000000400100000c0 s (sldDisable s) := by
  unfold sldDisable
  refine Keeps.step (copiesAbort_keeps ..) rfl ?_; refine Keeps.step (portsDisable_keeps ..) rfl ?_
  refine State.off_keeps _ ?_ ?_; exact rfl; exact Keeps.refl _ _

theorem rxqPut_keeps (x0) (s : State) : Keeps 0x2000000000000040000000000 s (rxqPut x0 s) := by
  unfold rxqPut
  split; refine State.on_keeps _ ?_ ?_; exact rfl; refine Keeps.step (modSld_keeps ..) rfl ?_; exact Keeps.refl _ _
  exact Keeps.refl _ _

theorem leaseMsg_keeps {m : Nat} {s t : State} (hm : 0x2000000000000040000000000 &&& m = 0x2000000000000040000000000) (h : Keeps m s t) (p) (r) (x2) (f) (hf : ∀ w, Keeps m s w → Keeps m s (f w)) :
    Keeps m s (leaseMsg p r x2 f t) := by
  unfold leaseMsg
  split; refine rxDo_keeps (h := ?_) (hm := ?_) (hf := fun w hw => ?_) ..; exact mask_within hm rfl; assumption; refine hf  _ ?_
  refine Keeps.step' hm (rxqPut_keeps ..) rfl ?_; assumption; assumption

theorem execLeaseReq_keeps (p) (r) (src) (req) (ma) (dur) (s : State) :
    KeepsRes 0x2000000000000040000000000 s (execLeaseReq p r src req ma dur s) := by
  unfold execLeaseReq
  refine KeepsRes.next ?_; refine live_keeps _ (fun w hw => ?_) ?_
  refine leaseMsg_keeps (h := ?_) (hm := ?_) (hf := fun w hw => ?_) ..; rfl; assumption; dsimp only [id]; assumption
  exact Keeps.refl _ _

theorem leaseIn_keeps (k) (src) (ma) (dur) (s : State) : Keeps 0x20001002000000000100000c0 s (leaseIn k src ma dur s) := by
  unfold leaseIn
  refine Keeps.step (leaseWrite_keeps ..) rfl ?_; refine State.set_keeps _ _ ?_ ?_; rw [BUL_LEASE_W1_END_blk]; exact rfl
  exact Keeps.refl _ _

theorem execLeaseGrant_keeps (p) (r) (src) (req) (ma) (dur) (k) (s : State) :
    KeepsRes 0x20001002000000400100000c0 s (execLeaseGrant p r src req ma dur k s) := by
  unfold execLeaseGrant
  refine KeepsRes.next ?_; refine live_keeps _ (fun w hw => ?_) ?_
  refine leaseMsg_keeps (h := ?_) (hm := ?_) (hf := fun w hw => ?_) ..; rfl; assumption
  refine Keeps.step (leaseIn_keeps ..) rfl ?_; assumption; exact Keeps.refl _ _

theorem execLeaseDeny_keeps (p) (r) (src) (req) (ma) (dur) (s : State) :
    KeepsRes 0x2000000000000040000000000 s (execLeaseDeny p r src req ma dur s) := by
  unfold execLeaseDeny
  refine KeepsRes.next ?_; refine live_keeps _ (fun w hw => ?_) ?_
  refine leaseMsg_keeps (h := ?_) (hm := ?_) (hf := fun w hw => ?_) ..; rfl; assumption; dsimp only [id]; assumption
  exact Keeps.refl _ _

theorem messageSend_keeps (r) (w2) (s : State) : Keeps 0x20001002000000400100000c0 s (messageSend r w2 s) := by
  unfold messageSend
  dsimp only; split; split; refine Keeps.step (sldSend_keeps ..) rfl ?_; refine State.on_keeps _ ?_ ?_
  rw [Fld.blk_of]; exact rfl; refine State.set_keeps _ _ ?_ ?_; rw [Fld.blk_of]; exact rfl; refine State.set_keeps _ _ ?_ ?_
  rw [Fld.blk_of, SLD_MSG_W_blk]; exact rfl; exact Keeps.refl _ _; refine State.on_keeps _ ?_ ?_; rw [Fld.blk_of]; exact rfl
  refine State.set_keeps _ _ ?_ ?_; rw [Fld.blk_of]; exact rfl; refine State.set_keeps _ _ ?_ ?_
  rw [Fld.blk_of, SLD_MSG_W_blk]; exact rfl; exact Keeps.refl _ _; split; split; refine Keeps.step (sldSend_keeps ..) rfl ?_
  refine State.on_keeps _ ?_ ?_; rw [Fld.blk_of]; exact rfl; refine State.set_keeps _ _ ?_ ?_; rw [Fld.blk_of]; exact rfl
  refine State.set_keeps _ _ ?_ ?_; rw [Fld.blk_of, SLD_MSG_W_blk]; exact rfl; exact Keeps.refl _ _
  refine State.on_keeps _ ?_ ?_; rw [Fld.blk_of]; exact rfl; refine State.set_keeps _ _ ?_ ?_; rw [Fld.blk_of]; exact rfl
  refine State.set_keeps _ _ ?_ ?_; rw [Fld.blk_of, SLD_MSG_W_blk]; exact rfl; exact Keeps.refl _ _; split
  refine Keeps.step (sldSend_keeps ..) rfl ?_; refine State.on_keeps _ ?_ ?_; rw [Fld.blk_of]; exact rfl
  refine State.set_keeps _ _ ?_ ?_; rw [Fld.blk_of]; exact rfl; refine State.set_keeps _ _ ?_ ?_
  rw [Fld.blk_of, SLD_MSG_W_blk]; exact rfl; exact Keeps.refl _ _; refine State.on_keeps _ ?_ ?_; rw [Fld.blk_of]; exact rfl
  refine State.set_keeps _ _ ?_ ?_; rw [Fld.blk_of]; exact rfl; refine State.set_keeps _ _ ?_ ?_
  rw [Fld.blk_of, SLD_MSG_W_blk]; exact rfl; exact Keeps.refl _ _

theorem execMessageSend_keeps (r) (w2) (s : State) : KeepsRes 0x20001002000000400100000c0 s (execMessageSend r w2 s) := by
  unfold execMessageSend
  refine KeepsRes.next ?_; refine live_keeps _ (fun w hw => ?_) ?_; refine Keeps.step (messageSend_keeps ..) rfl ?_; assumption
  exact Keeps.refl _ _

theorem execRxqPop_keeps (s : State) : KeepsRes 0x2000000000000000000000000 s (execRxqPop s) := by
  unfold execRxqPop
  refine KeepsRes.next ?_; refine live_keeps _ (fun w hw => ?_) ?_; refine Keeps.step (modSld_keeps ..) rfl ?_; assumption
  exact Keeps.refl _ _

theorem mailboxCommit_keeps (r) (w2) (s : State) : Keeps 0x20001002000000400100000c0 s (mailboxCommit r w2 s) := by
  unfold mailboxCommit
  dsimp only; split; refine State.on_keeps _ ?_ ?_; rw [Fld.blk_of]; exact rfl; refine State.set_keeps _ _ ?_ ?_
  rw [Fld.blk_of]; exact rfl; refine State.off_keeps _ ?_ ?_; rw [Fld.blk_of]; exact rfl; refine State.set_keeps _ _ ?_ ?_
  rw [Fld.blk_of, SLD_MB_W_blk]; exact rfl; exact Keeps.refl _ _; refine Keeps.step (sldSend_keeps ..) rfl ?_
  refine Keeps.step (modSld_keeps ..) rfl ?_; refine State.off_keeps _ ?_ ?_; rw [Fld.blk_of]; exact rfl
  refine State.set_keeps _ _ ?_ ?_; rw [Fld.blk_of, SLD_MB_W_blk]; exact rfl; exact Keeps.refl _ _

theorem execMailboxCommit_keeps (r) (w2) (s : State) : KeepsRes 0x20001002000000400100000c0 s (execMailboxCommit r w2 s) := by
  unfold execMailboxCommit
  refine KeepsRes.next ?_; refine live_keeps _ (fun w hw => ?_) ?_; refine Keeps.step (mailboxCommit_keeps ..) rfl ?_
  assumption; exact Keeps.refl _ _

theorem execMbResp_keeps (p) (r) (tag) (status) (data) (s : State) :
    KeepsRes 0x2000000000000040000000000 s (execMbResp p r tag status data s) := by
  unfold execMbResp
  refine KeepsRes.next ?_; refine live_keeps _ (fun w hw => ?_) ?_
  refine rxDo_keeps (h := ?_) (hm := ?_) (hf := fun w hw => ?_) ..; rfl; assumption
  refine Keeps.step (mbAnswer_keeps ..) rfl ?_; assumption; exact Keeps.refl _ _

theorem mailboxTimeout_keeps (r) (s : State) : Keeps 0x2000000000000040000000000 s (mailboxTimeout r s) := by
  unfold mailboxTimeout
  split; refine Keeps.step (mbAnswer_keeps ..) rfl ?_; exact Keeps.refl _ _; exact Keeps.refl _ _

theorem execMailboxTimeout_keeps (r) (s : State) : KeepsRes 0x2000000000000040000000000 s (execMailboxTimeout r s) := by
  unfold execMailboxTimeout
  refine KeepsRes.next ?_; refine live_keeps _ (fun w hw => ?_) ?_; refine Keeps.step (mailboxTimeout_keeps ..) rfl ?_
  assumption; exact Keeps.refl _ _

end Sys2Proof.Machine
end

