-- ==== Sys2Proof/Laws/Keeps/Power.lean ====
section
/-!
SUPPORT. What each operation of Machine/Power.lean keeps: the mask names the register blocks (bits 0 to 63) and the parts of State (bit
64 on) that the operation may change; everything outside it stays.
-/
namespace Sys2Proof.Machine

theorem modPwr_keeps (f) (s : State) : Keeps 0x4000000000000000000 s (modPwr f s) := by
  unfold modPwr; refine Keeps.upd_pwr _ ?_ ?_; exact rfl; exact Keeps.refl _ _

theorem saveBegin_keeps (skipEmpty) (s : State) : Keeps 0x80084400000020001000000 s (saveBegin skipEmpty s) := by
  unfold saveBegin
  dsimp only; refine Keeps.step (modVlt_keeps ..) rfl ?_; refine Keeps.upd_die_pwr _ _ ?_ ?_ ?_; exact rfl; exact rfl
  refine Keeps.foldl (fun w e hw => ?_) ?_; refine Keeps.step (vltPost_keeps ..) rfl ?_; assumption; exact Keeps.refl _ _

theorem setBelow_keeps (rail) (b) (s : State) : Keeps 0x4000000000000000000 s (setBelow rail b s) := by
  unfold setBelow; refine Keeps.step (modPwr_keeps ..) rfl ?_; exact Keeps.refl _ _

theorem syncFrozen_keeps (s : State) : Keeps 0x10000000 s (syncFrozen s) := by
  unfold syncFrozen; refine State.put_keeps _ _ ?_ ?_; exact rfl; exact Keeps.refl _ _

theorem supplyWarning_keeps (rail) (s : State) : Keeps 0x84000000020030000000 s (supplyWarning rail s) := by
  unfold supplyWarning
  split; split; exact Keeps.refl _ _; dsimp only; refine live_keeps _ (fun w hw => ?_) ?_
  refine Keeps.step (patTrig_keeps ..) rfl ?_; refine State.bump_keeps _ _ ?_ ?_; exact rfl
  refine Keeps.step (syncFrozen_keeps ..) rfl ?_; refine State.on_keeps _ ?_ ?_; exact rfl; assumption
  refine Keeps.step (setBelow_keeps ..) rfl ?_; exact Keeps.refl _ _; split; exact Keeps.refl _ _; dsimp only
  refine live_keeps _ (fun w hw => ?_) ?_; refine Keeps.step (patTrig_keeps ..) rfl ?_; refine State.bump_keeps _ _ ?_ ?_
  exact rfl; refine Keeps.step (syncFrozen_keeps ..) rfl ?_; refine State.on_keeps _ ?_ ?_; exact rfl; assumption
  refine Keeps.step (setBelow_keeps ..) rfl ?_; exact Keeps.refl _ _

theorem execSupplyWarning_keeps (rail) (s : State) : KeepsRes 0x84000000020030000000 s (execSupplyWarning rail s) := by
  unfold execSupplyWarning
  refine KeepsRes.next ?_; refine Keeps.step (supplyWarning_keeps ..) rfl ?_; exact Keeps.refl _ _

theorem supplyClear_keeps (s : State) : Keeps 0x20001046000000000100000c0 s (supplyClear s) := by
  unfold supplyClear
  dsimp only; split; refine Keeps.upd_die _ ?_ ?_; exact rfl; refine Keeps.step (modPwr_keeps ..) rfl ?_; exact Keeps.refl _ _
  refine live_keeps _ (fun w hw => ?_) ?_; refine Keeps.step (bulWalk_keeps ..) rfl ?_
  refine Keeps.step (syncFrozen_keeps ..) rfl ?_; assumption; refine Keeps.step (modPwr_keeps ..) rfl ?_; exact Keeps.refl _ _

theorem execSupplyWarningClear_keeps (s : State) : KeepsRes 0x20001046000000000100000c0 s (execSupplyWarningClear s) := by
  unfold execSupplyWarningClear
  refine KeepsRes.next ?_; refine Keeps.step (supplyClear_keeps ..) rfl ?_; exact Keeps.refl _ _

theorem powerDieLoss_keeps (s : State) : Keeps 0x200bf80b000000200100005dc s (powerDieLoss s) := by
  unfold powerDieLoss
  dsimp only; split; refine Keeps.upd_pd _ ?_ ?_; exact rfl; exact Keeps.refl _ _
  refine Keeps.step (rectifyEntry_keeps ..) rfl ?_; refine Keeps.step (retract_keeps ..) rfl ?_
  refine Keeps.step (retract_keeps ..) rfl ?_; refine Keeps.upd_pd _ ?_ ?_; exact rfl; exact Keeps.refl _ _

theorem supplyReset_keeps (rail) (s : State) : Keeps 0x208bf84f000000600110005dc s (supplyReset rail s) := by
  unfold supplyReset
  dsimp only; split; refine Keeps.upd_die _ ?_ ?_; exact rfl; refine Keeps.step (saveBegin_keeps ..) rfl ?_
  refine Keeps.step (portsDisable_keeps ..) rfl ?_; refine Keeps.step (emergency_keeps ..) rfl ?_
  refine Keeps.step (syncFrozen_keeps ..) rfl ?_; refine Keeps.step (powerDieLoss_keeps ..) rfl ?_
  refine Keeps.step (modPwr_keeps ..) rfl ?_; exact Keeps.refl _ _; refine Keeps.upd_die _ ?_ ?_; exact rfl
  refine Keeps.step (saveBegin_keeps ..) rfl ?_; refine Keeps.step (portsDisable_keeps ..) rfl ?_
  refine Keeps.step (emergency_keeps ..) rfl ?_; refine Keeps.step (syncFrozen_keeps ..) rfl ?_
  refine Keeps.step (powerDieLoss_keeps ..) rfl ?_; refine Keeps.step (modPwr_keeps ..) rfl ?_; exact Keeps.refl _ _
  refine Keeps.upd_die _ ?_ ?_; exact rfl; refine Keeps.step (powerDieLoss_keeps ..) rfl ?_
  refine Keeps.step (modPwr_keeps ..) rfl ?_; exact Keeps.refl _ _; refine Keeps.upd_die _ ?_ ?_; exact rfl
  refine Keeps.step (powerDieLoss_keeps ..) rfl ?_; refine Keeps.step (modPwr_keeps ..) rfl ?_; exact Keeps.refl _ _
  refine Keeps.step (powerDieLoss_keeps ..) rfl ?_; refine Keeps.step (modPwr_keeps ..) rfl ?_; exact Keeps.refl _ _

theorem execSupplyResetLevel_keeps (rail) (s : State) : KeepsRes 0x208bf84f000000600110005dc s (execSupplyResetLevel rail s) := by
  unfold execSupplyResetLevel
  refine KeepsRes.next ?_; refine Keeps.step (supplyReset_keeps ..) rfl ?_; exact Keeps.refl _ _

theorem setLvl_keeps (k) (x1) (s : State) : Keeps 0x4000000000000000000 s (setLvl k x1 s) := by
  unfold setLvl
  split; refine Keeps.step (modPwr_keeps ..) rfl ?_; exact Keeps.refl _ _; exact Keeps.refl _ _

theorem cmdOutcome_keeps (ctl) (sq) (cid) (st) (s : State) : Keeps 0x1000000000000000000000000 s (cmdOutcome ctl sq cid st s) := by
  unfold cmdOutcome; refine Keeps.upd_hif _ ?_ ?_; exact rfl; exact Keeps.refl _ _

theorem pwrReply_keeps (r) (sct) (sc) (s : State) : Keeps 0x1000000000000000000000000 s (pwrReply r sct sc s) := by
  unfold pwrReply
  split; exact Keeps.refl _ _; refine Keeps.step (cmdOutcome_keeps ..) rfl ?_; exact Keeps.refl _ _

theorem syncHeld_keeps (s : State) : Keeps 0x20000000 s (syncHeld s) := by
  unfold syncHeld
  split; refine State.off_keeps _ ?_ ?_; exact rfl; refine State.off_keeps _ ?_ ?_; exact rfl; exact Keeps.refl _ _
  refine State.set_keeps _ _ ?_ ?_; exact rfl; refine State.on_keeps _ ?_ ?_; exact rfl; exact Keeps.refl _ _

theorem modCtrl_keeps (c) (f) (s : State) : Keeps 0x1000000000000000000000000 s (modCtrl c f s) := by
  unfold modCtrl; refine Keeps.upd_hif _ ?_ ?_; exact rfl; exact Keeps.refl _ _

theorem eventTo_keeps (c) (code) (s : State) : Keeps 0x1000000000000000000000000 s (eventTo c code s) := by
  unfold eventTo
  split; exact Keeps.refl _ _; split; refine Keeps.step (modCtrl_keeps ..) rfl ?_; exact Keeps.refl _ _; dsimp only
  refine Keeps.upd_hif _ ?_ ?_; exact rfl; refine Keeps.step (modCtrl_keeps ..) rfl ?_; exact Keeps.refl _ _

theorem hostEvent_keeps (mask) (code) (s : State) : Keeps 0x1000000000000000000000000 s (hostEvent mask code s) := by
  unfold hostEvent
  dsimp only; split; split; refine Keeps.step (eventTo_keeps ..) rfl ?_; refine Keeps.step (eventTo_keeps ..) rfl ?_
  exact Keeps.refl _ _; refine Keeps.step (eventTo_keeps ..) rfl ?_; exact Keeps.refl _ _; split
  refine Keeps.step (eventTo_keeps ..) rfl ?_; exact Keeps.refl _ _; exact Keeps.refl _ _

theorem s4Lower_keeps (s : State) : Keeps 0x200b7843000000200100005cc s (s4Lower s) := by
  unfold s4Lower
  dsimp only; split; split; refine Keeps.step (cmdUnload_keeps ..) rfl ?_; refine Keeps.step (cmdUnload_keeps ..) rfl ?_
  refine Keeps.step (modPwr_keeps ..) rfl ?_; exact Keeps.refl _ _; refine Keeps.step (cmdUnload_keeps ..) rfl ?_
  refine Keeps.step (modPwr_keeps ..) rfl ?_; exact Keeps.refl _ _; split; refine Keeps.step (cmdUnload_keeps ..) rfl ?_
  refine Keeps.step (modPwr_keeps ..) rfl ?_; exact Keeps.refl _ _; refine Keeps.step (modPwr_keeps ..) rfl ?_
  exact Keeps.refl _ _

theorem s4Raise_keeps (s : State) : Keeps 0x200b7803000000200100005cc s (s4Raise s) := by
  unfold s4Raise
  dsimp only; split; split; refine Keeps.step (cmdLoad_keeps ..) rfl ?_; refine Keeps.step (cmdLoad_keeps ..) rfl ?_
  exact Keeps.refl _ _; refine Keeps.step (cmdLoad_keeps ..) rfl ?_; exact Keeps.refl _ _; split
  refine Keeps.step (cmdLoad_keeps ..) rfl ?_; exact Keeps.refl _ _; exact Keeps.refl _ _

theorem s3Lower_keeps (s : State) : Keeps 0x38000000000000040005000 s (s3Lower s) := by
  unfold s3Lower
  dsimp only; refine Keeps.upd_wch_rch_deep _ _ _ ?_ ?_ ?_ ?_; exact rfl; exact rfl; exact rfl
  refine Keeps.foldl (fun w e hw => ?_) ?_; refine Keeps.step (synthOut_keeps ..) rfl ?_; refine State.off_keeps _ ?_ ?_
  rw [RCH_SEL_READY_blk]; exact rfl; assumption; refine State.set_keeps _ _ ?_ ?_; exact rfl; exact Keeps.refl _ _

theorem s6Go_keeps (old) (new) (s : State) : Keeps 0x20009842000000200104000d0 s (s6Go old new s) := by
  unfold s6Go
  dsimp only; split; split; split; refine Keeps.step (modPwr_keeps ..) rfl ?_; exact Keeps.refl _ _
  refine Keeps.step (cmdStop_keeps ..) rfl ?_; refine Keeps.step (modPwr_keeps ..) rfl ?_; exact Keeps.refl _ _; split
  exact Keeps.refl _ _; refine Keeps.step (cmdStop_keeps ..) rfl ?_; exact Keeps.refl _ _
  refine Keeps.step (targetWrite_keeps ..) rfl ?_; split; refine Keeps.step (modPwr_keeps ..) rfl ?_; exact Keeps.refl _ _
  exact Keeps.refl _ _; refine Keeps.step (targetWrite_keeps ..) rfl ?_; split; refine Keeps.step (modPwr_keeps ..) rfl ?_
  exact Keeps.refl _ _; exact Keeps.refl _ _

theorem modeBoth_keeps (kind) (x1) (s : State) : Keeps 0x10000000000000000000c0 s (modeBoth kind x1 s) := by
  unfold modeBoth
  refine Keeps.step (modeFrame_keeps ..) rfl ?_; refine Keeps.step (modeFrame_keeps ..) rfl ?_; exact Keeps.refl _ _

theorem s7Go_keeps (new) (s : State) : Keeps 0x10100000000000400000c4 s (s7Go new s) := by
  unfold s7Go
  split; refine Keeps.step (modeBoth_keeps ..) rfl ?_; exact Keeps.refl _ _; refine Keeps.step (modeBoth_keeps ..) rfl ?_
  refine Keeps.step (modClk_keeps ..) rfl ?_; refine State.on_keeps _ ?_ ?_; exact rfl; refine State.set_keeps _ _ ?_ ?_
  rw [CLK_MUX_SEL_blk]; exact rfl; refine State.off_keeps _ ?_ ?_; rw [CLK_MUX_BUSY_blk]; exact rfl
  refine State.set_keeps _ _ ?_ ?_; rw [CLK_MUX_SEL_blk]; exact rfl; exact Keeps.refl _ _

theorem stepGo_keeps (k) (new) (s : State) : Keeps 0x223bf943000000600704055dc s (stepGo k new s) := by
  unfold stepGo
  dsimp only; split; split; refine Keeps.step (copiesAbort_keeps ..) rfl ?_; refine State.put_keeps _ _ ?_ ?_; exact rfl
  refine State.set_keeps _ _ ?_ ?_; exact rfl; refine Keeps.step (setLvl_keeps ..) rfl ?_; exact Keeps.refl _ _
  refine State.put_keeps _ _ ?_ ?_; exact rfl; refine State.set_keeps _ _ ?_ ?_; exact rfl
  refine Keeps.step (setLvl_keeps ..) rfl ?_; exact Keeps.refl _ _; split; refine Keeps.step (s3Lower_keeps ..) rfl ?_
  refine State.put_keeps _ _ ?_ ?_; exact rfl; refine State.set_keeps _ _ ?_ ?_; exact rfl
  refine Keeps.step (setLvl_keeps ..) rfl ?_; exact Keeps.refl _ _; refine State.put_keeps _ _ ?_ ?_; exact rfl
  refine State.set_keeps _ _ ?_ ?_; exact rfl; refine Keeps.step (setLvl_keeps ..) rfl ?_; exact Keeps.refl _ _; split
  refine Keeps.step (s4Lower_keeps ..) rfl ?_; refine State.put_keeps _ _ ?_ ?_; exact rfl; refine State.set_keeps _ _ ?_ ?_
  exact rfl; refine Keeps.step (setLvl_keeps ..) rfl ?_; exact Keeps.refl _ _; refine Keeps.step (s4Raise_keeps ..) rfl ?_
  refine State.put_keeps _ _ ?_ ?_; exact rfl; refine State.set_keeps _ _ ?_ ?_; exact rfl
  refine Keeps.step (setLvl_keeps ..) rfl ?_; exact Keeps.refl _ _; refine Keeps.step (s6Go_keeps ..) rfl ?_
  refine State.put_keeps _ _ ?_ ?_; exact rfl; refine State.set_keeps _ _ ?_ ?_; exact rfl
  refine Keeps.step (setLvl_keeps ..) rfl ?_; exact Keeps.refl _ _; refine Keeps.step (s7Go_keeps ..) rfl ?_
  refine State.put_keeps _ _ ?_ ?_; exact rfl; refine State.set_keeps _ _ ?_ ?_; exact rfl
  refine Keeps.step (setLvl_keeps ..) rfl ?_; exact Keeps.refl _ _; refine State.put_keeps _ _ ?_ ?_; exact rfl
  refine State.set_keeps _ _ ?_ ?_; exact rfl; refine Keeps.step (setLvl_keeps ..) rfl ?_; exact Keeps.refl _ _

theorem setTrans_keeps (x0) (s : State) : Keeps 0x4000000000000000000 s (setTrans x0 s) := by
  unfold setTrans; refine Keeps.step (modPwr_keeps ..) rfl ?_; exact Keeps.refl _ _

theorem pwrStart_keeps (r) (b) (s : State) : Keeps 0x4000000000020000000 s (pwrStart r b s) := by
  unfold pwrStart
  refine Keeps.step (setTrans_keeps ..) rfl ?_; refine State.set_keeps _ _ ?_ ?_; exact rfl; exact Keeps.refl _ _

theorem pwrStop_keeps (s : State) : Keeps 0x4000000000020000000 s (pwrStop s) := by
  unfold pwrStop
  dsimp only; refine Keeps.step (setTrans_keeps ..) rfl ?_; refine Keeps.step (syncHeld_keeps ..) rfl ?_; split
  refine Keeps.step (modPwr_keeps ..) rfl ?_; exact Keeps.refl _ _; exact Keeps.refl _ _

theorem pwrRolled_keeps (x0) (s : State) : Keeps 0x1000084000000020020000000 s (pwrRolled x0 s) := by
  unfold pwrRolled
  dsimp only; split; refine Keeps.step (patTrig_keeps ..) rfl ?_; refine State.on_keeps _ ?_ ?_; exact rfl; exact Keeps.refl _ _
  split; refine Keeps.step (modPwr_keeps ..) rfl ?_; refine Keeps.step (pwrReply_keeps ..) rfl ?_; split
  refine Keeps.step (modPwr_keeps ..) rfl ?_; refine Keeps.step (patTrig_keeps ..) rfl ?_; refine State.on_keeps _ ?_ ?_
  exact rfl; exact Keeps.refl _ _; refine Keeps.step (patTrig_keeps ..) rfl ?_; refine State.on_keeps _ ?_ ?_; exact rfl
  exact Keeps.refl _ _; refine Keeps.step (pwrReply_keeps ..) rfl ?_; split; refine Keeps.step (modPwr_keeps ..) rfl ?_
  refine Keeps.step (patTrig_keeps ..) rfl ?_; refine State.on_keeps _ ?_ ?_; exact rfl; exact Keeps.refl _ _
  refine Keeps.step (patTrig_keeps ..) rfl ?_; refine State.on_keeps _ ?_ ?_; exact rfl; exact Keeps.refl _ _

theorem pwrCompleted_keeps (x0) (s : State) : Keeps 0x30001042000000000300000c0 s (pwrCompleted x0 s) := by
  unfold pwrCompleted
  dsimp only; refine Keeps.step (bulWalk_keeps ..) rfl ?_; split; refine Keeps.step (pwrReply_keeps ..) rfl ?_
  refine Keeps.step (modPwr_keeps ..) rfl ?_; split; refine State.set_keeps _ _ ?_ ?_; exact rfl
  refine State.set_keeps _ _ ?_ ?_; exact rfl; split; refine State.set_keeps _ _ ?_ ?_; exact rfl; refine State.on_keeps _ ?_ ?_
  exact rfl; refine State.set_keeps _ _ ?_ ?_; exact rfl; exact Keeps.refl _ _; refine State.on_keeps _ ?_ ?_; exact rfl
  refine State.set_keeps _ _ ?_ ?_; exact rfl; exact Keeps.refl _ _; split; refine State.set_keeps _ _ ?_ ?_; exact rfl
  refine State.on_keeps _ ?_ ?_; exact rfl; refine State.set_keeps _ _ ?_ ?_; exact rfl; exact Keeps.refl _ _
  refine State.on_keeps _ ?_ ?_; exact rfl; refine State.set_keeps _ _ ?_ ?_; exact rfl; exact Keeps.refl _ _
  refine Keeps.step (modPwr_keeps ..) rfl ?_; split; refine State.set_keeps _ _ ?_ ?_; exact rfl
  refine State.set_keeps _ _ ?_ ?_; exact rfl; split; refine State.set_keeps _ _ ?_ ?_; exact rfl; refine State.on_keeps _ ?_ ?_
  exact rfl; refine State.set_keeps _ _ ?_ ?_; exact rfl; exact Keeps.refl _ _; refine State.on_keeps _ ?_ ?_; exact rfl
  refine State.set_keeps _ _ ?_ ?_; exact rfl; exact Keeps.refl _ _; split; refine State.set_keeps _ _ ?_ ?_; exact rfl
  refine State.on_keeps _ ?_ ?_; exact rfl; refine State.set_keeps _ _ ?_ ?_; exact rfl; exact Keeps.refl _ _
  refine State.on_keeps _ ?_ ?_; exact rfl; refine State.set_keeps _ _ ?_ ?_; exact rfl; exact Keeps.refl _ _

theorem pwrEnd_keeps (x0) (s : State) : Keeps 0x30001842000000200700000c0 s (pwrEnd x0 s) := by
  unfold pwrEnd
  dsimp only; split; refine Keeps.step (setLvl_keeps ..) rfl ?_; refine State.set_keeps _ _ ?_ ?_; exact rfl
  refine Keeps.step (setTrans_keeps ..) rfl ?_; refine State.off_keeps _ ?_ ?_; exact rfl; refine State.off_keeps _ ?_ ?_
  exact rfl; exact Keeps.refl _ _; split; refine Keeps.step (pwrRolled_keeps ..) rfl ?_
  refine Keeps.step (setTrans_keeps ..) rfl ?_; refine State.off_keeps _ ?_ ?_; exact rfl; refine State.off_keeps _ ?_ ?_
  exact rfl; exact Keeps.refl _ _; refine Keeps.step (pwrCompleted_keeps ..) rfl ?_
  refine Keeps.step (setTrans_keeps ..) rfl ?_; refine State.off_keeps _ ?_ ?_; exact rfl; refine State.off_keeps _ ?_ ?_
  exact rfl; exact Keeps.refl _ _

theorem pwrRun_keeps (x0) (s : State) : Keeps 0x323bf943000000600704055dc s (pwrRun x0 s) := by
  induction x0 generalizing s with
  | zero =>
    unfold pwrRun
    exact Keeps.refl _ _
  | succ k ih =>
    unfold pwrRun
    split; split; refine Keeps.step (ih ..) rfl ?_; refine Keeps.step (pwrEnd_keeps ..) rfl ?_; exact Keeps.refl _ _
    refine Keeps.step (stepGo_keeps ..) rfl ?_; refine Keeps.step (setTrans_keeps ..) rfl ?_; exact Keeps.refl _ _; split
    exact Keeps.refl _ _; split; exact Keeps.refl _ _; dsimp only; split; refine Keeps.step (pwrReply_keeps ..) rfl ?_
    refine Keeps.step (syncHeld_keeps ..) rfl ?_; refine Keeps.step (modPwr_keeps ..) rfl ?_; exact Keeps.refl _ _
    refine Keeps.step (ih ..) rfl ?_; refine Keeps.step (pwrStart_keeps ..) rfl ?_; refine Keeps.step (syncHeld_keeps ..) rfl ?_
    refine Keeps.step (modPwr_keeps ..) rfl ?_; exact Keeps.refl _ _

theorem pwrRequest_keeps (src) (ctl) (st) (cmd) (s : State) :
    Keeps 0x323bf943000000600704055dc s (pwrRequest src ctl st cmd s) := by
  unfold pwrRequest
  dsimp only; split; split; refine Keeps.step (syncHeld_keeps ..) rfl ?_; refine Keeps.step (modPwr_keeps ..) rfl ?_
  refine State.on_keeps _ ?_ ?_; exact rfl; split; refine Keeps.step (pwrReply_keeps ..) rfl ?_
  refine Keeps.step (modPwr_keeps ..) rfl ?_; exact Keeps.refl _ _; refine Keeps.step (modPwr_keeps ..) rfl ?_
  exact Keeps.refl _ _; refine Keeps.step (pwrRun_keeps ..) rfl ?_; refine Keeps.step (modPwr_keeps ..) rfl ?_
  refine Keeps.step (modPwr_keeps ..) rfl ?_; exact Keeps.refl _ _; split; refine Keeps.step (syncHeld_keeps ..) rfl ?_
  refine Keeps.step (modPwr_keeps ..) rfl ?_; refine State.on_keeps _ ?_ ?_; exact rfl; split
  refine Keeps.step (pwrReply_keeps ..) rfl ?_; refine Keeps.step (modPwr_keeps ..) rfl ?_; exact Keeps.refl _ _
  refine Keeps.step (modPwr_keeps ..) rfl ?_; exact Keeps.refl _ _; refine Keeps.step (pwrRun_keeps ..) rfl ?_
  refine Keeps.step (modPwr_keeps ..) rfl ?_; refine Keeps.step (modPwr_keeps ..) rfl ?_; exact Keeps.refl _ _

theorem pwrReqWrite_keeps (x0) (s : State) : Keeps 0x323bf943000000600704055dc s (pwrReqWrite x0 s) := by
  unfold pwrReqWrite
  dsimp only; split; refine Keeps.step (pwrRequest_keeps ..) rfl ?_; refine State.set_keeps _ _ ?_ ?_; exact rfl
  refine State.put_keeps _ _ ?_ ?_; exact rfl; refine State.set_keeps _ _ ?_ ?_; exact rfl; exact Keeps.refl _ _
  refine State.set_keeps _ _ ?_ ?_; exact rfl; refine State.put_keeps _ _ ?_ ?_; exact rfl; refine State.set_keeps _ _ ?_ ?_
  exact rfl; exact Keeps.refl _ _

theorem execPowerStateRequest_keeps (x0) (s : State) : KeepsRes 0x323bf943000000600704055dc s (execPowerStateRequest x0 s) := by
  unfold execPowerStateRequest
  refine KeepsRes.next ?_; refine live_keeps _ (fun w hw => ?_) ?_; refine Keeps.step (pwrReqWrite_keeps ..) rfl ?_; assumption
  exact Keeps.refl _ _

theorem ioArrival_keeps (ctl) (s : State) : Keeps 0x323bf943000000600704055dc s (ioArrival ctl s) := by
  unfold ioArrival
  split; refine Keeps.step (pwrRequest_keeps ..) rfl ?_; refine Keeps.step (modPwr_keeps ..) rfl ?_; exact Keeps.refl _ _
  exact Keeps.refl _ _

theorem pwrNext_keeps (x0) (s : State) : Keeps 0x323bf943000000600704055dc s (pwrNext x0 s) := by
  unfold pwrNext
  dsimp only; refine Keeps.step (pwrRun_keeps ..) rfl ?_; split; refine Keeps.step (pwrStop_keeps ..) rfl ?_
  refine Keeps.step (setTrans_keeps ..) rfl ?_; exact Keeps.refl _ _; refine Keeps.step (setTrans_keeps ..) rfl ?_
  exact Keeps.refl _ _

theorem powerStepDone_keeps (s : State) : Keeps 0x323bf943000000600704055dc s (powerStepDone s) := by
  unfold powerStepDone
  split; split; split; refine Keeps.step (pwrNext_keeps ..) rfl ?_; exact Keeps.refl _ _; exact Keeps.refl _ _
  exact Keeps.refl _ _; exact Keeps.refl _ _

theorem execPowerStepDone_keeps (s : State) : KeepsRes 0x323bf943000000600704055dc s (execPowerStepDone s) := by
  unfold execPowerStepDone
  refine KeepsRes.next ?_; refine live_keeps _ (fun w hw => ?_) ?_; refine Keeps.step (powerStepDone_keeps ..) rfl ?_
  assumption; exact Keeps.refl _ _

theorem stopRefused_keeps (k) (x1) (s : State) : Keeps 0x323bf943000000600704055dc s (stopRefused k x1 s) := by
  unfold stopRefused
  split; refine Keeps.step (cmdRetract_keeps ..) rfl ?_; refine Keeps.step (cmdRetract_keeps ..) rfl ?_; exact Keeps.refl _ _
  refine Keeps.step (cmdFloat_keeps ..) rfl ?_; exact Keeps.refl _ _; refine Keeps.step (pwrNext_keeps ..) rfl ?_
  exact Keeps.refl _ _

theorem powerStepRefused_keeps (cause) (s : State) : Keeps 0x323bf943000000600704055dc s (powerStepRefused cause s) := by
  unfold powerStepRefused
  split; exact Keeps.refl _ _; split; exact Keeps.refl _ _; split; exact Keeps.refl _ _; split
  refine Keeps.step (stopRefused_keeps ..) rfl ?_; exact Keeps.refl _ _; split; refine Keeps.step (pwrNext_keeps ..) rfl ?_
  exact Keeps.refl _ _; dsimp only; refine Keeps.step (pwrRun_keeps ..) rfl ?_; refine Keeps.step (setTrans_keeps ..) rfl ?_
  refine State.set_keeps _ _ ?_ ?_; exact rfl; refine State.set_keeps _ _ ?_ ?_; exact rfl; refine State.set_keeps _ _ ?_ ?_
  exact rfl; refine State.set_keeps _ _ ?_ ?_; exact rfl; exact Keeps.refl _ _

theorem execPowerStepRefused_keeps (cause) (s : State) :
    KeepsRes 0x323bf943000000600704055dc s (execPowerStepRefused cause s) := by
  unfold execPowerStepRefused
  refine KeepsRes.next ?_; refine live_keeps _ (fun w hw => ?_) ?_; refine Keeps.step (powerStepRefused_keeps ..) rfl ?_
  assumption; exact Keeps.refl _ _

theorem apstIdle_keeps (c) (s : State) : Keeps 0x323bf943000000600704055dc s (apstIdle c s) := by
  unfold apstIdle
  dsimp only; refine State.when_keeps _ _ (fun w hw => ?_) ?_; refine Keeps.step (pwrRequest_keeps ..) rfl ?_; assumption
  exact Keeps.refl _ _

theorem execApstIdleTimeout_keeps (c) (s : State) : KeepsRes 0x323bf943000000600704055dc s (execApstIdleTimeout c s) := by
  unfold execApstIdleTimeout
  refine KeepsRes.next ?_; refine live_keeps _ (fun w hw => ?_) ?_; refine Keeps.step (apstIdle_keeps ..) rfl ?_; assumption
  exact Keeps.refl _ _

theorem wakeRetry_keeps (s : State) : Keeps 0x323bf943000000600704055dc s (wakeRetry s) := by
  unfold wakeRetry
  split; exact Keeps.refl _ _; dsimp only; split; refine Keeps.step (pwrRequest_keeps ..) rfl ?_
  refine Keeps.step (modPwr_keeps ..) rfl ?_; refine Keeps.step (modPwr_keeps ..) rfl ?_; exact Keeps.refl _ _
  refine Keeps.step (modPwr_keeps ..) rfl ?_; refine State.on_keeps _ ?_ ?_; exact rfl
  refine Keeps.step (modPwr_keeps ..) rfl ?_; exact Keeps.refl _ _

theorem execWakeRetry_keeps (s : State) : KeepsRes 0x323bf943000000600704055dc s (execWakeRetry s) := by
  unfold execWakeRetry
  refine KeepsRes.next ?_; refine live_keeps _ (fun w hw => ?_) ?_; refine Keeps.step (wakeRetry_keeps ..) rfl ?_; assumption
  exact Keeps.refl _ _

theorem monWrite_keeps (r) (x1) (s : State) : Keeps 0x20000000 s (monWrite r x1 s) := by
  unfold monWrite
  dsimp only; split; split; refine State.set_keeps _ _ ?_ ?_; rw [PWR_MON_HYST_blk]; exact rfl; refine State.set_keeps _ _ ?_ ?_
  rw [PWR_MON_RESET_MV_blk]; exact rfl; refine State.set_keeps _ _ ?_ ?_; rw [PWR_MON_WARN_MV_blk]; exact rfl
  exact Keeps.refl _ _; exact Keeps.refl _ _; split; refine State.set_keeps _ _ ?_ ?_; rw [PWR_MON_HYST_blk]; exact rfl
  refine State.set_keeps _ _ ?_ ?_; rw [PWR_MON_RESET_MV_blk]; exact rfl; refine State.set_keeps _ _ ?_ ?_
  rw [PWR_MON_WARN_MV_blk]; exact rfl; exact Keeps.refl _ _; exact Keeps.refl _ _

end Sys2Proof.Machine
end

