-- ==== Sys2Proof/Laws/Keeps/Thermal.lean ====
section
/-!
SUPPORT. What each operation of Machine/Thermal.lean keeps: the mask names the register blocks (bits 0 to 63) and the parts of State (bit
64 on) that the operation may change; everything outside it stays.
-/
namespace Sys2Proof.Machine

theorem modThm_keeps (f) (s : State) : Keeps 0x2000000000000000000 s (modThm f s) := by
  unfold modThm; refine Keeps.upd_thm _ ?_ ?_; exact rfl; exact Keeps.refl _ _

theorem diodeConv_keeps (k) (x1) (ro) (s : State) : Keeps 0x80000000020040000000 s (diodeConv k x1 ro s) := by
  unfold diodeConv
  dsimp only; split; refine Keeps.step (patTrig_keeps ..) rfl ?_; refine State.on_keeps _ ?_ ?_; exact rfl
  refine State.put_keeps _ _ ?_ ?_; rw [THM_SENS_IMPLAUS_blk]; exact rfl; refine State.setI_keeps _ _ ?_ ?_
  rw [THM_SENS_T_blk]; exact rfl; refine State.on_keeps _ ?_ ?_; rw [THM_SENS_VALID_blk]; exact rfl; exact Keeps.refl _ _
  refine State.put_keeps _ _ ?_ ?_; rw [THM_SENS_IMPLAUS_blk]; exact rfl; refine State.setI_keeps _ _ ?_ ?_
  rw [THM_SENS_T_blk]; exact rfl; refine State.on_keeps _ ?_ ?_; rw [THM_SENS_VALID_blk]; exact rfl; exact Keeps.refl _ _

theorem recordTmax_keeps (s : State) : Keeps 0x2000000000040000000 s (recordTmax s) := by
  unfold recordTmax
  dsimp only; refine Keeps.step (modThm_keeps ..) rfl ?_; refine State.setI_keeps _ _ ?_ ?_; exact rfl
  refine State.setI_keeps _ _ ?_ ?_; exact rfl; split; refine State.setI_keeps _ _ ?_ ?_; exact rfl
  refine State.setI_keeps _ _ ?_ ?_; exact rfl; refine State.set_keeps _ _ ?_ ?_; exact rfl; refine State.put_keeps _ _ ?_ ?_
  exact rfl; exact Keeps.refl _ _; refine State.setI_keeps _ _ ?_ ?_; exact rfl; refine State.set_keeps _ _ ?_ ?_; exact rfl
  refine State.put_keeps _ _ ?_ ?_; exact rfl; exact Keeps.refl _ _

theorem orderlyStop_keeps (s : State) : Keeps 0x323bf943000000600704055dc s (orderlyStop s) := by
  unfold orderlyStop
  split; dsimp only; split; refine Keeps.step (patTrig_keeps ..) rfl ?_; refine State.set_keeps _ _ ?_ ?_; exact rfl
  exact Keeps.refl _ _; refine Keeps.step (pwrRun_keeps ..) rfl ?_; refine Keeps.step (pwrStop_keeps ..) rfl ?_
  refine Keeps.step (patTrig_keeps ..) rfl ?_; refine State.set_keeps _ _ ?_ ?_; exact rfl; exact Keeps.refl _ _
  exact Keeps.refl _ _

theorem powerDieSafe_keeps (s : State) : Keeps 0x200bf80b000000200100005dc s (powerDieSafe s) := by
  unfold powerDieSafe
  dsimp only; refine Keeps.upd_pd _ ?_ ?_; exact rfl; split; refine Keeps.step (modSpn_keeps ..) rfl ?_
  refine Keeps.step (retract_keeps ..) rfl ?_; refine Keeps.step (retract_keeps ..) rfl ?_
  refine Keeps.step (maZero_keeps ..) rfl ?_; refine Keeps.step (maZero_keeps ..) rfl ?_; exact Keeps.refl _ _
  refine Keeps.step (spnGo_keeps ..) rfl ?_; refine Keeps.step (retract_keeps ..) rfl ?_
  refine Keeps.step (retract_keeps ..) rfl ?_; refine Keeps.step (maZero_keeps ..) rfl ?_
  refine Keeps.step (maZero_keeps ..) rfl ?_; exact Keeps.refl _ _

theorem immediateStop_keeps (s : State) : Keeps 0x208bf85f000000200510005dc s (immediateStop s) := by
  unfold immediateStop
  dsimp only; refine Keeps.upd_die_pins _ _ ?_ ?_ ?_; exact rfl; exact rfl; refine Keeps.step (saveBegin_keeps ..) rfl ?_
  refine Keeps.step (powerDieSafe_keeps ..) rfl ?_; refine Keeps.step (patTrig_keeps ..) rfl ?_
  refine Keeps.step (quenchBoth_keeps ..) rfl ?_; refine State.on_keeps _ ?_ ?_; exact rfl; refine State.set_keeps _ _ ?_ ?_
  exact rfl; exact Keeps.refl _ _

theorem condition_keeps {m : Nat} {s t : State} (hm : 0x0 &&& m = 0x0) (h : Keeps m s t) (c) (fl) (f) (hfl : m.testBit fl.blk = true) (hf : ∀ w, Keeps m s w → Keeps m s (f w)) :
    Keeps m s (condition c fl f t) := by
  unfold condition
  split; split; assumption; refine hf  _ ?_; refine State.on_keeps _ ?_ ?_; assumption; assumption; assumption

theorem thmConditions_keeps (s : State) : Keeps 0x323bf943000000600704055dc s (thmConditions s) := by
  unfold thmConditions
  dsimp only; split; refine Keeps.step (orderlyStop_keeps ..) rfl ?_
  refine condition_keeps (h := ?_) (hm := ?_) (hfl := ?_) (hf := fun w hw => ?_) ..; rfl
  refine condition_keeps (h := ?_) (hm := ?_) (hfl := ?_) (hf := fun w hw => ?_) ..; rfl
  refine condition_keeps (h := ?_) (hm := ?_) (hfl := ?_) (hf := fun w hw => ?_) ..; rfl
  refine condition_keeps (h := ?_) (hm := ?_) (hfl := ?_) (hf := fun w hw => ?_) ..; rfl; exact Keeps.refl _ _; exact rfl
  refine Keeps.step (hostEvent_keeps ..) rfl ?_; refine Keeps.step (patTrig_keeps ..) rfl ?_; assumption; exact rfl
  dsimp only [id]; assumption; exact rfl; dsimp only [id]; assumption; exact rfl; dsimp only [id]; assumption
  refine condition_keeps (h := ?_) (hm := ?_) (hfl := ?_) (hf := fun w hw => ?_) ..; rfl
  refine condition_keeps (h := ?_) (hm := ?_) (hfl := ?_) (hf := fun w hw => ?_) ..; rfl
  refine condition_keeps (h := ?_) (hm := ?_) (hfl := ?_) (hf := fun w hw => ?_) ..; rfl
  refine condition_keeps (h := ?_) (hm := ?_) (hfl := ?_) (hf := fun w hw => ?_) ..; rfl; exact Keeps.refl _ _; exact rfl
  refine Keeps.step (hostEvent_keeps ..) rfl ?_; refine Keeps.step (patTrig_keeps ..) rfl ?_; assumption; exact rfl
  dsimp only [id]; assumption; exact rfl; dsimp only [id]; assumption; exact rfl; dsimp only [id]; assumption

theorem conversion_keeps (x0) (ro) (s : State) : Keeps 0x32bbf97f000000600714055dc s (conversion x0 ro s) := by
  unfold conversion
  dsimp only; split; refine Keeps.step (immediateStop_keeps ..) rfl ?_; refine Keeps.step (modThm_keeps ..) rfl ?_
  refine Keeps.step (recordTmax_keeps ..) rfl ?_; refine Keeps.foldl (fun w e hw => ?_) ?_
  refine Keeps.step (diodeConv_keeps ..) rfl ?_; assumption; refine State.setI_keeps _ _ ?_ ?_; rw [THM_SENS_T_blk]; exact rfl
  refine State.on_keeps _ ?_ ?_; rw [THM_SENS_VALID_blk]; exact rfl; exact Keeps.refl _ _; split
  refine Keeps.step (thmConditions_keeps ..) rfl ?_; refine Keeps.step (modThm_keeps ..) rfl ?_
  refine Keeps.step (recordTmax_keeps ..) rfl ?_; refine Keeps.foldl (fun w e hw => ?_) ?_
  refine Keeps.step (diodeConv_keeps ..) rfl ?_; assumption; refine State.setI_keeps _ _ ?_ ?_; rw [THM_SENS_T_blk]; exact rfl
  refine State.on_keeps _ ?_ ?_; rw [THM_SENS_VALID_blk]; exact rfl; exact Keeps.refl _ _
  refine Keeps.step (modThm_keeps ..) rfl ?_; refine Keeps.step (recordTmax_keeps ..) rfl ?_
  refine Keeps.foldl (fun w e hw => ?_) ?_; refine Keeps.step (diodeConv_keeps ..) rfl ?_; assumption
  refine State.setI_keeps _ _ ?_ ?_; rw [THM_SENS_T_blk]; exact rfl; refine State.on_keeps _ ?_ ?_
  rw [THM_SENS_VALID_blk]; exact rfl; exact Keeps.refl _ _

theorem execTemperatureConversion_keeps (x0) (ro) (s : State) :
    KeepsRes 0x32bbf97f000000600714055dc s (execTemperatureConversion x0 ro s) := by
  unfold execTemperatureConversion
  refine KeepsRes.next ?_; refine live_keeps _ (fun w hw => ?_) ?_; refine Keeps.step (conversion_keeps ..) rfl ?_; assumption
  exact Keeps.refl _ _

theorem thmResume_keeps (s : State) : Keeps 0x323bf943000000600704055dc s (thmResume s) := by
  unfold thmResume
  split; dsimp only; refine Keeps.step (pwrRun_keeps ..) rfl ?_; refine Keeps.step (pwrStart_keeps ..) rfl ?_
  refine Keeps.step (syncHeld_keeps ..) rfl ?_; refine Keeps.step (modPwr_keeps ..) rfl ?_; refine State.on_keeps _ ?_ ?_
  exact rfl; refine State.set_keeps _ _ ?_ ?_; exact rfl; exact Keeps.refl _ _; exact Keeps.refl _ _

theorem execThermalResume_keeps (s : State) : KeepsRes 0x323bf943000000600704055dc s (execThermalResume s) := by
  unfold execThermalResume
  refine KeepsRes.next ?_; refine live_keeps _ (fun w hw => ?_) ?_; refine Keeps.step (thmResume_keeps ..) rfl ?_; assumption
  exact Keeps.refl _ _

theorem execAutoResume_keeps (s : State) : KeepsRes 0x323bf943000000600704055dc s (execAutoResume s) := by
  unfold execAutoResume
  refine KeepsRes.next ?_; refine live_keeps _ (fun w hw => ?_) ?_; refine State.when_keeps _ _ (fun w hw => ?_) ?_
  refine Keeps.step (thmResume_keeps ..) rfl ?_; assumption; assumption; exact Keeps.refl _ _

end Sys2Proof.Machine
end

