-- ==== Sys2Proof/Laws/Keeps/Calib.lean ====
section
/-!
SUPPORT. What each operation of Machine/Calib.lean keeps: the mask names the register blocks (bits 0 to 63) and the parts of State (bit
64 on) that the operation may change; everything outside it stays.
-/
namespace Sys2Proof.Machine

theorem calEvaluate_keeps (s : State) : Keeps 0x80000000 s (calEvaluate s) := by
  unfold calEvaluate
  refine Keeps.foldl (fun w e hw => ?_) ?_; dsimp only; split; refine State.on_keeps _ ?_ ?_; exact rfl
  refine State.set_keeps _ _ ?_ ?_; rw [CAL_ITEM_DUE_blk]; exact rfl; assumption; refine State.set_keeps _ _ ?_ ?_
  rw [CAL_ITEM_DUE_blk]; exact rfl; assumption; exact Keeps.refl _ _

theorem execCalDueEvaluation_keeps (s : State) : KeepsRes 0x80000000 s (execCalDueEvaluation s) := by
  unfold execCalDueEvaluation
  refine KeepsRes.next ?_; refine live_keeps _ (fun w hw => ?_) ?_; refine State.when_keeps _ _ (fun w hw => ?_) ?_
  refine Keeps.step (calEvaluate_keeps ..) rfl ?_; assumption; assumption; exact Keeps.refl _ _

theorem calDone_keeps (x0) (s : State) : Keeps 0x80000000 s (calDone x0 s) := by
  unfold calDone
  dsimp only; split; refine State.offBit_keeps _ _ ?_ ?_; rw [CAL_ITEM_DUE_blk]; exact rfl; refine State.off_keeps _ ?_ ?_
  rw [CAL_LAST_FAILS_blk]; exact rfl; refine State.on_keeps _ ?_ ?_; rw [CAL_LAST_VALID_blk]; exact rfl
  refine State.set_keeps _ _ ?_ ?_; rw [CAL_LAST_LAST_T_blk]; exact rfl; refine State.set_keeps _ _ ?_ ?_; exact rfl
  refine State.set_keeps _ _ ?_ ?_; exact rfl; exact Keeps.refl _ _; refine State.set_keeps _ _ ?_ ?_; exact rfl
  refine State.set_keeps _ _ ?_ ?_; exact rfl; exact Keeps.refl _ _

theorem execCalDone_keeps (x0) (s : State) : KeepsRes 0x80000000 s (execCalDone x0 s) := by
  unfold execCalDone
  refine KeepsRes.next ?_; refine live_keeps _ (fun w hw => ?_) ?_; refine Keeps.step (calDone_keeps ..) rfl ?_; assumption
  exact Keeps.refl _ _

theorem calClear_keeps (s : State) : Keeps 0x80000000 s (calClear s) := by
  unfold calClear
  refine Keeps.foldl (fun w e hw => State.set_keeps _ _ (by rw [CAL_HIST_COUNT_blk]; rfl) hw) ?_
  refine Keeps.foldl_mem (fun v e he hv => State.set_keeps _ _ ?_ hv) (Keeps.refl _ _)
  simp only [List.mem_cons, List.not_mem_nil, or_false] at he
  rcases he with rfl | rfl | rfl | rfl | rfl | rfl <;> rfl

theorem calAccWrite_keeps (x0) (s : State) : Keeps 0x20000000000080000000 s (calAccWrite x0 s) := by
  unfold calAccWrite
  dsimp only; split; refine Keeps.upd_cal _ ?_ ?_; exact rfl; refine State.on_keeps _ ?_ ?_; exact rfl
  refine Keeps.step (calClear_keeps ..) rfl ?_; refine State.set_keeps _ _ ?_ ?_; exact rfl; refine State.set_keeps _ _ ?_ ?_
  exact rfl; refine State.put_keeps _ _ ?_ ?_; exact rfl; refine State.set_keeps _ _ ?_ ?_; exact rfl
  refine State.put_keeps _ _ ?_ ?_; exact rfl; exact Keeps.refl _ _; refine State.set_keeps _ _ ?_ ?_; exact rfl
  refine State.set_keeps _ _ ?_ ?_; exact rfl; refine State.put_keeps _ _ ?_ ?_; exact rfl; refine State.set_keeps _ _ ?_ ?_
  exact rfl; refine State.put_keeps _ _ ?_ ?_; exact rfl; exact Keeps.refl _ _

theorem execAccumulate_keeps (x0) (s : State) : KeepsRes 0x20000000000080000000 s (execAccumulate x0 s) := by
  unfold execAccumulate
  refine KeepsRes.next ?_; refine live_keeps _ (fun w hw => ?_) ?_; refine Keeps.step (calAccWrite_keeps ..) rfl ?_; assumption
  exact Keeps.refl _ _

theorem calSums_keeps (l) (s : State) : Keeps 0x100000000080000000 s (calSums l s) := by
  unfold calSums
  dsimp only; refine State.set_keeps _ _ ?_ ?_; exact rfl; refine State.set_keeps _ _ ?_ ?_; exact rfl
  refine State.draw_keeps ?_ ?_; exact rfl; refine State.draw_keeps ?_ ?_; exact rfl; refine Keeps.foldl (fun w e hw => ?_) ?_
  refine State.set_keeps _ _ ?_ ?_; rw [CAL_HIST_COUNT_blk]; exact rfl; assumption; refine State.set_keeps _ _ ?_ ?_; exact rfl
  refine State.set_keeps _ _ ?_ ?_; exact rfl; refine State.set_keeps _ _ ?_ ?_; exact rfl; refine State.setI_keeps _ _ ?_ ?_
  exact rfl; exact Keeps.refl _ _

theorem accDone_keeps (span) (held) (s : State) : Keeps 0x20100000000080000000 s (accDone span held s) := by
  unfold accDone
  split; dsimp only; refine Keeps.upd_cal _ ?_ ?_; exact rfl; refine State.off_keeps _ ?_ ?_; exact rfl
  refine State.on_keeps _ ?_ ?_; exact rfl; refine Keeps.step (calSums_keeps ..) rfl ?_; exact Keeps.refl _ _
  exact Keeps.refl _ _

theorem execAccDone_keeps (span) (held) (s : State) : KeepsRes 0x20100000000080000000 s (execAccDone span held s) := by
  unfold execAccDone
  refine KeepsRes.next ?_; refine live_keeps _ (fun w hw => ?_) ?_; refine Keeps.step (accDone_keeps ..) rfl ?_; assumption
  exact Keeps.refl _ _

theorem calRefused_keeps (x0) (i) (s : State) : Keeps 0x80000000020080000000 s (calRefused x0 i s) := by
  unfold calRefused
  dsimp only; split; refine Keeps.step (patTrig_keeps ..) rfl ?_; refine State.on_keeps _ ?_ ?_; exact rfl
  refine State.onBit_keeps _ _ ?_ ?_; rw [CAL_HELD_HELD_blk]; exact rfl; refine State.off_keeps _ ?_ ?_
  rw [CAL_LAST_FAILS_blk]; exact rfl; refine State.set_keeps _ _ ?_ ?_; rw [CAL_LAST_LAST_T_blk]; exact rfl
  refine Keeps.step (patTrig_keeps ..) rfl ?_; refine State.on_keeps _ ?_ ?_; exact rfl; exact Keeps.refl _ _
  refine State.set_keeps _ _ ?_ ?_; rw [CAL_LAST_FAILS_blk]; exact rfl; refine Keeps.step (patTrig_keeps ..) rfl ?_
  refine State.on_keeps _ ?_ ?_; exact rfl; exact Keeps.refl _ _

theorem calApply_keeps (r) (w1) (s : State) : Keeps 0x80000000020080007000 s (calApply r w1 s) := by
  have key : ∀ (w : State) (q : Req) (t : CalTarget), w.calTarget q = some t →
      Nat.testBit 0x80000000020080007000 t.table.blk = true ∧ ∀ f, t.active = some f → Nat.testBit 0x80000000020080007000 f.blk = true := by
    intro w q t ht
    unfold State.calTarget at ht
    dsimp only at ht
    split at ht
    · cases ht
    · split at ht
      · cases ht; refine ⟨?_, ?_⟩
        · dsimp only; split
          · rw [RCH_HZ_W1_OFS0_blk]; rfl
          · rw [RCH_HZ_W1_OFS1_blk]; rfl
        · intro f hf; cases hf; split
          · rw [RCH_ACT_W1_OFS0_blk]; rfl
          · rw [RCH_ACT_W1_OFS1_blk]; rfl
      · cases ht; refine ⟨?_, ?_⟩
        · rw [RCH_HZ_W0_AGC_TGT_blk]; rfl
        · intro f hf; cases hf; rw [RCH_ACT_W0_AGC_TGT_blk]; rfl
      · cases ht; refine ⟨?_, ?_⟩
        · dsimp only; split
          · rw [RCH_HZ_W1_ASYM0_blk]; rfl
          · rw [RCH_HZ_W1_ASYM1_blk]; rfl
        · intro f hf; cases hf; split
          · rw [RCH_ACT_W1_ASYM0_blk]; rfl
          · rw [RCH_ACT_W1_ASYM1_blk]; rfl
      · split at ht
        · cases ht; refine ⟨?_, ?_⟩
          · rw [RCH_EQ_TAP_blk]; rfl
          · intro f hf; cases hf
        · cases ht
      · cases ht; refine ⟨?_, ?_⟩
        · rw [TPR_HZ_W0_ABIAS_blk]; rfl
        · intro f hf; cases hf
      · cases ht; refine ⟨?_, ?_⟩
        · rw [TPR_HZ_W0_APEAK_blk]; rfl
        · intro f hf; cases hf
      · cases ht
  unfold calApply
  dsimp only
  refine State.on_keeps _ (by rw [Fld.blk_of]; rfl) ?_
  refine State.set_keeps _ _ (by rw [Fld.blk_of]; rfl) ?_
  split
  · dsimp only; refine State.set_keeps _ _ ?_ ?_; rw [Fld.blk_of]; exact rfl; refine State.set_keeps _ _ ?_ ?_
    rw [Fld.blk_of]; exact rfl; exact Keeps.refl _ _
  · split
    · dsimp only; refine State.set_keeps _ _ ?_ ?_; rw [Fld.blk_of]; exact rfl; refine State.set_keeps _ _ ?_ ?_
      rw [Fld.blk_of]; exact rfl; exact Keeps.refl _ _
    · next t ht =>
      split
      · dsimp only; refine Keeps.step (calRefused_keeps ..) rfl ?_; refine State.set_keeps _ _ ?_ ?_; rw [Fld.blk_of]; exact rfl
        refine State.set_keeps _ _ ?_ ?_; rw [Fld.blk_of]; exact rfl; exact Keeps.refl _ _
      · dsimp only
        have k := key _ _ _ ht
        split
        · next f hf =>
          split
          · refine State.setI_keeps _ _ (k.2 _ hf) ?_
            refine State.setI_keeps _ _ k.1 ?_
            refine State.set_keeps _ _ ?_ ?_; rw [Fld.blk_of]; exact rfl; refine State.set_keeps _ _ ?_ ?_
            rw [Fld.blk_of]; exact rfl; exact Keeps.refl _ _
          · refine State.setI_keeps _ _ k.1 ?_
            refine State.set_keeps _ _ ?_ ?_; rw [Fld.blk_of]; exact rfl; refine State.set_keeps _ _ ?_ ?_
            rw [Fld.blk_of]; exact rfl; exact Keeps.refl _ _
        · refine State.setI_keeps _ _ k.1 ?_
          refine State.set_keeps _ _ ?_ ?_; rw [Fld.blk_of]; exact rfl; refine State.set_keeps _ _ ?_ ?_
          rw [Fld.blk_of]; exact rfl; exact Keeps.refl _ _

theorem execCalApply_keeps (r) (w1) (s : State) : KeepsRes 0x80000000020080007000 s (execCalApply r w1 s) := by
  unfold execCalApply
  refine KeepsRes.next ?_; refine live_keeps _ (fun w hw => ?_) ?_; refine Keeps.step (calApply_keeps ..) rfl ?_; assumption
  exact Keeps.refl _ _

end Sys2Proof.Machine
end

