-- ==== Sys2Proof/Laws/Keeps/Engine.lean ====
section
/-!
SUPPORT. What each operation of Machine/Engine.lean keeps: the mask names the register blocks (bits 0 to 63) and the parts of State (bit
64 on) that the operation may change; everything outside it stays.
-/
namespace Sys2Proof.Machine

theorem modSe_keeps (x0) (f) (s : State) : Keeps 0x800000000000000000000000 s (modSe x0 f s) := by
  unfold modSe; refine Keeps.upd_eng _ ?_ ?_; exact rfl; exact Keeps.refl _ _

theorem setSe_keeps (x0) (st) (s : State) : Keeps 0x4000000 s (setSe x0 st s) := by
  unfold setSe
  refine State.set_keeps _ _ ?_ ?_; rw [ENG_SE_STAT_STATE_blk]; exact rfl; exact Keeps.refl _ _

theorem engRefuse_keeps (s : State) : Keeps 0x4000000 s (engRefuse s) := by
  unfold engRefuse; refine State.on_keeps _ ?_ ?_; exact rfl; exact Keeps.refl _ _

theorem csPut_keeps (x0) (x1) (p) (x3) (s : State) : Keeps 0x800000000000000000000000 s (csPut x0 x1 p x3 s) := by
  unfold csPut
  dsimp only; refine Keeps.step (modSe_keeps ..) rfl ?_; exact Keeps.refl _ _

theorem csLoadWord_keeps (x0) (a) (x3) (s : State) : Keeps 0x800080080000020000800000 s (csLoadWord x0 a s x3) := by
  unfold csLoadWord
  refine Keeps.foldl (fun w e hw => ?_) ?_; dsimp only; split; refine Keeps.step (csPut_keeps ..) rfl ?_; assumption
  refine Keeps.step (dramUe_keeps ..) rfl ?_; refine Keeps.step (modSe_keeps ..) rfl ?_; assumption; exact Keeps.refl _ _

theorem csLoad_keeps (x0) (a) (s : State) : Keeps 0x800080080000020000800000 s (csLoad x0 a s) := by
  unfold csLoad
  refine Keeps.foldl (fun w e hw => ?_) ?_; refine Keeps.step (csLoadWord_keeps ..) rfl ?_; assumption; exact Keeps.refl _ _

theorem csWindowWrite_keeps (x0) (p) (x2) (hi) (x4) (s : State) :
    Keeps 0x800000000000000004800000 s (csWindowWrite x0 p x2 hi x4 s) := by
  unfold csWindowWrite
  split; refine State.on_keeps _ ?_ ?_; exact rfl; exact Keeps.refl _ _; split; refine State.on_keeps _ ?_ ?_; exact rfl
  exact Keeps.refl _ _; refine Keeps.step (csPut_keeps ..) rfl ?_; exact Keeps.refl _ _

theorem execControlStoreWrite_keeps (x0) (p) (x2) (hi) (x4) (s : State) :
    KeepsRes 0x800000000000000004800000 s (execControlStoreWrite x0 p x2 hi x4 s) := by
  unfold execControlStoreWrite
  refine KeepsRes.next ?_; refine live_keeps _ (fun w hw => ?_) ?_; refine Keeps.step (csWindowWrite_keeps ..) rfl ?_
  assumption; exact Keeps.refl _ _

theorem roleDoorbell_keeps (r) (x1) (s : State) : Keeps 0x4000000 s (roleDoorbell r x1 s) := by
  unfold roleDoorbell
  refine Keeps.step (roleEdge_keeps ..) rfl ?_; refine State.set_keeps _ _ ?_ ?_; rw [ENG_ROLE_DB_VALUE_blk]; exact rfl
  exact Keeps.refl _ _

theorem execRoleDoorbell_keeps (r) (x1) (s : State) : KeepsRes 0x4000000 s (execRoleDoorbell r x1 s) := by
  unfold execRoleDoorbell
  refine KeepsRes.next ?_; refine live_keeps _ (fun w hw => ?_) ?_; refine Keeps.step (roleDoorbell_keeps ..) rfl ?_; assumption
  exact Keeps.refl _ _

theorem saveCtx_keeps (x0) (r) (next) (s : State) : Keeps 0x800000000000000004000000 s (saveCtx x0 r next s) := by
  unfold saveCtx
  dsimp only; refine Keeps.upd_eng _ ?_ ?_; exact rfl; refine Keeps.foldl (fun w e hw => ?_) ?_
  refine State.set_keeps _ _ ?_ ?_; rw [ENG_CTX_G_VALUE_blk]; exact rfl; assumption; exact Keeps.refl _ _

theorem restoreCtx_keeps (x0) (r) (s : State) : Keeps 0x800000000000000004000000 s (restoreCtx x0 r s) := by
  unfold restoreCtx
  dsimp only; refine State.set_keeps _ _ ?_ ?_; rw [ENG_SE_STAT_PC_blk]; exact rfl; refine Keeps.step (modSe_keeps ..) rfl ?_
  refine State.off_keeps _ ?_ ?_; rw [ENG_SE_STAT_LEVEL_blk]; exact rfl; exact Keeps.refl _ _

theorem engHoldUpdate_keeps (s : State) : Keeps 0x8480000000020000000008 s (engHoldUpdate s) := by
  unfold engHoldUpdate
  refine Keeps.foldl (fun w e hw => ?_) ?_; dsimp only; split; refine Keeps.step (quenchReq_keeps ..) rfl ?_
  refine Keeps.upd_qch _ ?_ ?_; exact rfl; assumption; refine Keeps.upd_qch _ ?_ ?_; exact rfl; assumption; exact Keeps.refl _ _

theorem roleLost_keeps (r) (s : State) : Keeps 0x8480000000020004000008 s (roleLost r s) := by
  unfold roleLost
  refine Keeps.step (engHoldUpdate_keeps ..) rfl ?_; refine State.off_keeps _ ?_ ?_; rw [ENG_MAP_VALID_blk]; exact rfl
  exact Keeps.refl _ _

theorem roleTaken_keeps (r) (x1) (s : State) : Keeps 0x8480000000020004000008 s (roleTaken r x1 s) := by
  unfold roleTaken
  refine Keeps.step (engHoldUpdate_keeps ..) rfl ?_; refine Keeps.step (setSe_keeps ..) rfl ?_; refine State.set_keeps _ _ ?_ ?_
  rw [ENG_SE_STAT_ROLE_blk]; exact rfl; refine State.set_keeps _ _ ?_ ?_; rw [ENG_MAP_ENGINE_blk]; exact rfl
  refine State.on_keeps _ ?_ ?_; rw [ENG_MAP_VALID_blk]; exact rfl; exact Keeps.refl _ _

theorem migBegin_keeps (r) (x1) (fault) (test) (s : State) : Keeps 0x800000000000000004000000 s (migBegin r x1 fault test s) := by
  unfold migBegin
  dsimp only; refine Keeps.step (setSe_keeps ..) rfl ?_; refine Keeps.upd_eng _ ?_ ?_; exact rfl
  refine State.set_keeps _ _ ?_ ?_; exact rfl; refine State.put_keeps _ _ ?_ ?_; exact rfl; refine State.set_keeps _ _ ?_ ?_
  exact rfl; exact Keeps.refl _ _

theorem serveWaiting_keeps (s : State) : Keeps 0x800000000000000004000000 s (serveWaiting s) := by
  unfold serveWaiting
  split; exact Keeps.refl _ _; split; refine Keeps.step (migBegin_keeps ..) rfl ?_; refine Keeps.upd_eng _ ?_ ?_; exact rfl
  exact Keeps.refl _ _; exact Keeps.refl _ _

theorem faultMigrate_keeps (r) (x1) (s : State) : Keeps 0x808480000000020004000008 s (faultMigrate r x1 s) := by
  unfold faultMigrate
  split; exact Keeps.refl _ _; split; refine State.on_keeps _ ?_ ?_; exact rfl; exact Keeps.refl _ _; split; split
  refine Keeps.step (migBegin_keeps ..) rfl ?_; exact Keeps.refl _ _; exact Keeps.refl _ _; dsimp only; split; split
  refine Keeps.step (patTrig_keeps ..) rfl ?_; refine State.on_keeps _ ?_ ?_; exact rfl
  refine Keeps.step (roleLost_keeps ..) rfl ?_; refine Keeps.upd_eng _ ?_ ?_; exact rfl; exact Keeps.refl _ _
  refine Keeps.step (roleLost_keeps ..) rfl ?_; refine Keeps.upd_eng _ ?_ ?_; exact rfl; exact Keeps.refl _ _; split
  refine Keeps.step (patTrig_keeps ..) rfl ?_; refine State.on_keeps _ ?_ ?_; exact rfl
  refine Keeps.step (roleLost_keeps ..) rfl ?_; refine Keeps.upd_eng _ ?_ ?_; exact rfl; exact Keeps.refl _ _
  refine Keeps.step (roleLost_keeps ..) rfl ?_; refine Keeps.upd_eng _ ?_ ?_; exact rfl; exact Keeps.refl _ _

theorem seFault_keeps (x0) (fcode) (s : State) : Keeps 0x808480000000020004000008 s (seFault x0 fcode s) := by
  unfold seFault
  dsimp only; split; refine Keeps.step (faultMigrate_keeps ..) rfl ?_; refine Keeps.step (patTrig_keeps ..) rfl ?_
  refine Keeps.step (setSe_keeps ..) rfl ?_; refine Keeps.step (modSe_keeps ..) rfl ?_; refine State.off_keeps _ ?_ ?_
  rw [ENG_SE_STAT_LEVEL_blk]; exact rfl; refine State.on_keeps _ ?_ ?_; exact rfl; refine State.set_keeps _ _ ?_ ?_
  rw [ENG_SE_FAULT_FPC_blk]; exact rfl; refine State.set_keeps _ _ ?_ ?_; rw [ENG_SE_FAULT_FCODE_blk]; exact rfl
  exact Keeps.refl _ _; refine Keeps.step (patTrig_keeps ..) rfl ?_; refine Keeps.step (setSe_keeps ..) rfl ?_
  refine Keeps.step (modSe_keeps ..) rfl ?_; refine State.off_keeps _ ?_ ?_; rw [ENG_SE_STAT_LEVEL_blk]; exact rfl
  refine State.on_keeps _ ?_ ?_; exact rfl; refine State.set_keeps _ _ ?_ ?_; rw [ENG_SE_FAULT_FPC_blk]; exact rfl
  refine State.set_keeps _ _ ?_ ?_; rw [ENG_SE_FAULT_FCODE_blk]; exact rfl; exact Keeps.refl _ _

theorem migGo_keeps (s : State) : Keeps 0x800000000000000004000000 s (migGo s) := by
  unfold migGo
  dsimp only; split; split; refine Keeps.step (migBegin_keeps ..) rfl ?_; refine State.on_keeps _ ?_ ?_; exact rfl
  exact Keeps.refl _ _; refine Keeps.step (engRefuse_keeps ..) rfl ?_; exact Keeps.refl _ _
  refine Keeps.step (engRefuse_keeps ..) rfl ?_; exact Keeps.refl _ _

theorem migWrite_keeps (x0) (s : State) : Keeps 0x800000000000000004000000 s (migWrite x0 s) := by
  unfold migWrite
  dsimp only; split; refine Keeps.step (migGo_keeps ..) rfl ?_; refine State.set_keeps _ _ ?_ ?_; exact rfl
  refine State.set_keeps _ _ ?_ ?_; exact rfl; refine State.put_keeps _ _ ?_ ?_; exact rfl; exact Keeps.refl _ _
  refine State.set_keeps _ _ ?_ ?_; exact rfl; refine State.set_keeps _ _ ?_ ?_; exact rfl; refine State.put_keeps _ _ ?_ ?_
  exact rfl; exact Keeps.refl _ _

theorem execMigrationGo_keeps (x0) (s : State) : KeepsRes 0x800000000000000004000000 s (execMigrationGo x0 s) := by
  unfold execMigrationGo
  refine KeepsRes.next ?_; refine live_keeps _ (fun w hw => ?_) ?_; refine Keeps.step (migWrite_keeps ..) rfl ?_; assumption
  exact Keeps.refl _ _

theorem migEnd_keeps (r) (x1) (last) (s : State) : Keeps 0x808480000000020004000008 s (migEnd r x1 last s) := by
  unfold migEnd
  dsimp only; refine Keeps.step (serveWaiting_keeps ..) rfl ?_; refine Keeps.step (patTrig_keeps ..) rfl ?_
  refine State.on_keeps _ ?_ ?_; exact rfl; refine State.off_keeps _ ?_ ?_; exact rfl; refine State.set_keeps _ _ ?_ ?_
  exact rfl; refine State.off_keeps _ ?_ ?_; exact rfl; refine Keeps.step (roleTaken_keeps ..) rfl ?_; exact Keeps.refl _ _

theorem migPreloaded_keeps (last) (s : State) : Keeps 0x808480080000020004800008 s (migPreloaded last s) := by
  unfold migPreloaded
  split; exact Keeps.refl _ _; split; split; dsimp only; split; refine Keeps.step (migEnd_keeps ..) rfl ?_
  refine Keeps.step (restoreCtx_keeps ..) rfl ?_; refine Keeps.step (csLoad_keeps ..) rfl ?_; exact Keeps.refl _ _
  refine State.set_keeps _ _ ?_ ?_; exact rfl; refine Keeps.step (csLoad_keeps ..) rfl ?_; exact Keeps.refl _ _
  exact Keeps.refl _ _; exact Keeps.refl _ _

theorem execMigrationPreloadDone_keeps (last) (s : State) :
    KeepsRes 0x808480080000020004800008 s (execMigrationPreloadDone last s) := by
  unfold execMigrationPreloadDone
  refine KeepsRes.next ?_; refine live_keeps _ (fun w hw => ?_) ?_; refine Keeps.step (migPreloaded_keeps ..) rfl ?_; assumption
  exact Keeps.refl _ _

theorem migTransfer_keeps (x0) (x1) (s : State) : Keeps 0x800000000000000004000000 s (migTransfer x0 x1 s) := by
  unfold migTransfer
  dsimp only; refine State.set_keeps _ _ ?_ ?_; rw [ENG_SE_STAT_PC_blk]; exact rfl; refine Keeps.step (modSe_keeps ..) rfl ?_
  refine State.off_keeps _ ?_ ?_; rw [ENG_SE_STAT_LEVEL_blk]; exact rfl; exact Keeps.refl _ _

theorem migFreeze_keeps (last) (s : State) : Keeps 0x808480000000020004000008 s (migFreeze last s) := by
  unfold migFreeze
  split; exact Keeps.refl _ _; split; split; dsimp only; split; refine Keeps.step (migEnd_keeps ..) rfl ?_
  refine Keeps.step (restoreCtx_keeps ..) rfl ?_; exact Keeps.refl _ _; split; split; refine Keeps.step (migEnd_keeps ..) rfl ?_
  refine Keeps.step (setSe_keeps ..) rfl ?_; refine Keeps.step (modSe_keeps ..) rfl ?_
  refine Keeps.step (migTransfer_keeps ..) rfl ?_; exact Keeps.refl _ _; exact Keeps.refl _ _; exact Keeps.refl _ _
  exact Keeps.refl _ _; exact Keeps.refl _ _

theorem roleStart_keeps (r) (s : State) : Keeps 0x4000000 s (roleStart r s) := by
  unfold roleStart
  split; split; refine Keeps.step (setSe_keeps ..) rfl ?_; refine State.on_keeps _ ?_ ?_; rw [ENG_ROLE_CTL_START_blk]; exact rfl
  exact Keeps.refl _ _; refine Keeps.step (engRefuse_keeps ..) rfl ?_; exact Keeps.refl _ _
  refine Keeps.step (engRefuse_keeps ..) rfl ?_; exact Keeps.refl _ _

theorem execRoleStart_keeps (r) (s : State) : KeepsRes 0x4000000 s (execRoleStart r s) := by
  unfold execRoleStart
  refine KeepsRes.next ?_; refine live_keeps _ (fun w hw => ?_) ?_; refine Keeps.step (roleStart_keeps ..) rfl ?_; assumption
  exact Keeps.refl _ _

theorem clearCtx_keeps (r) (s : State) : Keeps 0x800000000000000004000000 s (clearCtx r s) := by
  unfold clearCtx
  dsimp only; refine Keeps.upd_eng _ ?_ ?_; exact rfl; refine Keeps.foldl (fun w e hw => ?_) ?_; refine State.off_keeps _ ?_ ?_
  rw [ENG_CTX_G_VALUE_blk]; exact rfl; assumption; exact Keeps.refl _ _

theorem roleLoaded_keeps (r) (s : State) : Keeps 0x808480080000020004800008 s (roleLoaded r s) := by
  unfold roleLoaded
  split; split; dsimp only; refine Keeps.step (roleTaken_keeps ..) rfl ?_; refine State.off_keeps _ ?_ ?_
  rw [ENG_ROLE_CTL_START_blk]; exact rfl; refine State.set_keeps _ _ ?_ ?_; rw [ENG_SE_STAT_PC_blk]; exact rfl
  refine Keeps.step (modSe_keeps ..) rfl ?_; refine State.off_keeps _ ?_ ?_; rw [ENG_SE_STAT_LEVEL_blk]; exact rfl
  refine Keeps.step (clearCtx_keeps ..) rfl ?_; refine Keeps.step (csLoad_keeps ..) rfl ?_; exact Keeps.refl _ _
  exact Keeps.refl _ _; exact Keeps.refl _ _

theorem execRoleLoadDone_keeps (r) (s : State) : KeepsRes 0x808480080000020004800008 s (execRoleLoadDone r s) := by
  unfold execRoleLoadDone
  refine KeepsRes.next ?_; refine live_keeps _ (fun w hw => ?_) ?_; refine Keeps.step (roleLoaded_keeps ..) rfl ?_; assumption
  exact Keeps.refl _ _

theorem seHalt_keeps (x0) (s : State) : Keeps 0x800000000000000004000000 s (seHalt x0 s) := by
  unfold seHalt
  split; refine Keeps.step (setSe_keeps ..) rfl ?_; refine Keeps.step (modSe_keeps ..) rfl ?_; exact Keeps.refl _ _
  refine Keeps.step (modSe_keeps ..) rfl ?_; exact Keeps.refl _ _

theorem engineHalt_keeps (x0) (s : State) : Keeps 0x800000000000000004000000 s (engineHalt x0 s) := by
  unfold engineHalt
  split; refine Keeps.step (seHalt_keeps ..) rfl ?_; exact Keeps.refl _ _; refine Keeps.step (engRefuse_keeps ..) rfl ?_
  exact Keeps.refl _ _

theorem execEngineHalt_keeps (x0) (s : State) : KeepsRes 0x800000000000000004000000 s (execEngineHalt x0 s) := by
  unfold execEngineHalt
  refine KeepsRes.next ?_; refine live_keeps _ (fun w hw => ?_) ?_; refine Keeps.step (engineHalt_keeps ..) rfl ?_; assumption
  exact Keeps.refl _ _

theorem engineResume_keeps (x0) (s : State) : Keeps 0x4000000 s (engineResume x0 s) := by
  unfold engineResume
  split; refine Keeps.step (setSe_keeps ..) rfl ?_; exact Keeps.refl _ _; refine Keeps.step (engRefuse_keeps ..) rfl ?_
  exact Keeps.refl _ _

theorem execEngineResume_keeps (x0) (s : State) : KeepsRes 0x4000000 s (execEngineResume x0 s) := by
  unfold execEngineResume
  refine KeepsRes.next ?_; refine live_keeps _ (fun w hw => ?_) ?_; refine Keeps.step (engineResume_keeps ..) rfl ?_; assumption
  exact Keeps.refl _ _

theorem engineSpare_keeps (x0) (s : State) : Keeps 0x800000000000000004000000 s (engineSpare x0 s) := by
  unfold engineSpare
  split; refine Keeps.step (serveWaiting_keeps ..) rfl ?_; refine Keeps.step (setSe_keeps ..) rfl ?_
  refine Keeps.step (modSe_keeps ..) rfl ?_; exact Keeps.refl _ _; refine Keeps.step (engRefuse_keeps ..) rfl ?_
  exact Keeps.refl _ _

theorem execEngineSpare_keeps (x0) (s : State) : KeepsRes 0x800000000000000004000000 s (execEngineSpare x0 s) := by
  unfold execEngineSpare
  refine KeepsRes.next ?_; refine live_keeps _ (fun w hw => ?_) ?_; refine Keeps.step (engineSpare_keeps ..) rfl ?_; assumption
  exact Keeps.refl _ _

theorem engineRetire_keeps (x0) (s : State) : Keeps 0x4000000 s (engineRetire x0 s) := by
  unfold engineRetire
  split; refine Keeps.step (setSe_keeps ..) rfl ?_; exact Keeps.refl _ _; refine Keeps.step (engRefuse_keeps ..) rfl ?_
  exact Keeps.refl _ _

theorem execEngineRetire_keeps (x0) (s : State) : KeepsRes 0x4000000 s (execEngineRetire x0 s) := by
  unfold execEngineRetire
  refine KeepsRes.next ?_; refine live_keeps _ (fun w hw => ?_) ?_; refine Keeps.step (engineRetire_keeps ..) rfl ?_; assumption
  exact Keeps.refl _ _

theorem enginesDisable_keeps (s : State) : Keeps 0x800000000000000004000000 s (enginesDisable s) := by
  unfold enginesDisable
  refine Keeps.foldl (fun w e hw => ?_) ?_; split; refine Keeps.step (seHalt_keeps ..) rfl ?_; assumption; assumption
  refine State.off_keeps _ ?_ ?_; exact rfl; exact Keeps.refl _ _

theorem execEnginesDisable_keeps (s : State) : KeepsRes 0x800000000000000004000000 s (execEnginesDisable s) := by
  unfold execEnginesDisable
  refine KeepsRes.next ?_; refine live_keeps _ (fun w hw => ?_) ?_; refine Keeps.step (enginesDisable_keeps ..) rfl ?_
  assumption; exact Keeps.refl _ _

theorem seWarm_keeps (x1) (s : State) : Keeps 0x800080080000020004800000 s (seWarm s x1) := by
  unfold seWarm
  split; dsimp only; refine Keeps.step (setSe_keeps ..) rfl ?_; refine State.set_keeps _ _ ?_ ?_
  rw [ENG_SE_STAT_PC_blk]; exact rfl; refine Keeps.step (modSe_keeps ..) rfl ?_; refine Keeps.step (csLoad_keeps ..) rfl ?_
  exact Keeps.refl _ _; exact Keeps.refl _ _

end Sys2Proof.Machine
end

