-- ==== Sys2Proof/Laws/Keeps/Assay.lean ====
section
/-!
SUPPORT. What each operation of Machine/Assay.lean keeps: the mask names the register blocks (bits 0 to 63) and the parts of State (bit
64 on) that the operation may change; everything outside it stays.
-/
namespace Sys2Proof.Machine

theorem subOn_keeps (a) (s : State) : Keeps 0x1400 s (subOn a s) := by
  unfold subOn
  refine State.onBit_keeps _ _ ?_ ?_; exact rfl; refine State.off_keeps _ ?_ ?_; rw [WCH_CTL_EN_blk]; exact rfl
  refine State.off_keeps _ ?_ ?_; rw [RCH_CTL_EN_blk]; exact rfl; exact Keeps.refl _ _

theorem chsubWrite_keeps (x0) (s : State) : Keeps 0x10000001400 s (chsubWrite x0 s) := by
  unfold chsubWrite
  dsimp only; split; refine State.on_keeps _ ?_ ?_; exact rfl; exact Keeps.refl _ _; refine Keeps.foldl (fun w e hw => ?_) ?_
  split; refine Keeps.step (subOn_keeps ..) rfl ?_; assumption; split; refine State.offBit_keeps _ _ ?_ ?_; exact rfl
  assumption; assumption; refine State.set_keeps _ _ ?_ ?_; exact rfl; exact Keeps.refl _ _

theorem execChannelSubstitution_keeps (x0) (s : State) : KeepsRes 0x10000001400 s (execChannelSubstitution x0 s) := by
  unfold execChannelSubstitution
  refine KeepsRes.next ?_; refine live_keeps _ (fun w hw => ?_) ?_; refine Keeps.step (chsubWrite_keeps ..) rfl ?_; assumption
  exact Keeps.refl _ _

theorem setStep_keeps (x) (s : State) : Keeps 0x40000000000000000000 s (setStep x s) := by
  unfold setStep; refine Keeps.upd_asy _ ?_ ?_; exact rfl; exact Keeps.refl _ _

theorem dutyWindow_keeps (s : State) : Keeps 0x40000000010000000000 s (dutyWindow s) := by
  unfold dutyWindow
  split; dsimp only; refine Keeps.upd_asy _ ?_ ?_; exact rfl; refine State.set_keeps _ _ ?_ ?_; exact rfl; exact Keeps.refl _ _
  exact Keeps.refl _ _

theorem asyLast_keeps (x) (result) (s : State) : Keeps 0x10000000000 s (asyLast x result s) := by
  unfold asyLast
  refine State.set_keeps _ _ ?_ ?_; exact rfl; refine State.set_keeps _ _ ?_ ?_; exact rfl; refine State.set_keeps _ _ ?_ ?_
  exact rfl; refine State.set_keeps _ _ ?_ ?_; exact rfl; exact Keeps.refl _ _

theorem asyTake_keeps (x) (s : State) : Keeps 0x28301002000000400140010c8 s (asyTake x s) := by
  unfold asyTake
  split; split; refine Keeps.step (pinSlot_keeps ..) rfl ?_; exact Keeps.refl _ _; exact Keeps.refl _ _
  refine Keeps.step (migWrite_keeps ..) rfl ?_; exact Keeps.refl _ _; split; exact Keeps.refl _ _
  refine Keeps.step (decoderRebind_keeps ..) rfl ?_; exact Keeps.refl _ _; refine State.on_keeps _ ?_ ?_; exact rfl
  exact Keeps.refl _ _; split; refine Keeps.step (portDisable_keeps ..) rfl ?_; exact Keeps.refl _ _; exact Keeps.refl _ _
  exact Keeps.refl _ _

theorem asyReturn_keeps (x) (s : State) : Keeps 0x10000000000000000000008 s (asyReturn x s) := by
  unfold asyReturn
  split; split; refine Keeps.step (unpinSlot_keeps ..) rfl ?_; exact Keeps.refl _ _; exact Keeps.refl _ _
  refine State.off_keeps _ ?_ ?_; exact rfl; exact Keeps.refl _ _; exact Keeps.refl _ _

theorem assayStart_keeps (x) (s : State) : Keeps 0x28301402000000500140010c8 s (assayStart x s) := by
  unfold assayStart
  dsimp only; split; refine Keeps.step (dutyWindow_keeps ..) rfl ?_; exact Keeps.refl _ _; split
  refine Keeps.step (asyLast_keeps ..) rfl ?_; refine Keeps.step (dutyWindow_keeps ..) rfl ?_; exact Keeps.refl _ _
  refine Keeps.step (asyTake_keeps ..) rfl ?_; refine Keeps.step (setStep_keeps ..) rfl ?_
  refine Keeps.step (dutyWindow_keeps ..) rfl ?_; exact Keeps.refl _ _

theorem execAssayStepStart_keeps (test) (unit) (detail) (s : State) :
    KeepsRes 0x28301402000000500140010c8 s (execAssayStepStart test unit detail s) := by
  unfold execAssayStepStart
  refine KeepsRes.next ?_; refine live_keeps _ (fun w hw => ?_) ?_; refine Keeps.step (assayStart_keeps ..) rfl ?_; assumption
  exact Keeps.refl _ _

theorem asySub_keeps (s : State) : Keeps 0x80000000030000000000 s (asySub s) := by
  unfold asySub
  refine Keeps.step (patTrig_keeps ..) rfl ?_; refine State.on_keeps _ ?_ ?_; exact rfl; exact Keeps.refl _ _

theorem retireRegion_keeps (region) (s : State) : Keeps 0x80000000030000800000 s (retireRegion region s) := by
  unfold retireRegion
  split; refine Keeps.step (asySub_keeps ..) rfl ?_; refine State.set_keeps _ _ ?_ ?_; rw [MEM_RETIRE_REGION_blk]; exact rfl
  refine State.on_keeps _ ?_ ?_; rw [MEM_RETIRE_VALID_blk]; exact rfl; exact Keeps.refl _ _; exact Keeps.refl _ _

theorem asyFailure_keeps (x) (s : State) : Keeps 0x40080000000030004801400 s (asyFailure x s) := by
  unfold asyFailure
  split; split; dsimp only; split; refine Keeps.step (asySub_keeps ..) rfl ?_; refine Keeps.step (rowRepair_keeps ..) rfl ?_
  exact Keeps.refl _ _; refine Keeps.step (rowRepair_keeps ..) rfl ?_; exact Keeps.refl _ _; exact Keeps.refl _ _; split
  refine Keeps.step (asySub_keeps ..) rfl ?_; refine Keeps.step (engineRetire_keeps ..) rfl ?_; exact Keeps.refl _ _
  exact Keeps.refl _ _; refine State.on_keeps _ ?_ ?_; rw [RCH_DEC_STAT_FAULT_blk]; exact rfl; exact Keeps.refl _ _; split
  refine Keeps.step (asySub_keeps ..) rfl ?_; refine Keeps.step (chsubWrite_keeps ..) rfl ?_; exact Keeps.refl _ _
  exact Keeps.refl _ _; refine Keeps.step (retireRegion_keeps ..) rfl ?_; exact Keeps.refl _ _; exact Keeps.refl _ _

theorem asyPass_keeps (x) (s : State) : Keeps 0x800000000000000004000000 s (asyPass x s) := by
  unfold asyPass
  split; split; refine Keeps.step (engineSpare_keeps ..) rfl ?_; exact Keeps.refl _ _; exact Keeps.refl _ _
  exact Keeps.refl _ _

theorem asyTime_keeps (us) (s : State) : Keeps 0x10000000000 s (asyTime us s) := by
  unfold asyTime; refine State.bump_keeps _ _ ?_ ?_; exact rfl; exact Keeps.refl _ _

theorem assayDone_keeps (pass) (unit) (detail) (us) (s : State) :
    Keeps 0x8500c0000000030004801408 s (assayDone pass unit detail us s) := by
  unfold assayDone
  split; exact Keeps.refl _ _; dsimp only; split; refine Keeps.step (asyPass_keeps ..) rfl ?_; refine State.on_keeps _ ?_ ?_
  exact rfl; refine Keeps.step (asyLast_keeps ..) rfl ?_; refine Keeps.step (asyTime_keeps ..) rfl ?_
  refine Keeps.step (setStep_keeps ..) rfl ?_; refine Keeps.step (asyReturn_keeps ..) rfl ?_; exact Keeps.refl _ _
  refine Keeps.step (asyFailure_keeps ..) rfl ?_; refine Keeps.step (patTrig_keeps ..) rfl ?_; refine State.on_keeps _ ?_ ?_
  exact rfl; refine Keeps.step (asyLast_keeps ..) rfl ?_; refine Keeps.step (asyTime_keeps ..) rfl ?_
  refine Keeps.step (setStep_keeps ..) rfl ?_; refine Keeps.step (asyReturn_keeps ..) rfl ?_; exact Keeps.refl _ _

theorem execAssayStepDone_keeps (pass) (unit) (detail) (us) (s : State) :
    KeepsRes 0x8500c0000000030004801408 s (execAssayStepDone pass unit detail us s) := by
  unfold execAssayStepDone
  refine KeepsRes.next ?_; refine live_keeps _ (fun w hw => ?_) ?_; refine Keeps.step (assayDone_keeps ..) rfl ?_; assumption
  exact Keeps.refl _ _

theorem assayYield_keeps (x0) (us) (s : State) : Keeps 0x100c0000000030000000008 s (assayYield x0 us s) := by
  unfold assayYield
  split; exact Keeps.refl _ _; dsimp only; split; refine Keeps.step (patTrig_keeps ..) rfl ?_; refine State.on_keeps _ ?_ ?_
  exact rfl; refine State.set_keeps _ _ ?_ ?_; exact rfl; refine State.set_keeps _ _ ?_ ?_; exact rfl
  refine Keeps.step (asyLast_keeps ..) rfl ?_; refine Keeps.step (asyTime_keeps ..) rfl ?_
  refine Keeps.step (setStep_keeps ..) rfl ?_; refine Keeps.step (asyReturn_keeps ..) rfl ?_; exact Keeps.refl _ _
  refine State.on_keeps _ ?_ ?_; exact rfl; refine State.set_keeps _ _ ?_ ?_; exact rfl; refine State.set_keeps _ _ ?_ ?_
  exact rfl; refine Keeps.step (asyLast_keeps ..) rfl ?_; refine Keeps.step (asyTime_keeps ..) rfl ?_
  refine Keeps.step (setStep_keeps ..) rfl ?_; refine Keeps.step (asyReturn_keeps ..) rfl ?_; exact Keeps.refl _ _

theorem execAssayYield_keeps (x0) (us) (s : State) : KeepsRes 0x100c0000000030000000008 s (execAssayYield x0 us s) := by
  unfold execAssayYield
  refine KeepsRes.next ?_; refine live_keeps _ (fun w hw => ?_) ?_; refine Keeps.step (assayYield_keeps ..) rfl ?_; assumption
  exact Keeps.refl _ _

theorem tapIr_keeps (x0) (s : State) : Keeps 0x1000000000000000000 s (tapIr x0 s) := by
  unfold tapIr; refine Keeps.upd_pins _ ?_ ?_; exact rfl; exact Keeps.refl _ _

theorem tapDrive_keeps (x0) (s : State) : Keeps 0x1000000000000000000 s (tapDrive x0 s) := by
  unfold tapDrive; refine Keeps.step (tapIr_keeps ..) rfl ?_; exact Keeps.refl _ _

theorem execBypass_keeps (s : State) : KeepsRes 0x1000000000000000000 s (execBypass s) := by
  unfold execBypass
  refine KeepsRes.next ?_; refine State.when_keeps _ _ (fun w hw => ?_) ?_; refine Keeps.step (tapIr_keeps ..) rfl ?_
  assumption; exact Keeps.refl _ _

theorem execIdcode_keeps (s : State) : KeepsRes 0x1200000000000000000 s (execIdcode s) := by
  unfold execIdcode
  refine KeepsRes.next ?_; refine State.when_keeps _ _ (fun w hw => ?_) ?_; refine State.emit_keeps _ ?_ ?_; exact rfl
  refine Keeps.step (tapIr_keeps ..) rfl ?_; assumption; exact Keeps.refl _ _

theorem execSamplePreload_keeps (balls) (s : State) : KeepsRes 0x1200000000000000000 s (execSamplePreload balls s) := by
  unfold execSamplePreload
  refine KeepsRes.next ?_; refine State.when_keeps _ _ (fun w hw => ?_) ?_; refine State.emit_keeps _ ?_ ?_; exact rfl
  dsimp only; refine Keeps.upd_pins _ ?_ ?_; exact rfl; refine Keeps.step (tapIr_keeps ..) rfl ?_; assumption
  exact Keeps.refl _ _

theorem execExtest_keeps (s : State) : KeepsRes 0x1000000000000000000 s (execExtest s) := by
  unfold execExtest
  refine KeepsRes.next ?_; refine State.when_keeps _ _ (fun w hw => ?_) ?_; refine Keeps.step (tapDrive_keeps ..) rfl ?_
  assumption; exact Keeps.refl _ _

theorem execClamp_keeps (s : State) : KeepsRes 0x1000000000000000000 s (execClamp s) := by
  unfold execClamp
  refine KeepsRes.next ?_; refine State.when_keeps _ _ (fun w hw => ?_) ?_; refine Keeps.step (tapDrive_keeps ..) rfl ?_
  assumption; exact Keeps.refl _ _

theorem execHighz_keeps (s : State) : KeepsRes 0x1000000000000000000 s (execHighz s) := by
  unfold execHighz
  refine KeepsRes.next ?_; refine State.when_keeps _ _ (fun w hw => ?_) ?_; refine Keeps.step (tapDrive_keeps ..) rfl ?_
  assumption; exact Keeps.refl _ _

end Sys2Proof.Machine
end

