-- ==== Sys2Proof/Laws/Keeps/Sec.lean ====
section
/-!
SUPPORT. What each operation of Machine/Sec.lean keeps: the mask names the register blocks (bits 0 to 63) and the parts of State (bit
64 on) that the operation may change; everything outside it stays.
-/
namespace Sys2Proof.Machine

theorem modSec_keeps (f) (s : State) : Keeps 0x4000000000000000000000000 s (modSec f s) := by
  unfold modSec; refine Keeps.upd_sec _ ?_ ?_; exact rfl; exact Keeps.refl _ _

theorem configLock_keeps (s : State) : Keeps 0x100000000000 s (configLock s) := by
  unfold configLock; refine State.on_keeps _ ?_ ?_; exact rfl; exact Keeps.refl _ _

theorem execConfigLock_keeps (s : State) : KeepsRes 0x100000000000 s (execConfigLock s) := by
  unfold execConfigLock
  refine KeepsRes.next ?_; refine live_keeps _ (fun w hw => ?_) ?_; refine Keeps.step (configLock_keeps ..) rfl ?_; assumption
  exact Keeps.refl _ _

theorem rollbackTo_keeps (x0) (slot) (s : State) : Keeps 0x80000000120000000000 s (rollbackTo x0 slot s) := by
  unfold rollbackTo
  split; refine Keeps.step (patTrig_keeps ..) rfl ?_; refine State.on_keeps _ ?_ ?_; exact rfl; refine State.set_keeps _ _ ?_ ?_
  exact rfl; exact Keeps.refl _ _; exact Keeps.refl _ _

theorem fuseCmd_keeps (op) (x1) (s : State) : Keeps 0x80000000120000000000 s (fuseCmd op x1 s) := by
  unfold fuseCmd
  dsimp only; split; split; refine Keeps.step (rollbackTo_keeps ..) rfl ?_; refine State.set_keeps _ _ ?_ ?_; exact rfl
  refine State.set_keeps _ _ ?_ ?_; exact rfl; refine State.set_keeps _ _ ?_ ?_; exact rfl; exact Keeps.refl _ _
  refine State.set_keeps _ _ ?_ ?_; exact rfl; refine State.set_keeps _ _ ?_ ?_; exact rfl; refine State.set_keeps _ _ ?_ ?_
  exact rfl; exact Keeps.refl _ _; split; refine State.onBit_keeps _ _ ?_ ?_; exact rfl; refine State.set_keeps _ _ ?_ ?_
  exact rfl; refine State.set_keeps _ _ ?_ ?_; exact rfl; refine State.set_keeps _ _ ?_ ?_; exact rfl; exact Keeps.refl _ _
  refine State.set_keeps _ _ ?_ ?_; exact rfl; refine State.set_keeps _ _ ?_ ?_; exact rfl; refine State.set_keeps _ _ ?_ ?_
  exact rfl; exact Keeps.refl _ _; refine State.set_keeps _ _ ?_ ?_; exact rfl; refine State.set_keeps _ _ ?_ ?_; exact rfl
  exact Keeps.refl _ _

theorem execRollbackAdvance_keeps (x0) (s : State) : KeepsRes 0x80000000120000000000 s (execRollbackAdvance x0 s) := by
  unfold execRollbackAdvance
  refine KeepsRes.next ?_; refine live_keeps _ (fun w hw => ?_) ?_; refine Keeps.step (fuseCmd_keeps ..) rfl ?_; assumption
  exact Keeps.refl _ _

theorem execKeyRevoke_keeps (x0) (s : State) : KeepsRes 0x80000000120000000000 s (execKeyRevoke x0 s) := by
  unfold execKeyRevoke
  refine KeepsRes.next ?_; refine live_keeps _ (fun w hw => ?_) ?_; refine Keeps.step (fuseCmd_keeps ..) rfl ?_; assumption
  exact Keeps.refl _ _

theorem imageVerify_keeps (s : State) : Keeps 0x100000000000 s (imageVerify s) := by
  unfold imageVerify
  dsimp only; refine State.set_keeps _ _ ?_ ?_; exact rfl; refine State.set_keeps _ _ ?_ ?_; exact rfl; exact Keeps.refl _ _

theorem execImageVerify_keeps (s : State) : KeepsRes 0x100000000000 s (execImageVerify s) := by
  unfold execImageVerify
  refine KeepsRes.next ?_; refine live_keeps _ (fun w hw => ?_) ?_; refine Keeps.step (imageVerify_keeps ..) rfl ?_; assumption
  exact Keeps.refl _ _

theorem modSlot_keeps (i) (f) (s : State) : Keeps 0x4000000000000000000000000 s (modSlot i f s) := by
  unfold modSlot; refine Keeps.step (modSec_keeps ..) rfl ?_; exact Keeps.refl _ _

theorem appendRec_keeps (i) (count) (st) (s : State) : Keeps 0x4000000000000000000000000 s (appendRec i count st s) := by
  unfold appendRec; refine Keeps.step (modSlot_keeps ..) rfl ?_; exact Keeps.refl _ _

theorem recordCommitted_keeps (i) (s : State) : Keeps 0x4000080000000120000000000 s (recordCommitted i s) := by
  unfold recordCommitted
  dsimp only; split; refine Keeps.step (rollbackTo_keeps ..) rfl ?_; refine Keeps.step (appendRec_keeps ..) rfl ?_
  exact Keeps.refl _ _; refine Keeps.step (appendRec_keeps ..) rfl ?_; exact Keeps.refl _ _

theorem execActivationRecordCommit_keeps (slot) (s : State) :
    KeepsRes 0x4000080000000120000000000 s (execActivationRecordCommit slot s) := by
  unfold execActivationRecordCommit
  refine KeepsRes.next ?_; refine live_keeps _ (fun w hw => ?_) ?_; refine Keeps.step (recordCommitted_keeps ..) rfl ?_
  assumption; exact Keeps.refl _ _

theorem bootSlot_keeps (i) (trial) (s : State) : Keeps 0x4000000000000100000000000 s (bootSlot i trial s) := by
  unfold bootSlot
  dsimp only; refine State.put_keeps _ _ ?_ ?_; exact rfl; refine State.set_keeps _ _ ?_ ?_; exact rfl
  refine State.set_keeps _ _ ?_ ?_; exact rfl; refine Keeps.step (modSec_keeps ..) rfl ?_; split
  refine Keeps.step (appendRec_keeps ..) rfl ?_; exact Keeps.refl _ _; exact Keeps.refl _ _

theorem bootTry_keeps (fuel) (skip) (s : State) : Keeps 0x4000080000000120000000000 s (bootTry fuel skip s).1 := by
  induction fuel generalizing s skip with
  | zero =>
    unfold bootTry
    dsimp only; exact Keeps.refl _ _
  | succ k ih =>
    unfold bootTry
    split; dsimp only; exact Keeps.refl _ _; split; dsimp only; refine Keeps.step (bootSlot_keeps ..) rfl ?_
    exact Keeps.refl _ _; refine Keeps.step (ih ..) rfl ?_; refine Keeps.step (patTrig_keeps ..) rfl ?_
    refine State.on_keeps _ ?_ ?_; exact rfl; exact Keeps.refl _ _

theorem attBegin_keeps (s : State) : Keeps 0x4000000000000100000000000 s (attBegin s) := by
  unfold attBegin
  dsimp only; refine State.on_keeps _ ?_ ?_; exact rfl; refine Keeps.step (modSec_keeps ..) rfl ?_; exact Keeps.refl _ _

theorem attStart_keeps (s : State) : Keeps 0x4000000000000100000000000 s (attStart s) := by
  unfold attStart
  dsimp only; split; refine Keeps.step (modSec_keeps ..) rfl ?_; refine Keeps.step (modSec_keeps ..) rfl ?_
  exact Keeps.refl _ _; refine Keeps.step (attBegin_keeps ..) rfl ?_; refine Keeps.step (modSec_keeps ..) rfl ?_
  exact Keeps.refl _ _

theorem execAttestationStart_keeps (s : State) : KeepsRes 0x4000000000000100000000000 s (execAttestationStart s) := by
  unfold execAttestationStart
  refine KeepsRes.next ?_; refine live_keeps _ (fun w hw => ?_) ?_; refine Keeps.step (attStart_keeps ..) rfl ?_; assumption
  exact Keeps.refl _ _

theorem attDone_keeps (s : State) : Keeps 0x40000000c0000100000800000 s (attDone s) := by
  unfold attDone
  split; exact Keeps.refl _ _; split; refine Keeps.step (attBegin_keeps ..) rfl ?_; exact Keeps.refl _ _; dsimp only
  refine State.on_keeps _ ?_ ?_; exact rfl; refine State.off_keeps _ ?_ ?_; exact rfl
  refine Keeps.step (modSec_keeps ..) rfl ?_; refine Keeps.step (State.dramWrite_keeps ..) rfl ?_; exact Keeps.refl _ _

theorem execAttestationDone_keeps (s : State) : KeepsRes 0x40000000c0000100000800000 s (execAttestationDone s) := by
  unfold execAttestationDone
  refine KeepsRes.next ?_; refine live_keeps _ (fun w hw => ?_) ?_; refine Keeps.step (attDone_keeps ..) rfl ?_; assumption
  exact Keeps.refl _ _

theorem storeWrite_keeps (s : State) : Keeps 0x4080000100000000000000000 s (storeWrite s) := by
  unfold storeWrite
  dsimp only; refine Keeps.step (modSec_keeps ..) rfl ?_; split; split; refine Keeps.step (putPage_keeps ..) rfl ?_
  refine State.draw_keeps ?_ ?_; exact rfl; refine State.draw_keeps ?_ ?_; exact rfl; exact Keeps.refl _ _
  refine Keeps.foldl (fun w e hw => ?_) ?_; refine Keeps.step (putPage_keeps ..) rfl ?_; assumption
  refine Keeps.step (putPage_keeps ..) rfl ?_; refine State.draw_keeps ?_ ?_; exact rfl; refine State.draw_keeps ?_ ?_
  exact rfl; exact Keeps.refl _ _; split; refine Keeps.step (putPage_keeps ..) rfl ?_; refine State.draw_keeps ?_ ?_; exact rfl
  refine State.draw_keeps ?_ ?_; exact rfl; exact Keeps.refl _ _; refine Keeps.foldl (fun w e hw => ?_) ?_
  refine Keeps.step (putPage_keeps ..) rfl ?_; assumption; refine Keeps.step (putPage_keeps ..) rfl ?_
  refine State.draw_keeps ?_ ?_; exact rfl; refine State.draw_keeps ?_ ?_; exact rfl; exact Keeps.refl _ _

theorem keyEnd_keeps (op) (x1) (res) (s : State) : Keeps 0x100000000000 s (keyEnd op x1 res s) := by
  unfold keyEnd
  refine State.on_keeps _ ?_ ?_; exact rfl; refine State.set_keeps _ _ ?_ ?_; exact rfl; refine State.set_keeps _ _ ?_ ?_
  exact rfl; refine State.set_keeps _ _ ?_ ?_; exact rfl; exact Keeps.refl _ _

theorem keyGenerate_keeps (x0) (fail) (s : State) : Keeps 0x4080000100000100000000000 s (keyGenerate x0 fail s) := by
  unfold keyGenerate
  split; refine Keeps.step (keyEnd_keeps ..) rfl ?_; exact Keeps.refl _ _; split; refine Keeps.step (keyEnd_keeps ..) rfl ?_
  exact Keeps.refl _ _; dsimp only; refine Keeps.step (keyEnd_keeps ..) rfl ?_; refine State.set_keeps _ _ ?_ ?_
  rw [SEC_NSKEY_GEN_blk]; exact rfl; refine State.on_keeps _ ?_ ?_; rw [SEC_NSKEY_LOADED_blk]; exact rfl
  refine State.on_keeps _ ?_ ?_; rw [SEC_NSKEY_ENC_blk]; exact rfl; refine Keeps.step (storeWrite_keeps ..) rfl ?_
  refine Keeps.step (modSec_keeps ..) rfl ?_; refine State.draw_keeps ?_ ?_; exact rfl; exact Keeps.refl _ _

theorem execKeyGenerate_keeps (x0) (fail) (s : State) : KeepsRes 0x4080000100000100000000000 s (execKeyGenerate x0 fail s) := by
  unfold execKeyGenerate
  refine KeepsRes.next ?_; refine live_keeps _ (fun w hw => ?_) ?_; refine Keeps.step (keyGenerate_keeps ..) rfl ?_; assumption
  exact Keeps.refl _ _

theorem keyLoad_keeps (x0) (bad) (s : State) : Keeps 0x100000000000 s (keyLoad x0 bad s) := by
  unfold keyLoad
  split; refine Keeps.step (keyEnd_keeps ..) rfl ?_; exact Keeps.refl _ _; split; split
  refine Keeps.step (keyEnd_keeps ..) rfl ?_; exact Keeps.refl _ _; refine Keeps.step (keyEnd_keeps ..) rfl ?_
  refine State.set_keeps _ _ ?_ ?_; rw [SEC_NSKEY_GEN_blk]; exact rfl; refine State.on_keeps _ ?_ ?_
  rw [SEC_NSKEY_LOADED_blk]; exact rfl; refine State.on_keeps _ ?_ ?_; rw [SEC_NSKEY_ENC_blk]; exact rfl; exact Keeps.refl _ _
  refine Keeps.step (keyEnd_keeps ..) rfl ?_; exact Keeps.refl _ _

theorem execKeyLoad_keeps (x0) (bad) (s : State) : KeepsRes 0x100000000000 s (execKeyLoad x0 bad s) := by
  unfold execKeyLoad
  refine KeepsRes.next ?_; refine live_keeps _ (fun w hw => ?_) ?_; refine Keeps.step (keyLoad_keeps ..) rfl ?_; assumption
  exact Keeps.refl _ _

theorem keyErase_keeps (x0) (fail) (s : State) : Keeps 0x4080000100000100000000000 s (keyErase x0 fail s) := by
  unfold keyErase
  split; refine Keeps.step (keyEnd_keeps ..) rfl ?_; exact Keeps.refl _ _; refine Keeps.step (keyEnd_keeps ..) rfl ?_
  refine State.off_keeps _ ?_ ?_; rw [SEC_NSKEY_LOADED_blk]; exact rfl; refine State.off_keeps _ ?_ ?_
  rw [SEC_NSKEY_ENC_blk]; exact rfl; refine Keeps.step (storeWrite_keeps ..) rfl ?_; refine Keeps.step (modSec_keeps ..) rfl ?_
  exact Keeps.refl _ _

theorem execKeyErase_keeps (x0) (fail) (s : State) : KeepsRes 0x4080000100000100000000000 s (execKeyErase x0 fail s) := by
  unfold execKeyErase
  refine KeepsRes.next ?_; refine live_keeps _ (fun w hw => ?_) ?_; refine Keeps.step (keyErase_keeps ..) rfl ?_; assumption
  exact Keeps.refl _ _

theorem keyUnload_keeps (x0) (s : State) : Keeps 0x100000000000 s (keyUnload x0 s) := by
  unfold keyUnload
  refine Keeps.step (keyEnd_keeps ..) rfl ?_; refine State.off_keeps _ ?_ ?_; rw [SEC_NSKEY_LOADED_blk]; exact rfl
  exact Keeps.refl _ _

theorem execKeyUnload_keeps (x0) (s : State) : KeepsRes 0x100000000000 s (execKeyUnload x0 s) := by
  unfold execKeyUnload
  refine KeepsRes.next ?_; refine live_keeps _ (fun w hw => ?_) ?_; refine Keeps.step (keyUnload_keeps ..) rfl ?_; assumption
  exact Keeps.refl _ _

theorem keyCmd_keeps (op) (ns) (s : State) : Keeps 0x4080000100000100000000000 s (keyCmd op ns s) := by
  unfold keyCmd
  dsimp only; split; split; refine Keeps.step (keyGenerate_keeps ..) rfl ?_; refine State.set_keeps _ _ ?_ ?_; exact rfl
  refine State.set_keeps _ _ ?_ ?_; exact rfl; exact Keeps.refl _ _; refine Keeps.step (keyLoad_keeps ..) rfl ?_
  refine State.set_keeps _ _ ?_ ?_; exact rfl; refine State.set_keeps _ _ ?_ ?_; exact rfl; exact Keeps.refl _ _
  refine Keeps.step (keyErase_keeps ..) rfl ?_; refine State.set_keeps _ _ ?_ ?_; exact rfl; refine State.set_keeps _ _ ?_ ?_
  exact rfl; exact Keeps.refl _ _; refine Keeps.step (keyUnload_keeps ..) rfl ?_; refine State.set_keeps _ _ ?_ ?_; exact rfl
  refine State.set_keeps _ _ ?_ ?_; exact rfl; exact Keeps.refl _ _; refine State.set_keeps _ _ ?_ ?_; exact rfl
  refine State.set_keeps _ _ ?_ ?_; exact rfl; exact Keeps.refl _ _; refine State.set_keeps _ _ ?_ ?_; exact rfl
  refine State.set_keeps _ _ ?_ ?_; exact rfl; exact Keeps.refl _ _

theorem debugUnlock_keeps (good) (scope) (s : State) : Keeps 0x4000000000000100000000000 s (debugUnlock good scope s) := by
  unfold debugUnlock
  dsimp only; split; split; refine State.on_keeps _ ?_ ?_; exact rfl; refine Keeps.step (modSec_keeps ..) rfl ?_
  refine State.set_keeps _ _ ?_ ?_; exact rfl; exact Keeps.refl _ _; refine State.set_keeps _ _ ?_ ?_; exact rfl
  exact Keeps.refl _ _; split; split; refine State.on_keeps _ ?_ ?_; exact rfl; refine Keeps.step (modSec_keeps ..) rfl ?_
  refine State.set_keeps _ _ ?_ ?_; exact rfl; exact Keeps.refl _ _; refine State.set_keeps _ _ ?_ ?_; exact rfl
  exact Keeps.refl _ _; split; split; refine State.on_keeps _ ?_ ?_; exact rfl; refine Keeps.step (modSec_keeps ..) rfl ?_
  refine State.set_keeps _ _ ?_ ?_; exact rfl; exact Keeps.refl _ _; refine State.set_keeps _ _ ?_ ?_; exact rfl
  exact Keeps.refl _ _; split; split; refine State.on_keeps _ ?_ ?_; exact rfl; refine Keeps.step (modSec_keeps ..) rfl ?_
  refine State.set_keeps _ _ ?_ ?_; exact rfl; exact Keeps.refl _ _; refine State.set_keeps _ _ ?_ ?_; exact rfl
  exact Keeps.refl _ _; split; refine State.on_keeps _ ?_ ?_; exact rfl; refine Keeps.step (modSec_keeps ..) rfl ?_
  refine State.set_keeps _ _ ?_ ?_; exact rfl; exact Keeps.refl _ _; refine State.set_keeps _ _ ?_ ?_; exact rfl
  exact Keeps.refl _ _

theorem execDebugUnlock_keeps (good) (scope) (s : State) :
    KeepsRes 0x4000000000000100000000000 s (execDebugUnlock good scope s) := by
  unfold execDebugUnlock
  refine KeepsRes.next ?_; refine live_keeps _ (fun w hw => ?_) ?_; refine Keeps.step (debugUnlock_keeps ..) rfl ?_; assumption
  exact Keeps.refl _ _

theorem debugChallenge_keeps (s : State) : Keeps 0x4000000100000100000000000 s (debugChallenge s) := by
  unfold debugChallenge
  dsimp only; refine Keeps.step (modSec_keeps ..) rfl ?_; refine Keeps.foldl (fun w e hw => ?_) ?_
  refine State.set_keeps _ _ ?_ ?_; rw [SEC_DBG_CHAL_NONCE_blk]; exact rfl; assumption; refine State.draw_keeps ?_ ?_; exact rfl
  exact Keeps.refl _ _

theorem execDebugChallenge_keeps (s : State) : KeepsRes 0x4000000100000100000000000 s (execDebugChallenge s) := by
  unfold execDebugChallenge
  refine KeepsRes.next ?_; refine live_keeps _ (fun w hw => ?_) ?_; refine Keeps.step (debugChallenge_keeps ..) rfl ?_
  assumption; exact Keeps.refl _ _

end Sys2Proof.Machine
end

