-- ==== Sys2Proof/Laws/Keeps/Host.lean ====
section
/-!
SUPPORT. What each operation of Machine/Host.lean keeps: the mask names the register blocks (bits 0 to 63) and the parts of State (bit
64 on) that the operation may change; everything outside it stays.
-/
namespace Sys2Proof.Machine

theorem modHif_keeps (f) (s : State) : Keeps 0x1000000000000000000000000 s (modHif f s) := by
  unfold modHif; refine Keeps.upd_hif _ ?_ ?_; exact rfl; exact Keeps.refl _ _

theorem modCmd_keeps (c) (q) (i) (f) (s : State) : Keeps 0x1000000000000000000000000 s (modCmd c q i f s) := by
  unfold modCmd; refine Keeps.step (modHif_keeps ..) rfl ?_; exact Keeps.refl _ _

theorem setOut_keeps (c) (q) (i) (st) (s : State) : Keeps 0x1000000000000000000000000 s (setOut c q i st s) := by
  unfold setOut; refine Keeps.step (modCmd_keeps ..) rfl ?_; exact Keeps.refl _ _

theorem modSq_keeps (c) (q) (f) (s : State) : Keeps 0x1000000000000000000000000 s (modSq c q f s) := by
  unfold modSq; refine Keeps.step (modCtrl_keeps ..) rfl ?_; exact Keeps.refl _ _

theorem modCq_keeps (c) (q) (f) (s : State) : Keeps 0x1000000000000000000000000 s (modCq c q f s) := by
  unfold modCq; refine Keeps.step (modCtrl_keeps ..) rfl ?_; exact Keeps.refl _ _

theorem cqWrite_keeps (c) (x) (e) (s : State) : Keeps 0x1000000200000000000000000 s (cqWrite c x e s) := by
  unfold cqWrite
  dsimp only; refine Keeps.step (modCq_keeps ..) rfl ?_; split; refine State.emit_keeps _ ?_ ?_; exact rfl
  refine State.emit_keeps _ ?_ ?_; exact rfl; exact Keeps.refl _ _; refine State.emit_keeps _ ?_ ?_; exact rfl
  exact Keeps.refl _ _

theorem cqPut_keeps (c) (q) (e) (s : State) : Keeps 0x1000000200000000000000000 s (cqPut c q e s) := by
  unfold cqPut
  split; exact Keeps.refl _ _; split; refine Keeps.step (cqWrite_keeps ..) rfl ?_; exact Keeps.refl _ _
  refine State.emit_keeps _ ?_ ?_; exact rfl; refine Keeps.step (modCq_keeps ..) rfl ?_; exact Keeps.refl _ _

theorem cqEntryPost_keeps (c) (q) (s : State) : Keeps 0x1000000200000000000000000 s (cqEntryPost c q s) := by
  unfold cqEntryPost
  split; exact Keeps.refl _ _; split; exact Keeps.refl _ _; split; refine Keeps.step (cqWrite_keeps ..) rfl ?_
  refine Keeps.step (modCq_keeps ..) rfl ?_; exact Keeps.refl _ _; exact Keeps.refl _ _

theorem execCqEntryPost_keeps (c) (q) (s : State) : KeepsRes 0x1000000200000000000000000 s (execCqEntryPost c q s) := by
  unfold execCqEntryPost
  refine KeepsRes.next ?_; refine live_keeps _ (fun w hw => ?_) ?_; refine Keeps.step (cqEntryPost_keeps ..) rfl ?_; assumption
  exact Keeps.refl _ _

theorem letIn_keeps (s : State) : Keeps 0x1000000000000000000300000 s (letIn s) := by
  unfold letIn
  split; exact Keeps.refl _ _; dsimp only; refine State.set_keeps _ _ ?_ ?_; exact rfl
  refine Keeps.step (modHif_keeps ..) rfl ?_; split; refine State.on_keeps _ ?_ ?_; exact rfl; refine State.bump_keeps _ _ ?_ ?_
  exact rfl; refine State.bump_keeps _ _ ?_ ?_; exact rfl; refine Keeps.step (modHif_keeps ..) rfl ?_; exact Keeps.refl _ _
  refine State.bump_keeps _ _ ?_ ?_; exact rfl; refine Keeps.step (modHif_keeps ..) rfl ?_; exact Keeps.refl _ _

theorem piecesGo_keeps (ns) (last) (fuel) (lba) (ofs) (s : State) :
    Keeps 0x100088180000020000830000 s (piecesGo ns last fuel lba ofs s).1 := by
  induction fuel generalizing s lba ofs with
  | zero =>
    unfold piecesGo
    dsimp only; exact Keeps.refl _ _
  | succ k ih =>
    unfold piecesGo
    split; dsimp only; exact Keeps.refl _ _; dsimp only; split; dsimp only; refine Keeps.step (ih ..) rfl ?_; split
    refine Keeps.step (segRef_keeps ..) rfl ?_; refine Keeps.step (walk_keeps ..) rfl ?_; exact Keeps.refl _ _
    refine Keeps.step (walk_keeps ..) rfl ?_; exact Keeps.refl _ _; dsimp only; refine Keeps.step (ih ..) rfl ?_
    refine Keeps.step (walk_keeps ..) rfl ?_; exact Keeps.refl _ _; dsimp only; refine Keeps.step (ih ..) rfl ?_
    refine Keeps.step (walk_keeps ..) rfl ?_; exact Keeps.refl _ _; dsimp only; refine Keeps.step (ih ..) rfl ?_
    refine Keeps.step (walk_keeps ..) rfl ?_; exact Keeps.refl _ _

theorem readPieces_keeps (x) (s : State) : Keeps 0x100088180000020000830000 s (readPieces x s).1 := by
  unfold readPieces
  split; dsimp only; exact Keeps.refl _ _; split; dsimp only; exact Keeps.refl _ _; refine Keeps.step (piecesGo_keeps ..) rfl ?_
  exact Keeps.refl _ _

theorem grantCmd_keeps (x) (s : State) : Keeps 0x1100088180000020000b30000 s (grantCmd x s) := by
  unfold grantCmd
  dsimp only; split; refine Keeps.step (letIn_keeps ..) rfl ?_; refine Keeps.step (modCmd_keeps ..) rfl ?_
  refine Keeps.step (modHif_keeps ..) rfl ?_; refine Keeps.step (readPieces_keeps ..) rfl ?_; exact Keeps.refl _ _
  refine Keeps.step (modCmd_keeps ..) rfl ?_; refine Keeps.step (modHif_keeps ..) rfl ?_; dsimp only; exact Keeps.refl _ _

theorem rltGrant_keeps (c) (q) (i) (s : State) : Keeps 0x1100088180000020000b30000 s (rltGrant c q i s) := by
  unfold rltGrant
  split; split; refine Keeps.step (grantCmd_keeps ..) rfl ?_; exact Keeps.refl _ _; exact Keeps.refl _ _; exact Keeps.refl _ _

theorem execRltGrant_keeps (c) (q) (i) (s : State) : KeepsRes 0x1100088180000020000b30000 s (execRltGrant c q i s) := by
  unfold execRltGrant
  refine KeepsRes.next ?_; refine live_keeps _ (fun w hw => ?_) ?_; refine Keeps.step (rltGrant_keeps ..) rfl ?_; assumption
  exact Keeps.refl _ _

theorem dropPieces_keeps (x) (s : State) : Keeps 0x8000000000000000000 s (dropPieces x s) := by
  unfold dropPieces
  refine Keeps.foldl (fun w e hw => ?_) ?_; split; refine Keeps.foldl (fun w e hw => ?_) ?_
  refine Keeps.step (putUnit_keeps ..) rfl ?_; assumption; assumption; assumption; exact Keeps.refl _ _

theorem freezeBy_keeps (x) (st) (s : State) : Keeps 0x1000080000000020000100000 s (freezeBy x st s) := by
  unfold freezeBy
  split; exact Keeps.refl _ _; split; exact Keeps.refl _ _; split; refine Keeps.step (modSq_keeps ..) rfl ?_
  exact Keeps.refl _ _; split; dsimp only; refine Keeps.step (patTrig_keeps ..) rfl ?_; refine State.on_keeps _ ?_ ?_; exact rfl
  refine Keeps.step (modSq_keeps ..) rfl ?_; exact Keeps.refl _ _; exact Keeps.refl _ _

theorem errorLog_keeps (x) (st) (s : State) : Keeps 0x1000080000000020000100000 s (errorLog x st s) := by
  unfold errorLog
  split; exact Keeps.refl _ _; dsimp only; refine Keeps.step (patTrig_keeps ..) rfl ?_; split; refine State.on_keeps _ ?_ ?_
  exact rfl; refine Keeps.step (modCtrl_keeps ..) rfl ?_; exact Keeps.refl _ _; split; refine State.on_keeps _ ?_ ?_; exact rfl
  refine Keeps.step (modCtrl_keeps ..) rfl ?_; exact Keeps.refl _ _; refine Keeps.step (modCtrl_keeps ..) rfl ?_
  exact Keeps.refl _ _

theorem featureCommit_keeps (x) (st) (s : State) : Keeps 0x1000000000000010000000000 s (featureCommit x st s) := by
  unfold featureCommit
  split; split; refine State.set_keeps _ _ ?_ ?_; exact rfl; exact Keeps.refl _ _; refine Keeps.step (modSq_keeps ..) rfl ?_
  exact Keeps.refl _ _; exact Keeps.refl _ _; exact Keeps.refl _ _

theorem grantQueue_keeps (c) (q) (l) (s : State) : Keeps 0x1100088180000020000b30000 s (grantQueue c q l s) := by
  unfold grantQueue
  refine Keeps.foldl (fun w e hw => ?_) ?_; split; refine Keeps.step (rltGrant_keeps ..) rfl ?_; assumption; assumption
  exact Keeps.refl _ _

theorem sqGone_keeps (c) (q) (s : State) : Keeps 0x1000000000000000000000000 s (sqGone c q s) := by
  unfold sqGone
  split; exact Keeps.refl _ _; split; exact Keeps.refl _ _; split; exact Keeps.refl _ _
  refine Keeps.step (setOut_keeps ..) rfl ?_; refine Keeps.step (modCtrl_keeps ..) rfl ?_; exact Keeps.refl _ _

theorem ledOn_keeps (s : State) : Keeps 0x1000000000000000000 s (ledOn s) := by
  unfold ledOn
  split; refine Keeps.upd_pins _ ?_ ?_; exact rfl; exact Keeps.refl _ _; exact Keeps.refl _ _

theorem ledOff_keeps (s : State) : Keeps 0x1000000000000000000 s (ledOff s) := by
  unfold ledOff
  split; refine Keeps.upd_pins _ ?_ ?_; exact rfl; exact Keeps.refl _ _; exact Keeps.refl _ _

theorem ledExpiry_keeps (s : State) : Keeps 0x201000000000000000000 s (ledExpiry s) := by
  unfold ledExpiry
  split; refine Keeps.step (ledOff_keeps ..) rfl ?_; refine Keeps.upd_inv _ ?_ ?_ ?_; exact rfl
  (first | exact Nat.le_refl _ | exact State.bemfStart_ge _); exact Keeps.refl _ _; exact Keeps.refl _ _

theorem execActledHoldExpiry_keeps (s : State) : KeepsRes 0x201000000000000000000 s (execActledHoldExpiry s) := by
  unfold execActledHoldExpiry
  refine KeepsRes.next ?_; refine live_keeps _ (fun w hw => ?_) ?_; refine Keeps.step (ledExpiry_keeps ..) rfl ?_; assumption
  exact Keeps.refl _ _

theorem noteWrite_keeps (x) (st) (s : State) : Keeps 0x1000000000000000000000000 s (noteWrite x st s) := by
  unfold noteWrite
  dsimp only; refine Keeps.step (modHif_keeps ..) rfl ?_; exact Keeps.refl _ _

theorem commitNow_keeps (x) (st) (s : State) : Keeps 0x1100089380000030000b30000 s (commitNow x st s) := by
  unfold commitNow
  dsimp only; refine Keeps.step (ledOff_keeps ..) rfl ?_; refine Keeps.step (letIn_keeps ..) rfl ?_
  refine Keeps.step (sqGone_keeps ..) rfl ?_; refine Keeps.step (freezeBy_keeps ..) rfl ?_; split
  refine Keeps.step (grantQueue_keeps ..) rfl ?_; refine Keeps.step (cqPut_keeps ..) rfl ?_
  refine Keeps.step (featureCommit_keeps ..) rfl ?_; refine Keeps.step (errorLog_keeps ..) rfl ?_
  refine Keeps.step (noteWrite_keeps ..) rfl ?_; split; refine Keeps.step (dropPieces_keeps ..) rfl ?_
  refine Keeps.step (modHif_keeps ..) rfl ?_; exact Keeps.refl _ _; refine Keeps.step (modHif_keeps ..) rfl ?_
  exact Keeps.refl _ _; refine Keeps.step (cqPut_keeps ..) rfl ?_; refine Keeps.step (featureCommit_keeps ..) rfl ?_
  refine Keeps.step (errorLog_keeps ..) rfl ?_; refine Keeps.step (noteWrite_keeps ..) rfl ?_; split
  refine Keeps.step (dropPieces_keeps ..) rfl ?_; refine Keeps.step (modHif_keeps ..) rfl ?_; exact Keeps.refl _ _
  refine Keeps.step (modHif_keeps ..) rfl ?_; exact Keeps.refl _ _

theorem commandCommit_keeps (c) (q) (i) (vaulted) (s : State) :
    Keeps 0x1100089380000030000b30000 s (commandCommit c q i vaulted s) := by
  unfold commandCommit
  split; split; split; refine Keeps.step (commitNow_keeps ..) rfl ?_; exact Keeps.refl _ _; exact Keeps.refl _ _
  exact Keeps.refl _ _; exact Keeps.refl _ _

theorem execCommandCommit_keeps (c) (q) (i) (vaulted) (s : State) :
    KeepsRes 0x1100089380000030000b30000 s (execCommandCommit c q i vaulted s) := by
  unfold execCommandCommit
  refine KeepsRes.next ?_; refine live_keeps _ (fun w hw => ?_) ?_; refine Keeps.step (commandCommit_keeps ..) rfl ?_
  assumption; exact Keeps.refl _ _

theorem commitWith_keeps (st) (x) (s : State) : Keeps 0x1100089380000030000b30000 s (commitWith st x s) := by
  unfold commitWith; refine Keeps.step (commitNow_keeps ..) rfl ?_; exact Keeps.refl _ _

theorem bellFall_keeps (c) (q) (s : State) : Keeps 0x1000000000000000000000000 s (bellFall c q s) := by
  unfold bellFall
  dsimp only; split; exact Keeps.refl _ _; refine Keeps.step (modHif_keeps ..) rfl ?_; exact Keeps.refl _ _

theorem commandFetch_keeps (c) (q) (e) (ranges) (s : State) :
    Keeps 0x323bf953000000600707055dc s (commandFetch c q e ranges s) := by
  unfold commandFetch
  split; exact Keeps.refl _ _; split; exact Keeps.refl _ _; split; refine State.on_keeps _ ?_ ?_; exact rfl
  exact Keeps.refl _ _; dsimp only; split; refine Keeps.step (freezeBy_keeps ..) rfl ?_
  refine Keeps.step (cqPut_keeps ..) rfl ?_; refine Keeps.step (errorLog_keeps ..) rfl ?_
  refine Keeps.step (modSq_keeps ..) rfl ?_; exact Keeps.refl _ _; refine Keeps.step (bellFall_keeps ..) rfl ?_
  refine Keeps.step (letIn_keeps ..) rfl ?_; refine Keeps.step (ledOn_keeps ..) rfl ?_; split
  refine Keeps.step (pwrRequest_keeps ..) rfl ?_; refine State.set_keeps _ _ ?_ ?_; exact rfl
  refine Keeps.step (modHif_keeps ..) rfl ?_; refine Keeps.step (modSq_keeps ..) rfl ?_; exact Keeps.refl _ _
  refine State.set_keeps _ _ ?_ ?_; exact rfl; refine Keeps.step (modHif_keeps ..) rfl ?_
  refine Keeps.step (modSq_keeps ..) rfl ?_; exact Keeps.refl _ _

theorem execCommandFetch_keeps (c) (q) (e) (ranges) (s : State) :
    KeepsRes 0x323bf953000000600707055dc s (execCommandFetch c q e ranges s) := by
  unfold execCommandFetch
  refine KeepsRes.next ?_; refine live_keeps _ (fun w hw => ?_) ?_; refine Keeps.step (commandFetch_keeps ..) rfl ?_; assumption
  exact Keeps.refl _ _

theorem entrySeen_keeps (c) (q) (s : State) : Keeps 0x323bf943000000600705055dc s (entrySeen c q s) := by
  unfold entrySeen
  dsimp only; split; split; refine State.on_keeps _ ?_ ?_; rw [HIF_C_STAT_FAST_blk]; exact rfl; exact Keeps.refl _ _
  exact Keeps.refl _ _; refine Keeps.step (ioArrival_keeps ..) rfl ?_; split; refine State.on_keeps _ ?_ ?_
  rw [HIF_C_STAT_FAST_blk]; exact rfl; exact Keeps.refl _ _; exact Keeps.refl _ _

theorem tailTake_keeps (c) (q) (x2) (s : State) : Keeps 0x323bf943000000600705055dc s (tailTake c q x2 s) := by
  unfold tailTake
  split; refine Keeps.step (eventTo_keeps ..) rfl ?_; exact Keeps.refl _ _; split; refine Keeps.step (eventTo_keeps ..) rfl ?_
  exact Keeps.refl _ _; dsimp only; split; refine Keeps.step (modSq_keeps ..) rfl ?_; exact Keeps.refl _ _
  refine Keeps.step (entrySeen_keeps ..) rfl ?_; refine Keeps.step (modSq_keeps ..) rfl ?_; exact Keeps.refl _ _

theorem headTake_keeps (c) (q) (x2) (s : State) : Keeps 0x1000000000000000000000000 s (headTake c q x2 s) := by
  unfold headTake
  split; refine Keeps.step (eventTo_keeps ..) rfl ?_; exact Keeps.refl _ _; split; refine Keeps.step (eventTo_keeps ..) rfl ?_
  exact Keeps.refl _ _; refine Keeps.step (modCq_keeps ..) rfl ?_; exact Keeps.refl _ _

theorem doorbell_keeps (c) (cq) (q) (x3) (s : State) : Keeps 0x323bf943000000600705055dc s (doorbell c cq q x3 s) := by
  unfold doorbell
  split; exact Keeps.refl _ _; split; refine Keeps.step (modCtrl_keeps ..) rfl ?_; exact Keeps.refl _ _; split
  refine Keeps.step (headTake_keeps ..) rfl ?_; exact Keeps.refl _ _; refine Keeps.step (bellFall_keeps ..) rfl ?_
  refine Keeps.step (tailTake_keeps ..) rfl ?_; refine Keeps.step (modHif_keeps ..) rfl ?_; exact Keeps.refl _ _

theorem execMmioDoorbell_keeps (c) (cq) (q) (x3) (s : State) :
    KeepsRes 0x323bf943000000600705055dc s (execMmioDoorbell c cq q x3 s) := by
  unfold execMmioDoorbell
  refine KeepsRes.next ?_; refine live_keeps _ (fun w hw => ?_) ?_; refine Keeps.step (doorbell_keeps ..) rfl ?_; assumption
  exact Keeps.refl _ _

theorem shadowPoll_keeps (c) (l) (s : State) : Keeps 0x323bf943000000600705055dc s (shadowPoll c l s) := by
  unfold shadowPoll
  split; dsimp only; refine Keeps.foldl (fun w e hw => ?_) ?_; refine State.emit_keeps _ ?_ ?_; exact rfl; assumption
  refine Keeps.foldl (fun w e hw => ?_) ?_; split; refine Keeps.step (headTake_keeps ..) rfl ?_; assumption
  refine Keeps.step (tailTake_keeps ..) rfl ?_; assumption; exact Keeps.refl _ _; exact Keeps.refl _ _

theorem execShadowDoorbellPoll_keeps (c) (l) (s : State) :
    KeepsRes 0x323bf943000000600705055dc s (execShadowDoorbellPoll c l s) := by
  unfold execShadowDoorbellPoll
  refine KeepsRes.next ?_; refine live_keeps _ (fun w hw => ?_) ?_; refine Keeps.step (shadowPoll_keeps ..) rfl ?_; assumption
  exact Keeps.refl _ _

theorem pollIdle_keeps (c) (s : State) : Keeps 0x200000000000100000 s (pollIdle c s) := by
  unfold pollIdle
  split; exact Keeps.refl _ _; dsimp only; split; refine Keeps.foldl (fun w e hw => ?_) ?_; refine State.emit_keeps _ ?_ ?_
  exact rfl; assumption; refine State.off_keeps _ ?_ ?_; rw [HIF_C_STAT_FAST_blk]; exact rfl; exact Keeps.refl _ _
  refine State.off_keeps _ ?_ ?_; rw [HIF_C_STAT_FAST_blk]; exact rfl; exact Keeps.refl _ _

theorem execPollIdleTimeout_keeps (c) (s : State) : KeepsRes 0x200000000000100000 s (execPollIdleTimeout c s) := by
  unfold execPollIdleTimeout
  refine KeepsRes.next ?_; refine live_keeps _ (fun w hw => ?_) ?_; refine Keeps.step (pollIdle_keeps ..) rfl ?_; assumption
  exact Keeps.refl _ _

end Sys2Proof.Machine
end

