-- ==== Sys2Proof/Laws/Keeps/PatLog.lean ====
section
/-!
SUPPORT. What each operation of Machine/PatLog.lean keeps: the mask names the register blocks (bits 0 to 63) and the parts of State (bit
64 on) that the operation may change; everything outside it stays.
-/
namespace Sys2Proof.Machine

theorem patCopy_keeps (x0) (s : State) : Keeps 0x80000000020000000000 s (patCopy x0 s) := by
  unfold patCopy
  dsimp only; refine State.set_keeps _ _ ?_ ?_; exact rfl; refine Keeps.foldl (fun w e hw => ?_) ?_; split
  refine Keeps.upd_pat _ ?_ ?_; exact rfl; assumption; assumption; exact Keeps.refl _ _

theorem patCopyAll_keeps (s : State) : Keeps 0x80000000020000000000 s (patCopyAll s) := by
  unfold patCopyAll; refine Keeps.step (patCopy_keeps ..) rfl ?_; exact Keeps.refl _ _

theorem patShutdown_keeps (s : State) : Keeps 0x80000000020000000000 s (patShutdown s) := by
  unfold patShutdown
  refine State.when_keeps _ _ (fun w hw => ?_) ?_; refine State.on_keeps _ ?_ ?_; exact rfl
  refine Keeps.step (patCopyAll_keeps ..) rfl ?_; assumption; exact Keeps.refl _ _

end Sys2Proof.Machine
end

