-- ==== Sys2Proof/Laws/Keeps/Patina.lean ====
section
/-!
SUPPORT. What each operation of Machine/Patina.lean keeps: the mask names the register blocks (bits 0 to 63) and the parts of State (bit
64 on) that the operation may change; everything outside it stays.
-/
namespace Sys2Proof.Machine

theorem putRec_keeps (i) (r) (s : State) : Keeps 0x80000000000000000000 s (putRec i r s) := by
  unfold putRec; refine Keeps.upd_pat _ ?_ ?_; exact rfl; exact Keeps.refl _ _

theorem makeRec_keeps (trig) (detail) (s : State) : Keeps 0x80000000020000000000 s (makeRec trig detail s) := by
  unfold makeRec
  dsimp only; refine State.on_keeps _ ?_ ?_; exact rfl; split; split; refine State.bump_keeps _ _ ?_ ?_; exact rfl
  refine State.set_keeps _ _ ?_ ?_; exact rfl; refine Keeps.step (putRec_keeps ..) rfl ?_; exact Keeps.refl _ _
  refine State.bump_keeps _ _ ?_ ?_; exact rfl; refine State.set_keeps _ _ ?_ ?_; exact rfl
  refine Keeps.step (putRec_keeps ..) rfl ?_; exact Keeps.refl _ _; split; refine State.bump_keeps _ _ ?_ ?_; exact rfl
  refine State.set_keeps _ _ ?_ ?_; exact rfl; refine Keeps.step (putRec_keeps ..) rfl ?_; exact Keeps.refl _ _
  refine State.bump_keeps _ _ ?_ ?_; exact rfl; refine State.set_keeps _ _ ?_ ?_; exact rfl
  refine Keeps.step (putRec_keeps ..) rfl ?_; exact Keeps.refl _ _

theorem patinaRecord_keeps (s : State) : Keeps 0x80000000020000000000 s (patinaRecord s) := by
  unfold patinaRecord
  split; exact Keeps.refl _ _; dsimp only; split; split; refine Keeps.step (putRec_keeps ..) rfl ?_
  refine Keeps.upd_pat _ ?_ ?_; exact rfl; exact Keeps.refl _ _; refine Keeps.step (makeRec_keeps ..) rfl ?_
  refine Keeps.upd_pat _ ?_ ?_; exact rfl; exact Keeps.refl _ _; refine Keeps.step (makeRec_keeps ..) rfl ?_
  refine Keeps.upd_pat _ ?_ ?_; exact rfl; exact Keeps.refl _ _

theorem execPatinaRecord_keeps (s : State) : KeepsRes 0x80000000020000000000 s (execPatinaRecord s) := by
  unfold execPatinaRecord
  refine KeepsRes.next ?_; refine State.when_keeps _ _ (fun w hw => ?_) ?_; refine Keeps.step (patinaRecord_keeps ..) rfl ?_
  assumption; exact Keeps.refl _ _

theorem patinaDrain_keeps (s : State) : Keeps 0x80000000020000000000 s (patinaDrain s) := by
  unfold patinaDrain
  refine Keeps.foldl (fun w e hw => ?_) ?_; refine Keeps.step (patinaRecord_keeps ..) rfl ?_; assumption; exact Keeps.refl _ _

theorem patSwWrite_keeps (x0) (s : State) : Keeps 0x80000000020000000000 s (patSwWrite x0 s) := by
  unfold patSwWrite
  dsimp only; split; refine Keeps.step (patTrig_keeps ..) rfl ?_; refine State.set_keeps _ _ ?_ ?_; exact rfl
  exact Keeps.refl _ _; refine State.set_keeps _ _ ?_ ?_; exact rfl; exact Keeps.refl _ _

theorem execPatinaSw_keeps (detail) (s : State) : KeepsRes 0x80000000020000000000 s (execPatinaSw detail s) := by
  unfold execPatinaSw
  refine KeepsRes.next ?_; refine live_keeps _ (fun w hw => ?_) ?_; refine Keeps.step (patSwWrite_keeps ..) rfl ?_; assumption
  exact Keeps.refl _ _

theorem vaultCopy_keeps (failed) (s : State) : Keeps 0x80000000020000000000 s (vaultCopy failed s) := by
  unfold vaultCopy
  dsimp only; refine State.on_keeps _ ?_ ?_; exact rfl; refine Keeps.step (patCopy_keeps ..) rfl ?_; split
  refine State.on_keeps _ ?_ ?_; exact rfl; exact Keeps.refl _ _; exact Keeps.refl _ _

theorem execPatinaVaultCopy_keeps (failed) (s : State) : KeepsRes 0x80000000020000000000 s (execPatinaVaultCopy failed s) := by
  unfold execPatinaVaultCopy
  refine KeepsRes.next ?_; refine live_keeps _ (fun w hw => ?_) ?_; refine State.when_keeps _ _ (fun w hw => ?_) ?_
  refine Keeps.step (vaultCopy_keeps ..) rfl ?_; assumption; assumption; exact Keeps.refl _ _

theorem opsecWrite_keeps (hi) (s : State) : Keeps 0x80000000020000000000 s (opsecWrite hi s) := by
  unfold opsecWrite
  dsimp only; refine Keeps.upd_pat _ ?_ ?_; exact rfl; refine State.set_keeps _ _ ?_ ?_; exact rfl; exact Keeps.refl _ _

theorem execOpsecWrite_keeps (hi) (s : State) : KeepsRes 0x80000000020000000000 s (execOpsecWrite hi s) := by
  unfold execOpsecWrite
  refine KeepsRes.next ?_; refine live_keeps _ (fun w hw => ?_) ?_; refine Keeps.step (opsecWrite_keeps ..) rfl ?_; assumption
  exact Keeps.refl _ _

end Sys2Proof.Machine
end

