-- ==== Sys2Proof/Laws/Keeps/HostAdmin.lean ====
section
/-!
SUPPORT. What each operation of Machine/HostAdmin.lean keeps: the mask names the register blocks (bits 0 to 63) and the parts of State (bit
64 on) that the operation may change; everything outside it stays.
-/
namespace Sys2Proof.Machine

theorem finish_keeps (c) (q) (i) (st) (dw0) (s : State) : Keeps 0x1000000000000000000000000 s (finish c q i st dw0 s) := by
  unfold finish; refine Keeps.step (modCmd_keeps ..) rfl ?_; exact Keeps.refl _ _

theorem adminDo_keeps {m : Nat} {s t : State} (hm : 0x0 &&& m = 0x0) (h : Keeps m s t) (c) (i) (opc) (f) (hf : ∀ a0 w, Keeps m s w → Keeps m s (f a0 w)) :
    Keeps m s (adminDo c i opc f t) := by
  unfold adminDo; split; split; refine hf _ _ ?_; assumption; assumption; assumption

theorem createCq_keeps (c) (x) (s : State) : Keeps 0x1000000000000000000000000 s (createCq c x s) := by
  unfold createCq
  dsimp only; refine Keeps.step (setOut_keeps ..) rfl ?_; split; split; refine Keeps.step (modCtrl_keeps ..) rfl ?_
  exact Keeps.refl _ _; exact Keeps.refl _ _; split; split; refine Keeps.step (modCtrl_keeps ..) rfl ?_; exact Keeps.refl _ _
  exact Keeps.refl _ _; split; split; refine Keeps.step (modCtrl_keeps ..) rfl ?_; exact Keeps.refl _ _; exact Keeps.refl _ _
  split; split; refine Keeps.step (modCtrl_keeps ..) rfl ?_; exact Keeps.refl _ _; exact Keeps.refl _ _; split
  refine Keeps.step (modCtrl_keeps ..) rfl ?_; exact Keeps.refl _ _; exact Keeps.refl _ _

theorem execCreateIoCq_keeps (c) (i) (s : State) : KeepsRes 0x1000000000000000000000000 s (execCreateIoCq c i s) := by
  unfold execCreateIoCq
  refine KeepsRes.next ?_; refine live_keeps _ (fun w hw => ?_) ?_
  refine adminDo_keeps (h := ?_) (hm := ?_) (hf := fun a0 w hw => ?_) ..; rfl; assumption
  refine Keeps.step (createCq_keeps ..) rfl ?_; assumption; exact Keeps.refl _ _

theorem deleteCq_keeps (c) (x) (s : State) : Keeps 0x1000000000000000000000000 s (deleteCq c x s) := by
  unfold deleteCq
  dsimp only; refine Keeps.step (setOut_keeps ..) rfl ?_; split; split; refine Keeps.step (modCtrl_keeps ..) rfl ?_
  exact Keeps.refl _ _; exact Keeps.refl _ _; split; split; refine Keeps.step (modCtrl_keeps ..) rfl ?_; exact Keeps.refl _ _
  exact Keeps.refl _ _; split; refine Keeps.step (modCtrl_keeps ..) rfl ?_; exact Keeps.refl _ _; exact Keeps.refl _ _

theorem execDeleteIoCq_keeps (c) (i) (s : State) : KeepsRes 0x1000000000000000000000000 s (execDeleteIoCq c i s) := by
  unfold execDeleteIoCq
  refine KeepsRes.next ?_; refine live_keeps _ (fun w hw => ?_) ?_
  refine adminDo_keeps (h := ?_) (hm := ?_) (hf := fun a0 w hw => ?_) ..; rfl; assumption
  refine Keeps.step (deleteCq_keeps ..) rfl ?_; assumption; exact Keeps.refl _ _

theorem createSq_keeps (c) (x) (s : State) : Keeps 0x1000000000000000000000000 s (createSq c x s) := by
  unfold createSq
  dsimp only; refine Keeps.step (setOut_keeps ..) rfl ?_; split; split; refine Keeps.step (modCtrl_keeps ..) rfl ?_
  exact Keeps.refl _ _; exact Keeps.refl _ _; split; split; refine Keeps.step (modCtrl_keeps ..) rfl ?_; exact Keeps.refl _ _
  exact Keeps.refl _ _; split; split; refine Keeps.step (modCtrl_keeps ..) rfl ?_; exact Keeps.refl _ _; exact Keeps.refl _ _
  split; split; refine Keeps.step (modCtrl_keeps ..) rfl ?_; exact Keeps.refl _ _; exact Keeps.refl _ _; split; split
  refine Keeps.step (modCtrl_keeps ..) rfl ?_; exact Keeps.refl _ _; exact Keeps.refl _ _; split
  refine Keeps.step (modCtrl_keeps ..) rfl ?_; exact Keeps.refl _ _; exact Keeps.refl _ _

theorem execCreateIoSq_keeps (c) (i) (s : State) : KeepsRes 0x1000000000000000000000000 s (execCreateIoSq c i s) := by
  unfold execCreateIoSq
  refine KeepsRes.next ?_; refine live_keeps _ (fun w hw => ?_) ?_
  refine adminDo_keeps (h := ?_) (hm := ?_) (hf := fun a0 w hw => ?_) ..; rfl; assumption
  refine Keeps.step (createSq_keeps ..) rfl ?_; assumption; exact Keeps.refl _ _

theorem deleteSq_keeps (c) (x) (s : State) : Keeps 0x1100089380000030000b30000 s (deleteSq c x s) := by
  unfold deleteSq
  dsimp only; split; refine Keeps.step (setOut_keeps ..) rfl ?_; exact Keeps.refl _ _; split
  refine Keeps.step (setOut_keeps ..) rfl ?_; exact Keeps.refl _ _; split; exact Keeps.refl _ _
  refine Keeps.step (sqGone_keeps ..) rfl ?_; refine Keeps.foldl (fun w e hw => ?_) ?_
  refine Keeps.step (commitWith_keeps ..) rfl ?_; assumption; refine Keeps.step (modSq_keeps ..) rfl ?_; exact Keeps.refl _ _

theorem execDeleteIoSq_keeps (c) (i) (s : State) : KeepsRes 0x1100089380000030000b30000 s (execDeleteIoSq c i s) := by
  unfold execDeleteIoSq
  refine KeepsRes.next ?_; refine live_keeps _ (fun w hw => ?_) ?_
  refine adminDo_keeps (h := ?_) (hm := ?_) (hf := fun a0 w hw => ?_) ..; rfl; assumption
  refine Keeps.step (deleteSq_keeps ..) rfl ?_; assumption; exact Keeps.refl _ _

theorem identify_keeps (c) (x) (s : State) : Keeps 0x1000000200000000000000000 s (identify c x s) := by
  unfold identify
  dsimp only; split; split; refine Keeps.step (setOut_keeps ..) rfl ?_; exact Keeps.refl _ _; split
  refine Keeps.step (setOut_keeps ..) rfl ?_; refine State.emit_keeps _ ?_ ?_; exact rfl; exact Keeps.refl _ _
  refine Keeps.step (setOut_keeps ..) rfl ?_; refine State.emit_keeps _ ?_ ?_; exact rfl; exact Keeps.refl _ _
  refine Keeps.step (setOut_keeps ..) rfl ?_; refine State.emit_keeps _ ?_ ?_; exact rfl; exact Keeps.refl _ _
  refine Keeps.step (setOut_keeps ..) rfl ?_; refine State.emit_keeps _ ?_ ?_; exact rfl; exact Keeps.refl _ _; split
  refine Keeps.step (setOut_keeps ..) rfl ?_; refine State.emit_keeps _ ?_ ?_; exact rfl; exact Keeps.refl _ _
  refine Keeps.step (setOut_keeps ..) rfl ?_; refine State.emit_keeps _ ?_ ?_; exact rfl; exact Keeps.refl _ _
  refine Keeps.step (setOut_keeps ..) rfl ?_; refine State.emit_keeps _ ?_ ?_; exact rfl; exact Keeps.refl _ _
  refine Keeps.step (setOut_keeps ..) rfl ?_; exact Keeps.refl _ _

theorem execIdentify_keeps (c) (i) (s : State) : KeepsRes 0x1000000200000000000000000 s (execIdentify c i s) := by
  unfold execIdentify
  refine KeepsRes.next ?_; refine live_keeps _ (fun w hw => ?_) ?_
  refine adminDo_keeps (h := ?_) (hm := ?_) (hf := fun a0 w hw => ?_) ..; rfl; assumption
  refine Keeps.step (identify_keeps ..) rfl ?_; assumption; exact Keeps.refl _ _

theorem getLogPage_keeps (c) (x) (s : State) : Keeps 0x1000000200000000000000000 s (getLogPage c x s) := by
  unfold getLogPage
  dsimp only; split; refine Keeps.step (setOut_keeps ..) rfl ?_; refine State.emit_keeps _ ?_ ?_; exact rfl
  exact Keeps.refl _ _; split; refine Keeps.step (setOut_keeps ..) rfl ?_; refine State.emit_keeps _ ?_ ?_; exact rfl
  exact Keeps.refl _ _; split; split; refine Keeps.step (setOut_keeps ..) rfl ?_; refine State.emit_keeps _ ?_ ?_; exact rfl
  exact Keeps.refl _ _; refine Keeps.step (setOut_keeps ..) rfl ?_; exact Keeps.refl _ _; split; split
  refine Keeps.step (modCtrl_keeps ..) rfl ?_; refine Keeps.step (setOut_keeps ..) rfl ?_; refine State.emit_keeps _ ?_ ?_
  exact rfl; exact Keeps.refl _ _; refine Keeps.step (setOut_keeps ..) rfl ?_; refine State.emit_keeps _ ?_ ?_; exact rfl
  exact Keeps.refl _ _; refine Keeps.step (setOut_keeps ..) rfl ?_; exact Keeps.refl _ _

theorem execGetLogPage_keeps (c) (i) (s : State) : KeepsRes 0x1000000200000000000000000 s (execGetLogPage c i s) := by
  unfold execGetLogPage
  refine KeepsRes.next ?_; refine live_keeps _ (fun w hw => ?_) ?_
  refine adminDo_keeps (h := ?_) (hm := ?_) (hf := fun a0 w hw => ?_) ..; rfl; assumption
  refine Keeps.step (getLogPage_keeps ..) rfl ?_; assumption; exact Keeps.refl _ _

theorem setFeat_keeps (c) (k) (x2) (s : State) : Keeps 0x1000000000000000000000000 s (setFeat c k x2 s) := by
  unfold setFeat; refine Keeps.step (modCtrl_keeps ..) rfl ?_; exact Keeps.refl _ _

theorem setFeatures_keeps (data) (c) (x) (s : State) : Keeps 0x1000000000000000000000000 s (setFeatures data c x s) := by
  unfold setFeatures
  dsimp only; split; exact Keeps.refl _ _; split; refine Keeps.step (setOut_keeps ..) rfl ?_; exact Keeps.refl _ _; split; split
  refine Keeps.step (setOut_keeps ..) rfl ?_; exact Keeps.refl _ _; refine Keeps.step (finish_keeps ..) rfl ?_
  refine Keeps.step (setFeat_keeps ..) rfl ?_; exact Keeps.refl _ _; split; refine Keeps.step (setOut_keeps ..) rfl ?_
  exact Keeps.refl _ _; split; refine Keeps.step (setOut_keeps ..) rfl ?_; refine Keeps.step (setFeat_keeps ..) rfl ?_
  refine Keeps.step (setFeat_keeps ..) rfl ?_; exact Keeps.refl _ _; refine Keeps.step (setOut_keeps ..) rfl ?_
  refine Keeps.step (setFeat_keeps ..) rfl ?_; exact Keeps.refl _ _

theorem execSetFeatures_keeps (c) (i) (data) (s : State) :
    KeepsRes 0x1000000000000000000000000 s (execSetFeatures c i data s) := by
  unfold execSetFeatures
  refine KeepsRes.next ?_; refine live_keeps _ (fun w hw => ?_) ?_
  refine adminDo_keeps (h := ?_) (hm := ?_) (hf := fun a0 w hw => ?_) ..; rfl; assumption
  refine Keeps.step (setFeatures_keeps ..) rfl ?_; assumption; exact Keeps.refl _ _

theorem featureDo_keeps {m : Nat} {s t : State} (hm : 0x1000000000000000000000000 &&& m = 0x1000000000000000000000000) (h : Keeps m s t) (c) (i) (fid) (f) (hf : ∀ a0 w, Keeps m s w → Keeps m s (f a0 w)) :
    Keeps m s (featureDo c i fid f t) := by
  unfold featureDo
  refine adminDo_keeps (h := ?_) (hm := ?_) (hf := fun a0 w hw => ?_) ..; exact mask_within hm rfl; assumption; split; split
  refine Keeps.step' hm (setOut_keeps ..) rfl ?_; assumption; refine hf _ _ ?_; assumption; assumption

theorem strictMode_keeps (c) (x) (s : State) : Keeps 0x1000000000000000000000000 s (strictMode c x s) := by
  unfold strictMode
  dsimp only; refine Keeps.step (setOut_keeps ..) rfl ?_; exact Keeps.refl _ _

theorem execStrictErrorMode_keeps (c) (i) (s : State) : KeepsRes 0x1000000000000000000000000 s (execStrictErrorMode c i s) := by
  unfold execStrictErrorMode
  refine KeepsRes.next ?_; refine live_keeps _ (fun w hw => ?_) ?_
  refine featureDo_keeps (h := ?_) (hm := ?_) (hf := fun a0 w hw => ?_) ..; rfl; assumption
  refine Keeps.step (strictMode_keeps ..) rfl ?_; assumption; exact Keeps.refl _ _

theorem assayDuty_keeps (c) (x) (s : State) : Keeps 0x1000000000000000000000000 s (assayDuty c x s) := by
  unfold assayDuty; refine Keeps.step (setOut_keeps ..) rfl ?_; exact Keeps.refl _ _

theorem execAssayDuty_keeps (c) (i) (s : State) : KeepsRes 0x1000000000000000000000000 s (execAssayDuty c i s) := by
  unfold execAssayDuty
  refine KeepsRes.next ?_; refine live_keeps _ (fun w hw => ?_) ?_
  refine featureDo_keeps (h := ?_) (hm := ?_) (hf := fun a0 w hw => ?_) ..; rfl; assumption
  refine Keeps.step (assayDuty_keeps ..) rfl ?_; assumption; exact Keeps.refl _ _

theorem powerManagement_keeps (c) (x) (s : State) : Keeps 0x323bf943000000600704055dc s (powerManagement c x s) := by
  unfold powerManagement
  split; refine Keeps.step (setOut_keeps ..) rfl ?_; exact Keeps.refl _ _; refine Keeps.step (pwrRequest_keeps ..) rfl ?_
  exact Keeps.refl _ _

theorem execPowerManagement_keeps (c) (i) (s : State) : KeepsRes 0x323bf943000000600704055dc s (execPowerManagement c i s) := by
  unfold execPowerManagement
  refine KeepsRes.next ?_; refine live_keeps _ (fun w hw => ?_) ?_
  refine featureDo_keeps (h := ?_) (hm := ?_) (hf := fun a0 w hw => ?_) ..; rfl; assumption
  refine Keeps.step (powerManagement_keeps ..) rfl ?_; assumption; exact Keeps.refl _ _

theorem apstSet_keeps (table) (c) (x) (s : State) : Keeps 0x1000000000000000000000000 s (apstSet table c x s) := by
  unfold apstSet
  split; refine Keeps.step (setOut_keeps ..) rfl ?_; refine Keeps.foldl (fun w e hw => ?_) ?_
  refine Keeps.step (setFeat_keeps ..) rfl ?_; assumption; refine Keeps.step (setFeat_keeps ..) rfl ?_; exact Keeps.refl _ _
  refine Keeps.step (setOut_keeps ..) rfl ?_; exact Keeps.refl _ _

theorem execAutonomousPowerStateTransition_keeps (c) (i) (table) (s : State) :
    KeepsRes 0x1000000000000000000000000 s (execAutonomousPowerStateTransition c i table s) := by
  unfold execAutonomousPowerStateTransition
  refine KeepsRes.next ?_; refine live_keeps _ (fun w hw => ?_) ?_
  refine featureDo_keeps (h := ?_) (hm := ?_) (hf := fun a0 w hw => ?_) ..; rfl; assumption
  refine Keeps.step (apstSet_keeps ..) rfl ?_; assumption; exact Keeps.refl _ _

theorem getFeatures_keeps (c) (x) (s : State) : Keeps 0x1000000200000000000000000 s (getFeatures c x s) := by
  unfold getFeatures
  dsimp only; split; refine Keeps.step (setOut_keeps ..) rfl ?_; exact Keeps.refl _ _; split
  refine Keeps.step (setOut_keeps ..) rfl ?_; exact Keeps.refl _ _; split; refine Keeps.step (finish_keeps ..) rfl ?_
  exact Keeps.refl _ _; split; refine Keeps.step (finish_keeps ..) rfl ?_; exact Keeps.refl _ _
  refine Keeps.step (finish_keeps ..) rfl ?_; split; refine State.emit_keeps _ ?_ ?_; exact rfl; exact Keeps.refl _ _; split
  refine State.emit_keeps _ ?_ ?_; exact rfl; exact Keeps.refl _ _; exact Keeps.refl _ _

theorem execGetFeatures_keeps (c) (i) (s : State) : KeepsRes 0x1000000200000000000000000 s (execGetFeatures c i s) := by
  unfold execGetFeatures
  refine KeepsRes.next ?_; refine live_keeps _ (fun w hw => ?_) ?_
  refine adminDo_keeps (h := ?_) (hm := ?_) (hf := fun a0 w hw => ?_) ..; rfl; assumption
  refine Keeps.step (getFeatures_keeps ..) rfl ?_; assumption; exact Keeps.refl _ _

theorem aerRequest_keeps (c) (x) (s : State) : Keeps 0x1000000000000000000000000 s (aerRequest c x s) := by
  unfold aerRequest
  dsimp only; split; exact Keeps.refl _ _; split; refine Keeps.step (setOut_keeps ..) rfl ?_; exact Keeps.refl _ _; split
  refine Keeps.step (finish_keeps ..) rfl ?_; refine Keeps.step (modCtrl_keeps ..) rfl ?_; exact Keeps.refl _ _
  refine Keeps.step (modCtrl_keeps ..) rfl ?_; exact Keeps.refl _ _

theorem execAsynchronousEventRequest_keeps (c) (i) (s : State) :
    KeepsRes 0x1000000000000000000000000 s (execAsynchronousEventRequest c i s) := by
  unfold execAsynchronousEventRequest
  refine KeepsRes.next ?_; refine live_keeps _ (fun w hw => ?_) ?_
  refine adminDo_keeps (h := ?_) (hm := ?_) (hf := fun a0 w hw => ?_) ..; rfl; assumption
  refine Keeps.step (aerRequest_keeps ..) rfl ?_; assumption; exact Keeps.refl _ _

theorem abortEnd_keeps (c) (i) (dw0) (follows) (s : State) : Keeps 0x1000000000000000000000000 s (abortEnd c i dw0 follows s) := by
  unfold abortEnd; refine Keeps.step (modCmd_keeps ..) rfl ?_; exact Keeps.refl _ _

theorem abort_keeps (c) (x) (s : State) : Keeps 0x1100089380000030000b30000 s (abort c x s) := by
  unfold abort
  dsimp only; split; refine Keeps.step (setOut_keeps ..) rfl ?_; exact Keeps.refl _ _; split; split
  refine Keeps.step (abortEnd_keeps ..) rfl ?_; refine Keeps.step (patTrig_keeps ..) rfl ?_; refine State.on_keeps _ ?_ ?_
  exact rfl; exact Keeps.refl _ _; refine Keeps.step (abortEnd_keeps ..) rfl ?_; exact Keeps.refl _ _; split
  refine Keeps.step (abortEnd_keeps ..) rfl ?_; refine Keeps.step (commitWith_keeps ..) rfl ?_; exact Keeps.refl _ _; split
  refine Keeps.step (abortEnd_keeps ..) rfl ?_; exact Keeps.refl _ _; split; refine Keeps.step (abortEnd_keeps ..) rfl ?_
  refine Keeps.step (commitWith_keeps ..) rfl ?_; exact Keeps.refl _ _; split; refine Keeps.step (abortEnd_keeps ..) rfl ?_
  refine Keeps.step (commitWith_keeps ..) rfl ?_; exact Keeps.refl _ _; refine Keeps.step (abortEnd_keeps ..) rfl ?_
  exact Keeps.refl _ _

theorem execAbort_keeps (c) (i) (s : State) : KeepsRes 0x1100089380000030000b30000 s (execAbort c i s) := by
  unfold execAbort
  refine KeepsRes.next ?_; refine live_keeps _ (fun w hw => ?_) ?_
  refine adminDo_keeps (h := ?_) (hm := ?_) (hf := fun a0 w hw => ?_) ..; rfl; assumption
  refine Keeps.step (abort_keeps ..) rfl ?_; assumption; exact Keeps.refl _ _

theorem discard_keeps (l) (s : State) : Keeps 0x1100089380000030000b30000 s (discard l s) := by
  unfold discard
  refine Keeps.foldl (fun w e hw => ?_) ?_; refine Keeps.step (commitWith_keeps ..) rfl ?_; assumption; exact Keeps.refl _ _

theorem discardTail_keeps (c) (q) (x2) (s : State) : Keeps 0x1000080200000020000100000 s (discardTail c q x2 s) := by
  induction x2 generalizing s with
  | nil =>
    unfold discardTail
    exact Keeps.refl _ _
  | cons e l ih =>
    unfold discardTail
    split; exact Keeps.refl _ _; split; exact Keeps.refl _ _; dsimp only; refine Keeps.step (ih ..) rfl ?_
    refine Keeps.step (cqPut_keeps ..) rfl ?_; refine Keeps.step (errorLog_keeps ..) rfl ?_
    refine Keeps.step (modSq_keeps ..) rfl ?_; exact Keeps.refl _ _

theorem thaw_keeps {m : Nat} {s t : State} (hm : 0x1000000000000000000000000 &&& m = 0x1000000000000000000000000) (h : Keeps m s t) (action) (f) (c) (x) (hf : ∀ a0 a1 w, Keeps m s w → Keeps m s (f a0 a1 w)) :
    Keeps m s (thaw action f c x t) := by
  unfold thaw
  dsimp only; split; assumption; split; refine Keeps.step' hm (setOut_keeps ..) rfl ?_; assumption; split
  refine Keeps.step' hm (setOut_keeps ..) rfl ?_; assumption; split; refine Keeps.step' hm (setOut_keeps ..) rfl ?_; assumption
  refine Keeps.step' hm (setOut_keeps ..) rfl ?_; refine hf _ _ _ ?_; refine Keeps.step' hm (modSq_keeps ..) rfl ?_; assumption

theorem execThawResume_keeps (c) (i) (s : State) : KeepsRes 0x1000000000000000000000000 s (execThawResume c i s) := by
  unfold execThawResume
  refine KeepsRes.next ?_; refine live_keeps _ (fun w hw => ?_) ?_
  refine adminDo_keeps (h := ?_) (hm := ?_) (hf := fun a0 w hw => ?_) ..; rfl; assumption
  refine thaw_keeps (h := ?_) (hm := ?_) (hf := fun a0 a1 w hw => ?_) ..; rfl; assumption; assumption; exact Keeps.refl _ _

theorem execThawDiscardHeld_keeps (c) (i) (s : State) : KeepsRes 0x1100089380000030000b30000 s (execThawDiscardHeld c i s) := by
  unfold execThawDiscardHeld
  refine KeepsRes.next ?_; refine live_keeps _ (fun w hw => ?_) ?_
  refine adminDo_keeps (h := ?_) (hm := ?_) (hf := fun a0 w hw => ?_) ..; rfl; assumption
  refine thaw_keeps (h := ?_) (hm := ?_) (hf := fun a0 a1 w hw => ?_) ..; rfl; assumption
  refine Keeps.step (discard_keeps ..) rfl ?_; assumption; exact Keeps.refl _ _

theorem execThawDiscardAll_keeps (c) (i) (cids) (s : State) :
    KeepsRes 0x1100089380000030000b30000 s (execThawDiscardAll c i cids s) := by
  unfold execThawDiscardAll
  refine KeepsRes.next ?_; refine live_keeps _ (fun w hw => ?_) ?_
  refine adminDo_keeps (h := ?_) (hm := ?_) (hf := fun a0 w hw => ?_) ..; rfl; assumption
  refine thaw_keeps (h := ?_) (hm := ?_) (hf := fun a0 a1 w hw => ?_) ..; rfl; assumption
  refine Keeps.step (discardTail_keeps ..) rfl ?_; refine Keeps.step (discard_keeps ..) rfl ?_; assumption; exact Keeps.refl _ _

theorem modNs_keeps (ns) (f) (s : State) : Keeps 0x1000000000000000000000000 s (modNs ns f s) := by
  unfold modNs
  split; refine Keeps.step (modHif_keeps ..) rfl ?_; exact Keeps.refl _ _; exact Keeps.refl _ _

theorem recordsApply_keeps (recs) (s : State) : Keeps 0x3000000c0000000000810000 s (recordsApply recs s) := by
  unfold recordsApply
  refine Keeps.foldl (fun w e hw => ?_) ?_; refine Keeps.step (roleRecord_keeps ..) rfl ?_; assumption; exact Keeps.refl _ _

theorem nsCreate_keeps (size) (cap) (fmt) (pi) (base) (c) (x) (s : State) :
    Keeps 0x1000000000000000000010000 s (nsCreate size cap fmt pi base c x s) := by
  unfold nsCreate
  dsimp only; split; refine Keeps.step (setOut_keeps ..) rfl ?_; exact Keeps.refl _ _; split
  refine Keeps.step (setOut_keeps ..) rfl ?_; exact Keeps.refl _ _; split; refine Keeps.step (setOut_keeps ..) rfl ?_
  exact Keeps.refl _ _; split; refine Keeps.step (setOut_keeps ..) rfl ?_; exact Keeps.refl _ _; split
  refine Keeps.step (setOut_keeps ..) rfl ?_; exact Keeps.refl _ _; split; refine Keeps.step (setOut_keeps ..) rfl ?_
  exact Keeps.refl _ _; split; exact Keeps.refl _ _; refine Keeps.step (finish_keeps ..) rfl ?_
  refine Keeps.step (modNs_keeps ..) rfl ?_; refine State.on_keeps _ ?_ ?_; rw [XLT_NS_CFG_EN_blk]; exact rfl
  refine State.set_keeps _ _ ?_ ?_; rw [XLT_NS_CFG_CHUNKS_blk]; exact rfl; refine State.put_keeps _ _ ?_ ?_
  rw [XLT_NS_CFG_ZONED_blk]; exact rfl; refine State.set_keeps _ _ ?_ ?_; rw [XLT_NS_BASE_CHUNK_BASE_blk]; exact rfl
  exact Keeps.refl _ _

theorem nsDelete_keeps (recs) (c) (x) (s : State) : Keeps 0x13000000c0000000000810000 s (nsDelete recs c x s) := by
  unfold nsDelete
  dsimp only; split; split; refine Keeps.step (setOut_keeps ..) rfl ?_; exact Keeps.refl _ _; split
  refine Keeps.step (setOut_keeps ..) rfl ?_; refine Keeps.foldl (fun w e hw => ?_) ?_
  refine Keeps.step (modNs_keeps ..) rfl ?_; refine State.off_keeps _ ?_ ?_; rw [XLT_NS_CFG_EN_blk]; exact rfl; assumption
  refine Keeps.step (recordsApply_keeps ..) rfl ?_; exact Keeps.refl _ _; exact Keeps.refl _ _; split
  refine Keeps.step (setOut_keeps ..) rfl ?_; exact Keeps.refl _ _; split; refine Keeps.step (setOut_keeps ..) rfl ?_
  refine Keeps.foldl (fun w e hw => ?_) ?_; refine Keeps.step (modNs_keeps ..) rfl ?_; refine State.off_keeps _ ?_ ?_
  rw [XLT_NS_CFG_EN_blk]; exact rfl; assumption; refine Keeps.step (recordsApply_keeps ..) rfl ?_; exact Keeps.refl _ _
  exact Keeps.refl _ _

theorem nsManagement_keeps (size) (cap) (fmt) (pi) (base) (recs) (c) (x) (s : State) :
    Keeps 0x13000000c0000000000810000 s (nsManagement size cap fmt pi base recs c x s) := by
  unfold nsManagement
  split; refine Keeps.step (nsCreate_keeps ..) rfl ?_; exact Keeps.refl _ _; refine Keeps.step (nsDelete_keeps ..) rfl ?_
  exact Keeps.refl _ _; refine Keeps.step (setOut_keeps ..) rfl ?_; exact Keeps.refl _ _

theorem execNamespaceManagement_keeps (c) (i) (size) (cap) (fmt) (pi) (base) (recs) (s : State) :
    KeepsRes 0x13000000c0000000000810000 s (execNamespaceManagement c i size cap fmt pi base recs s) := by
  unfold execNamespaceManagement
  refine KeepsRes.next ?_; refine live_keeps _ (fun w hw => ?_) ?_
  refine adminDo_keeps (h := ?_) (hm := ?_) (hf := fun a0 w hw => ?_) ..; rfl; assumption
  refine Keeps.step (nsManagement_keeps ..) rfl ?_; assumption; exact Keeps.refl _ _

theorem nsAttachment_keeps (list) (c) (x) (s : State) : Keeps 0x1000000000000000000000000 s (nsAttachment list c x s) := by
  unfold nsAttachment
  dsimp only; split; refine Keeps.step (setOut_keeps ..) rfl ?_; exact Keeps.refl _ _; split
  refine Keeps.step (setOut_keeps ..) rfl ?_; exact Keeps.refl _ _; split; split; refine Keeps.step (setOut_keeps ..) rfl ?_
  exact Keeps.refl _ _; refine Keeps.step (setOut_keeps ..) rfl ?_; refine Keeps.step (modNs_keeps ..) rfl ?_
  exact Keeps.refl _ _; split; refine Keeps.step (setOut_keeps ..) rfl ?_; exact Keeps.refl _ _
  refine Keeps.step (setOut_keeps ..) rfl ?_; refine Keeps.step (modNs_keeps ..) rfl ?_; exact Keeps.refl _ _
  refine Keeps.step (setOut_keeps ..) rfl ?_; exact Keeps.refl _ _

theorem execNamespaceAttachment_keeps (c) (i) (list) (s : State) :
    KeepsRes 0x1000000000000000000000000 s (execNamespaceAttachment c i list s) := by
  unfold execNamespaceAttachment
  refine KeepsRes.next ?_; refine live_keeps _ (fun w hw => ?_) ?_
  refine adminDo_keeps (h := ?_) (hm := ?_) (hf := fun a0 w hw => ?_) ..; rfl; assumption
  refine Keeps.step (nsAttachment_keeps ..) rfl ?_; assumption; exact Keeps.refl _ _

theorem newKey_keeps (ns) (s : State) : Keeps 0x4080000100000100000000000 s (newKey ns s) := by
  unfold newKey
  split; refine State.when_keeps _ _ (fun w hw => ?_) ?_; refine Keeps.step (keyGenerate_keeps ..) rfl ?_; assumption
  exact Keeps.refl _ _; exact Keeps.refl _ _

theorem formatNs_keeps (ses) (recs) (c) (x) (s : State) : Keeps 0x53800001c0000100000810000 s (formatNs ses recs c x s) := by
  unfold formatNs
  dsimp only; split; exact Keeps.refl _ _; split; refine Keeps.step (setOut_keeps ..) rfl ?_; exact Keeps.refl _ _; split
  refine Keeps.step (setOut_keeps ..) rfl ?_; exact Keeps.refl _ _; split; refine Keeps.step (setOut_keeps ..) rfl ?_
  exact Keeps.refl _ _; split; refine Keeps.step (setOut_keeps ..) rfl ?_; exact Keeps.refl _ _; split; split
  refine Keeps.step (setOut_keeps ..) rfl ?_; refine Keeps.step (modNs_keeps ..) rfl ?_
  refine Keeps.step (recordsApply_keeps ..) rfl ?_; exact Keeps.refl _ _; exact Keeps.refl _ _; split
  refine Keeps.step (setOut_keeps ..) rfl ?_; refine Keeps.step (modNs_keeps ..) rfl ?_
  refine Keeps.step (recordsApply_keeps ..) rfl ?_; refine Keeps.step (newKey_keeps ..) rfl ?_; exact Keeps.refl _ _
  exact Keeps.refl _ _

theorem execFormatNvm_keeps (c) (i) (recs) (s : State) : KeepsRes 0x53800001c0000100000810000 s (execFormatNvm c i recs s) := by
  unfold execFormatNvm
  refine KeepsRes.next ?_; refine live_keeps _ (fun w hw => ?_) ?_
  refine adminDo_keeps (h := ?_) (hm := ?_) (hf := fun a0 w hw => ?_) ..; rfl; assumption
  refine Keeps.step (formatNs_keeps ..) rfl ?_; assumption; exact Keeps.refl _ _

theorem execFormatUserDataErase_keeps (c) (i) (recs) (s : State) :
    KeepsRes 0x53800001c0000100000810000 s (execFormatUserDataErase c i recs s) := by
  unfold execFormatUserDataErase
  refine KeepsRes.next ?_; refine live_keeps _ (fun w hw => ?_) ?_
  refine adminDo_keeps (h := ?_) (hm := ?_) (hf := fun a0 w hw => ?_) ..; rfl; assumption
  refine Keeps.step (formatNs_keeps ..) rfl ?_; assumption; exact Keeps.refl _ _

theorem execFormatCryptoErase_keeps (c) (i) (recs) (s : State) :
    KeepsRes 0x53800001c0000100000810000 s (execFormatCryptoErase c i recs s) := by
  unfold execFormatCryptoErase
  refine KeepsRes.next ?_; refine live_keeps _ (fun w hw => ?_) ?_
  refine adminDo_keeps (h := ?_) (hm := ?_) (hf := fun a0 w hw => ?_) ..; rfl; assumption
  refine Keeps.step (formatNs_keeps ..) rfl ?_; assumption; exact Keeps.refl _ _

theorem eraseRegion_keeps (r) (s : State) : Keeps 0x80000000000000000000000 s (eraseRegion r s) := by
  unfold eraseRegion
  dsimp only; refine Keeps.step (modVlt_keeps ..) rfl ?_; exact Keeps.refl _ _

theorem sanitizeVault_keeps (s : State) : Keeps 0x80080000000020001400000 s (sanitizeVault s) := by
  unfold sanitizeVault
  dsimp only; refine withCap_keeps (h := ?_) (hm := ?_) (hf := fun w hw => ?_) ..; rfl
  refine Keeps.step (eraseRegion_keeps ..) rfl ?_; refine Keeps.step (eraseRegion_keeps ..) rfl ?_
  refine Keeps.step (eraseRegion_keeps ..) rfl ?_; exact Keeps.refl _ _; refine Keeps.step (modVlt_keeps ..) rfl ?_
  refine Keeps.foldl (fun w e hw => ?_) ?_; refine State.putBit_keeps _ _ _ ?_ ?_; rw [VLT_SAVE_MAP_ERASED_blk]; exact rfl
  assumption; assumption

theorem sanitize_keeps (crypto) (recs) (c) (x) (s : State) : Keeps 0x53800881c0000120001c10000 s (sanitize crypto recs c x s) := by
  unfold sanitize
  split; refine Keeps.step (setOut_keeps ..) rfl ?_; exact Keeps.refl _ _; split; exact Keeps.refl _ _; dsimp only; split
  refine Keeps.step (setOut_keeps ..) rfl ?_; refine Keeps.step (sanitizeVault_keeps ..) rfl ?_
  refine Keeps.step (recordsApply_keeps ..) rfl ?_; refine Keeps.foldl (fun w e hw => ?_) ?_
  refine Keeps.step (newKey_keeps ..) rfl ?_; assumption; refine State.set_keeps _ _ ?_ ?_; exact rfl
  refine withCap_keeps (h := ?_) (hm := ?_) (hf := fun w hw => ?_) ..; rfl; exact Keeps.refl _ _
  refine Keeps.step (modUnits_keeps ..) rfl ?_; assumption; exact Keeps.refl _ _

theorem sanitizeDo_keeps {m : Nat} {s t : State} (hm : 0x0 &&& m = 0x0) (h : Keeps m s t) (act) (f) (x) (hf : ∀ a0 w, Keeps m s w → Keeps m s (f a0 w)) :
    Keeps m s (sanitizeDo act f x t) := by
  unfold sanitizeDo; split; refine hf _ _ ?_; assumption; assumption

theorem execSanitizeCryptoErase_keeps (c) (i) (recs) (s : State) :
    KeepsRes 0x53800881c0000120001c10000 s (execSanitizeCryptoErase c i recs s) := by
  unfold execSanitizeCryptoErase
  refine KeepsRes.next ?_; refine live_keeps _ (fun w hw => ?_) ?_
  refine adminDo_keeps (h := ?_) (hm := ?_) (hf := fun a0 w hw => ?_) ..; rfl; assumption
  refine sanitizeDo_keeps (h := ?_) (hm := ?_) (hf := fun a0 w hw => ?_) ..; rfl; assumption
  refine Keeps.step (sanitize_keeps ..) rfl ?_; assumption; exact Keeps.refl _ _

theorem execSanitizeBlockErase_keeps (c) (i) (recs) (s : State) :
    KeepsRes 0x53800881c0000120001c10000 s (execSanitizeBlockErase c i recs s) := by
  unfold execSanitizeBlockErase
  refine KeepsRes.next ?_; refine live_keeps _ (fun w hw => ?_) ?_
  refine adminDo_keeps (h := ?_) (hm := ?_) (hf := fun a0 w hw => ?_) ..; rfl; assumption
  refine sanitizeDo_keeps (h := ?_) (hm := ?_) (hf := fun a0 w hw => ?_) ..; rfl; assumption
  refine Keeps.step (sanitize_keeps ..) rfl ?_; assumption; exact Keeps.refl _ _

theorem execSanitizeOverwrite_keeps (c) (i) (s : State) :
    KeepsRes 0x1000000000000000000000000 s (execSanitizeOverwrite c i s) := by
  unfold execSanitizeOverwrite
  refine KeepsRes.next ?_; refine live_keeps _ (fun w hw => ?_) ?_
  refine adminDo_keeps (h := ?_) (hm := ?_) (hf := fun a0 w hw => ?_) ..; rfl; assumption
  refine sanitizeDo_keeps (h := ?_) (hm := ?_) (hf := fun a0 w hw => ?_) ..; rfl; assumption
  refine Keeps.step (setOut_keeps ..) rfl ?_; assumption; exact Keeps.refl _ _

theorem secDo_keeps {m : Nat} {s t : State} (hm : 0x0 &&& m = 0x0) (h : Keeps m s t) (op) (f) (x) (hf : ∀ a0 w, Keeps m s w → Keeps m s (f a0 w)) :
    Keeps m s (secDo op f x t) := by
  unfold secDo; split; refine hf _ _ ?_; assumption; assumption

theorem secEnable_keeps (c) (x) (s : State) : Keeps 0x5080000100000100000000000 s (secEnable c x s) := by
  unfold secEnable
  dsimp only; split; split; refine Keeps.step (setOut_keeps ..) rfl ?_; exact Keeps.refl _ _
  refine Keeps.step (setOut_keeps ..) rfl ?_; refine Keeps.step (keyGenerate_keeps ..) rfl ?_; exact Keeps.refl _ _
  refine Keeps.step (setOut_keeps ..) rfl ?_; exact Keeps.refl _ _

theorem execEnable_keeps (c) (i) (s : State) : KeepsRes 0x5080000100000100000000000 s (execEnable c i s) := by
  unfold execEnable
  refine KeepsRes.next ?_; refine live_keeps _ (fun w hw => ?_) ?_
  refine adminDo_keeps (h := ?_) (hm := ?_) (hf := fun a0 w hw => ?_) ..; rfl; assumption
  refine secDo_keeps (h := ?_) (hm := ?_) (hf := fun a0 w hw => ?_) ..; rfl; assumption
  refine Keeps.step (secEnable_keeps ..) rfl ?_; assumption; exact Keeps.refl _ _

theorem secToken_keeps (good) (scope) (c) (x) (s : State) : Keeps 0x5000000000000100000000000 s (secToken good scope c x s) := by
  unfold secToken
  dsimp only; refine Keeps.step (setOut_keeps ..) rfl ?_; refine Keeps.step (debugUnlock_keeps ..) rfl ?_; exact Keeps.refl _ _

theorem execDebugToken_keeps (c) (i) (good) (scope) (s : State) :
    KeepsRes 0x5000000000000100000000000 s (execDebugToken c i good scope s) := by
  unfold execDebugToken
  refine KeepsRes.next ?_; refine live_keeps _ (fun w hw => ?_) ?_
  refine adminDo_keeps (h := ?_) (hm := ?_) (hf := fun a0 w hw => ?_) ..; rfl; assumption
  refine secDo_keeps (h := ?_) (hm := ?_) (hf := fun a0 w hw => ?_) ..; rfl; assumption
  refine Keeps.step (secToken_keeps ..) rfl ?_; assumption; exact Keeps.refl _ _

theorem secAttest_keeps (nonce) (c) (x) (s : State) : Keeps 0x50000000c0000100000800000 s (secAttest nonce c x s) := by
  unfold secAttest
  refine Keeps.step (setOut_keeps ..) rfl ?_; refine Keeps.step (attStart_keeps ..) rfl ?_
  refine Keeps.step (State.dramWrite_keeps ..) rfl ?_; exact Keeps.refl _ _

theorem execAttest_keeps (c) (i) (nonce) (s : State) : KeepsRes 0x50000000c0000100000800000 s (execAttest c i nonce s) := by
  unfold execAttest
  refine KeepsRes.next ?_; refine live_keeps _ (fun w hw => ?_) ?_
  refine adminDo_keeps (h := ?_) (hm := ?_) (hf := fun a0 w hw => ?_) ..; rfl; assumption
  refine secDo_keeps (h := ?_) (hm := ?_) (hf := fun a0 w hw => ?_) ..; rfl; assumption
  refine Keeps.step (secAttest_keeps ..) rfl ?_; assumption; exact Keeps.refl _ _

theorem secReport_keeps (c) (x) (s : State) : Keeps 0x1000000200000000000000000 s (secReport c x s) := by
  unfold secReport
  split; refine Keeps.step (setOut_keeps ..) rfl ?_; refine State.emit_keeps _ ?_ ?_; exact rfl; exact Keeps.refl _ _
  refine Keeps.step (setOut_keeps ..) rfl ?_; exact Keeps.refl _ _

theorem execReportReceive_keeps (c) (i) (s : State) : KeepsRes 0x1000000200000000000000000 s (execReportReceive c i s) := by
  unfold execReportReceive
  refine KeepsRes.next ?_; refine live_keeps _ (fun w hw => ?_) ?_
  refine adminDo_keeps (h := ?_) (hm := ?_) (hf := fun a0 w hw => ?_) ..; rfl; assumption
  refine secDo_keeps (h := ?_) (hm := ?_) (hf := fun a0 w hw => ?_) ..; rfl; assumption
  refine Keeps.step (secReport_keeps ..) rfl ?_; assumption; exact Keeps.refl _ _

theorem secIdentity_keeps (c) (x) (s : State) : Keeps 0x1000000200000000000000000 s (secIdentity c x s) := by
  unfold secIdentity
  refine Keeps.step (setOut_keeps ..) rfl ?_; refine State.emit_keeps _ ?_ ?_; exact rfl; exact Keeps.refl _ _

theorem execIdentityReceive_keeps (c) (i) (s : State) : KeepsRes 0x1000000200000000000000000 s (execIdentityReceive c i s) := by
  unfold execIdentityReceive
  refine KeepsRes.next ?_; refine live_keeps _ (fun w hw => ?_) ?_
  refine adminDo_keeps (h := ?_) (hm := ?_) (hf := fun a0 w hw => ?_) ..; rfl; assumption
  refine secDo_keeps (h := ?_) (hm := ?_) (hf := fun a0 w hw => ?_) ..; rfl; assumption
  refine Keeps.step (secIdentity_keeps ..) rfl ?_; assumption; exact Keeps.refl _ _

theorem secKeyInfo_keeps (c) (x) (s : State) : Keeps 0x1000000200000000000000000 s (secKeyInfo c x s) := by
  unfold secKeyInfo
  refine Keeps.step (setOut_keeps ..) rfl ?_; refine State.emit_keeps _ ?_ ?_; exact rfl; exact Keeps.refl _ _

theorem execKeyInfoReceive_keeps (c) (i) (s : State) : KeepsRes 0x1000000200000000000000000 s (execKeyInfoReceive c i s) := by
  unfold execKeyInfoReceive
  refine KeepsRes.next ?_; refine live_keeps _ (fun w hw => ?_) ?_
  refine adminDo_keeps (h := ?_) (hm := ?_) (hf := fun a0 w hw => ?_) ..; rfl; assumption
  refine secDo_keeps (h := ?_) (hm := ?_) (hf := fun a0 w hw => ?_) ..; rfl; assumption
  refine Keeps.step (secKeyInfo_keeps ..) rfl ?_; assumption; exact Keeps.refl _ _

theorem secChallenge_keeps (c) (x) (s : State) : Keeps 0x5000000300000100000000000 s (secChallenge c x s) := by
  unfold secChallenge
  dsimp only; refine Keeps.step (setOut_keeps ..) rfl ?_; refine State.emit_keeps _ ?_ ?_; exact rfl
  refine Keeps.step (debugChallenge_keeps ..) rfl ?_; exact Keeps.refl _ _

theorem execChallengeReceive_keeps (c) (i) (s : State) : KeepsRes 0x5000000300000100000000000 s (execChallengeReceive c i s) := by
  unfold execChallengeReceive
  refine KeepsRes.next ?_; refine live_keeps _ (fun w hw => ?_) ?_
  refine adminDo_keeps (h := ?_) (hm := ?_) (hf := fun a0 w hw => ?_) ..; rfl; assumption
  refine secDo_keeps (h := ?_) (hm := ?_) (hf := fun a0 w hw => ?_) ..; rfl; assumption
  refine Keeps.step (secChallenge_keeps ..) rfl ?_; assumption; exact Keeps.refl _ _

theorem protocolList_keeps (c) (x) (s : State) : Keeps 0x1000000200000000000000000 s (protocolList c x s) := by
  unfold protocolList
  split; refine Keeps.step (setOut_keeps ..) rfl ?_; refine State.emit_keeps _ ?_ ?_; exact rfl; exact Keeps.refl _ _
  exact Keeps.refl _ _

theorem execProtocolList_keeps (c) (i) (s : State) : KeepsRes 0x1000000200000000000000000 s (execProtocolList c i s) := by
  unfold execProtocolList
  refine KeepsRes.next ?_; refine live_keeps _ (fun w hw => ?_) ?_
  refine adminDo_keeps (h := ?_) (hm := ?_) (hf := fun a0 w hw => ?_) ..; rfl; assumption
  refine Keeps.step (protocolList_keeps ..) rfl ?_; assumption; exact Keeps.refl _ _

end Sys2Proof.Machine
end

