-- ==== Sys2Proof/Laws/Keeps/Save.lean ====
section
/-!
SUPPORT. What each operation of Machine/Save.lean keeps: the mask names the register blocks (bits 0 to 63) and the parts of State (bit
64 on) that the operation may change; everything outside it stays.
-/
namespace Sys2Proof.Machine

theorem saveWrite_keeps (x0) (s : State) : Keeps 0x80000000000000000000000 s (saveWrite x0 s) := by
  unfold saveWrite
  refine Keeps.foldl (fun w e hw => ?_) ?_; refine Keeps.step (putPage_keeps ..) rfl ?_; assumption; exact Keeps.refl _ _

theorem loadJournal_keeps (at_) (len) (s : State) : Keeps 0xc0000000000800000 s (loadJournal at_ len s) := by
  unfold loadJournal
  refine Keeps.foldl (fun w e hw => ?_) ?_; refine Keeps.step (State.dramWrite_keeps ..) rfl ?_; assumption
  exact Keeps.refl _ _

theorem restoreUnit_keeps (e) (s : State) : Keeps 0x80c0000000000c00000 s (restoreUnit e s) := by
  unfold restoreUnit
  refine Keeps.step (segNamed_keeps ..) rfl ?_; refine Keeps.step (State.dramWrite_keeps ..) rfl ?_; exact Keeps.refl _ _

theorem saveReplay_keeps (at_) (recs) (lost) (free) (s : State) :
    Keeps 0x3000880c0000020001c10000 s (saveReplay at_ recs lost free s) := by
  unfold saveReplay
  dsimp only; split; exact Keeps.refl _ _; refine Keeps.foldl (fun w e hw => ?_) ?_
  refine Keeps.step (segNamed_keeps ..) rfl ?_; assumption; split; refine Keeps.step (recordsApply_keeps ..) rfl ?_
  refine Keeps.foldl (fun w e hw => ?_) ?_; refine Keeps.step (restoreUnit_keeps ..) rfl ?_; assumption
  refine Keeps.step (replay_keeps ..) rfl ?_; refine Keeps.step (loadJournal_keeps ..) rfl ?_; refine State.on_keeps _ ?_ ?_
  exact rfl; exact Keeps.refl _ _; refine Keeps.step (patTrig_keeps ..) rfl ?_; refine Keeps.step (recordsApply_keeps ..) rfl ?_
  refine Keeps.foldl (fun w e hw => ?_) ?_; refine Keeps.step (restoreUnit_keeps ..) rfl ?_; assumption
  refine Keeps.step (replay_keeps ..) rfl ?_; refine Keeps.step (loadJournal_keeps ..) rfl ?_; refine State.on_keeps _ ?_ ?_
  exact rfl; exact Keeps.refl _ _

theorem execSaveReplay_keeps (at_) (recs) (lost) (free) (s : State) :
    KeepsRes 0x3000880c0000020001c10000 s (execSaveReplay at_ recs lost free s) := by
  unfold execSaveReplay
  refine KeepsRes.next ?_; refine live_keeps _ (fun w hw => ?_) ?_; refine Keeps.step (saveReplay_keeps ..) rfl ?_; assumption
  exact Keeps.refl _ _

end Sys2Proof.Machine
end

