-- ==== Sys2Proof/Laws/Keeps/Reset.lean ====
section
/-!
SUPPORT. What each operation of Machine/Reset.lean keeps: the mask names the register blocks (bits 0 to 63) and the parts of State (bit
64 on) that the operation may change; everything outside it stays.
-/
namespace Sys2Proof.Machine

theorem clearDev_keeps (keep) (s : State) : Keeps 0x7fffffffdffffffffffffffff s (clearDev keep s) := by
  unfold clearDev
  refine ⟨rfl, fun f hf => ?_, fun h => tabSorted_filter _ h, fun _ => rfl, ⟨[], (List.append_nil _).symm⟩, Nat.le_refl _,
    fun _ => Nat.le_refl _, ?_⟩
  · rw [blk_all rfl f] at hf
    cases hf
  · constructor <;> intro hb <;> first | rfl | cases hb

theorem recordCause_keeps (code) (ran) (s : State) : Keeps 0x200000000000 s (recordCause code ran s) := by
  unfold recordCause
  dsimp only; split; refine State.bump_keeps _ _ ?_ ?_; exact rfl; split; refine State.bump_keeps _ _ ?_ ?_; exact rfl
  refine State.put_keeps _ _ ?_ ?_; exact rfl; refine State.onBit_keeps _ _ ?_ ?_; exact rfl; refine State.set_keeps _ _ ?_ ?_
  exact rfl; exact Keeps.refl _ _; refine State.put_keeps _ _ ?_ ?_; exact rfl; refine State.onBit_keeps _ _ ?_ ?_; exact rfl
  refine State.set_keeps _ _ ?_ ?_; exact rfl; exact Keeps.refl _ _; split; refine State.bump_keeps _ _ ?_ ?_; exact rfl
  refine State.put_keeps _ _ ?_ ?_; exact rfl; refine State.onBit_keeps _ _ ?_ ?_; exact rfl; refine State.set_keeps _ _ ?_ ?_
  exact rfl; exact Keeps.refl _ _; refine State.put_keeps _ _ ?_ ?_; exact rfl; refine State.onBit_keeps _ _ ?_ ?_; exact rfl
  refine State.set_keeps _ _ ?_ ?_; exact rfl; exact Keeps.refl _ _

theorem devClear_keeps (code) (s : State) : Keeps 0x7fffffffdffffffffffffffff s (devClear code s) := by
  unfold devClear
  dsimp only; refine Keeps.upd_die _ ?_ ?_; exact rfl; refine Keeps.step (recordCause_keeps ..) rfl ?_
  refine Keeps.step (clearDev_keeps ..) rfl ?_; exact Keeps.refl _ _

theorem resetBegin_keeps (code) (s : State) : Keeps 0x208bf85f000000600110005dc s (resetBegin code s) := by
  unfold resetBegin
  dsimp only; refine Keeps.upd_die _ ?_ ?_; exact rfl; refine Keeps.step (saveBegin_keeps ..) rfl ?_
  refine Keeps.upd_pins _ ?_ ?_; exact rfl; refine Keeps.step (portsDisable_keeps ..) rfl ?_
  refine Keeps.step (powerDieSafe_keeps ..) rfl ?_; refine Keeps.step (quenchReq_keeps ..) rfl ?_
  refine Keeps.step (quenchReq_keeps ..) rfl ?_; exact Keeps.refl _ _

theorem devReset_keeps (code) (s : State) : Keeps 0x7fffffffdffffffffffffffff s (devReset code s) := by
  unfold devReset
  split; refine Keeps.step (resetBegin_keeps ..) rfl ?_; exact Keeps.refl _ _; refine Keeps.step (resetBegin_keeps ..) rfl ?_
  exact Keeps.refl _ _; split; refine Keeps.upd_die _ ?_ ?_; exact rfl; exact Keeps.refl _ _; exact Keeps.refl _ _; split
  exact Keeps.refl _ _; split; split; refine Keeps.step (devClear_keeps ..) rfl ?_; exact Keeps.refl _ _; exact Keeps.refl _ _
  refine Keeps.step (devClear_keeps ..) rfl ?_; refine Keeps.upd_die _ ?_ ?_; exact rfl; exact Keeps.refl _ _
  exact Keeps.refl _ _

theorem execDevrstAssert_keeps (s : State) : KeepsRes 0x7fffffffdffffffffffffffff s (execDevrstAssert s) := by
  unfold execDevrstAssert
  refine KeepsRes.next ?_; refine Keeps.step (devReset_keeps ..) rfl ?_; refine Keeps.upd_pins _ ?_ ?_; exact rfl
  exact Keeps.refl _ _

theorem watchdogExpiry_keeps (stage1) (s : State) : Keeps 0x7fffffffdffffffffffffffff s (watchdogExpiry stage1 s) := by
  unfold watchdogExpiry
  split; dsimp only; refine Keeps.step (devReset_keeps ..) rfl ?_; refine Keeps.step (patTrig_keeps ..) rfl ?_
  refine State.onBit_keeps _ _ ?_ ?_; exact rfl; refine State.on_keeps _ ?_ ?_; exact rfl; exact Keeps.refl _ _; dsimp only
  split; refine Keeps.step (devReset_keeps ..) rfl ?_; refine State.set_keeps _ _ ?_ ?_; exact rfl; exact Keeps.refl _ _
  refine State.set_keeps _ _ ?_ ?_; exact rfl; exact Keeps.refl _ _

theorem execWatchdogExpiry_keeps (stage1) (s : State) : KeepsRes 0x7fffffffdffffffffffffffff s (execWatchdogExpiry stage1 s) := by
  unfold execWatchdogExpiry
  refine KeepsRes.next ?_; refine State.when_keeps _ _ (fun w hw => ?_) ?_; refine Keeps.step (watchdogExpiry_keeps ..) rfl ?_
  assumption; exact Keeps.refl _ _

theorem watchdogKick_keeps (s : State) : Keeps 0x200000000000 s (watchdogKick s) := by
  unfold watchdogKick; refine State.set_keeps _ _ ?_ ?_; exact rfl; exact Keeps.refl _ _

theorem execWatchdogKick_keeps (s : State) : KeepsRes 0x200000000000 s (execWatchdogKick s) := by
  unfold execWatchdogKick
  refine KeepsRes.next ?_; refine live_keeps _ (fun w hw => ?_) ?_; refine Keeps.step (watchdogKick_keeps ..) rfl ?_; assumption
  exact Keeps.refl _ _

theorem execFatalReset_keeps (s : State) : KeepsRes 0x7fffffffdffffffffffffffff s (execFatalReset s) := by
  unfold execFatalReset
  refine KeepsRes.next ?_; refine live_keeps _ (fun w hw => ?_) ?_; refine Keeps.step (devReset_keeps ..) rfl ?_; assumption
  exact Keeps.refl _ _

theorem execNvmSubsystemReset_keeps (c) (s : State) : KeepsRes 0x7fffffffdffffffffffffffff s (execNvmSubsystemReset c s) := by
  unfold execNvmSubsystemReset
  refine KeepsRes.next ?_; refine live_keeps _ (fun w hw => ?_) ?_; refine State.when_keeps _ _ (fun w hw => ?_) ?_
  refine Keeps.step (devReset_keeps ..) rfl ?_; assumption; assumption; exact Keeps.refl _ _

theorem faultRelease_keeps (s : State) : Keeps 0x1000000000000000000 s (faultRelease s) := by
  unfold faultRelease; refine Keeps.upd_pins _ ?_ ?_; exact rfl; exact Keeps.refl _ _

theorem execFaultRelease_keeps (s : State) : KeepsRes 0x1000000000000000000 s (execFaultRelease s) := by
  unfold execFaultRelease
  refine KeepsRes.next ?_; refine live_keeps _ (fun w hw => ?_) ?_; refine Keeps.step (faultRelease_keeps ..) rfl ?_; assumption
  exact Keeps.refl _ _

theorem coreRelease_keeps (x0) (s : State) : Keeps 0x200000000000 s (coreRelease x0 s) := by
  unfold coreRelease; refine State.set_keeps _ _ ?_ ?_; exact rfl; exact Keeps.refl _ _

theorem execCoreRelease_keeps (x0) (s : State) : KeepsRes 0x200000000000 s (execCoreRelease x0 s) := by
  unfold execCoreRelease
  refine KeepsRes.next ?_; refine live_keeps _ (fun w hw => ?_) ?_; refine Keeps.step (coreRelease_keeps ..) rfl ?_; assumption
  exact Keeps.refl _ _

theorem dieHold_keeps (s : State) : Keeps 0x400000000000000000 s (dieHold s) := by
  unfold dieHold; refine Keeps.upd_die _ ?_ ?_; exact rfl; exact Keeps.refl _ _

theorem dieRequest_keeps (s : State) : Keeps 0x400000000000000000 s (dieRequest s) := by
  unfold dieRequest; refine Keeps.upd_die _ ?_ ?_; exact rfl; exact Keeps.refl _ _

theorem saveClose_keeps (s : State) : Keeps 0x80080000000020000000000 s (saveClose s) := by
  unfold saveClose
  dsimp only; refine Keeps.step (patCopyAll_keeps ..) rfl ?_; refine Keeps.step (patinaDrain_keeps ..) rfl ?_; split
  refine Keeps.step (patTrig_keeps ..) rfl ?_; refine Keeps.step (modVlt_keeps ..) rfl ?_; split
  refine Keeps.step (saveWrite_keeps ..) rfl ?_; exact Keeps.refl _ _; exact Keeps.refl _ _
  refine Keeps.step (modVlt_keeps ..) rfl ?_; split; refine Keeps.step (saveWrite_keeps ..) rfl ?_; exact Keeps.refl _ _
  exact Keeps.refl _ _

theorem saveAfter_keeps (s : State) : Keeps 0x7fffffffdffffffffffffffff s (saveAfter s) := by
  unfold saveAfter
  split; refine Keeps.step (dieHold_keeps ..) rfl ?_; exact Keeps.refl _ _; split; refine Keeps.step (devClear_keeps ..) rfl ?_
  exact Keeps.refl _ _; split; refine Keeps.step (dieRequest_keeps ..) rfl ?_; refine Keeps.step (dieHold_keeps ..) rfl ?_
  exact Keeps.refl _ _; refine Keeps.step (dieHold_keeps ..) rfl ?_; exact Keeps.refl _ _

theorem saveEnd_keeps (s : State) : Keeps 0x7fffffffdffffffffffffffff s (saveEnd s) := by
  unfold saveEnd
  refine Keeps.step (saveAfter_keeps ..) rfl ?_; refine Keeps.step (saveClose_keeps ..) rfl ?_; exact Keeps.refl _ _

theorem execSaveTrailerDone_keeps (s : State) : KeepsRes 0x7fffffffdffffffffffffffff s (execSaveTrailerDone s) := by
  unfold execSaveTrailerDone
  refine KeepsRes.next ?_; refine State.when_keeps _ _ (fun w hw => ?_) ?_; refine Keeps.step (saveEnd_keeps ..) rfl ?_
  assumption; exact Keeps.refl _ _

theorem holdupCollapse_keeps (pages) (s : State) : Keeps 0x80001c00000000000000000 s (holdupCollapse pages s) := by
  unfold holdupCollapse
  dsimp only; refine Keeps.upd_die_pd_pins _ _ _ ?_ ?_ ?_ ?_; exact rfl; exact rfl; exact rfl
  refine Keeps.step (modVlt_keeps ..) rfl ?_; split; refine Keeps.step (saveWrite_keeps ..) rfl ?_; exact Keeps.refl _ _
  exact Keeps.refl _ _

theorem execHoldupCollapse_keeps (pages) (s : State) : KeepsRes 0x80001c00000000000000000 s (execHoldupCollapse pages s) := by
  unfold execHoldupCollapse
  refine KeepsRes.next ?_; refine State.when_keeps _ _ (fun w hw => ?_) ?_; refine Keeps.step (holdupCollapse_keeps ..) rfl ?_
  assumption; exact Keeps.refl _ _

theorem powerOn_keeps (straps) (dual) (s : State) : Keeps 0xffffffffdffffffffffffffff s (powerOn straps dual s) := by
  unfold powerOn
  dsimp only
  refine Keeps.upd_die_pd_pwr _ _ _ rfl rfl rfl ?_
  refine Keeps.step (recordCause_keeps ..) rfl ?_
  refine State.put_keeps _ _ rfl ?_
  refine State.put_keeps _ _ rfl ?_
  refine State.put_keeps _ _ rfl ?_
  refine State.put_keeps _ _ rfl ?_
  refine State.put_keeps _ _ rfl ?_
  refine State.put_keeps _ _ rfl ?_
  refine State.put_keeps _ _ rfl ?_
  refine Keeps.step (clearDev_keeps ..) rfl ?_
  refine Keeps.upd_pat (t := { s with inv := { s.inv with now := 0 } }) _ rfl ?_
  exact Keeps.upd_inv_back (t := s) _ rfl rfl (Keeps.refl _ _)

theorem execPowerOn_keeps (straps) (dual) (s : State) : KeepsRes 0xffffffffdffffffffffffffff s (execPowerOn straps dual s) := by
  unfold execPowerOn
  refine KeepsRes.next ?_; refine State.when_keeps _ _ (fun w hw => ?_) ?_; refine Keeps.step (powerOn_keeps ..) rfl ?_
  assumption; exact Keeps.refl _ _

theorem saveMapRebuild_keeps (s : State) : Keeps 0x1000000 s (saveMapRebuild s) := by
  unfold saveMapRebuild
  refine Keeps.foldl (fun w e hw => ?_) ?_; refine State.putBit_keeps _ _ _ ?_ ?_; rw [VLT_SAVE_MAP_ERASED_blk]; exact rfl
  assumption; exact Keeps.refl _ _

theorem romWait_keeps (s : State) : Keeps 0xc00000000000000000 s (romWait s) := by
  unfold romWait
  refine Keeps.upd_die_pd _ _ ?_ ?_ ?_; exact rfl; exact rfl; exact Keeps.refl _ _

theorem romBoot_keeps (s : State) : Keeps 0x4000080c00000120040000000 s (romBoot s) := by
  unfold romBoot
  dsimp only; split; refine Keeps.step (romWait_keeps ..) rfl ?_; refine State.on_keeps _ ?_ ?_; exact rfl; exact Keeps.refl _ _
  split; refine Keeps.step (bootTry_keeps ..) rfl ?_; refine State.on_keeps _ ?_ ?_; exact rfl; exact Keeps.refl _ _
  refine Keeps.step (romWait_keeps ..) rfl ?_; refine Keeps.step (bootTry_keeps ..) rfl ?_; refine State.on_keeps _ ?_ ?_
  exact rfl; exact Keeps.refl _ _

theorem devRelease_keeps (s : State) : Keeps 0x4000081c00000320041000000 s (devRelease s) := by
  unfold devRelease
  dsimp only; refine Keeps.step (romBoot_keeps ..) rfl ?_; refine Keeps.step (patTrig_keeps ..) rfl ?_
  refine Keeps.step (saveMapRebuild_keeps ..) rfl ?_; refine Keeps.step (watchdogKick_keeps ..) rfl ?_
  refine Keeps.upd_die_pd_pins_pat _ _ _ _ ?_ ?_ ?_ ?_ ?_; exact rfl; exact rfl; exact rfl; exact rfl; exact Keeps.refl _ _

theorem execDevResetRelease_keeps (s : State) : KeepsRes 0x4000081c00000320041000000 s (execDevResetRelease s) := by
  unfold execDevResetRelease
  refine KeepsRes.next ?_; refine State.when_keeps _ _ (fun w hw => ?_) ?_; refine Keeps.step (devRelease_keeps ..) rfl ?_
  assumption; exact Keeps.refl _ _

theorem execHeartbeatToggle_keeps (s : State) : KeepsRes 0x800000000000000000 s (execHeartbeatToggle s) := by
  unfold execHeartbeatToggle
  refine KeepsRes.next ?_; refine State.when_keeps _ _ (fun w hw => ?_) ?_; refine Keeps.upd_pd _ ?_ ?_; exact rfl; assumption
  exact Keeps.refl _ _

theorem heartbeatLoss_keeps (s : State) : Keeps 0x200bf80b000000200300005dc s (heartbeatLoss s) := by
  unfold heartbeatLoss
  refine Keeps.step (patTrig_keeps ..) rfl ?_; refine State.on_keeps _ ?_ ?_; exact rfl
  refine Keeps.step (powerDieSafe_keeps ..) rfl ?_; exact Keeps.refl _ _

theorem execHeartbeatLoss_keeps (s : State) : KeepsRes 0x200bf80b000000200300005dc s (execHeartbeatLoss s) := by
  unfold execHeartbeatLoss
  refine KeepsRes.next ?_; refine State.when_keeps _ _ (fun w hw => ?_) ?_; refine Keeps.step (heartbeatLoss_keeps ..) rfl ?_
  assumption; exact Keeps.refl _ _

end Sys2Proof.Machine
end

