-- ==== Sys2Proof/Laws/Keeps/Bus.lean ====
section
/-!
SUPPORT. What each operation of Machine/Bus.lean keeps: the mask names the register blocks (bits 0 to 63) and the parts of State (bit
64 on) that the operation may change; everything outside it stays.
-/
namespace Sys2Proof.Machine

theorem accessRefused_keeps (err) (r) (wr) (a) (s : State) : Keeps 0x80000000020000000001 s (accessRefused err r wr a s) := by
  unfold accessRefused
  dsimp only; refine Keeps.step (patTrig_keeps ..) rfl ?_; refine State.on_keeps _ ?_ ?_; split; exact rfl; split; exact rfl
  exact rfl; split; refine State.set_keeps _ _ ?_ ?_; exact rfl; refine State.put_keeps _ _ ?_ ?_; exact rfl
  refine State.set_keeps _ _ ?_ ?_; exact rfl; exact Keeps.refl _ _; exact Keeps.refl _ _

theorem wakeBlock_keeps (a) (s : State) : Keeps 0x40000000 s (wakeBlock a s) := by
  unfold wakeBlock
  split; refine State.onBit_keeps _ _ ?_ ?_; exact rfl; exact Keeps.refl _ _; exact Keeps.refl _ _

theorem readClears_keeps (d) (l) (s : State) : Keeps 0xffffffffffffffff s (readClears d l s) := by
  unfold readClears
  refine Keeps.foldl (fun w e hw => ?_) ?_; split; refine State.set_keeps _ _ ?_ ?_; exact blk_all rfl _; assumption; assumption
  exact Keeps.refl _ _

theorem captureNow_keeps (r) (wall) (s : State) : Keeps 0x200000000000000000000 s (captureNow r wall s) := by
  unfold captureNow
  split; refine Keeps.upd_inv _ ?_ ?_ ?_; exact rfl; (first | exact Nat.le_refl _ | exact State.bemfStart_ge _)
  exact Keeps.refl _ _; refine Keeps.upd_inv _ ?_ ?_ ?_; exact rfl; (first | exact Nat.le_refl _ | exact State.bemfStart_ge _)
  exact Keeps.refl _ _

theorem freeRead_keeps (x0) (s : State) : Keeps 0x100000000000000000 s (freeRead x0 s).1 := by
  unfold freeRead
  dsimp only; refine State.draw_keeps ?_ ?_; exact rfl; exact Keeps.refl _ _

theorem regRead_keeps (r) (d) (l) (s : State) : Keeps 0x400028010ffffffffffffffff s (regRead r d l s).1 := by
  unfold regRead
  dsimp only; split; dsimp only; refine Keeps.step (captureNow_keeps ..) rfl ?_; exact Keeps.refl _ _; dsimp only
  exact Keeps.refl _ _; dsimp only; refine Keeps.step (captureNow_keeps ..) rfl ?_; exact Keeps.refl _ _; dsimp only
  exact Keeps.refl _ _; dsimp only; refine State.set_keeps _ _ ?_ ?_; exact rfl; refine Keeps.step (freeRead_keeps ..) rfl ?_
  exact Keeps.refl _ _; dsimp only; split; refine Keeps.step (debugChallenge_keeps ..) rfl ?_; exact Keeps.refl _ _
  exact Keeps.refl _ _; dsimp only; refine Keeps.upd_pat _ ?_ ?_; exact rfl; refine Keeps.step (readClears_keeps ..) rfl ?_
  exact Keeps.refl _ _; split; dsimp only; refine Keeps.step (freeRead_keeps ..) rfl ?_; exact Keeps.refl _ _; dsimp only
  refine Keeps.step (readClears_keeps ..) rfl ?_; exact Keeps.refl _ _

theorem spotRead_keeps (r) (a) (s : State) : Keeps 0x400028010ffffffffffffffff s (spotRead r a s).1 := by
  unfold spotRead
  split; refine Keeps.step (regRead_keeps ..) rfl ?_; exact Keeps.refl _ _; dsimp only; exact Keeps.refl _ _
  refine Keeps.step (freeRead_keeps ..) rfl ?_; exact Keeps.refl _ _; split; dsimp only
  refine Keeps.step (memUe_keeps ..) rfl ?_; exact Keeps.refl _ _; dsimp only; exact Keeps.refl _ _; dsimp only
  exact Keeps.refl _ _

theorem busRead_keeps (r) (a) (s : State) : Keeps 0x400028010ffffffffffffffff s (busRead r a s).1 := by
  unfold busRead
  split; dsimp only; refine Keeps.step (accessRefused_keeps ..) rfl ?_; exact Keeps.refl _ _; dsimp only
  refine Keeps.step (spotRead_keeps ..) rfl ?_; refine Keeps.step (wakeBlock_keeps ..) rfl ?_; exact Keeps.refl _ _

theorem readAccess_keeps (r) (a) (be) (s : State) : Keeps 0x400028030ffffffffffffffff s (readAccess r a be s) := by
  unfold readAccess
  dsimp only; refine State.emit_keeps _ ?_ ?_; exact rfl; refine Keeps.step (busRead_keeps ..) rfl ?_; exact Keeps.refl _ _

theorem fieldWrite_keeps {m : Nat} {s t : State} (hm : 0x0 &&& m = 0x0) (h : Keeps m s t) (b) (x1) (f) (hf : m.testBit f.blk = true) :
    Keeps m s (fieldWrite b x1 t f) := by
  unfold fieldWrite
  dsimp only
  split
  · exact State.set_keeps _ _ (by rw [Fld.blk_inBank]; exact hf) h
  · split
    · exact State.set_keeps _ _ (by rw [Fld.blk_inBank]; exact hf) h
    · exact h
  · exact State.set_keeps _ _ (by rw [Fld.blk_inBank]; exact hf) h
  · exact h
  · exact h
  · exact h

theorem plainWrite_keeps (r) (d) (l) (x3) (s : State) : Keeps 0xffffffffffffffff s (plainWrite r d l x3 s) := by
  unfold plainWrite
  refine Keeps.foldl (fun w e hw => ?_) ?_; refine fieldWrite_keeps (h := ?_) (hm := ?_) (hf := ?_) ..; rfl; assumption
  exact blk_all rfl _; exact Keeps.refl _ _

theorem spnCtlWrite_keeps (x0) (s : State) : Keeps 0x20009802000000200100000d0 s (spnCtlWrite x0 s) := by
  unfold spnCtlWrite
  dsimp only; split; refine Keeps.step (cmdStart_keeps ..) rfl ?_; refine Keeps.step (permitChange_keeps ..) rfl ?_
  refine State.put_keeps _ _ ?_ ?_; exact rfl; exact Keeps.refl _ _; refine Keeps.step (cmdStop_keeps ..) rfl ?_
  refine Keeps.step (permitChange_keeps ..) rfl ?_; refine State.put_keeps _ _ ?_ ?_; exact rfl; exact Keeps.refl _ _
  refine Keeps.step (cmdFloat_keeps ..) rfl ?_; refine Keeps.step (permitChange_keeps ..) rfl ?_
  refine State.put_keeps _ _ ?_ ?_; exact rfl; exact Keeps.refl _ _; refine Keeps.step (permitChange_keeps ..) rfl ?_
  refine State.put_keeps _ _ ?_ ?_; exact rfl; exact Keeps.refl _ _

theorem actCmd_keeps (a) (c) (s : State) : Keeps 0x200b7803000000200100005cc s (actCmd a c s) := by
  unfold actCmd
  split; refine Keeps.step (cmdLoad_keeps ..) rfl ?_; exact Keeps.refl _ _; refine Keeps.step (cmdUnload_keeps ..) rfl ?_
  exact Keeps.refl _ _; refine Keeps.step (cmdRetract_keeps ..) rfl ?_; exact Keeps.refl _ _; exact Keeps.refl _ _

theorem invCfgWrite_keeps (x0) (s : State) : Keeps 0x868010000002000000040c s (invCfgWrite x0 s) := by
  unfold invCfgWrite
  dsimp only; refine State.set_keeps _ _ ?_ ?_; exact rfl; refine State.set_keeps _ _ ?_ ?_; exact rfl; split
  refine Keeps.step (invarEnable_keeps ..) rfl ?_; exact Keeps.refl _ _; refine State.set_keeps _ _ ?_ ?_; exact rfl; split
  refine Keeps.step (invarDisable_keeps ..) rfl ?_; exact Keeps.refl _ _; exact Keeps.refl _ _

theorem coefWrite_keeps (a) (k) (x2) (s : State) : Keeps 0x1000000000000000000000 s (coefWrite a k x2 s) := by
  unfold coefWrite
  dsimp only; split; refine Keeps.step (modSrv_keeps ..) rfl ?_; exact Keeps.refl _ _
  refine Keeps.step (modSrv_keeps ..) rfl ?_; exact Keeps.refl _ _

theorem xccCtlWrite_keeps (x0) (s : State) : Keeps 0x100080000000020000020000 s (xccCtlWrite x0 s) := by
  unfold xccCtlWrite
  split; refine State.on_keeps _ ?_ ?_; exact rfl; exact Keeps.refl _ _; split; refine State.on_keeps _ ?_ ?_; exact rfl
  exact Keeps.refl _ _; dsimp only; split; refine Keeps.step (invAll_keeps ..) rfl ?_
  refine Keeps.step (wayDisable_keeps ..) rfl ?_; split; refine State.on_keeps _ ?_ ?_; exact rfl; exact Keeps.refl _ _
  refine Keeps.step (cacheDisable_keeps ..) rfl ?_; exact Keeps.refl _ _; refine Keeps.step (wayDisable_keeps ..) rfl ?_; split
  refine State.on_keeps _ ?_ ?_; exact rfl; exact Keeps.refl _ _; refine Keeps.step (cacheDisable_keeps ..) rfl ?_
  exact Keeps.refl _ _

theorem segCommit_keeps (r) (w1) (s : State) : Keeps 0x8100000000000400000 s (segCommit r w1 s) := by
  unfold segCommit
  dsimp only; split; refine Keeps.step (segAlloc_keeps ..) rfl ?_; exact Keeps.refl _ _
  refine Keeps.step (segAlloc_keeps ..) rfl ?_; exact Keeps.refl _ _; refine Keeps.step (segNamed_keeps ..) rfl ?_
  exact Keeps.refl _ _; refine Keeps.step (segNamed_keeps ..) rfl ?_; exact Keeps.refl _ _
  refine Keeps.step (segNamed_keeps ..) rfl ?_; exact Keeps.refl _ _; refine Keeps.step (segNamed_keeps ..) rfl ?_
  exact Keeps.refl _ _; refine Keeps.step (segNamed_keeps ..) rfl ?_; exact Keeps.refl _ _; refine State.on_keeps _ ?_ ?_
  rw [Fld.blk_of]; exact rfl; refine State.set_keeps _ _ ?_ ?_; rw [Fld.blk_of]; exact rfl
  refine Keeps.step (freeRead_keeps ..) rfl ?_; refine State.set_keeps _ _ ?_ ?_; rw [Fld.blk_of, BUF_SEG_W_blk]; exact rfl
  exact Keeps.refl _ _

theorem vltStaged_keeps (r) (w3) (s : State) : Keeps 0x20801002000000000110000c0 s (vltStaged r w3 s) := by
  unfold vltStaged
  dsimp only; refine Keeps.step (vltCommit_keeps ..) rfl ?_; exact Keeps.refl _ _

theorem dmaAsk_keeps (s : State) : Keeps 0x20001002000000000100000c0 s (dmaAsk s) := by
  unfold dmaAsk
  split; refine Keeps.step (hwAsk_keeps ..) rfl ?_; exact Keeps.refl _ _; exact Keeps.refl _ _

theorem bulEnable_keeps (s : State) : Keeps 0x20001002000000000100000c0 s (bulEnable s) := by
  unfold bulEnable
  refine Keeps.step (bulWalk_keeps ..) rfl ?_; refine Keeps.foldl (fun w e hw => ?_) ?_; split; split
  refine Keeps.step (setWait_keeps ..) rfl ?_; refine Keeps.step (setGrant_keeps ..) rfl ?_; refine State.on_keeps _ ?_ ?_
  exact rfl; assumption; assumption; assumption; exact Keeps.refl _ _

theorem bulCtlWrite_keeps (x0) (s : State) : Keeps 0x2009d802000000200100000d8 s (bulCtlWrite x0 s) := by
  unfold bulCtlWrite
  dsimp only; split; refine Keeps.step (emergency_keeps ..) rfl ?_; split; refine Keeps.step (bulEnable_keeps ..) rfl ?_
  refine State.on_keeps _ ?_ ?_; exact rfl; refine State.put_keeps _ _ ?_ ?_; exact rfl; exact Keeps.refl _ _
  refine State.put_keeps _ _ ?_ ?_; exact rfl; refine State.put_keeps _ _ ?_ ?_; exact rfl; exact Keeps.refl _ _; split
  refine Keeps.step (bulEnable_keeps ..) rfl ?_; refine State.on_keeps _ ?_ ?_; exact rfl; refine State.put_keeps _ _ ?_ ?_
  exact rfl; exact Keeps.refl _ _; refine State.put_keeps _ _ ?_ ?_; exact rfl; refine State.put_keeps _ _ ?_ ?_; exact rfl
  exact Keeps.refl _ _

theorem seCtlWrite_keeps (x0) (x1) (s : State) : Keeps 0x800000000000000004000000 s (seCtlWrite x0 x1 s) := by
  unfold seCtlWrite
  dsimp only; refine State.when_keeps _ _ (fun w hw => ?_) ?_; refine Keeps.step (engineRetire_keeps ..) rfl ?_; assumption
  refine State.when_keeps _ _ (fun w hw => ?_) ?_; refine Keeps.step (engineSpare_keeps ..) rfl ?_; assumption
  refine State.when_keeps _ _ (fun w hw => ?_) ?_; refine Keeps.step (engineResume_keeps ..) rfl ?_; assumption
  refine State.when_keeps _ _ (fun w hw => ?_) ?_; refine Keeps.step (engineHalt_keeps ..) rfl ?_; assumption
  exact Keeps.refl _ _

theorem imgWrite_keeps (r) (k) (x2) (s : State) : Keeps 0x4000000 s (imgWrite r k x2 s) := by
  unfold imgWrite
  dsimp only; split; split; refine State.set_keeps _ _ ?_ ?_; rw [ENG_ROLE_IMG_ADDR_blk]; exact rfl; exact Keeps.refl _ _
  exact Keeps.refl _ _; split; refine State.set_keeps _ _ ?_ ?_; rw [ENG_ROLE_IMG_ADDR_blk]; exact rfl; exact Keeps.refl _ _
  exact Keeps.refl _ _

theorem rstCtlWrite_keeps (x0) (s : State) : Keeps 0x7fffffffdffffffffffffffff s (rstCtlWrite x0 s) := by
  unfold rstCtlWrite
  dsimp only; split; refine Keeps.step (devReset_keeps ..) rfl ?_; refine Keeps.step (coreRelease_keeps ..) rfl ?_
  refine State.when_keeps _ _ (fun w hw => ?_) ?_; refine Keeps.step (faultRelease_keeps ..) rfl ?_; assumption
  exact Keeps.refl _ _; refine Keeps.step (coreRelease_keeps ..) rfl ?_; refine State.when_keeps _ _ (fun w hw => ?_) ?_
  refine Keeps.step (faultRelease_keeps ..) rfl ?_; assumption; exact Keeps.refl _ _

theorem tokenCheck_keeps (s : State) : Keeps 0x4000000100000100000000000 s (tokenCheck s) := by
  unfold tokenCheck
  dsimp only; refine Keeps.step (debugUnlock_keeps ..) rfl ?_; refine Keeps.step (freeRead_keeps ..) rfl ?_
  exact Keeps.refl _ _

theorem regWriteA_keeps (r) (d) (l) (x3) (s : State) : Keeps 0x200bf8030ffffffffffffffff s (regWriteA r d l x3 s) := by
  unfold regWriteA
  dsimp only; split; refine Keeps.step (invCfgWrite_keeps ..) rfl ?_; exact Keeps.refl _ _
  refine Keeps.step (skewWrite_keeps ..) rfl ?_; exact Keeps.refl _ _; split; refine Keeps.step (ringCommit_keeps ..) rfl ?_
  exact Keeps.refl _ _; refine Keeps.step (plainWrite_keeps ..) rfl ?_; exact Keeps.refl _ _
  refine Keeps.step (ringCancel_keeps ..) rfl ?_; exact Keeps.refl _ _; refine Keeps.step (quenchHold_keeps ..) rfl ?_
  refine Keeps.step (swreq_keeps ..) rfl ?_; exact Keeps.refl _ _; refine Keeps.step (quenchRel_keeps ..) rfl ?_
  exact Keeps.refl _ _; split; refine State.set_keeps _ _ ?_ ?_; exact rfl; refine Keeps.step (freeRead_keeps ..) rfl ?_
  refine Keeps.step (plainWrite_keeps ..) rfl ?_; exact Keeps.refl _ _; refine Keeps.step (plainWrite_keeps ..) rfl ?_
  exact Keeps.refl _ _; refine State.when_keeps _ _ (fun w hw => ?_) ?_; refine Keeps.step (rewritePop_keeps ..) rfl ?_
  assumption; exact Keeps.refl _ _; refine Keeps.step (spnCtlWrite_keeps ..) rfl ?_; exact Keeps.refl _ _
  refine Keeps.step (targetWrite_keeps ..) rfl ?_; exact Keeps.refl _ _; split; refine Keeps.step (plainWrite_keeps ..) rfl ?_
  exact Keeps.refl _ _; refine Keeps.step (spnRefuse_keeps ..) rfl ?_; exact Keeps.refl _ _
  refine Keeps.step (spnJWrite_keeps ..) rfl ?_; exact Keeps.refl _ _; refine Keeps.step (plainWrite_keeps ..) rfl ?_; split
  refine Keeps.step (servoEnable_keeps ..) rfl ?_; exact Keeps.refl _ _; split; refine Keeps.step (servoDisable_keeps ..) rfl ?_
  exact Keeps.refl _ _; exact Keeps.refl _ _; refine Keeps.step (headSelect_keeps ..) rfl ?_; exact Keeps.refl _ _; split
  refine Keeps.step (seekGo_keeps ..) rfl ?_; exact Keeps.refl _ _; refine Keeps.step (plainWrite_keeps ..) rfl ?_
  exact Keeps.refl _ _; refine State.when_keeps _ _ (fun w hw => ?_) ?_; refine Keeps.step (coefSwap_keeps ..) rfl ?_
  assumption; exact Keeps.refl _ _; refine Keeps.step (coefWrite_keeps ..) rfl ?_; exact Keeps.refl _ _; split
  refine Keeps.step (paCmdGo_keeps ..) rfl ?_; exact Keeps.refl _ _; refine Keeps.step (plainWrite_keeps ..) rfl ?_
  exact Keeps.refl _ _; refine Keeps.step (actCmd_keeps ..) rfl ?_; refine Keeps.step (actCmd_keeps ..) rfl ?_
  exact Keeps.refl _ _; refine Keeps.step (plainWrite_keeps ..) rfl ?_; exact Keeps.refl _ _

theorem regWriteB_keeps (r) (d) (l) (x3) (s : State) : Keeps 0x20391802cffffffffffffffff s (regWriteB r d l x3 s) := by
  unfold regWriteB
  dsimp only; split; split; refine State.on_keeps _ ?_ ?_; rw [WCH_CTL_WR_ACTIVE_blk]; exact rfl
  refine State.set_keeps _ _ ?_ ?_; rw [WCH_CTL_RW_LIM_blk]; exact rfl; refine State.put_keeps _ _ ?_ ?_
  rw [WCH_CTL_EN_blk]; exact rfl; exact Keeps.refl _ _; split; refine Keeps.step (wrActiveClear_keeps ..) rfl ?_
  refine State.set_keeps _ _ ?_ ?_; rw [WCH_CTL_RW_LIM_blk]; exact rfl; refine State.put_keeps _ _ ?_ ?_
  rw [WCH_CTL_EN_blk]; exact rfl; exact Keeps.refl _ _; refine State.set_keeps _ _ ?_ ?_; rw [WCH_CTL_RW_LIM_blk]; exact rfl
  refine State.put_keeps _ _ ?_ ?_; rw [WCH_CTL_EN_blk]; exact rfl; exact Keeps.refl _ _; split
  refine Keeps.step (writeDescriptorCommit_keeps ..) rfl ?_; exact Keeps.refl _ _
  refine Keeps.step (plainWrite_keeps ..) rfl ?_; exact Keeps.refl _ _; refine State.when_keeps _ _ (fun w hw => ?_) ?_
  refine Keeps.step (modWch_keeps ..) rfl ?_; assumption; exact Keeps.refl _ _; refine State.when_keeps _ _ (fun w hw => ?_) ?_
  refine Keeps.step (wchTpClear_keeps ..) rfl ?_; assumption; refine State.when_keeps _ _ (fun w hw => ?_) ?_
  refine Keeps.step (wchTpRestore_keeps ..) rfl ?_; assumption; refine State.when_keeps _ _ (fun w hw => ?_) ?_
  refine Keeps.step (wchTpSave_keeps ..) rfl ?_; assumption; exact Keeps.refl _ _; refine Keeps.step (rchEnable_keeps ..) rfl ?_
  refine State.set_keeps _ _ ?_ ?_; rw [RCH_CTL_EN_blk]; exact rfl; refine Keeps.step (plainWrite_keeps ..) rfl ?_
  exact Keeps.refl _ _; split; refine Keeps.step (readDescriptorCommit_keeps ..) rfl ?_; exact Keeps.refl _ _
  refine Keeps.step (plainWrite_keeps ..) rfl ?_; exact Keeps.refl _ _; refine State.when_keeps _ _ (fun w hw => ?_) ?_
  refine Keeps.step (modRch_keeps ..) rfl ?_; assumption; exact Keeps.refl _ _; split
  refine Keeps.step (activeSetLoad_keeps ..) rfl ?_; exact Keeps.refl _ _; refine Keeps.step (plainWrite_keeps ..) rfl ?_
  exact Keeps.refl _ _; split; exact Keeps.refl _ _; refine State.when_keeps _ _ (fun w hw => ?_) ?_
  refine Keeps.step (unpinSlot_keeps ..) rfl ?_; assumption; refine State.when_keeps _ _ (fun w hw => ?_) ?_
  refine Keeps.step (pinSlot_keeps ..) rfl ?_; assumption; refine Keeps.step (plainWrite_keeps ..) rfl ?_; exact Keeps.refl _ _
  refine State.when_keeps _ _ (fun w hw => ?_) ?_; refine Keeps.step (rebuild_keeps ..) rfl ?_; assumption
  refine State.when_keeps _ _ (fun w hw => ?_) ?_; refine Keeps.step (rchTpClear_keeps ..) rfl ?_; assumption
  refine State.when_keeps _ _ (fun w hw => ?_) ?_; refine Keeps.step (rchTpRestore_keeps ..) rfl ?_; assumption
  refine State.when_keeps _ _ (fun w hw => ?_) ?_; refine Keeps.step (rchTpSave_keeps ..) rfl ?_; assumption
  refine Keeps.step (plainWrite_keeps ..) rfl ?_; exact Keeps.refl _ _; refine Keeps.step (decoderRebind_keeps ..) rfl ?_
  exact Keeps.refl _ _; refine Keeps.step (xbarWrite_keeps ..) rfl ?_; exact Keeps.refl _ _
  refine Keeps.step (deepJobCommit_keeps ..) rfl ?_; exact Keeps.refl _ _; refine State.when_keeps _ _ (fun w hw => ?_) ?_
  refine Keeps.step (modDeep_keeps ..) rfl ?_; assumption; exact Keeps.refl _ _; split
  refine Keeps.step (plainWrite_keeps ..) rfl ?_; exact Keeps.refl _ _; refine State.set_keeps _ _ ?_ ?_; exact rfl
  refine Keeps.step (plainWrite_keeps ..) rfl ?_; exact Keeps.refl _ _; split; refine Keeps.step (tprSend_keeps ..) rfl ?_
  exact Keeps.refl _ _; refine Keeps.step (plainWrite_keeps ..) rfl ?_; exact Keeps.refl _ _
  refine Keeps.step (plainWrite_keeps ..) rfl ?_; exact Keeps.refl _ _

theorem regWriteC_keeps (r) (d) (l) (x3) (s : State) : Keeps 0x35c01883cffffffffffffffff s (regWriteC r d l x3 s) := by
  unfold regWriteC
  dsimp only; split; split; exact Keeps.refl _ _; refine Keeps.step (plainWrite_keeps ..) rfl ?_; exact Keeps.refl _ _; split
  exact Keeps.refl _ _; refine Keeps.step (plainWrite_keeps ..) rfl ?_; exact Keeps.refl _ _; split; exact Keeps.refl _ _
  refine Keeps.step (plainWrite_keeps ..) rfl ?_; exact Keeps.refl _ _; split; exact Keeps.refl _ _
  refine Keeps.step (plainWrite_keeps ..) rfl ?_; exact Keeps.refl _ _; split; refine Keeps.step (lookupCommit_keeps ..) rfl ?_
  exact Keeps.refl _ _; refine Keeps.step (plainWrite_keeps ..) rfl ?_; exact Keeps.refl _ _
  refine Keeps.step (recordCommit_keeps ..) rfl ?_; exact Keeps.refl _ _; refine State.when_keeps _ _ (fun w hw => ?_) ?_
  refine Keeps.step (modXlt_keeps ..) rfl ?_; assumption; exact Keeps.refl _ _; refine Keeps.step (xccCtlWrite_keeps ..) rfl ?_
  exact Keeps.refl _ _; split; refine Keeps.step (rangeInvalidate_keeps ..) rfl ?_; exact Keeps.refl _ _
  refine Keeps.step (plainWrite_keeps ..) rfl ?_; exact Keeps.refl _ _; split; split
  refine Keeps.step (lineUnlock_keeps ..) rfl ?_; exact Keeps.refl _ _; refine Keeps.step (lineLock_keeps ..) rfl ?_
  exact Keeps.refl _ _; refine Keeps.step (plainWrite_keeps ..) rfl ?_; exact Keeps.refl _ _
  refine Keeps.step (cmpAbort_keeps ..) rfl ?_; refine Keeps.step (cmpControl_keeps ..) rfl ?_; exact Keeps.refl _ _; split
  refine Keeps.step (cmpJobCommit_keeps ..) rfl ?_; exact Keeps.refl _ _; refine Keeps.step (plainWrite_keeps ..) rfl ?_
  exact Keeps.refl _ _; refine State.when_keeps _ _ (fun w hw => ?_) ?_; refine Keeps.upd_cmp _ ?_ ?_; exact rfl; assumption
  exact Keeps.refl _ _; refine Keeps.step (letIn_keeps ..) rfl ?_; refine Keeps.step (plainWrite_keeps ..) rfl ?_
  exact Keeps.refl _ _; refine Keeps.step (dmaAsk_keeps ..) rfl ?_; refine Keeps.step (plainWrite_keeps ..) rfl ?_
  exact Keeps.refl _ _; split; exact Keeps.refl _ _; refine Keeps.step (plainWrite_keeps ..) rfl ?_; exact Keeps.refl _ _; split
  exact Keeps.refl _ _; refine Keeps.step (plainWrite_keeps ..) rfl ?_; exact Keeps.refl _ _
  refine withCap_keeps (h := ?_) (hm := ?_) (hf := fun w hw => ?_) ..; rfl; exact Keeps.refl _ _
  refine Keeps.step (plainWrite_keeps ..) rfl ?_; assumption
  refine withCap_keeps (h := ?_) (hm := ?_) (hf := fun w hw => ?_) ..; rfl; exact Keeps.refl _ _
  refine Keeps.step (plainWrite_keeps ..) rfl ?_; assumption; split; refine Keeps.step (segCommit_keeps ..) rfl ?_
  exact Keeps.refl _ _; refine Keeps.step (plainWrite_keeps ..) rfl ?_; exact Keeps.refl _ _; split
  refine Keeps.step (dmaStart_keeps ..) rfl ?_; exact Keeps.refl _ _; refine Keeps.step (plainWrite_keeps ..) rfl ?_
  exact Keeps.refl _ _; split; refine Keeps.step (rowRepair_keeps ..) rfl ?_; exact Keeps.refl _ _
  refine Keeps.step (plainWrite_keeps ..) rfl ?_; exact Keeps.refl _ _
  refine withCap_keeps (h := ?_) (hm := ?_) (hf := fun w hw => ?_) ..; rfl; exact Keeps.refl _ _
  refine Keeps.step (plainWrite_keeps ..) rfl ?_; assumption; split; refine Keeps.step (vltAsk_keeps ..) rfl ?_
  refine Keeps.step (plainWrite_keeps ..) rfl ?_; exact Keeps.refl _ _; refine Keeps.step (plainWrite_keeps ..) rfl ?_
  exact Keeps.refl _ _; split; refine Keeps.step (vltStaged_keeps ..) rfl ?_; exact Keeps.refl _ _
  refine Keeps.step (plainWrite_keeps ..) rfl ?_; exact Keeps.refl _ _; refine State.when_keeps _ _ (fun w hw => ?_) ?_
  refine Keeps.step (modVlt_keeps ..) rfl ?_; assumption; exact Keeps.refl _ _; refine Keeps.step (plainWrite_keeps ..) rfl ?_
  exact Keeps.refl _ _

theorem regWriteD_keeps (r) (d) (l) (x3) (s : State) : Keeps 0x3a3bfb430ffffffffffffffff s (regWriteD r d l x3 s) := by
  unfold regWriteD
  dsimp only; split; split; refine State.on_keeps _ ?_ ?_; exact rfl; refine State.when_keeps _ _ (fun w hw => ?_) ?_
  refine State.put_keeps _ _ ?_ ?_; exact rfl; assumption; exact Keeps.refl _ _; split
  refine Keeps.step (enginesDisable_keeps ..) rfl ?_; refine State.when_keeps _ _ (fun w hw => ?_) ?_
  refine State.put_keeps _ _ ?_ ?_; exact rfl; assumption; exact Keeps.refl _ _; refine State.when_keeps _ _ (fun w hw => ?_) ?_
  refine State.put_keeps _ _ ?_ ?_; exact rfl; assumption; exact Keeps.refl _ _; refine Keeps.step (migWrite_keeps ..) rfl ?_
  exact Keeps.refl _ _; refine Keeps.step (seCtlWrite_keeps ..) rfl ?_; exact Keeps.refl _ _
  refine Keeps.step (imgWrite_keeps ..) rfl ?_; exact Keeps.refl _ _; refine State.when_keeps _ _ (fun w hw => ?_) ?_
  refine Keeps.step (roleStart_keeps ..) rfl ?_; assumption; exact Keeps.refl _ _
  refine Keeps.step (roleDoorbell_keeps ..) rfl ?_; exact Keeps.refl _ _; refine Keeps.step (bulCtlWrite_keeps ..) rfl ?_
  exact Keeps.refl _ _; split; refine budgetWrite_keeps (h := ?_) (hm := ?_) (hf := ?_) ..; rfl
  refine budgetWrite_keeps (h := ?_) (hm := ?_) (hf := ?_) ..; rfl; exact Keeps.refl _ _; exact rfl; exact rfl
  exact Keeps.refl _ _; refine Keeps.step (permitCommit_keeps ..) rfl ?_; exact Keeps.refl _ _
  refine State.when_keeps _ _ (fun w hw => ?_) ?_; refine Keeps.step (emergencyClear_keeps ..) rfl ?_; assumption
  refine Keeps.step (plainWrite_keeps ..) rfl ?_; exact Keeps.refl _ _; refine Keeps.step (leaseWrite_keeps ..) rfl ?_
  exact Keeps.refl _ _; refine Keeps.step (pwrReqWrite_keeps ..) rfl ?_; exact Keeps.refl _ _; split
  refine Keeps.step (monWrite_keeps ..) rfl ?_; exact Keeps.refl _ _; exact Keeps.refl _ _
  refine Keeps.step (muxWrite_keeps ..) rfl ?_; exact Keeps.refl _ _; refine Keeps.step (muxForce_keeps ..) rfl ?_
  exact Keeps.refl _ _; refine Keeps.step (pllWrite_keeps ..) rfl ?_; refine State.when_keeps _ _ (fun w hw => ?_) ?_
  refine State.set_keeps _ _ ?_ ?_; rw [CLK_PLL_FREQ_MHZ_blk]; exact rfl; assumption; exact Keeps.refl _ _; split
  refine State.on_keeps _ ?_ ?_; rw [CLK_CHSYN_EN_blk]; exact rfl; exact Keeps.refl _ _
  refine Keeps.step (synthOut_keeps ..) rfl ?_; refine State.off_keeps _ ?_ ?_; rw [CLK_CHSYN_EN_blk]; exact rfl
  exact Keeps.refl _ _; refine Keeps.step (gateForce_keeps ..) rfl ?_; exact Keeps.refl _ _
  refine State.when_keeps _ _ (fun w hw => ?_) ?_; refine Keeps.step (thmResume_keeps ..) rfl ?_; assumption
  refine Keeps.step (plainWrite_keeps ..) rfl ?_; exact Keeps.refl _ _; refine Keeps.step (calDone_keeps ..) rfl ?_
  exact Keeps.refl _ _; refine Keeps.step (calAccWrite_keeps ..) rfl ?_; exact Keeps.refl _ _
  refine Keeps.step (calApply_keeps ..) rfl ?_; exact Keeps.refl _ _; refine Keeps.step (plainWrite_keeps ..) rfl ?_
  exact Keeps.refl _ _

theorem regWriteE_keeps (r) (d) (l) (x3) (s : State) : Keeps 0x7fffffffdffffffffffffffff s (regWriteE r d l x3 s) := by
  unfold regWriteE
  dsimp only; split; refine Keeps.step (chsubWrite_keeps ..) rfl ?_; exact Keeps.refl _ _
  refine Keeps.step (opsecWrite_keeps ..) rfl ?_; exact Keeps.refl _ _; refine Keeps.step (patSwWrite_keeps ..) rfl ?_
  exact Keeps.refl _ _; split; refine Keeps.step (portEnable_keeps ..) rfl ?_; refine Keeps.step (portEnable_keeps ..) rfl ?_
  refine Keeps.step (portEnable_keeps ..) rfl ?_; refine Keeps.step (portEnable_keeps ..) rfl ?_; refine State.on_keeps _ ?_ ?_
  exact rfl; exact Keeps.refl _ _; refine State.when_keeps _ _ (fun w hw => ?_) ?_
  refine Keeps.step (sldDisable_keeps ..) rfl ?_; assumption; exact Keeps.refl _ _; split; exact Keeps.refl _ _
  refine Keeps.step (plainWrite_keeps ..) rfl ?_; exact Keeps.refl _ _; split; refine Keeps.step (mailboxCommit_keeps ..) rfl ?_
  exact Keeps.refl _ _; refine Keeps.step (plainWrite_keeps ..) rfl ?_; exact Keeps.refl _ _; split
  refine Keeps.step (messageSend_keeps ..) rfl ?_; exact Keeps.refl _ _; refine Keeps.step (plainWrite_keeps ..) rfl ?_
  exact Keeps.refl _ _; refine State.when_keeps _ _ (fun w hw => ?_) ?_; refine Keeps.step (modSld_keeps ..) rfl ?_; assumption
  exact Keeps.refl _ _; split; refine Keeps.step (copyCommit_keeps ..) rfl ?_; exact Keeps.refl _ _
  refine Keeps.step (plainWrite_keeps ..) rfl ?_; exact Keeps.refl _ _; refine State.when_keeps _ _ (fun w hw => ?_) ?_
  refine Keeps.step (modSld_keeps ..) rfl ?_; assumption; exact Keeps.refl _ _; split
  refine Keeps.step (portEnable_keeps ..) rfl ?_; refine State.on_keeps _ ?_ ?_; rw [SLD_P_CTL_EN_blk]; exact rfl
  refine State.put_keeps _ _ ?_ ?_; rw [SLD_P_CTL_PRBS_blk]; exact rfl; exact Keeps.refl _ _
  refine State.when_keeps _ _ (fun w hw => ?_) ?_; refine Keeps.step (portOff_keeps ..) rfl ?_; assumption
  refine State.put_keeps _ _ ?_ ?_; rw [SLD_P_CTL_PRBS_blk]; exact rfl; exact Keeps.refl _ _
  refine State.when_keeps _ _ (fun w hw => ?_) ?_; refine Keeps.step (configLock_keeps ..) rfl ?_; assumption
  exact Keeps.refl _ _; split; refine Keeps.step (fuseCmd_keeps ..) rfl ?_; exact Keeps.refl _ _
  refine Keeps.step (plainWrite_keeps ..) rfl ?_; exact Keeps.refl _ _; refine State.when_keeps _ _ (fun w hw => ?_) ?_
  refine Keeps.step (imageVerify_keeps ..) rfl ?_; assumption; exact Keeps.refl _ _
  refine State.when_keeps _ _ (fun w hw => ?_) ?_; refine Keeps.step (attStart_keeps ..) rfl ?_; assumption
  exact Keeps.refl _ _; split; refine Keeps.step (keyCmd_keeps ..) rfl ?_; exact Keeps.refl _ _
  refine Keeps.step (plainWrite_keeps ..) rfl ?_; exact Keeps.refl _ _; refine State.when_keeps _ _ (fun w hw => ?_) ?_
  refine Keeps.step (tokenCheck_keeps ..) rfl ?_; assumption; refine Keeps.step (plainWrite_keeps ..) rfl ?_
  exact Keeps.refl _ _; refine Keeps.step (rstCtlWrite_keeps ..) rfl ?_; exact Keeps.refl _ _
  refine State.when_keeps _ _ (fun w hw => ?_) ?_; refine Keeps.step (watchdogKick_keeps ..) rfl ?_; assumption
  exact Keeps.refl _ _; refine Keeps.step (plainWrite_keeps ..) rfl ?_; exact Keeps.refl _ _

theorem regWrite_keeps (r) (d) (l) (x3) (s : State) : Keeps 0x7fffffffdffffffffffffffff s (regWrite r d l x3 s) := by
  unfold regWrite
  split; refine Keeps.step (regWriteA_keeps ..) rfl ?_; exact Keeps.refl _ _; split; split
  refine Keeps.step (rateZoneWrite_keeps ..) rfl ?_; exact Keeps.refl _ _; refine Keeps.step (rateZoneWrite_keeps ..) rfl ?_
  exact Keeps.refl _ _; refine Keeps.step (rateZoneWrite_keeps ..) rfl ?_; exact Keeps.refl _ _
  refine Keeps.step (rateZoneWrite_keeps ..) rfl ?_; exact Keeps.refl _ _; refine Keeps.step (regWriteB_keeps ..) rfl ?_
  exact Keeps.refl _ _; split; refine Keeps.step (regWriteC_keeps ..) rfl ?_; exact Keeps.refl _ _; split
  refine Keeps.step (regWriteD_keeps ..) rfl ?_; exact Keeps.refl _ _; refine Keeps.step (regWriteE_keeps ..) rfl ?_
  exact Keeps.refl _ _

theorem spotWrite_keeps (r) (a) (x2) (s : State) : Keeps 0x7fffffffdffffffffffffffff s (spotWrite r a x2 s) := by
  unfold spotWrite
  split; refine Keeps.step (regWrite_keeps ..) rfl ?_; exact Keeps.refl _ _; refine Keeps.step (csWindowWrite_keeps ..) rfl ?_
  exact Keeps.refl _ _; exact Keeps.refl _ _

theorem busWrite_keeps (r) (a) (x2) (be) (s : State) : Keeps 0x7fffffffdffffffffffffffff s (busWrite r a x2 be s).1 := by
  unfold busWrite
  split; dsimp only; refine Keeps.step (accessRefused_keeps ..) rfl ?_; exact Keeps.refl _ _; dsimp only; split
  refine Keeps.step (spotWrite_keeps ..) rfl ?_; refine Keeps.step (wakeBlock_keeps ..) rfl ?_; exact Keeps.refl _ _
  refine Keeps.step (wakeBlock_keeps ..) rfl ?_; exact Keeps.refl _ _

theorem execRegisterWrite_keeps (r) (a) (x2) (be) (s : State) :
    KeepsRes 0x7fffffffdffffffffffffffff s (execRegisterWrite r a x2 be s) := by
  unfold execRegisterWrite
  refine KeepsRes.next ?_; refine live_keeps _ (fun w hw => ?_) ?_; refine Keeps.step (busWrite_keeps ..) rfl ?_; assumption
  exact Keeps.refl _ _

theorem execReadClear_keeps (r) (a) (be) (s : State) : KeepsRes 0x400028030ffffffffffffffff s (execReadClear r a be s) := by
  unfold execReadClear
  refine KeepsRes.next ?_; refine live_keeps _ (fun w hw => ?_) ?_; refine Keeps.step (readAccess_keeps ..) rfl ?_; assumption
  exact Keeps.refl _ _

theorem execCaptureRead_keeps (r) (wall) (s : State) : KeepsRes 0x400028030ffffffffffffffff s (execCaptureRead r wall s) := by
  unfold execCaptureRead
  refine KeepsRes.next ?_; refine live_keeps _ (fun w hw => ?_) ?_; refine Keeps.step (readAccess_keeps ..) rfl ?_; assumption
  exact Keeps.refl _ _

theorem errorAccess_keeps (e) (r) (wr) (a) (s : State) : Keeps 0x80200000020000000001 s (errorAccess e r wr a s) := by
  unfold errorAccess
  split; dsimp only; split; refine Keeps.step (accessRefused_keeps ..) rfl ?_; exact Keeps.refl _ _
  refine State.emit_keeps _ ?_ ?_; exact rfl; refine Keeps.step (accessRefused_keeps ..) rfl ?_; exact Keeps.refl _ _
  exact Keeps.refl _ _

theorem execUnmappedAccess_keeps (r) (wr) (a) (s : State) : KeepsRes 0x80200000020000000001 s (execUnmappedAccess r wr a s) := by
  unfold execUnmappedAccess
  refine KeepsRes.next ?_; refine live_keeps _ (fun w hw => ?_) ?_; refine Keeps.step (errorAccess_keeps ..) rfl ?_; assumption
  exact Keeps.refl _ _

theorem execBlockDownAccess_keeps (r) (wr) (a) (s : State) : KeepsRes 0x80200000020000000001 s (execBlockDownAccess r wr a s) := by
  unfold execBlockDownAccess
  refine KeepsRes.next ?_; refine live_keeps _ (fun w hw => ?_) ?_; refine Keeps.step (errorAccess_keeps ..) rfl ?_; assumption
  exact Keeps.refl _ _

theorem execHostAccessRefused_keeps (wr) (a) (s : State) : KeepsRes 0x80200000020000000001 s (execHostAccessRefused wr a s) := by
  unfold execHostAccessRefused
  refine KeepsRes.next ?_; refine live_keeps _ (fun w hw => ?_) ?_; refine Keeps.step (errorAccess_keeps ..) rfl ?_; assumption
  exact Keeps.refl _ _

theorem busBlock_keeps (a) (x1) (s : State) : Keeps 0x400028010ffffffffffffffff s (busBlock a x1 s).1 := by
  induction x1 generalizing s a with
  | zero =>
    unfold busBlock
    dsimp only; exact Keeps.refl _ _
  | succ k ih =>
    unfold busBlock
    dsimp only; refine Keeps.step (ih ..) rfl ?_; refine Keeps.step (busRead_keeps ..) rfl ?_; exact Keeps.refl _ _

theorem busStore_keeps (a) (x1) (s : State) : Keeps 0x7fffffffdffffffffffffffff s (busStore a x1 s) := by
  induction x1 generalizing s a with
  | nil =>
    unfold busStore
    exact Keeps.refl _ _
  | cons e l ih =>
    unfold busStore
    refine Keeps.step (ih ..) rfl ?_; refine Keeps.step (busWrite_keeps ..) rfl ?_; exact Keeps.refl _ _

theorem dmaBlock_keeps (j) (src) (dst) (s : State) : Keeps 0x7fffffffdffffffffffffffff s (dmaBlock j src dst s) := by
  unfold dmaBlock
  dsimp only; split; refine Keeps.step (busStore_keeps ..) rfl ?_; split; dsimp only; exact Keeps.refl _ _; split
  refine Keeps.step (busBlock_keeps ..) rfl ?_; exact Keeps.refl _ _; dsimp only; exact Keeps.refl _ _
  refine Keeps.step (State.dramWrite_keeps ..) rfl ?_; split; dsimp only; exact Keeps.refl _ _; split
  refine Keeps.step (busBlock_keeps ..) rfl ?_; exact Keeps.refl _ _; dsimp only; exact Keeps.refl _ _

theorem dmaMove_keeps (j) (x1) (src) (dst) (s : State) : Keeps 0x7fffffffdffffffffffffffff s (dmaMove j x1 src dst s).1 := by
  induction x1 generalizing s src dst with
  | zero =>
    unfold dmaMove
    dsimp only; exact Keeps.refl _ _
  | succ k ih =>
    unfold dmaMove
    split; dsimp only; split; exact Keeps.refl _ _; refine Keeps.step (dramUe_keeps ..) rfl ?_; exact Keeps.refl _ _
    refine Keeps.step (ih ..) rfl ?_; refine Keeps.step (dmaBlock_keeps ..) rfl ?_; exact Keeps.refl _ _

theorem dmaEnd_keeps (c) (s : State) : Keeps 0x7fffffffdffffffffffffffff s (dmaEnd c s) := by
  unfold dmaEnd
  dsimp only; split; split; refine State.onBit_keeps _ _ ?_ ?_; exact rfl; refine State.off_keeps _ ?_ ?_
  rw [BUF_DMA_CTL_GO_blk]; exact rfl; refine Keeps.step (dmaMove_keeps ..) rfl ?_; exact Keeps.refl _ _
  refine Keeps.step (patTrig_keeps ..) rfl ?_; refine State.on_keeps _ ?_ ?_; exact rfl; refine State.set_keeps _ _ ?_ ?_
  rw [BUF_DMA_LEN_BLOCKS_blk]; exact rfl; refine State.set_keeps _ _ ?_ ?_; rw [BUF_DMA_DST_ADDR_blk]; exact rfl
  refine State.set_keeps _ _ ?_ ?_; rw [BUF_DMA_SRC_ADDR_blk]; exact rfl; refine State.on_keeps _ ?_ ?_
  rw [BUF_DMA_CTL_HALTED_blk]; exact rfl; refine State.off_keeps _ ?_ ?_; rw [BUF_DMA_CTL_GO_blk]; exact rfl
  refine Keeps.step (dmaMove_keeps ..) rfl ?_; exact Keeps.refl _ _; exact Keeps.refl _ _

theorem execDmaJobEnd_keeps (c) (s : State) : KeepsRes 0x7fffffffdffffffffffffffff s (execDmaJobEnd c s) := by
  unfold execDmaJobEnd
  refine KeepsRes.next ?_; refine live_keeps _ (fun w hw => ?_) ?_; refine Keeps.step (dmaEnd_keeps ..) rfl ?_; assumption
  exact Keeps.refl _ _

theorem mailboxServe_keeps (p) (src) (tag) (wr) (a) (x5) (s : State) :
    Keeps 0x7fffffffdffffffffffffffff s (mailboxServe p src tag wr a x5 s) := by
  unfold mailboxServe
  dsimp only; split; refine Keeps.step (sldSend_keeps ..) rfl ?_; refine Keeps.step (patTrig_keeps ..) rfl ?_
  refine State.on_keeps _ ?_ ?_; exact rfl; exact Keeps.refl _ _; split; refine Keeps.step (sldSend_keeps ..) rfl ?_
  refine Keeps.step (busWrite_keeps ..) rfl ?_; exact Keeps.refl _ _; refine Keeps.step (sldSend_keeps ..) rfl ?_
  refine Keeps.step (busRead_keeps ..) rfl ?_; exact Keeps.refl _ _

theorem execMbReq_keeps (p) (r) (src) (tag) (wr) (addr) (data) (s : State) :
    KeepsRes 0x7fffffffdffffffffffffffff s (execMbReq p r src tag wr addr data s) := by
  unfold execMbReq
  refine KeepsRes.next ?_; refine live_keeps _ (fun w hw => ?_) ?_
  refine rxDo_keeps (h := ?_) (hm := ?_) (hf := fun w hw => ?_) ..; rfl; assumption
  refine Keeps.step (mailboxServe_keeps ..) rfl ?_; assumption; exact Keeps.refl _ _

end Sys2Proof.Machine
end

