-- ==== Sys2Proof/Laws/Keeps/HostNvm.lean ====
section
/-!
SUPPORT. What each operation of Machine/HostNvm.lean keeps: the mask names the register blocks (bits 0 to 63) and the parts of State (bit
64 on) that the operation may change; everything outside it stays.
-/
namespace Sys2Proof.Machine

theorem ioDo_keeps {m : Nat} {s t : State} (hm : 0x0 &&& m = 0x0) (h : Keeps m s t) (c) (q) (i) (opc) (f) (hf : ∀ a0 w, Keeps m s w → Keeps m s (f a0 w)) :
    Keeps m s (ioDo c q i opc f t) := by
  unfold ioDo; split; split; refine hf _ _ ?_; assumption; assumption; assumption

theorem ioOut__keeps (x) (st) (s : State) : Keeps 0x1000000000000000000000000 s (ioOut_ x st s) := by
  unfold ioOut_; refine Keeps.step (setOut_keeps ..) rfl ?_; exact Keeps.refl _ _

theorem ioFail_keeps (x) (st) (lba) (s : State) : Keeps 0x1000000000000000000000000 s (ioFail x st lba s) := by
  unfold ioFail; refine Keeps.step (modCmd_keeps ..) rfl ?_; exact Keeps.refl _ _

theorem readDo_keeps {m : Nat} {s t : State} (hm : 0x1000000000000000000000000 &&& m = 0x1000000000000000000000000) (h : Keeps m s t) (x) (media) (err) (use) (huse : ∀ a0 w, Keeps m s w → Keeps m s (use a0 w)) :
    Keeps m s (readDo x media err use t) := by
  unfold readDo
  split; refine Keeps.step' hm (ioOut__keeps ..) rfl ?_; assumption; split; refine Keeps.step' hm (ioFail_keeps ..) rfl ?_
  assumption; refine huse _ _ ?_; assumption

theorem read_keeps (media) (err) (x) (s : State) : Keeps 0x1000000200000000000000000 s (read media err x s) := by
  unfold read
  refine readDo_keeps (h := ?_) (hm := ?_) (huse := fun a0 w hw => ?_) ..; rfl; exact Keeps.refl _ _
  refine Keeps.step (ioOut__keeps ..) rfl ?_; refine State.emit_keeps _ ?_ ?_; exact rfl; assumption

theorem execRead_keeps (c) (q) (i) (media) (err) (s : State) :
    KeepsRes 0x1000000200000000000000000 s (execRead c q i media err s) := by
  unfold execRead
  refine KeepsRes.next ?_; refine live_keeps _ (fun w hw => ?_) ?_
  refine ioDo_keeps (h := ?_) (hm := ?_) (hf := fun a0 w hw => ?_) ..; rfl; assumption; refine Keeps.step (read_keeps ..) rfl ?_
  assumption; exact Keeps.refl _ _

theorem compare__keeps (media) (data) (err) (x) (s : State) :
    Keeps 0x1000000000000000000000000 s (compare_ media data err x s) := by
  unfold compare_
  refine readDo_keeps (h := ?_) (hm := ?_) (huse := fun a0 w hw => ?_) ..; rfl; exact Keeps.refl _ _
  refine Keeps.step (ioOut__keeps ..) rfl ?_; assumption

theorem execCompare_keeps (c) (q) (i) (media) (data) (err) (s : State) :
    KeepsRes 0x1000000000000000000000000 s (execCompare c q i media data err s) := by
  unfold execCompare
  refine KeepsRes.next ?_; refine live_keeps _ (fun w hw => ?_) ?_
  refine ioDo_keeps (h := ?_) (hm := ?_) (hf := fun a0 w hw => ?_) ..; rfl; assumption
  refine Keeps.step (compare__keeps ..) rfl ?_; assumption; exact Keeps.refl _ _

theorem verify_keeps (media) (err) (x) (s : State) : Keeps 0x1000000000000000000000000 s (verify media err x s) := by
  unfold verify
  refine readDo_keeps (h := ?_) (hm := ?_) (huse := fun a0 w hw => ?_) ..; rfl; exact Keeps.refl _ _
  refine Keeps.step (ioOut__keeps ..) rfl ?_; assumption

theorem execVerify_keeps (c) (q) (i) (media) (err) (s : State) :
    KeepsRes 0x1000000000000000000000000 s (execVerify c q i media err s) := by
  unfold execVerify
  refine KeepsRes.next ?_; refine live_keeps _ (fun w hw => ?_) ?_
  refine ioDo_keeps (h := ?_) (hm := ?_) (hf := fun a0 w hw => ?_) ..; rfl; assumption
  refine Keeps.step (verify_keeps ..) rfl ?_; assumption; exact Keeps.refl _ _

theorem placed_keeps (x) (units) (dw0) (s : State) : Keeps 0x1000000000000000000000000 s (placed x units dw0 s) := by
  unfold placed; refine Keeps.step (modCmd_keeps ..) rfl ?_; exact Keeps.refl _ _

theorem storeSectors_keeps (ns) (x1) (lba) (x3) (s : State) : Keeps 0xc0000000000800000 s (storeSectors ns x1 lba x3 s) := by
  induction x1 generalizing s lba x3 with
  | nil =>
    unfold storeSectors
    exact Keeps.refl _ _
  | cons e l ih =>
    unfold storeSectors
    refine Keeps.step (ih ..) rfl ?_; refine Keeps.step (State.dramWrite_keeps ..) rfl ?_; exact Keeps.refl _ _

theorem writeAt_keeps (x) (alba) (dw0) (data) (recs) (err) (append) (s : State) :
    Keeps 0x13000000c0000000000810000 s (writeAt x alba dw0 data recs err append s) := by
  unfold writeAt
  dsimp only; split; refine Keeps.step (ioOut__keeps ..) rfl ?_; exact Keeps.refl _ _; split
  refine Keeps.step (ioOut__keeps ..) rfl ?_; exact Keeps.refl _ _; split; refine Keeps.step (placed_keeps ..) rfl ?_
  refine Keeps.step (storeSectors_keeps ..) rfl ?_; refine Keeps.step (recordsApply_keeps ..) rfl ?_; exact Keeps.refl _ _
  exact Keeps.refl _ _

theorem execWrite_keeps (c) (q) (i) (data) (recs) (err) (s : State) :
    KeepsRes 0x13000000c0000000000810000 s (execWrite c q i data recs err s) := by
  unfold execWrite
  refine KeepsRes.next ?_; refine live_keeps _ (fun w hw => ?_) ?_
  refine ioDo_keeps (h := ?_) (hm := ?_) (hf := fun a0 w hw => ?_) ..; rfl; assumption
  refine Keeps.step (writeAt_keeps ..) rfl ?_; assumption; exact Keeps.refl _ _

theorem zoneAppend_keeps (data) (recs) (err) (x) (s : State) :
    Keeps 0x13000000c0000000000810000 s (zoneAppend data recs err x s) := by
  unfold zoneAppend
  split; exact Keeps.refl _ _; dsimp only; refine Keeps.step (writeAt_keeps ..) rfl ?_; exact Keeps.refl _ _

theorem execZoneAppend_keeps (c) (q) (i) (data) (recs) (err) (s : State) :
    KeepsRes 0x13000000c0000000000810000 s (execZoneAppend c q i data recs err s) := by
  unfold execZoneAppend
  refine KeepsRes.next ?_; refine live_keeps _ (fun w hw => ?_) ?_
  refine ioDo_keeps (h := ?_) (hm := ?_) (hf := fun a0 w hw => ?_) ..; rfl; assumption
  refine Keeps.step (zoneAppend_keeps ..) rfl ?_; assumption; exact Keeps.refl _ _

theorem mapDo_keeps (recs) (p) (x) (s : State) : Keeps 0x13000000c0000000000810000 s (mapDo recs p x s) := by
  unfold mapDo
  split; refine Keeps.step (ioOut__keeps ..) rfl ?_; exact Keeps.refl _ _; dsimp only; split
  refine Keeps.step (placed_keeps ..) rfl ?_; refine Keeps.step (recordsApply_keeps ..) rfl ?_; exact Keeps.refl _ _
  exact Keeps.refl _ _

theorem execWriteUncorrectable_keeps (c) (q) (i) (recs) (s : State) :
    KeepsRes 0x13000000c0000000000810000 s (execWriteUncorrectable c q i recs s) := by
  unfold execWriteUncorrectable
  refine KeepsRes.next ?_; refine live_keeps _ (fun w hw => ?_) ?_
  refine ioDo_keeps (h := ?_) (hm := ?_) (hf := fun a0 w hw => ?_) ..; rfl; assumption
  refine Keeps.step (mapDo_keeps ..) rfl ?_; assumption; exact Keeps.refl _ _

theorem execWriteZeroes_keeps (c) (q) (i) (recs) (s : State) :
    KeepsRes 0x13000000c0000000000810000 s (execWriteZeroes c q i recs s) := by
  unfold execWriteZeroes
  refine KeepsRes.next ?_; refine live_keeps _ (fun w hw => ?_) ?_
  refine ioDo_keeps (h := ?_) (hm := ?_) (hf := fun a0 w hw => ?_) ..; rfl; assumption
  refine Keeps.step (mapDo_keeps ..) rfl ?_; assumption; exact Keeps.refl _ _

theorem dataset_keeps (recs) (x) (s : State) : Keeps 0x13000000c0000000000810000 s (dataset recs x s) := by
  unfold dataset
  split; refine Keeps.step (ioOut__keeps ..) rfl ?_; exact Keeps.refl _ _; dsimp only; split
  refine Keeps.step (placed_keeps ..) rfl ?_; refine Keeps.step (recordsApply_keeps ..) rfl ?_; exact Keeps.refl _ _
  exact Keeps.refl _ _

theorem execDatasetManagement_keeps (c) (q) (i) (recs) (s : State) :
    KeepsRes 0x13000000c0000000000810000 s (execDatasetManagement c q i recs s) := by
  unfold execDatasetManagement
  refine KeepsRes.next ?_; refine live_keeps _ (fun w hw => ?_) ?_
  refine ioDo_keeps (h := ?_) (hm := ?_) (hf := fun a0 w hw => ?_) ..; rfl; assumption
  refine Keeps.step (dataset_keeps ..) rfl ?_; assumption; exact Keeps.refl _ _

theorem flush_keeps (x) (s : State) : Keeps 0x1000000000000000000000000 s (flush x s) := by
  unfold flush; refine Keeps.step (ioOut__keeps ..) rfl ?_; exact Keeps.refl _ _

theorem execFlush_keeps (c) (q) (i) (s : State) : KeepsRes 0x1000000000000000000000000 s (execFlush c q i s) := by
  unfold execFlush
  refine KeepsRes.next ?_; refine live_keeps _ (fun w hw => ?_) ?_
  refine ioDo_keeps (h := ?_) (hm := ?_) (hf := fun a0 w hw => ?_) ..; rfl; assumption
  refine Keeps.step (flush_keeps ..) rfl ?_; assumption; exact Keeps.refl _ _

theorem zoneSend_keeps (za) (recs) (x) (s : State) : Keeps 0x33001002c00000400108100c0 s (zoneSend za recs x s) := by
  unfold zoneSend
  dsimp only; split; exact Keeps.refl _ _; split; refine Keeps.step (ioOut__keeps ..) rfl ?_; exact Keeps.refl _ _; split; split
  refine Keeps.step (placed_keeps ..) rfl ?_; refine Keeps.step (recordsApply_keeps ..) rfl ?_
  refine Keeps.foldl (fun w e hw => ?_) ?_; refine Keeps.step (dstAbortChunk_keeps ..) rfl ?_; assumption; exact Keeps.refl _ _
  exact Keeps.refl _ _; split; refine Keeps.step (placed_keeps ..) rfl ?_; refine Keeps.step (recordsApply_keeps ..) rfl ?_
  exact Keeps.refl _ _; exact Keeps.refl _ _

theorem execZoneClose_keeps (c) (q) (i) (recs) (s : State) :
    KeepsRes 0x33001002c00000400108100c0 s (execZoneClose c q i recs s) := by
  unfold execZoneClose
  refine KeepsRes.next ?_; refine live_keeps _ (fun w hw => ?_) ?_
  refine ioDo_keeps (h := ?_) (hm := ?_) (hf := fun a0 w hw => ?_) ..; rfl; assumption
  refine Keeps.step (zoneSend_keeps ..) rfl ?_; assumption; exact Keeps.refl _ _

theorem execZoneFinish_keeps (c) (q) (i) (recs) (s : State) :
    KeepsRes 0x33001002c00000400108100c0 s (execZoneFinish c q i recs s) := by
  unfold execZoneFinish
  refine KeepsRes.next ?_; refine live_keeps _ (fun w hw => ?_) ?_
  refine ioDo_keeps (h := ?_) (hm := ?_) (hf := fun a0 w hw => ?_) ..; rfl; assumption
  refine Keeps.step (zoneSend_keeps ..) rfl ?_; assumption; exact Keeps.refl _ _

theorem execZoneOpen_keeps (c) (q) (i) (recs) (s : State) :
    KeepsRes 0x33001002c00000400108100c0 s (execZoneOpen c q i recs s) := by
  unfold execZoneOpen
  refine KeepsRes.next ?_; refine live_keeps _ (fun w hw => ?_) ?_
  refine ioDo_keeps (h := ?_) (hm := ?_) (hf := fun a0 w hw => ?_) ..; rfl; assumption
  refine Keeps.step (zoneSend_keeps ..) rfl ?_; assumption; exact Keeps.refl _ _

theorem execZoneReset_keeps (c) (q) (i) (recs) (s : State) :
    KeepsRes 0x33001002c00000400108100c0 s (execZoneReset c q i recs s) := by
  unfold execZoneReset
  refine KeepsRes.next ?_; refine live_keeps _ (fun w hw => ?_) ?_
  refine ioDo_keeps (h := ?_) (hm := ?_) (hf := fun a0 w hw => ?_) ..; rfl; assumption
  refine Keeps.step (zoneSend_keeps ..) rfl ?_; assumption; exact Keeps.refl _ _

theorem execZoneOffline_keeps (c) (q) (i) (recs) (s : State) :
    KeepsRes 0x33001002c00000400108100c0 s (execZoneOffline c q i recs s) := by
  unfold execZoneOffline
  refine KeepsRes.next ?_; refine live_keeps _ (fun w hw => ?_) ?_
  refine ioDo_keeps (h := ?_) (hm := ?_) (hf := fun a0 w hw => ?_) ..; rfl; assumption
  refine Keeps.step (zoneSend_keeps ..) rfl ?_; assumption; exact Keeps.refl _ _

theorem zoneReport_keeps (x) (s : State) : Keeps 0x1000000200000000000000000 s (zoneReport x s) := by
  unfold zoneReport
  dsimp only; refine Keeps.step (ioOut__keeps ..) rfl ?_; refine State.emit_keeps _ ?_ ?_; exact rfl; exact Keeps.refl _ _

theorem execZoneManagementReceive_keeps (c) (q) (i) (s : State) :
    KeepsRes 0x1000000200000000000000000 s (execZoneManagementReceive c q i s) := by
  unfold execZoneManagementReceive
  refine KeepsRes.next ?_; refine live_keeps _ (fun w hw => ?_) ?_
  refine ioDo_keeps (h := ?_) (hm := ?_) (hf := fun a0 w hw => ?_) ..; rfl; assumption
  refine Keeps.step (zoneReport_keeps ..) rfl ?_; assumption; exact Keeps.refl _ _

end Sys2Proof.Machine
end

