-- ==== Sys2Proof/Laws/Keeps/HostCtl.lean ====
section
/-!
SUPPORT. What each operation of Machine/HostCtl.lean keeps: the mask names the register blocks (bits 0 to 63) and the parts of State (bit
64 on) that the operation may change; everything outside it stays.
-/
namespace Sys2Proof.Machine

theorem fwDownload_keeps (data) (c) (x) (s : State) : Keeps 0x1000000000000000000000000 s (fwDownload data c x s) := by
  unfold fwDownload
  split; exact Keeps.refl _ _; refine Keeps.step (setOut_keeps ..) rfl ?_; refine Keeps.step (modHif_keeps ..) rfl ?_
  exact Keeps.refl _ _

theorem execFirmwareImageDownload_keeps (c) (i) (data) (s : State) :
    KeepsRes 0x1000000000000000000000000 s (execFirmwareImageDownload c i data s) := by
  unfold execFirmwareImageDownload
  refine KeepsRes.next ?_; refine live_keeps _ (fun w hw => ?_) ?_
  refine adminDo_keeps (h := ?_) (hm := ?_) (hf := fun a0 w hw => ?_) ..; rfl; assumption
  refine Keeps.step (fwDownload_keeps ..) rfl ?_; assumption; exact Keeps.refl _ _

theorem fwDo_keeps {m : Nat} {s t : State} (hm : 0x1000000000000000000000000 &&& m = 0x1000000000000000000000000) (h : Keeps m s t) (action) (f) (c) (x) (hf : ∀ a0 a1 w, Keeps m s w → Keeps m s (f a0 a1 w)) :
    Keeps m s (fwDo action f c x t) := by
  unfold fwDo
  split; assumption; split; refine Keeps.step' hm (setOut_keeps ..) rfl ?_; assumption; refine hf _ _ _ ?_; assumption

theorem fwReplace_keeps {m : Nat} {s t : State} (hm : 0x5000000000000000000000000 &&& m = 0x5000000000000000000000000) (h : Keeps m s t) (g) (c) (x2) (x) (hg : ∀ a0 w, Keeps m s w → Keeps m s (g a0 w)) :
    Keeps m s (fwReplace g c x2 x t) := by
  unfold fwReplace
  dsimp only; refine Keeps.step' hm (setOut_keeps ..) rfl ?_; refine Keeps.step' hm (modHif_keeps ..) rfl ?_; split
  refine hg _ _ ?_; refine Keeps.step' hm (modSlot_keeps ..) rfl ?_; assumption; assumption

theorem pend_keeps (x0) (s : State) : Keeps 0x4000000000000000000000000 s (pend x0 s) := by
  unfold pend; refine Keeps.step (appendRec_keeps ..) rfl ?_; exact Keeps.refl _ _

theorem fwPending_keeps (c) (x1) (x) (s : State) : Keeps 0x5000000000000000000000000 s (fwPending c x1 x s) := by
  unfold fwPending
  dsimp only; refine Keeps.step (setOut_keeps ..) rfl ?_; split; refine Keeps.step (pend_keeps ..) rfl ?_; exact Keeps.refl _ _
  exact Keeps.refl _ _

theorem execFwCommitReplace_keeps (c) (i) (s : State) : KeepsRes 0x5000000000000000000000000 s (execFwCommitReplace c i s) := by
  unfold execFwCommitReplace
  refine KeepsRes.next ?_; refine live_keeps _ (fun w hw => ?_) ?_
  refine adminDo_keeps (h := ?_) (hm := ?_) (hf := fun a0 w hw => ?_) ..; rfl; assumption
  refine fwDo_keeps (h := ?_) (hm := ?_) (hf := fun a0 a1 w hw => ?_) ..; rfl; assumption
  refine fwReplace_keeps (h := ?_) (hm := ?_) (hg := fun a0 w hw => ?_) ..; rfl; assumption; assumption; exact Keeps.refl _ _

theorem execFwCommitReplacePending_keeps (c) (i) (s : State) :
    KeepsRes 0x5000000000000000000000000 s (execFwCommitReplacePending c i s) := by
  unfold execFwCommitReplacePending
  refine KeepsRes.next ?_; refine live_keeps _ (fun w hw => ?_) ?_
  refine adminDo_keeps (h := ?_) (hm := ?_) (hf := fun a0 w hw => ?_) ..; rfl; assumption
  refine fwDo_keeps (h := ?_) (hm := ?_) (hf := fun a0 a1 w hw => ?_) ..; rfl; assumption
  refine fwReplace_keeps (h := ?_) (hm := ?_) (hg := fun a0 w hw => ?_) ..; rfl; assumption
  refine Keeps.step (pend_keeps ..) rfl ?_; assumption; exact Keeps.refl _ _

theorem execFwCommitPending_keeps (c) (i) (s : State) : KeepsRes 0x5000000000000000000000000 s (execFwCommitPending c i s) := by
  unfold execFwCommitPending
  refine KeepsRes.next ?_; refine live_keeps _ (fun w hw => ?_) ?_
  refine adminDo_keeps (h := ?_) (hm := ?_) (hf := fun a0 w hw => ?_) ..; rfl; assumption
  refine fwDo_keeps (h := ?_) (hm := ?_) (hf := fun a0 a1 w hw => ?_) ..; rfl; assumption
  refine Keeps.step (fwPending_keeps ..) rfl ?_; assumption; exact Keeps.refl _ _

theorem setPp_keeps (b) (s : State) : Keeps 0x100000 s (setPp b s) := by
  unfold setPp
  refine State.put_keeps _ _ ?_ ?_; rw [HIF_C_STAT_PP_blk]; exact rfl; refine State.put_keeps _ _ ?_ ?_
  rw [HIF_C_STAT_PP_blk]; exact rfl; exact Keeps.refl _ _

theorem fwActivate_keeps (c) (x1) (x) (s : State) : Keeps 0x5000000000000000000100000 s (fwActivate c x1 x s) := by
  unfold fwActivate
  dsimp only; split; split; refine Keeps.step (setOut_keeps ..) rfl ?_; refine Keeps.step (modHif_keeps ..) rfl ?_
  exact Keeps.refl _ _; split; exact Keeps.refl _ _; refine Keeps.step (setPp_keeps ..) rfl ?_; refine State.set_keeps _ _ ?_ ?_
  exact rfl; refine Keeps.step (modHif_keeps ..) rfl ?_; exact Keeps.refl _ _; split; refine Keeps.step (setOut_keeps ..) rfl ?_
  refine Keeps.step (modHif_keeps ..) rfl ?_; exact Keeps.refl _ _; split; exact Keeps.refl _ _
  refine Keeps.step (setPp_keeps ..) rfl ?_; refine State.set_keeps _ _ ?_ ?_; exact rfl
  refine Keeps.step (modHif_keeps ..) rfl ?_; refine Keeps.step (modSlot_keeps ..) rfl ?_; exact Keeps.refl _ _

theorem execFwCommitActivate_keeps (c) (i) (s : State) : KeepsRes 0x5000000000000000000100000 s (execFwCommitActivate c i s) := by
  unfold execFwCommitActivate
  refine KeepsRes.next ?_; refine live_keeps _ (fun w hw => ?_) ?_
  refine adminDo_keeps (h := ?_) (hm := ?_) (hf := fun a0 w hw => ?_) ..; rfl; assumption
  refine fwDo_keeps (h := ?_) (hm := ?_) (hf := fun a0 a1 w hw => ?_) ..; rfl; assumption
  refine Keeps.step (fwActivate_keeps ..) rfl ?_; assumption; exact Keeps.refl _ _

theorem drainEnd_keeps (s : State) : Keeps 0x100000 s (drainEnd s) := by
  unfold drainEnd
  split; refine State.set_keeps _ _ ?_ ?_; exact rfl; exact Keeps.refl _ _; exact Keeps.refl _ _

theorem execActivationDrainEnd_keeps (s : State) : KeepsRes 0x100000 s (execActivationDrainEnd s) := by
  unfold execActivationDrainEnd
  refine KeepsRes.next ?_; refine live_keeps _ (fun w hw => ?_) ?_; refine Keeps.step (drainEnd_keeps ..) rfl ?_; assumption
  exact Keeps.refl _ _

theorem drainLimit_keeps (s : State) : Keeps 0x1100089380000030000b30000 s (drainLimit s) := by
  unfold drainLimit
  split; refine Keeps.step (drainEnd_keeps ..) rfl ?_; refine Keeps.foldl (fun w e hw => ?_) ?_
  refine Keeps.step (commitWith_keeps ..) rfl ?_; assumption; exact Keeps.refl _ _; exact Keeps.refl _ _

theorem execActivationDrainLimit_keeps (s : State) : KeepsRes 0x1100089380000030000b30000 s (execActivationDrainLimit s) := by
  unfold execActivationDrainLimit
  refine KeepsRes.next ?_; refine live_keeps _ (fun w hw => ?_) ?_; refine Keeps.step (drainLimit_keeps ..) rfl ?_; assumption
  exact Keeps.refl _ _

theorem activationStop_keeps (s : State) : Keeps 0x800000000000000004100000 s (activationStop s) := by
  unfold activationStop
  split; refine State.set_keeps _ _ ?_ ?_; exact rfl; refine Keeps.foldl (fun w e hw => ?_) ?_; split; dsimp only
  refine Keeps.step (seHalt_keeps ..) rfl ?_; split; refine Keeps.step (saveCtx_keeps ..) rfl ?_; assumption; assumption
  assumption; exact Keeps.refl _ _; exact Keeps.refl _ _

theorem execActivationStopEnd_keeps (s : State) : KeepsRes 0x800000000000000004100000 s (execActivationStopEnd s) := by
  unfold execActivationStopEnd
  refine KeepsRes.next ?_; refine live_keeps _ (fun w hw => ?_) ?_; refine Keeps.step (activationStop_keeps ..) rfl ?_
  assumption; exact Keeps.refl _ _

theorem activationLoad_keeps (s : State) : Keeps 0x100000 s (activationLoad s) := by
  unfold activationLoad
  split; refine State.set_keeps _ _ ?_ ?_; exact rfl; exact Keeps.refl _ _; exact Keeps.refl _ _

theorem execActivationLoadEnd_keeps (s : State) : KeepsRes 0x100000 s (execActivationLoadEnd s) := by
  unfold execActivationLoadEnd
  refine KeepsRes.next ?_; refine live_keeps _ (fun w hw => ?_) ?_; refine Keeps.step (activationLoad_keeps ..) rfl ?_
  assumption; exact Keeps.refl _ _

theorem lateBells_keeps (s : State) : Keeps 0x323bf943000000600705055dc s (lateBells s) := by
  unfold lateBells
  dsimp only; refine Keeps.foldl (fun w e hw => ?_) ?_; refine Keeps.step (doorbell_keeps ..) rfl ?_; assumption
  refine Keeps.step (modCtrl_keeps ..) rfl ?_; refine Keeps.foldl (fun w e hw => ?_) ?_
  refine Keeps.step (doorbell_keeps ..) rfl ?_; assumption; refine Keeps.step (modCtrl_keeps ..) rfl ?_; exact Keeps.refl _ _

theorem activationResume_keeps (ok) (s : State) : Keeps 0x7a3bf94380000160074d055dc s (activationResume ok s) := by
  unfold activationResume
  split; exact Keeps.refl _ _; split; exact Keeps.refl _ _; dsimp only; refine Keeps.step (patTrig_keeps ..) rfl ?_
  refine Keeps.step (lateBells_keeps ..) rfl ?_; split; refine Keeps.step (setOut_keeps ..) rfl ?_
  refine Keeps.step (recordCommitted_keeps ..) rfl ?_; refine Keeps.step (bootSlot_keeps ..) rfl ?_
  refine Keeps.step (serveWaiting_keeps ..) rfl ?_; refine Keeps.step (setPp_keeps ..) rfl ?_; refine State.set_keeps _ _ ?_ ?_
  exact rfl; refine State.off_keeps _ ?_ ?_; exact rfl; refine Keeps.foldl (fun w e hw => ?_) ?_
  refine Keeps.step (seWarm_keeps ..) rfl ?_; assumption; refine Keeps.step (modHif_keeps ..) rfl ?_; exact Keeps.refl _ _
  refine Keeps.step (setOut_keeps ..) rfl ?_; refine Keeps.step (modSlot_keeps ..) rfl ?_
  refine Keeps.step (serveWaiting_keeps ..) rfl ?_; refine Keeps.step (setPp_keeps ..) rfl ?_; refine State.set_keeps _ _ ?_ ?_
  exact rfl; refine State.off_keeps _ ?_ ?_; exact rfl; refine Keeps.foldl (fun w e hw => ?_) ?_
  refine Keeps.step (seWarm_keeps ..) rfl ?_; assumption; refine Keeps.step (modHif_keeps ..) rfl ?_; exact Keeps.refl _ _

theorem execActivationResume_keeps (ok) (s : State) : KeepsRes 0x7a3bf94380000160074d055dc s (execActivationResume ok s) := by
  unfold execActivationResume
  refine KeepsRes.next ?_; refine live_keeps _ (fun w hw => ?_) ?_; refine Keeps.step (activationResume_keeps ..) rfl ?_
  assumption; exact Keeps.refl _ _

theorem dbBuf_keeps (c) (x) (s : State) : Keeps 0x1000000000000000000100000 s (dbBuf c x s) := by
  unfold dbBuf
  refine Keeps.step (setOut_keeps ..) rfl ?_; refine State.on_keeps _ ?_ ?_; rw [HIF_C_STAT_FAST_blk]; exact rfl
  refine State.on_keeps _ ?_ ?_; rw [HIF_C_STAT_DBBUF_blk]; exact rfl; exact Keeps.refl _ _

theorem execDoorbellBufferConfig_keeps (c) (i) (s : State) :
    KeepsRes 0x1000000000000000000100000 s (execDoorbellBufferConfig c i s) := by
  unfold execDoorbellBufferConfig
  refine KeepsRes.next ?_; refine live_keeps _ (fun w hw => ?_) ?_
  refine adminDo_keeps (h := ?_) (hm := ?_) (hf := fun a0 w hw => ?_) ..; rfl; assumption
  refine Keeps.step (dbBuf_keeps ..) rfl ?_; assumption; exact Keeps.refl _ _

theorem ctlEnable_keeps (c) (asqs) (acqs) (ams) (s : State) :
    Keeps 0x1000000000000000000100000 s (ctlEnable c asqs acqs ams s) := by
  unfold ctlEnable
  split; exact Keeps.refl _ _; refine Keeps.step (modCtrl_keeps ..) rfl ?_; refine State.on_keeps _ ?_ ?_
  rw [HIF_C_STAT_RDY_blk]; exact rfl; refine State.on_keeps _ ?_ ?_; rw [HIF_C_STAT_EN_blk]; exact rfl; exact Keeps.refl _ _

theorem execControllerEnable_keeps (c) (asqs) (acqs) (ams) (s : State) :
    KeepsRes 0x1000000000000000000100000 s (execControllerEnable c asqs acqs ams s) := by
  unfold execControllerEnable
  refine KeepsRes.next ?_; refine live_keeps _ (fun w hw => ?_) ?_; refine Keeps.step (ctlEnable_keeps ..) rfl ?_; assumption
  exact Keeps.refl _ _

theorem ctlClear_keeps (c) (s : State) : Keeps 0x1000009000000000000300000 s (ctlClear c s) := by
  unfold ctlClear
  dsimp only
  refine Keeps.step (ledOff_keeps ..) rfl ?_
  refine Keeps.step (letIn_keeps ..) rfl ?_
  refine Keeps.foldl_mem (fun v e he hv => State.off_keeps _ ?_ hv) ?_
  · simp only [List.mem_cons, List.not_mem_nil, or_false] at he
    rcases he with rfl | rfl | rfl | rfl | rfl
    · rw [HIF_C_STAT_EN_blk]; rfl
    · rw [HIF_C_STAT_RDY_blk]; rfl
    · rw [HIF_C_STAT_PP_blk]; rfl
    · rw [HIF_C_STAT_DBBUF_blk]; rfl
    · rw [HIF_C_STAT_FAST_blk]; rfl
  · refine Keeps.step (modCtrl_keeps ..) rfl ?_; refine Keeps.step (modHif_keeps ..) rfl ?_
    refine Keeps.foldl (fun w e hw => ?_) ?_; refine Keeps.step (dropPieces_keeps ..) rfl ?_; assumption; exact Keeps.refl _ _

theorem ctlReset_keeps (c) (s : State) : Keeps 0x323bf9d3000000600707055dc s (ctlReset c s) := by
  unfold ctlReset
  refine Keeps.step (pwrRequest_keeps ..) rfl ?_; refine Keeps.step (ctlClear_keeps ..) rfl ?_; exact Keeps.refl _ _

theorem execControllerReset_keeps (c) (s : State) : KeepsRes 0x323bf9d3000000600707055dc s (execControllerReset c s) := by
  unfold execControllerReset
  refine KeepsRes.next ?_; refine live_keeps _ (fun w hw => ?_) ?_; refine State.when_keeps _ _ (fun w hw => ?_) ?_
  refine Keeps.step (ctlReset_keeps ..) rfl ?_; assumption; assumption; exact Keeps.refl _ _

theorem execFunctionLevelReset_keeps (c) (s : State) : KeepsRes 0x323bf9d3000000600707055dc s (execFunctionLevelReset c s) := by
  unfold execFunctionLevelReset
  refine KeepsRes.next ?_; refine live_keeps _ (fun w hw => ?_) ?_; refine State.when_keeps _ _ (fun w hw => ?_) ?_
  refine Keeps.step (ctlReset_keeps ..) rfl ?_; assumption; assumption; exact Keeps.refl _ _

theorem shutdown_keeps (normal) (c) (s : State) : Keeps 0x1200080000000020000000000 s (shutdown normal c s) := by
  unfold shutdown
  split; exact Keeps.refl _ _; dsimp only; split; refine Keeps.step (modCtrl_keeps ..) rfl ?_; split
  refine Keeps.step (patShutdown_keeps ..) rfl ?_; refine Keeps.step (checkpoint_keeps ..) rfl ?_
  refine Keeps.step (modCtrl_keeps ..) rfl ?_; exact Keeps.refl _ _; refine Keeps.step (modCtrl_keeps ..) rfl ?_
  exact Keeps.refl _ _; refine Keeps.step (modCtrl_keeps ..) rfl ?_; exact Keeps.refl _ _

theorem execNormalShutdown_keeps (c) (s : State) : KeepsRes 0x1200080000000020000000000 s (execNormalShutdown c s) := by
  unfold execNormalShutdown
  refine KeepsRes.next ?_; refine live_keeps _ (fun w hw => ?_) ?_; refine Keeps.step (shutdown_keeps ..) rfl ?_; assumption
  exact Keeps.refl _ _

theorem execAbruptShutdown_keeps (c) (s : State) : KeepsRes 0x1200080000000020000000000 s (execAbruptShutdown c s) := by
  unfold execAbruptShutdown
  refine KeepsRes.next ?_; refine live_keeps _ (fun w hw => ?_) ?_; refine Keeps.step (shutdown_keeps ..) rfl ?_; assumption
  exact Keeps.refl _ _

theorem portDown_keeps (p) (s : State) : Keeps 0x100000 s (portDown p s) := by
  unfold portDown
  refine Keeps.foldl_mem (fun v e he hv => State.off_keeps _ ?_ hv) (Keeps.refl _ _)
  simp only [List.mem_cons, List.not_mem_nil, or_false] at he
  rcases he with rfl | rfl | rfl | rfl
  · rw [HIF_PORT_LINK_UP_blk]; rfl
  · rw [HIF_PORT_SPEED_blk]; rfl
  · rw [HIF_PORT_WIDTH_blk]; rfl
  · rw [HIF_PORT_LTSSM_blk]; rfl

theorem portReset_keeps (p) (s : State) : Keeps 0x1000009000000200000300000 s (portReset p s) := by
  unfold portReset
  dsimp only; split; refine State.bump_keeps _ _ ?_ ?_; exact rfl; refine Keeps.step (portDown_keeps ..) rfl ?_
  refine Keeps.step (ctlClear_keeps ..) rfl ?_; exact Keeps.refl _ _; refine State.bump_keeps _ _ ?_ ?_; exact rfl
  refine Keeps.step (portDown_keeps ..) rfl ?_; refine Keeps.step (ctlClear_keeps ..) rfl ?_; exact Keeps.refl _ _

theorem perstAssert_keeps (p) (s : State) : Keeps 0x1000009000000200000300000 s (perstAssert p s) := by
  unfold perstAssert
  split; refine Keeps.step (portReset_keeps ..) rfl ?_; refine State.onBit_keeps _ _ ?_ ?_; exact rfl
  refine Keeps.upd_pins _ ?_ ?_; exact rfl; exact Keeps.refl _ _; exact Keeps.refl _ _

theorem execPerstAssert_keeps (p) (s : State) : KeepsRes 0x1000009000000200000300000 s (execPerstAssert p s) := by
  unfold execPerstAssert
  refine KeepsRes.next ?_; refine live_keeps _ (fun w hw => ?_) ?_; refine Keeps.step (perstAssert_keeps ..) rfl ?_; assumption
  exact Keeps.refl _ _

theorem execHotReset_keeps (p) (s : State) : KeepsRes 0x1000009000000200000300000 s (execHotReset p s) := by
  unfold execHotReset
  refine KeepsRes.next ?_; refine live_keeps _ (fun w hw => ?_) ?_; refine State.when_keeps _ _ (fun w hw => ?_) ?_
  refine Keeps.step (portReset_keeps ..) rfl ?_; assumption; assumption; exact Keeps.refl _ _

theorem trainStart_keeps (p) (ltssm) (s : State) : Keeps 0x1000000200000100000 s (trainStart p ltssm s) := by
  unfold trainStart
  split; refine State.set_keeps _ _ ?_ ?_; rw [HIF_PORT_LTSSM_blk]; exact rfl; refine State.offBit_keeps _ _ ?_ ?_; exact rfl
  refine Keeps.upd_pins _ ?_ ?_; exact rfl; exact Keeps.refl _ _; exact Keeps.refl _ _

theorem execLinkTrainingStart_keeps (p) (ltssm) (s : State) :
    KeepsRes 0x1000000200000100000 s (execLinkTrainingStart p ltssm s) := by
  unfold execLinkTrainingStart
  refine KeepsRes.next ?_; refine live_keeps _ (fun w hw => ?_) ?_; refine Keeps.step (trainStart_keeps ..) rfl ?_; assumption
  exact Keeps.refl _ _

theorem linkUp_keeps (p) (speed) (width) (ltssm) (s : State) :
    Keeps 0x1000000000000000000100000 s (linkUp p speed width ltssm s) := by
  unfold linkUp
  split; refine State.set_keeps _ _ ?_ ?_; rw [HIF_PORT_LTSSM_blk]; exact rfl; refine State.set_keeps _ _ ?_ ?_
  rw [HIF_PORT_WIDTH_blk]; exact rfl; refine State.set_keeps _ _ ?_ ?_; rw [HIF_PORT_SPEED_blk]; exact rfl
  refine Keeps.step (modHif_keeps ..) rfl ?_; refine State.on_keeps _ ?_ ?_; rw [HIF_PORT_LINK_UP_blk]; exact rfl
  exact Keeps.refl _ _; exact Keeps.refl _ _

theorem execPcieLinkUp_keeps (p) (speed) (width) (ltssm) (s : State) :
    KeepsRes 0x1000000000000000000100000 s (execPcieLinkUp p speed width ltssm s) := by
  unfold execPcieLinkUp
  refine KeepsRes.next ?_; refine live_keeps _ (fun w hw => ?_) ?_; refine Keeps.step (linkUp_keeps ..) rfl ?_; assumption
  exact Keeps.refl _ _

theorem miUpdate_keeps (s : State) : Keeps 0x1000000100000000000000000 s (miUpdate s) := by
  unfold miUpdate
  dsimp only; refine Keeps.step (modHif_keeps ..) rfl ?_; refine State.draw_keeps ?_ ?_; exact rfl; exact Keeps.refl _ _

theorem execMiStatusUpdate_keeps (s : State) : KeepsRes 0x1000000100000000000000000 s (execMiStatusUpdate s) := by
  unfold execMiStatusUpdate
  refine KeepsRes.next ?_; refine live_keeps _ (fun w hw => ?_) ?_; refine Keeps.step (miUpdate_keeps ..) rfl ?_; assumption
  exact Keeps.refl _ _

theorem miBasic_keeps (s : State) : Keeps 0x200000000000000000 s (miBasic s) := by
  unfold miBasic; refine State.emit_keeps _ ?_ ?_; exact rfl; exact Keeps.refl _ _

theorem execNvmeMiBasic_keeps (s : State) : KeepsRes 0x200000000000000000 s (execNvmeMiBasic s) := by
  unfold execNvmeMiBasic
  refine KeepsRes.next ?_; refine live_keeps _ (fun w hw => ?_) ?_; refine Keeps.step (miBasic_keeps ..) rfl ?_; assumption
  exact Keeps.refl _ _

end Sys2Proof.Machine
end

