-- ==== Sys2Proof/Laws/Keeps/Micro.lean ====
section
/-!
SUPPORT. What each operation of Machine/Micro.lean keeps: the mask names the register blocks (bits 0 to 63) and the parts of State (bit
64 on) that the operation may change; everything outside it stays.
-/
namespace Sys2Proof.Machine

theorem modLvl_keeps (x0) (i) (f) (s : State) : Keeps 0x800000000000000000000000 s (modLvl x0 i f s) := by
  unfold modLvl; refine Keeps.step (modSe_keeps ..) rfl ?_; exact Keeps.refl _ _

theorem regPut_keeps (x0) (i) (k) (x3) (s : State) : Keeps 0x800000000000000000000000 s (regPut x0 i k x3 s) := by
  unfold regPut
  split; refine Keeps.step (modSe_keeps ..) rfl ?_; exact Keeps.refl _ _; refine Keeps.step (modLvl_keeps ..) rfl ?_
  exact Keeps.refl _ _

theorem effDo_keeps (r) (e) (s : State) : Keeps 0x7fffffffdffffffffffffffff s (effDo r e s) := by
  unfold effDo
  split; refine Keeps.step (busWrite_keeps ..) rfl ?_; exact Keeps.refl _ _; split; refine State.offBit_keeps _ _ ?_ ?_
  rw [ENG_ROLE_IPEND_PEND_blk]; exact rfl; exact Keeps.refl _ _; exact Keeps.refl _ _
  refine Keeps.step (roleEdge_keeps ..) rfl ?_; exact Keeps.refl _ _; refine State.emit_keeps _ ?_ ?_; exact rfl
  exact Keeps.refl _ _

theorem drainOne_keeps (x0) (i) (s : State) : Keeps 0x7fffffffdffffffffffffffff s (drainOne x0 i s) := by
  unfold drainOne
  split; exact Keeps.refl _ _; refine Keeps.step (effDo_keeps ..) rfl ?_; refine Keeps.step (modLvl_keeps ..) rfl ?_
  exact Keeps.refl _ _

theorem drainFor_keeps (x0) (k) (s : State) : Keeps 0x7fffffffdffffffffffffffff s (drainFor x0 k s) := by
  induction k generalizing s with
  | zero =>
    unfold drainFor
    exact Keeps.refl _ _
  | succ k ih =>
    unfold drainFor
    refine Keeps.step (ih ..) rfl ?_; refine Keeps.step (drainOne_keeps ..) rfl ?_; refine Keeps.step (drainOne_keeps ..) rfl ?_
    exact Keeps.refl _ _

theorem drainLevel_keeps (x0) (i) (k) (s : State) : Keeps 0x7fffffffdffffffffffffffff s (drainLevel x0 i k s) := by
  induction k generalizing s with
  | zero =>
    unfold drainLevel
    exact Keeps.refl _ _
  | succ k ih =>
    unfold drainLevel
    refine Keeps.step (ih ..) rfl ?_; refine Keeps.step (drainOne_keeps ..) rfl ?_; exact Keeps.refl _ _

theorem drainAll_keeps (x0) (s : State) : Keeps 0x7fffffffdffffffffffffffff s (drainAll x0 s) := by
  unfold drainAll
  dsimp only; refine Keeps.step (drainLevel_keeps ..) rfl ?_; refine Keeps.step (drainLevel_keeps ..) rfl ?_
  exact Keeps.refl _ _

theorem roleFault_keeps (x0) (code) (s : State) : Keeps 0x7fffffffdffffffffffffffff s (roleFault x0 code s) := by
  unfold roleFault
  refine Keeps.step (seFault_keeps ..) rfl ?_; refine Keeps.step (drainAll_keeps ..) rfl ?_; exact Keeps.refl _ _

theorem commitRegs_keeps (x0) (i) (s : State) : Keeps 0x800000000000000004000000 s (commitRegs x0 i s) := by
  unfold commitRegs
  dsimp only; split; refine Keeps.foldl (fun w e hw => ?_) ?_; split; refine State.set_keeps _ _ ?_ ?_
  rw [ENG_CTX_G_VALUE_blk]; exact rfl; assumption; assumption; refine Keeps.step (modSe_keeps ..) rfl ?_
  refine Keeps.step (modLvl_keeps ..) rfl ?_; exact Keeps.refl _ _; refine Keeps.step (modSe_keeps ..) rfl ?_
  refine Keeps.step (modLvl_keeps ..) rfl ?_; exact Keeps.refl _ _

theorem commitLvl_keeps (x0) (i) (next) (s : State) : Keeps 0x7fffffffdffffffffffffffff s (commitLvl x0 i next s) := by
  unfold commitLvl
  dsimp only; split; refine Keeps.step (saveCtx_keeps ..) rfl ?_; refine Keeps.step (modLvl_keeps ..) rfl ?_
  refine Keeps.step (drainLevel_keeps ..) rfl ?_; refine Keeps.step (commitRegs_keeps ..) rfl ?_; exact Keeps.refl _ _
  refine Keeps.step (modLvl_keeps ..) rfl ?_; refine Keeps.step (drainLevel_keeps ..) rfl ?_
  refine Keeps.step (commitRegs_keeps ..) rfl ?_; exact Keeps.refl _ _

theorem wordRegs_keeps (x0) (i) (x2) (res) (fl) (s : State) : Keeps 0x800000100000000000000000 s (wordRegs x0 i x2 res fl s) := by
  unfold wordRegs
  dsimp only; refine Keeps.upd_free _ ?_ ?_ ?_; exact rfl; exact Nat.le_add_right _ _
  refine Keeps.step (modLvl_keeps ..) rfl ?_; split; refine Keeps.step (regPut_keeps ..) rfl ?_; split
  refine Keeps.step (regPut_keeps ..) rfl ?_; exact Keeps.refl _ _; exact Keeps.refl _ _; split
  refine Keeps.step (regPut_keeps ..) rfl ?_; exact Keeps.refl _ _; exact Keeps.refl _ _

theorem retiDo_keeps (x0) (s : State) : Keeps 0x800000000000000004000000 s (retiDo x0 s) := by
  unfold retiDo
  dsimp only; split; refine State.offBit_keeps _ _ ?_ ?_; rw [ENG_ROLE_IPEND_PEND_blk]; exact rfl
  refine Keeps.step (modSe_keeps ..) rfl ?_; refine State.off_keeps _ ?_ ?_; rw [ENG_SE_STAT_LEVEL_blk]; exact rfl
  exact Keeps.refl _ _; refine Keeps.step (modSe_keeps ..) rfl ?_; refine State.off_keeps _ ?_ ?_
  rw [ENG_SE_STAT_LEVEL_blk]; exact rfl; exact Keeps.refl _ _

theorem clocksPass_keeps (x0) (i) (clk) (s : State) : Keeps 0x7fffffffdffffffffffffffff s (clocksPass x0 i clk s) := by
  unfold clocksPass
  dsimp only; refine Keeps.step (drainFor_keeps ..) rfl ?_; refine Keeps.step (modSe_keeps ..) rfl ?_; exact Keeps.refl _ _

theorem wordEnd_keeps (x0) (i) (x2) (next) (stack) (s : State) :
    Keeps 0x7fffffffdffffffffffffffff s (wordEnd x0 i x2 next stack s) := by
  unfold wordEnd
  dsimp only; split; refine Keeps.step (roleFault_keeps ..) rfl ?_; refine Keeps.step (clocksPass_keeps ..) rfl ?_; split
  refine Keeps.step (retiDo_keeps ..) rfl ?_; split; refine Keeps.step (commitLvl_keeps ..) rfl ?_
  refine Keeps.step (modSe_keeps ..) rfl ?_; exact Keeps.refl _ _; refine Keeps.step (modSe_keeps ..) rfl ?_
  exact Keeps.refl _ _; split; refine Keeps.step (commitLvl_keeps ..) rfl ?_; refine Keeps.step (modSe_keeps ..) rfl ?_
  exact Keeps.refl _ _; refine Keeps.step (modSe_keeps ..) rfl ?_; exact Keeps.refl _ _; split
  refine Keeps.step (setSe_keeps ..) rfl ?_; refine Keeps.step (modSe_keeps ..) rfl ?_; refine State.set_keeps _ _ ?_ ?_
  rw [ENG_SE_STAT_PC_blk]; exact rfl; refine Keeps.step (clocksPass_keeps ..) rfl ?_; split
  refine Keeps.step (retiDo_keeps ..) rfl ?_; split; refine Keeps.step (commitLvl_keeps ..) rfl ?_
  refine Keeps.step (modSe_keeps ..) rfl ?_; exact Keeps.refl _ _; refine Keeps.step (modSe_keeps ..) rfl ?_
  exact Keeps.refl _ _; split; refine Keeps.step (commitLvl_keeps ..) rfl ?_; refine Keeps.step (modSe_keeps ..) rfl ?_
  exact Keeps.refl _ _; refine Keeps.step (modSe_keeps ..) rfl ?_; exact Keeps.refl _ _; split; split; split; split
  refine Keeps.step (seHalt_keeps ..) rfl ?_; refine State.set_keeps _ _ ?_ ?_; rw [ENG_SE_STAT_PC_blk]; exact rfl
  refine Keeps.step (clocksPass_keeps ..) rfl ?_; refine Keeps.step (retiDo_keeps ..) rfl ?_
  refine Keeps.step (commitLvl_keeps ..) rfl ?_; refine Keeps.step (modSe_keeps ..) rfl ?_; exact Keeps.refl _ _
  refine State.set_keeps _ _ ?_ ?_; rw [ENG_SE_STAT_PC_blk]; exact rfl; refine Keeps.step (clocksPass_keeps ..) rfl ?_
  refine Keeps.step (retiDo_keeps ..) rfl ?_; refine Keeps.step (commitLvl_keeps ..) rfl ?_
  refine Keeps.step (modSe_keeps ..) rfl ?_; exact Keeps.refl _ _; split; split; refine Keeps.step (seHalt_keeps ..) rfl ?_
  refine State.set_keeps _ _ ?_ ?_; rw [ENG_SE_STAT_PC_blk]; exact rfl; refine Keeps.step (clocksPass_keeps ..) rfl ?_
  refine Keeps.step (retiDo_keeps ..) rfl ?_; refine Keeps.step (commitLvl_keeps ..) rfl ?_
  refine Keeps.step (modSe_keeps ..) rfl ?_; exact Keeps.refl _ _; refine State.set_keeps _ _ ?_ ?_
  rw [ENG_SE_STAT_PC_blk]; exact rfl; refine Keeps.step (clocksPass_keeps ..) rfl ?_; refine Keeps.step (retiDo_keeps ..) rfl ?_
  refine Keeps.step (commitLvl_keeps ..) rfl ?_; refine Keeps.step (modSe_keeps ..) rfl ?_; exact Keeps.refl _ _; split
  refine Keeps.step (seHalt_keeps ..) rfl ?_; refine State.set_keeps _ _ ?_ ?_; rw [ENG_SE_STAT_PC_blk]; exact rfl
  refine Keeps.step (clocksPass_keeps ..) rfl ?_; refine Keeps.step (retiDo_keeps ..) rfl ?_
  refine Keeps.step (commitLvl_keeps ..) rfl ?_; refine Keeps.step (modSe_keeps ..) rfl ?_; exact Keeps.refl _ _
  refine State.set_keeps _ _ ?_ ?_; rw [ENG_SE_STAT_PC_blk]; exact rfl; refine Keeps.step (clocksPass_keeps ..) rfl ?_
  refine Keeps.step (retiDo_keeps ..) rfl ?_; refine Keeps.step (commitLvl_keeps ..) rfl ?_
  refine Keeps.step (modSe_keeps ..) rfl ?_; exact Keeps.refl _ _; split; split; refine Keeps.step (seHalt_keeps ..) rfl ?_
  refine State.set_keeps _ _ ?_ ?_; rw [ENG_SE_STAT_PC_blk]; exact rfl; refine Keeps.step (clocksPass_keeps ..) rfl ?_
  refine Keeps.step (retiDo_keeps ..) rfl ?_; refine Keeps.step (modSe_keeps ..) rfl ?_; exact Keeps.refl _ _
  refine State.set_keeps _ _ ?_ ?_; rw [ENG_SE_STAT_PC_blk]; exact rfl; refine Keeps.step (clocksPass_keeps ..) rfl ?_
  refine Keeps.step (retiDo_keeps ..) rfl ?_; refine Keeps.step (modSe_keeps ..) rfl ?_; exact Keeps.refl _ _; split; split
  refine Keeps.step (seHalt_keeps ..) rfl ?_; refine State.set_keeps _ _ ?_ ?_; rw [ENG_SE_STAT_PC_blk]; exact rfl
  refine Keeps.step (clocksPass_keeps ..) rfl ?_; refine Keeps.step (retiDo_keeps ..) rfl ?_
  refine Keeps.step (modSe_keeps ..) rfl ?_; exact Keeps.refl _ _; refine State.set_keeps _ _ ?_ ?_
  rw [ENG_SE_STAT_PC_blk]; exact rfl; refine Keeps.step (clocksPass_keeps ..) rfl ?_; refine Keeps.step (retiDo_keeps ..) rfl ?_
  refine Keeps.step (modSe_keeps ..) rfl ?_; exact Keeps.refl _ _; split; refine Keeps.step (seHalt_keeps ..) rfl ?_
  refine State.set_keeps _ _ ?_ ?_; rw [ENG_SE_STAT_PC_blk]; exact rfl; refine Keeps.step (clocksPass_keeps ..) rfl ?_
  refine Keeps.step (retiDo_keeps ..) rfl ?_; refine Keeps.step (modSe_keeps ..) rfl ?_; exact Keeps.refl _ _
  refine State.set_keeps _ _ ?_ ?_; rw [ENG_SE_STAT_PC_blk]; exact rfl; refine Keeps.step (clocksPass_keeps ..) rfl ?_
  refine Keeps.step (retiDo_keeps ..) rfl ?_; refine Keeps.step (modSe_keeps ..) rfl ?_; exact Keeps.refl _ _; split; split
  split; refine Keeps.step (seHalt_keeps ..) rfl ?_; refine State.set_keeps _ _ ?_ ?_; rw [ENG_SE_STAT_PC_blk]; exact rfl
  refine Keeps.step (clocksPass_keeps ..) rfl ?_; refine Keeps.step (commitLvl_keeps ..) rfl ?_
  refine Keeps.step (modSe_keeps ..) rfl ?_; exact Keeps.refl _ _; refine State.set_keeps _ _ ?_ ?_
  rw [ENG_SE_STAT_PC_blk]; exact rfl; refine Keeps.step (clocksPass_keeps ..) rfl ?_
  refine Keeps.step (commitLvl_keeps ..) rfl ?_; refine Keeps.step (modSe_keeps ..) rfl ?_; exact Keeps.refl _ _; split; split
  refine Keeps.step (seHalt_keeps ..) rfl ?_; refine State.set_keeps _ _ ?_ ?_; rw [ENG_SE_STAT_PC_blk]; exact rfl
  refine Keeps.step (clocksPass_keeps ..) rfl ?_; refine Keeps.step (commitLvl_keeps ..) rfl ?_
  refine Keeps.step (modSe_keeps ..) rfl ?_; exact Keeps.refl _ _; refine State.set_keeps _ _ ?_ ?_
  rw [ENG_SE_STAT_PC_blk]; exact rfl; refine Keeps.step (clocksPass_keeps ..) rfl ?_
  refine Keeps.step (commitLvl_keeps ..) rfl ?_; refine Keeps.step (modSe_keeps ..) rfl ?_; exact Keeps.refl _ _; split
  refine Keeps.step (seHalt_keeps ..) rfl ?_; refine State.set_keeps _ _ ?_ ?_; rw [ENG_SE_STAT_PC_blk]; exact rfl
  refine Keeps.step (clocksPass_keeps ..) rfl ?_; refine Keeps.step (commitLvl_keeps ..) rfl ?_
  refine Keeps.step (modSe_keeps ..) rfl ?_; exact Keeps.refl _ _; refine State.set_keeps _ _ ?_ ?_
  rw [ENG_SE_STAT_PC_blk]; exact rfl; refine Keeps.step (clocksPass_keeps ..) rfl ?_
  refine Keeps.step (commitLvl_keeps ..) rfl ?_; refine Keeps.step (modSe_keeps ..) rfl ?_; exact Keeps.refl _ _; split; split
  refine Keeps.step (seHalt_keeps ..) rfl ?_; refine State.set_keeps _ _ ?_ ?_; rw [ENG_SE_STAT_PC_blk]; exact rfl
  refine Keeps.step (clocksPass_keeps ..) rfl ?_; refine Keeps.step (modSe_keeps ..) rfl ?_; exact Keeps.refl _ _
  refine State.set_keeps _ _ ?_ ?_; rw [ENG_SE_STAT_PC_blk]; exact rfl; refine Keeps.step (clocksPass_keeps ..) rfl ?_
  refine Keeps.step (modSe_keeps ..) rfl ?_; exact Keeps.refl _ _; split; split; refine Keeps.step (seHalt_keeps ..) rfl ?_
  refine State.set_keeps _ _ ?_ ?_; rw [ENG_SE_STAT_PC_blk]; exact rfl; refine Keeps.step (clocksPass_keeps ..) rfl ?_
  refine Keeps.step (modSe_keeps ..) rfl ?_; exact Keeps.refl _ _; refine State.set_keeps _ _ ?_ ?_
  rw [ENG_SE_STAT_PC_blk]; exact rfl; refine Keeps.step (clocksPass_keeps ..) rfl ?_; refine Keeps.step (modSe_keeps ..) rfl ?_
  exact Keeps.refl _ _; split; refine Keeps.step (seHalt_keeps ..) rfl ?_; refine State.set_keeps _ _ ?_ ?_
  rw [ENG_SE_STAT_PC_blk]; exact rfl; refine Keeps.step (clocksPass_keeps ..) rfl ?_; refine Keeps.step (modSe_keeps ..) rfl ?_
  exact Keeps.refl _ _; refine State.set_keeps _ _ ?_ ?_; rw [ENG_SE_STAT_PC_blk]; exact rfl
  refine Keeps.step (clocksPass_keeps ..) rfl ?_; refine Keeps.step (modSe_keeps ..) rfl ?_; exact Keeps.refl _ _

theorem wordRun_keeps (x0) (i) (x2) (s : State) : Keeps 0x7fffffffdffffffffffffffff s (wordRun x0 i x2 s) := by
  unfold wordRun
  split; refine Keeps.step (roleFault_keeps ..) rfl ?_; exact Keeps.refl _ _; dsimp only; split
  refine Keeps.step (roleFault_keeps ..) rfl ?_; exact Keeps.refl _ _; refine Keeps.step (wordEnd_keeps ..) rfl ?_
  refine Keeps.step (modLvl_keeps ..) rfl ?_; refine Keeps.step (wordRegs_keeps ..) rfl ?_; exact Keeps.refl _ _

theorem microStep_keeps (x0) (seq) (s : State) : Keeps 0x7fffffffdffffffffffffffff s (microStep x0 seq s) := by
  unfold microStep
  dsimp only; split; exact Keeps.refl _ _; split; refine Keeps.step (roleFault_keeps ..) rfl ?_
  refine Keeps.step (memUe_keeps ..) rfl ?_; exact Keeps.refl _ _; split; refine Keeps.step (roleFault_keeps ..) rfl ?_
  exact Keeps.refl _ _; split; exact Keeps.refl _ _; refine Keeps.step (wordRun_keeps ..) rfl ?_; exact Keeps.refl _ _

theorem execNext_keeps (x0) (s : State) : KeepsRes 0x7fffffffdffffffffffffffff s (execNext x0 s) := by
  unfold execNext
  refine KeepsRes.next ?_; refine live_keeps _ (fun w hw => ?_) ?_; refine Keeps.step (microStep_keeps ..) rfl ?_; assumption
  exact Keeps.refl _ _

theorem execJump_keeps (x0) (s : State) : KeepsRes 0x7fffffffdffffffffffffffff s (execJump x0 s) := by
  unfold execJump
  refine KeepsRes.next ?_; refine live_keeps _ (fun w hw => ?_) ?_; refine Keeps.step (microStep_keeps ..) rfl ?_; assumption
  exact Keeps.refl _ _

theorem execBranch_keeps (x0) (s : State) : KeepsRes 0x7fffffffdffffffffffffffff s (execBranch x0 s) := by
  unfold execBranch
  refine KeepsRes.next ?_; refine live_keeps _ (fun w hw => ?_) ?_; refine Keeps.step (microStep_keeps ..) rfl ?_; assumption
  exact Keeps.refl _ _

theorem execCall_keeps (x0) (s : State) : KeepsRes 0x7fffffffdffffffffffffffff s (execCall x0 s) := by
  unfold execCall
  refine KeepsRes.next ?_; refine live_keeps _ (fun w hw => ?_) ?_; refine Keeps.step (microStep_keeps ..) rfl ?_; assumption
  exact Keeps.refl _ _

theorem execCcall_keeps (x0) (s : State) : KeepsRes 0x7fffffffdffffffffffffffff s (execCcall x0 s) := by
  unfold execCcall
  refine KeepsRes.next ?_; refine live_keeps _ (fun w hw => ?_) ?_; refine Keeps.step (microStep_keeps ..) rfl ?_; assumption
  exact Keeps.refl _ _

theorem execRet_keeps (x0) (s : State) : KeepsRes 0x7fffffffdffffffffffffffff s (execRet x0 s) := by
  unfold execRet
  refine KeepsRes.next ?_; refine live_keeps _ (fun w hw => ?_) ?_; refine Keeps.step (microStep_keeps ..) rfl ?_; assumption
  exact Keeps.refl _ _

theorem execCret_keeps (x0) (s : State) : KeepsRes 0x7fffffffdffffffffffffffff s (execCret x0 s) := by
  unfold execCret
  refine KeepsRes.next ?_; refine live_keeps _ (fun w hw => ?_) ?_; refine Keeps.step (microStep_keeps ..) rfl ?_; assumption
  exact Keeps.refl _ _

theorem execDispatch_keeps (x0) (s : State) : KeepsRes 0x7fffffffdffffffffffffffff s (execDispatch x0 s) := by
  unfold execDispatch
  refine KeepsRes.next ?_; refine live_keeps _ (fun w hw => ?_) ?_; refine Keeps.step (microStep_keeps ..) rfl ?_; assumption
  exact Keeps.refl _ _

theorem execWait_keeps (x0) (s : State) : KeepsRes 0x7fffffffdffffffffffffffff s (execWait x0 s) := by
  unfold execWait
  refine KeepsRes.next ?_; refine live_keeps _ (fun w hw => ?_) ?_; refine Keeps.step (microStep_keeps ..) rfl ?_; assumption
  exact Keeps.refl _ _

theorem execLoop_keeps (x0) (s : State) : KeepsRes 0x7fffffffdffffffffffffffff s (execLoop x0 s) := by
  unfold execLoop
  refine KeepsRes.next ?_; refine live_keeps _ (fun w hw => ?_) ?_; refine Keeps.step (microStep_keeps ..) rfl ?_; assumption
  exact Keeps.refl _ _

theorem execReti_keeps (x0) (s : State) : KeepsRes 0x7fffffffdffffffffffffffff s (execReti x0 s) := by
  unfold execReti
  refine KeepsRes.next ?_; refine live_keeps _ (fun w hw => ?_) ?_; refine Keeps.step (microStep_keeps ..) rfl ?_; assumption
  exact Keeps.refl _ _

theorem execHalt_keeps (x0) (s : State) : KeepsRes 0x7fffffffdffffffffffffffff s (execHalt x0 s) := by
  unfold execHalt
  refine KeepsRes.next ?_; refine live_keeps _ (fun w hw => ?_) ?_; refine Keeps.step (microStep_keeps ..) rfl ?_; assumption
  exact Keeps.refl _ _

theorem readReturn_keeps (x0) (i) (s : State) : Keeps 0x7fffffffdffffffffffffffff s (readReturn x0 i s) := by
  unfold readReturn
  split; exact Keeps.refl _ _; dsimp only; split; refine Keeps.step (modLvl_keeps ..) rfl ?_
  refine Keeps.step (drainLevel_keeps ..) rfl ?_; exact Keeps.refl _ _; refine Keeps.step (modLvl_keeps ..) rfl ?_
  refine Keeps.step (busRead_keeps ..) rfl ?_; refine Keeps.step (drainLevel_keeps ..) rfl ?_; exact Keeps.refl _ _

theorem execBusReadReturn_keeps (x0) (int) (s : State) : KeepsRes 0x7fffffffdffffffffffffffff s (execBusReadReturn x0 int s) := by
  unfold execBusReadReturn
  refine KeepsRes.next ?_; refine live_keeps _ (fun w hw => ?_) ?_; refine Keeps.step (readReturn_keeps ..) rfl ?_; assumption
  exact Keeps.refl _ _

theorem irqEntry_keeps (x0) (s : State) : Keeps 0x7fffffffdffffffffffffffff s (irqEntry x0 s) := by
  unfold irqEntry
  split; exact Keeps.refl _ _; dsimp only; refine Keeps.step (clocksPass_keeps ..) rfl ?_; refine State.set_keeps _ _ ?_ ?_
  rw [ENG_SE_STAT_PC_blk]; exact rfl; refine State.on_keeps _ ?_ ?_; rw [ENG_SE_STAT_LEVEL_blk]; exact rfl
  refine Keeps.step (modSe_keeps ..) rfl ?_; exact Keeps.refl _ _

theorem execInterruptEntry_keeps (x0) (s : State) : KeepsRes 0x7fffffffdffffffffffffffff s (execInterruptEntry x0 s) := by
  unfold execInterruptEntry
  refine KeepsRes.next ?_; refine live_keeps _ (fun w hw => ?_) ?_; refine Keeps.step (irqEntry_keeps ..) rfl ?_; assumption
  exact Keeps.refl _ _

theorem gapExceeded_keeps (x0) (s : State) : Keeps 0x7fffffffdffffffffffffffff s (gapExceeded x0 s) := by
  unfold gapExceeded
  split; refine Keeps.step (roleFault_keeps ..) rfl ?_; exact Keeps.refl _ _; exact Keeps.refl _ _

theorem execCommitGapExceeded_keeps (x0) (s : State) : KeepsRes 0x7fffffffdffffffffffffffff s (execCommitGapExceeded x0 s) := by
  unfold execCommitGapExceeded
  refine KeepsRes.next ?_; refine live_keeps _ (fun w hw => ?_) ?_; refine Keeps.step (gapExceeded_keeps ..) rfl ?_; assumption
  exact Keeps.refl _ _

theorem limitExceeded_keeps (x0) (s : State) : Keeps 0x7fffffffdffffffffffffffff s (limitExceeded x0 s) := by
  unfold limitExceeded
  split; refine Keeps.step (roleFault_keeps ..) rfl ?_; exact Keeps.refl _ _; exact Keeps.refl _ _

theorem execInterruptLimitExceeded_keeps (x0) (s : State) :
    KeepsRes 0x7fffffffdffffffffffffffff s (execInterruptLimitExceeded x0 s) := by
  unfold execInterruptLimitExceeded
  refine KeepsRes.next ?_; refine live_keeps _ (fun w hw => ?_) ?_; refine Keeps.step (limitExceeded_keeps ..) rfl ?_
  assumption; exact Keeps.refl _ _

theorem freezeDone_keeps (last) (s : State) : Keeps 0x7fffffffdffffffffffffffff s (freezeDone last s) := by
  unfold freezeDone
  split; refine Keeps.step (migFreeze_keeps ..) rfl ?_; split; refine Keeps.step (drainAll_keeps ..) rfl ?_
  exact Keeps.refl _ _; exact Keeps.refl _ _; refine Keeps.step (migFreeze_keeps ..) rfl ?_; exact Keeps.refl _ _

theorem execMigrationFreeze_keeps (last) (s : State) : KeepsRes 0x7fffffffdffffffffffffffff s (execMigrationFreeze last s) := by
  unfold execMigrationFreeze
  refine KeepsRes.next ?_; refine live_keeps _ (fun w hw => ?_) ?_; refine Keeps.step (freezeDone_keeps ..) rfl ?_; assumption
  exact Keeps.refl _ _

theorem enginesDrain_keeps (k) (s : State) : Keeps 0x7fffffffdffffffffffffffff s (enginesDrain k s) := by
  unfold enginesDrain
  refine Keeps.foldl (fun w e hw => ?_) ?_; refine Keeps.step (drainFor_keeps ..) rfl ?_; assumption; exact Keeps.refl _ _

end Sys2Proof.Machine
end

