-- ==== Sys2Proof/Laws/Keeps/Tick.lean ====
section
/-!
SUPPORT. What each operation of Machine/Tick.lean keeps: the mask names the register blocks (bits 0 to 63) and the parts of State (bit
64 on) that the operation may change; everything outside it stays.
-/
namespace Sys2Proof.Machine

theorem slewTicks_keeps (x0) (s : State) : Keeps 0x200000000000000000000 s (slewTicks x0 s).1 := by
  unfold slewTicks
  dsimp only; refine Keeps.upd_inv _ ?_ ?_ ?_; exact rfl; (first | exact Nat.le_refl _ | exact State.bemfStart_ge _)
  exact Keeps.refl _ _

theorem angleEdge_keeps (s : State) : Keeps 0x2009f802000000200144044cc s (angleEdge s) := by
  unfold angleEdge
  dsimp only; refine Keeps.step (runTo_keeps ..) rfl ?_; refine Keeps.step (slewTicks_keeps ..) rfl ?_
  refine Keeps.upd_inv _ ?_ ?_ ?_; exact rfl; (first | exact Nat.le_refl _ | exact State.bemfStart_ge _); exact Keeps.refl _ _

theorem wallEdge_keeps (s : State) : Keeps 0x600000000000000000004 s (wallEdge s) := by
  unfold wallEdge
  dsimp only; refine Keeps.step (wallTicks_keeps ..) rfl ?_; refine Keeps.upd_inv _ ?_ ?_ ?_; exact rfl
  (first | exact Nat.le_refl _ | exact State.bemfStart_ge _); exact Keeps.refl _ _

theorem holdoverCheck_keeps (s : State) : Keeps 0x868010000002000000040c s (holdoverCheck s) := by
  unfold holdoverCheck
  split; refine Keeps.step (holdoverExpiry_keeps ..) rfl ?_; exact Keeps.refl _ _; exact Keeps.refl _ _

theorem tick_keeps (s : State) : Keeps 0x7fffffffdffffffffffffffff s (tick s) := by
  unfold tick
  dsimp only; refine Keeps.step (enginesDrain_keeps ..) rfl ?_; refine Keeps.step (holdoverCheck_keeps ..) rfl ?_; split
  refine Keeps.step (wallEdge_keeps ..) rfl ?_; refine Keeps.upd_inv _ ?_ ?_ ?_; exact rfl
  (first | exact Nat.le_refl _ | exact State.bemfStart_ge _); exact Keeps.refl _ _
  refine Keeps.step (angleEdge_keeps ..) rfl ?_; refine Keeps.upd_inv _ ?_ ?_ ?_; exact rfl
  (first | exact Nat.le_refl _ | exact State.bemfStart_ge _); exact Keeps.refl _ _

theorem idle_keeps (s : State) : Keeps 0x7fffffffdffffffffffffffff s (idle s) := by
  unfold idle
  refine live_keeps _ (fun w hw => ?_) ?_; refine Keeps.step (tick_keeps ..) rfl ?_; assumption; exact Keeps.refl _ _

end Sys2Proof.Machine
end

