-- ==== Sys2Proof/Laws/Keeps/Uart.lean ====
section
/-!
SUPPORT. What each operation of Machine/Uart.lean keeps: the mask names the register blocks (bits 0 to 63) and the parts of State (bit
64 on) that the operation may change; everything outside it stays.
-/
namespace Sys2Proof.Machine

theorem recoveryImage_keeps (crc) (image) (s : State) : Keeps 0x4000080e00000120000000000 s (recoveryImage crc image s) := by
  unfold recoveryImage
  split; dsimp only; split; refine Keeps.upd_die_pd _ _ ?_ ?_ ?_; exact rfl; exact rfl; refine State.off_keeps _ ?_ ?_
  exact rfl; refine State.set_keeps _ _ ?_ ?_; exact rfl; refine State.set_keeps _ _ ?_ ?_; exact rfl
  refine Keeps.step (modSec_keeps ..) rfl ?_; refine State.emit_keeps _ ?_ ?_; exact rfl; exact Keeps.refl _ _
  refine Keeps.step (patTrig_keeps ..) rfl ?_; refine State.on_keeps _ ?_ ?_; exact rfl; refine State.emit_keeps _ ?_ ?_
  exact rfl; exact Keeps.refl _ _; refine State.emit_keeps _ ?_ ?_; exact rfl; exact Keeps.refl _ _

theorem execRecoveryHeader_keeps (len) (crc) (image) (s : State) :
    KeepsRes 0x4000080e00000120000000000 s (execRecoveryHeader len crc image s) := by
  unfold execRecoveryHeader
  refine KeepsRes.next ?_; refine State.when_keeps _ _ (fun w hw => ?_) ?_; refine Keeps.step (recoveryImage_keeps ..) rfl ?_
  assumption; exact Keeps.refl _ _

theorem execRecoveryGapTimeout_keeps (_got) (s : State) : KeepsRes 0x0 s (execRecoveryGapTimeout _got s) := by
  unfold execRecoveryGapTimeout; refine KeepsRes.next ?_; exact Keeps.refl _ _

theorem viReply_keeps (cmd) (seq) (status) (payload) (s : State) :
    Keeps 0x200000000000000000 s (viReply cmd seq status payload s) := by
  unfold viReply; refine State.emit_keeps _ ?_ ?_; exact rfl; exact Keeps.refl _ _

theorem viServe_keeps {m : Nat} {s t : State} (hm : 0x200000000000000000 &&& m = 0x200000000000000000) (h : Keeps m s t) (cmd) (seq) (crcOk) (lenOk) (f) (hf : ∀ w, Keeps m s w → Keeps m s (f w)) :
    Keeps m s (viServe cmd seq crcOk lenOk f t) := by
  unfold viServe
  split; refine Keeps.step' hm (viReply_keeps ..) rfl ?_; assumption; split; refine Keeps.step' hm (viReply_keeps ..) rfl ?_
  assumption; refine hf  _ ?_; assumption

theorem viRead_keeps (a) (x1) (s : State) : Keeps 0x400028010ffffffffffffffff s (viRead a x1 s).1 := by
  induction x1 generalizing s a with
  | zero =>
    unfold viRead
    dsimp only; exact Keeps.refl _ _
  | succ k ih =>
    unfold viRead
    dsimp only; split; dsimp only; refine Keeps.step (busRead_keeps ..) rfl ?_; exact Keeps.refl _ _; dsimp only
    refine Keeps.step (ih ..) rfl ?_; refine Keeps.step (busRead_keeps ..) rfl ?_; exact Keeps.refl _ _

theorem viWrite_keeps (a) (x1) (s : State) : Keeps 0x7fffffffdffffffffffffffff s (viWrite a x1 s).1 := by
  induction x1 generalizing s a with
  | nil =>
    unfold viWrite
    dsimp only; exact Keeps.refl _ _
  | cons e l ih =>
    unfold viWrite
    dsimp only; split; dsimp only; refine Keeps.step (busWrite_keeps ..) rfl ?_; exact Keeps.refl _ _
    refine Keeps.step (ih ..) rfl ?_; refine Keeps.step (busWrite_keeps ..) rfl ?_; exact Keeps.refl _ _

theorem execRead32_keeps (seq) (crcOk) (payload) (s : State) :
    KeepsRes 0x400028030ffffffffffffffff s (execRead32 seq crcOk payload s) := by
  unfold execRead32
  refine KeepsRes.next ?_; refine live_keeps _ (fun w hw => ?_) ?_; dsimp only
  refine viServe_keeps (h := ?_) (hm := ?_) (hf := fun w hw => ?_) ..; rfl; assumption; split
  refine Keeps.step (viReply_keeps ..) rfl ?_; refine Keeps.step (viRead_keeps ..) rfl ?_; assumption
  refine Keeps.step (viReply_keeps ..) rfl ?_; refine Keeps.step (viRead_keeps ..) rfl ?_; assumption; exact Keeps.refl _ _

theorem execWrite32_keeps (seq) (crcOk) (payload) (s : State) :
    KeepsRes 0x7fffffffdffffffffffffffff s (execWrite32 seq crcOk payload s) := by
  unfold execWrite32
  refine KeepsRes.next ?_; refine live_keeps _ (fun w hw => ?_) ?_; dsimp only
  refine viServe_keeps (h := ?_) (hm := ?_) (hf := fun w hw => ?_) ..; rfl; assumption
  refine Keeps.step (viReply_keeps ..) rfl ?_; refine Keeps.step (viWrite_keeps ..) rfl ?_; assumption; exact Keeps.refl _ _

theorem execPatina_keeps (seq) (crcOk) (payload) (s : State) :
    KeepsRes 0x200000000000000000 s (execPatina seq crcOk payload s) := by
  unfold execPatina
  refine KeepsRes.next ?_; refine live_keeps _ (fun w hw => ?_) ?_; dsimp only
  refine viServe_keeps (h := ?_) (hm := ?_) (hf := fun w hw => ?_) ..; rfl; assumption
  refine Keeps.step (viReply_keeps ..) rfl ?_; assumption; exact Keeps.refl _ _

theorem execLog_keeps (c) (seq) (crcOk) (payload) (s : State) :
    KeepsRes 0x300000000000000000 s (execLog c seq crcOk payload s) := by
  unfold execLog
  refine KeepsRes.next ?_; refine live_keeps _ (fun w hw => ?_) ?_; dsimp only
  refine viServe_keeps (h := ?_) (hm := ?_) (hf := fun w hw => ?_) ..; rfl; assumption; split
  refine Keeps.step (viReply_keeps ..) rfl ?_; refine Keeps.upd_free _ ?_ ?_ ?_; exact rfl; exact Nat.le_add_right _ _
  assumption; refine Keeps.step (viReply_keeps ..) rfl ?_; refine Keeps.step (freeRead_keeps ..) rfl ?_; assumption
  exact Keeps.refl _ _

theorem execInfo_keeps (seq) (crcOk) (payload) (s : State) : KeepsRes 0x200000000000000000 s (execInfo seq crcOk payload s) := by
  unfold execInfo
  refine KeepsRes.next ?_; refine live_keeps _ (fun w hw => ?_) ?_
  refine viServe_keeps (h := ?_) (hm := ?_) (hf := fun w hw => ?_) ..; rfl; assumption
  refine Keeps.step (viReply_keeps ..) rfl ?_; assumption; exact Keeps.refl _ _

theorem execViarumGapTimeout_keeps (_got) (s : State) : KeepsRes 0x0 s (execViarumGapTimeout _got s) := by
  unfold execViarumGapTimeout; refine KeepsRes.next ?_; exact Keeps.refl _ _

theorem execAssayDutyWindowEnd_keeps (s : State) : KeepsRes 0x40000000010000000000 s (execAssayDutyWindowEnd s) := by
  unfold execAssayDutyWindowEnd
  refine KeepsRes.next ?_; refine live_keeps _ (fun w hw => ?_) ?_; refine Keeps.step (dutyWindow_keeps ..) rfl ?_; assumption
  exact Keeps.refl _ _

theorem execHardwarePermitRenewal_keeps (k) (s : State) :
    KeepsRes 0x20001002000000000100000c0 s (execHardwarePermitRenewal k s) := by
  unfold execHardwarePermitRenewal
  refine KeepsRes.next ?_; refine live_keeps _ (fun w hw => ?_) ?_; refine Keeps.step (permitRenew_keeps ..) rfl ?_; assumption
  exact Keeps.refl _ _

theorem microZero_keeps (a) (l) (s : State) : Keeps 0x90000000000000000001c0 s (microZero a l s) := by
  unfold microZero
  split; refine Keeps.step (framesSettle_keeps ..) rfl ?_; refine State.set_keeps _ _ ?_ ?_; rw [maOut_blk]; exact rfl
  refine Keeps.step (modLane_keeps ..) rfl ?_; exact Keeps.refl _ _; exact Keeps.refl _ _

theorem execMicroactuatorAtZero_keeps (a) (l) (s : State) :
    KeepsRes 0x90000000000000000001c0 s (execMicroactuatorAtZero a l s) := by
  unfold execMicroactuatorAtZero
  refine KeepsRes.next ?_; refine live_keeps _ (fun w hw => ?_) ?_; refine Keeps.step (microZero_keeps ..) rfl ?_; assumption
  exact Keeps.refl _ _

theorem execSynthLock_keeps (x0) (s : State) : KeepsRes 0x400000000000040000000 s (execSynthLock x0 s) := by
  unfold execSynthLock
  refine KeepsRes.next ?_; refine live_keeps _ (fun w hw => ?_) ?_; refine Keeps.step (pllLock_keeps ..) rfl ?_; assumption
  exact Keeps.refl _ _

theorem execTapReset_keeps (s : State) : KeepsRes 0x1000000000000000000 s (execTapReset s) := by
  unfold execTapReset
  refine KeepsRes.next ?_; refine State.when_keeps _ _ (fun w hw => ?_) ?_; refine Keeps.upd_pins _ ?_ ?_; exact rfl; assumption
  exact Keeps.refl _ _

end Sys2Proof.Machine
end

