-- ==== Sys2Proof/Laws/Exec.lean ====
section
/-!
SUPPORT. What every command and every step keeps: the whole machine's form of the lemmas under Laws/Keeps.
-/
namespace Sys2Proof.Machine

/-- Every block and every part but the queue; the stamp does not fall back. -/
def runMask : Nat := 0x7ffffffffffffffffffffffff

/-- The same, and the stamp may fall back. -/
def anyMask : Nat := 0xfffffffffffffffffffffffff

theorem KeepsRes.mono {m n : Nat} {s : State} {r : Res} (h : KeepsRes n s r) (e : n &&& m = n) : KeepsRes m s r :=
  fun t ht => (h t ht).mono e

/-- Every command other than a power-on stays within `runMask`. -/
theorem exec_keeps (i : Instr) (s : State) (h : ∀ x y, i ≠ .powerOn x y) : KeepsRes runMask s (exec i s) := by
  cases i with
  | registerWrite a0 a1 a2 a3 => exact KeepsRes.mono (execRegisterWrite_keeps a0 a1 a2 a3 s) rfl
  | readClear a0 a1 a2 => exact KeepsRes.mono (execReadClear_keeps a0 a1 a2 s) rfl
  | captureRead a0 a1 => exact KeepsRes.mono (execCaptureRead_keeps a0 a1 s) rfl
  | unmappedAccess a0 a1 a2 => exact KeepsRes.mono (execUnmappedAccess_keeps a0 a1 a2 s) rfl
  | blockDownAccess a0 a1 a2 => exact KeepsRes.mono (execBlockDownAccess_keeps a0 a1 a2 s) rfl
  | hostAccessRefused a0 a1 => exact KeepsRes.mono (execHostAccessRefused_keeps a0 a1 s) rfl
  | accessTimeout a0 a1 a2 => exact KeepsRes.mono (execAccessTimeout_keeps a0 a1 a2 s) rfl
  | powerOn x y => exact absurd rfl (h x y)
  | sourceStable a0 => exact KeepsRes.mono (execSourceStable_keeps a0 s) rfl
  | devResetRelease => exact KeepsRes.mono (execDevResetRelease_keeps s) rfl
  | coreRelease a0 => exact KeepsRes.mono (execCoreRelease_keeps a0 s) rfl
  | devrstAssert => exact KeepsRes.mono (execDevrstAssert_keeps s) rfl
  | watchdogExpiry a0 => exact KeepsRes.mono (execWatchdogExpiry_keeps a0 s) rfl
  | watchdogKick => exact KeepsRes.mono (execWatchdogKick_keeps s) rfl
  | fatalReset => exact KeepsRes.mono (execFatalReset_keeps s) rfl
  | faultRelease => exact KeepsRes.mono (execFaultRelease_keeps s) rfl
  | heartbeatToggle => exact KeepsRes.mono (execHeartbeatToggle_keeps s) rfl
  | heartbeatLoss => exact KeepsRes.mono (execHeartbeatLoss_keeps s) rfl
  | invarEnable => exact KeepsRes.mono (execInvarEnable_keeps s) rfl
  | invarDisable => exact KeepsRes.mono (execInvarDisable_keeps s) rfl
  | samSearch a0 a1 a2 a3 a4 a5 a6 => exact KeepsRes.mono (execSamSearch_keeps a0 a1 a2 a3 a4 a5 a6 s) rfl
  | headLock a0 a1 => exact KeepsRes.mono (execHeadLock_keeps a0 a1 s) rfl
  | headLockLoss a0 a1 => exact KeepsRes.mono (execHeadLockLoss_keeps a0 a1 s) rfl
  | holdoverExpiry => exact KeepsRes.mono (execHoldoverExpiry_keeps s) rfl
  | skewWrite a0 a1 => exact KeepsRes.mono (execSkewWrite_keeps a0 a1 s) rfl
  | ringEntryCommit a0 a1 a2 => exact KeepsRes.mono (execRingEntryCommit_keeps a0 a1 a2 s) rfl
  | ringCancel a0 a1 => exact KeepsRes.mono (execRingCancel_keeps a0 a1 s) rfl
  | wgOpen a0 => exact KeepsRes.mono (execWgOpen_keeps a0 s) rfl
  | wgClose a0 => exact KeepsRes.mono (execWgClose_keeps a0 s) rfl
  | aeOn a0 => exact KeepsRes.mono (execAeOn_keeps a0 s) rfl
  | aeOff a0 => exact KeepsRes.mono (execAeOff_keeps a0 s) rfl
  | rgOpen a0 => exact KeepsRes.mono (execRgOpen_keeps a0 s) rfl
  | rgClose a0 => exact KeepsRes.mono (execRgClose_keeps a0 s) rfl
  | quietOpen a0 => exact KeepsRes.mono (execQuietOpen_keeps a0 s) rfl
  | quietOpenDeferred a0 => exact KeepsRes.mono (execQuietOpenDeferred_keeps a0 s) rfl
  | quietClose a0 => exact KeepsRes.mono (execQuietClose_keeps a0 s) rfl
  | engWake a0 => exact KeepsRes.mono (execEngWake_keeps a0 s) rfl
  | dmaStart a0 => exact KeepsRes.mono (execDmaStart_keeps a0 s) rfl
  | coreIrq a0 => exact KeepsRes.mono (execCoreIrq_keeps a0 s) rfl
  | commut => exact KeepsRes.mono (execCommut_keeps s) rfl
  | wallTimerExpiry a0 => exact KeepsRes.mono (execWallTimerExpiry_keeps a0 s) rfl
  | rewriteOvfClear a0 => exact KeepsRes.mono (execRewriteOvfClear_keeps a0 s) rfl
  | rewritePop a0 => exact KeepsRes.mono (execRewritePop_keeps a0 s) rfl
  | quenchAutoRelease a0 a1 => exact KeepsRes.mono (execQuenchAutoRelease_keeps a0 a1 s) rfl
  | quenchRelease a0 => exact KeepsRes.mono (execQuenchRelease_keeps a0 s) rfl
  | quenchHold a0 => exact KeepsRes.mono (execQuenchHold_keeps a0 s) rfl
  | swreq a0 => exact KeepsRes.mono (execSwreq_keeps a0 s) rfl
  | quenchTestPulse a0 => exact KeepsRes.mono (execQuenchTestPulse_keeps a0 s) rfl
  | cmdStart => exact KeepsRes.mono (execCmdStart_keeps s) rfl
  | cmdStop => exact KeepsRes.mono (execCmdStop_keeps s) rfl
  | cmdFloat => exact KeepsRes.mono (execCmdFloat_keeps s) rfl
  | senseDone a0 a1 a2 => exact KeepsRes.mono (execSenseDone_keeps a0 a1 a2 s) rfl
  | brakeDone a0 => exact KeepsRes.mono (execBrakeDone_keeps a0 s) rfl
  | locateAttemptDone a0 a1 a2 => exact KeepsRes.mono (execLocateAttemptDone_keeps a0 a1 a2 s) rfl
  | locateRetry => exact KeepsRes.mono (execLocateRetry_keeps s) rfl
  | rampTimeout => exact KeepsRes.mono (execRampTimeout_keeps s) rfl
  | zeroCrossing a0 a1 a2 => exact KeepsRes.mono (execZeroCrossing_keeps a0 a1 a2 s) rfl
  | observerLock a0 => exact KeepsRes.mono (execObserverLock_keeps a0 s) rfl
  | observerLockLoss => exact KeepsRes.mono (execObserverLockLoss_keeps s) rfl
  | selfTimedCommutation => exact KeepsRes.mono (execSelfTimedCommutation_keeps s) rfl
  | speedReached a0 => exact KeepsRes.mono (execSpeedReached_keeps a0 s) rfl
  | coastMeasDone a0 a1 => exact KeepsRes.mono (execCoastMeasDone_keeps a0 a1 s) rfl
  | speedTargetWrite a0 => exact KeepsRes.mono (execSpeedTargetWrite_keeps a0 s) rfl
  | slewEntry => exact KeepsRes.mono (execSlewEntry_keeps s) rfl
  | reacqTimeout => exact KeepsRes.mono (execReacqTimeout_keeps s) rfl
  | reacqBrake => exact KeepsRes.mono (execReacqBrake_keeps s) rfl
  | reacqRetractTimeout => exact KeepsRes.mono (execReacqRetractTimeout_keeps s) rfl
  | stoppingDone a0 => exact KeepsRes.mono (execStoppingDone_keeps a0 s) rfl
  | rectifyFloor a0 => exact KeepsRes.mono (execRectifyFloor_keeps a0 s) rfl
  | rectifyRecovery => exact KeepsRes.mono (execRectifyRecovery_keeps s) rfl
  | holdupUpdate a0 => exact KeepsRes.mono (execHoldupUpdate_keeps a0 s) rfl
  | spnJWrite a0 => exact KeepsRes.mono (execSpnJWrite_keeps a0 s) rfl
  | spinPermitChange a0 => exact KeepsRes.mono (execSpinPermitChange_keeps a0 s) rfl
  | servoEnable a0 => exact KeepsRes.mono (execServoEnable_keeps a0 s) rfl
  | servoDisable a0 => exact KeepsRes.mono (execServoDisable_keeps a0 s) rfl
  | preampFrameDone a0 a1 => exact KeepsRes.mono (execPreampFrameDone_keeps a0 a1 s) rfl
  | paCmdGo a0 a1 => exact KeepsRes.mono (execPaCmdGo_keeps a0 a1 s) rfl
  | headSelect a0 a1 => exact KeepsRes.mono (execHeadSelect_keeps a0 a1 s) rfl
  | hsSettleDone a0 a1 => exact KeepsRes.mono (execHsSettleDone_keeps a0 a1 s) rfl
  | positionWord a0 a1 a2 a3 a4 a5 a6 a7 a8 a9 => exact KeepsRes.mono (execPositionWord_keeps a0 a1 a2 a3 a4 a5 a6 a7 a8 a9 s) rfl
  | coefSwap a0 => exact KeepsRes.mono (execCoefSwap_keeps a0 s) rfl
  | leadHandover a0 => exact KeepsRes.mono (execLeadHandover_keeps a0 s) rfl
  | shockSample a0 a1 a2 a3 => exact KeepsRes.mono (execShockSample_keeps a0 a1 a2 a3 s) rfl
  | freefallDetect a0 => exact KeepsRes.mono (execFreefallDetect_keeps a0 s) rfl
  | preampFault a0 => exact KeepsRes.mono (execPreampFault_keeps a0 s) rfl
  | seekGo a0 a1 => exact KeepsRes.mono (execSeekGo_keeps a0 a1 s) rfl
  | seekGrantTimeout a0 => exact KeepsRes.mono (execSeekGrantTimeout_keeps a0 s) rfl
  | trajectoryEnd a0 => exact KeepsRes.mono (execTrajectoryEnd_keeps a0 s) rfl
  | seekSettleDone a0 => exact KeepsRes.mono (execSeekSettleDone_keeps a0 s) rfl
  | seekSettleTimeout a0 => exact KeepsRes.mono (execSeekSettleTimeout_keeps a0 s) rfl
  | cmdLoad a0 => exact KeepsRes.mono (execCmdLoad_keeps a0 s) rfl
  | loadTimeout a0 => exact KeepsRes.mono (execLoadTimeout_keeps a0 s) rfl
  | cmdUnload a0 => exact KeepsRes.mono (execCmdUnload_keeps a0 s) rfl
  | unloadPark a0 => exact KeepsRes.mono (execUnloadPark_keeps a0 s) rfl
  | unloadTimeout a0 => exact KeepsRes.mono (execUnloadTimeout_keeps a0 s) rfl
  | cmdRetract a0 => exact KeepsRes.mono (execCmdRetract_keeps a0 s) rfl
  | retractRequest a0 => exact KeepsRes.mono (execRetractRequest_keeps a0 s) rfl
  | retractHoldStart a0 => exact KeepsRes.mono (execRetractHoldStart_keeps a0 s) rfl
  | retractDone a0 => exact KeepsRes.mono (execRetractDone_keeps a0 s) rfl
  | writeDescriptorCommit a0 a1 a2 => exact KeepsRes.mono (execWriteDescriptorCommit_keeps a0 a1 a2 s) rfl
  | descriptorReady a0 a1 => exact KeepsRes.mono (execDescriptorReady_keeps a0 a1 s) rfl
  | wrEndGuard a0 a1 => exact KeepsRes.mono (execWrEndGuard_keeps a0 a1 s) rfl
  | wrActiveSet a0 => exact KeepsRes.mono (execWrActiveSet_keeps a0 s) rfl
  | wrActiveClear a0 => exact KeepsRes.mono (execWrActiveClear_keeps a0 s) rfl
  | writeCompletionPop a0 => exact KeepsRes.mono (execWriteCompletionPop_keeps a0 s) rfl
  | wchTpSave a0 => exact KeepsRes.mono (execWchTpSave_keeps a0 s) rfl
  | wchTpRestore a0 => exact KeepsRes.mono (execWchTpRestore_keeps a0 s) rfl
  | wchTpClear a0 => exact KeepsRes.mono (execWchTpClear_keeps a0 s) rfl
  | rateZoneWrite a0 a1 a2 a3 a4 => exact KeepsRes.mono (execRateZoneWrite_keeps a0 a1 a2 a3 a4 s) rfl
  | tprSend a0 a1 => exact KeepsRes.mono (execTprSend_keeps a0 a1 s) rfl
  | readDescriptorCommit a0 a1 a2 => exact KeepsRes.mono (execReadDescriptorCommit_keeps a0 a1 a2 s) rfl
  | captureSpanEnd a0 a1 a2 a3 a4 a5 a6 a7 a8 a9 a10 => exact KeepsRes.mono (execCaptureSpanEnd_keeps a0 a1 a2 a3 a4 a5 a6 a7 a8 a9 a10 s) rfl
  | inlineDecodeDone a0 a1 => exact KeepsRes.mono (execInlineDecodeDone_keeps a0 a1 s) rfl
  | readCompletionPop a0 => exact KeepsRes.mono (execReadCompletionPop_keeps a0 s) rfl
  | activeSetLoad a0 a1 => exact KeepsRes.mono (execActiveSetLoad_keeps a0 a1 s) rfl
  | activeSetCopy a0 => exact KeepsRes.mono (execActiveSetCopy_keeps a0 s) rfl
  | xbarWrite a0 => exact KeepsRes.mono (execXbarWrite_keeps a0 s) rfl
  | deepJobCommit a0 a1 => exact KeepsRes.mono (execDeepJobCommit_keeps a0 a1 s) rfl
  | deepJobStart => exact KeepsRes.mono (execDeepJobStart_keeps s) rfl
  | deepJobDone a0 a1 a2 a3 => exact KeepsRes.mono (execDeepJobDone_keeps a0 a1 a2 a3 s) rfl
  | deepCompletionPop => exact KeepsRes.mono (execDeepCompletionPop_keeps s) rfl
  | sampleSlotPin a0 a1 => exact KeepsRes.mono (execSampleSlotPin_keeps a0 a1 s) rfl
  | sampleSlotUnpin a0 a1 => exact KeepsRes.mono (execSampleSlotUnpin_keeps a0 a1 s) rfl
  | rebuild a0 a1 => exact KeepsRes.mono (execRebuild_keeps a0 a1 s) rfl
  | rchTpSave a0 => exact KeepsRes.mono (execRchTpSave_keeps a0 s) rfl
  | rchTpRestore a0 => exact KeepsRes.mono (execRchTpRestore_keeps a0 s) rfl
  | rchTpClear a0 => exact KeepsRes.mono (execRchTpClear_keeps a0 s) rfl
  | decoderRebind a0 => exact KeepsRes.mono (execDecoderRebind_keeps a0 s) rfl
  | retryLadder a0 a1 a2 a3 a4 => exact KeepsRes.mono (execRetryLadder_keeps a0 a1 a2 a3 a4 s) rfl
  | frameRewrite a0 a1 a2 => exact KeepsRes.mono (execFrameRewrite_keeps a0 a1 a2 s) rfl
  | lookupCommit a0 a1 => exact KeepsRes.mono (execLookupCommit_keeps a0 a1 s) rfl
  | lookupDone a0 a1 => exact KeepsRes.mono (execLookupDone_keeps a0 a1 s) rfl
  | lookupCompletionPop => exact KeepsRes.mono (execLookupCompletionPop_keeps s) rfl
  | recordCommit a0 => exact KeepsRes.mono (execRecordCommit_keeps a0 s) rfl
  | recordApplied => exact KeepsRes.mono (execRecordApplied_keeps s) rfl
  | invAll => exact KeepsRes.mono (execInvAll_keeps s) rfl
  | cacheEnable => exact KeepsRes.mono (execCacheEnable_keeps s) rfl
  | rangeInvalidate a0 => exact KeepsRes.mono (execRangeInvalidate_keeps a0 s) rfl
  | lineLock a0 => exact KeepsRes.mono (execLineLock_keeps a0 s) rfl
  | lineUnlock a0 => exact KeepsRes.mono (execLineUnlock_keeps a0 s) rfl
  | wayDisable a0 => exact KeepsRes.mono (execWayDisable_keeps a0 s) rfl
  | checkpoint => exact KeepsRes.mono (execCheckpoint_keeps s) rfl
  | mapRebuild a0 a1 a2 a3 a4 a5 a6 => exact KeepsRes.mono (execMapRebuild_keeps a0 a1 a2 a3 a4 a5 a6 s) rfl
  | cleaning a0 a1 a2 a3 => exact KeepsRes.mono (execCleaning_keeps a0 a1 a2 a3 s) rfl
  | compaction a0 a1 a2 a3 a4 a5 a6 => exact KeepsRes.mono (execCompaction_keeps a0 a1 a2 a3 a4 a5 a6 s) rfl
  | sectorRelocation a0 a1 a2 a3 => exact KeepsRes.mono (execSectorRelocation_keeps a0 a1 a2 a3 s) rfl
  | cmpJobCommit a0 a1 => exact KeepsRes.mono (execCmpJobCommit_keeps a0 a1 s) rfl
  | cmpJobStart a0 => exact KeepsRes.mono (execCmpJobStart_keeps a0 s) rfl
  | cmpJobDone a0 => exact KeepsRes.mono (execCmpJobDone_keeps a0 s) rfl
  | cmpAbort a0 => exact KeepsRes.mono (execCmpAbort_keeps a0 s) rfl
  | cmpDisable a0 a1 => exact KeepsRes.mono (execCmpDisable_keeps a0 a1 s) rfl
  | cmpCompletionPop => exact KeepsRes.mono (execCmpCompletionPop_keeps s) rfl
  | mmioDoorbell a0 a1 a2 a3 => exact KeepsRes.mono (execMmioDoorbell_keeps a0 a1 a2 a3 s) rfl
  | shadowDoorbellPoll a0 a1 => exact KeepsRes.mono (execShadowDoorbellPoll_keeps a0 a1 s) rfl
  | pollIdleTimeout a0 => exact KeepsRes.mono (execPollIdleTimeout_keeps a0 s) rfl
  | commandFetch a0 a1 a2 a3 => exact KeepsRes.mono (execCommandFetch_keeps a0 a1 a2 a3 s) rfl
  | rltGrant a0 a1 a2 => exact KeepsRes.mono (execRltGrant_keeps a0 a1 a2 s) rfl
  | commandCommit a0 a1 a2 a3 => exact KeepsRes.mono (execCommandCommit_keeps a0 a1 a2 a3 s) rfl
  | cqEntryPost a0 a1 => exact KeepsRes.mono (execCqEntryPost_keeps a0 a1 s) rfl
  | deleteIoSq a0 a1 => exact KeepsRes.mono (execDeleteIoSq_keeps a0 a1 s) rfl
  | createIoSq a0 a1 => exact KeepsRes.mono (execCreateIoSq_keeps a0 a1 s) rfl
  | getLogPage a0 a1 => exact KeepsRes.mono (execGetLogPage_keeps a0 a1 s) rfl
  | deleteIoCq a0 a1 => exact KeepsRes.mono (execDeleteIoCq_keeps a0 a1 s) rfl
  | createIoCq a0 a1 => exact KeepsRes.mono (execCreateIoCq_keeps a0 a1 s) rfl
  | identify a0 a1 => exact KeepsRes.mono (execIdentify_keeps a0 a1 s) rfl
  | abort a0 a1 => exact KeepsRes.mono (execAbort_keeps a0 a1 s) rfl
  | setFeatures a0 a1 a2 => exact KeepsRes.mono (execSetFeatures_keeps a0 a1 a2 s) rfl
  | strictErrorMode a0 a1 => exact KeepsRes.mono (execStrictErrorMode_keeps a0 a1 s) rfl
  | assayDuty a0 a1 => exact KeepsRes.mono (execAssayDuty_keeps a0 a1 s) rfl
  | powerManagement a0 a1 => exact KeepsRes.mono (execPowerManagement_keeps a0 a1 s) rfl
  | autonomousPowerStateTransition a0 a1 a2 => exact KeepsRes.mono (execAutonomousPowerStateTransition_keeps a0 a1 a2 s) rfl
  | getFeatures a0 a1 => exact KeepsRes.mono (execGetFeatures_keeps a0 a1 s) rfl
  | asynchronousEventRequest a0 a1 => exact KeepsRes.mono (execAsynchronousEventRequest_keeps a0 a1 s) rfl
  | namespaceManagement a0 a1 a2 a3 a4 a5 a6 a7 => exact KeepsRes.mono (execNamespaceManagement_keeps a0 a1 a2 a3 a4 a5 a6 a7 s) rfl
  | namespaceAttachment a0 a1 a2 => exact KeepsRes.mono (execNamespaceAttachment_keeps a0 a1 a2 s) rfl
  | firmwareImageDownload a0 a1 a2 => exact KeepsRes.mono (execFirmwareImageDownload_keeps a0 a1 a2 s) rfl
  | fwCommitReplace a0 a1 => exact KeepsRes.mono (execFwCommitReplace_keeps a0 a1 s) rfl
  | fwCommitReplacePending a0 a1 => exact KeepsRes.mono (execFwCommitReplacePending_keeps a0 a1 s) rfl
  | fwCommitPending a0 a1 => exact KeepsRes.mono (execFwCommitPending_keeps a0 a1 s) rfl
  | fwCommitActivate a0 a1 => exact KeepsRes.mono (execFwCommitActivate_keeps a0 a1 s) rfl
  | activationDrainEnd => exact KeepsRes.mono (execActivationDrainEnd_keeps s) rfl
  | activationDrainLimit => exact KeepsRes.mono (execActivationDrainLimit_keeps s) rfl
  | activationStopEnd => exact KeepsRes.mono (execActivationStopEnd_keeps s) rfl
  | activationLoadEnd => exact KeepsRes.mono (execActivationLoadEnd_keeps s) rfl
  | activationResume a0 => exact KeepsRes.mono (execActivationResume_keeps a0 s) rfl
  | doorbellBufferConfig a0 a1 => exact KeepsRes.mono (execDoorbellBufferConfig_keeps a0 a1 s) rfl
  | formatNvm a0 a1 a2 => exact KeepsRes.mono (execFormatNvm_keeps a0 a1 a2 s) rfl
  | formatUserDataErase a0 a1 a2 => exact KeepsRes.mono (execFormatUserDataErase_keeps a0 a1 a2 s) rfl
  | formatCryptoErase a0 a1 a2 => exact KeepsRes.mono (execFormatCryptoErase_keeps a0 a1 a2 s) rfl
  | sanitizeCryptoErase a0 a1 a2 => exact KeepsRes.mono (execSanitizeCryptoErase_keeps a0 a1 a2 s) rfl
  | sanitizeBlockErase a0 a1 a2 => exact KeepsRes.mono (execSanitizeBlockErase_keeps a0 a1 a2 s) rfl
  | sanitizeOverwrite a0 a1 => exact KeepsRes.mono (execSanitizeOverwrite_keeps a0 a1 s) rfl
  | thawResume a0 a1 => exact KeepsRes.mono (execThawResume_keeps a0 a1 s) rfl
  | thawDiscardHeld a0 a1 => exact KeepsRes.mono (execThawDiscardHeld_keeps a0 a1 s) rfl
  | thawDiscardAll a0 a1 a2 => exact KeepsRes.mono (execThawDiscardAll_keeps a0 a1 a2 s) rfl
  | enable a0 a1 => exact KeepsRes.mono (execEnable_keeps a0 a1 s) rfl
  | debugToken a0 a1 a2 a3 => exact KeepsRes.mono (execDebugToken_keeps a0 a1 a2 a3 s) rfl
  | attest a0 a1 a2 => exact KeepsRes.mono (execAttest_keeps a0 a1 a2 s) rfl
  | reportReceive a0 a1 => exact KeepsRes.mono (execReportReceive_keeps a0 a1 s) rfl
  | identityReceive a0 a1 => exact KeepsRes.mono (execIdentityReceive_keeps a0 a1 s) rfl
  | keyInfoReceive a0 a1 => exact KeepsRes.mono (execKeyInfoReceive_keeps a0 a1 s) rfl
  | challengeReceive a0 a1 => exact KeepsRes.mono (execChallengeReceive_keeps a0 a1 s) rfl
  | protocolList a0 a1 => exact KeepsRes.mono (execProtocolList_keeps a0 a1 s) rfl
  | flush a0 a1 a2 => exact KeepsRes.mono (execFlush_keeps a0 a1 a2 s) rfl
  | write a0 a1 a2 a3 a4 a5 => exact KeepsRes.mono (execWrite_keeps a0 a1 a2 a3 a4 a5 s) rfl
  | read a0 a1 a2 a3 a4 => exact KeepsRes.mono (execRead_keeps a0 a1 a2 a3 a4 s) rfl
  | writeUncorrectable a0 a1 a2 a3 => exact KeepsRes.mono (execWriteUncorrectable_keeps a0 a1 a2 a3 s) rfl
  | compare a0 a1 a2 a3 a4 a5 => exact KeepsRes.mono (execCompare_keeps a0 a1 a2 a3 a4 a5 s) rfl
  | writeZeroes a0 a1 a2 a3 => exact KeepsRes.mono (execWriteZeroes_keeps a0 a1 a2 a3 s) rfl
  | datasetManagement a0 a1 a2 a3 => exact KeepsRes.mono (execDatasetManagement_keeps a0 a1 a2 a3 s) rfl
  | verify a0 a1 a2 a3 a4 => exact KeepsRes.mono (execVerify_keeps a0 a1 a2 a3 a4 s) rfl
  | zoneClose a0 a1 a2 a3 => exact KeepsRes.mono (execZoneClose_keeps a0 a1 a2 a3 s) rfl
  | zoneFinish a0 a1 a2 a3 => exact KeepsRes.mono (execZoneFinish_keeps a0 a1 a2 a3 s) rfl
  | zoneOpen a0 a1 a2 a3 => exact KeepsRes.mono (execZoneOpen_keeps a0 a1 a2 a3 s) rfl
  | zoneReset a0 a1 a2 a3 => exact KeepsRes.mono (execZoneReset_keeps a0 a1 a2 a3 s) rfl
  | zoneOffline a0 a1 a2 a3 => exact KeepsRes.mono (execZoneOffline_keeps a0 a1 a2 a3 s) rfl
  | zoneManagementReceive a0 a1 a2 => exact KeepsRes.mono (execZoneManagementReceive_keeps a0 a1 a2 s) rfl
  | zoneAppend a0 a1 a2 a3 a4 a5 => exact KeepsRes.mono (execZoneAppend_keeps a0 a1 a2 a3 a4 a5 s) rfl
  | controllerEnable a0 a1 a2 a3 => exact KeepsRes.mono (execControllerEnable_keeps a0 a1 a2 a3 s) rfl
  | controllerReset a0 => exact KeepsRes.mono (execControllerReset_keeps a0 s) rfl
  | functionLevelReset a0 => exact KeepsRes.mono (execFunctionLevelReset_keeps a0 s) rfl
  | normalShutdown a0 => exact KeepsRes.mono (execNormalShutdown_keeps a0 s) rfl
  | abruptShutdown a0 => exact KeepsRes.mono (execAbruptShutdown_keeps a0 s) rfl
  | nvmSubsystemReset a0 => exact KeepsRes.mono (execNvmSubsystemReset_keeps a0 s) rfl
  | perstAssert a0 => exact KeepsRes.mono (execPerstAssert_keeps a0 s) rfl
  | hotReset a0 => exact KeepsRes.mono (execHotReset_keeps a0 s) rfl
  | linkTrainingStart a0 a1 => exact KeepsRes.mono (execLinkTrainingStart_keeps a0 a1 s) rfl
  | allocClean a0 a1 => exact KeepsRes.mono (execAllocClean_keeps a0 a1 s) rfl
  | allocDirty a0 a1 => exact KeepsRes.mono (execAllocDirty_keeps a0 a1 s) rfl
  | ref a0 a1 a2 => exact KeepsRes.mono (execRef_keeps a0 a1 a2 s) rfl
  | unref a0 a1 a2 => exact KeepsRes.mono (execUnref_keeps a0 a1 a2 s) rfl
  | clean a0 a1 a2 => exact KeepsRes.mono (execClean_keeps a0 a1 a2 s) rfl
  | cleanUnref a0 a1 a2 => exact KeepsRes.mono (execCleanUnref_keeps a0 a1 a2 s) rfl
  | restore a0 a1 a2 => exact KeepsRes.mono (execRestore_keeps a0 a1 a2 s) rfl
  | dmaCopy a0 => exact KeepsRes.mono (execDmaCopy_keeps a0 s) rfl
  | dmaFill a0 => exact KeepsRes.mono (execDmaFill_keeps a0 s) rfl
  | dmaJobEnd a0 => exact KeepsRes.mono (execDmaJobEnd_keeps a0 s) rfl
  | scrubRead a0 a1 => exact KeepsRes.mono (execScrubRead_keeps a0 a1 s) rfl
  | rowRepair a0 a1 => exact KeepsRes.mono (execRowRepair_keeps a0 a1 s) rfl
  | regionRetire a0 a1 => exact KeepsRes.mono (execRegionRetire_keeps a0 a1 s) rfl
  | vaultReadPage a0 a1 a2 a3 a4 a5 => exact KeepsRes.mono (execVaultReadPage_keeps a0 a1 a2 a3 a4 a5 s) rfl
  | vaultProgramPage a0 a1 a2 a3 a4 a5 => exact KeepsRes.mono (execVaultProgramPage_keeps a0 a1 a2 a3 a4 a5 s) rfl
  | vaultEraseBlock a0 a1 a2 => exact KeepsRes.mono (execVaultEraseBlock_keeps a0 a1 a2 s) rfl
  | vaultCommandDone a0 a1 a2 => exact KeepsRes.mono (execVaultCommandDone_keeps a0 a1 a2 s) rfl
  | vaultCompletionPop => exact KeepsRes.mono (execVaultCompletionPop_keeps s) rfl
  | saveTrailerDone => exact KeepsRes.mono (execSaveTrailerDone_keeps s) rfl
  | saveReplay a0 a1 a2 a3 => exact KeepsRes.mono (execSaveReplay_keeps a0 a1 a2 a3 s) rfl
  | next a0 => exact KeepsRes.mono (execNext_keeps a0 s) rfl
  | jump a0 => exact KeepsRes.mono (execJump_keeps a0 s) rfl
  | branch a0 => exact KeepsRes.mono (execBranch_keeps a0 s) rfl
  | call a0 => exact KeepsRes.mono (execCall_keeps a0 s) rfl
  | ccall a0 => exact KeepsRes.mono (execCcall_keeps a0 s) rfl
  | ret a0 => exact KeepsRes.mono (execRet_keeps a0 s) rfl
  | cret a0 => exact KeepsRes.mono (execCret_keeps a0 s) rfl
  | dispatch a0 => exact KeepsRes.mono (execDispatch_keeps a0 s) rfl
  | wait a0 => exact KeepsRes.mono (execWait_keeps a0 s) rfl
  | loop a0 => exact KeepsRes.mono (execLoop_keeps a0 s) rfl
  | reti a0 => exact KeepsRes.mono (execReti_keeps a0 s) rfl
  | halt a0 => exact KeepsRes.mono (execHalt_keeps a0 s) rfl
  | busReadReturn a0 a1 => exact KeepsRes.mono (execBusReadReturn_keeps a0 a1 s) rfl
  | interruptEntry a0 => exact KeepsRes.mono (execInterruptEntry_keeps a0 s) rfl
  | commitGapExceeded a0 => exact KeepsRes.mono (execCommitGapExceeded_keeps a0 s) rfl
  | interruptLimitExceeded a0 => exact KeepsRes.mono (execInterruptLimitExceeded_keeps a0 s) rfl
  | migrationGo a0 => exact KeepsRes.mono (execMigrationGo_keeps a0 s) rfl
  | migrationPreloadDone a0 => exact KeepsRes.mono (execMigrationPreloadDone_keeps a0 s) rfl
  | migrationFreeze a0 => exact KeepsRes.mono (execMigrationFreeze_keeps a0 s) rfl
  | roleStart a0 => exact KeepsRes.mono (execRoleStart_keeps a0 s) rfl
  | roleLoadDone a0 => exact KeepsRes.mono (execRoleLoadDone_keeps a0 s) rfl
  | engineHalt a0 => exact KeepsRes.mono (execEngineHalt_keeps a0 s) rfl
  | engineResume a0 => exact KeepsRes.mono (execEngineResume_keeps a0 s) rfl
  | engineSpare a0 => exact KeepsRes.mono (execEngineSpare_keeps a0 s) rfl
  | engineRetire a0 => exact KeepsRes.mono (execEngineRetire_keeps a0 s) rfl
  | enginesDisable => exact KeepsRes.mono (execEnginesDisable_keeps s) rfl
  | roleDoorbell a0 a1 => exact KeepsRes.mono (execRoleDoorbell_keeps a0 a1 s) rfl
  | controlStoreWrite a0 a1 a2 a3 a4 => exact KeepsRes.mono (execControlStoreWrite_keeps a0 a1 a2 a3 a4 s) rfl
  | permitRequest a0 a1 => exact KeepsRes.mono (execPermitRequest_keeps a0 a1 s) rfl
  | permitRelease a0 a1 => exact KeepsRes.mono (execPermitRelease_keeps a0 a1 s) rfl
  | requestDeadline a0 => exact KeepsRes.mono (execRequestDeadline_keeps a0 s) rfl
  | grantExpiry a0 => exact KeepsRes.mono (execGrantExpiry_keeps a0 s) rfl
  | permitIdleRelease a0 => exact KeepsRes.mono (execPermitIdleRelease_keeps a0 s) rfl
  | leaseWrite a0 a1 a2 => exact KeepsRes.mono (execLeaseWrite_keeps a0 a1 a2 s) rfl
  | leaseEnd a0 => exact KeepsRes.mono (execLeaseEnd_keeps a0 s) rfl
  | supplyWarning a0 => exact KeepsRes.mono (execSupplyWarning_keeps a0 s) rfl
  | supplyWarningClear => exact KeepsRes.mono (execSupplyWarningClear_keeps s) rfl
  | supplyResetLevel a0 => exact KeepsRes.mono (execSupplyResetLevel_keeps a0 s) rfl
  | overCurrent a0 => exact KeepsRes.mono (execOverCurrent_keeps a0 s) rfl
  | emergencyWrite => exact KeepsRes.mono (execEmergencyWrite_keeps s) rfl
  | emergencyClear => exact KeepsRes.mono (execEmergencyClear_keeps s) rfl
  | holdupCollapse a0 => exact KeepsRes.mono (execHoldupCollapse_keeps a0 s) rfl
  | powerStateRequest a0 => exact KeepsRes.mono (execPowerStateRequest_keeps a0 s) rfl
  | powerStepDone => exact KeepsRes.mono (execPowerStepDone_keeps s) rfl
  | powerStepRefused a0 => exact KeepsRes.mono (execPowerStepRefused_keeps a0 s) rfl
  | apstIdleTimeout a0 => exact KeepsRes.mono (execApstIdleTimeout_keeps a0 s) rfl
  | wakeRetry => exact KeepsRes.mono (execWakeRetry_keeps s) rfl
  | pllEnable a0 => exact KeepsRes.mono (execPllEnable_keeps a0 s) rfl
  | pllLock a0 => exact KeepsRes.mono (execPllLock_keeps a0 s) rfl
  | pllUnlock a0 => exact KeepsRes.mono (execPllUnlock_keeps a0 s) rfl
  | synthUnlock a0 => exact KeepsRes.mono (execSynthUnlock_keeps a0 s) rfl
  | monitorWindow a0 a1 => exact KeepsRes.mono (execMonitorWindow_keeps a0 a1 s) rfl
  | clockSwitch a0 a1 => exact KeepsRes.mono (execClockSwitch_keeps a0 a1 s) rfl
  | clockSwitchDone a0 => exact KeepsRes.mono (execClockSwitchDone_keeps a0 s) rfl
  | forcedSwitch a0 => exact KeepsRes.mono (execForcedSwitch_keeps a0 s) rfl
  | clockGate a0 => exact KeepsRes.mono (execClockGate_keeps a0 s) rfl
  | gateForce a0 => exact KeepsRes.mono (execGateForce_keeps a0 s) rfl
  | temperatureConversion a0 a1 => exact KeepsRes.mono (execTemperatureConversion_keeps a0 a1 s) rfl
  | thermalResume => exact KeepsRes.mono (execThermalResume_keeps s) rfl
  | autoResume => exact KeepsRes.mono (execAutoResume_keeps s) rfl
  | calDueEvaluation => exact KeepsRes.mono (execCalDueEvaluation_keeps s) rfl
  | calDone a0 => exact KeepsRes.mono (execCalDone_keeps a0 s) rfl
  | accumulate a0 => exact KeepsRes.mono (execAccumulate_keeps a0 s) rfl
  | accDone a0 a1 => exact KeepsRes.mono (execAccDone_keeps a0 a1 s) rfl
  | calApply a0 a1 => exact KeepsRes.mono (execCalApply_keeps a0 a1 s) rfl
  | assayStepStart a0 a1 a2 => exact KeepsRes.mono (execAssayStepStart_keeps a0 a1 a2 s) rfl
  | assayStepDone a0 a1 a2 a3 => exact KeepsRes.mono (execAssayStepDone_keeps a0 a1 a2 a3 s) rfl
  | assayYield a0 a1 => exact KeepsRes.mono (execAssayYield_keeps a0 a1 s) rfl
  | channelSubstitution a0 => exact KeepsRes.mono (execChannelSubstitution_keeps a0 s) rfl
  | patinaRecord => exact KeepsRes.mono (execPatinaRecord_keeps s) rfl
  | patinaSw a0 => exact KeepsRes.mono (execPatinaSw_keeps a0 s) rfl
  | patinaVaultCopy a0 => exact KeepsRes.mono (execPatinaVaultCopy_keeps a0 s) rfl
  | opsecWrite a0 => exact KeepsRes.mono (execOpsecWrite_keeps a0 s) rfl
  | bypass => exact KeepsRes.mono (execBypass_keeps s) rfl
  | idcode => exact KeepsRes.mono (execIdcode_keeps s) rfl
  | samplePreload a0 => exact KeepsRes.mono (execSamplePreload_keeps a0 s) rfl
  | extest => exact KeepsRes.mono (execExtest_keeps s) rfl
  | clamp => exact KeepsRes.mono (execClamp_keeps s) rfl
  | highz => exact KeepsRes.mono (execHighz_keeps s) rfl
  | portEnable a0 => exact KeepsRes.mono (execPortEnable_keeps a0 s) rfl
  | trainLock a0 => exact KeepsRes.mono (execTrainLock_keeps a0 s) rfl
  | trainTimeout a0 => exact KeepsRes.mono (execTrainTimeout_keeps a0 s) rfl
  | frameAlign a0 => exact KeepsRes.mono (execFrameAlign_keeps a0 s) rfl
  | alignTimeout a0 => exact KeepsRes.mono (execAlignTimeout_keeps a0 s) rfl
  | helloSend a0 => exact KeepsRes.mono (execHelloSend_keeps a0 s) rfl
  | hello a0 a1 a2 a3 a4 => exact KeepsRes.mono (execHello_keeps a0 a1 a2 a3 a4 s) rfl
  | helloTimeout a0 => exact KeepsRes.mono (execHelloTimeout_keeps a0 s) rfl
  | linkFailure a0 a1 => exact KeepsRes.mono (execLinkFailure_keeps a0 a1 s) rfl
  | downRetry a0 => exact KeepsRes.mono (execDownRetry_keeps a0 s) rfl
  | portDisable a0 => exact KeepsRes.mono (execPortDisable_keeps a0 s) rfl
  | packetForward a0 a1 a2 a3 => exact KeepsRes.mono (execPacketForward_keeps a0 a1 a2 a3 s) rfl
  | lack a0 a1 a2 a3 => exact KeepsRes.mono (execLack_keeps a0 a1 a2 a3 s) rfl
  | lackSend a0 => exact KeepsRes.mono (execLackSend_keeps a0 s) rfl
  | replayTimeout a0 => exact KeepsRes.mono (execReplayTimeout_keeps a0 s) rfl
  | data a0 a1 a2 a3 a4 a5 a6 a7 a8 => exact KeepsRes.mono (execData_keeps a0 a1 a2 a3 a4 a5 a6 a7 a8 s) rfl
  | copyReq a0 a1 a2 a3 a4 a5 a6 a7 => exact KeepsRes.mono (execCopyReq_keeps a0 a1 a2 a3 a4 a5 a6 a7 s) rfl
  | copyResp a0 a1 a2 a3 a4 a5 a6 => exact KeepsRes.mono (execCopyResp_keeps a0 a1 a2 a3 a4 a5 a6 s) rfl
  | copyEnd a0 a1 a2 a3 a4 a5 a6 => exact KeepsRes.mono (execCopyEnd_keeps a0 a1 a2 a3 a4 a5 a6 s) rfl
  | leaseReq a0 a1 a2 a3 a4 a5 => exact KeepsRes.mono (execLeaseReq_keeps a0 a1 a2 a3 a4 a5 s) rfl
  | leaseGrant a0 a1 a2 a3 a4 a5 a6 => exact KeepsRes.mono (execLeaseGrant_keeps a0 a1 a2 a3 a4 a5 a6 s) rfl
  | leaseDeny a0 a1 a2 a3 a4 a5 => exact KeepsRes.mono (execLeaseDeny_keeps a0 a1 a2 a3 a4 a5 s) rfl
  | mbReq a0 a1 a2 a3 a4 a5 a6 => exact KeepsRes.mono (execMbReq_keeps a0 a1 a2 a3 a4 a5 a6 s) rfl
  | mbResp a0 a1 a2 a3 a4 => exact KeepsRes.mono (execMbResp_keeps a0 a1 a2 a3 a4 s) rfl
  | copyCommit a0 a1 => exact KeepsRes.mono (execCopyCommit_keeps a0 a1 s) rfl
  | pieceTimeout a0 a1 a2 => exact KeepsRes.mono (execPieceTimeout_keeps a0 a1 a2 s) rfl
  | copyTimeout a0 a1 => exact KeepsRes.mono (execCopyTimeout_keeps a0 a1 s) rfl
  | copyCompletionPop => exact KeepsRes.mono (execCopyCompletionPop_keeps s) rfl
  | mailboxCommit a0 a1 => exact KeepsRes.mono (execMailboxCommit_keeps a0 a1 s) rfl
  | mailboxTimeout a0 => exact KeepsRes.mono (execMailboxTimeout_keeps a0 s) rfl
  | messageSend a0 a1 => exact KeepsRes.mono (execMessageSend_keeps a0 a1 s) rfl
  | rxqPop => exact KeepsRes.mono (execRxqPop_keeps s) rfl
  | configLock => exact KeepsRes.mono (execConfigLock_keeps s) rfl
  | rollbackAdvance a0 => exact KeepsRes.mono (execRollbackAdvance_keeps a0 s) rfl
  | keyRevoke a0 => exact KeepsRes.mono (execKeyRevoke_keeps a0 s) rfl
  | imageVerify => exact KeepsRes.mono (execImageVerify_keeps s) rfl
  | activationRecordCommit a0 => exact KeepsRes.mono (execActivationRecordCommit_keeps a0 s) rfl
  | attestationStart => exact KeepsRes.mono (execAttestationStart_keeps s) rfl
  | attestationDone => exact KeepsRes.mono (execAttestationDone_keeps s) rfl
  | keyGenerate a0 a1 => exact KeepsRes.mono (execKeyGenerate_keeps a0 a1 s) rfl
  | keyLoad a0 a1 => exact KeepsRes.mono (execKeyLoad_keeps a0 a1 s) rfl
  | keyErase a0 a1 => exact KeepsRes.mono (execKeyErase_keeps a0 a1 s) rfl
  | keyUnload a0 => exact KeepsRes.mono (execKeyUnload_keeps a0 s) rfl
  | debugUnlock a0 a1 => exact KeepsRes.mono (execDebugUnlock_keeps a0 a1 s) rfl
  | debugChallenge => exact KeepsRes.mono (execDebugChallenge_keeps s) rfl
  | recoveryHeader a0 a1 a2 => exact KeepsRes.mono (execRecoveryHeader_keeps a0 a1 a2 s) rfl
  | recoveryGapTimeout a0 => exact KeepsRes.mono (execRecoveryGapTimeout_keeps a0 s) rfl
  | read32 a0 a1 a2 => exact KeepsRes.mono (execRead32_keeps a0 a1 a2 s) rfl
  | write32 a0 a1 a2 => exact KeepsRes.mono (execWrite32_keeps a0 a1 a2 s) rfl
  | patina a0 a1 a2 => exact KeepsRes.mono (execPatina_keeps a0 a1 a2 s) rfl
  | log a0 a1 a2 a3 => exact KeepsRes.mono (execLog_keeps a0 a1 a2 a3 s) rfl
  | info a0 a1 a2 => exact KeepsRes.mono (execInfo_keeps a0 a1 a2 s) rfl
  | viarumGapTimeout a0 => exact KeepsRes.mono (execViarumGapTimeout_keeps a0 s) rfl
  | nvmeMiBasic => exact KeepsRes.mono (execNvmeMiBasic_keeps s) rfl
  | miStatusUpdate => exact KeepsRes.mono (execMiStatusUpdate_keeps s) rfl
  | actledHoldExpiry => exact KeepsRes.mono (execActledHoldExpiry_keeps s) rfl
  | assayDutyWindowEnd => exact KeepsRes.mono (execAssayDutyWindowEnd_keeps s) rfl
  | hardwarePermitRenewal a0 => exact KeepsRes.mono (execHardwarePermitRenewal_keeps a0 s) rfl
  | captureSpanStart a0 a1 => exact KeepsRes.mono (execCaptureSpanStart_keeps a0 a1 s) rfl
  | microactuatorAtZero a0 a1 => exact KeepsRes.mono (execMicroactuatorAtZero_keeps a0 a1 s) rfl
  | synthLock a0 => exact KeepsRes.mono (execSynthLock_keeps a0 s) rfl
  | pcieLinkUp a0 a1 a2 a3 => exact KeepsRes.mono (execPcieLinkUp_keeps a0 a1 a2 a3 s) rfl
  | tapReset => exact KeepsRes.mono (execTapReset_keeps s) rfl

/-- Every command stays within `anyMask`. -/
theorem exec_keeps_any (i : Instr) (s : State) : KeepsRes anyMask s (exec i s) := by
  by_cases h : ∃ x y, i = .powerOn x y
  · obtain ⟨x, y, rfl⟩ := h
    exact KeepsRes.mono (execPowerOn_keeps _ _ s) rfl
  · exact KeepsRes.mono (exec_keeps i s fun x y e => h ⟨x, y, e⟩) rfl

/-- The idle step stays within `runMask`. -/
theorem idle_runs (s : State) : Keeps runMask s (idle s) := (idle_keeps s).mono rfl

end Sys2Proof.Machine
end

