-- ==== Sys2Proof/Tests/Slice0.lean ====
section
/-!
SUPPORT. Tests: the check of a command's form refuses an ill-formed command for each of its conditions; a few single steps give what
the manual's worked examples give; and, for every statement with hypotheses, a state and operands that meet them, clause by clause.
-/
namespace Sys2Proof.Tests.Slice0

open Sys2Proof Sys2Proof.Machine

set_option linter.unusedVariables false
set_option maxRecDepth 100000
set_option Elab.async false

/-- The state after reset. -/
abbrev R0 : State := State.reset

/-- A field after one command. -/
def fieldAfter (i : Instr) (s : State) (f : Fld) : Option Nat :=
  match exec i s with
  | .next t => some (t.raw f)
  | _ => none

/-! ### The form of a command -/

/-- Ill-formed parts: one field too wide each. -/
abbrev badRx : Rx := { (default : Rx) with lseq := 2 ^ 8 }
abbrev badSqe : Sqe := { (default : Sqe) with opc := 2 ^ 8 }
abbrev badRun : DecRun := { us := [], info := 2 ^ 33024 }
abbrev badTry : LadderTry := { (default : LadderTry) with status := 8 }

/-- Each check of a part of a command refuses a field that is too wide. -/
theorem test_wf_refuses_parts :
    [badRx, { (default : Rx) with corr := 2 ^ 16 }].all (fun x => !x.wf) = true ∧
    [badSqe, { (default : Sqe) with flags := 2 ^ 8 }, { (default : Sqe) with cid := 2 ^ 16 }, { (default : Sqe) with nsid := 2 ^ 32 },
      { (default : Sqe) with d10 := 2 ^ 32 }, { (default : Sqe) with d11 := 2 ^ 32 }, { (default : Sqe) with d12 := 2 ^ 32 },
      { (default : Sqe) with d13 := 2 ^ 32 }, { (default : Sqe) with d14 := 2 ^ 32 }, { (default : Sqe) with d15 := 2 ^ 32 }].all
      (fun x => !x.wf) = true ∧
    [badRun, { us := [[2 ^ 16]], info := 0 }].all (fun x => !x.wf) = true ∧
    [badTry, { (default : LadderTry) with u := 2 ^ 16 }].all (fun x => !x.wf) = true ∧
    [CopyAns.pieceOk 32, CopyAns.resend 32].all (fun x => !x.wf) = true ∧
    [Body.data 256 0 false false 0 [], .data 0 32 false false 0 [], .data 0 0 false false (2 ^ 16) [], .data 0 0 false false 0 [2 ^ 512],
      .copyReq 256 0 0 0, .copyReq 0 256 0 0, .copyReq 0 0 (2 ^ 19) 0, .copyReq 0 0 0 256, .copyResp 256 .done, .copyResp 0 (.resend 32),
      .copyEnd 256 0, .copyEnd 0 (2 ^ 256), .lease 256 0 0 0, .lease 0 256 0 0, .lease 0 0 4096 0, .lease 0 0 0 (2 ^ 16),
      .mbReq false (2 ^ 25) 0, .mbReq false 0 (2 ^ 32), .mbResp 256 0, .mbResp 0 (2 ^ 32)].all (fun x => !x.wf) = true ∧
    [{ (default : Pkt) with dst := 512 }, { (default : Pkt) with src := 512 }, { (default : Pkt) with vc := 4 },
      { (default : Pkt) with tag := 2 ^ 16 }, { (default : Pkt) with body := .mbResp 256 0 }].all (fun x => !x.wf) = true ∧
    (HostErr.unrec (2 ^ 32)).wf = false := by decide +kernel

/-- Commands whose operands fit are well formed. -/
theorem test_wf_takes_1 :
    ([.samSearch 0 0 false false 0 0 0,
      .ringCancel 0 0,
      .quenchTestPulse 0,
      .senseDone false false 0,
      .brakeDone 0,
      .locateAttemptDone default 0 0,
      .observerLock 0,
      .speedReached none,
      .coastMeasDone 0 0,
      .speedTargetWrite 0,
      .stoppingDone 0,
      .rectifyFloor 0,
      .holdupUpdate 0,
      .spnJWrite 0,
      .preampFrameDone 0 0,
      .positionWord 0 0 0 0 0 0 0 0 0 0,
      .descriptorReady 0 0,
      .captureSpanEnd 0 0 default 0 [] [] 0 0 0 [] default,
      .inlineDecodeDone 0 default,
      .deepJobDone 0 [] [] [],
      .retryLadder 0 0 false default [],
      .frameRewrite 0 0 0,
      .lookupDone 0 [],
      .recordCommit 0,
      .mapRebuild false false false false [] [] [],
      .cleaning 0 0 0 [],
      .compaction 0 0 0 false false [] 0,
      .sectorRelocation false 0 0 0,
      .mmioDoorbell 0 false 0 0,
      .commandFetch 0 0 default [],
      .rltGrant 0 0 0,
      .commandCommit 0 0 0 false,
      .cqEntryPost 0 0,
      .deleteIoSq 0 0,
      .createIoSq 0 0,
      .getLogPage 0 0,
      .deleteIoCq 0 0,
      .createIoCq 0 0,
      .identify 0 0,
      .abort 0 0] : List Instr).all
      (fun c => c.wf) = true := by decide +kernel

/-- Commands whose operands fit are well formed. -/
theorem test_wf_takes_2 :
    ([.setFeatures 0 0 0,
      .strictErrorMode 0 0,
      .assayDuty 0 0,
      .powerManagement 0 0,
      .autonomousPowerStateTransition 0 0 [],
      .getFeatures 0 0,
      .asynchronousEventRequest 0 0,
      .namespaceManagement 0 0 0 0 0 0 0 [],
      .namespaceAttachment 0 0 [],
      .firmwareImageDownload 0 0 [],
      .fwCommitReplace 0 0,
      .fwCommitReplacePending 0 0,
      .fwCommitPending 0 0,
      .fwCommitActivate 0 0,
      .doorbellBufferConfig 0 0,
      .formatNvm 0 0 [],
      .formatUserDataErase 0 0 [],
      .formatCryptoErase 0 0 [],
      .sanitizeCryptoErase 0 0 [],
      .sanitizeBlockErase 0 0 [],
      .sanitizeOverwrite 0 0,
      .thawResume 0 0,
      .thawDiscardHeld 0 0,
      .thawDiscardAll 0 0 [],
      .enable 0 0,
      .debugToken 0 0 false 0,
      .attest 0 0 0,
      .reportReceive 0 0,
      .identityReceive 0 0,
      .keyInfoReceive 0 0,
      .challengeReceive 0 0,
      .protocolList 0 0,
      .flush 0 0 0,
      .write 0 0 0 [] [] default,
      .read 0 0 0 [] default,
      .writeUncorrectable 0 0 0 [],
      .compare 0 0 0 [] [] default,
      .writeZeroes 0 0 0 [],
      .datasetManagement 0 0 0 [],
      .verify 0 0 0 [] default] : List Instr).all
      (fun c => c.wf) = true := by decide +kernel

/-- Commands whose operands fit are well formed. -/
theorem test_wf_takes_3 :
    ([.zoneClose 0 0 0 [],
      .zoneFinish 0 0 0 [],
      .zoneOpen 0 0 0 [],
      .zoneReset 0 0 0 [],
      .zoneOffline 0 0 0 [],
      .zoneManagementReceive 0 0 0,
      .zoneAppend 0 0 0 [] [] default,
      .ref .host 0 0,
      .unref .host 0 0,
      .clean .host 0 0,
      .cleanUnref .host 0 0,
      .restore .host 0 0,
      .rowRepair 0 0,
      .vaultReadPage .host 0 0 0 0 0,
      .vaultProgramPage .host 0 0 0 0 0,
      .vaultEraseBlock .host 0 0,
      .vaultCommandDone 0 0 false,
      .saveReplay 0 [] 0 [],
      .migrationPreloadDone 0,
      .migrationFreeze 0,
      .holdupCollapse 0,
      .monitorWindow 0 0,
      .accDone [] 0,
      .assayStepDone false 0 0 0,
      .assayYield 0 0,
      .samplePreload 0,
      .linkFailure 0 0,
      .packetForward 0 default false default,
      .lack 0 default 0 false,
      .data 0 default 0 0 0 false false 0 false,
      .copyReq 0 default 0 0 0 0 0 0,
      .copyResp 0 default 0 0 default [] 0,
      .copyEnd 0 default 0 0 0 0 0,
      .leaseReq 0 default 0 0 0 0,
      .leaseGrant 0 default 0 0 0 0 0,
      .leaseDeny 0 default 0 0 0 0,
      .mbReq 0 default 0 0 false 0 0,
      .mbResp 0 default 0 0 0,
      .captureSpanStart 0 0,
      .shadowDoorbellPoll 0 []] : List Instr).all
      (fun c => c.wf) = true := by decide +kernel

/-- Each command has one operand too wide for its field, and the check refuses it. -/
theorem test_wf_refuses_1 :
    ([.samSearch 0 0 false false (2 ^ 10) 0 0,
      .samSearch 0 0 false false 0 (2 ^ 32) 0,
      .ringCancel 0 (2 ^ 24),
      .quenchTestPulse (2 ^ 16),
      .senseDone false false (2 ^ 17),
      .brakeDone (2 ^ 17),
      .locateAttemptDone default (2 ^ 16) 0,
      .locateAttemptDone default 0 (2 ^ 16),
      .observerLock (2 ^ 17),
      .speedReached (some (2 ^ 16)),
      .coastMeasDone (2 ^ 16) 0,
      .coastMeasDone 0 (2 ^ 16),
      .speedTargetWrite (2 ^ 17),
      .stoppingDone (2 ^ 17),
      .rectifyFloor (2 ^ 17),
      .holdupUpdate (2 ^ 17),
      .spnJWrite (2 ^ 32),
      .preampFrameDone 0 (2 ^ 8),
      .positionWord 0 0 (2 ^ 16) 0 0 0 0 0 0 0,
      .positionWord 0 0 0 (2 ^ 16) 0 0 0 0 0 0,
      .positionWord 0 0 0 0 (2 ^ 16) 0 0 0 0 0,
      .positionWord 0 0 0 0 0 (2 ^ 16) 0 0 0 0,
      .positionWord 0 0 0 0 0 0 (2 ^ 16) 0 0 0,
      .positionWord 0 0 0 0 0 0 0 (2 ^ 16) 0 0,
      .descriptorReady 0 (2 ^ 24),
      .captureSpanEnd 0 (2 ^ 24) default 0 [] [] 0 0 0 [] default,
      .captureSpanEnd 0 0 default (2 ^ 20) [] [] 0 0 0 [] default,
      .captureSpanEnd 0 0 default 0 [] [] (2 ^ 16) 0 0 [] default,
      .captureSpanEnd 0 0 default 0 [] [] 0 (2 ^ 16) 0 [] default,
      .captureSpanEnd 0 0 default 0 [] [] 0 0 (2 ^ 16) [] default,
      .captureSpanEnd 0 0 default 0 [] [] 0 0 0 [2 ^ 16] default,
      .inlineDecodeDone 0 badRun,
      .deepJobDone 0 [] [2 ^ 16] [],
      .retryLadder 0 0 false badTry [],
      .frameRewrite 0 (2 ^ 24) 0,
      .frameRewrite 0 0 (2 ^ 8),
      .lookupDone (2 ^ 24) [],
      .recordCommit (2 ^ 28),
      .mapRebuild false false false false [2 ^ 28] [] [],
      .mapRebuild false false false false [] [] [2 ^ 40]] : List Instr).all
      (fun c => !c.wf) = true := by decide +kernel

/-- Each command has one operand too wide for its field, and the check refuses it. -/
theorem test_wf_refuses_2 :
    ([.cleaning (2 ^ 28) 0 0 [],
      .cleaning 0 (2 ^ 20) 0 [],
      .cleaning 0 0 (2 ^ 20) [],
      .cleaning 0 0 0 [2 ^ 20],
      .compaction (2 ^ 3) 0 0 false false [] 0,
      .compaction 0 (2 ^ 17) 0 false false [] 0,
      .compaction 0 0 (2 ^ 17) false false [] 0,
      .compaction 0 0 0 false false [] (2 ^ 28),
      .sectorRelocation false (2 ^ 28) 0 0,
      .sectorRelocation false 0 (2 ^ 20) 0,
      .sectorRelocation false 0 0 (2 ^ 20),
      .mmioDoorbell 0 false (2 ^ 16) 0,
      .commandFetch 0 (2 ^ 16) default [],
      .commandFetch 0 0 badSqe [],
      .rltGrant 0 (2 ^ 16) 0,
      .rltGrant 0 0 (2 ^ 16),
      .commandCommit 0 (2 ^ 16) 0 false,
      .commandCommit 0 0 (2 ^ 16) false,
      .cqEntryPost 0 (2 ^ 16),
      .deleteIoSq 0 (2 ^ 16),
      .createIoSq 0 (2 ^ 16),
      .getLogPage 0 (2 ^ 16),
      .deleteIoCq 0 (2 ^ 16),
      .createIoCq 0 (2 ^ 16),
      .identify 0 (2 ^ 16),
      .abort 0 (2 ^ 16),
      .setFeatures 0 (2 ^ 16) 0,
      .setFeatures 0 0 (2 ^ 64),
      .strictErrorMode 0 (2 ^ 16),
      .assayDuty 0 (2 ^ 16),
      .powerManagement 0 (2 ^ 16),
      .autonomousPowerStateTransition 0 (2 ^ 16) [],
      .autonomousPowerStateTransition 0 0 [2 ^ 64],
      .getFeatures 0 (2 ^ 16),
      .asynchronousEventRequest 0 (2 ^ 16),
      .namespaceManagement 0 (2 ^ 16) 0 0 0 0 0 [],
      .namespaceManagement 0 0 (2 ^ 64) 0 0 0 0 [],
      .namespaceManagement 0 0 0 (2 ^ 64) 0 0 0 [],
      .namespaceManagement 0 0 0 0 (2 ^ 4) 0 0 [],
      .namespaceManagement 0 0 0 0 0 (2 ^ 3) 0 []] : List Instr).all
      (fun c => !c.wf) = true := by decide +kernel

/-- Each command has one operand too wide for its field, and the check refuses it. -/
theorem test_wf_refuses_3 :
    ([.namespaceManagement 0 0 0 0 0 0 (2 ^ 16) [],
      .namespaceManagement 0 0 0 0 0 0 0 [2 ^ 28],
      .namespaceAttachment 0 (2 ^ 16) [],
      .firmwareImageDownload 0 (2 ^ 16) [],
      .fwCommitReplace 0 (2 ^ 16),
      .fwCommitReplacePending 0 (2 ^ 16),
      .fwCommitPending 0 (2 ^ 16),
      .fwCommitActivate 0 (2 ^ 16),
      .doorbellBufferConfig 0 (2 ^ 16),
      .formatNvm 0 (2 ^ 16) [],
      .formatNvm 0 0 [2 ^ 28],
      .formatUserDataErase 0 (2 ^ 16) [],
      .formatUserDataErase 0 0 [2 ^ 28],
      .formatCryptoErase 0 (2 ^ 16) [],
      .formatCryptoErase 0 0 [2 ^ 28],
      .sanitizeCryptoErase 0 (2 ^ 16) [],
      .sanitizeCryptoErase 0 0 [2 ^ 28],
      .sanitizeBlockErase 0 (2 ^ 16) [],
      .sanitizeBlockErase 0 0 [2 ^ 28],
      .sanitizeOverwrite 0 (2 ^ 16),
      .thawResume 0 (2 ^ 16),
      .thawDiscardHeld 0 (2 ^ 16),
      .thawDiscardAll 0 (2 ^ 16) [],
      .thawDiscardAll 0 0 [2 ^ 16],
      .enable 0 (2 ^ 16),
      .debugToken 0 (2 ^ 16) false 0,
      .attest 0 (2 ^ 16) 0,
      .reportReceive 0 (2 ^ 16),
      .identityReceive 0 (2 ^ 16),
      .keyInfoReceive 0 (2 ^ 16),
      .challengeReceive 0 (2 ^ 16),
      .protocolList 0 (2 ^ 16),
      .flush 0 (2 ^ 16) 0,
      .flush 0 0 (2 ^ 16),
      .write 0 (2 ^ 16) 0 [] [] default,
      .write 0 0 (2 ^ 16) [] [] default,
      .write 0 0 0 [] [2 ^ 28] default,
      .write 0 0 0 [] [] (.unrec (2 ^ 32)),
      .read 0 (2 ^ 16) 0 [] default,
      .read 0 0 (2 ^ 16) [] default] : List Instr).all
      (fun c => !c.wf) = true := by decide +kernel

/-- Each command has one operand too wide for its field, and the check refuses it. -/
theorem test_wf_refuses_4 :
    ([.read 0 0 0 [] (.unrec (2 ^ 32)),
      .writeUncorrectable 0 (2 ^ 16) 0 [],
      .writeUncorrectable 0 0 (2 ^ 16) [],
      .writeUncorrectable 0 0 0 [2 ^ 28],
      .compare 0 (2 ^ 16) 0 [] [] default,
      .compare 0 0 (2 ^ 16) [] [] default,
      .compare 0 0 0 [] [] (.unrec (2 ^ 32)),
      .writeZeroes 0 (2 ^ 16) 0 [],
      .writeZeroes 0 0 (2 ^ 16) [],
      .writeZeroes 0 0 0 [2 ^ 28],
      .datasetManagement 0 (2 ^ 16) 0 [],
      .datasetManagement 0 0 (2 ^ 16) [],
      .datasetManagement 0 0 0 [2 ^ 28],
      .verify 0 (2 ^ 16) 0 [] default,
      .verify 0 0 (2 ^ 16) [] default,
      .verify 0 0 0 [] (.unrec (2 ^ 32)),
      .zoneClose 0 (2 ^ 16) 0 [],
      .zoneClose 0 0 (2 ^ 16) [],
      .zoneClose 0 0 0 [2 ^ 28],
      .zoneFinish 0 (2 ^ 16) 0 [],
      .zoneFinish 0 0 (2 ^ 16) [],
      .zoneFinish 0 0 0 [2 ^ 28],
      .zoneOpen 0 (2 ^ 16) 0 [],
      .zoneOpen 0 0 (2 ^ 16) [],
      .zoneOpen 0 0 0 [2 ^ 28],
      .zoneReset 0 (2 ^ 16) 0 [],
      .zoneReset 0 0 (2 ^ 16) [],
      .zoneReset 0 0 0 [2 ^ 28],
      .zoneOffline 0 (2 ^ 16) 0 [],
      .zoneOffline 0 0 (2 ^ 16) [],
      .zoneOffline 0 0 0 [2 ^ 28],
      .zoneManagementReceive 0 (2 ^ 16) 0,
      .zoneManagementReceive 0 0 (2 ^ 16),
      .zoneAppend 0 (2 ^ 16) 0 [] [] default,
      .zoneAppend 0 0 (2 ^ 16) [] [] default,
      .zoneAppend 0 0 0 [] [2 ^ 28] default,
      .zoneAppend 0 0 0 [] [] (.unrec (2 ^ 32)),
      .ref .host 0 (2 ^ 22),
      .unref .host 0 (2 ^ 22),
      .clean .host 0 (2 ^ 22)] : List Instr).all
      (fun c => !c.wf) = true := by decide +kernel

/-- Each command has one operand too wide for its field, and the check refuses it. -/
theorem test_wf_refuses_5 :
    ([.cleanUnref .host 0 (2 ^ 22),
      .restore .host 0 (2 ^ 22),
      .rowRepair (2 ^ 6) 0,
      .rowRepair 0 (2 ^ 16),
      .vaultReadPage .host (2 ^ 24) 0 0 0 0,
      .vaultReadPage .host 0 (2 ^ 12) 0 0 0,
      .vaultReadPage .host 0 0 (2 ^ 8) 0 0,
      .vaultReadPage .host 0 0 0 (2 ^ 22) 0,
      .vaultReadPage .host 0 0 0 0 (2 ^ 30),
      .vaultProgramPage .host (2 ^ 24) 0 0 0 0,
      .vaultProgramPage .host 0 (2 ^ 12) 0 0 0,
      .vaultProgramPage .host 0 0 (2 ^ 8) 0 0,
      .vaultProgramPage .host 0 0 0 (2 ^ 22) 0,
      .vaultProgramPage .host 0 0 0 0 (2 ^ 30),
      .vaultEraseBlock .host (2 ^ 24) 0,
      .vaultEraseBlock .host 0 (2 ^ 12),
      .vaultCommandDone (2 ^ 24) 0 false,
      .vaultCommandDone 0 (2 ^ 14) false,
      .saveReplay (2 ^ 34) [] 0 [],
      .saveReplay 0 [2 ^ 28] 0 [],
      .saveReplay 0 [] (2 ^ 22) [],
      .saveReplay 0 [] 0 [2 ^ 22],
      .migrationPreloadDone (2 ^ 16),
      .migrationFreeze (2 ^ 16),
      .holdupCollapse (2 ^ 32),
      .monitorWindow 0 (2 ^ 32),
      .accDone [] (2 ^ 16),
      .assayStepDone false (2 ^ 8) 0 0,
      .assayStepDone false 0 (2 ^ 16) 0,
      .assayStepDone false 0 0 (2 ^ 32),
      .assayYield (2 ^ 32) 0,
      .assayYield 0 (2 ^ 32),
      .samplePreload (2 ^ 512),
      .linkFailure 0 (2 ^ 16),
      .packetForward 0 badRx false default,
      .packetForward 0 default false { (default : Pkt) with tag := 2 ^ 16 },
      .lack 0 badRx 0 false,
      .data 0 badRx 0 0 0 false false 0 false,
      .copyReq 0 badRx 0 0 0 0 0 0,
      .copyReq 0 default 0 0 0 0 0 (2 ^ 20)] : List Instr).all
      (fun c => !c.wf) = true := by decide +kernel

/-- Each command has one operand too wide for its field, and the check refuses it. -/
theorem test_wf_refuses_6 :
    ([.copyResp 0 badRx 0 0 default [] 0,
      .copyResp 0 default 0 0 (.pieceOk 32) [] 0,
      .copyResp 0 default 0 0 default [] (2 ^ 256),
      .copyEnd 0 badRx 0 0 0 0 0,
      .copyEnd 0 default 0 0 0 0 (2 ^ 28),
      .leaseReq 0 badRx 0 0 0 0,
      .leaseGrant 0 badRx 0 0 0 0 0,
      .leaseDeny 0 badRx 0 0 0 0,
      .mbReq 0 badRx 0 0 false 0 0,
      .mbResp 0 badRx 0 0 0,
      .captureSpanStart 0 (2 ^ 24),
      .locateAttemptDone (Vector.replicate 6 (2 ^ 32)) 0 0,
      .captureSpanEnd 0 0 default 0 [(0, 2 ^ 16)] [] 0 0 0 [] default,
      .captureSpanEnd 0 0 default 0 [] [[(0, 2 ^ 16)]] 0 0 0 [] default,
      .captureSpanEnd 0 0 default 0 [] [] 0 0 0 [] (2 ^ 16, 0, 0),
      .captureSpanEnd 0 0 default 0 [] [] 0 0 0 [] (0, 2 ^ 16, 0),
      .captureSpanEnd 0 0 default 0 [] [] 0 0 0 [] (0, 0, 2 ^ 16),
      .deepJobDone 0 [(0, 2 ^ 16)] [] [],
      .deepJobDone 0 [] [] [badRun],
      .retryLadder 0 0 false default [badTry],
      .lookupDone 0 [(2 ^ 28, 0)],
      .mapRebuild false false false false [] [(0, 2 ^ 512, false)] [],
      .compaction 0 0 0 false false [(0, 2 ^ 256)] 0,
      .shadowDoorbellPoll 0 [(false, 2 ^ 16, 0)],
      .shadowDoorbellPoll 0 [(false, 0, 2 ^ 16)],
      .commandFetch 0 0 default [(2 ^ 64, 0)],
      .copyResp 0 default 0 0 default [[2 ^ 512]] 0] : List Instr).all
      (fun c => !c.wf) = true := by decide +kernel

/-! ### Worked examples of the manual -/

/-- 00_scope: the stamp of revolution 1,000, wedge 123, tick 2,048 is 0xFA07_B800, 505,856 ticks into its revolution. -/
theorem test_stamp_of_angle :
    ticksStamp 640 (1000 * 640 * 4096 + 505856) = 0xFA07B800 ∧ stampTicks 640 0xFA07B800 = 1000 * 640 * 4096 + 505856 := by
  decide +kernel

/-- 01_architecture: the write-path page of CH2 starts at 0x0052_0000. -/
theorem test_page_address : (WCH_CTL_EN 2).addr = 0x520000 := by decide

/-- 03_spindle: with ACCEL_MS 4,703, a coast drop of 1,947 and KE 12,566 at 1,500 mA, J is 26,002 and the hold-up energy at 7,200 rpm
is 53,486 mJ. -/
theorem test_spin_up :
    fieldAfter (.coastMeasDone 12566 1947) ((R0.set SPN_STAT_STATE spnCoast).set SPN_MEAS_ACCEL_MS 4703) SPN_J_J = some 26002 ∧
    fieldAfter (.holdupUpdate 115200) (((R0.set SPN_STAT_STATE spnRun).set SPN_J_J 26002).on SPN_J_VALID) SPN_HOLDUP_E_MJ =
      some 53486 := by decide +kernel

/-- A state whose save area is erased and whose hold-up energy is `e`. -/
abbrev erasedAt (e : Nat) : State :=
  (List.range 10).foldl (fun t k => t.set (VLT_SAVE_MAP_ERASED k) 0xFFFFFFFF) (R0.set SPN_HOLDUP_E_MJ e)

/-- 10_buffer_memory: the cap is 262,144 units with 53,486 mJ and 137,363 units with 27,590 mJ. -/
theorem test_cap_at_two_speeds : (erasedAt 53486).cap = 262144 ∧ (erasedAt 27590).cap = 137363 := by decide +kernel

/-- A state in which head 3 was last corrected for item 2 at 41.000 °C, and site 3 now reads `v` eighths of a degree. -/
abbrev warmedTo (v : Nat) : State :=
  (((R0.on CAL_CTL_EN).set (CAL_LAST_LAST_T 3 2) 328).on (CAL_LAST_VALID 3 2)).set (THM_SENS_T 3) v

/-- 13_clocks_thermal_calibration: 4.5 °C is more than the DELTA of 4 °C and makes head 3 due; 4 °C is not. -/
theorem test_cal_due :
    (fieldAfter .calDueEvaluation (warmedTo 364) (CAL_ITEM_DUE 2)).map (bitOf · 3) = some true ∧
    (fieldAfter .calDueEvaluation (warmedTo 360) (CAL_ITEM_DUE 2)).map (bitOf · 3) = some false := by decide +kernel

/-- R30: a read of an unmapped address from reset answers zero and records the access. -/
theorem test_unmapped_read :
    fieldAfter (.unmappedAccess (.core 1) false 0x1FFFFF0) R0 SYS_ERR_UNMAPPED = some 1 ∧
    fieldAfter (.unmappedAccess (.core 1) false 0x1FFFFF0) R0 SYS_ERR_ADDR_ADDR = some 0x1FFFFF0 := by decide +kernel

/-- A step takes the command at the front of the queue. -/
theorem test_step_takes_front :
    (match step (R0.withPending [.servoEnable 0, .cmdStop]) with
      | .next t => decide (t.pending = [.cmdStop] ∧ t.flag (SRV_CFG_EN 0) = true)
      | _ => false) = true := by decide +kernel

/-! ### Witnesses for the statements -/

namespace Fam01

theorem witness_AccessCommands :
    (∃ (r : Req) (a : BitVec 25) (v : Word) (be : Fin 16) (s : State), (s.runs) ∧ (s.accessErr r true a.toNat = none) ∧ (be.val ≠ 15)) ∧
    (∃ (c : Fin 4) (v : Word) (s : State), (s.runs) ∧ (s.accessErr (.core c) true SYS_HOST_WMASK_HWE.addr = none) ∧ (s.flag SEC_LOCK_LOCK =
      false)) ∧
    (∃ (c : Fin 4) (v : Word) (s : State), (s.runs) ∧ (s.accessErr (.core c) true SYS_HOST_WMASK_HWE.addr = none) ∧ (s.flag SEC_LOCK_LOCK =
      true)) ∧
    (∃ (c : Fin 4) (v : Word) (s : State), (s.runs) ∧ (s.accessErr (.core c) true SYS_ERR_UNMAPPED.addr = none)) ∧
    (∃ (c : Fin 4) (v : Word) (s : State), (s.runs) ∧ (s.accessErr (.core c) true SYS_ID_PART.addr = none)) ∧
    (∃ (c : Fin 4) (be : Fin 16) (s : State), (s.runs) ∧ (s.accessErr (.core c) false PAT_LOST_COUNT.addr = none)) ∧
    (∃ (r : Req) (s : State), (s.runs) ∧ (s.accessErr r false INV_NOW_LO_STAMP.addr = none)) ∧
    (∃ (r : Req) (s : State), (s.runs) ∧ (s.accessErr r false INV_WALL_LO_NS.addr = none)) ∧
    (∃ (r : Req) (wr : Bool) (a : BitVec 25) (s : State), (s.runs) ∧ (s.accessErr r wr a.toNat = some errUnmapped)) ∧
    (∃ (r : Req) (wr : Bool) (a : BitVec 25) (s : State), (s.runs) ∧ (s.accessErr r wr a.toNat = some errDown)) ∧
    (∃ (wr : Bool) (a : BitVec 25) (s : State), (s.runs) ∧ (s.accessErr .host wr a.toNat = some errDenied)) ∧
    (∃ (r : Req) (wr : Bool) (addr : BitVec 25) (s : State), (s.runs)) :=
  ⟨⟨.core 0, 0x600000#25, 7#32, 3, R0, by decide +kernel⟩,
    ⟨3, 0xFFFFFFFF#32, R0, by decide +kernel⟩,
    ⟨3, 0xFFFFFFFF#32, R0.on SEC_LOCK_LOCK, by decide +kernel⟩,
    ⟨3, 5#32, ((R0.on SYS_ERR_UNMAPPED).on SYS_ERR_BLK_DOWN).on SYS_ERR_HOST_DENIED, by decide +kernel⟩,
    ⟨3, 5#32, R0, by decide +kernel⟩,
    ⟨3, 15, R0.set PAT_LOST_COUNT 0x12345, by decide +kernel⟩,
    ⟨.role 5, { R0 with inv := { R0.inv with now := 2 ^ 40 + 77 } }, by decide +kernel⟩,
    ⟨.role 5, { R0 with inv := { R0.inv with wall := 2 ^ 40 + 77 } }, by decide +kernel⟩,
    ⟨.role 5, false, 0x1FFFFF0#25, R0, by decide +kernel⟩,
    ⟨.core 1, true, 0x600000#25, R0.set CLK_GATE_FORCE_BLK 0xFFFFFF, by decide +kernel⟩,
    ⟨true, 0x600000#25, R0, by decide +kernel⟩,
    ⟨.role 5, true, 0x123456#25, R0, by decide +kernel⟩⟩

end Fam01

namespace Fam02
abbrev Rd (f : Die → Die) (s : State) : State := { s with die := f s.die }

theorem witness_ResetCommands :
    (∃ (straps : Fin 16) (dual : Bool) (s : State), (s.die.phase = .off)) ∧
    (∃ (s : State), (s.runs)) ∧
    (∃ (s : State), (s.runs)) ∧
    (∃ (c : Fin 2) (s : State), (s.runs) ∧ (s.ctlExists c = true)) ∧
    (∃ (s : State), (s.runs) ∧ (s.bit CLK_SRC_STAT_STABLE srcSrc = true)) ∧
    (∃ (s : State), (s.runs)) ∧
    (∃ (s : State), (s.runs)) ∧
    (∃ (s : State), (s.runs)) ∧
    (∃ (v : Fin 8) (s : State), (s.runs)) ∧
    (∃ (s : State), (s.die.phase = .held) ∧ (s.die.cleared = true) ∧ (s.die.frc = true)) ∧
    (∃ (s : State), (s.runs)) ∧
    (∃ (s : State), (s.runs) ∧ (s.pd.safe = false)) ∧
    (∃ (k : Fin 5) (s : State), (s.runs)) ∧
    (∃ (code : Nat) (s : State), (s.die.phase = .saving) ∧ (s.die.loss = false) ∧ (s.die.reset = some code) ∧ (code < 8)) ∧
    (∃ (pages : Nat) (s : State), (s.pd.swOpen = true) ∧ (s.pd.regOff = false)) :=
  ⟨⟨11, true, Rd (fun d => { d with phase := .off }) R0, by decide +kernel⟩,
    ⟨R0, by decide +kernel⟩,
    ⟨R0, by decide +kernel⟩,
    ⟨0, R0, by decide +kernel⟩,
    ⟨(R0.set CLK_SRC_STAT_STABLE 7).on RST_WDT_EN, by decide +kernel⟩,
    ⟨R0, by decide +kernel⟩,
    ⟨R0, by decide +kernel⟩,
    ⟨{ R0 with pins := { R0.pins with flt := true } }, by decide +kernel⟩,
    ⟨5, R0, by decide +kernel⟩,
    ⟨Rd (fun d => { d with phase := .held, cleared := true, frc := true }) (R0.on SYS_STRAP_BOOT_SRC), by decide +kernel⟩,
    ⟨R0, by decide +kernel⟩,
    ⟨R0, by decide +kernel⟩,
    ⟨4, R0, by decide +kernel⟩,
    ⟨5, Rd (fun d => { d with phase := .saving, reset := some 5 }) (R0.set SPN_STAT_STATE 8), by decide +kernel⟩,
    ⟨7, { R0 with pd := { R0.pd with swOpen := true } }, by decide +kernel⟩⟩

end Fam02

namespace Fam03
abbrev Rsrc (n : Nat) : State := (R0.on INV_CFG_EN).set INV_SRC_SRC n
abbrev Rlane : State := modAct 0 id ((modLane 0 0 (fun x => { x with sel := 3 }) (((R0.on (SRV_CFG_EN 0)).on INV_CFG_EN).set ACT_STAT_STATE_A 3)))
abbrev ent (c : RingClass) (p : Nat) : RingEntry := { stamp := 4194304, cls := c, chan := true, tagged := false, lateDrop := false, param := p, tag := 7 }
abbrev Rring (c : RingClass) (p : Nat) : State := setRing 1 [ent c p] (Rsrc 1)
abbrev Rtrig (v : Nat) : State := { R0 with qch := { R0.qch with trig := #v[v, v], rel := Vector.replicate 2 ⟨255, 255, 255, 255⟩ } }

theorem witness_AngleCommands :
    (∃ (s : State), (s.runs)) ∧
    (∃ (s : State), (s.runs) ∧ (s.raw INV_SRC_SRC ≠ srcNone)) ∧
    (∃ (s : State), (s.runs) ∧ (s.raw INV_SRC_SRC = srcHold)) ∧
    (∃ (a : Fin 2) (l : Fin 2) (idx : Nat) (period : Nat) (dev : Int) (surf : Nat) (s : State), (s.runs) ∧ (s.demod a l = true) ∧ ((s.lane
      a l).settling = false) ∧ (s.laneSurf a l = some surf) ∧ (surf < 32) ∧ (s.flag INV_CFG_EN = true) ∧ (s.raw INV_SRC_SRC = srcNone) ∧
      (s.actSt a ≠ actLoading)) ∧
    (∃ (a : Fin 2) (l : Fin 2) (chk : Bool) (idx : Nat) (period : Nat) (dev : Int) (surf : Nat) (s : State), (s.runs) ∧ (s.demod a l =
      true) ∧ ((s.lane a l).settling = false) ∧ (s.laneSurf a l = some surf) ∧ (surf < 32) ∧ (s.flag INV_CFG_EN = true) ∧ (s.raw
      INV_SRC_SRC = srcNone)) ∧
    (∃ (a : Fin 2) (l : Fin 2) (surf : Nat) (s : State), (s.runs) ∧ (s.laneSurf a l = some surf) ∧ (surf < 32) ∧ (s.flag INV_CFG_EN = true)
      ∧ (4 ≤ (s.lockOf surf).good) ∧ (s.bit INV_LOCK_LOCKED surf = false) ∧ (s.raw INV_SRC_SRC = srcNone ∨ s.raw INV_SRC_SRC = srcServo) ∧
      (s.actSt a ≠ actAcquire)) ∧
    (∃ (a : Fin 2) (l : Fin 2) (surf : Nat) (s : State), (s.runs) ∧ (s.laneSurf a l = some surf) ∧ (surf < 32) ∧ (2 ≤ (s.lockOf surf).bad)
      ∧ (s.bit INV_LOCK_LOCKED surf = true) ∧ (s.actSt a ≠ actFollow)) ∧
    (∃ (surf : Fin 32) (v : Word) (s : State), (s.runs)) ∧
    (∃ (n : Fin 8) (s : State), (s.runs) ∧ (s.flag (INV_WTMR_ARM n.val) = true) ∧ (s.raw (INV_WTMR_INTERVAL n.val) ≠ 0)) :=
  ⟨⟨R0, by decide +kernel⟩,
    ⟨Rsrc 1, by decide +kernel⟩,
    ⟨Rsrc 3, by decide +kernel⟩,
    ⟨0, 0, 5, 100, 3, 3, Rlane, by decide +kernel⟩,
    ⟨0, 0, true, 5, 100, 3, 3, Rlane, by decide +kernel⟩,
    ⟨0, 0, 3, setLock 3 { good := 4, bad := 0, lastIdx := some 9 } Rlane, by decide +kernel⟩,
    ⟨0, 0, 3, (setLock 3 { good := 0, bad := 2, lastIdx := some 9 } Rlane).set INV_LOCK_LOCKED 8 |>.set ACT_STAT_STATE_A 2, by decide +kernel⟩,
    ⟨3, 0xFFFFFFFF, R0, by decide +kernel⟩,
    ⟨3, (R0.on (INV_WTMR_ARM 3)).set (INV_WTMR_INTERVAL 3) 5, by decide +kernel⟩⟩

theorem witness_RingCommands :
    (∃ (r : Req) (a : Fin 2) (w3 : Word) (s : State), (s.runs) ∧ (s.raw INV_SRC_SRC = srcNone)) ∧
    (∃ (r : Req) (a : Fin 2) (w3 : Word) (e : RingEntry) (s : State), (s.runs) ∧ (s.raw INV_SRC_SRC ≠ srcNone) ∧ (s.ringEntry r a w3.toNat
      = some e) ∧ (s.isLate e = false) ∧ (s.inv.ring[a].length < 4096)) ∧
    (∃ (a : Fin 2) (tag : Nat) (s : State), (s.runs)) ∧
    (∃ (a : Fin 2) (e : RingEntry) (s : State), (s.runs) ∧ (s.nextEntry a = some e) ∧ (e.cls = .aeOn) ∧ (s.chHeld (e.ch a) = false) ∧
      (s.inv.quiet[e.ch a] = false)) ∧
    (∃ (a : Fin 2) (e : RingEntry) (s : State), (s.runs) ∧ (s.nextEntry a = some e) ∧ (e.cls = .aeOff)) ∧
    (∃ (a : Fin 2) (e : RingEntry) (s : State), (s.runs) ∧ (s.nextEntry a = some e) ∧ (e.cls = .rgOpen) ∧ (s.inv.quiet[e.ch a] = false)) ∧
    (∃ (a : Fin 2) (e : RingEntry) (s : State), (s.runs) ∧ (s.nextEntry a = some e) ∧ (e.cls = .rgClose)) ∧
    (∃ (a : Fin 2) (e : RingEntry) (s : State), (s.runs) ∧ (s.nextEntry a = some e) ∧ (e.cls = .quietOpen) ∧ (s.wgBall (e.ch a) = false) ∧
      (s.inv.rg[e.ch a] = false)) ∧
    (∃ (a : Fin 2) (e : RingEntry) (s : State), (s.runs) ∧ (s.nextEntry a = some e) ∧ (e.cls = .quietOpen) ∧ (s.inv.rg[e.ch a] = true)) ∧
    (∃ (ch : Fin 4) (s : State), (s.runs) ∧ (s.inv.quietWait[ch] = true) ∧ (s.wgBall ch = false) ∧ (s.inv.rg[ch] = false)) ∧
    (∃ (a : Fin 2) (e : RingEntry) (s : State), (s.runs) ∧ (s.nextEntry a = some e) ∧ (e.cls = .quietClose)) ∧
    (∃ (a : Fin 2) (e : RingEntry) (s : State), (s.runs) ∧ (s.nextEntry a = some e) ∧ (e.cls = .engWake)) ∧
    (∃ (a : Fin 2) (e : RingEntry) (s : State), (s.runs) ∧ (s.nextEntry a = some e) ∧ (e.cls = .dmaStart) ∧ (e.param < 32)) ∧
    (∃ (a : Fin 2) (e : RingEntry) (s : State), (s.runs) ∧ (s.nextEntry a = some e) ∧ (e.cls = .coreIrq)) :=
  ⟨⟨.core 1, 1, 0x12345678, R0, by decide +kernel⟩,
    ⟨.core 1, 1, 0, { stamp := 8192 * 4096, cls := .wgOpen, chan := false, tagged := false, lateDrop := false, param := 0, tag := 0 }, ((Rsrc 1).set ((INV_RING_W 1 0).of (.core 1)) (8192 * 4096)).set ((INV_RING_W 1 2).of (.core 1)) 0x10000000, by decide +kernel⟩,
    ⟨1, 7, setRing 1 [{ ent .wgOpen 0 with tagged := true }, ent .aeOn 0] R0, by decide +kernel⟩,
    ⟨1, ent .aeOn 0, (Rring .aeOn 0).set QCH_CTL_HOLD 0, by decide +kernel⟩,
    ⟨1, ent .aeOff 0, Rring .aeOff 0, by decide +kernel⟩,
    ⟨1, ent .rgOpen 0, Rring .rgOpen 0, by decide +kernel⟩,
    ⟨1, ent .rgClose 0, Rring .rgClose 0, by decide +kernel⟩,
    ⟨1, ent .quietOpen 0, Rring .quietOpen 0, by decide +kernel⟩,
    ⟨1, ent .quietOpen 0, setRg 3 true (Rring .quietOpen 0), by decide +kernel⟩,
    ⟨1, setQuiet 1 false true R0, by decide +kernel⟩,
    ⟨1, ent .quietClose 0, Rring .quietClose 0, by decide +kernel⟩,
    ⟨1, ent .engWake 21, Rring .engWake 21, by decide +kernel⟩,
    ⟨1, ent .dmaStart 21, Rring .dmaStart 21, by decide +kernel⟩,
    ⟨1, ent .coreIrq 201, Rring .coreIrq 201, by decide +kernel⟩⟩

theorem witness_QuenchCommands :
    (∃ (ch : Fin 4) (s : State), (s.runs)) ∧
    (∃ (ch : Fin 4) (s : State), (s.runs)) ∧
    (∃ (a : Fin 2) (i : Fin 8) (s : State), (s.runs) ∧ (bitOf s.qch.trig[a] i.val = true) ∧ (i.val < 3 ∨ i.val = 4) ∧ (s.relLimit i.val ≠
      0) ∧ (s.relLimit i.val ≤ (s.qch.rel[a]).of i.val)) ∧
    (∃ (a : Fin 2) (s : State), (s.runs) ∧ (s.condHeld a = true)) ∧
    (∃ (a : Fin 2) (s : State), (s.runs) ∧ (s.condHeld a = false)) ∧
    (∃ (v : Fin 4) (s : State), (s.runs)) ∧
    (∃ (v : Fin 4) (s : State), (s.runs)) ∧
    (∃ (ns : Nat) (s : State), (s.runs) ∧ (s.flag QCH_TEST_OUT_HOLD = true)) :=
  ⟨⟨2, R0.on (QCH_RW_STAT_OVF 2), by decide +kernel⟩,
    ⟨2, { R0 with qch := { R0.qch with fifo := Vector.replicate 4 [default, default] } }, by decide +kernel⟩,
    ⟨1, 2, Rtrig 255, by decide +kernel⟩,
    ⟨1, (Rtrig 32).on BUL_STAT_EMERG, by decide +kernel⟩,
    ⟨1, (Rtrig 0xA8), by decide +kernel⟩,
    ⟨3, { R0 with wch := Vector.replicate 4 { (default : WChan) with gate := some (3, 3) } }, by decide +kernel⟩,
    ⟨2, R0, by decide +kernel⟩,
    ⟨300, R0.on QCH_TEST_OUT_HOLD, by decide +kernel⟩⟩

end Fam03

namespace Fam04
abbrev Rspn (n : Nat) : State := R0.set SPN_STAT_STATE n
abbrev Rrun (n : Nat) : State := modSpn (fun p => { p with run := n }) R0

theorem witness_SpindleStart :
    (∃ (s : State), (s.runs) ∧ (s.pd.safe = false) ∧ (s.spnSt = spnOff ∨ s.spnSt = spnStopping)) ∧
    (∃ (s : State), (s.runs) ∧ (s.pd.safe = true ∨ (s.spnSt ≠ spnOff ∧ s.spnSt ≠ spnStopping ∧ s.spnSt ≠ spnBrake))) ∧
    (∃ (s : State), (s.runs) ∧ (s.pd.safe = false) ∧ (s.driving = true ∨ s.spnSt = spnSense ∨ s.spnSt = spnLocate)) ∧
    (∃ (s : State), (s.runs) ∧ (s.pd.safe = false) ∧ (s.spnSt ≠ spnRectify)) ∧
    (∃ (s : State), (s.runs) ∧ (s.spnSt = spnRectify)) ∧
    (∃ (fwd : Bool) (rpm16 : Nat) (s : State), (s.runs) ∧ (s.spnSt = spnSense)) ∧
    (∃ (rpm16 : Nat) (s : State), (s.runs) ∧ (s.spnSt = spnSense) ∧ (s.atPct 3 rpm16 = true) ∧ (s.flag SPN_CTL_PERMIT = true)) ∧
    (∃ (rpm16 : Nat) (s : State), (s.runs) ∧ (s.spnSt = spnSense) ∧ (s.atPct 3 rpm16 = true)) ∧
    (∃ (rpm16 : Nat) (s : State), (s.runs) ∧ (s.spnSt = spnBrake) ∧ (s.atPct 3 rpm16 = false) ∧ (s.spn.stopBrake = true)) ∧
    (∃ (rpm16 : Nat) (s : State), (s.runs) ∧ (s.spnSt = spnBrake) ∧ (s.atPct 3 rpm16 = false) ∧ (s.spn.stopBrake = false) ∧ (s.flag
      SPN_CTL_PERMIT = true)) ∧
    (∃ (rpm16 : Nat) (s : State), (s.runs) ∧ (s.spnSt = spnBrake) ∧ (s.atPct 3 rpm16 = false) ∧ (s.spn.stopBrake = false) ∧ (s.flag
      SPN_CTL_PERMIT = false)) ∧
    (∃ (rises : Vector Nat 6) (pos : Nat) (neg : Nat) (k : Nat) (t1 : Nat) (t2 : Nat) (s : State), (s.runs) ∧ (s.spnSt = spnLocate) ∧
      (s.spn.locWait = false) ∧ (fastest rises.toList = some (k, t1)) ∧ (fastest (rises.toList.eraseIdx k) = some (0, t2)) ∧ (s.tooClose t1
      t2 = false) ∧ (s.tooClose pos neg = false) ∧ (s.flag SPN_CTL_PERMIT = true)) ∧
    (∃ (rises : Vector Nat 6) (pos : Nat) (neg : Nat) (k : Nat) (t1 : Nat) (s : State), (s.runs) ∧ (s.spnSt = spnLocate) ∧ (s.spn.locWait =
      false) ∧ (fastest rises.toList = some (k, t1)) ∧ (s.tooClose pos neg = true)) ∧
    (∃ (s : State), (s.runs) ∧ (s.spnSt = spnLocate) ∧ (s.spn.locWait = true)) ∧
    (∃ (s : State), (s.runs) ∧ (s.spnSt = spnRamp) ∧ (s.flag SPN_STAT_OBS_LOCK = false) ∧ (s.raw SPN_LAST_START_TRIES < 2)) ∧
    (∃ (s : State), (s.runs) ∧ (s.spnSt = spnRamp) ∧ (s.flag SPN_STAT_OBS_LOCK = false) ∧ (s.raw SPN_LAST_START_TRIES = 2)) :=
  ⟨⟨R0, by decide +kernel⟩,
    ⟨Rspn 7, by decide +kernel⟩,
    ⟨Rspn 7, by decide +kernel⟩,
    ⟨Rspn 7, by decide +kernel⟩,
    ⟨Rspn 11, by decide +kernel⟩,
    ⟨true, 5, Rspn 1, by decide +kernel⟩,
    ⟨60000, (Rspn 1).on SPN_CTL_PERMIT, by decide +kernel⟩,
    ⟨60000, Rspn 1, by decide +kernel⟩,
    ⟨3, modSpn (fun p => { p with stopBrake := true }) (Rspn 2), by decide +kernel⟩,
    ⟨3, (Rspn 2).on SPN_CTL_PERMIT, by decide +kernel⟩,
    ⟨3, (Rspn 2), by decide +kernel⟩,
    ⟨#v[1000, 2000, 2000, 2000, 2000, 2000], 2000, 1000, 0, 1000, 2000, (Rspn 3).on SPN_CTL_PERMIT, by decide +kernel⟩,
    ⟨#v[1000, 2000, 2000, 2000, 2000, 2000], 1000, 1000, 0, 1000, (Rspn 3).on SPN_CTL_PERMIT, by decide +kernel⟩,
    ⟨modSpn (fun p => { p with locWait := true }) (Rspn 3), by decide +kernel⟩,
    ⟨Rspn 4, by decide +kernel⟩,
    ⟨(Rspn 4).set SPN_LAST_START_TRIES 2, by decide +kernel⟩⟩

theorem witness_SpindleRun :
    (∃ (ofs : Int) (rising : Bool) (zero : Bool) (s : State), (s.runs)) ∧
    (∃ (rpm16 : Nat) (s : State), (s.runs) ∧ (6 ≤ s.spn.run) ∧ (s.spnSt = spnRamp) ∧ (s.atPct 5 rpm16 = true) ∧ (s.flag SPN_CTL_PERMIT =
      true) ∧ (s.raw INV_SRC_SRC = srcServo)) ∧
    (∃ (rpm16 : Nat) (s : State), (s.runs) ∧ (6 ≤ s.spn.run) ∧ (s.flag INV_CFG_EN = true) ∧ (s.raw INV_SRC_SRC = srcNone) ∧ (s.spnSt =
      spnOff)) ∧
    (∃ (s : State), (s.runs) ∧ (s.flag SPN_STAT_OBS_LOCK = true) ∧ (s.driving = true)) ∧
    (∃ (s : State), (s.runs) ∧ (s.driving = true)) ∧
    (∃ (e : RingEntry) (s : State), (s.runs) ∧ (s.nextEntry 0 = some e) ∧ (e.cls = .commut) ∧ (s.ringTimed = true) ∧ (e.param % 8 =
      (s.spn.step + 1) % 6)) ∧
    (∃ (s : State), (s.runs) ∧ (s.spnSt = spnAccel)) ∧
    (∃ (ms : Nat) (s : State), (s.runs) ∧ (s.spnSt = spnAccel) ∧ (s.spn.win = true)) ∧
    (∃ (ke : Nat) (drop : Nat) (s : State), (s.runs) ∧ (s.spnSt = spnCoast)) ∧
    (∃ (v : Nat) (s : State), (s.runs)) ∧
    (∃ (s : State), (s.runs) ∧ (s.spn.slewWait = true) ∧ (s.withinCap = true)) ∧
    (∃ (s : State), (s.runs) ∧ (s.spnSt = spnReacq) ∧ (s.spn.parkWait = false)) ∧
    (∃ (s : State), (s.runs) ∧ (s.spnSt = spnReacq) ∧ (s.spn.parkWait = true) ∧ (s.bothParked = true)) ∧
    (∃ (s : State), (s.runs) ∧ (s.spnSt = spnReacq) ∧ (s.spn.parkWait = true) ∧ (s.bothParked = false)) ∧
    (∃ (rpm16 : Nat) (s : State), (s.runs) ∧ (s.spnSt = spnStopping) ∧ (s.atPct 3 rpm16 = false)) ∧
    (∃ (rpm16 : Nat) (s : State), (s.spnSt = spnRectify) ∧ (rpm16 < s.raw SPN_HU_CFG_FLOOR * 1600)) ∧
    (∃ (s : State), (s.spnSt = spnRectify) ∧ (s.pwr.below12 = false) ∧ (s.pwr.below5 = false) ∧ (s.pwr.rectEn = false)) ∧
    (∃ (rpm16 : Nat) (s : State), (s.runs)) ∧
    (∃ (w : Nat) (s : State), (s.runs)) ∧
    (∃ (s : State), (s.runs)) ∧
    (∃ (s : State), (s.runs) ∧ (s.flag SPN_CTL_PERMIT = true)) :=
  ⟨⟨5, true, true, R0.set INV_SRC_SRC 1, by decide +kernel⟩,
    ⟨60000, (((Rrun 6).set SPN_STAT_STATE 4).on SPN_CTL_PERMIT).set INV_SRC_SRC 1, by decide +kernel⟩,
    ⟨60000, (Rrun 6).on INV_CFG_EN, by decide +kernel⟩,
    ⟨((Rspn 7).on SPN_STAT_OBS_LOCK).set INV_SRC_SRC 2, by decide +kernel⟩,
    ⟨(Rspn 7), by decide +kernel⟩,
    ⟨{ stamp := 4194304, cls := .commut, chan := false, tagged := false, lateDrop := false, param := 1, tag := 0 }, setRing 0 [{ stamp := 4194304, cls := .commut, chan := false, tagged := false, lateDrop := false, param := 1, tag := 0 }] (((Rspn 7).on SPN_CTL_RING_EN).set INV_SRC_SRC 1), by decide +kernel⟩,
    ⟨(Rspn 5), by decide +kernel⟩,
    ⟨170000, modSpn (fun p => { p with win := true }) (Rspn 5), by decide +kernel⟩,
    ⟨170000, 5, (Rspn 6), by decide +kernel⟩,
    ⟨170000, (Rspn 7), by decide +kernel⟩,
    ⟨modSpn (fun p => { p with slewWait := true }) (Rspn 7), by decide +kernel⟩,
    ⟨(Rspn 9), by decide +kernel⟩,
    ⟨modSpn (fun p => { p with parkWait := true }) (Rspn 9), by decide +kernel⟩,
    ⟨(modSpn (fun p => { p with parkWait := true }) (Rspn 9)).set ACT_STAT_STATE_B 3, by decide +kernel⟩,
    ⟨3, (Rspn 10), by decide +kernel⟩,
    ⟨3, (Rspn 11).set SPN_HU_CFG_FLOOR 4, by decide +kernel⟩,
    ⟨(Rspn 11), by decide +kernel⟩,
    ⟨170000, (Rspn 11), by decide +kernel⟩,
    ⟨0xFFFFFFFFFFF, (Rspn 11), by decide +kernel⟩,
    ⟨R0, by decide +kernel⟩,
    ⟨(Rspn 4).on SPN_CTL_PERMIT, by decide +kernel⟩⟩

end Fam04

namespace Fam05
abbrev Ract (n : Nat) : State := (R0.set ACT_STAT_STATE_A n).set ACT_STAT_STATE_B n
abbrev Rtwin (n : Nat) : State := modLane 1 1 (fun x => { x with sel := 3, found := true, pos := some 77000 }) (modLane 1 0 (fun x => { x with sel := 2, found := true, pos := some 77000 }) ((((Ract n).on (SRV_CFG_EN 1)).on (SRV_TWIN_TWIN_EN 1)).on (SRV_PA_CFG_DUAL 1)))
abbrev Rsend (f : PaFrame) : State := modSrv 1 (fun v => { v with sending := some f }) R0

theorem witness_ServoCommands :
    (∃ (a : Fin 2) (s : State), (s.runs)) ∧
    (∃ (a : Fin 2) (s : State), (s.runs)) ∧
    (∃ (a : Fin 2) (v : Word) (s : State), (s.runs) ∧ (s.flag (SRV_PA_CMD_GO a.val) = false) ∧ (s.paCount a < 15)) ∧
    (∃ (a : Fin 2) (v : Word) (s : State), (s.runs) ∧ (s.flag (SRV_PA_CMD_GO a.val) = false) ∧ (15 ≤ s.paCount a)) ∧
    (∃ (a : Fin 2) (v : Word) (s : State), (s.runs) ∧ (s.flag (SRV_PA_CMD_GO a.val) = true)) ∧
    (∃ (a : Fin 2) (v : Word) (s : State), (s.runs) ∧ ((s.srv[a]).noPreamp = false) ∧ (bits v.toNat 0 4 ≠ s.raw (SRV_HSEL_HEAD0 a.val)) ∧
      (bits v.toNat 8 4 = s.raw (SRV_HSEL_HEAD1 a.val)) ∧ (bits v.toNat 0 4 ≠ bits v.toNat 8 4)) ∧
    (∃ (a : Fin 2) (v : Word) (s : State), (s.runs) ∧ (bits v.toNat 0 4 = bits v.toNat 8 4) ∧ (bits v.toNat 0 4 < 10) ∧ (s.raw
      (SRV_HSEL_HEAD0 a.val) ≠ bits v.toNat 0 4)) ∧
    (∃ (a : Fin 2) (l : Fin 2) (s : State), (s.runs)) ∧
    (∃ (a : Fin 2) (l : Fin 2) (ba : Nat) (bc : Nat) (trk : Nat) (rro : Nat) (vel : Int) (ref : Int) (s : State), (s.runs) ∧ (s.demod a l =
      true) ∧ ((s.lane a l).settling = false) ∧ ((s.lane a l).found = true)) ∧
    (∃ (a : Fin 2) (l : Fin 2) (ba : Nat) (bb : Nat) (bc : Nat) (bd : Nat) (trk : Nat) (rro : Nat) (vel : Int) (ref : Int) (s : State),
      (s.runs) ∧ (s.demod a l = true) ∧ ((s.lane a l).settling = false) ∧ ((s.lane a l).found = true) ∧ (ba ≠ bb) ∧ ((s.lane a l).idx <
      1024)) ∧
    (∃ (a : Fin 2) (s : State), (s.runs) ∧ (s.actSt a = actAcquire ∨ s.actSt a = actFollow)) ∧
    (∃ (a : Fin 2) (s : State), (s.runs) ∧ (s.actSt a ≠ actAcquire) ∧ (s.actSt a ≠ actFollow)) ∧
    (∃ (a : Fin 2) (s : State), (s.runs) ∧ ((s.srv[a]).handover = true) ∧ (s.twin a = true)) ∧
    (∃ (x : BitVec 8) (y : BitVec 8) (z : BitVec 8) (r : BitVec 8) (p : Fin 2) (s : State), (s.runs) ∧ (s.raw QCH_SHOCK_LIN_TH <
      x.toInt.natAbs)) ∧
    (∃ (x : BitVec 8) (y : BitVec 8) (z : BitVec 8) (r : BitVec 8) (p : Fin 2) (s : State), (s.runs) ∧ (s.shockBeyond x.toInt y.toInt
      z.toInt r.toInt = false)) ∧
    (∃ (a : Fin 2) (s : State), (s.runs) ∧ (s.flag (SRV_SHOCK_FALL_EN a.val) = true) ∧ (s.shock.calm = true) ∧ (s.shock.fell = false)) ∧
    (∃ (a : Fin 2) (s : State), (s.runs)) :=
  ⟨⟨0, R0, by decide +kernel⟩,
    ⟨1, R0.on (SRV_CFG_EN 1), by decide +kernel⟩,
    ⟨1, 0x13FA5#32, R0, by decide +kernel⟩,
    ⟨1, 0x13FA5#32, modSrv 1 (fun v => { v with queue := List.replicate 15 { kind := .modeIdle, rd := false, addr := 1, data := 1 } }) R0, by decide +kernel⟩,
    ⟨1, 0x13FA5#32, R0.on (SRV_PA_CMD_GO 1), by decide +kernel⟩,
    ⟨1, 0xF03#32, (R0.set (SRV_HSEL_HEAD1 1) 15).set (SRV_HSEL_HEAD0 1) 15, by decide +kernel⟩,
    ⟨1, 0x303#32, (R0.set (SRV_HSEL_HEAD1 1) 15).set (SRV_HSEL_HEAD0 1) 15, by decide +kernel⟩,
    ⟨1, 1, R0, by decide +kernel⟩,
    ⟨1, 0, 5, 6, 77, 3, 0, 0, modLane 1 0 (fun x => { x with found := true, sel := 3 }) ((Ract 3).on (SRV_CFG_EN 1)), by decide +kernel⟩,
    ⟨1, 0, 50, 6, 7, 8, 77, 3, 0, 0, modLane 1 0 (fun x => { x with found := true, sel := 3 }) ((Ract 3).on (SRV_CFG_EN 1)), by decide +kernel⟩,
    ⟨1, Ract 3, by decide +kernel⟩,
    ⟨1, Ract 0, by decide +kernel⟩,
    ⟨1, modSrv 1 (fun v => { v with handover := true }) (Rtwin 3), by decide +kernel⟩,
    ⟨0x7F#8, 3#8, 4#8, 0x81#8, 1, R0, by decide +kernel⟩,
    ⟨0x7F#8, 3#8, 4#8, 0x81#8, 1, (R0.set QCH_SHOCK_LIN_TH 255).set QCH_SHOCK_ROT_TH 255, by decide +kernel⟩,
    ⟨0, { (Ract 3).on (SRV_SHOCK_FALL_EN 0) with shock := { calm := true, fell := false } }, by decide +kernel⟩,
    ⟨0, R0, by decide +kernel⟩⟩

theorem witness_PreampFrames :
    (∃ (a : Fin 2) (data : Nat) (ad : Nat) (w : Nat) (s : State), (s.runs) ∧ ((s.srv[a]).sending = some
      { kind := .faultRead, rd := true, addr := ad, data := w })) ∧
    (∃ (a : Fin 2) (data : Nat) (ad : Nat) (w : Nat) (s : State), (s.runs) ∧ ((s.srv[a]).sending = some
      { kind := .idRead, rd := true, addr := ad, data := w })) ∧
    (∃ (a : Fin 2) (data : Nat) (ad : Nat) (w : Nat) (s : State), (s.runs) ∧ ((s.srv[a]).sending = some
      { kind := .command, rd := true, addr := ad, data := w })) ∧
    (∃ (a : Fin 2) (data : Nat) (ad : Nat) (w : Nat) (s : State), (s.runs) ∧ ((s.srv[a]).sending = some
      { kind := .command, rd := false, addr := ad, data := w })) ∧
    (∃ (a : Fin 2) (l : Fin 2) (data : Nat) (ad : Nat) (w : Nat) (s : State), (s.runs) ∧ ((s.srv[a]).sending = some
      { kind := .headSelect l, rd := false, addr := ad, data := w })) ∧
    (∃ (a : Fin 2) (data : Nat) (ad : Nat) (w : Nat) (s : State), (s.runs) ∧ ((s.srv[a]).sending = some
      { kind := .modeActive, rd := false, addr := ad, data := w }) ∧ (s.actSt a = actLoading) ∧ ((s.act[a]).modeWait = true)) ∧
    (∃ (a : Fin 2) (ch : Fin 4) (data : Nat) (ad : Nat) (w : Nat) (s : State), (s.runs) ∧ ((s.srv[a]).sending = some
      { kind := .temper ch true, rd := false, addr := ad, data := w })) ∧
    (∃ (a : Fin 2) (data : Nat) (s : State), (s.runs) ∧ ((s.srv[a]).sending = none) ∧ ((s.srv[a]).queue = []) ∧ ((∀ ch : Fin 4,
      (s.wch[ch]).tprLeft = []))) :=
  ⟨⟨1, 300, 3, 4, Rsend { kind := .faultRead, rd := true, addr := 3, data := 4 }, by decide +kernel⟩,
    ⟨1, 300, 3, 4, Rsend { kind := .idRead, rd := true, addr := 3, data := 4 }, by decide +kernel⟩,
    ⟨1, 300, 3, 4, Rsend { kind := .command, rd := true, addr := 3, data := 4 }, by decide +kernel⟩,
    ⟨1, 300, 3, 255, (Rsend { kind := .command, rd := false, addr := 3, data := 255 }).set (SRV_PA_MAP_FAULT 1) 3, by decide +kernel⟩,
    ⟨1, 0, 300, 3, 4, Rsend { kind := .headSelect 0, rd := false, addr := 3, data := 4 }, by decide +kernel⟩,
    ⟨1, 300, 3, 4, modAct 1 (fun v => { v with modeWait := true }) ((Rsend { kind := .modeActive, rd := false, addr := 3, data := 4 }).set ACT_STAT_STATE_B 1), by decide +kernel⟩,
    ⟨1, 3, 300, 3, 4, Rsend { kind := .temper 3 true, rd := false, addr := 3, data := 4 }, by decide +kernel⟩,
    ⟨1, 3, R0, by decide +kernel⟩⟩

theorem witness_SeekCommands :
    (∃ (a : Fin 2) (v : Word) (s : State), (s.runs) ∧ (s.raw (SRV_STAT_SEEK_STATE a.val) = 0) ∧ (s.actSt a = actFollow) ∧ (s.wrActive a =
      false) ∧ (bits v.toNat 16 4 = 0)) ∧
    (∃ (a : Fin 2) (v : Word) (s : State), (s.runs) ∧ (s.raw (SRV_STAT_SEEK_STATE a.val) = 0) ∧ (s.actSt a = actFollow) ∧ (s.wrActive a =
      false) ∧ (bits v.toNat 16 4 ≠ 0)) ∧
    (∃ (a : Fin 2) (v : Word) (s : State), (s.runs) ∧ (s.raw (SRV_STAT_SEEK_STATE a.val) = 0) ∧ (s.actSt a ≠ actFollow ∨ s.wrActive a =
      true)) ∧
    (∃ (a : Fin 2) (s : State), (s.runs) ∧ (s.raw (SRV_STAT_SEEK_STATE a.val) = 1) ∧ (s.raw (SRV_PROF_W0_FALLBACK a.val (s.srv[a]).prof) =
      0)) ∧
    (∃ (a : Fin 2) (s : State), (s.runs) ∧ (s.raw (SRV_STAT_SEEK_STATE a.val) = 1) ∧ (s.raw (SRV_PROF_W0_FALLBACK a.val (s.srv[a]).prof) ≠
      0)) ∧
    (∃ (a : Fin 2) (s : State), (s.runs) ∧ (s.raw (SRV_STAT_SEEK_STATE a.val) = 2)) ∧
    (∃ (a : Fin 2) (s : State), (s.runs) ∧ (s.raw (SRV_STAT_SEEK_STATE a.val) = 3) ∧ (s.settleN a ≤ (s.srv[a]).settleRun)) ∧
    (∃ (a : Fin 2) (s : State), (s.runs) ∧ (s.raw (SRV_STAT_SEEK_STATE a.val) = 3) ∧ (s.settleN a + 64 ≤ (s.srv[a]).settleCnt)) :=
  ⟨⟨1, 0x500#32, Ract 3, by decide +kernel⟩,
    ⟨1, 0x10500#32, Ract 3, by decide +kernel⟩,
    ⟨1, 0x10500#32, Ract 0, by decide +kernel⟩,
    ⟨1, R0.set (SRV_STAT_SEEK_STATE 1) 1, by decide +kernel⟩,
    ⟨1, (R0.set (SRV_STAT_SEEK_STATE 1) 1).set (SRV_PROF_W0_FALLBACK 1 0) 2, by decide +kernel⟩,
    ⟨1, R0.set (SRV_STAT_SEEK_STATE 1) 2, by decide +kernel⟩,
    ⟨1, modSrv 1 (fun v => { v with settleRun := 99 }) (R0.set (SRV_STAT_SEEK_STATE 1) 3), by decide +kernel⟩,
    ⟨1, modSrv 1 (fun v => { v with settleCnt := 999 }) (R0.set (SRV_STAT_SEEK_STATE 1) 3), by decide +kernel⟩⟩

theorem witness_ActuatorCommands :
    (∃ (a : Fin 2) (s : State), (s.runs) ∧ (s.loadOk a = true)) ∧
    (∃ (a : Fin 2) (s : State), (s.runs) ∧ (s.loadOk a = false)) ∧
    (∃ (a : Fin 2) (s : State), (s.runs) ∧ (s.actSt a = actLoading ∨ s.actSt a = actAcquire)) ∧
    (∃ (a : Fin 2) (s : State), (s.runs) ∧ (s.pd.safe = false) ∧ (s.actUp a = true)) ∧
    (∃ (a : Fin 2) (s : State), (s.runs) ∧ (s.pd.safe = true ∨ s.actUp a = false)) ∧
    (∃ (a : Fin 2) (s : State), (s.runs) ∧ (s.actSt a = actUnloading)) ∧
    (∃ (a : Fin 2) (s : State), (s.runs) ∧ (s.actSt a = actUnloading)) ∧
    (∃ (a : Fin 2) (s : State), (s.runs) ∧ (s.pd.safe = false) ∧ (s.actSt a ≠ actParked)) ∧
    (∃ (a : Fin 2) (s : State), (s.runs) ∧ (s.pd.safe = true ∨ s.actSt a = actParked)) ∧
    (∃ (a : Fin 2) (s : State), (s.actSt a ≠ actParked)) ∧
    (∃ (a : Fin 2) (s : State), (s.actSt a = actParked)) ∧
    (∃ (a : Fin 2) (s : State), (s.actSt a = actRetract)) ∧
    (∃ (a : Fin 2) (s : State), (s.actSt a = actRetract) ∧ ((s.act[a]).holdPhase = true)) :=
  ⟨⟨1, modLane 1 0 (fun x => { x with sel := 3 }) (((R0.set ACT_STAT_STATE_B 0).on SPN_STAT_AT_SPEED).on (SRV_COEF_CTL_LOADED 1)), by decide +kernel⟩,
    ⟨1, R0, by decide +kernel⟩,
    ⟨1, Ract 1, by decide +kernel⟩,
    ⟨1, Ract 3, by decide +kernel⟩,
    ⟨1, Ract 4, by decide +kernel⟩,
    ⟨1, Ract 4, by decide +kernel⟩,
    ⟨1, Ract 4, by decide +kernel⟩,
    ⟨1, Ract 5, by decide +kernel⟩,
    ⟨1, Ract 0, by decide +kernel⟩,
    ⟨1, Ract 3, by decide +kernel⟩,
    ⟨1, Ract 0, by decide +kernel⟩,
    ⟨1, Ract 5, by decide +kernel⟩,
    ⟨1, modAct 1 (fun v => { v with holdPhase := true }) (Ract 5), by decide +kernel⟩⟩

end Fam05

namespace Fam06
abbrev E (c : RingClass) (tag : Nat) : RingEntry := { stamp := 4194304 + 2000, cls := c, chan := true, tagged := true, lateDrop := false, param := 1, tag }
abbrev Rr (c : RingClass) (tag : Nat) : State := setRing 1 [E c tag] (((R0.set INV_SRC_SRC 1).set (SRV_WIN_WR_START 1) 300).set (SRV_WIN_WR_END 1) 4000)
abbrev Rh (c : RingClass) (tag : Nat) : State := { (Rr c tag).set QCH_CTL_HOLD 0 with qch := { R0.qch with trig := #v[0, 0] } }
abbrev Dn (m : Nat) (b : Bool) : WDesc := { pmode := m, tag := 7, head := 2, rz := 3, startWedge := 0, slot := 5, startBit := 0, md := false, dataAddr := 1, mdAddr := 2, hlba := 3, ns := 1, kind := 0, seq := 9, code := 0, bpw := 4000, pc1 := 0, pc2 := 0, cap := 38880, wrStart := 300, ready := b, done := 0, info := 1 }
abbrev Rd (c : RingClass) : State := modWch 3 (fun x => { x with queue := [Dn 0 true] }) ((Rh c 7).onBit TPR_STAT_READY 3)
abbrev RR : RwRec := { reason := 1, part := false, pesSign := false, tag := 1, angle := 1 }
abbrev Rz : State := (((((((R0.on (WCH_CTL_EN 1)).set (WCH_RZ_W1_BPW 0 2 3) 40000).set (SRV_WIN_WR_START 0) 300).set (SRV_WIN_WR_END 0) 4000).set (WCH_RZ_W2_SPT 0 2 3) 100).set ((WCH_FQ_W 1 1).of .host) 0x20C00000)).set ((WCH_FQ_W 1 6).of .host) 0x1000

theorem witness_WriteGateCommands :
    (∃ (a : Fin 2) (e : RingEntry) (s : State), (s.runs) ∧ (s.nextEntry a = some e) ∧ (e.cls = .wgOpen) ∧ ((s.atEntry a e).chHeld (e.ch a)
      = true) ∧ (((s.atEntry a e).qch.fifo[e.ch a]).length < 32)) ∧
    (∃ (a : Fin 2) (e : RingEntry) (s : State), (s.runs) ∧ (s.nextEntry a = some e) ∧ (e.cls = .wgOpen) ∧ ((s.atEntry a e).chHeld (e.ch a)
      = true) ∧ (32 ≤ ((s.atEntry a e).qch.fifo[e.ch a]).length)) ∧
    (∃ (a : Fin 2) (e : RingEntry) (d : WDesc) (s : State), (s.runs) ∧ (s.nextEntry a = some e) ∧ (e.cls = .wgOpen) ∧ ((s.atEntry a
      e).chHeld (e.ch a) = false) ∧ ((s.atEntry a e).flag QCH_TEST_OUT_HOLD = false) ∧ ((s.atEntry a e).inv.quiet[e.ch a] = false) ∧
      (((s.atEntry a e).wch[e.ch a]).abandoned.contains e.tag = false) ∧ ((s.atEntry a e).descOf (e.ch a) e.tag = some d) ∧ (d.ready =
      true) ∧ ((s.atEntry a e).bit TPR_STAT_READY (e.ch a).val = true) ∧ (((s.atEntry a e).wch[e.ch a]).gate = none) ∧ ((s.atEntry a e).raw
      (SRV_WIN_WR_START (actOf (e.ch a)).val) ≤ (s.atEntry a e).surfTick ((s.atEntry a e).surfOfCh (e.ch a))) ∧ ((s.atEntry a e).surfTick
      ((s.atEntry a e).surfOfCh (e.ch a)) < (s.atEntry a e).raw (SRV_WIN_WR_END (actOf (e.ch a)).val))) ∧
    (∃ (a : Fin 2) (e : RingEntry) (s : State), (s.runs) ∧ (s.nextEntry a = some e) ∧ (e.cls = .wgOpen) ∧ ((s.atEntry a e).chHeld (e.ch a)
      = false) ∧ ((s.atEntry a e).flag QCH_TEST_OUT_HOLD = false) ∧ ((s.atEntry a e).inv.quiet[e.ch a] = false) ∧ (((s.atEntry a
      e).wch[e.ch a]).abandoned.contains e.tag = false) ∧ ((s.atEntry a e).descOf (e.ch a) e.tag = none)) ∧
    (∃ (a : Fin 2) (e : RingEntry) (k : Nat) (d : WDesc) (s : State), (s.runs) ∧ (s.nextEntry a = some e) ∧ (e.cls = .wgClose) ∧
      (((s.atEntry a e).wch[e.ch a]).gate = some (e.tag, k)) ∧ ((s.atEntry a e).descOf (e.ch a) e.tag = some d) ∧ ((s.atEntry a e).isAhead
      ((s.atEntry a e).deviceTick (surfOf (actOf (e.ch a)) d.head) ((((s.atEntry a e).frags d)[k]?).getD default).wedge (fragEnd d
      ((((s.atEntry a e).frags d)[k]?).getD default))) = true)) ∧
    (∃ (a : Fin 2) (e : RingEntry) (k : Nat) (d : WDesc) (s : State), (s.runs) ∧ (s.nextEntry a = some e) ∧ (e.cls = .wgClose) ∧
      (((s.atEntry a e).wch[e.ch a]).gate = some (e.tag, k)) ∧ ((s.atEntry a e).descOf (e.ch a) e.tag = some d) ∧ ((s.atEntry a e).isAhead
      ((s.atEntry a e).deviceTick (surfOf (actOf (e.ch a)) d.head) ((((s.atEntry a e).frags d)[k]?).getD default).wedge (fragEnd d
      ((((s.atEntry a e).frags d)[k]?).getD default))) = false) ∧ (((s.atEntry a e).frags d).length ≤ k + 1)) ∧
    (∃ (a : Fin 2) (l : Fin 2) (tag : Nat) (k : Nat) (s : State), (s.runs) ∧ ((s.wch[chOfLane a l s]).gate = some (tag, k))) :=
  ⟨⟨1, E .wgOpen 7, { Rr .wgOpen 7 with qch := { R0.qch with trig := #v[0, 128] } }, by decide +kernel⟩,
    ⟨1, E .wgOpen 7, { Rr .wgOpen 7 with qch := { R0.qch with trig := #v[0, 128], fifo := #v[[], [], [], List.replicate 32 RR] } }, by decide +kernel⟩,
    ⟨1, E .wgOpen 7, Dn 0 true, Rd .wgOpen, by decide +kernel⟩,
    ⟨1, E .wgOpen 7, Rh .wgOpen 7, by decide +kernel⟩,
    ⟨1, E .wgClose 7, 0, Dn 0 true, modWch 3 (fun x => { x with gate := some (7, 0) }) (Rd .wgClose), by decide +kernel⟩,
    ⟨1, E .wgClose 7, 0, { Dn 0 true with cap := 40000, bpw := 400000000 }, modWch 3 (fun x => { x with gate := some (7, 0), queue := [{ Dn 0 true with cap := 40000, bpw := 400000000 }] }) (Rd .wgClose), by decide +kernel⟩,
    ⟨1, 1, 7, 0, modWch 3 (fun x => { x with gate := some (7, 0) }) (Rd .wgClose), by decide +kernel⟩⟩

theorem witness_WriteCommands :
    (∃ (r : Req) (ch : Fin 4) (w7 : Word) (s : State), (s.runs) ∧ (s.wCommitResult ch (s.wDesc r ch w7.toNat) = 0)) ∧
    (∃ (r : Req) (ch : Fin 4) (w7 : Word) (s : State), (s.runs) ∧ (s.wCommitResult ch (s.wDesc r ch w7.toNat) ≠ 0)) ∧
    (∃ (ch : Fin 4) (tag : Nat) (d : WDesc) (s : State), (s.runs) ∧ (s.descOf ch tag = some d) ∧ (d.ready = false) ∧ (s.descReadable d =
      true) ∧ (((s.wch[ch]).queue.filter fun x => x.ready).length < 3)) ∧
    (∃ (ch : Fin 4) (s : State), (s.runs)) ∧
    (∃ (ch : Fin 4) (s : State), (s.runs) ∧ ((s.wch[ch]).gate = none) ∧ ((s.wch[ch]).assist = false) ∧ ((s.wch[ch]).queue = [])) ∧
    (∃ (ch : Fin 4) (s : State), (s.runs) ∧ ((s.wch[ch]).gate ≠ none ∨ (s.wch[ch]).assist = true ∨ (s.wch[ch]).queue ≠ [])) ∧
    (∃ (ch : Fin 4) (s : State), (s.runs)) ∧
    (∃ (ch : Fin 4) (s : State), (s.runs) ∧ (s.wTpBusy ch = true)) ∧
    (∃ (ch : Fin 4) (s : State), (s.runs) ∧ (s.wTpBusy ch = false)) ∧
    (∃ (ch : Fin 4) (s : State), (s.runs) ∧ (s.wTpBusy ch = false)) ∧
    (∃ (ch : Fin 4) (s : State), (s.runs) ∧ (s.wTpBusy ch = false) ∧ ((s.wch[ch]).mask < 2 ^ 64) ∧ (s.raw (WCH_TP_ADDR_ADDR ch.val) * 64 +
      4160 ≤ dramSize)) ∧
    (∃ (a : Fin 2) (h : Fin 10) (z : Fin 64) (v : Word) (s : State), (s.runs)) ∧
    (∃ (a : Fin 2) (h : Fin 10) (z : Fin 64) (v : Word) (s : State), (s.runs)) ∧
    (∃ (a : Fin 2) (h : Fin 10) (z : Fin 64) (v : Word) (s : State), (s.runs)) ∧
    (∃ (a : Fin 2) (h : Fin 10) (z : Fin 64) (v : Word) (s : State), (s.runs)) ∧
    (∃ (ch : Fin 4) (v : Word) (s : State), (s.runs)) :=
  ⟨⟨.host, 1, 99#32, Rz, by decide +kernel⟩,
    ⟨.host, 1, 99#32, (R0.on (WCH_CTL_EN 1)), by decide +kernel⟩,
    ⟨3, 7, Dn 1 false, modWch 3 (fun x => { x with queue := [Dn 1 false] }) R0, by decide +kernel⟩,
    ⟨3, R0, by decide +kernel⟩,
    ⟨3, R0, by decide +kernel⟩,
    ⟨3, modWch 3 (fun x => { x with assist := true }) R0, by decide +kernel⟩,
    ⟨3, modWch 3 (fun x => { x with cq := [(1,2), (3,4)] }) R0, by decide +kernel⟩,
    ⟨3, modWch 3 (fun x => { x with queue := [Dn 1 false] }) R0, by decide +kernel⟩,
    ⟨3, R0, by decide +kernel⟩,
    ⟨3, modWch 3 (fun x => { x with acc := 5 }) R0, by decide +kernel⟩,
    ⟨3, modWch 3 (fun x => { x with acc := 5, mask := 0x0123456789ABCDEF }) R0, by decide +kernel⟩,
    ⟨0, 3, 5, 0x12345678#32, R0, by decide +kernel⟩,
    ⟨0, 3, 5, 0x12345678#32, R0, by decide +kernel⟩,
    ⟨0, 3, 5, 0x12345678#32, R0, by decide +kernel⟩,
    ⟨0, 3, 5, 0x12345678#32, R0, by decide +kernel⟩,
    ⟨2, 0x12345678#32, R0.on TPR_CTL_EN, by decide +kernel⟩⟩

end Fam06

namespace Fam07
abbrev Dn (m : Nat) : WDesc := { pmode := m, tag := 7, head := 2, rz := 3, startWedge := 0, slot := 5, startBit := 0, md := false, dataAddr := 1, mdAddr := 2, hlba := 3, ns := 1, kind := 0, seq := 9, code := 0, bpw := 4000, pc1 := 0, pc2 := 0, cap := 38880, wrStart := 300, ready := false, done := 0, info := 1 }
abbrev Rdsc : RDesc := { chk := true, w := Dn 0 }
abbrev Rz : State := (((((((((R0.on (RCH_CTL_EN 1)).on (RCH_SEL_READY 1)).set (WCH_RZ_W1_BPW 0 2 3) 40000).set (SRV_WIN_WR_START 0) 300).set (SRV_WIN_WR_END 0) 4000).set (WCH_RZ_W2_SPT 0 2 3) 100).set ((RCH_FQ_W 1 1).of .host) 0x20C00000)).set ((RCH_FQ_W 1 6).of .host) 0x1000)
abbrev Rq : State := modRch 2 (fun c => { c with queue := [Rdsc] }) R0
abbrev slot1 (m : Nat) : RSlot := { (default : RSlot) with desc := { Rdsc with w := Dn m }, localMax := 1 }
abbrev Rcur : State := modRch 2 (fun c => { c with cur := some 3, wait := [4, 5], slots := [(3, slot1 0)] }) (((R0.set (RCH_ACT_W2_GLOBAL_MAX 2) 1).set (RCH_ACT_W2_LOCAL_MAX 2) 1).set RCH_STOP_STALL_L 1)
abbrev J : DJob := { mode := 0, ch := 2, release := true, slot := 3, slot2 := 0, gmax := 1, prio := false, tag := 7 }
abbrev RR : RwRec := { reason := 1, part := false, pesSign := false, tag := 7, angle := 1 }

theorem witness_ReadCommands :
    (∃ (r : Req) (ch : Fin 4) (w7 : Word) (s : State), (s.runs) ∧ (s.rCommitResult ch (s.rDesc r ch) = 0)) ∧
    (∃ (r : Req) (ch : Fin 4) (w7 : Word) (s : State), (s.runs) ∧ (s.rCommitResult ch (s.rDesc r ch) ≠ 0)) ∧
    (∃ (ch : Fin 4) (tag : Nat) (d : RDesc) (s : State), (s.runs) ∧ ((s.rch[ch]).queue.find? (fun x => x.w.tag == tag) = some d) ∧
      ((s.rch[ch]).opens.any (fun e => e.1 == tag) = false)) ∧
    (∃ (ch : Fin 4) (tag : Nat) (samples : Nat) (run : Nat) (g0 : Nat) (g1 : Nat) (m : List (Int × Nat)) (rs : List (List (Int × Nat)))
      (taps : List Nat) (ovf : Nat × Nat × Nat) (d : RDesc) (s : State), (s.runs) ∧ ((s.rch[ch]).queue.find? (fun x => x.w.tag == tag) =
      some d)) ∧
    (∃ (ch : Fin 4) (tag : Nat) (samples : Nat) (run : Nat) (g0 : Nat) (g1 : Nat) (m : List (Int × Nat)) (rs : List (List (Int × Nat)))
      (taps : List Nat) (ovf : Nat × Nat × Nat) (d : RDesc) (s : State), (s.runs) ∧ ((s.rch[ch]).queue.find? (fun x => x.w.tag == tag) =
      some d) ∧ (s.frameMark ch d.w m rs = none)) ∧
    (∃ (ch : Fin 4) (tag : Nat) (samples : Nat) (run : Nat) (g0 : Nat) (g1 : Nat) (m : List (Int × Nat)) (rs : List (List (Int × Nat)))
      (taps : List Nat) (ovf : Nat × Nat × Nat) (d : RDesc) (o : Int) (s : State), (s.runs) ∧ ((s.rch[ch]).queue.find? (fun x => x.w.tag ==
      tag) = some d) ∧ (s.frameMark ch d.w m rs = some o) ∧ ((s.rch[ch]).cur = none) ∧ ((s.rch[ch]).wait = []) ∧ (0 < s.get
      (RCH_CTL_INQ_LIM ch.val))) ∧
    (∃ (ch : Fin 4) (run : DecRun) (k : Nat) (o : DecOut) (s : State), (s.runs) ∧ ((s.rch[ch]).cur = some k) ∧ (s.decode (s.get
      (RCH_ACT_W2_GLOBAL_MAX ch.val)) (s.get (RCH_ACT_W2_LOCAL_MAX ch.val)) (s.flag RCH_STOP_ET_INL) (s.sslot ch k).desc run = some o)) ∧
    (∃ (ch : Fin 4) (s : State), (s.runs)) ∧
    (∃ (ch : Fin 4) (v : Word) (s : State), (s.runs)) ∧
    (∃ (ch : Fin 4) (s : State), (s.runs) ∧ (s.flag (RCH_SEL_LOAD ch.val) = true) ∧ (s.spanOpen ch = false)) ∧
    (∃ (v : Word) (s : State), (s.runs) ∧ (pairClash (v.toNat % 16) (fun c => s.flag (RCH_CTL_EN c.val)) = false)) ∧
    (∃ (v : Word) (s : State), (s.runs) ∧ (pairClash (v.toNat % 16) (fun c => s.flag (RCH_CTL_EN c.val)) = true)) ∧
    (∃ (ch : Fin 4) (k : Fin 64) (s : State), (s.runs) ∧ ((s.rch[ch]).pinned < 32)) ∧
    (∃ (ch : Fin 4) (k : Fin 64) (s : State), (s.runs) ∧ (32 ≤ (s.rch[ch]).pinned) ∧ (bitOf (s.rch[ch]).pins k.val = false)) ∧
    (∃ (ch : Fin 4) (k : Fin 64) (s : State), (s.runs)) ∧
    (∃ (ch : Fin 4) (k : Fin 64) (s : State), (s.runs) ∧ (bitOf (s.rch[ch]).pins k.val = true) ∧ ((s.sslot ch k.val).desc.w.pmode = 1) ∧
      (popcount 65 (s.rch[ch]).bits65 = 64) ∧ (bitOf (s.rch[ch]).bits65 ((s.sslot ch k.val).desc.w.slot % 65) = false)) ∧
    (∃ (ch : Fin 4) (k : Fin 64) (s : State), (s.runs) ∧ (bitOf (s.rch[ch]).pins k.val = false)) ∧
    (∃ (ch : Fin 4) (s : State), (s.runs) ∧ (s.memberJob ch = true)) ∧
    (∃ (ch : Fin 4) (s : State), (s.runs) ∧ (s.memberJob ch = false)) ∧
    (∃ (ch : Fin 4) (s : State), (s.runs) ∧ (s.memberJob ch = false)) ∧
    (∃ (ch : Fin 4) (s : State), (s.runs) ∧ (s.memberJob ch = false)) :=
  ⟨⟨.host, 1, 99#32, Rz, by decide +kernel⟩,
    ⟨.host, 1, 99#32, R0.on (RCH_CTL_EN 1), by decide +kernel⟩,
    ⟨2, 7, Rdsc, Rq, by decide +kernel⟩,
    ⟨2, 7, 5, 1, 2, 3, [], [], [], (1, 2, 3), Rdsc, Rq, by decide +kernel⟩,
    ⟨2, 7, 5, 1, 2, 3, [(0, 40)], [], [], (1, 2, 3), Rdsc, Rq.on (RCH_CTL_AUTOPIN 2), by decide +kernel⟩,
    ⟨2, 7, 5, 1, 2, 3, [(0, 0)], [], [1, 2, 3], (1, 2, 3), Rdsc, 0, Rq, by decide +kernel⟩,
    ⟨2, { us := [[5]], info := 3 }, 3, { status := 1, giter := 1, liter := 1, u := 5, conv := false, info := 3 }, Rcur, by decide +kernel⟩,
    ⟨2, modRch 2 (fun c => { c with cq := [default, default] }) R0, by decide +kernel⟩,
    ⟨2, 0x1234567#32, R0, by decide +kernel⟩,
    ⟨2, (R0.on (RCH_SEL_LOAD 2)).set (RCH_HZ_W0_CTF_FC 10 0) 9, by decide +kernel⟩,
    ⟨0x5#32, R0, by decide +kernel⟩,
    ⟨0x1#32, (R0.on (RCH_CTL_EN 0)).on (RCH_CTL_EN 1), by decide +kernel⟩,
    ⟨2, 63, R0, by decide +kernel⟩,
    ⟨2, 63, modRch 2 (fun c => { c with pins := 2 ^ 32 - 1 }) R0, by decide +kernel⟩,
    ⟨2, 5, modRch 2 (fun c => { c with pins := 2 ^ 32 - 1 }) R0, by decide +kernel⟩,
    ⟨2, 3, modRch 2 (fun c => { c with pins := 8, mask := 2 ^ 64 - 1 - 2 ^ 5, par := true, slots := [(3, slot1 1)] }) R0, by decide +kernel⟩,
    ⟨2, 3, R0, by decide +kernel⟩,
    ⟨2, { modRch 2 (fun c => { c with slots := [(3, slot1 1)] }) R0 with deep := { R0.deep with jobs := [{ mode := 0, ch := 2, release := false, slot := 3, slot2 := 0, gmax := 0, prio := false, tag := 7 }] } }, by decide +kernel⟩,
    ⟨2, modRch 2 (fun c => { c with par := true }) R0, by decide +kernel⟩,
    ⟨2, R0, by decide +kernel⟩,
    ⟨2, modRch 2 (fun c => { c with par := true, acc := 5 }) R0, by decide +kernel⟩⟩

theorem witness_DeepCommands :
    (∃ (r : Req) (w1 : Word) (s : State), (s.runs) ∧ (s.djResult (s.dJob r w1.toNat) = 0)) ∧
    (∃ (r : Req) (w1 : Word) (s : State), (s.runs) ∧ (s.djResult (s.dJob r w1.toNat) ≠ 0)) ∧
    (∃ (d : Fin 6) (i : Nat) (j : DJob) (s : State), (s.runs) ∧ (s.idleDeep.find? (fun d => s.granted (decSlot d)) = some d) ∧ ((s.nextJob
      true).or (s.nextJob false) = some i) ∧ (s.deep.jobs[i]? = some j)) ∧
    (∃ (d : Fin 6) (j : DJob) (n : Nat) (marks : List (Int × Nat)) (screens : List Nat) (runs : List DecRun) (o : DecOut) (ofs : Int) (s :
      State), (s.runs) ∧ (s.deep.run[d] = some (j, n)) ∧ (s.deepOutcome j marks screens runs = some (o, ofs))) ∧
    (∃ (s : State), (s.runs)) ∧
    (∃ (v : Word) (s : State), (s.runs) ∧ (s.mapRefused v.toNat = false)) ∧
    (∃ (v : Word) (s : State), (s.runs) ∧ (s.mapRefused v.toNat = true)) ∧
    (∃ (ch : Fin 4) (k : Fin 64) (limited : Bool) (first : LadderTry) (tries : List LadderTry) (n : Nat) (s : State), (s.runs) ∧
      (first.status ≠ 0) ∧ ((climb (s.raw RCH_LADDER_MISFRAME) (s.raw RCH_LADDER_REREAD_MAX) (s.raw RCH_LADDER_REV_MAX) (s.groupWaits ch
      (s.sslot ch k.val).desc) limited { tries, status := first.status, u := first.u, ta := first.ta, step := none, short := false }).short
      = false) ∧ ((climb (s.raw RCH_LADDER_MISFRAME) (s.raw RCH_LADDER_REREAD_MAX) (s.raw RCH_LADDER_REV_MAX) (s.groupWaits ch (s.sslot ch
      k.val).desc) limited { tries, status := first.status, u := first.u, ta := first.ta, step := none, short := false }).step = some n)) ∧
    (∃ (ch : Fin 4) (tag : Nat) (slot : Nat) (s : State), (s.runs) ∧ ((s.qch.fifo[ch]).any (fun r => r.tag == tag) = true) ∧ (tabLook 0
      (s.wch[ch]).tries slot < s.raw (WCH_CTL_RW_LIM ch.val))) ∧
    (∃ (ch : Fin 4) (tag : Nat) (slot : Nat) (s : State), (s.runs) ∧ ((s.qch.fifo[ch]).any (fun r => r.tag == tag) = true) ∧ (s.raw
      (WCH_CTL_RW_LIM ch.val) ≤ tabLook 0 (s.wch[ch]).tries slot)) :=
  ⟨⟨.host, 0x7#32, modRch 0 (fun c => { c with pins := 1, slots := [(0, slot1 1)] }) R0, by decide +kernel⟩,
    ⟨.host, 0x7#32, R0, by decide +kernel⟩,
    ⟨4, 0, J, setGrant 11 (some { i5 := 1, i12 := 0, endAt := 50 }) { R0 with deep := { R0.deep with jobs := [J] } }, by decide +kernel⟩,
    ⟨4, J, 3, [], [], [{ us := [[0]], info := 2 ^ 72 }], { status := 0, giter := 1, liter := 1, u := 0, conv := true, info := 2 ^ 72 }, 0, { modRch 2 (fun c => { c with pins := 8, slots := [(3, slot1 2)] }) R0 with deep := { R0.deep with run := R0.deep.run.set 4 (some (J, 3)) } }, by decide +kernel⟩,
    ⟨R0, by decide +kernel⟩,
    ⟨0x0145#32, { R0 with deep := { R0.deep with jobs := [J] } }, by decide +kernel⟩,
    ⟨0x0144#32, R0, by decide +kernel⟩,
    ⟨2, 3, true, { status := 1, u := 0, ta := false }, [{ status := 0, u := 0, ta := false }], 3, modRch 2 (fun c => { c with slots := [(3, slot1 1)] }) R0, by decide +kernel⟩,
    ⟨2, 7, 55, { R0.set (WCH_CTL_RW_LIM 2) 3 with qch := { R0.qch with fifo := #v[[], [], [RR], []] } }, by decide +kernel⟩,
    ⟨2, 7, 55, { R0.set (WCH_CTL_RW_LIM 2) 0 with qch := { R0.qch with fifo := #v[[], [], [RR], []] } }, by decide +kernel⟩⟩

end Fam07

namespace Fam08
abbrev Lk (ns : Nat) : Lookup := { ns, tag := 7, lba := 5, countM1 := 3, segref := false, list := 100, waits := false }
abbrev XL (l : Nat) (b : Bool) : XLine := { line := l, data := 5, locked := b }
abbrev Rx (m : Tab (Option XLine)) : State := modXlt (fun v => { v with main := m, evb := [XL 3 false], vic := [XL 9 false] }) R0
abbrev Rlk (k : Lookup) : State := modXlt (fun v => { v with lookups := [k] }) ((R0.on XLT_CFG_EN).on (XLT_NS_CFG_EN 0) |>.set (XLT_NS_CFG_CHUNKS 0) 4)
def recHead (js cnt : Nat) : List Byte := leBytes js 4 ++ leBytes cnt 2 ++ leBytes 0 2 ++ leBytes 9 5 ++ List.replicate 3 0 ++ leBytes 1 4 ++ leBytes 1 4 ++ List.replicate 4 0
def recEnt : List Byte := leBytes (2 * 2^30 + 5) 4 ++ List.replicate 44 0
abbrev Rrec (js : Nat) : State := (R0.on XLT_CFG_EN).dramWrite (2 ^ 26) (recHead js 1 ++ leBytes (crc32c (recHead js 1 ++ List.replicate 4 0 ++ recEnt)) 4 ++ recEnt)

theorem witness_CacheCommands :
    (∃ (s : State), (s.runs)) ∧
    (∃ (s : State), (s.runs) ∧ (s.flag XCC_STAT_INV_CLEAN = true)) ∧
    (∃ (s : State), (s.runs) ∧ (s.flag XCC_STAT_INV_CLEAN = false)) ∧
    (∃ (last : Fin 1048576) (s : State), (s.runs)) ∧
    (∃ (l : Fin 1048576) (s : State), (s.runs) ∧ (s.lineLocked l.val = true)) ∧
    (∃ (l : Fin 1048576) (s : State), (s.runs) ∧ (s.lineLocked l.val = false) ∧ (s.lockWay l.val = none)) ∧
    (∃ (l : Fin 1048576) (w : Nat) (s : State), (s.runs) ∧ (s.lineLocked l.val = false) ∧ (s.lockWay l.val = some w) ∧ (s.xfind l.val =
      none) ∧ (s.xvictim l.val = none) ∧ (s.dramOk (s.mapBase + l.val * 64) 64 = true)) ∧
    (∃ (l : Fin 1048576) (s : State), (s.runs)) ∧
    (∃ (v : Fin 256) (s : State), (s.runs) ∧ (v.val = 255)) ∧
    (∃ (v : Fin 256) (s : State), (s.runs) ∧ (v.val ≠ 255)) :=
  ⟨⟨Rx [(1, some (XL 0 true))], by decide +kernel⟩,
    ⟨R0.on XCC_STAT_INV_CLEAN, by decide +kernel⟩,
    ⟨R0, by decide +kernel⟩,
    ⟨7, (Rx [(1, some (XL 0 true)), (9, some (XL 4097 false))]).set XCC_INV_LO_FIRST 0, by decide +kernel⟩,
    ⟨0, Rx [(1, some (XL 0 true))], by decide +kernel⟩,
    ⟨0, Rx [(0, some (XL 4096 true)), (1, some (XL 8192 true))], by decide +kernel⟩,
    ⟨4096, 1, Rx [(0, some (XL 8192 true))], by decide +kernel⟩,
    ⟨0, Rx [(1, some (XL 0 true))], by decide +kernel⟩,
    ⟨255, Rx [(1, some (XL 0 true))], by decide +kernel⟩,
    ⟨3, Rx [(1, some (XL 0 true)), (3, some (XL 0 false))], by decide +kernel⟩⟩

theorem witness_TranslationCommands :
    (∃ (r : Req) (w3 : Word) (s : State), (s.runs) ∧ (s.flag XLT_CFG_EN = true) ∧ (s.xlt.lookups.length < 16) ∧ (s.xlt.lookups.length +
      s.xlt.cq.length < 32)) ∧
    (∃ (r : Req) (w3 : Word) (s : State), (s.runs) ∧ (s.flag XLT_CFG_EN = true) ∧ (16 ≤ s.xlt.lookups.length ∨ 32 ≤ s.xlt.lookups.length +
      s.xlt.cq.length)) ∧
    (∃ (r : Req) (w3 : Word) (s : State), (s.runs) ∧ (s.flag XLT_CFG_EN = false)) ∧
    (∃ (tag : Nat) (bad : List (Nat × Nat)) (k : Lookup) (s : State), (s.runs) ∧ (s.xlt.lookups.find? (fun k => k.tag == tag && !k.waits) =
      some k) ∧ (s.lkValid k = true)) ∧
    (∃ (tag : Nat) (bad : List (Nat × Nat)) (k : Lookup) (s : State), (s.runs) ∧ (s.xlt.lookups.find? (fun k => k.tag == tag && !k.waits) =
      some k) ∧ (s.lkValid k = false)) ∧
    (∃ (s : State), (s.runs)) ∧
    (∃ (addr : Nat) (s : State), (s.runs) ∧ (s.flag XLT_CFG_EN = true) ∧ (s.flag XLT_UPD_RESP_BUSY = false) ∧ (s.recCheck (addr % 2 ^ 28 *
      64) = 0)) ∧
    (∃ (addr : Nat) (s : State), (s.runs) ∧ (s.flag XLT_CFG_EN = true) ∧ (s.flag XLT_UPD_RESP_BUSY = false) ∧ (s.recCheck (addr % 2 ^ 28 *
      64) ≠ 0)) ∧
    (∃ (addr : Nat) (s : State), (s.runs) ∧ (s.flag XLT_CFG_EN = false ∨ s.flag XLT_UPD_RESP_BUSY = true)) ∧
    (∃ (a : Nat) (s : State), (s.runs) ∧ (s.xlt.applying = some a) ∧ (s.xlt.lookups.any (fun k => !k.waits && s.lkBlocked k) = false)) ∧
    (∃ (a : Nat) (s : State), (s.runs) ∧ (s.xlt.applying = some a) ∧ (s.xlt.lookups.any (fun k => !k.waits && s.lkBlocked k) = true)) ∧
    (∃ (s : State), (s.runs)) ∧
    (∃ (p0 : Bool) (p1 : Bool) (p2 : Bool) (p3 : Bool) (images : List (Nat × Nat × Bool)) (seqs : List Nat) (s : State), (s.runs) ∧
      (s.loadedCkpt (fun i => match i with | 0 => p0 | 1 => p1 | 2 => p2 | 3 => p3) = none)) ∧
    (∃ (a : Nat) (p0 : Bool) (p1 : Bool) (p2 : Bool) (p3 : Bool) (images : List (Nat × Nat × Bool)) (seqs : List Nat) (s : State), (s.runs)
      ∧ (s.loadedCkpt (fun i => match i with | 0 => p0 | 1 => p1 | 2 => p2 | 3 => p3) = none) ∧ (s.raw XLT_JSEQ_JSEQ < s.recJseq (a * 64))
      ∧ (s.recCheck (a * 64) ≠ 0)) ∧
    (∃ (addr : Nat) (old : Nat) (new : Nat) (units : List Nat) (s : State), (s.runs) ∧ ((s.band new).type ≠ bandFree)) ∧
    (∃ (addr : Nat) (old : Nat) (new : Nat) (units : List Nat) (s : State), (s.runs) ∧ ((s.band new).type = bandFree) ∧ (s.stepOn 2 = true)
      ∧ (old ≠ new) ∧ (old ∉ units) ∧ (s.xlt.applying = none) ∧ (s.xlt.lookups = []) ∧ (s.flag XLT_CFG_EN = true) ∧ (s.flag
      XLT_UPD_RESP_BUSY = false) ∧ (s.recCheck (addr % 2 ^ 28 * 64) = 0)) ∧
    (∃ (ns : Nat) (n : Nat) (m : Nat) (addr : Nat) (done : Bool) (srcs : List (Nat × Nat)) (s : State), (s.runs)) ∧
    (∃ (ns : Nat) (n : Nat) (m : Nat) (addr : Nat) (s : State), (s.runs) ∧ (1 ≤ ns) ∧ (ns ≤ 4) ∧ (s.flag (XLT_NS_CFG_ZONED (ns - 1)) =
      false) ∧ (1 ≤ n) ∧ (n ≤ 2048) ∧ (m * 100 ≤ n * (100 - s.raw CMP_POLICY_MIN_SAVE)) ∧ (s.stepOn 2 = true) ∧ (s.xlt.applying = none) ∧
      (s.xlt.lookups = []) ∧ (s.flag XLT_CFG_EN = true) ∧ (s.flag XLT_UPD_RESP_BUSY = false) ∧ (s.recCheck (addr % 2 ^ 28 * 64) = 0)) ∧
    (∃ (addr : Nat) (old : Nat) (unit : Nat) (s : State), (s.runs) ∧ (old ≠ unit) ∧ (s.xlt.applying = none) ∧ (s.xlt.lookups = []) ∧
      (s.flag XLT_CFG_EN = true) ∧ (s.flag XLT_UPD_RESP_BUSY = false) ∧ (s.recCheck (addr % 2 ^ 28 * 64) = 0)) ∧
    (∃ (addr : Nat) (old : Nat) (unit : Nat) (s : State), (s.runs) ∧ (s.flag XLT_CFG_EN = false)) :=
  ⟨⟨.host, 0x10#32, R0.on XLT_CFG_EN, by decide +kernel⟩,
    ⟨.host, 0x10#32, modXlt (fun v => { v with lookups := List.replicate 16 (Lk 1) }) (R0.on XLT_CFG_EN), by decide +kernel⟩,
    ⟨.host, 0x10#32, R0, by decide +kernel⟩,
    ⟨7, [], Lk 1, Rlk (Lk 1), by decide +kernel⟩,
    ⟨7, [], Lk 2, Rlk (Lk 2), by decide +kernel⟩,
    ⟨R0, by decide +kernel⟩,
    ⟨2 ^ 20, Rrec 1, by decide +kernel⟩,
    ⟨2 ^ 20, Rrec 2, by decide +kernel⟩,
    ⟨2 ^ 20, R0, by decide +kernel⟩,
    ⟨2 ^ 26, modXlt (fun v => { v with applying := some (2 ^ 26), lookups := [{ Lk 1 with waits := true }] }) (Rrec 1), by decide +kernel⟩,
    ⟨2 ^ 26, modXlt (fun v => { v with applying := some (2 ^ 26), lookups := [Lk 1] }) (((((Rrec 1).on (XLT_NS_CFG_EN 0)).set (XLT_NS_BASE_CHUNK_BASE 0) 1).set (XLT_NS_CFG_CHUNKS 0) 4)), by decide +kernel⟩,
    ⟨Rrec 1, by decide +kernel⟩,
    ⟨true, true, true, true, [], [3, 9, 4], Rrec 1, by decide +kernel⟩,
    ⟨2 ^ 20, true, true, true, true, [(64, 5, true)], [3, 9, 4], Rrec 2, by decide +kernel⟩,
    ⟨2 ^ 20, 1, 2, [3], modBand 2 (fun b => { b with type := 1 }) R0, by decide +kernel⟩,
    ⟨2 ^ 20, 1, 2, [3], modBand 1 (fun b => { b with type := 1, live := 4 }) (Rrec 1), by decide +kernel⟩,
    ⟨1, 2, 3, 4, true, [], R0, by decide +kernel⟩,
    ⟨1, 10, 5, 2 ^ 20, Rrec 1, by decide +kernel⟩,
    ⟨2 ^ 20, 1, 2, modBand 1 (fun b => { b with type := 1, live := 4 }) (Rrec 1), by decide +kernel⟩,
    ⟨2 ^ 20, 1, 2, R0, by decide +kernel⟩⟩

end Fam08

namespace Fam09
abbrev J : CJob := { (default : CJob) with op := 2, src := 0, srcLen := 3, dst := 4096, dstLen := 64, final := true, tag := 7 }
abbrev Re (f : CEng → CEng) : State := modEng 1 f R0
abbrev G (s : State) : State := setGrant 14 (some { i5 := 1, i12 := 0, endAt := 50 }) s
abbrev Rj : State := ((((((R0.on CMP_CTL_EN).set ((CMP_JQ_W 0).of .host) 0x20000000).set ((CMP_JQ_W 3).of .host) 5).set ((CMP_JQ_W 5).of .host) 5))).set CMP_CTL_ENG_DIS 0
abbrev S1 : Sq := { (default : Sq) with id := 3, size := 8, cq := 4, head := 1, tail := 1 }
abbrev S2 : Sq := { S1 with tail := 3 }
abbrev C1 : Cq := { (default : Cq) with id := 4, size := 8, head := 1, tail := 5, ien := true }
abbrev Rh : State := modCtrl 0 (fun x => { x with sqs := [S1], cqs := [C1] }) (((R0.on (HIF_C_STAT_EN 0)).on HIF_CTL_EN).on (HIF_C_STAT_RDY 0))
abbrev Rh2 : State := modCtrl 0 (fun x => { x with sqs := [S2], cqs := [C1] }) (((R0.on (HIF_C_STAT_EN 0)).on HIF_CTL_EN).on (HIF_C_STAT_RDY 0))
abbrev Ee : Sqe := { (default : Sqe) with opc := 1, cid := 9, nsid := 1, d10 := 5, d12 := 7 }
abbrev H1 : HCmd := { (default : HCmd) with sq := 3, e := Ee, cls := 2, ranges := [(5, 8)], st := .admitted }
abbrev H2 : HCmd := { H1 with status := some hOk, st := .granted }
abbrev Q1 : Cqe := { (default : Cqe) with sq := 3, cid := 9, status := 4 }

theorem witness_CompressionCommands :
    (∃ (r : Req) (w7 : Word) (e : Fin 2) (s : State), (s.runs) ∧ ((s.cmpResult (cmpJob fun i => (s.set ((CMP_JQ_W 7).of r) w7.toNat).raw
      ((CMP_JQ_W i).of r)) (bits ((s.set ((CMP_JQ_W 7).of r) w7.toNat).raw ((CMP_JQ_W 0).of r)) 26 2)) = (0, some e))) ∧
    (∃ (r : Req) (w7 : Word) (s : State), (s.runs) ∧ (s.flag CMP_CTL_EN = false)) ∧
    (∃ (e : Fin 2) (j : CJob) (s : State), (s.runs) ∧ ((s.cmp.eng[e]).run = none) ∧ ((s.cmp.eng[e]).next = some j) ∧ (s.stepOn 2 = true) ∧
      (s.granted (cmpSlot e) = true)) ∧
    (∃ (e : Fin 2) (j : CJob) (s : State), (s.runs) ∧ ((s.cmp.eng[e]).run = none) ∧ ((s.cmp.eng[e]).next = some j) ∧ (s.stepOn 2 = true) ∧
      (s.granted (cmpSlot e) = false)) ∧
    (∃ (e : Fin 2) (j : CJob) (s : State), (s.runs) ∧ ((s.cmp.eng[e]).run = some j) ∧ (s.granted (cmpSlot e) = true) ∧ ((s.jobRes e
      j).status = 0)) ∧
    (∃ (e : Fin 2) (j : CJob) (s : State), (s.runs) ∧ ((s.cmp.eng[e]).run = some j) ∧ (s.granted (cmpSlot e) = true) ∧ ((s.jobRes e
      j).status ≠ 0)) ∧
    (∃ (e : Fin 2) (v : Fin 4) (s : State), (s.runs) ∧ (bitOf v.val e.val = true)) ∧
    (∃ (en : Bool) (dis : Fin 4) (e : Fin 2) (s : State), (s.runs) ∧ (s.flag CMP_CTL_EN = true) ∧ (bitOf dis.val e.val = true) ∧ (s.bit
      CMP_CTL_ENG_DIS e.val = false)) ∧
    (∃ (en : Bool) (s : State), (s.runs) ∧ (s.flag CMP_CTL_EN = false) ∧ (s.raw CMP_CTL_ENG_DIS = 0)) ∧
    (∃ (s : State), (s.runs)) :=
  ⟨⟨.host, 1#32, 0, Rj, by decide +kernel⟩,
    ⟨.host, 1#32, R0, by decide +kernel⟩,
    ⟨1, J, G (Re fun x => { x with queue := [J] }), by decide +kernel⟩,
    ⟨1, J, (Re fun x => { x with queue := [J] }), by decide +kernel⟩,
    ⟨1, J, (G (Re fun x => { x with run := some J })).dramWrite 0 [3, 0, 0], by decide +kernel⟩,
    ⟨1, J, (G (Re fun x => { x with run := some J })).dramWrite 0 [7, 0, 0], by decide +kernel⟩,
    ⟨1, 3, (Re fun x => { x with queue := [J], run := some J }), by decide +kernel⟩,
    ⟨true, 2, 1, (Re fun x => { x with queue := [J], run := some J }).on CMP_CTL_EN, by decide +kernel⟩,
    ⟨true, (Re fun x => { x with queue := [J], run := some J }), by decide +kernel⟩,
    ⟨R0, by decide +kernel⟩⟩

theorem witness_HostQueueCommands :
    (∃ (c : Fin 2) (q : Nat) (v : BitVec 16) (x : Sq) (s : State), (s.runs) ∧ (s.flag (HIF_C_STAT_EN c.val) = true) ∧ (s.raw HIF_ACT_PHASE
      = 0) ∧ (s.sq c q = some x) ∧ (v.toNat < x.size)) ∧
    (∃ (c : Fin 2) (q : Nat) (v : BitVec 16) (x : Cq) (s : State), (s.runs) ∧ (s.flag (HIF_C_STAT_EN c.val) = true) ∧ (s.raw HIF_ACT_PHASE
      = 0) ∧ (s.cq c q = some x) ∧ (v.toNat < x.size) ∧ ((v.toNat + x.size - x.head) % x.size ≤ x.held)) ∧
    (∃ (c : Fin 2) (cq : Bool) (q : Nat) (v : BitVec 16) (s : State), (s.runs) ∧ (s.flag (HIF_C_STAT_EN c.val) = false)) ∧
    (∃ (c : Fin 2) (cq : Bool) (q : Nat) (v : BitVec 16) (s : State), (s.runs) ∧ (s.flag (HIF_C_STAT_EN c.val) = true) ∧ (s.raw
      HIF_ACT_PHASE ≠ 0)) ∧
    (∃ (c : Fin 2) (q : Nat) (v : Nat) (x : Sq) (s : State), (s.runs) ∧ (s.flag (HIF_C_STAT_DBBUF c.val) = true) ∧ (s.raw HIF_ACT_PHASE =
      0) ∧ (s.sq c q = some x) ∧ (v < x.size) ∧ (x.head ≠ v)) ∧
    (∃ (c : Fin 2) (l : List (Bool × Nat × Nat)) (s : State), (s.runs) ∧ (s.flag (HIF_C_STAT_DBBUF c.val) = false)) ∧
    (∃ (c : Fin 2) (s : State), (s.runs) ∧ ((s.hif.ctrl[c]).sqs.any (fun x => x.head != x.tail) = false) ∧ (s.hif.cmds.any (fun x => x.ctl
      == c) = false)) ∧
    (∃ (c : Fin 2) (q : Nat) (e : Sqe) (ranges : List (Nat × Nat)) (x : Sq) (s : State), (s.runs) ∧ (s.sq c q = some x) ∧ (s.mayFetch c x =
      true) ∧ (s.atLimit c = true)) ∧
    (∃ (c : Fin 2) (q : Nat) (e : Sqe) (ranges : List (Nat × Nat)) (x : Sq) (s : State), (s.runs) ∧ (s.sq c q = some x) ∧ (s.mayFetch c x =
      true) ∧ (s.atLimit c = false) ∧ (s.cmd c q e.cid = none)) ∧
    (∃ (c : Fin 2) (q : Nat) (e : Sqe) (ranges : List (Nat × Nat)) (x : Sq) (k : HCmd) (s : State), (s.runs) ∧ (s.sq c q = some x) ∧
      (s.mayFetch c x = true) ∧ (s.atLimit c = false) ∧ (s.cmd c q e.cid = some k)) ∧
    (∃ (c : Fin 2) (q : Nat) (i : Nat) (x : HCmd) (s : State), (s.runs) ∧ (s.cmd c q i = some x) ∧ (s.grantable x = true)) ∧
    (∃ (c : Fin 2) (q : Nat) (i : Nat) (x : HCmd) (s : State), (s.runs) ∧ (s.cmd c q i = some x) ∧ (s.grantable x = false)) ∧
    (∃ (c : Fin 2) (q : Nat) (i : Nat) (vaulted : Bool) (x : HCmd) (st : HStat) (k : Sq) (y : Cq) (s : State), (s.runs) ∧ (s.cmd c q i =
      some x) ∧ (x.status = some st) ∧ (s.mayCommit x vaulted = true) ∧ (s.sq c q = some k) ∧ (s.cq c k.cq = some y) ∧ (y.wait = []) ∧
      (y.held + 1 < y.size)) ∧
    (∃ (c : Fin 2) (q : Nat) (i : Nat) (vaulted : Bool) (x : HCmd) (s : State), (s.runs) ∧ (s.cmd c q i = some x) ∧ (s.mayCommit x vaulted
      = false)) ∧
    (∃ (c : Fin 2) (q : Nat) (x : Cq) (e : Cqe) (l : List Cqe) (k : Sq) (s : State), (s.runs) ∧ (s.cq c q = some x) ∧ (x.wait = e :: l) ∧
      (x.held + 1 < x.size) ∧ (s.sq c e.sq = some k)) :=
  ⟨⟨0, 3, 5#16, S1, Rh, by decide +kernel⟩,
    ⟨0, 4, 3#16, C1, Rh, by decide +kernel⟩,
    ⟨1, true, 4, 3#16, Rh, by decide +kernel⟩,
    ⟨0, true, 4, 3#16, Rh.set HIF_ACT_PHASE 1, by decide +kernel⟩,
    ⟨0, 3, 5, S1, Rh.on (HIF_C_STAT_DBBUF 0), by decide +kernel⟩,
    ⟨0, [(true, 3, 5)], Rh, by decide +kernel⟩,
    ⟨0, Rh.on (HIF_C_STAT_DBBUF 0), by decide +kernel⟩,
    ⟨0, 3, Ee, [], S2, { Rh2 with hif := { Rh2.hif with cmds := List.replicate 8192 H1 } }, by decide +kernel⟩,
    ⟨0, 3, Ee, [], S2, Rh2, by decide +kernel⟩,
    ⟨0, 3, Ee, [], S2, H1, { Rh2 with hif := { Rh2.hif with cmds := [H1] } }, by decide +kernel⟩,
    ⟨0, 3, 9, H1, { Rh2 with hif := { Rh2.hif with cmds := [H1] } }, by decide +kernel⟩,
    ⟨0, 3, 9, { H1 with st := .waiting }, { Rh2 with hif := { Rh2.hif with cmds := [{ H1 with st := .waiting }] } }, by decide +kernel⟩,
    ⟨0, 3, 9, true, H2, hOk, S2, C1, { Rh2 with hif := { Rh2.hif with cmds := [H2] } }, by decide +kernel⟩,
    ⟨0, 3, 9, true, H1, { Rh2 with hif := { Rh2.hif with cmds := [H1] } }, by decide +kernel⟩,
    ⟨0, 4, { C1 with wait := [Q1] }, Q1, [], S2, modCtrl 0 (fun x => { x with sqs := [S2], cqs := [{ C1 with wait := [Q1] }] }) Rh, by decide +kernel⟩⟩

end Fam09

namespace Fam10
abbrev H (q opc d10 d11 : Nat) : HCmd := { (default : HCmd) with ctl := 1, sq := q, e := { (default : Sqe) with opc, cid := 9, nsid := 1, d10, d11 }, st := .granted }
abbrev S1 : Sq := { (default : Sq) with id := 3, size := 8, cq := 4, head := 1, tail := 1 }
abbrev F1 : Sq := { S1 with frozen := some default }
abbrev C1 : Cq := { (default : Cq) with id := 4, size := 8, head := 1, tail := 5, ien := true }
abbrev A0 : Sq := { (default : Sq) with id := 0, size := 8, cq := 0, head := 1, tail := 1 }
abbrev K (s : List Sq) (l : List HCmd) : State := modCtrl 1 (fun x => { x with sqs := s, cqs := [C1] }) { (R0.on (HIF_C_STAT_EN 1)) with hif := { R0.hif with cmds := l } }
abbrev X5 := H 0 5 (7 + 5 * 65536) (1 + 65536)
abbrev X5b := H 0 5 (4 + 5 * 65536) (1 + 65536)
abbrev X1 := H 0 1 (7 + 5 * 65536) (1 + 4 * 65536)
abbrev X1b := H 0 1 (7 + 5 * 65536) (1 + 9 * 65536)
abbrev X4 := H 0 4 4 0
abbrev X0 := H 0 0 3 0
abbrev XC := H 0 12 3 0
abbrev X8 := H 0 8 (3 + 7 * 65536) 0
abbrev Y8 : HCmd := { H 3 1 0 0 with e := { (default : Sqe) with cid := 7 }, st := .waiting, cls := 2, ranges := [(1, 2)] }
abbrev XT (a : Nat) := H 0 0xC1 (3 + a * 65536) 0
abbrev Z6 : HCmd := { H 0 6 0 0 with e := { (default : Sqe) with opc := 6, cid := 9 } }

theorem witness_AdminQueueCommands :
    (∃ (c : Fin 2) (i : Nat) (x : HCmd) (s : State), (s.runs) ∧ (s.atHand c 0 i 0x05 x) ∧ (0 < bits x.e.d10 0 16) ∧ (bits x.e.d10 0 16 ≤
      128) ∧ (s.cq c (bits x.e.d10 0 16) = none) ∧ (0 < bits x.e.d10 16 16) ∧ (bits x.e.d10 16 16 ≤ 4095) ∧ (bitOf x.e.d11 0 = true) ∧
      (bits x.e.d11 16 16 ≤ 128)) ∧
    (∃ (c : Fin 2) (i : Nat) (x : HCmd) (s : State), (s.runs) ∧ (s.atHand c 0 i 0x05 x) ∧ (bits x.e.d10 0 16 = 0 ∨ 128 < bits x.e.d10 0 16
      ∨ (s.cq c (bits x.e.d10 0 16)).isSome)) ∧
    (∃ (c : Fin 2) (i : Nat) (x : HCmd) (s : State), (s.runs) ∧ (s.atHand c 0 i 0x01 x) ∧ (0 < bits x.e.d10 0 16) ∧ (bits x.e.d10 0 16 ≤
      128) ∧ (s.sq c (bits x.e.d10 0 16) = none) ∧ (0 < bits x.e.d10 16 16) ∧ (bits x.e.d10 16 16 ≤ 4095) ∧ (bitOf x.e.d11 0 = true) ∧ (0 <
      bits x.e.d11 16 16) ∧ ((s.cq c (bits x.e.d11 16 16)).isSome = true)) ∧
    (∃ (c : Fin 2) (i : Nat) (x : HCmd) (s : State), (s.runs) ∧ (s.atHand c 0 i 0x01 x) ∧ (0 < bits x.e.d10 0 16) ∧ (bits x.e.d10 0 16 ≤
      128) ∧ (s.sq c (bits x.e.d10 0 16) = none) ∧ (0 < bits x.e.d10 16 16) ∧ (bits x.e.d10 16 16 ≤ 4095) ∧ (bitOf x.e.d11 0 = true) ∧ (0 <
      bits x.e.d11 16 16) ∧ (s.cq c (bits x.e.d11 16 16) = none)) ∧
    (∃ (c : Fin 2) (i : Nat) (x : HCmd) (s : State), (s.runs) ∧ (s.atHand c 0 i 0x04 x) ∧ (0 < bits x.e.d10 0 16) ∧ ((s.cq c (bits x.e.d10
      0 16)).isSome = true) ∧ ((s.hif.ctrl[c]).sqs.any (fun q => q.cq == bits x.e.d10 0 16 && q.id != 0) = false)) ∧
    (∃ (c : Fin 2) (i : Nat) (x : HCmd) (s : State), (s.runs) ∧ (s.atHand c 0 i 0x04 x) ∧ (0 < bits x.e.d10 0 16) ∧ ((s.cq c (bits x.e.d10
      0 16)).isSome = true) ∧ ((s.hif.ctrl[c]).sqs.any (fun q => q.cq == bits x.e.d10 0 16 && q.id != 0) = true)) ∧
    (∃ (c : Fin 2) (i : Nat) (x : HCmd) (k : Sq) (s : State), (s.runs) ∧ (s.atHand c 0 i 0x00 x) ∧ (0 < bits x.e.d10 0 16) ∧ (s.sq c (bits
      x.e.d10 0 16) = some k) ∧ (k.deleting = none) ∧ (s.hif.cmds.any (fun y => y.ctl == c && y.sq == bits x.e.d10 0 16) = false)) ∧
    (∃ (c : Fin 2) (i : Nat) (x : HCmd) (s : State), (s.runs) ∧ (s.atHand c 0 i 0x00 x) ∧ (s.sq c (bits x.e.d10 0 16) = none)) ∧
    (∃ (c : Fin 2) (i : Nat) (x : HCmd) (s : State), (s.runs) ∧ (s.atHand c 0 i 0x0C x) ∧ ((s.hif.ctrl[c]).aers.contains x.e.cid = false) ∧
      ((s.hif.ctrl[c]).aers.length < 4) ∧ ((s.hif.ctrl[c]).events = [])) ∧
    (∃ (c : Fin 2) (i : Nat) (code : Nat) (l : List Nat) (x : HCmd) (s : State), (s.runs) ∧ (s.atHand c 0 i 0x0C x) ∧
      ((s.hif.ctrl[c]).aers.contains x.e.cid = false) ∧ ((s.hif.ctrl[c]).aers.length < 4) ∧ ((s.hif.ctrl[c]).events = code :: l)) ∧
    (∃ (c : Fin 2) (i : Nat) (x : HCmd) (s : State), (s.runs) ∧ (s.atHand c 0 i 0x0C x) ∧ ((s.hif.ctrl[c]).aers.contains x.e.cid = false) ∧
      (4 ≤ (s.hif.ctrl[c]).aers.length)) ∧
    (∃ (c : Fin 2) (i : Nat) (x : HCmd) (s : State), (s.runs) ∧ (s.atHand c 0 i 0x08 x) ∧ ((s.hif.cmds.filter fun y => y.ctl == c && y.sq
      == 0 && y.e.opc == 0x08 && y.status.isNone).length ≤ 8) ∧ (s.cmd c (bits x.e.d10 0 16) (bits x.e.d10 16 16) = none)) ∧
    (∃ (c : Fin 2) (i : Nat) (x : HCmd) (y : HCmd) (s : State), (s.runs) ∧ (s.atHand c 0 i 0x08 x) ∧ ((s.hif.cmds.filter fun y => y.ctl ==
      c && y.sq == 0 && y.e.opc == 0x08 && y.status.isNone).length ≤ 8) ∧ (s.cmd c (bits x.e.d10 0 16) (bits x.e.d10 16 16) = some y) ∧
      (y.st ≠ .granted) ∧ (0 < bits x.e.d10 0 16)) ∧
    (∃ (c : Fin 2) (i : Nat) (x : HCmd) (s : State), (s.runs) ∧ (s.atHand c 0 i 0x08 x) ∧ (8 < (s.hif.cmds.filter fun y => y.ctl == c &&
      y.sq == 0 && y.e.opc == 0x08 && y.status.isNone).length)) ∧
    (∃ (c : Fin 2) (i : Nat) (x : HCmd) (k : Sq) (s : State), (s.runs) ∧ (s.atHand c 0 i 0xC1 x) ∧ (bits x.e.d10 16 2 = 1) ∧ (0 < bits
      x.e.d10 0 16) ∧ (s.sq c (bits x.e.d10 0 16) = some k) ∧ (k.frozen.isSome = true)) ∧
    (∃ (c : Fin 2) (i : Nat) (x : HCmd) (k : Sq) (s : State), (s.runs) ∧ (s.atHand c 0 i 0xC1 x) ∧ (bits x.e.d10 16 2 = 2) ∧ (0 < bits
      x.e.d10 0 16) ∧ (s.sq c (bits x.e.d10 0 16) = some k) ∧ (k.frozen.isSome = true)) ∧
    (∃ (c : Fin 2) (i : Nat) (cids : List Nat) (x : HCmd) (k : Sq) (s : State), (s.runs) ∧ (s.atHand c 0 i 0xC1 x) ∧ (bits x.e.d10 16 2 =
      3) ∧ (0 < bits x.e.d10 0 16) ∧ (s.sq c (bits x.e.d10 0 16) = some k) ∧ (k.frozen.isSome = true)) ∧
    (∃ (c : Fin 2) (i : Nat) (x : HCmd) (k : Sq) (s : State), (s.runs) ∧ (s.atHand c 0 i 0xC1 x) ∧ (bits x.e.d10 16 2 = 1) ∧ (0 < bits
      x.e.d10 0 16) ∧ (s.sq c (bits x.e.d10 0 16) = some k) ∧ (k.frozen = none)) ∧
    (∃ (c : Fin 2) (i : Nat) (x : HCmd) (s : State), (s.runs) ∧ (s.atHand c 0 i 0x7C x)) :=
  ⟨⟨1, 9, X5, K [] [X5], by decide +kernel⟩,
    ⟨1, 9, X5b, K [] [X5b], by decide +kernel⟩,
    ⟨1, 9, X1, K [] [X1], by decide +kernel⟩,
    ⟨1, 9, X1b, K [] [X1b], by decide +kernel⟩,
    ⟨1, 9, X4, K [] [X4], by decide +kernel⟩,
    ⟨1, 9, X4, K [S1] [X4], by decide +kernel⟩,
    ⟨1, 9, X0, S1, K [S1] [X0], by decide +kernel⟩,
    ⟨1, 9, X0, K [] [X0], by decide +kernel⟩,
    ⟨1, 9, XC, K [] [XC], by decide +kernel⟩,
    ⟨1, 9, 77, [], XC, modCtrl 1 (fun x => { x with events := [77] }) (K [] [XC]), by decide +kernel⟩,
    ⟨1, 9, XC, modCtrl 1 (fun x => { x with aers := [1,2,3,4] }) (K [] [XC]), by decide +kernel⟩,
    ⟨1, 9, X8, K [S1] [X8], by decide +kernel⟩,
    ⟨1, 9, X8, Y8, K [A0, S1] [X8, Y8], by decide +kernel⟩,
    ⟨1, 9, X8, K [S1] (List.replicate 9 X8), by decide +kernel⟩,
    ⟨1, 9, XT 1, F1, K [F1] [XT 1], by decide +kernel⟩,
    ⟨1, 9, XT 2, F1, K [F1] [XT 2, Y8], by decide +kernel⟩,
    ⟨1, 9, [5, 6], XT 3, { F1 with tail := 4 }, K [{ F1 with tail := 4 }] [XT 3, Y8], by decide +kernel⟩,
    ⟨1, 9, XT 1, S1, K [S1] [XT 1], by decide +kernel⟩,
    ⟨1, 9, H 0 0x7C 0 0, K [S1] [H 0 0x7C 0 0], by decide +kernel⟩⟩

theorem witness_AdminFeatureCommands :
    (∃ (c : Fin 2) (i : Nat) (x : HCmd) (s : State), (s.runs) ∧ (s.atHand c 0 i 0x06 x) ∧ (bits x.e.d10 0 8 = 1)) ∧
    (∃ (c : Fin 2) (i : Nat) (x : HCmd) (s : State), (s.runs) ∧ (s.atHand c 0 i 0x06 x) ∧ (bits x.e.d10 0 8 = 0) ∧ (s.nsAttached c x.e.nsid
      = true)) ∧
    (∃ (c : Fin 2) (i : Nat) (x : HCmd) (s : State), (s.runs) ∧ (s.atHand c 0 i 0x06 x) ∧ (bits x.e.d10 0 8 = 0) ∧ (x.e.nsid = 0 ∨ 4 <
      x.e.nsid)) ∧
    (∃ (c : Fin 2) (i : Nat) (x : HCmd) (s : State), (s.runs) ∧ (s.atHand c 0 i 0x02 x) ∧ (bits x.e.d10 0 8 = 0xC0)) ∧
    (∃ (c : Fin 2) (i : Nat) (x : HCmd) (s : State), (s.runs) ∧ (s.atHand c 0 i 0x02 x) ∧ (bits x.e.d10 0 8 = 0xBF) ∧ (bitOf x.e.d10 15 =
      false)) ∧
    (∃ (c : Fin 2) (i : Nat) (x : HCmd) (s : State), (s.runs) ∧ (s.atHand c 0 i 0x02 x) ∧ ([0x01, 0x02, 0x03, 0x05, 0xBF, 0xC0,
      0xC1].contains (bits x.e.d10 0 8) = false)) ∧
    (∃ (c : Fin 2) (i : Nat) (data : Nat) (x : HCmd) (s : State), (s.runs) ∧ (s.atHand c 0 i 0x09 x) ∧ (x.fid = 0x06) ∧ (bitOf x.e.d10 31 =
      false)) ∧
    (∃ (c : Fin 2) (i : Nat) (data : Nat) (x : HCmd) (s : State), (s.runs) ∧ (s.atHand c 0 i 0x09 x) ∧ ([0x02, 0x0C, 0xC0, 0xC1].contains
      x.fid = false) ∧ (plainFeatures.contains x.fid = false ∨ bitOf x.e.d10 31 = true)) ∧
    (∃ (c : Fin 2) (i : Nat) (x : HCmd) (s : State), (s.runs) ∧ (s.atHand c 0 i 0x0A x) ∧ (x.fid = 0x02) ∧ (bits x.e.d10 8 3 = 0)) ∧
    (∃ (c : Fin 2) (i : Nat) (x : HCmd) (s : State), (s.runs) ∧ (s.atHand c 0 i 0x09 x) ∧ (x.fid = 0xC1) ∧ (bitOf x.e.d10 31 = false) ∧ (0
      < bits x.e.d11 0 16) ∧ ((s.sq c (bits x.e.d11 0 16)).isSome = true)) ∧
    (∃ (c : Fin 2) (i : Nat) (x : HCmd) (s : State), (s.runs) ∧ (s.atHand c 0 i 0x09 x) ∧ (x.fid = 0xC1) ∧ (bitOf x.e.d10 31 = false) ∧
      (bits x.e.d11 0 16 = 0 ∨ s.sq c (bits x.e.d11 0 16) = none)) ∧
    (∃ (c : Fin 2) (i : Nat) (x : HCmd) (s : State), (s.runs) ∧ (s.atHand c 0 i 0x09 x) ∧ (x.fid = 0xC0) ∧ (bitOf x.e.d10 31 = false)) ∧
    (∃ (c : Fin 2) (i : Nat) (x : HCmd) (s : State), (s.runs) ∧ (s.atHand c 0 i 0x09 x) ∧ (x.fid = 0x02) ∧ (bitOf x.e.d10 31 = false) ∧ (4
      < bits x.e.d11 0 5)) ∧
    (∃ (c : Fin 2) (i : Nat) (x : HCmd) (s : State), (s.runs) ∧ (s.atHand c 0 i 0x09 x) ∧ (x.fid = 0x02) ∧ (bitOf x.e.d10 31 = false) ∧
      (bits x.e.d11 0 5 ≤ 4) ∧ (s.pwr.trans.isSome = true) ∧ (s.pwr.held = none)) ∧
    (∃ (c : Fin 2) (i : Nat) (table : List Nat) (x : HCmd) (s : State), (s.runs) ∧ (s.atHand c 0 i 0x09 x) ∧ (x.fid = 0x0C) ∧ (bitOf
      x.e.d10 31 = false) ∧ ((List.range 5).all (fun n => apstOk n (table.getD n 0)) = true)) ∧
    (∃ (c : Fin 2) (i : Nat) (table : List Nat) (x : HCmd) (s : State), (s.runs) ∧ (s.atHand c 0 i 0x09 x) ∧ (x.fid = 0x0C) ∧ (bitOf
      x.e.d10 31 = false) ∧ ((List.range 5).all (fun n => apstOk n (table.getD n 0)) = false)) :=
  ⟨⟨1, 9, H 0 6 1 0, K [S1] [H 0 6 1 0], by decide +kernel⟩,
    ⟨1, 9, H 0 6 0 0, modNs 1 (fun n => { n with live := true, attached := 3 }) (K [S1] [H 0 6 0 0]), by decide +kernel⟩,
    ⟨1, 9, Z6, K [S1] [Z6], by decide +kernel⟩,
    ⟨1, 9, H 0 2 0xC0 (3 * 65536), K [F1] [H 0 2 0xC0 (3 * 65536)], by decide +kernel⟩,
    ⟨1, 9, H 0 2 0xBF (3 * 65536), modCtrl 1 (fun x => { x with zones := [3] }) (K [F1] [H 0 2 0xBF (3 * 65536)]), by decide +kernel⟩,
    ⟨1, 9, H 0 2 0x44 (3 * 65536), K [F1] [H 0 2 0x44 (3 * 65536)], by decide +kernel⟩,
    ⟨1, 9, 4, H 0 9 6 0, K [F1] [H 0 9 6 0], by decide +kernel⟩,
    ⟨1, 9, 4, H 0 9 0x44 0, K [F1] [H 0 9 0x44 0], by decide +kernel⟩,
    ⟨1, 9, H 0 10 2 0, K [F1] [H 0 10 2 0], by decide +kernel⟩,
    ⟨1, 9, H 0 9 0xC1 3, K [F1] [H 0 9 0xC1 3], by decide +kernel⟩,
    ⟨1, 9, H 0 9 0xC1 5, K [F1] [H 0 9 0xC1 5], by decide +kernel⟩,
    ⟨1, 9, H 0 9 0xC0 101, K [F1] [H 0 9 0xC0 101], by decide +kernel⟩,
    ⟨1, 9, H 0 9 2 7, K [F1] [H 0 9 2 7], by decide +kernel⟩,
    ⟨1, 9, H 0 9 2 3, modPwr (fun p => { p with trans := some default }) (K [F1] [H 0 9 2 3]), by decide +kernel⟩,
    ⟨1, 9, [16], H 0 9 12 1, K [F1] [H 0 9 12 1], by decide +kernel⟩,
    ⟨1, 9, [8], H 0 9 12 1, K [F1] [H 0 9 12 1], by decide +kernel⟩⟩

end Fam10

namespace Fam11
abbrev Hn (opc nsid d10 d11 : Nat) : HCmd := { (default : HCmd) with ctl := 1, sq := 0, e := { (default : Sqe) with opc, cid := 9, nsid, d10, d11 }, st := .granted }
abbrev Ks (x : HCmd) : State := { (R0.on (HIF_C_STAT_EN 1)) with hif := { R0.hif with cmds := [x] } }
abbrev Kn (x : HCmd) : State := modNs 2 (fun n => { n with live := true }) (Ks x)
abbrev N1 := Hn 0x0D 0 0 0
abbrev N2 := Hn 0x0D 2 1 0
abbrev N4 := Hn 0x15 2 0 0
abbrev N5 := Hn 0x15 7 0 0
abbrev F (a : Nat) := Hn 0x80 2 (a * 512 + 3) 0
abbrev Sx (opc op : Nat) := Hn opc 2 (0xF1 * 2 ^ 24 + op * 256) 0

theorem witness_AdminMediaCommands :
    (∃ (c : Fin 2) (i : Nat) (size : Nat) (fmt : Nat) (pi : Nat) (base : Nat) (k : Nat) (recs : List Nat) (x : HCmd) (s : State), (s.runs)
      ∧ (s.atHand c 0 i 0x0D x) ∧ (bits x.e.d10 0 4 = 0) ∧ (bits x.e.d11 24 8 = 0) ∧ (0 < size) ∧ (fmt % 16 ≤ 3) ∧ (s.chunksUsed + ceilDiv
      size 65536 ≤ 524288) ∧ ([1, 2, 3, 4].find? (fun k => !(s.hif.ns.toList.getD (k - 1) default).live) = some k) ∧ (s.chunksTaken base
      (ceilDiv size 65536) = false) ∧ (base + ceilDiv size 65536 ≤ 524288)) ∧
    (∃ (c : Fin 2) (i : Nat) (fmt : Nat) (pi : Nat) (base : Nat) (recs : List Nat) (x : HCmd) (s : State), (s.runs) ∧ (s.atHand c 0 i 0x0D
      x) ∧ (bits x.e.d10 0 4 = 0)) ∧
    (∃ (c : Fin 2) (i : Nat) (size : Nat) (cap : Nat) (fmt : Nat) (pi : Nat) (base : Nat) (x : HCmd) (s : State), (s.runs) ∧ (s.atHand c 0
      i 0x0D x) ∧ (bits x.e.d10 0 4 = 1) ∧ (0 < x.e.nsid) ∧ (x.e.nsid ≤ 4) ∧ ((s.hif.ns.toList.getD (x.e.nsid - 1) default).live = true) ∧
      (s.nsEmpty x.e.nsid = true)) ∧
    (∃ (c : Fin 2) (i : Nat) (x : HCmd) (s : State), (s.runs) ∧ (s.atHand c 0 i 0x15 x) ∧ (bits x.e.d10 0 4 = 0) ∧ (0 < x.e.nsid) ∧
      (x.e.nsid ≤ 4) ∧ ((s.hif.ns.toList.getD (x.e.nsid - 1) default).live = true) ∧ (bitOf (s.hif.ns.toList.getD (x.e.nsid - 1)
      default).attached 0 = false)) ∧
    (∃ (c : Fin 2) (i : Nat) (list : List (Fin 2)) (x : HCmd) (s : State), (s.runs) ∧ (s.atHand c 0 i 0x15 x) ∧ (x.e.nsid = 0 ∨ 4 <
      x.e.nsid)) ∧
    (∃ (c : Fin 2) (i : Nat) (x : HCmd) (s : State), (s.runs) ∧ (s.atHand c 0 i 0x80 x) ∧ (bits x.e.d10 9 3 = 0) ∧ (0 < x.e.nsid) ∧
      (x.e.nsid ≤ 4) ∧ ((s.hif.ns.toList.getD (x.e.nsid - 1) default).live = true) ∧ (bits x.e.d10 0 4 ≤ 3) ∧ (bits x.e.d10 5 3 = 0) ∧
      (s.nsEmpty x.e.nsid = true)) ∧
    (∃ (c : Fin 2) (i : Nat) (x : HCmd) (s : State), (s.runs) ∧ (s.atHand c 0 i 0x80 x) ∧ (bits x.e.d10 9 3 = 1) ∧ (0 < x.e.nsid) ∧
      (x.e.nsid ≤ 4) ∧ ((s.hif.ns.toList.getD (x.e.nsid - 1) default).live = true) ∧ (bits x.e.d10 0 4 ≤ 3) ∧ (bits x.e.d10 5 3 = 0) ∧
      (s.flag (SEC_NSKEY_ENC (x.e.nsid - 1)) = false) ∧ (s.nsEmpty x.e.nsid = true)) ∧
    (∃ (c : Fin 2) (i : Nat) (recs : List Nat) (x : HCmd) (s : State), (s.runs) ∧ (s.atHand c 0 i 0x80 x) ∧ (bits x.e.d10 9 3 = 2) ∧ (0 <
      x.e.nsid) ∧ (x.e.nsid ≤ 4) ∧ ((s.hif.ns.toList.getD (x.e.nsid - 1) default).live = true) ∧ (bits x.e.d10 0 4 ≤ 3) ∧ (bits x.e.d10 5 3
      = 0) ∧ (s.flag (SEC_NSKEY_ENC (x.e.nsid - 1)) = false)) ∧
    (∃ (c : Fin 2) (i : Nat) (x : HCmd) (n : Fin 4) (s : State), (s.runs) ∧ (s.atHand c 0 i 0x80 x) ∧ (bits x.e.d10 9 3 = 2) ∧ (x.e.nsid =
      n.val + 1) ∧ ((s.hif.ns.toList.getD n.val default).live = true) ∧ (bits x.e.d10 0 4 ≤ 3) ∧ (bits x.e.d10 5 3 = 0) ∧ (s.flag
      (SEC_NSKEY_ENC n.val) = true) ∧ ((keyGenerate n false s).nsEmpty x.e.nsid = true)) ∧
    (∃ (c : Fin 2) (i : Nat) (recs : List Nat) (x : HCmd) (s : State), (s.runs) ∧ (s.atHand c 0 i 0x84 x) ∧ (bits x.e.d10 0 3 = 4) ∧
      (s.enabledNs.any (fun k => !s.flag (SEC_NSKEY_ENC (k - 1))) = true)) ∧
    (∃ (c : Fin 2) (i : Nat) (x : HCmd) (s : State), (s.runs) ∧ (s.atHand c 0 i 0x84 x) ∧ (bits x.e.d10 0 3 = 4) ∧ (s.enabledNs = []) ∧
      (s.ioBusy = false)) ∧
    (∃ (c : Fin 2) (i : Nat) (x : HCmd) (s : State), (s.runs) ∧ (s.atHand c 0 i 0x84 x) ∧ (bits x.e.d10 0 3 = 2) ∧ (s.enabledNs = []) ∧
      (s.ioBusy = false)) ∧
    (∃ (c : Fin 2) (i : Nat) (recs : List Nat) (x : HCmd) (s : State), (s.runs) ∧ (s.atHand c 0 i 0x84 x) ∧ (bits x.e.d10 0 3 = 2) ∧
      (s.ioBusy = true)) ∧
    (∃ (c : Fin 2) (i : Nat) (x : HCmd) (s : State), (s.runs) ∧ (s.atHand c 0 i 0x84 x) ∧ (bits x.e.d10 0 3 = 3)) ∧
    (∃ (c : Fin 2) (i : Nat) (data : List Byte) (x : HCmd) (s : State), (s.runs) ∧ (s.atHand c 0 i 0x11 x) ∧ (data.length = (x.e.d10 + 1) *
      4)) ∧
    (∃ (c : Fin 2) (i : Nat) (n : Fin 2) (x : HCmd) (s : State), (s.runs) ∧ (s.atHand c 0 i 0x10 x) ∧ (bits x.e.d10 3 3 = 0) ∧ (s.fwSlot x
      = some n)) ∧
    (∃ (c : Fin 2) (i : Nat) (n : Fin 2) (x : HCmd) (s : State), (s.runs) ∧ (s.atHand c 0 i 0x10 x) ∧ (bits x.e.d10 3 3 = 1) ∧ (s.fwSlot x
      = some n)) ∧
    (∃ (c : Fin 2) (i : Nat) (n : Fin 2) (x : HCmd) (s : State), (s.runs) ∧ (s.atHand c 0 i 0x10 x) ∧ (bits x.e.d10 3 3 = 2) ∧ (s.fwSlot x
      = some n)) ∧
    (∃ (c : Fin 2) (i : Nat) (n : Fin 2) (x : HCmd) (s : State), (s.runs) ∧ (s.atHand c 0 i 0x10 x) ∧ (bits x.e.d10 3 3 = 3) ∧ (s.fwSlot x
      = some n) ∧ (s.hif.fw = []) ∧ (s.hif.act = none)) ∧
    (∃ (c : Fin 2) (i : Nat) (x : HCmd) (s : State), (s.runs) ∧ (s.atHand c 0 i 0x10 x) ∧ (bits x.e.d10 3 3 = 3) ∧ (s.fwSlot x = none)) :=
  ⟨⟨1, 9, 70000, 1, 2, 5, 1, [], N1, Ks N1, by decide +kernel⟩,
    ⟨1, 9, 1, 2, 5, [], N1, Ks N1, by decide +kernel⟩,
    ⟨1, 9, 1, 2, 3, 4, 5, N2, Kn N2, by decide +kernel⟩,
    ⟨1, 9, N4, Kn N4, by decide +kernel⟩,
    ⟨1, 9, [], N5, Kn N5, by decide +kernel⟩,
    ⟨1, 9, F 0, Kn (F 0), by decide +kernel⟩,
    ⟨1, 9, F 1, Kn (F 1), by decide +kernel⟩,
    ⟨1, 9, [], F 2, Kn (F 2), by decide +kernel⟩,
    ⟨1, 9, F 2, 1, (Kn (F 2)).on (SEC_NSKEY_ENC 1), by decide +kernel⟩,
    ⟨1, 9, [], Hn 0x84 0 4 0, (Kn (Hn 0x84 0 4 0)).on (XLT_NS_CFG_EN 2), by decide +kernel⟩,
    ⟨1, 9, Hn 0x84 0 4 0, (Kn (Hn 0x84 0 4 0)).set BUF_JRN_TAIL_OFS 77, by decide +kernel⟩,
    ⟨1, 9, Hn 0x84 0 2 0, (Kn (Hn 0x84 0 2 0)).set BUF_JRN_TAIL_OFS 77, by decide +kernel⟩,
    ⟨1, 9, [], Hn 0x84 0 2 0, modHif (fun h => { h with cmds := h.cmds ++ [{ Hn 1 1 1 1 with ctl := 0, sq := 3 }] }) (Kn (Hn 0x84 0 2 0)), by decide +kernel⟩,
    ⟨1, 9, Hn 0x84 0 3 0, Kn (Hn 0x84 0 3 0), by decide +kernel⟩,
    ⟨1, 9, [1, 2, 3, 4], Hn 0x11 0 0 7, Kn (Hn 0x11 0 0 7), by decide +kernel⟩,
    ⟨1, 9, 1, Hn 0x10 0 2 7, Kn (Hn 0x10 0 2 7), by decide +kernel⟩,
    ⟨1, 9, 1, Hn 0x10 0 10 7, Kn (Hn 0x10 0 10 7), by decide +kernel⟩,
    ⟨1, 9, 1, Hn 0x10 0 18 7, Kn (Hn 0x10 0 18 7), by decide +kernel⟩,
    ⟨1, 9, 1, Hn 0x10 0 26 7, Kn (Hn 0x10 0 26 7), by decide +kernel⟩,
    ⟨1, 9, Hn 0x10 0 31 7, Kn (Hn 0x10 0 31 7), by decide +kernel⟩⟩

theorem witness_ActivationAndSecuritySend :
    (∃ (s : State), (s.runs) ∧ (s.raw HIF_ACT_PHASE = 1) ∧ (s.draining = [])) ∧
    (∃ (s : State), (s.runs) ∧ (s.raw HIF_ACT_PHASE = 1) ∧ (s.draining ≠ [])) ∧
    (∃ (s : State), (s.runs) ∧ (s.raw HIF_ACT_PHASE = 1) ∧ (s.draining = [])) ∧
    (∃ (s : State), (s.runs) ∧ (s.raw HIF_ACT_PHASE = 2) ∧ ((List.finRange 18).all (fun n => s.seSt n.val != seRun || s.clean n) = true)) ∧
    (∃ (s : State), (s.runs) ∧ (s.raw HIF_ACT_PHASE = 3)) ∧
    (∃ (ok : Bool) (n : Nat) (x : HCmd) (began : Nat) (s : State), (s.runs) ∧ (s.hif.act = some (n, x, began)) ∧ (s.raw HIF_ACT_PHASE = 4)) ∧
    (∃ (c : Fin 2) (i : Nat) (x : HCmd) (n : Fin 4) (s : State), (s.runs) ∧ (s.atHand c 0 i 0x81 x) ∧ (bits x.e.d10 24 8 = 0xF1) ∧ (bits
      x.e.d10 8 16 = 1) ∧ (x.e.nsid = n.val + 1) ∧ ((s.hif.ns.toList.getD n.val default).live = true) ∧ (s.nsEmpty x.e.nsid = true) ∧
      (s.flag SEC_STAT_DBG_UNLOCKED = false)) ∧
    (∃ (c : Fin 2) (i : Nat) (x : HCmd) (s : State), (s.runs) ∧ (s.atHand c 0 i 0x81 x) ∧ (bits x.e.d10 24 8 = 0xF1) ∧ (bits x.e.d10 8 16 =
      1) ∧ (x.e.nsid = 0 ∨ 4 < x.e.nsid ∨ s.flag SEC_STAT_DBG_UNLOCKED = true)) ∧
    (∃ (c : Fin 2) (i : Nat) (good : Bool) (scope : Fin 4) (x : HCmd) (s : State), (s.runs) ∧ (s.atHand c 0 i 0x81 x) ∧ (bits x.e.d10 24 8
      = 0xF1) ∧ (bits x.e.d10 8 16 = 2)) ∧
    (∃ (c : Fin 2) (i : Nat) (nonce : BitVec 256) (x : HCmd) (s : State), (s.runs) ∧ (s.atHand c 0 i 0x81 x) ∧ (bits x.e.d10 24 8 = 0xF1) ∧
      (bits x.e.d10 8 16 = 0x10)) ∧
    (∃ (c : Fin 2) (i : Nat) (sig : Nat) (body : List Byte) (x : HCmd) (s : State), (s.runs) ∧ (s.atHand c 0 i 0x82 x) ∧ (bits x.e.d10 24 8
      = 0xF1) ∧ (bits x.e.d10 8 16 = 0x10) ∧ (s.sec.report = some (body, sig))) ∧
    (∃ (c : Fin 2) (i : Nat) (x : HCmd) (s : State), (s.runs) ∧ (s.atHand c 0 i 0x82 x) ∧ (bits x.e.d10 24 8 = 0xF1) ∧ (bits x.e.d10 8 16 =
      0x10) ∧ (s.sec.report = none)) ∧
    (∃ (c : Fin 2) (i : Nat) (x : HCmd) (s : State), (s.runs) ∧ (s.atHand c 0 i 0x82 x) ∧ (bits x.e.d10 24 8 = 0xF1) ∧ (bits x.e.d10 8 16 =
      0x11)) ∧
    (∃ (c : Fin 2) (i : Nat) (x : HCmd) (s : State), (s.runs) ∧ (s.atHand c 0 i 0x82 x) ∧ (bits x.e.d10 24 8 = 0xF1) ∧ (bits x.e.d10 8 16 =
      0x12)) ∧
    (∃ (c : Fin 2) (i : Nat) (x : HCmd) (s : State), (s.runs) ∧ (s.atHand c 0 i 0x82 x) ∧ (bits x.e.d10 24 8 = 0xF1) ∧ (bits x.e.d10 8 16 =
      0x13)) ∧
    (∃ (c : Fin 2) (i : Nat) (x : HCmd) (s : State), (s.runs) ∧ (s.atHand c 0 i 0x82 x) ∧ (bits x.e.d10 24 8 = 0)) :=
  ⟨⟨R0.set HIF_ACT_PHASE 1, by decide +kernel⟩,
    ⟨(Kn (Hn 1 1 1 1)).set HIF_ACT_PHASE 1, by decide +kernel⟩,
    ⟨R0.set HIF_ACT_PHASE 1, by decide +kernel⟩,
    ⟨R0.set HIF_ACT_PHASE 2, by decide +kernel⟩,
    ⟨R0.set HIF_ACT_PHASE 3, by decide +kernel⟩,
    ⟨false, 1, Hn 0x10 0 31 7, 5, modHif (fun h => { h with act := some (1, Hn 0x10 0 31 7, 5) }) (R0.set HIF_ACT_PHASE 4), by decide +kernel⟩,
    ⟨1, 9, Sx 0x81 1, 1, Kn (Sx 0x81 1), by decide +kernel⟩,
    ⟨1, 9, Sx 0x81 1, (Kn (Sx 0x81 1)).on SEC_STAT_DBG_UNLOCKED, by decide +kernel⟩,
    ⟨1, 9, true, 3, Sx 0x81 2, Kn (Sx 0x81 2), by decide +kernel⟩,
    ⟨1, 9, 0x1234#256, Sx 0x81 0x10, Kn (Sx 0x81 0x10), by decide +kernel⟩,
    ⟨1, 9, 5, [3], Sx 0x82 0x10, { Kn (Sx 0x82 0x10) with sec := { R0.sec with report := some ([3], 5) } }, by decide +kernel⟩,
    ⟨1, 9, Sx 0x82 0x10, Kn (Sx 0x82 0x10), by decide +kernel⟩,
    ⟨1, 9, Sx 0x82 0x11, Kn (Sx 0x82 0x11), by decide +kernel⟩,
    ⟨1, 9, Sx 0x82 0x12, Kn (Sx 0x82 0x12), by decide +kernel⟩,
    ⟨1, 9, Sx 0x82 0x13, Kn (Sx 0x82 0x13), by decide +kernel⟩,
    ⟨1, 9, Hn 0x82 0 0 0, Kn (Hn 0x82 0 0 0), by decide +kernel⟩⟩

end Fam11

namespace Fam12
abbrev Hq (opc nsid lba nlb d13 : Nat) : HCmd := { (default : HCmd) with ctl := 1, sq := 3, e := { (default : Sqe) with opc, cid := 9, nsid, d10 := lba, d12 := nlb, d13 }, st := .granted, ranges := [(lba, nlb + 1)] }
abbrev Ks (x : HCmd) : State := { ((R0.on (HIF_C_STAT_EN 1)).on (XLT_NS_CFG_EN 0)).set (XLT_NS_CFG_CHUNKS 0) 2 with hif := { R0.hif with cmds := [x] } }
def mkImg (desc : Bool) (idx v : Nat) : Nat := putBits v (crcPos desc) 16 (crc16 (putBits v (crcPos desc) 16 0) (imageLen desc) idx)
def chunkSt (zs wp : Nat) (rv : Bool) (x : HCmd) : State := mapWrite (imageOfs false 0) (mkImg false 0 (b2n rv * 2 ^ 31 + zs * 2 ^ 28 + 5 + wp * 2 ^ 64)) 16 (Ks x)
def descV (loc : Nat) (unrec : Bool) : Nat := mkImg true 5 (1 * 2 ^ 60 + loc * 2 ^ 58 + b2n unrec * 2 ^ 54 + 7 * 2 ^ 80 + 100 * 2 ^ 160)
def withDesc (loc : Nat) (unrec : Bool) (s : State) : State := mapWrite (imageOfs true 5) (descV loc unrec) 32 s
def dirty100 (s : State) : State := (List.range 8).foldl (fun t k => putUnit (100 + k) { (t.unit (100 + k)) with dirty := true, ref := 1 } t) s
abbrev P1 : Piece := { ofs := 0, n := 1, loc := 1, addr := 100, unrec := false, bad := false }
abbrev X0 := Hq 0 1 0 0 0
abbrev X2 := { Hq 2 1 0 0 0 with pieces := [P1] }
abbrev X2b := { Hq 2 1 0 0 0 with pieces := [{ P1 with unrec := true }] }
abbrev X5 := { Hq 5 1 0 0 0 with pieces := [P1] }
abbrev XC := { Hq 12 1 0 0 0 with pieces := [P1] }
abbrev X7A := Hq 0x7A 1 0 255 0
abbrev W := Hq 1 1 3 0 0
abbrev A := Hq 0x7D 1 0 0 0
abbrev A2 : HCmd := { A with gseq := 5, cls := 3 }
abbrev A1 : HCmd := { A with gseq := 3, cls := 3, e := { A.e with cid := 4 } }
abbrev U := Hq 4 1 3 0 0
abbrev Z := Hq 8 1 3 0 0
abbrev D := Hq 9 1 3 0 0
abbrev D2 : HCmd := { D with e := { D.e with d11 := 4 } }
abbrev Zs (k : Nat) := Hq 0x79 1 0 0 k

theorem witness_IoReadCommands :
    (∃ (c : Fin 2) (q : Nat) (i : Nat) (x : HCmd) (s : State), (s.runs) ∧ (s.atHand c q i 0x00 x) ∧ (q ≠ 0) ∧ (x.st = .granted)) ∧
    (∃ (c : Fin 2) (q : Nat) (i : Nat) (media : List (List Byte)) (err : HostErr) (x : HCmd) (s : State), (s.runs) ∧ (s.atHand c q i 0x02
      x) ∧ (q ≠ 0) ∧ (x.st = .granted) ∧ (s.readZoneFail x = none) ∧ (s.readFail x err = none)) ∧
    (∃ (c : Fin 2) (q : Nat) (i : Nat) (lba : Nat) (media : List (List Byte)) (err : HostErr) (st : HStat) (x : HCmd) (s : State), (s.runs)
      ∧ (s.atHand c q i 0x02 x) ∧ (q ≠ 0) ∧ (x.st = .granted) ∧ (s.readZoneFail x = none) ∧ (s.readFail x err = some (st, lba))) ∧
    (∃ (c : Fin 2) (q : Nat) (i : Nat) (media : List (List Byte)) (err : HostErr) (st : HStat) (x : HCmd) (s : State), (s.runs) ∧ (s.atHand
      c q i 0x02 x) ∧ (q ≠ 0) ∧ (x.st = .granted) ∧ (s.readZoneFail x = some st)) ∧
    (∃ (c : Fin 2) (q : Nat) (i : Nat) (media : List (List Byte)) (data : List Byte) (err : HostErr) (x : HCmd) (s : State), (s.runs) ∧
      (s.atHand c q i 0x05 x) ∧ (q ≠ 0) ∧ (x.st = .granted) ∧ (s.readZoneFail x = none) ∧ (s.readFail x err = none)) ∧
    (∃ (c : Fin 2) (q : Nat) (i : Nat) (media : List (List Byte)) (err : HostErr) (x : HCmd) (s : State), (s.runs) ∧ (s.atHand c q i 0x0C
      x) ∧ (q ≠ 0) ∧ (x.st = .granted) ∧ (s.readZoneFail x = none) ∧ (s.readFail x err = none)) ∧
    (∃ (c : Fin 2) (q : Nat) (i : Nat) (lba : Nat) (media : List (List Byte)) (err : HostErr) (st : HStat) (x : HCmd) (s : State), (s.runs)
      ∧ (s.atHand c q i 0x0C x) ∧ (q ≠ 0) ∧ (x.st = .granted) ∧ (s.readZoneFail x = none) ∧ (s.readFail x err = some (st, lba))) ∧
    (∃ (c : Fin 2) (q : Nat) (i : Nat) (x : HCmd) (s : State), (s.runs) ∧ (s.atHand c q i 0x7A x) ∧ (q ≠ 0) ∧ (x.st = .granted)) :=
  ⟨⟨1, 3, 9, X0, Ks X0, by decide +kernel⟩,
    ⟨1, 3, 9, [], .none, X2, (Ks X2).dramWrite 409600 [7, 8], by decide +kernel⟩,
    ⟨1, 3, 9, 0, [], .none, hUnrec X2b, X2b, (Ks X2b).dramWrite 409600 [7, 8], by decide +kernel⟩,
    ⟨1, 3, 9, [], .none, hst 1 0xBB true, X2, (chunkSt 6 0 false X2).on (XLT_NS_CFG_ZONED 0), by decide +kernel⟩,
    ⟨1, 3, 9, [], [5], .none, X5, (Ks X5).dramWrite 409600 [7, 8], by decide +kernel⟩,
    ⟨1, 3, 9, [], .none, XC, Ks XC, by decide +kernel⟩,
    ⟨1, 3, 9, 2, [], .unrec 2, hUnrec XC, XC, Ks XC, by decide +kernel⟩,
    ⟨1, 3, 9, X7A, (chunkSt 2 5 false X7A).on (XLT_NS_CFG_ZONED 0), by decide +kernel⟩⟩

theorem witness_IoWriteCommands :
    (∃ (c : Fin 2) (q : Nat) (i : Nat) (data : List Byte) (recs : List Nat) (x : HCmd) (s : State), (s.runs) ∧ (s.atHand c q i 0x01 x) ∧ (q
      ≠ 0) ∧ (x.st = .granted) ∧ (s.placeFail x.e.nsid (sqeLba x.e) (sqeNlb x.e) false = none) ∧ ((recordsApply recs s).rangesAll x.e.nsid
      [(sqeLba x.e, sqeNlb x.e)] isSegment = true) ∧ (((recordsApply recs s).unitsOf x.e.nsid (sqeLba x.e) (sqeNlb x.e)).all (fun u =>
      ((recordsApply recs s).unit u).dirty) = true) ∧ (data.length = sqeNlb x.e * 4096)) ∧
    (∃ (c : Fin 2) (q : Nat) (i : Nat) (data : List Byte) (recs : List Nat) (err : HostErr) (st : HStat) (x : HCmd) (s : State), (s.runs) ∧
      (s.atHand c q i 0x01 x) ∧ (q ≠ 0) ∧ (x.st = .granted) ∧ (s.placeFail x.e.nsid (sqeLba x.e) (sqeNlb x.e) false = some st)) ∧
    (∃ (c : Fin 2) (q : Nat) (i : Nat) (data : List Byte) (recs : List Nat) (x : HCmd) (s : State), (s.runs) ∧ (s.atHand c q i 0x01 x) ∧ (q
      ≠ 0) ∧ (x.st = .granted) ∧ (s.placeFail x.e.nsid (sqeLba x.e) (sqeNlb x.e) false = none)) ∧
    (∃ (c : Fin 2) (q : Nat) (i : Nat) (e : Nat) (data : List Byte) (recs : List Nat) (x : HCmd) (s : State), (s.runs) ∧ (s.atHand c q i
      0x7D x) ∧ (q ≠ 0) ∧ (x.st = .granted) ∧ (s.appendWaits x = false) ∧ (s.chunkEntry x.e.nsid (sqeLba x.e) = some e) ∧ (s.placeFail
      x.e.nsid (sqeLba x.e) (sqeNlb x.e) true = none) ∧ ((recordsApply recs s).rangesAll x.e.nsid [(sqeLba x.e + cWp e, sqeNlb x.e)]
      isSegment = true) ∧ (((recordsApply recs s).unitsOf x.e.nsid (sqeLba x.e + cWp e) (sqeNlb x.e)).all (fun u => ((recordsApply recs
      s).unit u).dirty) = true) ∧ (data.length = sqeNlb x.e * 4096)) ∧
    (∃ (c : Fin 2) (q : Nat) (i : Nat) (data : List Byte) (recs : List Nat) (err : HostErr) (x : HCmd) (s : State), (s.runs) ∧ (s.atHand c
      q i 0x7D x) ∧ (q ≠ 0) ∧ (x.st = .granted) ∧ (s.appendWaits x = true)) ∧
    (∃ (c : Fin 2) (q : Nat) (i : Nat) (recs : List Nat) (x : HCmd) (s : State), (s.runs) ∧ (s.atHand c q i 0x04 x) ∧ (q ≠ 0) ∧ (x.st =
      .granted) ∧ ((∀ r ∈ x.ranges, s.placeFail x.e.nsid r.1 r.2 false = none)) ∧ ((recordsApply recs s).rangesAll x.e.nsid x.ranges
      isUnrec = true)) ∧
    (∃ (c : Fin 2) (q : Nat) (i : Nat) (recs : List Nat) (r : Nat × Nat) (st : HStat) (x : HCmd) (s : State), (s.runs) ∧ (s.atHand c q i
      0x04 x) ∧ (q ≠ 0) ∧ (x.st = .granted) ∧ (x.ranges = [r]) ∧ (s.placeFail x.e.nsid r.1 r.2 false = some st)) ∧
    (∃ (c : Fin 2) (q : Nat) (i : Nat) (recs : List Nat) (x : HCmd) (s : State), (s.runs) ∧ (s.atHand c q i 0x08 x) ∧ (q ≠ 0) ∧ (x.st =
      .granted) ∧ ((∀ r ∈ x.ranges, s.placeFail x.e.nsid r.1 r.2 false = none)) ∧ ((recordsApply recs s).rangesAll x.e.nsid x.ranges isGap
      = true)) ∧
    (∃ (c : Fin 2) (q : Nat) (i : Nat) (recs : List Nat) (x : HCmd) (s : State), (s.runs) ∧ (s.atHand c q i 0x09 x) ∧ (q ≠ 0) ∧ (x.st =
      .granted) ∧ (bitOf x.e.d11 2 = false ∨ s.nsZoned x.e.nsid = true)) ∧
    (∃ (c : Fin 2) (q : Nat) (i : Nat) (recs : List Nat) (x : HCmd) (s : State), (s.runs) ∧ (s.atHand c q i 0x09 x) ∧ (q ≠ 0) ∧ (x.st =
      .granted) ∧ (bitOf x.e.d11 2 = true) ∧ (s.nsZoned x.e.nsid = false) ∧ ((recordsApply recs s).rangesAll x.e.nsid x.ranges isGap =
      true)) ∧
    (∃ (c : Fin 2) (q : Nat) (i : Nat) (recs : List Nat) (x : HCmd) (s : State), (s.runs) ∧ (s.atHand c q i 0x79 x) ∧ (q ≠ 0) ∧ (x.st =
      .granted) ∧ (bits x.e.d13 0 8 = 1) ∧ ((∀ k ∈ s.zoneList x 1, s.zoneFail x.e.nsid k 1 = none)) ∧ ((∀ k ∈ s.zoneList x 1, (recordsApply
      recs s).zoneDone x.e.nsid k 1 = true))) ∧
    (∃ (c : Fin 2) (q : Nat) (i : Nat) (recs : List Nat) (x : HCmd) (s : State), (s.runs) ∧ (s.atHand c q i 0x79 x) ∧ (q ≠ 0) ∧ (x.st =
      .granted) ∧ (bits x.e.d13 0 8 = 2) ∧ ((∀ k ∈ s.zoneList x 2, s.zoneFail x.e.nsid k 2 = none)) ∧ ((∀ k ∈ s.zoneList x 2, (recordsApply
      recs s).zoneDone x.e.nsid k 2 = true))) ∧
    (∃ (c : Fin 2) (q : Nat) (i : Nat) (recs : List Nat) (x : HCmd) (s : State), (s.runs) ∧ (s.atHand c q i 0x79 x) ∧ (q ≠ 0) ∧ (x.st =
      .granted) ∧ (bits x.e.d13 0 8 = 3) ∧ ((∀ k ∈ s.zoneList x 3, s.zoneFail x.e.nsid k 3 = none)) ∧ ((∀ k ∈ s.zoneList x 3, (recordsApply
      recs s).zoneDone x.e.nsid k 3 = true))) ∧
    (∃ (c : Fin 2) (q : Nat) (i : Nat) (st : HStat) (recs : List Nat) (x : HCmd) (s : State), (s.runs) ∧ (s.atHand c q i 0x79 x) ∧ (q ≠ 0)
      ∧ (x.st = .granted) ∧ (bits x.e.d13 0 8 = 3) ∧ (bitOf x.e.d13 8 = false) ∧ (s.zoneFail x.e.nsid (sqeLba x.e / 65536) 3 = some st)) ∧
    (∃ (c : Fin 2) (q : Nat) (i : Nat) (recs : List Nat) (x : HCmd) (s : State), (s.runs) ∧ (s.atHand c q i 0x79 x) ∧ (q ≠ 0) ∧ (x.st =
      .granted) ∧ (bits x.e.d13 0 8 = 4) ∧ ((∀ k ∈ s.zoneList x 4, s.zoneFail x.e.nsid k 4 = none)) ∧ ((∀ k ∈ s.zoneList x 4, (recordsApply
      recs ((s.zoneList x 4).foldl (fun t k => dstAbortChunk x.e.nsid k t) s)).zoneDone x.e.nsid k 4 = true))) ∧
    (∃ (c : Fin 2) (q : Nat) (i : Nat) (recs : List Nat) (x : HCmd) (s : State), (s.runs) ∧ (s.atHand c q i 0x79 x) ∧ (q ≠ 0) ∧ (x.st =
      .granted) ∧ (bits x.e.d13 0 8 = 5) ∧ ((∀ k ∈ s.zoneList x 5, s.zoneFail x.e.nsid k 5 = none)) ∧ ((∀ k ∈ s.zoneList x 5, (recordsApply
      recs ((s.zoneList x 5).foldl (fun t k => dstAbortChunk x.e.nsid k t) s)).zoneDone x.e.nsid k 5 = true))) :=
  ⟨⟨1, 3, 9, List.replicate 4096 5, [], W, dirty100 (withDesc 1 false (chunkSt 0 0 true W)), by decide +kernel⟩,
    ⟨1, 3, 9, List.replicate 4096 5, [], .none, hst 1 0xBC true, W, (withDesc 1 false (chunkSt 1 0 true W)).on (XLT_NS_CFG_ZONED 0), by decide +kernel⟩,
    ⟨1, 3, 9, [], [], W, dirty100 (withDesc 1 false (chunkSt 0 0 true W)), by decide +kernel⟩,
    ⟨1, 3, 9, mkImg false 0 (2 ^ 31 + 2 * 2 ^ 28 + 5 + 4 * 2 ^ 64), List.replicate 4096 5, [], A, (dirty100 (withDesc 1 false (chunkSt 2 4 true A))).on (XLT_NS_CFG_ZONED 0), by decide +kernel⟩,
    ⟨1, 3, 9, [], [], .none, A2, { Ks A2 with hif := { R0.hif with cmds := [A2, A1] } }, by decide +kernel⟩,
    ⟨1, 3, 9, [], U, withDesc 1 true (chunkSt 0 0 true U), by decide +kernel⟩,
    ⟨1, 3, 9, [], (3, 1), hst 1 0xBC true, U, (withDesc 1 true (chunkSt 1 0 true U)).on (XLT_NS_CFG_ZONED 0), by decide +kernel⟩,
    ⟨1, 3, 9, [], Z, chunkSt 0 0 false Z, by decide +kernel⟩,
    ⟨1, 3, 9, [], D, chunkSt 0 0 false D, by decide +kernel⟩,
    ⟨1, 3, 9, [], D2, chunkSt 0 0 false D2, by decide +kernel⟩,
    ⟨1, 3, 9, [], Zs 1, (chunkSt 3 5 true (Zs 1)).on (XLT_NS_CFG_ZONED 0), by decide +kernel⟩,
    ⟨1, 3, 9, [], Zs 2, (chunkSt 4 5 true (Zs 2)).on (XLT_NS_CFG_ZONED 0), by decide +kernel⟩,
    ⟨1, 3, 9, [], Zs 3, (chunkSt 2 5 true (Zs 3)).on (XLT_NS_CFG_ZONED 0), by decide +kernel⟩,
    ⟨1, 3, 9, hst 1 0xBF true, [], Zs 3, (chunkSt 4 5 true (Zs 3)).on (XLT_NS_CFG_ZONED 0), by decide +kernel⟩,
    ⟨1, 3, 9, [], Zs 4, (chunkSt 0 0 false (Zs 4)).on (XLT_NS_CFG_ZONED 0), by decide +kernel⟩,
    ⟨1, 3, 9, [], Zs 5, (chunkSt 6 5 true (Zs 5)).on (XLT_NS_CFG_ZONED 0), by decide +kernel⟩⟩

end Fam12

namespace Fam13
abbrev Rc : State := modCtrl 0 (fun v => { v with sqs := [adminSq 8], cqs := [adminCq 8] }) ((R0.on (HIF_C_STAT_EN 0)).on (HIF_C_STAT_RDY 0))
abbrev Hq : HCmd := { (default : HCmd) with ctl := 0, sq := 0, e := { (default : Sqe) with opc := 2, cid := 9 }, st := .granted }

theorem witness_ControllerCommands :
    (∃ (c : Fin 2) (asqs : Fin 4097) (acqs : Fin 4097) (ams : Fin 8) (s : State), (s.runs) ∧ (s.ctlExists c = true) ∧ (s.flag
      (HIF_C_STAT_EN c.val) = false) ∧ (2 ≤ asqs.val) ∧ (2 ≤ acqs.val)) ∧
    (∃ (c : Fin 2) (s : State), (s.runs) ∧ (s.flag (HIF_C_STAT_EN c.val) = true)) ∧
    (∃ (c : Fin 2) (s : State), (s.runs) ∧ (s.flag (HIF_C_STAT_EN c.val) = false)) ∧
    (∃ (c : Fin 2) (s : State), (s.runs) ∧ (s.ctlExists c = true)) ∧
    (∃ (c : Fin 2) (s : State), (s.runs) ∧ (s.flag (HIF_C_STAT_EN c.val) = true) ∧ ((s.hif.ctrl[c]).shst ≠ 2) ∧ (s.shutDone c = true)) ∧
    (∃ (c : Fin 2) (s : State), (s.runs) ∧ (s.flag (HIF_C_STAT_EN c.val) = true) ∧ ((s.hif.ctrl[c]).shst ≠ 2) ∧ (s.shutDone c = false)) ∧
    (∃ (c : Fin 2) (s : State), (s.runs) ∧ (s.flag (HIF_C_STAT_EN c.val) = true) ∧ ((s.hif.ctrl[c]).shst ≠ 2) ∧ (s.shutDone c = true)) ∧
    (∃ (p : Fin 2) (s : State), (s.runs) ∧ (s.ctlExists p = true)) ∧
    (∃ (s : State), (s.runs) ∧ (s.raw RST_PORT_CNT0 < 65535)) ∧
    (∃ (p : Fin 2) (s : State), (s.runs) ∧ (s.ctlExists p = true)) ∧
    (∃ (p : Fin 2) (ltssm : BitVec 6) (s : State), (s.runs) ∧ (s.ctlExists p = true) ∧ (s.refStable p = true) ∧ (s.flag (HIF_PORT_LINK_UP
      p.val) = false)) ∧
    (∃ (p : Fin 2) (speed : Fin 6) (width : Fin 6) (ltssm : BitVec 6) (s : State), (s.runs) ∧ (s.ctlExists p = true) ∧ (s.pins.perst[p] =
      false)) ∧
    (∃ (s : State), (s.runs) ∧ (s.pins.led = true) ∧ (s.ioBusy = false)) ∧
    (∃ (s : State), (s.runs)) ∧
    (∃ (s : State), (s.runs)) :=
  ⟨⟨0, 8, 16, 3, R0, by decide +kernel⟩,
    ⟨0, { Rc with hif := { Rc.hif with cmds := [Hq] } }, by decide +kernel⟩,
    ⟨0, R0, by decide +kernel⟩,
    ⟨0, Rc, by decide +kernel⟩,
    ⟨0, Rc, by decide +kernel⟩,
    ⟨0, { Rc with hif := { Rc.hif with cmds := [Hq] } }, by decide +kernel⟩,
    ⟨0, Rc, by decide +kernel⟩,
    ⟨0, Rc.on (HIF_PORT_LINK_UP 0), by decide +kernel⟩,
    ⟨Rc.on (HIF_PORT_LINK_UP 0), by decide +kernel⟩,
    ⟨0, Rc.on (HIF_PORT_LINK_UP 0), by decide +kernel⟩,
    ⟨0, 5#6, Rc.set CLK_SRC_STAT_RUN 255, by decide +kernel⟩,
    ⟨0, 4, 4, 5#6, Rc, by decide +kernel⟩,
    ⟨{ Rc with pins := { Rc.pins with led := true } }, by decide +kernel⟩,
    ⟨Rc, by decide +kernel⟩,
    ⟨Rc, by decide +kernel⟩⟩

end Fam13

namespace Fam14
abbrev Rb : State := ((R0.on BUF_CTL_EN).set BUF_POOL_UNITS_UNITS 6).set BUF_POOL_BASE_BASE 100
abbrev Ru (d : Bool) (k : Nat) : State := putUnit 103 { dirty := d, ref := k } (putUnit 102 { dirty := d, ref := k } Rb)
abbrev Rd (op : Nat) : State := ((((Rb.on (BUF_DMA_CTL_GO 31)).set (BUF_DMA_LEN_BLOCKS 31) 1).set (BUF_DMA_CTL_OP 31) op).set (BUF_DMA_SRC_ADDR 31) 17).set (BUF_DMA_DST_ADDR 31) 19
abbrev Rm : State := R0.on MEM_CTL_SCRUB_EN
abbrev Rv : State := R0.on VLT_CTL_EN
abbrev Q (c : VCmd) : State := setGrant 15 (some { i5 := 1, i12 := 0, endAt := 5 }) (modVlt (fun v => { v with queue := [c], pages := [(6 * 256 + 7, some { data := 5, spare := 6 })] }) Rv)
abbrev VC (op : Nat) : VCmd := { op, tag := 5, block := 6, page := 7, data := 3, spare := 4 }
abbrev hd : List Byte := leBytes 0xA7C50001 4 ++ List.replicate 56 0
abbrev Pg (l : List Byte) : State := modVlt (fun v => { v with pages := [(0, some (plainPage l))] }) (Rv.set (VLT_REGION_BASE 6) 0)

theorem witness_BufferCommands :
    (∃ (r : Req) (n : Fin 512) (u : Nat) (s : State), (s.runs) ∧ (s.flag BUF_CTL_EN = true) ∧ (s.pickRun (n.val + 1) = some u) ∧ (u < 2 ^
      22)) ∧
    (∃ (r : Req) (n : Fin 512) (u : Nat) (s : State), (s.runs) ∧ (s.flag BUF_CTL_EN = true) ∧ (s.dirtyUnits + n.val + 1 ≤ s.cap) ∧
      (s.pickRun (n.val + 1) = some u) ∧ (u < 2 ^ 22)) ∧
    (∃ (r : Req) (n : Fin 512) (s : State), (s.runs) ∧ (s.flag BUF_CTL_EN = true) ∧ (s.cap < s.dirtyUnits + n.val + 1)) ∧
    (∃ (r : Req) (n : Fin 512) (s : State), (s.runs) ∧ (s.flag BUF_CTL_EN = true) ∧ (s.pickRun (n.val + 1) = none)) ∧
    (∃ (r : Req) (n : Fin 512) (s : State), (s.runs) ∧ (s.flag BUF_CTL_EN = false)) ∧
    (∃ (r : Req) (n : Fin 512) (addr : Nat) (s : State), (s.runs) ∧ (s.flag BUF_CTL_EN = true) ∧ ((∀ u ∈ unitRun (addr % 2 ^ 22) (n.val +
      1), s.inPool u = true ∧ 0 < (s.unit u).ref ∧ (s.unit u).ref ≠ 16383))) ∧
    (∃ (r : Req) (n : Fin 512) (addr : Nat) (s : State), (s.runs) ∧ (s.flag BUF_CTL_EN = true) ∧ ((∀ u ∈ unitRun (addr % 2 ^ 22) (n.val +
      1), s.inPool u = true ∧ 0 < (s.unit u).ref))) ∧
    (∃ (r : Req) (n : Fin 512) (addr : Nat) (s : State), (s.runs) ∧ (s.flag BUF_CTL_EN = true) ∧ ((∀ u ∈ unitRun (addr % 2 ^ 22) (n.val +
      1), s.inPool u = true ∧ 0 < (s.unit u).ref))) ∧
    (∃ (r : Req) (n : Fin 512) (addr : Nat) (s : State), (s.runs) ∧ (s.flag BUF_CTL_EN = true) ∧ ((∀ u ∈ unitRun (addr % 2 ^ 22) (n.val +
      1), s.inPool u = true ∧ 0 < (s.unit u).ref))) ∧
    (∃ (r : Req) (n : Fin 512) (addr : Nat) (s : State), (s.runs) ∧ (s.flag BUF_CTL_EN = true) ∧ ((∀ u ∈ unitRun (addr % 2 ^ 22) (n.val +
      1), s.inPool u = true ∧ (s.unit u).ref = 0))) ∧
    (∃ (r : Req) (n : Fin 512) (addr : Nat) (u : Nat) (s : State), (s.runs) ∧ (s.flag BUF_CTL_EN = true) ∧ (u ∈ unitRun (addr % 2 ^ 22)
      (n.val + 1)) ∧ (s.inPool u = true) ∧ ((s.unit u).ref = 0)) ∧
    (∃ (c : Fin 32) (s : State), (s.runs) ∧ (s.flag (BUF_DMA_CTL_GO c.val) = false)) ∧
    (∃ (c : Fin 32) (s : State), (s.runs) ∧ (s.flag (BUF_DMA_CTL_GO c.val) = false)) ∧
    (∃ (c : Fin 32) (s : State), (s.runs) ∧ (s.flag (BUF_DMA_CTL_GO c.val) = true)) ∧
    (∃ (c : Fin 32) (s : State), (s.runs) ∧ (s.flag (BUF_DMA_CTL_GO c.val) = true) ∧ (s.flag BUF_CTL_EN = true) ∧ (s.stepOn 7 = true) ∧
      (s.raw (BUF_DMA_LEN_BLOCKS c.val) = 1) ∧ (s.get (BUF_DMA_CTL_OP c.val) = 1) ∧ (s.flag (BUF_DMA_DST_SPACE c.val) = false) ∧ (s.raw
      (BUF_DMA_DST_ADDR c.val) * 64 + 64 ≤ dramSize)) ∧
    (∃ (c : Fin 32) (s : State), (s.runs) ∧ (s.flag (BUF_DMA_CTL_GO c.val) = true) ∧ (s.flag BUF_CTL_EN = true) ∧ (s.stepOn 7 = true) ∧
      (s.raw (BUF_DMA_LEN_BLOCKS c.val) = 1) ∧ (s.get (BUF_DMA_CTL_OP c.val) = 0) ∧ (s.flag (BUF_DMA_SRC_SPACE c.val) = false) ∧ (s.flag
      (BUF_DMA_DST_SPACE c.val) = false) ∧ (s.dramOk (s.raw (BUF_DMA_SRC_ADDR c.val) * 64) 64 = true) ∧ (s.raw (BUF_DMA_DST_ADDR c.val) *
      64 + 64 ≤ dramSize)) ∧
    (∃ (c : Fin 32) (s : State), (s.runs) ∧ (s.flag (BUF_DMA_CTL_GO c.val) = true) ∧ (s.flag BUF_CTL_EN = true) ∧ (s.stepOn 7 = true) ∧
      (s.raw (BUF_DMA_LEN_BLOCKS c.val) = 1) ∧ (s.get (BUF_DMA_CTL_OP c.val) = 0) ∧ (s.flag (BUF_DMA_SRC_SPACE c.val) = false) ∧ (s.dramOk
      (s.raw (BUF_DMA_SRC_ADDR c.val) * 64) 64 = false)) :=
  ⟨⟨.host, 1, 101, Rb.set BUF_POOL_UNITS_UNITS 3, by decide +kernel⟩,
    ⟨.role 3, 0, 101, (((((Rb.set BUF_POOL_UNITS_UNITS 2).set SPN_HOLDUP_E_MJ 1000).set BUF_CAP_CFG_MARGIN 255).set BUF_SAVE_CFG_RATE_MBPS 100).set BUF_SAVE_CFG_SAVE_MW 1000).set (VLT_SAVE_MAP_ERASED 0) 0xFFFFFFFF |> fun s => (s.set BUF_CAP_CFG_FIXED_MJ 0), by decide +kernel⟩,
    ⟨.host, 1, Rb, by decide +kernel⟩,
    ⟨.host, 7, Rb, by decide +kernel⟩,
    ⟨.host, 7, R0, by decide +kernel⟩,
    ⟨.host, 1, 102, Ru true 5, by decide +kernel⟩,
    ⟨.host, 1, 102, Ru true 1, by decide +kernel⟩,
    ⟨.host, 1, 102, Ru true 5, by decide +kernel⟩,
    ⟨.host, 1, 102, Ru true 5, by decide +kernel⟩,
    ⟨.host, 1, 104, Ru true 5, by decide +kernel⟩,
    ⟨.host, 1, 103, 104, Ru true 5, by decide +kernel⟩,
    ⟨31, Rb, by decide +kernel⟩,
    ⟨31, Rb, by decide +kernel⟩,
    ⟨31, Rb.on (BUF_DMA_CTL_GO 31), by decide +kernel⟩,
    ⟨31, Rd 1, by decide +kernel⟩,
    ⟨31, (Rd 0).dramWrite (17 * 64) [1, 2, 3], by decide +kernel⟩,
    ⟨31, { Rd 0 with poison := [17] }, by decide +kernel⟩⟩

theorem witness_MemoryAndVaultCommands :
    (∃ (ce : Bool) (s : State), (s.runs) ∧ (s.flag MEM_CTL_SCRUB_EN = true) ∧ (s.stepOn 7 = true) ∧ (s.retired (s.mem.scrub / 64) = false)) ∧
    (∃ (s : State), (s.runs) ∧ (s.flag MEM_CTL_SCRUB_EN = true) ∧ (s.stepOn 7 = true) ∧ (s.retired (s.mem.scrub / 64) = false) ∧
      (s.poison.contains s.mem.scrub = false)) ∧
    (∃ (ce : Bool) (ue : Bool) (s : State), (s.runs) ∧ (s.flag MEM_CTL_SCRUB_EN = false ∨ s.stepOn 7 = false)) ∧
    (∃ (array : Nat) (row : Nat) (s : State), (s.runs) ∧ (0 < (s.set MEM_REPAIR_ARRAY array).sparesLeft ((s.set MEM_REPAIR_ARRAY array).get
      MEM_REPAIR_ARRAY))) ∧
    (∃ (array : Nat) (row : Nat) (s : State), (s.runs) ∧ ((s.set MEM_REPAIR_ARRAY array).sparesLeft ((s.set MEM_REPAIR_ARRAY array).get
      MEM_REPAIR_ARRAY) = 0)) ∧
    (∃ (i : Fin 16) (v : Word) (s : State), (s.runs)) ∧
    (∃ (r : Req) (tag : Nat) (block : Nat) (page : Nat) (data : Nat) (spare : Nat) (s : State), (s.runs) ∧ (s.vltResult (vCmd 1 tag block
      page data spare) = 0)) ∧
    (∃ (r : Req) (tag : Nat) (block : Nat) (page : Nat) (data : Nat) (spare : Nat) (s : State), (s.runs) ∧ (s.vltResult (vCmd 2 tag block
      page data spare) = 0)) ∧
    (∃ (r : Req) (tag : Nat) (block : Nat) (page : Nat) (data : Nat) (spare : Nat) (s : State), (s.runs) ∧ (s.flag VLT_CTL_EN = true) ∧
      ((s.saveBlock (block % 4096)).isSome = true) ∧ (s.vlt.queue = []) ∧ (s.vlt.cq = [])) ∧
    (∃ (r : Req) (tag : Nat) (block : Nat) (s : State), (s.runs) ∧ (s.vltResult (vCmd 3 tag block 0 0 0) = 0)) ∧
    (∃ (r : Req) (tag : Nat) (block : Nat) (s : State), (s.runs) ∧ (s.flag VLT_CTL_EN = false)) ∧
    (∃ (tag : Nat) (maxbits : Nat) (c : VCmd) (s : State), (s.runs) ∧ (s.vlt.queue.find? (fun c => c.tag == tag) = some c) ∧ (c.op = 3) ∧
      (s.granted 15 = true) ∧ (s.stepOn 7 = true) ∧ (s.saveBlock c.block = none)) ∧
    (∃ (tag : Nat) (maxbits : Nat) (c : VCmd) (s : State), (s.runs) ∧ (s.vlt.queue.find? (fun c => c.tag == tag) = some c) ∧ (c.op = 2) ∧
      (s.granted 15 = true) ∧ (s.stepOn 7 = true) ∧ (s.dramOk (c.data * 4096) 16384 = true) ∧ (s.dramOk (c.spare * 16) 64 = true)) ∧
    (∃ (tag : Nat) (maxbits : Nat) (failed : Bool) (c : VCmd) (s : State), (s.runs) ∧ (s.vlt.queue.find? (fun c => c.tag == tag) = some c)
      ∧ (c.op = 1) ∧ (s.stepOn 7 = true) ∧ (40 < maxbits)) ∧
    (∃ (tag : Nat) (maxbits : Nat) (failed : Bool) (c : VCmd) (p : VPage) (s : State), (s.runs) ∧ (s.vlt.queue.find? (fun c => c.tag ==
      tag) = some c) ∧ (c.op = 1) ∧ (s.stepOn 7 = true) ∧ (maxbits ≤ 40) ∧ (tabLook none s.vlt.pages (c.block * 256 + c.page) = some p) ∧
      (p.spare < 2 ^ 512) ∧ (c.spare * 16 + 64 ≤ c.data * 4096) ∧ (c.data * 4096 + 16384 ≤ 2 ^ 34)) ∧
    (∃ (s : State), (s.runs)) ∧
    (∃ (at_ : Nat) (lost : Nat) (recs : List Nat) (free : List Nat) (s : State), (s.runs) ∧ (pageMarked (s.savePage 0) 0xA7C50001 = false)) ∧
    (∃ (at_ : Nat) (lost : Nat) (recs : List Nat) (free : List Nat) (s : State), (s.runs) ∧ (pageMarked (s.savePage 0) 0xA7C50001 = true)) :=
  ⟨⟨false, Rm, by decide +kernel⟩,
    ⟨{ Rm with mem := { Rm.mem with scrub := dramLines - 1 } }, by decide +kernel⟩,
    ⟨true, true, R0.set MEM_CTL_SCRUB_EN 0, by decide +kernel⟩,
    ⟨5, 77777, R0, by decide +kernel⟩,
    ⟨1, 77777, { R0 with mem := { R0.mem with rows := List.replicate 4 (1, 5) } }, by decide +kernel⟩,
    ⟨5, 0x80001234#32, R0, by decide +kernel⟩,
    ⟨.host, 5, 6, 7, 8, 9, Rv, by decide +kernel⟩,
    ⟨.host, 5, 6, 7, 8, 9, Rv, by decide +kernel⟩,
    ⟨.host, 5, 6, 7, 8, 9, (Rv.set (VLT_REGION_BASE 6) 0).set (VLT_REGION_BLOCKS 6) 20, by decide +kernel⟩,
    ⟨.host, 5, 6, Rv, by decide +kernel⟩,
    ⟨.host, 5, 6, R0, by decide +kernel⟩,
    ⟨5, 0, VC 3, Q (VC 3), by decide +kernel⟩,
    ⟨5, 0, VC 2, (Q (VC 2)).dramWrite 12288 [9, 8, 7], by decide +kernel⟩,
    ⟨5, 41, false, VC 1, Q (VC 1), by decide +kernel⟩,
    ⟨5, 40, false, VC 1, { data := 5, spare := 6 }, Q (VC 1), by decide +kernel⟩,
    ⟨R0, by decide +kernel⟩,
    ⟨0, 3, [], [], Pg hd, by decide +kernel⟩,
    ⟨0, 3, [], [], Pg (withCrc hd), by decide +kernel⟩⟩

end Fam14

namespace Fam15
abbrev csPut2 (lo a b : Nat) (s : State) : State := csPut 3 5 2 b (csPut 3 5 1 a (csPut 3 5 0 lo s))
abbrev Rn (lo : Nat) (seq : Nat) (hi : Nat) : State := (((csPut2 lo 0 (seq * 2 ^ 56 + 0x777 * 2 ^ 43 + hi) (((R0.set (ENG_SE_STAT_STATE 3) 2).set (ENG_SE_STAT_PC 3) 5).set (ENG_SE_STAT_ROLE 3) 4)).set ENG_CFG_CGAP 4).set ENG_CFG_ILIM 4).set ENG_CFG_IHOLD_MAX 8
abbrev W (seq : Nat) : State := Rn 0 seq 0
abbrev St (l : List Nat) (s : State) : State := modSe 3 (fun e => { e with stack := l, link := 0x123 }) s
abbrev Rr (st : Option Nat) : State := modLvl 3 true (fun l => { l with reading := some (0x2000, st) }) (W 0)
abbrev Rm : State := (((W 0).on (ENG_MAP_VALID 4)).set (ENG_MAP_ENGINE 4) 3).set ENG_MIG_STAT_ROLE 4
abbrev Rt (p : Nat) : State := { (Rm.set (ENG_SE_STAT_STATE 7) 1).set ENG_MIG_STAT_PHASE p with eng := { Rm.eng with target := 7 } }

theorem witness_MicrowordCommands :
    (∃ (n : Fin 18) (s : State), (s.runs) ∧ (s.wordReady n 0)) ∧
    (∃ (n : Fin 18) (s : State), (s.runs) ∧ (s.wordReady n 1)) ∧
    (∃ (n : Fin 18) (s : State), (s.runs) ∧ (s.wordReady n 2)) ∧
    (∃ (n : Fin 18) (s : State), (s.runs) ∧ (s.wordReady n 3) ∧ ((s.eng.se[n]).stack.length < 8)) ∧
    (∃ (n : Fin 18) (s : State), (s.runs) ∧ (s.wordReady n 3) ∧ (8 ≤ (s.eng.se[n]).stack.length)) ∧
    (∃ (n : Fin 18) (s : State), (s.runs) ∧ (s.wordReady n 4) ∧ ((s.eng.se[n]).stack.length < 8)) ∧
    (∃ (n : Fin 18) (a : Nat) (l : List Nat) (s : State), (s.runs) ∧ (s.wordReady n 5) ∧ ((s.eng.se[n]).stack = a :: l) ∧ (a < 8192)) ∧
    (∃ (n : Fin 18) (s : State), (s.runs) ∧ (s.wordReady n 5) ∧ ((s.eng.se[n]).stack = [])) ∧
    (∃ (n : Fin 18) (a : Nat) (l : List Nat) (s : State), (s.runs) ∧ (s.wordReady n 6) ∧ ((s.eng.se[n]).stack = a :: l) ∧ (a < 8192)) ∧
    (∃ (n : Fin 18) (s : State), (s.runs) ∧ (s.wordReady n 7)) ∧
    (∃ (n : Fin 18) (s : State), (s.runs) ∧ (s.wordReady n 8)) ∧
    (∃ (n : Fin 18) (s : State), (s.runs) ∧ (s.wordReady n 9) ∧ ((s.wordAtPc n).dwe ≠ 2) ∧ ((s.wordAtPc n).lcld = false)) ∧
    (∃ (n : Fin 18) (s : State), (s.runs) ∧ (s.wordReady n 10) ∧ (s.seInt n = true) ∧ ((s.eng.se[n]).link < 8192)) ∧
    (∃ (n : Fin 18) (s : State), (s.runs) ∧ (s.wordReady n 10) ∧ (s.seInt n = false)) ∧
    (∃ (n : Fin 18) (s : State), (s.runs) ∧ (s.wordReady n 11)) ∧
    (∃ (n : Fin 18) (v : Nat) (s : State), (s.runs) ∧ (s.wordReady n 0) ∧ ((s.wordAtPc n).commit = false) ∧ ((s.wordAtPc n).dwe = 1) ∧
      ((s.wordAtPc n).aluop ≠ 11) ∧ (v < 2 ^ 32) ∧ ((aluOf (s.wordAtPc n).aluop ((s.eng.se[n]).reg (s.seInt n) (s.wordAtPc n).asel)
      (s.operandB n (s.seInt n) (s.wordAtPc n)) (bits ((s.eng.se[n]).level (s.seInt n)).flags 2 1)).1 = some v)) ∧
    (∃ (n : Fin 18) (s : State), (s.runs) ∧ (s.wordReady n 0) ∧ ((s.wordAtPc n).commit = false) ∧ ((s.wordAtPc n).busop = 3) ∧ ((s.wordAtPc
      n).evop = 0)) ∧
    (∃ (n : Fin 18) (s : State), (s.runs) ∧ (s.seSt n.val ≠ seRun) ∧ (s.seSt n.val ≠ seTest)) :=
  ⟨⟨3, W 0, by decide +kernel⟩,
    ⟨3, W 1, by decide +kernel⟩,
    ⟨3, W 2, by decide +kernel⟩,
    ⟨3, W 3, by decide +kernel⟩,
    ⟨3, St [1,2,3,4,5,6,7,8] (W 3), by decide +kernel⟩,
    ⟨3, W 4, by decide +kernel⟩,
    ⟨3, 77, [5], St [77, 5] (W 5), by decide +kernel⟩,
    ⟨3, W 5, by decide +kernel⟩,
    ⟨3, 77, [5], St [77, 5] (W 6), by decide +kernel⟩,
    ⟨3, W 7, by decide +kernel⟩,
    ⟨3, W 8, by decide +kernel⟩,
    ⟨3, W 9, by decide +kernel⟩,
    ⟨3, (St [] (W 10)).on (ENG_SE_STAT_LEVEL 3), by decide +kernel⟩,
    ⟨3, W 10, by decide +kernel⟩,
    ⟨3, W 11, by decide +kernel⟩,
    ⟨3, 12, modSe 3 (fun e => { e with g := [(0, 6)] }) (csPut 3 5 1 (2 ^ 45 * 2 ^ 32 * 0 + (1 * 2 ^ (141 - 64 - 64) * 2 ^ 64) % 2 ^ 64) (csPut 3 5 2 (1 * 2 ^ 32 + 2 ^ 13) (W 0))), by decide +kernel⟩,
    ⟨3, csPut 3 5 1 (3 * 2 ^ 29 + 9 * 2 ^ 2 + 0x55 * 2 ^ 32) (W 0), by decide +kernel⟩,
    ⟨4, W 0, by decide +kernel⟩⟩

theorem witness_EngineEvents :
    (∃ (n : Fin 18) (int : Bool) (a : Nat) (v : Nat) (s : State), (s.runs) ∧ (((s.eng.se[n]).level int).reading = some (a, some v))) ∧
    (∃ (n : Fin 18) (int : Bool) (a : Nat) (s : State), (s.runs) ∧ (((s.eng.se[n]).level int).reading = some (a, none)) ∧
      (((s.eng.se[n]).level int).drain = [])) ∧
    (∃ (n : Fin 18) (int : Bool) (s : State), (s.runs) ∧ (((s.eng.se[n]).level int).reading = none)) ∧
    (∃ (n : Fin 18) (k : Nat) (s : State), (s.runs) ∧ (s.irqDue n = some k) ∧ ((s.eng.se[n]).base.drain = []) ∧ ((s.eng.se[n]).int.drain =
      [])) ∧
    (∃ (n : Fin 18) (s : State), (s.runs) ∧ (s.irqDue n = none)) ∧
    (∃ (n : Fin 18) (s : State), (s.runs) ∧ (s.seSt n.val = seRun) ∧ ((s.eng.se[n]).base.holds = true)) ∧
    (∃ (n : Fin 18) (s : State), (s.runs) ∧ (s.seSt n.val = seRun) ∧ (s.seInt n = true)) ∧
    (∃ (r : Fin 16) (v : Word) (s : State), (s.runs)) ∧
    (∃ (n : Fin 18) (p : Fin 3) (w : Fin 8192) (hi : Bool) (v : Word) (s : State), (s.runs) ∧ (s.seSt n.val ≠ seRun) ∧ (s.seSt n.val ≠
      seLoading) ∧ ((s.eng.se[n]).bad.contains (s.csCell n.val w.val * 3 + p.val) = false)) ∧
    (∃ (n : Fin 18) (p : Fin 3) (w : Fin 8192) (hi : Bool) (v : Word) (s : State), (s.runs) ∧ (s.seSt n.val = seRun ∨ s.seSt n.val =
      seLoading)) :=
  ⟨⟨3, true, 0x2000, 7, Rr (some 7), by decide +kernel⟩,
    ⟨3, true, 0x2000, Rr none, by decide +kernel⟩,
    ⟨3, true, R0, by decide +kernel⟩,
    ⟨3, 1, ((W 0).set (ENG_ROLE_IPEND_PEND 4) 6).set (ENG_ROLE_IEN_EN 4) 6, by decide +kernel⟩,
    ⟨3, W 0, by decide +kernel⟩,
    ⟨3, modLvl 3 false (fun l => { l with staged := [.ack 1] }) (W 0), by decide +kernel⟩,
    ⟨3, (W 0).on (ENG_SE_STAT_LEVEL 3), by decide +kernel⟩,
    ⟨3, 0x1234#32, R0, by decide +kernel⟩,
    ⟨3, 2, 77, true, 0x1234#32, R0, by decide +kernel⟩,
    ⟨3, 2, 77, true, 0x1234#32, W 0, by decide +kernel⟩⟩

theorem witness_EngineControl :
    (∃ (v : Word) (n : Fin 18) (t' : Fin 18) (s : State), (s.runs) ∧ (s.engineOf (bits v.toNat 16 4) = some n) ∧ (bits v.toNat 8 5 = 0x1F)
      ∧ (s.spares.head? = some t') ∧ (s.raw ENG_MIG_STAT_PHASE = 0) ∧ (s.seSt n.val = seRun) ∧ (s.activating = false)) ∧
    (∃ (v : Word) (s : State), (s.runs) ∧ (s.engineOf (bits v.toNat 16 4) = none ∨ s.raw ENG_MIG_STAT_PHASE ≠ 0)) ∧
    (∃ (last : Nat) (s : State), (s.runs) ∧ (s.raw ENG_MIG_STAT_PHASE = 1) ∧ (s.eng.target < 18) ∧ (s.flag ENG_MIG_STAT_FAULT = false)) ∧
    (∃ (last : Nat) (k : Fin 18) (s : State), (s.runs) ∧ (s.raw ENG_MIG_STAT_PHASE = 1) ∧ (s.eng.target = k.val) ∧ (s.flag
      ENG_MIG_STAT_FAULT = true) ∧ (s.eng.waiting = [])) ∧
    (∃ (last : Nat) (n : Fin 18) (k : Fin 18) (s : State), (s.runs) ∧ (s.raw ENG_MIG_STAT_PHASE = 2) ∧ (s.eng.target = k.val) ∧ (s.flag
      ENG_MIG_STAT_FAULT = false) ∧ (s.engineOf (s.raw ENG_MIG_STAT_ROLE) = some n) ∧ (s.clean n = true) ∧ (s.seSt n.val = seRun) ∧ (n ≠ k)
      ∧ (s.eng.waiting = []) ∧ (s.eng.test = false)) ∧
    (∃ (r : Fin 16) (n : Fin 18) (s : State), (s.runs) ∧ (s.engineOf r.val = some n) ∧ (s.flag ENG_CTL_EN = true) ∧ (s.seSt n.val ≠ seRun)
      ∧ (s.seSt n.val ≠ seLoading)) ∧
    (∃ (r : Fin 16) (s : State), (s.runs) ∧ (s.engineOf r.val = none ∨ s.flag ENG_CTL_EN = false)) ∧
    (∃ (r : Fin 16) (n : Fin 18) (s : State), (s.runs) ∧ (s.engineOf r.val = some n) ∧ (s.flag (ENG_ROLE_CTL_START r.val) = true)) ∧
    (∃ (n : Fin 18) (s : State), (s.runs) ∧ (s.seSt n.val = seRun) ∧ (s.clean n = true)) ∧
    (∃ (n : Fin 18) (s : State), (s.runs) ∧ (s.seSt n.val = seRun) ∧ (s.clean n = false)) ∧
    (∃ (n : Fin 18) (s : State), (s.runs) ∧ (s.seSt n.val ≠ seRun)) ∧
    (∃ (n : Fin 18) (s : State), (s.runs) ∧ (s.flag ENG_CTL_EN = true) ∧ (s.seSt n.val = seHalted)) ∧
    (∃ (n : Fin 18) (s : State), (s.runs) ∧ (s.seOut n = true) ∧ (s.eng.waiting = [])) ∧
    (∃ (n : Fin 18) (s : State), (s.runs) ∧ (s.seOut n = false)) ∧
    (∃ (n : Fin 18) (s : State), (s.runs) ∧ (s.seOut n = true)) ∧
    (∃ (s : State), (s.runs)) :=
  ⟨⟨0x00041F00#32, 3, 16, Rm, by decide +kernel⟩,
    ⟨0x00051F00#32, Rm.off (ENG_MAP_VALID 5), by decide +kernel⟩,
    ⟨5, Rt 1, by decide +kernel⟩,
    ⟨5, 7, (Rt 1).on ENG_MIG_STAT_FAULT, by decide +kernel⟩,
    ⟨5, 3, 7, Rt 2, by decide +kernel⟩,
    ⟨4, 3, (Rm.set (ENG_SE_STAT_STATE 3) 3).on ENG_CTL_EN, by decide +kernel⟩,
    ⟨5, R0, by decide +kernel⟩,
    ⟨4, 3, (Rm.set (ENG_SE_STAT_STATE 3) 1).on (ENG_ROLE_CTL_START 4), by decide +kernel⟩,
    ⟨3, W 0, by decide +kernel⟩,
    ⟨3, modLvl 3 false (fun l => { l with staged := [.ack 1] }) (W 0), by decide +kernel⟩,
    ⟨4, W 0, by decide +kernel⟩,
    ⟨3, ((W 0).set (ENG_SE_STAT_STATE 3) 3).on ENG_CTL_EN, by decide +kernel⟩,
    ⟨3, ((W 0).set (ENG_SE_STAT_STATE 3) 5), by decide +kernel⟩,
    ⟨3, W 0, by decide +kernel⟩,
    ⟨3, ((W 0).set (ENG_SE_STAT_STATE 3) 4), by decide +kernel⟩,
    ⟨(W 0).on ENG_CTL_EN, by decide +kernel⟩⟩

end Fam15

namespace Fam16
abbrev Rw (r : Req) (k i5 i12 : Nat) (s : State) : State := ((s.set (BUL_RQ_W0_SLOT.of r) k).set (BUL_RQ_W0_I5_MA.of r) i5).set (BUL_RQ_W0_I12_MA.of r) i12
abbrev Re : State := (R0.on BUL_CTL_EN).off BUL_STAT_FROZEN
abbrev Rg (k : Fin 24) (s : State) : State := setGrant k (some { i5 := 100, i12 := 0, endAt := 8192 }) s
abbrev Rq (k : Fin 24) (s : State) : State := setWait k (some { i5 := 9, i12 := 0, dur := 4, dl := 4096, blocking := false }) s
abbrev Rc : State := R0.on (HIF_C_STAT_EN 1)
abbrev Pt (pl dn : List (Nat × Nat)) (s : State) : State := modPwr (fun p => { p with trans := some { frm := 0, dest := 3, req := none, plan := pl, done := dn, back := false, stop := false, began := 0 } }) s
abbrev P0 (pl dn : List (Nat × Nat)) : PTrans := { frm := 0, dest := 3, req := none, plan := pl, done := dn, back := false, stop := false, began := 0 }
abbrev Ra : State := modCtrl 1 (fun c => { c with feats := [(0xC, some 1), (0x100, some 0x10318)] }) Rc
abbrev Pr : PReq := { src := 1, ctl := 1, st := 0, old := 3, cmd := none }

theorem witness_PermitCommands :
    (∃ (r : Req) (w1 : Word) (s : State), (s.runs) ∧ (slotOpen r (s.raw (BUL_RQ_W0_SLOT.of r)) = false)) ∧
    (∃ (r : Req) (w1 : Word) (s : State), (s.runs) ∧ (slotOpen r (s.raw (BUL_RQ_W0_SLOT.of r)) = true) ∧ (s.flag (BUL_RQ_W0_RELEASE.of r) =
      false) ∧ (bits w1.toNat 16 16 = 0)) ∧
    (∃ (r : Req) (w1 : Word) (k : Fin 24) (w : Wait) (s : State), (s.runs) ∧ (slotOpen r k.val = true) ∧ (s.raw (BUL_RQ_W0_SLOT.of r) =
      k.val) ∧ (s.flag (BUL_RQ_W0_RELEASE.of r) = false) ∧ (bits w1.toNat 16 16 ≠ 0) ∧ ((∀ j : Fin 24, (s.bul.slots[j]).wait = none)) ∧
      (s.granted k = false) ∧ (s.bulGrants = true) ∧ (w.i5 = s.raw (BUL_RQ_W0_I5_MA.of r)) ∧ (w.i12 = s.raw (BUL_RQ_W0_I12_MA.of r)) ∧
      (w.dur = bits w1.toNat 16 16) ∧ ((grantWait k w s).withinBudget w.i5 w.i12 = true)) ∧
    (∃ (r : Req) (w1 : Word) (k : Fin 24) (s : State), (s.runs) ∧ (slotOpen r k.val = true) ∧ (s.raw (BUL_RQ_W0_SLOT.of r) = k.val) ∧
      (s.flag (BUL_RQ_W0_RELEASE.of r) = false) ∧ (bits w1.toNat 16 16 ≠ 0) ∧ (s.granted k = false) ∧ (s.bulGrants = false)) ∧
    (∃ (r : Req) (w1 : Word) (k : Fin 24) (s : State), (s.runs) ∧ (slotOpen r k.val = true) ∧ (s.raw (BUL_RQ_W0_SLOT.of r) = k.val) ∧
      (s.flag (BUL_RQ_W0_RELEASE.of r) = false) ∧ (bits w1.toNat 16 16 ≠ 0) ∧ (s.granted k = true) ∧ (s.flag BUL_CTL_EN = true) ∧ (s.flag
      BUL_STAT_FROZEN = true ∨ s.flag BUL_STAT_EMERG = true)) ∧
    (∃ (r : Req) (w1 : Word) (k : Fin 24) (g : Grant) (s : State), (s.runs) ∧ (slotOpen r k.val = true) ∧ (s.raw (BUL_RQ_W0_SLOT.of r) =
      k.val) ∧ (s.flag (BUL_RQ_W0_RELEASE.of r) = false) ∧ (bits w1.toNat 16 16 ≠ 0) ∧ ((s.bul.slots[k]).grant = some g) ∧ (s.bulGrants =
      true) ∧ (s.raw (BUL_RQ_W0_I5_MA.of r) ≤ g.i5) ∧ (s.raw (BUL_RQ_W0_I12_MA.of r) ≤ g.i12) ∧ (s.overNamed (s.raw (BUL_RQ_W0_I5_MA.of r))
      (s.raw (BUL_RQ_W0_I12_MA.of r)) = false)) ∧
    (∃ (r : Req) (k : Fin 24) (s : State), (s.runs) ∧ (slotOpen r k.val = true) ∧ ((∀ j : Fin 24, j ≠ k → (s.bul.slots[j]).wait = none))) ∧
    (∃ (r : Req) (k : Fin 32) (s : State), (s.runs) ∧ (slotOpen r k.val = false)) ∧
    (∃ (k : Fin 24) (w : Wait) (s : State), (s.runs) ∧ ((s.bul.slots[k]).wait = some w) ∧ (w.blocking = false)) ∧
    (∃ (k : Fin 24) (s : State), (s.runs) ∧ ((∀ w, (s.bul.slots[k]).wait = some w → w.blocking = true))) ∧
    (∃ (k : Fin 24) (g : Grant) (s : State), (s.runs) ∧ ((s.bul.slots[k]).grant = some g) ∧ (g.endAt ≤ s.ticks) ∧ ((∀ j : Fin 24,
      (s.bul.slots[j]).wait = none))) ∧
    (∃ (k : Fin 24) (g : Grant) (s : State), (s.runs) ∧ ((s.bul.slots[k]).grant = some g)) ∧
    (∃ (k : Fin 24) (s : State), (s.runs) ∧ (s.granted k = false)) ∧
    (∃ (k : Fin 24) (s : State), (s.runs) ∧ (s.granted k = true) ∧ (7 ≤ k.val) ∧ (k.val ≤ 20) ∧ (s.permitWork k.val = false) ∧ ((∀ j : Fin
      24, (s.bul.slots[j]).wait = none))) ∧
    (∃ (k : Fin 24) (s : State), (s.runs) ∧ (s.granted k = false ∨ s.permitWork k.val = true)) :=
  ⟨⟨.mailbox, 0x00200030#32, Rw .mailbox 21 5 7 R0, by decide +kernel⟩,
    ⟨.role 4, 0x00000030#32, Rw (.role 4) 21 5 7 R0, by decide +kernel⟩,
    ⟨.role 4, 0x00200030#32, 21, { i5 := 5, i12 := 7, dur := 0x20, dl := 0, blocking := false }, Rw (.role 4) 21 5 7 Re, by decide +kernel⟩,
    ⟨.core 2, 0x00200030#32, 23, Rw (.core 2) 23 5 7 R0, by decide +kernel⟩,
    ⟨.core 2, 0x00200030#32, 23, Rw (.core 2) 23 5 7 (Rg 23 (Re.on BUL_STAT_FROZEN)), by decide +kernel⟩,
    ⟨.core 2, 0x00200030#32, 23, { i5 := 100, i12 := 0, endAt := 8192 }, Rw (.core 2) 23 100 0 (Rg 23 Re), by decide +kernel⟩,
    ⟨.role 6, 0, (Rg 0 Re).on SPN_CTL_PERMIT, by decide +kernel⟩,
    ⟨.role 6, 31, (Rg 0 Re), by decide +kernel⟩,
    ⟨7, { i5 := 9, i12 := 0, dur := 4, dl := 4096, blocking := false }, Rq 7 R0, by decide +kernel⟩,
    ⟨7, R0, by decide +kernel⟩,
    ⟨2, { i5 := 100, i12 := 0, endAt := 0 }, setGrant 2 (some { i5 := 100, i12 := 0, endAt := 0 }) Re, by decide +kernel⟩,
    ⟨0, { i5 := 100, i12 := 0, endAt := 8192 }, (Rg 0 Re).on SPN_CTL_PERMIT, by decide +kernel⟩,
    ⟨0, Re, by decide +kernel⟩,
    ⟨20, Rg 20 Re, by decide +kernel⟩,
    ⟨20, Re, by decide +kernel⟩⟩

theorem witness_SupplyCommands :
    (∃ (k : Fin 16) (w0 : Word) (w1 : Word) (s : State), (s.runs) ∧ (bitOf w0.toNat 31 = true) ∧ (bitOf w0.toNat 30 = true) ∧
      (s.leaseRefused k.val (bits w0.toNat 0 12) = true)) ∧
    (∃ (k : Fin 16) (w0 : Word) (w1 : Word) (s : State), (s.runs) ∧ (bitOf w0.toNat 31 = false ∨ bitOf w0.toNat 30 = false ∨ s.leaseRefused
      k.val (bits w0.toNat 0 12) = false)) ∧
    (∃ (k : Fin 16) (s : State), (s.runs) ∧ (s.flag (BUL_LEASE_W0_VALID k.val) = true)) ∧
    (∃ (k : Fin 16) (s : State), (s.runs) ∧ (s.flag (BUL_LEASE_W0_VALID k.val) = false)) ∧
    (∃ (rail : Fin 2) (s : State), (s.runs) ∧ (s.pwr.below12 = false) ∧ (s.pwr.below5 = false) ∧ (s.pwr.reset12 = false) ∧ (s.pwr.reset5 =
      false)) ∧
    (∃ (rail : Fin 2) (s : State), (s.runs) ∧ ((if rail = 0 then s.pwr.below12 else s.pwr.below5) = true)) ∧
    (∃ (s : State), (s.runs)) ∧
    (∃ (rail : Fin 2) (s : State), (s.runs)) ∧
    (∃ (s : State), (s.runs) ∧ (s.pwr.oc = false)) ∧
    (∃ (p : Bool) (s : State), (s.runs) ∧ (p = false ∨ s.pwr.oc = true)) ∧
    (∃ (s : State), (s.runs)) ∧
    (∃ (s : State), (s.runs) ∧ (s.emergCauses = 0)) ∧
    (∃ (s : State), (s.runs) ∧ (s.emergCauses ≠ 0)) ∧
    (∃ (pages : Nat) (s : State), (s.pd.swOpen = true) ∧ (s.pd.regOff = false)) ∧
    (∃ (pages : Nat) (s : State), (s.pd.swOpen = false ∨ s.pd.regOff = true)) :=
  ⟨⟨15, 0xC0050064#32, 77#32, Re, by decide +kernel⟩,
    ⟨15, 0xC0050001#32, 77#32, (Re.on BUL_CTL_LEASE_EN).set BUL_LEASE_CFG_LEND_MAX 100, by decide +kernel⟩,
    ⟨15, Re.on (BUL_LEASE_W0_VALID 15), by decide +kernel⟩,
    ⟨15, Re, by decide +kernel⟩,
    ⟨1, Re, by decide +kernel⟩,
    ⟨1, setBelow 1 true Re, by decide +kernel⟩,
    ⟨setBelow 1 true Re, by decide +kernel⟩,
    ⟨0, ((Rg 3 Re).on BUL_STAT_FROZEN).set ACT_STAT_STATE_A 2, by decide +kernel⟩,
    ⟨Rg 3 Re, by decide +kernel⟩,
    ⟨false, Rg 3 Re, by decide +kernel⟩,
    ⟨Rg 3 Re, by decide +kernel⟩,
    ⟨Re.on BUL_STAT_EMERG, by decide +kernel⟩,
    ⟨modPwr (fun p => { p with oc := true }) (Re.on BUL_STAT_EMERG), by decide +kernel⟩,
    ⟨0, { R0 with pd := { R0.pd with swOpen := true } }, by decide +kernel⟩,
    ⟨0, R0, by decide +kernel⟩⟩

theorem witness_PowerStateCommands :
    (∃ (v : Word) (s : State), (s.runs) ∧ (s.pwr.trans.isSome = true ∨ s.raw THM_STAT_STATE ≠ 0) ∧ (bits v.toNat 0 3 ≤ 4)) ∧
    (∃ (v : Word) (c : Fin 2) (s : State), (s.runs) ∧ (s.pwr.trans = none) ∧ (s.raw THM_STAT_STATE = 0) ∧ (bitOf v.toNat 3 = (c == 1)) ∧
      (s.flag (HIF_C_STAT_EN c.val) = true) ∧ (s.flag (HIF_C_STAT_EN (1 - c).val) = false) ∧ (bits v.toNat 0 3 = s.raw PWR_STATE_CUR) ∧
      (bits v.toNat 0 3 ≤ 4)) ∧
    (∃ (v : Word) (c : Fin 2) (s : State), (s.runs) ∧ (s.pwr.trans = none) ∧ (s.raw THM_STAT_STATE = 0) ∧ (bitOf v.toNat 3 = (c == 1)) ∧
      (s.flag (HIF_C_STAT_EN c.val) = true) ∧ (s.flag (HIF_C_STAT_EN (1 - c).val) = false) ∧ (bits v.toNat 0 3 ≠ s.raw PWR_STATE_CUR) ∧
      (bits v.toNat 0 3 ≤ 1) ∧ ((∀ k : Fin 7, s.pwr.lvl[k] = 0))) ∧
    (∃ (v : Word) (c : Fin 2) (s : State), (s.runs) ∧ (s.pwr.trans = none) ∧ (s.raw THM_STAT_STATE = 0) ∧ (bitOf v.toNat 3 = (c == 1)) ∧
      (s.flag (HIF_C_STAT_EN c.val) = true) ∧ (s.flag (HIF_C_STAT_EN (1 - c).val) = false) ∧ (s.raw PWR_STATE_CUR ≤ 1) ∧ (2 ≤ bits v.toNat
      0 3) ∧ (bits v.toNat 0 3 ≤ 4) ∧ ((∀ k : Fin 7, s.pwr.lvl[k] = 0))) ∧
    (∃ (p : PTrans) (k : Nat) (v : Nat) (s : State), (s.runs) ∧ (s.pwr.trans = some p) ∧ (p.plan = [(k, v)]) ∧ (s.stepDone k = true) ∧
      (p.back = false) ∧ (p.stop = false) ∧ (p.dest < 8) ∧ (s.pwr.held = none) ∧ (s.raw THM_STAT_STATE = 0)) ∧
    (∃ (p : PTrans) (k : Nat) (v : Nat) (k2 : Nat) (v2 : Nat) (l : List (Nat × Nat)) (s : State), (s.runs) ∧ (s.pwr.trans = some p) ∧
      (p.plan = (k, v) :: (k2, v2) :: l) ∧ (s.stepDone k = true) ∧ (s.raw THM_STAT_STATE = 0) ∧ (1 ≤ k2) ∧ (k2 ≤ 7)) ∧
    (∃ (p : PTrans) (k : Nat) (v : Nat) (l : List (Nat × Nat)) (s : State), (s.runs) ∧ (s.pwr.trans = some p) ∧ (p.plan = (k, v) :: l) ∧
      (s.stepDone k = false)) ∧
    (∃ (c : Fin 16) (p : PTrans) (k : Nat) (v : Nat) (l : List (Nat × Nat)) (s : State), (s.runs) ∧ (s.pwr.trans = some p) ∧ (p.plan = (k,
      v) :: l) ∧ (s.refuses k c.val = true) ∧ (p.stop = false) ∧ (p.back = false) ∧ (p.done = []) ∧ (p.frm < 8) ∧ (p.dest < 8) ∧ (k < 8) ∧
      (s.pwr.held = none)) ∧
    (∃ (c : Fin 16) (p : PTrans) (k : Nat) (v : Nat) (k2 : Nat) (v2 : Nat) (l : List (Nat × Nat)) (d : List (Nat × Nat)) (s : State),
      (s.runs) ∧ (s.pwr.trans = some p) ∧ (p.plan = (k, v) :: l) ∧ (s.refuses k c.val = true) ∧ (p.stop = false) ∧ (p.back = false) ∧
      (p.done = (k2, v2) :: d) ∧ (1 ≤ k2) ∧ (k2 ≤ 7)) ∧
    (∃ (c : Fin 2) (s : State), (s.runs) ∧ (s.flag (HIF_C_STAT_EN c.val) = true) ∧ (s.apste c = true) ∧ (s.pwr.req[c] ≤ 4) ∧ (bits (s.apst
      c s.pwr.req[c]) 8 24 ≠ 0) ∧ (s.ioOut c = false) ∧ (s.ioWaits c = false)) ∧
    (∃ (c : Fin 2) (s : State), (s.runs) ∧ (s.apste c = false ∨ s.ioOut c = true ∨ s.ioWaits c = true ∨ s.flag (HIF_C_STAT_EN c.val) =
      false)) ∧
    (∃ (r : PReq) (s : State), (s.runs) ∧ (s.pwr.retry = some r) ∧ (s.pwr.tries < s.raw PWR_CTL_WAKE_TRIES)) ∧
    (∃ (r : PReq) (s : State), (s.runs) ∧ (s.pwr.retry = some r) ∧ (s.raw PWR_CTL_WAKE_TRIES ≤ s.pwr.tries)) ∧
    (∃ (s : State), (s.runs) ∧ (s.pwr.retry = none)) :=
  ⟨⟨0x0000000A#32, Rc.set THM_STAT_STATE 2, by decide +kernel⟩,
    ⟨0x00000008#32, 1, Rc, by decide +kernel⟩,
    ⟨0x00000009#32, 1, Rc, by decide +kernel⟩,
    ⟨0x0000000C#32, 1, Rc, by decide +kernel⟩,
    ⟨P0 [(3, 1)] [], 3, 1, Pt [(3, 1)] [] Rc, by decide +kernel⟩,
    ⟨P0 [(3, 1), (4, 1)] [], 3, 1, 4, 1, [], Pt [(3, 1), (4, 1)] [] Rc, by decide +kernel⟩,
    ⟨P0 [(6, 2)] [], 6, 2, [], Pt [(6, 2)] [] Rc, by decide +kernel⟩,
    ⟨1, P0 [(4, 0)] [], 4, 0, [], Pt [(4, 0)] [] Rc, by decide +kernel⟩,
    ⟨1, P0 [(4, 0)] [(6, 1)], 4, 0, 6, 1, [], [], Pt [(4, 0)] [(6, 1)] Rc, by decide +kernel⟩,
    ⟨1, Ra, by decide +kernel⟩,
    ⟨0, Rc, by decide +kernel⟩,
    ⟨Pr, modPwr (fun p => { p with retry := some Pr }) (Rc.set PWR_STATE_CUR 3), by decide +kernel⟩,
    ⟨Pr, modPwr (fun p => { p with retry := some Pr, tries := 3 }) Rc, by decide +kernel⟩,
    ⟨Rc, by decide +kernel⟩⟩

end Fam16

namespace Fam17
abbrev Rs : State := (R0.set CLK_SRC_STAT_RUN 7).on CLK_CTL_MON_EN
abbrev Rp (p : Nat) : State := (Rs.on (CLK_PLL_EN p)).on (CLK_PLL_LOCK p)
abbrev Rb : State := modClk (fun c => { c with bad := #v[true, true, true, true, true] }) Rs
abbrev T40 : Vector (BitVec 11) 12 := Vector.replicate 12 320#11
abbrev Ra : State := { R0 with cal := { run := true } }
abbrev Rc (tg : Nat) (v : Nat) : State := (((((((R0.on CAL_CTL_EN).set (CAL_LIM_LO 0) 0x200).set (CAL_LIM_HI 0) 0x1FF).set (CAL_LIM_STEP_MAX 0) 1023).set (CAL_APPLY_W0_HEAD.of .host) 3).set (CAL_APPLY_W0_TARGET.of .host) tg).set (CAL_APPLY_W0_CH.of .host) 1).set (RCH_HZ_W1_OFS0 3 0) v

theorem witness_ClockCommands :
    (∃ (p : Fin 2) (s : State), (s.runs)) ∧
    (∃ (p : Fin 2) (s : State), (s.runs) ∧ (s.flag (CLK_PLL_EN p.val) = true) ∧ (s.refRuns = true)) ∧
    (∃ (n : Fin 4) (s : State), (s.runs) ∧ (s.flag (CLK_CHSYN_EN n.val) = true) ∧ (s.refRuns = true)) ∧
    (∃ (p : Fin 2) (s : State), (s.runs) ∧ (s.flag CLK_CTL_MON_EN = true) ∧ (s.flag (CLK_PLL_LOCK p.val) = true) ∧ (s.flag CLK_CTL_POL_PLL
      = true) ∧ (s.flag (CLK_PLL_EN p.val) = true)) ∧
    (∃ (p : Fin 2) (s : State), (s.runs) ∧ (s.flag CLK_CTL_MON_EN = true) ∧ (s.flag (CLK_PLL_LOCK p.val) = true) ∧ (s.flag CLK_CTL_POL_PLL
      = false) ∧ (s.clk.failed[(1 : Fin 5)] = false)) ∧
    (∃ (n : Fin 4) (s : State), (s.runs) ∧ (s.flag (CLK_CHSYN_LOCK n.val) = true) ∧ (s.flag (WCH_CTL_WR_ACTIVE n.val) = false)) ∧
    (∃ (n : Fin 4) (s : State), (s.runs) ∧ (s.flag (CLK_CHSYN_LOCK n.val) = true) ∧ (s.flag (WCH_CTL_WR_ACTIVE n.val) = true)) ∧
    (∃ (k : Fin 5) (count : Nat) (s : State), (s.runs) ∧ (s.flag CLK_CTL_MON_EN = true) ∧ (s.clk.failed[(0 : Fin 5)] = false) ∧ (s.hif.l12
      = #v[false, false]) ∧ (s.monFails k.val count = true) ∧ (s.clk.bad[k] = false)) ∧
    (∃ (count : Nat) (s : State), (s.runs) ∧ (s.flag CLK_CTL_MON_EN = true) ∧ (s.clk.failed[(0 : Fin 5)] = false) ∧ (s.monFails 0 count =
      true) ∧ (s.clk.bad[(0 : Fin 5)] = true)) ∧
    (∃ (k : Fin 5) (count : Nat) (s : State), (s.runs) ∧ (s.flag CLK_CTL_MON_EN = true) ∧ (s.clk.failed[(0 : Fin 5)] = false) ∧
      (s.clk.failed[k] = false) ∧ (s.hif.l12 = #v[false, false]) ∧ (s.monFails k.val count = true) ∧ (s.clk.bad[k] = true) ∧ (k.val ≠ 0)) ∧
    (∃ (k : Fin 5) (count : Nat) (s : State), (s.runs) ∧ (s.flag CLK_CTL_MON_EN = false)) ∧
    (∃ (d : Fin 8) (sel : Fin 8) (s : State), (s.runs) ∧ ((muxSources d.val).contains sel.val = true) ∧ (s.clockOk d.val sel.val = false)) ∧
    (∃ (d : Fin 8) (sel : Fin 8) (s : State), (s.runs) ∧ ((muxSources d.val).contains sel.val = true) ∧ (s.clockOk d.val sel.val = true)) ∧
    (∃ (d : Fin 8) (s : State), (s.runs) ∧ (s.flag (CLK_MUX_BUSY d.val) = true) ∧ (s.clockOk d.val s.clk.cur[d] = true) ∧ (s.clockOk d.val
      (s.muxSel d.val) = true)) ∧
    (∃ (d : Fin 8) (s : State), (s.runs) ∧ (s.clockOk d.val s.clk.cur[d] = false)) ∧
    (∃ (v : BitVec 8) (s : State), (s.runs)) ∧
    (∃ (i : Fin 24) (s : State), (s.runs) ∧ (neverGated i.val = false)) ∧
    (∃ (i : Fin 24) (s : State), (s.runs) ∧ (neverGated i.val = true)) ∧
    (∃ (v : BitVec 24) (s : State), (s.runs)) :=
  ⟨⟨1, R0, by decide +kernel⟩,
    ⟨1, Rs.on (CLK_PLL_EN 1), by decide +kernel⟩,
    ⟨3, Rs.on (CLK_CHSYN_EN 3), by decide +kernel⟩,
    ⟨1, (Rp 1).on CLK_CTL_POL_PLL, by decide +kernel⟩,
    ⟨1, (((Rp 1).off CLK_CTL_POL_PLL).set (CLK_MUX_SEL 0) 1).on (CLK_MUX_BUSY 0), by decide +kernel⟩,
    ⟨2, Rs.on (CLK_CHSYN_LOCK 2), by decide +kernel⟩,
    ⟨2, (Rs.on (CLK_CHSYN_LOCK 2)).on (WCH_CTL_WR_ACTIVE 2), by decide +kernel⟩,
    ⟨4, 0, Rs, by decide +kernel⟩,
    ⟨0, Rb, by decide +kernel⟩,
    ⟨4, 0, Rb.on (HIF_PORT_LINK_UP 1), by decide +kernel⟩,
    ⟨2, 0, Rb.off CLK_CTL_MON_EN, by decide +kernel⟩,
    ⟨0, 1, Rs, by decide +kernel⟩,
    ⟨0, 1, Rs.set CLK_SRC_STAT_LOCK 1, by decide +kernel⟩,
    ⟨0, ((Rs.set CLK_SRC_STAT_LOCK 1).on (CLK_MUX_BUSY 0)).set (CLK_MUX_SEL 0) 1, by decide +kernel⟩,
    ⟨0, (R0.on (CLK_MUX_BUSY 0)).set CLK_SRC_STAT_RUN 0, by decide +kernel⟩,
    ⟨0xFF#8, (R0.on (CLK_MUX_BUSY 0)).set (CLK_MUX_SEL 0) 1, by decide +kernel⟩,
    ⟨3, R0.set CLK_GATE_STAT_BLK 0xFFFFFF, by decide +kernel⟩,
    ⟨0, R0.set CLK_GATE_STAT_BLK 0xFFFFFF, by decide +kernel⟩,
    ⟨0xFFFFFF#24, R0.set CLK_GATE_STAT_BLK 0xFFFFFF, by decide +kernel⟩⟩

theorem witness_ThermalCommands :
    (∃ (T : Vector (BitVec 11) 12) (ro : BitVec 11) (s : State), (s.runs) ∧ (s.flag THM_CTL_EN = false) ∧ ((∀ k : Fin 12, (T[k]).toInt <
      (s.raw THM_LIM_CRIT_C : Int) * 8)) ∧ (ro.toInt + 8 * (s.raw THM_RISE_RO_MARGIN) < (s.raw THM_LIM_CRIT_C : Int) * 8)) ∧
    (∃ (T : Vector (BitVec 11) 12) (ro : BitVec 11) (s : State), (s.runs) ∧ (s.flag THM_CTL_DIODE = false) ∧ (s.flag THM_CTL_EN = false) ∧
      (ro.toInt + 8 * (s.raw THM_RISE_RO_MARGIN) < (s.raw THM_LIM_CRIT_C : Int) * 8)) ∧
    (∃ (T : Vector (BitVec 11) 12) (ro : BitVec 11) (s : State), (s.runs) ∧ (s.flag THM_CTL_DIODE = false) ∧ ((s.raw THM_LIM_CRIT_C : Int)
      * 8 ≤ ro.toInt)) ∧
    (∃ (T : Vector (BitVec 11) 12) (ro : BitVec 11) (s : State), (s.runs) ∧ (s.flag THM_CTL_DIODE = false) ∧ (s.flag THM_CTL_EN = true) ∧
      (ro.toInt < (s.raw THM_LIM_CRIT_C : Int) * 8 - 8 * (s.raw THM_RISE_RO_MARGIN)) ∧ ((s.raw THM_LIM_STOP_C : Int) * 8 ≤ ro.toInt) ∧
      (s.flag THM_STAT_STOP = false) ∧ (s.raw THM_STAT_STATE = 0) ∧ (s.pwr.trans = none) ∧ ((∀ k : Fin 7, s.pwr.lvl[k] = 0))) ∧
    (∃ (s : State), (s.runs) ∧ (s.raw THM_STAT_STATE = 2) ∧ (s.geti THM_TMAX_TMAX ≤ s.thmLimit THM_LIM_RESUME_C)) ∧
    (∃ (s : State), (s.runs) ∧ (s.raw THM_STAT_STATE ≠ 2 ∨ s.thmLimit THM_LIM_RESUME_C < s.geti THM_TMAX_TMAX)) ∧
    (∃ (s : State), (s.runs) ∧ (s.flag THM_CTL_AUTO_RESUME = true) ∧ (s.raw THM_STAT_STATE = 2) ∧ (s.geti THM_TMAX_TMAX ≤ s.thmLimit
      THM_LIM_RESUME_C)) ∧
    (∃ (s : State), (s.runs) ∧ (s.flag THM_CTL_AUTO_RESUME = false)) :=
  ⟨⟨T40, 300#11, R0.off THM_CTL_EN, by decide +kernel⟩,
    ⟨T40, 300#11, (R0.off THM_CTL_EN).off THM_CTL_DIODE, by decide +kernel⟩,
    ⟨T40, 1000#11, (R0.off THM_CTL_DIODE).set ACT_STAT_STATE_B 3, by decide +kernel⟩,
    ⟨T40, 680#11, (((R0.off THM_CTL_DIODE).on THM_CTL_EN).set THM_LIM_STOP_C 70).set THM_LIM_CRIT_C 100, by decide +kernel⟩,
    ⟨(R0.set THM_STAT_STATE 2).set THM_TMAX_TMAX 100, by decide +kernel⟩,
    ⟨R0, by decide +kernel⟩,
    ⟨((R0.set THM_STAT_STATE 2).set THM_TMAX_TMAX 100).on THM_CTL_AUTO_RESUME, by decide +kernel⟩,
    ⟨((R0.set THM_STAT_STATE 2).set THM_TMAX_TMAX 100).off THM_CTL_AUTO_RESUME, by decide +kernel⟩⟩

theorem witness_CalibrationCommands :
    (∃ (s : State), (s.runs) ∧ (s.flag CAL_CTL_EN = true)) ∧
    (∃ (s : State), (s.runs) ∧ (s.flag CAL_CTL_EN = false)) ∧
    (∃ (v : Word) (i : Fin 5) (h : Fin 20) (s : State), (s.runs) ∧ (bits v.toNat 24 3 = i.val) ∧ (bits v.toNat 16 5 = h.val)) ∧
    (∃ (v : Word) (s : State), (s.runs)) ∧
    (∃ (span : List (BitVec 6)) (held : Nat) (s : State), (s.runs) ∧ (s.cal.run = true) ∧ (s.flag CAL_ACC_CTL_SRC = false) ∧ (span.length ≤
      2 ^ s.get CAL_ACC_CTL_LOG2N) ∧ (span.length < 2 ^ 20)) ∧
    (∃ (span : List (BitVec 6)) (held : Nat) (s : State), (s.runs) ∧ (s.cal.run = false)) ∧
    (∃ (r : Req) (w1 : Word) (g : CalTarget) (s : State), (s.runs) ∧ (s.flag CAL_CTL_EN = true) ∧ (s.calTarget r = some g) ∧ (s.calCheck r
      g (sgn 10 (bits w1.toNat 0 10)) = 0) ∧ (g.active = none ∨ s.calActive r = false)) ∧
    (∃ (r : Req) (w1 : Word) (g : CalTarget) (f : Fld) (s : State), (s.runs) ∧ (s.flag CAL_CTL_EN = true) ∧ (s.calTarget r = some g) ∧
      (s.calCheck r g (sgn 10 (bits w1.toNat 0 10)) = 0) ∧ (g.active = some f) ∧ (s.calActive r = true)) ∧
    (∃ (r : Req) (w1 : Word) (g : CalTarget) (s : State), (s.runs) ∧ (s.flag CAL_CTL_EN = true) ∧ (s.calTarget r = some g) ∧ (s.calCheck r
      g (sgn 10 (bits w1.toNat 0 10)) ≠ 0) ∧ (s.raw (CAL_LAST_FAILS (s.raw (CAL_APPLY_W0_HEAD.of r)) g.item) + 1 < s.get CAL_CTL_MAXFAIL)) ∧
    (∃ (r : Req) (w1 : Word) (g : CalTarget) (s : State), (s.runs) ∧ (s.flag CAL_CTL_EN = true) ∧ (s.calTarget r = some g) ∧ (s.calCheck r
      g (sgn 10 (bits w1.toNat 0 10)) ≠ 0) ∧ (s.get CAL_CTL_MAXFAIL ≤ s.raw (CAL_LAST_FAILS (s.raw (CAL_APPLY_W0_HEAD.of r)) g.item) + 1)) ∧
    (∃ (r : Req) (w1 : Word) (s : State), (s.runs) ∧ (s.flag CAL_CTL_EN = false)) :=
  ⟨⟨R0.on CAL_CTL_EN, by decide +kernel⟩,
    ⟨R0.off CAL_CTL_EN, by decide +kernel⟩,
    ⟨0x04130000#32, 4, 19, (R0.set (CAL_ITEM_DUE 4) 0xFFFFF).set THM_TMAX_TMAX 77, by decide +kernel⟩,
    ⟨0x04130000#32, R0.set CAL_ACC_CNT_VALUE 7, by decide +kernel⟩,
    ⟨[1#6, 63#6, 32#6, 31#6], 0, Ra.set CAL_ACC_CTL_LOG2N 10, by decide +kernel⟩,
    ⟨[1#6], 0, R0, by decide +kernel⟩,
    ⟨.host, 0xFFFFFFFB#32, ⟨0, true, RCH_HZ_W1_OFS0 3 0, some (RCH_ACT_W1_OFS0 1)⟩, Rc 0 3, by decide +kernel⟩,
    ⟨.host, 0xFFFFFFFB#32, ⟨0, true, RCH_HZ_W1_OFS0 3 0, some (RCH_ACT_W1_OFS0 1)⟩, RCH_ACT_W1_OFS0 1, { ((Rc 0 3).on (RCH_SEL_READY 1)).set (RCH_SEL_HEAD 1) 3 with inv := { R0.inv with quiet := #v[true, true, true, true] } }, by decide +kernel⟩,
    ⟨.host, 0xFFFFFFFB#32, ⟨0, true, RCH_HZ_W1_OFS0 3 0, some (RCH_ACT_W1_OFS0 1)⟩, (Rc 0 3).set (CAL_LIM_STEP_MAX 0) 2, by decide +kernel⟩,
    ⟨.host, 0xFFFFFFFB#32, ⟨0, true, RCH_HZ_W1_OFS0 3 0, some (RCH_ACT_W1_OFS0 1)⟩, ((Rc 0 3).set (CAL_LIM_STEP_MAX 0) 2).set (CAL_LAST_FAILS 3 0) 7, by decide +kernel⟩,
    ⟨.host, 0xFFFFFFFB#32, R0, by decide +kernel⟩⟩

end Fam17

namespace Fam18
abbrev Ra : State := ((R0.on ASY_CTL_EN).set ASY_CTL_DUTY 5).set ASY_SEL_TEN 0x1FF
abbrev Rx (n : Nat) : State := setStep (some { test := n, unit := 3, detail := 4 }) Ra
abbrev Rr (v : Bool) : PRec := { opsec := 3, pcc := 1, trig := 7, early := true, vault := v, since := true, rep := 2, detail := 9, vals := [] }
abbrev Rp (v : Bool) : State := { R0 with pat := { R0.pat with queue := [(7, 9), (1, 2)], ring := [(0, some (Rr v))] } }
abbrev Rv : State := { (((R0.on PAT_CTL_VAULT_EN).on VLT_CTL_EN).set PAT_STAT_NEWEST 129).set PAT_STAT_UNSAVED 130 with pat := { R0.pat with ring := (List.range 130).map fun i => (i, some (Rr false)) } }
abbrev Rd : State := { R0 with pins := { R0.pins with devrst := true } }

theorem witness_AssayCommands :
    (∃ (n : Fin 16) (u : BitVec 8) (d : BitVec 16) (s : State), (s.runs) ∧ (s.inv.wall < s.asy.since + s.get ASY_CFG_WINDOW_S * 1000000000)
      ∧ (s.asyMay = true) ∧ (s.bit ASY_SEL_TEN n.val = true) ∧ (n.val ≤ 8) ∧ (s.asyCond
      { test := n.val, unit := u.toNat, detail := d.toNat } = true)) ∧
    (∃ (n : Fin 16) (u : BitVec 8) (d : BitVec 16) (s : State), (s.runs) ∧ (s.inv.wall < s.asy.since + s.get ASY_CFG_WINDOW_S * 1000000000)
      ∧ (s.asyMay = true) ∧ (s.bit ASY_SEL_TEN n.val = true) ∧ (n.val ≤ 8) ∧ (s.asyCond
      { test := n.val, unit := u.toNat, detail := d.toNat } = false)) ∧
    (∃ (n : Fin 16) (u : BitVec 8) (d : BitVec 16) (s : State), (s.runs) ∧ (s.inv.wall < s.asy.since + s.get ASY_CFG_WINDOW_S * 1000000000)
      ∧ (s.asyMay = false ∨ s.bit ASY_SEL_TEN n.val = false)) ∧
    (∃ (unit : Nat) (detail : Nat) (us : Nat) (x : AStep) (s : State), (s.runs) ∧ (s.asy.step = some x)) ∧
    (∃ (unit : Nat) (detail : Nat) (us : Nat) (x : AStep) (s : State), (s.runs) ∧ (s.asy.step = some x)) ∧
    (∃ (p : Bool) (unit : Nat) (detail : Nat) (us : Nat) (s : State), (s.runs) ∧ (s.asy.step = none)) ∧
    (∃ (time : Nat) (us : Nat) (x : AStep) (s : State), (s.runs) ∧ (s.asy.step = some x)) ∧
    (∃ (time : Nat) (us : Nat) (s : State), (s.runs) ∧ (s.asy.step = none)) ∧
    (∃ (v : Fin 4) (a : Fin 2) (s : State), (s.runs) ∧ (bitOf v.val a.val = true) ∧ (s.bit ASY_CHSUB_SUB a.val = false) ∧ (s.subOk a =
      false)) ∧
    (∃ (v : Fin 4) (s : State), (s.runs) ∧ ((∀ a : Fin 2, bitOf v.val a.val = true → s.bit ASY_CHSUB_SUB a.val = false → s.subOk a =
      true))) ∧
    (∃ (s : State), (s.runs) ∧ (s.asy.since + s.get ASY_CFG_WINDOW_S * 1000000000 ≤ s.inv.wall)) :=
  ⟨⟨4, 7#8, 9#16, Ra, by decide +kernel⟩,
    ⟨8, 7#8, 9#16, Ra, by decide +kernel⟩,
    ⟨8, 7#8, 9#16, R0, by decide +kernel⟩,
    ⟨300, 70000, 55, { test := 0, unit := 3, detail := 4 }, Rx 0, by decide +kernel⟩,
    ⟨3, 70000, 55, { test := 2, unit := 3, detail := 4 }, Rx 2, by decide +kernel⟩,
    ⟨true, 16, 70000, 55, R0, by decide +kernel⟩,
    ⟨70000, 55, { test := 3, unit := 3, detail := 4 }, Rx 3, by decide +kernel⟩,
    ⟨70000, 55, R0, by decide +kernel⟩,
    ⟨2, 1, modWch 3 (fun c => c) (R0.on (WCH_CTL_WR_ACTIVE 3)), by decide +kernel⟩,
    ⟨1, (R0.set ASY_CHSUB_SUB 2).set RCH_XBAR_SRC 8, by decide +kernel⟩,
    ⟨{ Ra with inv := { Ra.inv with wall := 10 ^ 13 } }, by decide +kernel⟩⟩

theorem witness_PatinaCommands :
    (∃ (x : Nat) (d : Nat) (l : List (Nat × Nat)) (r : PRec) (s : State), (s.patLive = true) ∧ (s.pat.queue = (x, d) :: l) ∧ (s.recAt
      (s.raw PAT_STAT_NEWEST) = some r) ∧ (r.merges x (d % 2 ^ 32) = true)) ∧
    (∃ (x : Nat) (d : Nat) (l : List (Nat × Nat)) (s : State), (s.patLive = true) ∧ (s.pat.queue = (x, d) :: l) ∧ ((∀ r, s.recAt (s.raw
      PAT_STAT_NEWEST) = some r → r.merges x (d % 2 ^ 32) = false))) ∧
    (∃ (s : State), (s.pat.queue = [])) ∧
    (∃ (d : BitVec 24) (s : State), (s.runs) ∧ (s.bit (PAT_TEN_EN 0) 0 = true) ∧ (s.pat.queue.length < 16)) ∧
    (∃ (d : BitVec 24) (s : State), (s.runs) ∧ (s.bit (PAT_TEN_EN 0) 0 = true) ∧ (16 ≤ s.pat.queue.length)) ∧
    (∃ (d : BitVec 24) (s : State), (s.runs) ∧ (s.bit (PAT_TEN_EN 0) 0 = false)) ∧
    (∃ (f : Bool) (s : State), (s.runs) ∧ (s.patMayCopy = true) ∧ (128 ≤ s.unsaved.length)) ∧
    (∃ (f : Bool) (s : State), (s.runs) ∧ (s.patMayCopy = false ∨ s.unsaved.length < 128)) ∧
    (∃ (hi : Byte) (s : State), (s.runs)) :=
  ⟨⟨7, 9, [(1, 2)], Rr false, Rp false, by decide +kernel⟩,
    ⟨7, 9, [(1, 2)], Rp true, by decide +kernel⟩,
    ⟨R0, by decide +kernel⟩,
    ⟨0x123456#24, (Rp false).on (PAT_TEN_EN 0), by decide +kernel⟩,
    ⟨0x123456#24, { R0.on (PAT_TEN_EN 0) with pat := { R0.pat with queue := List.replicate 16 (1, 2) } }, by decide +kernel⟩,
    ⟨0x123456#24, R0.off (PAT_TEN_EN 0), by decide +kernel⟩,
    ⟨true, Rv, by
      have h : Rv.raw PAT_STAT_NEWEST = 129 := by decide +kernel
      refine ⟨by decide +kernel, by decide +kernel, ?_⟩
      unfold State.unsaved
      rw [h]
      decide +kernel⟩,
    ⟨true, R0, by decide +kernel⟩,
    ⟨0x12#8, (Rp false).set PAT_OPSEC_LO_SEC 77, by decide +kernel⟩⟩

theorem witness_TapCommands :
    (∃ (s : State), (s.die.phase ≠ .off)) ∧
    (∃ (s : State), (s.die.phase ≠ .off)) ∧
    (∃ (balls : Nat) (s : State), (s.die.phase ≠ .off)) ∧
    (∃ (s : State), (s.die.phase ≠ .off) ∧ (s.pins.devrst = true)) ∧
    (∃ (s : State), (s.die.phase ≠ .off) ∧ (s.pins.devrst = true)) ∧
    (∃ (s : State), (s.die.phase ≠ .off) ∧ (s.pins.devrst = true)) ∧
    (∃ (s : State), (s.die.phase ≠ .off) ∧ (s.pins.devrst = false)) ∧
    (∃ (s : State), (s.die.phase ≠ .off) ∧ (s.pins.devrst = false)) ∧
    (∃ (s : State), (s.die.phase ≠ .off) ∧ (s.pins.devrst = false)) ∧
    (∃ (s : State), (s.die.phase ≠ .off)) :=
  ⟨⟨R0, by decide +kernel⟩,
    ⟨R0, by decide +kernel⟩,
    ⟨5, R0, by decide +kernel⟩,
    ⟨Rd, by decide +kernel⟩,
    ⟨Rd, by decide +kernel⟩,
    ⟨Rd, by decide +kernel⟩,
    ⟨R0, by decide +kernel⟩,
    ⟨R0, by decide +kernel⟩,
    ⟨R0, by decide +kernel⟩,
    ⟨R0, by decide +kernel⟩⟩

end Fam18

namespace Fam19
abbrev Rt : State := (((R0.on SLD_CTL_EN).on SYS_STRAP_FABRIC_EN).set SLD_TOPO_XDIM_M1 3).set SLD_TOPO_YDIM_M1 3
abbrev Rs (n st : Nat) : State := (Rt.on (SLD_P_CTL_EN n)).set (SLD_P_STAT_STATE n) st
abbrev Ru : State := ((((Rt.set (SLD_P_STAT_STATE 0) 4).set (SLD_P_STAT_STATE 1) 4).set (SLD_P_STAT_STATE 2) 4).set (SLD_P_STAT_STATE 3) 4)
abbrev K (d : Nat) : Pkt := { dst := d, src := 7, vc := 0, tag := 5, body := .mbResp 0 9 }
abbrev Rr (n : Nat) (s : State) : State := modPort 2 (fun v => { v with replay := [(3, K 2), (4, K 3)], tx := 5, replays := n }) s
abbrev G : Rx := { lseq := 0, corr := 2, crcBad := false, frameBad := false }
abbrev Rc : State := ((Ru.set ((SLD_CP_W 0).of .host) 0x11000002).set ((SLD_CP_W 1).of .host) 7).on (XLT_NS_CFG_EN 0)
abbrev Sc (e : Bool) (n cr : Nat) : SrcCopy := { id := 9, tag := 77, node := 2, ns := 1, chunk := 7, comp := false, credits := cr, next := n, oks := [], resends := [], snap := [], ended := e }
abbrev Rsrc (e : Bool) (n cr : Nat) : State := modSld (fun v => { v with srcs := [Sc e n cr] }) Rc
def mkImg (desc : Bool) (idx v : Nat) : Nat := putBits v (crcPos desc) 16 (crc16 (putBits v (crcPos desc) 16 0) (imageLen desc) idx)
def recHead (js cnt : Nat) : List Byte := leBytes js 4 ++ leBytes cnt 2 ++ leBytes 0 2 ++ leBytes 9 5 ++ List.replicate 3 0 ++ leBytes 1 4 ++ leBytes 1 4 ++ List.replicate 4 0
def recEnt : List Byte := leBytes (2 * 2^30 + 5) 4 ++ List.replicate 44 0
abbrev Dc (ok : List Nat) : DstCopy := { node := 2, id := 5, ns := 1, chunk := 0, band := 6, oks := ok, got := [], last := [], resends := [] }
abbrev Rd (c : DstCopy) : State := modSld (fun v => { v with dsts := [c] }) (Rc.set (XLT_NS_CFG_CHUNKS 0) 8)
abbrev Dp (n : Nat) : DstCopy := { Dc [3] with got := [(4, 1)], resends := [(4, n)] }
abbrev Rm : State := modSld (fun v => { v with mb := [(22, 5)], mbTag := 6 }) Ru

theorem witness_SolderPortCommands :
    (∃ (p : Fin 4) (s : State), (s.runs) ∧ (s.portMay p = true) ∧ (s.raw (SLD_P_STAT_STATE p.val) = slpDisabled)) ∧
    (∃ (p : Fin 4) (s : State), (s.runs) ∧ (s.portMay p = false ∨ s.raw (SLD_P_STAT_STATE p.val) ≠ slpDisabled)) ∧
    (∃ (p : Fin 4) (s : State), (s.runs) ∧ (s.raw (SLD_P_STAT_STATE p.val) = slpTrain)) ∧
    (∃ (p : Fin 4) (s : State), (s.runs) ∧ (s.raw (SLD_P_STAT_STATE p.val) = slpAlign)) ∧
    (∃ (p : Fin 4) (s : State), (s.runs) ∧ (s.raw (SLD_P_STAT_STATE p.val) = slpHello)) ∧
    (∃ (p : Fin 4) (s : State), (s.runs) ∧ (s.raw (SLD_P_STAT_STATE p.val) = slpDown)) ∧
    (∃ (p : Fin 4) (s : State), (s.runs) ∧ (s.raw (SLD_P_STAT_STATE p.val) = slpUp)) ∧
    (∃ (p : Fin 4) (x : Fin 32) (y : Fin 16) (n : Fin 512) (s : State), (s.runs) ∧ (s.raw (SLD_P_STAT_STATE p.val) = slpHello) ∧ (n.val =
      s.peerNode p) ∧ (x.val + 1 = s.xdim) ∧ (y.val + 1 = s.ydim)) ∧
    (∃ (p : Fin 4) (b : Fin 4) (x : Fin 32) (y : Fin 16) (n : Fin 512) (s : State), (s.runs) ∧ (s.raw (SLD_P_STAT_STATE p.val) = slpHello)
      ∧ (n.val ≠ s.peerNode p ∨ b.val ≠ peerPort p ∨ x.val + 1 ≠ s.xdim ∨ y.val + 1 ≠ s.ydim)) ∧
    (∃ (p : Fin 4) (unc : Nat) (s : State), (s.runs) ∧ (s.raw (SLD_P_STAT_STATE p.val) = slpUp)) ∧
    (∃ (p : Fin 4) (unc : Nat) (s : State), (s.runs) ∧ (s.raw (SLD_P_STAT_STATE p.val) ≠ slpUp)) ∧
    (∃ (p : Fin 4) (s : State), (s.runs)) :=
  ⟨⟨3, Rs 3 0, by decide +kernel⟩,
    ⟨3, R0, by decide +kernel⟩,
    ⟨3, Rs 3 1, by decide +kernel⟩,
    ⟨3, Rs 3 2, by decide +kernel⟩,
    ⟨3, Rs 3 3, by decide +kernel⟩,
    ⟨3, Rs 3 5, by decide +kernel⟩,
    ⟨3, Rs 3 4, by decide +kernel⟩,
    ⟨3, 3, 3, 96, Rs 3 3, by decide +kernel⟩,
    ⟨3, 0, 3, 3, 96, Rs 3 3, by decide +kernel⟩,
    ⟨2, 9, Rr 0 Ru, by decide +kernel⟩,
    ⟨2, 9, R0, by decide +kernel⟩,
    ⟨2, Rr 0 Ru, by decide +kernel⟩⟩

theorem witness_SolderLinkCommands :
    (∃ (p : Fin 4) (q : Fin 4) (r : Rx) (k : Pkt) (vc : Nat) (s : State), (s.runs) ∧ (s.rxGood p r) ∧ (k.dst ≠ s.node) ∧ (k.src ≠ s.node) ∧
      (s.leavesBy (some p) k q vc)) ∧
    (∃ (p : Fin 4) (r : Rx) (k : Pkt) (s : State), (s.runs) ∧ (s.rxGood p r) ∧ (k.dst ≠ s.node) ∧ (k.src ≠ s.node) ∧ (s.route (some p) k =
      none) ∧ (s.unreach k = none) ∧ ((∀ i : Fin 4, (s.sld.ports[i]).queue = []))) ∧
    (∃ (p : Fin 4) (r : Rx) (k : Pkt) (s : State), (s.runs) ∧ (s.rxGood p r)) ∧
    (∃ (p : Fin 4) (r : Rx) (k : Pkt) (s : State), (s.runs) ∧ (s.portUp p = true) ∧ (r.frameBad = false) ∧ (r.crcBad = true) ∧ (k.dst ≠
      s.node)) ∧
    (∃ (p : Fin 4) (r : Rx) (k : Pkt) (s : State), (s.runs) ∧ (s.portUp p = true) ∧ (r.frameBad = false) ∧ (r.crcBad = false) ∧ (r.lseq ≠
      (s.sld.ports[p]).rx) ∧ (k.dst ≠ s.node)) ∧
    (∃ (p : Fin 4) (r : Rx) (next : Fin 256) (s : State), (s.runs) ∧ (s.portUp p = true) ∧ (r.frameBad = false) ∧ (r.crcBad = false) ∧
      ((s.sld.ports[p]).queue = [])) ∧
    (∃ (p : Fin 4) (r : Rx) (next : Fin 256) (s : State), (s.runs) ∧ (s.portUp p = true) ∧ (r.frameBad = false) ∧ (r.crcBad = false) ∧
      ((s.sld.ports[p]).queue = []) ∧ ((s.sld.ports[p]).replays < 3) ∧ ((s.sld.ports[p]).unacked next.val ≠ [])) ∧
    (∃ (p : Fin 4) (s : State), (s.runs) ∧ (s.portUp p = true)) ∧
    (∃ (p : Fin 4) (s : State), (s.runs) ∧ (s.portUp p = true) ∧ ((s.sld.ports[p]).replay ≠ []) ∧ ((s.sld.ports[p]).replays < 3)) ∧
    (∃ (p : Fin 4) (s : State), (s.runs) ∧ (s.portUp p = true) ∧ ((s.sld.ports[p]).replay ≠ []) ∧ (3 ≤ (s.sld.ports[p]).replays)) ∧
    (∃ (p : Fin 4) (r : Rx) (next : Fin 256) (b : Bool) (s : State), (s.runs) ∧ (s.portUp p = false)) ∧
    (∃ (s : State), (s.runs)) :=
  ⟨⟨1, 2, G, K 32, 0, Ru, by decide +kernel⟩,
    ⟨1, G, K 32, Rs 1 4, by decide +kernel⟩,
    ⟨1, G, K 32, Rs 1 4, by decide +kernel⟩,
    ⟨1, { G with crcBad := true }, K 32, Rs 1 4, by decide +kernel⟩,
    ⟨1, { G with lseq := 4 }, K 32, Rs 1 4, by decide +kernel⟩,
    ⟨2, { G with lseq := 4 }, 4, Rr 2 Ru, by decide +kernel⟩,
    ⟨2, { G with lseq := 4 }, 4, Rr 2 Ru, by decide +kernel⟩,
    ⟨2, Rr 2 Ru, by decide +kernel⟩,
    ⟨2, Rr 2 Ru, by decide +kernel⟩,
    ⟨2, Rr 3 Ru, by decide +kernel⟩,
    ⟨2, G, 4, true, R0, by decide +kernel⟩,
    ⟨modSld (fun v => { v with rxq := [default, default] }) R0, by decide +kernel⟩⟩

theorem witness_ZoneCopyCommands :
    (∃ (r : Req) (w3 : Word) (s : State), (s.runs) ∧ (s.sldOn = false ∨ bits (s.raw ((SLD_CP_W 0).of r)) 0 9 = s.node)) ∧
    (∃ (r : Req) (w3 : Word) (s : State), (s.runs) ∧ (s.sldOn = true) ∧ (bits (s.raw ((SLD_CP_W 0).of r)) 0 9 ≠ s.node) ∧ (4 ≤
      s.sld.srcs.length)) ∧
    (∃ (r : Req) (w3 : Word) (s : State), (s.runs) ∧ (s.sldOn = true) ∧ (bits (s.raw ((SLD_CP_W 0).of r)) 0 9 ≠ s.node) ∧
      (s.sld.srcs.length < 4) ∧ (s.nsOk (bits (s.raw ((SLD_CP_W 0).of r)) 24 4) = false)) ∧
    (∃ (r : Req) (w3 : Word) (s : State), (s.runs) ∧ (s.sldOn = true) ∧ (bits (s.raw ((SLD_CP_W 0).of r)) 0 9 ≠ s.node) ∧
      (s.sld.srcs.length < 4) ∧ (s.nsOk (bits (s.raw ((SLD_CP_W 0).of r)) 24 4) = true) ∧ (s.nsZoned (bits (s.raw ((SLD_CP_W 0).of r)) 24
      4) = false) ∧ (s.copyPower = false)) ∧
    (∃ (r : Req) (w3 : Word) (q : Fin 4) (vc : Nat) (s : State), (s.runs) ∧ (s.sldOn = true) ∧ (bits (s.raw ((SLD_CP_W 0).of r)) 0 9 ≠
      s.node) ∧ (s.sld.srcs.length < 4) ∧ (s.nsOk (bits (s.raw ((SLD_CP_W 0).of r)) 24 4) = true) ∧ (s.nsZoned (bits (s.raw ((SLD_CP_W
      0).of r)) 24 4) = false) ∧ (s.copyPower = true) ∧ (s.leavesBy none (s.mkPkt (bits (s.raw ((SLD_CP_W 0).of r)) 0 9) 0 (.mbResp 0 0)) q
      vc)) ∧
    (∃ (p : Fin 4) (r : Rx) (src : Fin 512) (id : Fin 256) (ns : Fin 16) (chunk : BitVec 19) (md : BitVec 8) (band : Nat) (s : State),
      (s.runs) ∧ (s.rxGood p r) ∧ ((copyAccept ns.val chunk.toNat md.toNat (rxTake p r s).1).2 = true) ∧ (((copyAccept ns.val chunk.toNat
      md.toNat (rxTake p r s).1).1.band band).type = bandFree)) ∧
    (∃ (p : Fin 4) (r : Rx) (src : Fin 512) (id : Fin 256) (ns : Fin 16) (chunk : BitVec 19) (md : BitVec 8) (band : Nat) (s : State),
      (s.runs) ∧ (s.rxGood p r) ∧ (4 ≤ s.sld.dsts.length ∨ s.nsOk ns.val = false ∨ s.copyPower = false)) ∧
    (∃ (p : Fin 4) (r : Rx) (src : Fin 512) (id : Fin 256) (piece : Fin 32) (c : DstCopy) (s : State), (s.runs) ∧ (s.rxGood p r) ∧ (s.dstOf
      src.val id.val = some c) ∧ (c.oks.contains piece.val = false) ∧ (c.got = []) ∧ (c.last = [])) ∧
    (∃ (p : Fin 4) (r : Rx) (src : Fin 512) (id : Fin 256) (piece : Fin 32) (c : DstCopy) (s : State), (s.runs) ∧ (s.rxGood p r) ∧ (s.dstOf
      src.val id.val = some c) ∧ (c.oks.contains piece.val = false) ∧ (c.got = []) ∧ (c.last = [])) ∧
    (∃ (p : Fin 4) (r : Rx) (src : Fin 512) (id : Fin 256) (d : BitVec 256) (own : BitVec 256) (addr : Nat) (c : DstCopy) (s : State),
      (s.runs) ∧ (s.rxGood p r) ∧ (s.dstOf src.val id.val = some c) ∧ (d ≠ own)) ∧
    (∃ (p : Fin 4) (r : Rx) (src : Fin 512) (id : Fin 256) (d : BitVec 256) (addr : Nat) (c : DstCopy) (s : State), (s.runs) ∧ (s.rxGood p
      r) ∧ (s.dstOf src.val id.val = some c) ∧ (c.oks.length = 32) ∧ ((roleRecord addr (rxTake p r s).1).2 = true)) ∧
    (∃ (p : Fin 4) (r : Rx) (src : Fin 512) (id : Fin 256) (ans : CopyAns) (data : List (List Nat)) (dg : Nat) (st : Nat) (c : SrcCopy) (s
      : State), (s.runs) ∧ (s.rxGood p r) ∧ (s.sld.srcs.find? (fun x => x.id == id.val) = some c) ∧ (src.val = c.node) ∧ (c.ended = true) ∧
      ((ans, st) = (.done, 0) ∨ (ans, st) = (.mismatch, 1) ∨ (ans, st) = (.unreach, 2) ∨ (ans, st) = (.refused, 3) ∨ (ans, st) = (.aborted,
      7))) ∧
    (∃ (p : Fin 4) (r : Rx) (src : Fin 512) (id : Fin 256) (dg : Nat) (c : SrcCopy) (s : State), (s.runs) ∧ (s.rxGood p r) ∧
      (s.sld.srcs.find? (fun x => x.id == id.val) = some c) ∧ (src.val = c.node) ∧ (c.next = 0) ∧ (c.credits = 0)) ∧
    (∃ (src : Fin 512) (id : Fin 256) (piece : Fin 32) (c : DstCopy) (s : State), (s.runs) ∧ (s.dstOf src.val id.val = some c) ∧ (c.got.any
      (fun e => e.1 == piece.val) = true) ∧ (tabLook 0 c.resends piece.val < 3)) ∧
    (∃ (src : Fin 512) (id : Fin 256) (piece : Fin 32) (c : DstCopy) (s : State), (s.runs) ∧ (s.dstOf src.val id.val = some c) ∧ (c.got.any
      (fun e => e.1 == piece.val) = true) ∧ (tabLook 0 c.resends piece.val = 3)) ∧
    (∃ (src : Fin 512) (id : Fin 256) (piece : Fin 32) (s : State), (s.runs) ∧ (s.dstOf src.val id.val = none)) ∧
    (∃ (id : Fin 256) (c : SrcCopy) (s : State), (s.runs) ∧ (s.sld.srcs.find? (fun x => x.id == id.val) = some c)) ∧
    (∃ (src : Fin 512) (id : Fin 256) (s : State), (s.runs)) ∧
    (∃ (s : State), (s.runs)) :=
  ⟨⟨.host, 9#32, R0, by decide +kernel⟩,
    ⟨.host, 9#32, modSld (fun v => { v with srcs := [Sc true 0 0, Sc true 0 0, Sc true 0 0, Sc true 0 0] }) Rc, by decide +kernel⟩,
    ⟨.host, 9#32, Rc.off (XLT_NS_CFG_EN 0), by decide +kernel⟩,
    ⟨.host, 9#32, Rc.set PWR_STATE_CUR 2, by decide +kernel⟩,
    ⟨.host, 9#32, 0, 0, Rsrc true 0 0, by decide +kernel⟩,
    ⟨1, G, 2, 5, 1, 0#19, 0#8, 6, mapWrite (imageOfs false 0) (mkImg false 0 5) 16 ((Rc.set (XLT_NS_CFG_CHUNKS 0) 8).on XLT_CFG_EN), by decide +kernel⟩,
    ⟨1, G, 2, 5, 1, 0#19, 0#8, 6, Ru, by decide +kernel⟩,
    ⟨1, G, 2, 5, 31, Dc [3], Rd (Dc [3]), by decide +kernel⟩,
    ⟨1, G, 2, 5, 31, Dc [3], Rd (Dc [3]), by decide +kernel⟩,
    ⟨1, G, 2, 5, 1#256, 2#256, 0, Dc [3], Rd (Dc [3]), by decide +kernel⟩,
    ⟨1, G, 2, 5, 1#256, 2 ^ 20, Dc (List.range 32), ((Rd (Dc (List.range 32))).on XLT_CFG_EN).dramWrite (2 ^ 26) (recHead 1 1 ++ leBytes (crc32c (recHead 1 1 ++ List.replicate 4 0 ++ recEnt)) 4 ++ recEnt), by decide +kernel⟩,
    ⟨1, G, 2, 9, .done, [], 0, 0, Sc true 0 0, Rsrc true 0 0, by decide +kernel⟩,
    ⟨1, G, 2, 9, 0, Sc false 0 0, Rsrc false 0 0, by decide +kernel⟩,
    ⟨2, 5, 4, Dp 2, Rd (Dp 2), by decide +kernel⟩,
    ⟨2, 5, 4, Dp 3, Rd (Dp 3), by decide +kernel⟩,
    ⟨2, 5, 4, R0, by decide +kernel⟩,
    ⟨9, Sc false 0 0, Rsrc false 0 0, by decide +kernel⟩,
    ⟨2, 5, Rd (Dp 3), by decide +kernel⟩,
    ⟨modSld (fun v => { v with cq := [(1, 2), (3, 4)] }) R0, by decide +kernel⟩⟩

theorem witness_MessageCommands :
    (∃ (p : Fin 4) (r : Rx) (src : Fin 512) (req : Fin 256) (ma : BitVec 12) (dur : BitVec 16) (s : State), (s.runs) ∧ (s.rxGood p r) ∧
      (s.sld.rxq.length < 32)) ∧
    (∃ (p : Fin 4) (r : Rx) (src : Fin 512) (req : Fin 256) (ma : BitVec 12) (dur : BitVec 16) (k : Fin 16) (s : State), (s.runs) ∧
      (s.rxGood p r) ∧ (s.sld.rxq.length < 32)) ∧
    (∃ (p : Fin 4) (r : Rx) (src : Fin 512) (req : Fin 256) (ma : BitVec 12) (dur : BitVec 16) (k : Fin 16) (s : State), (s.runs) ∧ (32 ≤
      s.sld.rxq.length)) ∧
    (∃ (p : Fin 4) (q : Fin 4) (r : Rx) (src : Fin 512) (tag : BitVec 16) (a : BitVec 25) (v : Word) (vc : Nat) (s : State), (s.runs) ∧
      (s.rxGood p r) ∧ (s.mbDenied true a.toNat = true) ∧ (s.leavesBy none (s.mkPkt src.val tag.toNat (.mbResp 1 0)) q vc)) ∧
    (∃ (p : Fin 4) (q : Fin 4) (r : Rx) (src : Fin 512) (tag : BitVec 16) (v : Word) (vc : Nat) (s : State), (s.runs) ∧ (s.rxGood p r) ∧
      (s.flag SLD_MB_CFG_RD_EN = true) ∧ (s.leavesBy none (s.mkPkt src.val tag.toNat (.mbResp 0 0)) q vc)) ∧
    (∃ (p : Fin 4) (r : Rx) (tag : BitVec 16) (st : Fin 8) (v : Word) (bk : Nat) (s : State), (s.runs) ∧ (s.rxGood p r) ∧ (s.sld.mb.find?
      (fun e => e.2 == tag.toNat) = some (bk, tag.toNat))) ∧
    (∃ (p : Fin 4) (r : Rx) (tag : BitVec 16) (st : Fin 8) (v : Word) (s : State), (s.runs) ∧ (s.rxGood p r) ∧ (s.sld.mb.find? (fun e =>
      e.2 == tag.toNat) = none)) ∧
    (∃ (r : Req) (w2 : Word) (s : State), (s.runs) ∧ (s.sldOn = false)) ∧
    (∃ (r : Req) (w2 : Word) (k : Pkt) (q : Fin 4) (vc : Nat) (s : State), (s.runs) ∧ (s.sldOn = true) ∧ (k = s.mkPkt (bits (s.raw
      ((SLD_MB_W 0).of r)) 0 9) s.sld.mbTag (.mbReq (bitOf (s.raw ((SLD_MB_W 0).of r)) 31) (bits (s.raw ((SLD_MB_W 1).of r)) 2 23 * 4)
      w2.toNat)) ∧ (s.leavesBy none k q vc)) ∧
    (∃ (r : Req) (e : Nat × Nat) (s : State), (s.runs) ∧ (s.sld.mb.find? (fun e => e.1 == bankOf r) = some e) ∧ (s.sld.mb.find? (fun x =>
      x.2 == e.2) = some e)) ∧
    (∃ (r : Req) (s : State), (s.runs) ∧ (s.sld.mb.find? (fun e => e.1 == bankOf r) = none)) ∧
    (∃ (r : Req) (w2 : Word) (s : State), (s.runs) ∧ (s.sldOn = false)) ∧
    (∃ (r : Req) (w2 : Word) (s : State), (s.runs) ∧ (s.sldOn = true) ∧ (bits (s.raw ((SLD_MSG_W 0).of r)) 28 4 < 6 ∨ 8 < bits (s.raw
      ((SLD_MSG_W 0).of r)) 28 4)) ∧
    (∃ (r : Req) (w2 : Word) (k : Pkt) (q : Fin 4) (vc : Nat) (s : State), (s.runs) ∧ (s.sldOn = true) ∧ (6 ≤ bits (s.raw ((SLD_MSG_W 0).of
      r)) 28 4) ∧ (bits (s.raw ((SLD_MSG_W 0).of r)) 28 4 ≤ 8) ∧ (k = s.mkPkt (bits (s.raw ((SLD_MSG_W 0).of r)) 0 9) 0 (.lease (bits
      (s.raw ((SLD_MSG_W 0).of r)) 28 4) (bits (s.raw ((SLD_MSG_W 1).of r)) 24 8) (bits (s.raw ((SLD_MSG_W 1).of r)) 12 12) (bits w2.toNat
      0 16))) ∧ (s.leavesBy none k q vc)) :=
  ⟨⟨1, G, 2, 5, 9#12, 7#16, Ru, by decide +kernel⟩,
    ⟨1, G, 2, 5, 9#12, 7#16, 15, { Ru with inv := { Ru.inv with wall := 2 ^ 48 - 1 } }, by decide +kernel⟩,
    ⟨1, G, 2, 5, 9#12, 7#16, 15, modSld (fun v => { v with rxq := List.replicate 32 default }) Ru, by decide +kernel⟩,
    ⟨1, 0, G, 2, 5#16, 8#25, 77#32, 0, Ru, by decide +kernel⟩,
    ⟨1, 0, G, 2, 5#16, 77#32, 0, Ru.on SLD_MB_CFG_RD_EN, by decide +kernel⟩,
    ⟨1, G, 5#16, 0, 77#32, 22, Rm, by decide +kernel⟩,
    ⟨1, G, 7#16, 0, 77#32, Rm, by decide +kernel⟩,
    ⟨.host, 77#32, R0, by decide +kernel⟩,
    ⟨.host, 77#32, Ru.mkPkt 2 6 (.mbReq true 0x100 77), 0, 0, (Rm.set ((SLD_MB_W 0).of .host) 0x80000002).set ((SLD_MB_W 1).of .host) 0x101, by decide +kernel⟩,
    ⟨.host, (22, 5), Rm, by decide +kernel⟩,
    ⟨.host, R0, by decide +kernel⟩,
    ⟨.host, 5#32, R0, by decide +kernel⟩,
    ⟨.host, 5#32, Ru, by decide +kernel⟩,
    ⟨.host, 5#32, Ru.mkPkt 2 0 (.lease 7 3 9 5), 0, 0, (Ru.set ((SLD_MSG_W 0).of .host) 0x70000002).set ((SLD_MSG_W 1).of .host) 0x03009000, by decide +kernel⟩⟩

end Fam19

namespace Fam20
abbrev Rk : State := modSec (fun v => { v with keys := #v[none, some (3, 5), none, none] }) R0
abbrev Ro : State := { R0 with die := { R0.die with phase := .rom } }
abbrev Rp : State := { R0 with pat := { R0.pat with ring := [(0, some { (default : PRec) with trig := 7 })] } }
abbrev Re : State := (R0.on BUL_CTL_EN).off BUL_STAT_FROZEN
abbrev Rg : State := modSld (fun v => { v with ports := vmod v.ports (0 : Fin 4) fun p => { p with queue := [{ dst := 1, src := 0, vc := 0, tag := 0, body := .data 0 0 false false 0 [] }] } }) (setGrant 17 (some { i5 := 100, i12 := 0, endAt := 0 }) Re)
abbrev Rz : State := modLane 1 1 (fun x => { x with zeroing := true }) (R0.set (maOut 1 1) 9)

theorem witness_BootCommands :
    (∃ (s : State), (s.runs)) ∧
    (∃ (v : BitVec 7) (s : State), (s.runs) ∧ (s.flag BUL_STAT_FROZEN = false) ∧ (s.raw SEC_STAT_RBCNT ≤ v.toNat) ∧ (v.toNat ≤ 64)) ∧
    (∃ (v : BitVec 7) (s : State), (s.runs) ∧ (s.flag BUL_STAT_FROZEN = true)) ∧
    (∃ (v : BitVec 7) (s : State), (s.runs) ∧ (s.flag BUL_STAT_FROZEN = false) ∧ (v.toNat < s.raw SEC_STAT_RBCNT ∨ 64 < v.toNat)) ∧
    (∃ (v : BitVec 7) (k : Fin 4) (s : State), (s.runs) ∧ (v.toNat < 4) ∧ (s.flag SEC_LOCK_LOCK = false) ∧ (s.flag BUL_STAT_FROZEN = false)
      ∧ (k.val ≠ v.toNat) ∧ (s.bit SEC_KEYREV_REVOKED k.val = false)) ∧
    (∃ (v : BitVec 7) (s : State), (s.runs) ∧ (s.flag SEC_LOCK_LOCK = true)) ∧
    (∃ (v : BitVec 7) (s : State), (s.runs) ∧ (s.flag SEC_LOCK_LOCK = false) ∧ (s.flag BUL_STAT_FROZEN = false) ∧ ((∀ k : Fin 4, k.val ≠
      v.toNat → s.bit SEC_KEYREV_REVOKED k.val = true))) ∧
    (∃ (s : State), (s.runs)) ∧
    (∃ (i : Fin 2) (s : State), (s.runs)) ∧
    (∃ (s : State), (s.runs) ∧ (s.sec.att = none)) ∧
    (∃ (b : List Byte) (s : State), (s.runs) ∧ (s.sec.att = some b)) ∧
    (∃ (b : List Byte) (s : State), (s.runs) ∧ (s.sec.att = some b) ∧ (s.sec.again = false) ∧ (b.length ≤ 4096)) ∧
    (∃ (b : List Byte) (s : State), (s.runs) ∧ (s.sec.att = some b) ∧ (s.sec.again = true)) ∧
    (∃ (s : State), (s.runs) ∧ (s.sec.att = none)) :=
  ⟨⟨R0, by decide +kernel⟩,
    ⟨64#7, R0.set SEC_STAT_RBCNT 7, by decide +kernel⟩,
    ⟨64#7, R0.on BUL_STAT_FROZEN, by decide +kernel⟩,
    ⟨65#7, R0, by decide +kernel⟩,
    ⟨3#7, 0, R0, by decide +kernel⟩,
    ⟨3#7, R0.on SEC_LOCK_LOCK, by decide +kernel⟩,
    ⟨3#7, R0.set SEC_KEYREV_REVOKED 7, by decide +kernel⟩,
    ⟨R0, by decide +kernel⟩,
    ⟨1, modSlot 1 (fun x => { x with image := [(7, 1), (16, 5)], records := [(4, 2)] }) R0, by decide +kernel⟩,
    ⟨R0.dramWrite 0 [1, 2, 3], by decide +kernel⟩,
    ⟨[1, 2], modSec (fun v => { v with att := some [1, 2] }) R0, by decide +kernel⟩,
    ⟨[1, 2], modSec (fun v => { v with att := some [1, 2] }) R0, by decide +kernel⟩,
    ⟨[1, 2], modSec (fun v => { v with att := some [1, 2], again := true }) R0, by decide +kernel⟩,
    ⟨R0, by decide +kernel⟩⟩

theorem witness_KeyCommands :
    (∃ (n : Fin 4) (s : State), (s.runs) ∧ (s.flag SEC_STAT_DBG_UNLOCKED = false)) ∧
    (∃ (n : Fin 4) (b : Bool) (s : State), (s.runs) ∧ (s.flag SEC_STAT_DBG_UNLOCKED = true)) ∧
    (∃ (n : Fin 4) (s : State), (s.runs) ∧ (s.flag SEC_STAT_DBG_UNLOCKED = false)) ∧
    (∃ (n : Fin 4) (k : Nat) (g : Nat) (s : State), (s.runs) ∧ (s.flag SEC_STAT_DBG_UNLOCKED = false) ∧ (s.sec.keys[n] = some (k, g)) ∧ (g
      < 65536)) ∧
    (∃ (n : Fin 4) (b : Bool) (s : State), (s.runs) ∧ (s.flag SEC_STAT_DBG_UNLOCKED = false) ∧ (s.sec.keys[n] = none ∨ b = true)) ∧
    (∃ (n : Fin 4) (s : State), (s.runs)) ∧
    (∃ (n : Fin 4) (s : State), (s.runs)) ∧
    (∃ (n : Fin 4) (s : State), (s.runs)) ∧
    (∃ (c : Fin 4) (s : State), (s.runs) ∧ (s.flag SEC_STAT_DBG_FUSED = false) ∧ (s.keyLoaded = false) ∧ (s.sec.fresh = true)) ∧
    (∃ (g : Bool) (c : Fin 4) (s : State), (s.runs) ∧ (s.flag SEC_STAT_DBG_FUSED = true ∨ s.keyLoaded = true ∨ g = false ∨ s.sec.fresh =
      false)) ∧
    (∃ (s : State), (s.runs)) :=
  ⟨⟨1, Rk, by decide +kernel⟩,
    ⟨1, false, Rk.on SEC_STAT_DBG_UNLOCKED, by decide +kernel⟩,
    ⟨1, Rk, by decide +kernel⟩,
    ⟨1, 3, 5, Rk, by decide +kernel⟩,
    ⟨0, false, Rk, by decide +kernel⟩,
    ⟨1, Rk.on (SEC_NSKEY_LOADED 1), by decide +kernel⟩,
    ⟨1, Rk.on (SEC_NSKEY_LOADED 1), by decide +kernel⟩,
    ⟨1, Rk.on (SEC_NSKEY_LOADED 1), by decide +kernel⟩,
    ⟨3, modSec (fun v => { v with fresh := true }) R0, by decide +kernel⟩,
    ⟨true, 3, Rk.on (SEC_NSKEY_LOADED 1), by decide +kernel⟩,
    ⟨R0, by decide +kernel⟩⟩

theorem witness_ServiceCommands :
    (∃ (len : Word) (crc : Word) (im : List Byte) (s : State), (s.die.phase = .rom) ∧ (im.length = len.toNat) ∧ (crc32c im ≠ crc.toNat)) ∧
    (∃ (len : Word) (crc : Word) (im : List Byte) (s : State), (s.die.phase = .rom) ∧ (im.length = len.toNat) ∧ (crc32c im = crc.toNat)) ∧
    (∃ (len : Word) (crc : Word) (im : List Byte) (s : State), (s.die.phase ≠ .rom ∨ im.length ≠ len.toNat)) ∧
    (∃ (q : Byte) (pl : List Byte) (s : State), (s.runs)) ∧
    (∃ (q : Byte) (pl : List Byte) (s : State), (s.runs) ∧ (pl.length ≠ 6)) ∧
    (∃ (q : Byte) (pl : List Byte) (l : List Byte) (s : State), (s.runs) ∧ (pl.length = 6) ∧ (1 ≤ leNat ((pl.drop 4).take 2)) ∧ (leNat
      ((pl.drop 4).take 2) ≤ 256) ∧ ((viRead (leNat (pl.take 4)) (leNat ((pl.drop 4).take 2)) s).2.toOption = some l)) ∧
    (∃ (q : Byte) (pl : List Byte) (s : State), (s.runs) ∧ (pl.length = 6) ∧ (1 ≤ leNat ((pl.drop 4).take 2)) ∧ (leNat ((pl.drop 4).take 2)
      ≤ 256) ∧ ((viRead (leNat (pl.take 4)) (leNat ((pl.drop 4).take 2)) s).2.toOption = none)) ∧
    (∃ (q : Byte) (pl : List Byte) (s : State), (s.runs) ∧ (pl.length % 4 ≠ 0 ∨ pl.length < 8 ∨ 1024 < pl.length)) ∧
    (∃ (q : Byte) (pl : List Byte) (s : State), (s.runs) ∧ (pl.length % 4 = 0) ∧ (8 ≤ pl.length) ∧ (pl.length ≤ 1024)) ∧
    (∃ (q : Byte) (pl : List Byte) (s : State), (s.runs) ∧ (pl.length = 5) ∧ (1 ≤ leNat ((pl.drop 4).take 1)) ∧ (leNat ((pl.drop 4).take 1)
      ≤ 8)) ∧
    (∃ (c : Fin 2) (q : Byte) (pl : List Byte) (l : List Byte) (s : State), (s.runs) ∧ (pl.length = 9) ∧ (leNat ((pl.drop 7).take 2) ≤
      1016) ∧ (s.logBytes c (leNat (pl.take 1)) (leNat ((pl.drop 1).take 2)) = some l)) ∧
    (∃ (q : Byte) (s : State), (s.runs)) :=
  ⟨⟨3#32, 5#32, [1, 2, 3], Ro, by decide +kernel⟩,
    ⟨3#32, BitVec.ofNat 32 (crc32c [1, 2, 3]), [1, 2, 3], Ro, by decide +kernel⟩,
    ⟨3#32, 5#32, [1, 2], Ro, by decide +kernel⟩,
    ⟨9#8, [5], R0, by decide +kernel⟩,
    ⟨9#8, [5], R0, by decide +kernel⟩,
    ⟨9#8, [0, 0, 0, 0, 1, 0], leBytes (R0.wordAt 0) 4, R0, by decide +kernel⟩,
    ⟨9#8, [0, 0, 0, 2, 1, 0], R0, by decide +kernel⟩,
    ⟨9#8, [5], R0, by decide +kernel⟩,
    ⟨9#8, [0, 0, 0, 0, 1, 0, 0, 0], R0, by decide +kernel⟩,
    ⟨9#8, [0, 0, 0, 0, 2], Rp, by decide +kernel⟩,
    ⟨1, 9#8, [0xC1, 0, 0, 4, 0, 0, 0, 8, 0], Rp.patPage, Rp, by decide +kernel⟩,
    ⟨9#8, Rp, by decide +kernel⟩⟩

theorem witness_BlockEvents :
    (∃ (k : Fin 24) (g : Grant) (s : State), (s.runs) ∧ ((s.bul.slots[k]).grant = some g) ∧ (7 ≤ k.val) ∧ (k.val ≤ 20) ∧ (s.permitWork
      k.val = true) ∧ (s.bulGrants = true) ∧ (s.overNamed g.i5 g.i12 = false)) ∧
    (∃ (k : Fin 24) (s : State), (s.runs) ∧ (s.granted k = false ∨ k.val < 7 ∨ 20 < k.val ∨ s.permitWork k.val = false)) ∧
    (∃ (a : Fin 2) (l : Fin 2) (s : State), (s.runs) ∧ ((s.lane a l).zeroing = true)) ∧
    (∃ (a : Fin 2) (l : Fin 2) (s : State), (s.runs) ∧ ((s.lane a l).zeroing = false)) ∧
    (∃ (n : Fin 4) (s : State), (s.runs) ∧ (s.flag (CLK_CHSYN_EN n.val) = true) ∧ (s.refRuns = true)) ∧
    (∃ (n : Fin 4) (s : State), (s.runs) ∧ (s.flag (CLK_CHSYN_EN n.val) = false ∨ s.refRuns = false)) :=
  ⟨⟨17, { i5 := 100, i12 := 0, endAt := 0 }, Rg, by decide +kernel⟩,
    ⟨17, Re, by decide +kernel⟩,
    ⟨1, 1, Rz, by decide +kernel⟩,
    ⟨1, 0, Rz, by decide +kernel⟩,
    ⟨3, (R0.on (CLK_CHSYN_EN 3)).set CLK_SRC_STAT_RUN 7, by decide +kernel⟩,
    ⟨3, R0, by decide +kernel⟩⟩

end Fam20

namespace Fam21
abbrev Rc (tg : Nat) (v : Nat) : State := (((((((R0.on CAL_CTL_EN).set (CAL_LIM_LO 0) 0x200).set (CAL_LIM_HI 0) 0x1FF).set (CAL_LIM_STEP_MAX 0) 1023).set (CAL_APPLY_W0_HEAD.of .host) 3).set (CAL_APPLY_W0_TARGET.of .host) tg).set (CAL_APPLY_W0_CH.of .host) 1).set (RCH_HZ_W1_OFS0 3 0) v
abbrev Ra : State := ((Rc 0 3).on (RCH_SEL_READY 1)).set (RCH_SEL_HEAD 1) 3
abbrev Rs : State := ((R0.set CLK_SRC_STAT_RUN 7).on CLK_CTL_MON_EN).set (PAT_TEN_EN 1) 0xFFFFFFFF
abbrev Rb : State := modClk (fun c => { c with bad := #v[true, true, true, true, true] }) Rs
abbrev Rf : State := modClk (fun c => { c with failed := c.failed.set 1 true }) Rb

theorem witness_ErrorAccesses :
    (∃ (r : Req) (wr : Bool) (a : BitVec 25) (s : State), (s.runs) ∧ (s.accessErr r wr a.toNat = some errUnmapped)) ∧
    (∃ (r : Req) (wr : Bool) (a : BitVec 25) (s : State), (s.runs) ∧ (s.accessErr r wr a.toNat = some errDown)) ∧
    (∃ (wr : Bool) (a : BitVec 25) (s : State), (s.runs) ∧ (s.accessErr .host wr a.toNat = some errDenied)) ∧
    (∃ (r : Req) (wr : Bool) (a : BitVec 25) (s : State), (s.runs) ∧ (s.bit (PAT_TEN_EN 0) 1 = true) ∧ (s.pat.queue.length < 16) ∧
      (s.accessErr r wr a.toNat = some errUnmapped)) ∧
    (∃ (r : Req) (wr : Bool) (a : BitVec 25) (s : State), (s.runs) ∧ (s.bit (PAT_TEN_EN 0) 1 = true) ∧ (s.pat.queue.length < 16) ∧
      (s.accessErr r wr a.toNat = some errDown)) ∧
    (∃ (r : Req) (wr : Bool) (a : BitVec 25) (s : State), (s.runs) ∧ (s.bit (PAT_TEN_EN 0) 1 = true) ∧ (s.pat.queue.length < 16) ∧
      (s.accessErr .host wr a.toNat = some errDenied)) :=
  ⟨⟨.role 5, false, 0x1FFFFF0#25, R0, by decide +kernel⟩,
    ⟨.core 1, true, 0x600000#25, R0.set CLK_GATE_FORCE_BLK 0xFFFFFF, by decide +kernel⟩,
    ⟨true, 0x600000#25, R0, by decide +kernel⟩,
    ⟨.role 5, false, 0x1FFFFF0#25, R0.set (PAT_TEN_EN 0) 0xFFFFFFFF, by decide +kernel⟩,
    ⟨.core 1, true, 0x600000#25, (R0.set CLK_GATE_FORCE_BLK 0xFFFFFF).set (PAT_TEN_EN 0) 0xFFFFFFFF, by decide +kernel⟩,
    ⟨.core 1, true, 0x600000#25, (R0.set CLK_GATE_FORCE_BLK 0xFFFFFF).set (PAT_TEN_EN 0) 0xFFFFFFFF, by decide +kernel⟩⟩

theorem witness_CalibrationRefusals :
    (∃ (r : Req) (w1 : Word) (g : CalTarget) (f : Fld) (s : State), (s.runs) ∧ (s.flag CAL_CTL_EN = true) ∧ (s.calTarget r = some g) ∧
      (s.geti (CAL_LIM_LO g.item) ≤ sgn 10 (bits w1.toNat 0 10)) ∧ (sgn 10 (bits w1.toNat 0 10) ≤ s.geti (CAL_LIM_HI g.item)) ∧ ((sgn 10
      (bits w1.toNat 0 10) - (if g.signed then s.geti g.table else s.raw g.table)).natAbs ≤ s.raw (CAL_LIM_STEP_MAX g.item)) ∧ (g.active =
      some f) ∧ (s.calActive r = true) ∧ (s.inv.quiet.toList.getD (s.raw (CAL_APPLY_W0_CH.of r)) false = false)) ∧
    (∃ (r : Req) (w1 : Word) (g : CalTarget) (f : Fld) (s : State), (s.runs) ∧ (s.flag CAL_CTL_EN = true) ∧ (s.calTarget r = some g) ∧
      (s.geti (CAL_LIM_LO g.item) ≤ sgn 10 (bits w1.toNat 0 10)) ∧ (sgn 10 (bits w1.toNat 0 10) ≤ s.geti (CAL_LIM_HI g.item)) ∧ ((sgn 10
      (bits w1.toNat 0 10) - (if g.signed then s.geti g.table else s.raw g.table)).natAbs ≤ s.raw (CAL_LIM_STEP_MAX g.item)) ∧ (g.active =
      some f) ∧ (s.calActive r = true) ∧ (s.inv.quiet.toList.getD (s.raw (CAL_APPLY_W0_CH.of r)) false = true)) ∧
    (∃ (r : Req) (w1 : Word) (g : CalTarget) (s : State), (s.runs) ∧ (s.flag CAL_CTL_EN = true) ∧ (s.calTarget r = some g) ∧ (s.calCheck r
      g (sgn 10 (bits w1.toNat 0 10)) ≠ 0) ∧ (s.get CAL_CTL_MAXFAIL ≤ s.raw (CAL_LAST_FAILS (s.raw (CAL_APPLY_W0_HEAD.of r)) g.item) + 1)) :=
  ⟨⟨.host, 0xFFFFFFFB#32, ⟨0, true, RCH_HZ_W1_OFS0 3 0, some (RCH_ACT_W1_OFS0 1)⟩, RCH_ACT_W1_OFS0 1, Ra, by decide +kernel⟩,
    ⟨.host, 0xFFFFFFFB#32, ⟨0, true, RCH_HZ_W1_OFS0 3 0, some (RCH_ACT_W1_OFS0 1)⟩, RCH_ACT_W1_OFS0 1, { Ra with inv := { R0.inv with quiet := #v[true, true, true, true] } }, by decide +kernel⟩,
    ⟨.host, 0xFFFFFFFB#32, ⟨0, true, RCH_HZ_W1_OFS0 3 0, some (RCH_ACT_W1_OFS0 1)⟩, (((Rc 0 3).set (CAL_LIM_STEP_MAX 0) 2).set (CAL_LAST_FAILS 3 0) 7).set (PAT_TEN_EN 1) 0xFFFFFFFF, by decide +kernel⟩⟩

theorem witness_OtherClockFailures :
    (∃ (k : Fin 5) (count : Nat) (s : State), (s.runs) ∧ (s.flag CLK_CTL_MON_EN = true) ∧ (s.clk.failed[(0 : Fin 5)] = false) ∧
      (s.clk.failed[k] = false) ∧ (s.hif.l12 = #v[false, false]) ∧ (s.monFails k.val count = true) ∧ (s.clk.bad[k] = true) ∧ (k.val ≠ 0)) ∧
    (∃ (count : Nat) (s : State), (s.runs) ∧ (s.flag CLK_CTL_MON_EN = true) ∧ (s.clk.failed[(0 : Fin 5)] = false) ∧ (s.clk.failed[(1 : Fin
      5)] = true) ∧ (s.monFails 0 count = true) ∧ (s.clk.bad[(0 : Fin 5)] = true)) ∧
    (∃ (p : Fin 2) (s : State), (s.runs) ∧ (s.flag CLK_CTL_MON_EN = true) ∧ (s.clk.failed[(1 : Fin 5)] = true) ∧ (s.flag (CLK_PLL_LOCK
      p.val) = true) ∧ (s.flag (CLK_PLL_EN p.val) = true)) :=
  ⟨⟨4, 0, Rb.on (HIF_PORT_LINK_UP 1), by decide +kernel⟩,
    ⟨0, Rf.on (CLK_PLL_EN 1), by decide +kernel⟩,
    ⟨1, ((Rf.on (CLK_PLL_EN 1)).on (CLK_PLL_LOCK 1)).off CLK_CTL_POL_PLL, by decide +kernel⟩⟩

theorem witness_RollbackCount :
    (∃ (i : Fin 2) (s : State), (s.runs) ∧ (bitOf (imgLe (s.sec.slots[i]).byte 7 1) 0 = true) ∧ (s.flag BUL_STAT_FROZEN = false) ∧ (s.raw
      SEC_STAT_RBCNT < imgSvn (s.sec.slots[i]).byte) ∧ (imgSvn (s.sec.slots[i]).byte ≤ 64)) ∧
    (∃ (i : Fin 2) (s : State), (s.runs) ∧ (s.flag BUL_STAT_FROZEN = true)) :=
  ⟨⟨1, modSlot 1 (fun x => { x with image := [(7, 1), (16, 5)] }) (R0.set (PAT_TEN_EN 1) 0xFFFFFFFF), by decide +kernel⟩,
    ⟨1, modSlot 1 (fun x => { x with image := [(7, 1), (16, 5)] }) (R0.on BUL_STAT_FROZEN), by decide +kernel⟩⟩

end Fam21

/-! ### Witnesses for the statements about every command and every step -/

/-- A state whose queue holds one command. -/
abbrev queued : State := R0.withPending [.servoEnable 0]

theorem queued_steps : ∃ t, step queued = .next t := ⟨_, rfl⟩

theorem witness_RollbackCount_step : ∃ s t : State, step s = .next t := ⟨queued, queued_steps⟩

theorem witness_StepTakesFront :
    (∃ (c : Instr) (q : List Instr) (s : State), s.pending = c :: q) ∧ (∃ s : State, s.pending = []) :=
  ⟨⟨.servoEnable 0, [], queued, rfl⟩, ⟨R0, rfl⟩⟩

theorem witness_EveryCommandCompletes : ∃ (i : Instr) (s : State), actsAtRest i = false ∧ ¬ s.runs :=
  ⟨.servoEnable 0, { R0 with die := { R0.die with phase := .held } }, by decide +kernel⟩

theorem witness_CommandFrames : ∃ (i : Instr) (s t : State), exec i s = .next t :=
  ⟨.servoEnable 0, R0, _, rfl⟩

theorem witness_CanonicalKept : ∃ s t : State, s.canonical ∧ step s = .next t :=
  ⟨queued, queued_steps.imp fun _ h => ⟨by decide +kernel, h⟩⟩

theorem witness_StampNeverDecreases :
    ∃ s t : State, (∀ st d q, s.pending ≠ .powerOn st d :: q) ∧ step s = .next t :=
  ⟨queued, queued_steps.imp fun _ h => ⟨fun _ _ _ e => (by cases e), h⟩⟩

theorem witness_HeldChannelsClosed :
    ∃ s t : State, s.heldClosed ∧ (∃ ch, s.chHeld ch = true) ∧ step s = .next t :=
  ⟨queued, queued_steps.imp fun _ h => ⟨by decide +kernel, ⟨0, by decide +kernel⟩, h⟩⟩

theorem witness_EmergencyGrantsNothing :
    ∃ s t : State, s.emergencyBare ∧ s.flag BUL_STAT_EMERG = true ∧ step s = .next t :=
  ⟨queued.on BUL_STAT_EMERG, _, by decide +kernel, by decide +kernel, rfl⟩

end Sys2Proof.Tests.Slice0
end

section
/-!
PROOFS. A refused or unmapped access (R26 to R28, R30): its bit of SYS_ERR, the record in SYS_ERR_ADDR, and trigger 1. The shared
operation is `accessRefused`; the three commands reach it through `errorAccess`.
-/
namespace Sys2Proof.Machine

variable {s : State} {r : Req} {wr : Bool} {a e i detail : Nat}

/-! ### Flags -/

theorem State.flag_eq (s : State) (f : Fld) : s.flag f = (s.raw f == 1) := rfl

/-! ### A Patina trigger -/

/-- A trigger changes no register field but the count and the mark of lost ones. -/
theorem patTrig_raw_ne {f : Fld} (hm : f.key ≠ PAT_STAT_LOST.key) (hc : f.key ≠ PAT_LOST_COUNT.key) :
    (patTrig i detail s).raw f = s.raw f := by
  unfold patTrig
  split
  · rfl
  · split
    · rfl
    · rw [State.on_eq, State.raw_set_ne _ _ hm, State.bump_eq, State.raw_set_ne _ _ hc]

/-- An enabled trigger that finds room enters the queue. -/
theorem patTrig_queue (hen : s.bit (PAT_TEN_EN (i / 32)) (i % 32) = true) (hroom : s.pat.queue.length < 16) :
    (patTrig i detail s).pat.queue = s.pat.queue ++ [(i, detail)] := by
  simp [patTrig, hen, hroom]

/-! ### A refused access -/

/-- The bit of SYS_ERR that an error sets. -/
def errBit (e : Nat) : Fld := if e = 0 then SYS_ERR_UNMAPPED else if e = 1 then SYS_ERR_BLK_DOWN else SYS_ERR_HOST_DENIED

/-- No error has been recorded since the bits of SYS_ERR were last cleared. -/
def State.errClear (s : State) : Bool := !s.flag SYS_ERR_UNMAPPED && !s.flag SYS_ERR_BLK_DOWN && !s.flag SYS_ERR_HOST_DENIED

/-- The record of an access in SYS_ERR_ADDR. -/
def recordAccess (r : Req) (wr : Bool) (a : Nat) (s : State) : State :=
  ((s.set SYS_ERR_ADDR_SRC (srcOf r)).put SYS_ERR_ADDR_WR wr).set SYS_ERR_ADDR_ADDR (a / 4 * 4)

/-- The registers of SYS as a refused access leaves them, before its trigger. -/
def noteAccess (e : Nat) (r : Req) (wr : Bool) (a : Nat) (s : State) : State :=
  (if s.errClear then recordAccess r wr a s else s).set (errBit e) 1

theorem accessRefused_eq : accessRefused e r wr a s = patTrig 1 (accessWord r wr a) (noteAccess e r wr a s) := rfl

/-- Each bit of SYS_ERR is one bit of the register at its address. -/
theorem errBit_place (e : Nat) : (errBit e).addr = 0xc ∧ (errBit e).lo < 3 ∧ (errBit e).width = 1 := by
  unfold errBit
  split
  · decide
  · split <;> decide

/-- SYS_ERR lies below SYS_ERR_ADDR and far below the registers of PAT. -/
theorem errBit_key_lt (e : Nat) : (errBit e).key < 0x10 * 32 := by
  obtain ⟨haddr, hlo, -⟩ := errBit_place e
  unfold Fld.key
  omega

theorem errClear_of_flags (hu : s.flag SYS_ERR_UNMAPPED = false) (hd : s.flag SYS_ERR_BLK_DOWN = false)
    (hh : s.flag SYS_ERR_HOST_DENIED = false) : s.errClear = true := by
  simp [State.errClear, hu, hd, hh]

theorem errClear_of_held
    (h : s.flag SYS_ERR_UNMAPPED = true ∨ s.flag SYS_ERR_BLK_DOWN = true ∨ s.flag SYS_ERR_HOST_DENIED = true) :
    s.errClear = false := by
  rcases h with h | h | h <;> simp [State.errClear, h]

theorem recordAccess_pat : (recordAccess r wr a s).pat = s.pat := rfl

/-- A field past SYS_ERR_ADDR is not touched by the record. -/
theorem recordAccess_raw_above {f : Fld} (hf : 0x11 * 32 ≤ f.key) : (recordAccess r wr a s).raw f = s.raw f := by
  have hkeys : SYS_ERR_ADDR_ADDR.key < 0x11 * 32 ∧ SYS_ERR_ADDR_WR.key < 0x11 * 32 ∧ SYS_ERR_ADDR_SRC.key < 0x11 * 32 := by decide
  rw [recordAccess, State.raw_set_ne _ _ (by omega), State.put_eq, State.raw_set_ne _ _ (by omega),
    State.raw_set_ne _ _ (by omega)]

/-- The three fields of the record, for an address of the control space. -/
theorem recordAccess_fields (ha : a < 2 ^ 25) :
    (recordAccess r wr a s).raw SYS_ERR_ADDR_ADDR = a / 4 * 4 ∧ (recordAccess r wr a s).flag SYS_ERR_ADDR_WR = wr ∧
      (recordAccess r wr a s).raw SYS_ERR_ADDR_SRC = srcOf r := by
  refine ⟨?_, ?_, ?_⟩
  · rw [recordAccess, State.raw_set_self]
    exact Nat.mod_eq_of_lt (show a / 4 * 4 < 2 ^ 25 by omega)
  · rw [State.flag_eq, recordAccess, State.raw_set_ne _ _ (by decide), State.put_eq, State.raw_set_self]
    cases wr <;> rfl
  · rw [recordAccess, State.raw_set_ne _ _ (by decide), State.put_eq, State.raw_set_ne _ _ (by decide), State.raw_set_self]
    cases r <;> rfl

/-- The fields of PAT are not touched before the trigger. -/
theorem noteAccess_raw_above {f : Fld} (hf : 0x11 * 32 ≤ f.key) : (noteAccess e r wr a s).raw f = s.raw f := by
  have hne : f.key ≠ (errBit e).key := by have := errBit_key_lt e; omega
  rw [noteAccess, State.raw_set_ne _ _ hne]
  split
  · exact recordAccess_raw_above hf
  · rfl

theorem noteAccess_pat : (noteAccess e r wr a s).pat = s.pat := by
  rw [noteAccess, State.set_pat]
  split
  · exact recordAccess_pat
  · rfl

/-- A field of SYS reads after a refused access as it reads before the trigger. -/
theorem accessRefused_raw_low {f : Fld} (hf : f.key < 0x11 * 32) :
    (accessRefused e r wr a s).raw f = (noteAccess e r wr a s).raw f := by
  have hfar : 0x11 * 32 < PAT_STAT_LOST.key ∧ 0x11 * 32 < PAT_LOST_COUNT.key := by decide
  rw [accessRefused_eq, patTrig_raw_ne (by omega) (by omega)]

/-- A refused access sets its bit of SYS_ERR. -/
theorem accessRefused_sets_bit : (accessRefused e r wr a s).flag (errBit e) = true := by
  have hlt := errBit_key_lt e
  rw [State.flag_eq, accessRefused_raw_low (by omega), noteAccess, State.raw_set_self, (errBit_place e).2.2]
  rfl

/-- With no bit of SYS_ERR set, the fields of SYS_ERR_ADDR read as the record puts them. -/
theorem accessRefused_raw_record {f : Fld} (hc : s.errClear = true) (hlo : 0x10 * 32 ≤ f.key) (hhi : f.key < 0x11 * 32) :
    (accessRefused e r wr a s).raw f = (recordAccess r wr a s).raw f := by
  have hlt := errBit_key_lt e
  rw [accessRefused_raw_low hhi, noteAccess, State.raw_set_ne _ _ (by omega), if_pos hc]

/-- With no bit of SYS_ERR set, a refused access is recorded (R30). -/
theorem accessRefused_records (ha : a < 2 ^ 25) (hc : s.errClear = true) :
    (accessRefused e r wr a s).raw SYS_ERR_ADDR_ADDR = a / 4 * 4 ∧ (accessRefused e r wr a s).flag SYS_ERR_ADDR_WR = wr ∧
      (accessRefused e r wr a s).raw SYS_ERR_ADDR_SRC = srcOf r := by
  obtain ⟨haddr, hwr, hsrc⟩ := recordAccess_fields (s := s) (r := r) (wr := wr) ha
  refine ⟨?_, ?_, ?_⟩
  · exact (accessRefused_raw_record hc (by decide) (by decide)).trans haddr
  · rw [State.flag_eq, accessRefused_raw_record hc (by decide) (by decide)]
    exact hwr
  · exact (accessRefused_raw_record hc (by decide) (by decide)).trans hsrc

/-- With a bit of SYS_ERR set, a refused access changes no register but its bit and what a lost trigger leaves (R30). -/
theorem accessRefused_leaves_record (hc : s.errClear = false) :
    sameRegsBut [errBit e, PAT_STAT_LOST, PAT_LOST_COUNT] s (accessRefused e r wr a s) := by
  intro f hf
  simp only [List.forall_mem_cons] at hf
  obtain ⟨hbit, hmark, hcount, -⟩ := hf
  rw [accessRefused_eq, patTrig_raw_ne hmark hcount, noteAccess, State.raw_set_ne _ _ hbit, hc]
  rfl

/-- A refused access raises trigger 1, with the access as its DETAIL. -/
theorem accessRefused_queue (hen : s.bit (PAT_TEN_EN 0) 1 = true) (hroom : s.pat.queue.length < 16) :
    (accessRefused e r wr a s).pat.queue = s.pat.queue ++ [(1, accessWord r wr a)] := by
  have hen' : (noteAccess e r wr a s).bit (PAT_TEN_EN 0) 1 = true := by
    rw [State.bit, noteAccess_raw_above (by decide)]
    exact hen
  rw [accessRefused_eq, patTrig_queue (i := 1) hen' (by rwa [noteAccess_pat]), noteAccess_pat]

/-! ### The three commands -/

/-- An access that is wrong in the way the command names is refused, and a read of it answers zero. -/
theorem errorAccess_eq (h : s.accessErr r wr a = some e) : errorAccess e r wr a s =
    if wr then accessRefused e r wr a s else (accessRefused e r wr a s).emit (.readData r 0) := if_pos h

theorem errorAccess_raw (h : s.accessErr r wr a = some e) (f : Fld) :
    (errorAccess e r wr a s).raw f = (accessRefused e r wr a s).raw f := by
  rw [errorAccess_eq h]
  cases wr <;> rfl

theorem errorAccess_pat (h : s.accessErr r wr a = some e) : (errorAccess e r wr a s).pat = (accessRefused e r wr a s).pat := by
  rw [errorAccess_eq h]
  cases wr <;> rfl

theorem errorAccess_out (h : s.accessErr r wr a = some e) :
    (errorAccess e r wr a s).out = s.out ++ if wr then [] else [.readData r 0] := by
  have hout : (accessRefused e r wr a s).out = s.out := (accessRefused_keeps e r wr a s).parts.out rfl
  rw [errorAccess_eq h]
  cases wr
  · rw [if_neg (by decide), State.emit_own, hout]
    rfl
  · rw [if_pos rfl, hout]
    exact (List.append_nil _).symm

theorem errorAccess_sameDram : sameDram s (errorAccess e r wr a s) := fun k =>
  congrArg (tabLook 0 · k) ((errorAccess_keeps e r wr a s).parts.dram rfl)

/-- The mask of `errorAccess_keeps` names the register blocks of SYS and PAT alone. -/
theorem errorAccess_mask : ∀ b < 64, b ∉ [0, 41] → Nat.testBit 0x80200000020000000001 b = false := by decide

theorem errorAccess_sameOutside : sameOutside [0, 41] s (errorAccess e r wr a s) := fun f hf =>
  (errorAccess_keeps e r wr a s).regs f (errorAccess_mask f.blk f.blk_lt hf)

/-- What every refused or unmapped access does to SYS_ERR and SYS_ERR_ADDR (R30). -/
theorem errorAccess_sysErr (h : s.accessErr r wr a = some e) (ha : a < 2 ^ 25) :
    (errorAccess e r wr a s).flag (errBit e) = true ∧
      (s.flag SYS_ERR_UNMAPPED = false → s.flag SYS_ERR_BLK_DOWN = false → s.flag SYS_ERR_HOST_DENIED = false →
        (errorAccess e r wr a s).raw SYS_ERR_ADDR_ADDR = a / 4 * 4 ∧ (errorAccess e r wr a s).flag SYS_ERR_ADDR_WR = wr ∧
          (errorAccess e r wr a s).raw SYS_ERR_ADDR_SRC = srcOf r) ∧
      (s.flag SYS_ERR_UNMAPPED = true ∨ s.flag SYS_ERR_BLK_DOWN = true ∨ s.flag SYS_ERR_HOST_DENIED = true →
        sameRegsBut [errBit e, PAT_STAT_LOST, PAT_LOST_COUNT] s (errorAccess e r wr a s)) := by
  simp only [sameRegsBut, State.flag_eq (errorAccess e r wr a s), errorAccess_raw h]
  exact ⟨accessRefused_sets_bit, fun hu hd hh => accessRefused_records ha (errClear_of_flags hu hd hh),
    fun hheld => accessRefused_leaves_record (errClear_of_held hheld)⟩

/-- Every refused or unmapped access raises trigger 1 (R30). -/
theorem errorAccess_triggers (h : s.accessErr r wr a = some e) (hen : s.bit (PAT_TEN_EN 0) 1 = true)
    (hroom : s.pat.queue.length < 16) :
    (errorAccess e r wr a s).pat.queue.map (·.1) = s.pat.queue.map (·.1) ++ [1] := by
  rw [errorAccess_pat h, accessRefused_queue hen hroom, List.map_append]
  rfl

theorem exec_unmappedAccess (r : Req) (wr : Bool) (a : BitVec 25) (h : s.runs) :
    exec (.unmappedAccess r wr a) s = .next (errorAccess errUnmapped r wr a.toNat s) :=
  congrArg Host.Outcome.next (live_running _ h)

theorem exec_blockDownAccess (r : Req) (wr : Bool) (a : BitVec 25) (h : s.runs) :
    exec (.blockDownAccess r wr a) s = .next (errorAccess errDown r wr a.toNat s) :=
  congrArg Host.Outcome.next (live_running _ h)

theorem exec_hostAccessRefused (wr : Bool) (a : BitVec 25) (h : s.runs) :
    exec (.hostAccessRefused wr a) s = .next (errorAccess errDenied .host wr a.toNat s) :=
  congrArg Host.Outcome.next (live_running _ h)

end Sys2Proof.Machine

open Sys2Proof Sys2Proof.Machine

/-- Settles O49: the three commands are one operation, whose effect on SYS_ERR, SYS_ERR_ADDR and the triggers is stated once. -/
theorem errorAccesses : Obligations.ErrorAccesses := by
  unfold Obligations.ErrorAccesses
  refine ⟨?unmapped, ?down, ?denied, ?trigger⟩
  case unmapped =>
    intro r wr a s hrun herr
    obtain ⟨hbit, hrecord⟩ := errorAccess_sysErr herr a.isLt
    exact ⟨_, exec_unmappedAccess r wr a hrun, hbit, errorAccess_out herr, errorAccess_sameOutside, errorAccess_sameDram, hrecord⟩
  case down => exact fun r wr a s hrun herr => ⟨_, exec_blockDownAccess r wr a hrun, errorAccess_sysErr herr a.isLt⟩
  case denied => exact fun wr a s hrun herr => ⟨_, exec_hostAccessRefused wr a hrun, errorAccess_sysErr herr a.isLt⟩
  case trigger =>
    intro r wr a s hrun hen hroom
    refine ⟨fun herr => ?_, fun herr => ?_, fun herr => ?_⟩
    · exact ⟨_, exec_unmappedAccess r wr a hrun, errorAccess_triggers herr hen hroom⟩
    · exact ⟨_, exec_blockDownAccess r wr a hrun, errorAccess_triggers herr hen hroom⟩
    · exact ⟨_, exec_hostAccessRefused wr a hrun, errorAccess_triggers herr hen hroom⟩
end

section
/-!
PROOFS. A write of CAL_APPLY_W1 (R350 to R352): where a correction goes, the value staged, the refusal that holds a head, and the
apply outside and inside the quiet window.
-/
namespace Sys2Proof.Machine

variable {s : State} {r : Req} {g : CalTarget} {h i n w1 : Nat}

/-! ### The requester banks -/

/-- The registers that no bank copies lie below this key. -/
def bankKey : Nat := 32 * bankSize

theorem Fld.key_of (f : Fld) (r : Req) : (f.of r).key = f.key + bankKey * bankOf r := by
  unfold Fld.of Fld.inBank Fld.key bankKey
  dsimp only
  rw [Nat.add_mul, Nat.mul_comm 32 bankSize, Nat.mul_right_comm, Nat.add_right_comm]

theorem bankOf_pos (r : Req) : 0 < bankOf r := by
  cases r <;> simp only [bankOf] <;> omega

/-- A requester's copy is none of the registers below the banks. -/
theorem Fld.key_ne_of {f : Fld} (hf : f.key < bankKey) (k : Fld) (r : Req) : f.key ≠ (k.of r).key := by
  have hpos := bankOf_pos r
  rw [Fld.key_of]
  unfold bankKey bankSize at *
  omega

/-- Two fields differ in a requester's copy as they do in the shared one. -/
theorem Fld.of_key_ne {f k : Fld} (hf : f.key ≠ k.key) (r : Req) : (f.of r).key ≠ (k.of r).key := by
  rw [Fld.key_of, Fld.key_of]
  omega

/-! ### Where a correction goes -/

/-- The field lies among the tables of the channels, past every active set. -/
def Fld.InTable (f : Fld) : Prop := 0x660000 * 32 ≤ f.key ∧ f.key < 0x780000 * 32

/-- The field lies among the active sets of the channels, before every table. -/
def Fld.InActive (f : Fld) : Prop := f.key < 0x660000 * 32

theorem RCH_HZ_W0_AGC_TGT_inTable (h z : Nat) : (RCH_HZ_W0_AGC_TGT h z).InTable := by
  unfold Fld.InTable Fld.key RCH_HZ_W0_AGC_TGT; dsimp only; omega

theorem RCH_HZ_W1_OFS_inTable (k h z : Nat) : (if k = 0 then RCH_HZ_W1_OFS0 h z else RCH_HZ_W1_OFS1 h z).InTable := by
  unfold Fld.InTable Fld.key RCH_HZ_W1_OFS0 RCH_HZ_W1_OFS1; split <;> dsimp only <;> omega

theorem RCH_HZ_W1_ASYM_inTable (k h z : Nat) : (if k = 0 then RCH_HZ_W1_ASYM0 h z else RCH_HZ_W1_ASYM1 h z).InTable := by
  unfold Fld.InTable Fld.key RCH_HZ_W1_ASYM0 RCH_HZ_W1_ASYM1; split <;> dsimp only <;> omega

theorem RCH_EQ_TAP_inTable (e k : Nat) : (RCH_EQ_TAP e k).InTable := by
  unfold Fld.InTable Fld.key RCH_EQ_TAP; dsimp only; omega

theorem TPR_HZ_W0_ABIAS_inTable (h z : Nat) : (TPR_HZ_W0_ABIAS h z).InTable := by
  unfold Fld.InTable Fld.key TPR_HZ_W0_ABIAS; dsimp only; omega

theorem TPR_HZ_W0_APEAK_inTable (h z : Nat) : (TPR_HZ_W0_APEAK h z).InTable := by
  unfold Fld.InTable Fld.key TPR_HZ_W0_APEAK; dsimp only; omega

theorem RCH_ACT_W0_AGC_TGT_inActive (c : Nat) : (RCH_ACT_W0_AGC_TGT c).InActive := by
  unfold Fld.InActive Fld.key RCH_ACT_W0_AGC_TGT; dsimp only; omega

theorem RCH_ACT_W1_OFS_inActive (k c : Nat) : (if k = 0 then RCH_ACT_W1_OFS0 c else RCH_ACT_W1_OFS1 c).InActive := by
  unfold Fld.InActive Fld.key RCH_ACT_W1_OFS0 RCH_ACT_W1_OFS1; split <;> dsimp only <;> omega

theorem RCH_ACT_W1_ASYM_inActive (k c : Nat) : (if k = 0 then RCH_ACT_W1_ASYM0 c else RCH_ACT_W1_ASYM1 c).InActive := by
  unfold Fld.InActive Fld.key RCH_ACT_W1_ASYM0 RCH_ACT_W1_ASYM1; split <;> dsimp only <;> omega

/-- What every target of a correction satisfies. -/
structure CalTarget.Placed (g : CalTarget) : Prop where
  item_lt : g.item < 5
  table : g.table.InTable
  active : ∀ f, g.active = some f → f.InActive ∧ f.width = g.table.width

/-- A target with an active-set field as wide as its table field. -/
theorem placed_active {i : Nat} {sg : Bool} {t f : Fld} (hi : i < 5) (ht : t.InTable) (hf : f.InActive) (hw : f.width = t.width) :
    CalTarget.Placed ⟨i, sg, t, some f⟩ :=
  ⟨hi, ht, fun _ h => Option.some.inj h ▸ ⟨hf, hw⟩⟩

/-- A target of the table alone. -/
theorem placed_tableOnly {i : Nat} {sg : Bool} {t : Fld} (hi : i < 5) (ht : t.InTable) : CalTarget.Placed ⟨i, sg, t, none⟩ :=
  ⟨hi, ht, fun _ h => nomatch h⟩

/-- A staged word that is not reserved names a head the device has and a place for the value. -/
theorem calTarget_placed (ht : s.calTarget r = some g) : s.raw (CAL_APPLY_W0_HEAD.of r) < 20 ∧ g.Placed := by
  unfold State.calTarget at ht
  dsimp only at ht
  split at ht
  · cases ht
  · next hhead =>
    refine ⟨Nat.lt_of_not_le hhead, ?_⟩
    split at ht
    · cases ht
      exact placed_active (by decide) (RCH_HZ_W1_OFS_inTable ..) (RCH_ACT_W1_OFS_inActive ..) (by split <;> rfl)
    · cases ht
      exact placed_active (by decide) (RCH_HZ_W0_AGC_TGT_inTable ..) (RCH_ACT_W0_AGC_TGT_inActive ..) rfl
    · cases ht
      exact placed_active (by decide) (RCH_HZ_W1_ASYM_inTable ..) (RCH_ACT_W1_ASYM_inActive ..) (by split <;> rfl)
    · split at ht
      · cases ht
        exact placed_tableOnly (by decide) (RCH_EQ_TAP_inTable ..)
      · cases ht
    · cases ht
      exact placed_tableOnly (by decide) (TPR_HZ_W0_ABIAS_inTable ..)
    · cases ht
      exact placed_tableOnly (by decide) (TPR_HZ_W0_APEAK_inTable ..)
    · cases ht

/-! ### The value staged -/

/-- A write of CAL_APPLY_W1 as it stands in the requester's copy. -/
def stageValue (r : Req) (w1 : Nat) (s : State) : State :=
  (s.set (CAL_APPLY_W1_RSV10.of r) (bits w1 10 22)).set (CAL_APPLY_W1_VALUE.of r) (bits w1 0 10)

/-- Staging a value touches no register below the banks. -/
theorem stageValue_raw {f : Fld} (hf : f.key < bankKey) : (stageValue r w1 s).raw f = s.raw f := by
  rw [stageValue, State.raw_set_ne _ _ (Fld.key_ne_of hf _ _), State.raw_set_ne _ _ (Fld.key_ne_of hf _ _)]

/-- Staging a value leaves the word that names its target. -/
theorem stageValue_raw_target {f : Fld} (hf : f.key < CAL_APPLY_W1_VALUE.key) :
    (stageValue r w1 s).raw (f.of r) = s.raw (f.of r) := by
  have hnext : CAL_APPLY_W1_VALUE.key < CAL_APPLY_W1_RSV10.key := by decide
  rw [stageValue, State.raw_set_ne _ _ (Fld.of_key_ne (by omega) r), State.raw_set_ne _ _ (Fld.of_key_ne (by omega) r)]

theorem stageValue_calTarget : (stageValue r w1 s).calTarget r = s.calTarget r := by
  unfold State.calTarget
  simp (disch := decide) only [stageValue_raw_target]

theorem RCH_SEL_READY_key_lt (c : Nat) : (RCH_SEL_READY c).key < bankKey := by
  unfold Fld.key bankKey bankSize RCH_SEL_READY; dsimp only; omega

theorem RCH_SEL_HEAD_key_lt (c : Nat) : (RCH_SEL_HEAD c).key < bankKey := by
  unfold Fld.key bankKey bankSize RCH_SEL_HEAD; dsimp only; omega

theorem RCH_SEL_RZ_key_lt (c : Nat) : (RCH_SEL_RZ c).key < bankKey := by
  unfold Fld.key bankKey bankSize RCH_SEL_RZ; dsimp only; omega

theorem CAL_LIM_LO_key_lt (i : Nat) : (CAL_LIM_LO i).key < bankKey := by
  unfold Fld.key bankKey bankSize CAL_LIM_LO; dsimp only; omega

theorem CAL_LIM_HI_key_lt (i : Nat) : (CAL_LIM_HI i).key < bankKey := by
  unfold Fld.key bankKey bankSize CAL_LIM_HI; dsimp only; omega

theorem CAL_LIM_STEP_MAX_key_lt (i : Nat) : (CAL_LIM_STEP_MAX i).key < bankKey := by
  unfold Fld.key bankKey bankSize CAL_LIM_STEP_MAX; dsimp only; omega

theorem stageValue_calActive : (stageValue r w1 s).calActive r = s.calActive r := by
  unfold State.calActive State.flag State.get
  simp (disch := decide) only [stageValue_raw_target]
  simp only [stageValue_raw (RCH_SEL_READY_key_lt _), stageValue_raw (RCH_SEL_HEAD_key_lt _),
    stageValue_raw (RCH_SEL_RZ_key_lt _)]

theorem Fld.InTable.key_lt {f : Fld} (h : f.InTable) : f.key < bankKey := Nat.lt_trans h.2 (by decide)

theorem Fld.InActive.key_lt {f : Fld} (h : f.InActive) : f.key < bankKey := Nat.lt_trans h (by decide)

theorem stageValue_calCheck (hg : g.Placed) (v : Int) : (stageValue r w1 s).calCheck r g v = s.calCheck r g v := by
  unfold State.calCheck State.geti
  simp (disch := decide) only [stageValue_raw_target]
  simp only [stageValue_calActive, stageValue_raw hg.table.key_lt, stageValue_raw (CAL_LIM_LO_key_lt _),
    stageValue_raw (CAL_LIM_HI_key_lt _), stageValue_raw (CAL_LIM_STEP_MAX_key_lt _)]
  rfl

/-! ### The answer -/

/-- The response of an apply, in the requester's copy. -/
def answerApply (r : Req) (n : Nat) (s : State) : State :=
  (s.set (CAL_APPLY_RESP_RESULT.of r) n).on (CAL_APPLY_RESP_DONE.of r)

theorem answerApply_result : (answerApply r n s).raw (CAL_APPLY_RESP_RESULT.of r) = n % 8 := by
  rw [answerApply, State.on_eq, State.raw_set_ne _ _ (Fld.of_key_ne (by decide) r), State.raw_set_self]
  rfl

theorem answerApply_raw {f : Fld} (hf : f.key < bankKey) : (answerApply r n s).raw f = s.raw f := by
  rw [answerApply, State.on_eq, State.raw_set_ne _ _ (Fld.key_ne_of hf _ _), State.raw_set_ne _ _ (Fld.key_ne_of hf _ _)]

theorem answerApply_pat : (answerApply r n s).pat = s.pat := rfl

/-! ### What an apply does -/

/-- The value that a write of CAL_APPLY_W1 carries. -/
def applyValue (w1 : Nat) : Int := sgn 10 (bits w1 0 10)

/-- A correction that passes: the table field and, while the active set holds that table, the active-set field. -/
def writeCorrection (r : Req) (g : CalTarget) (v : Int) (s : State) : State :=
  match g.active with
  | some f => if s.calActive r then (s.setI g.table v).setI f v else s.setI g.table v
  | none => s.setI g.table v

/-- An apply to a target that exists is refused or written by its check alone. -/
theorem calApply_staged (hen : (stageValue r w1 s).flag CAL_CTL_EN = true) (ht : (stageValue r w1 s).calTarget r = some g) :
    calApply r w1 s = answerApply r ((stageValue r w1 s).calCheck r g (applyValue w1))
      (if (stageValue r w1 s).calCheck r g (applyValue w1) ≠ 0 then
        calRefused ((stageValue r w1 s).raw (CAL_APPLY_W0_HEAD.of r)) g.item (stageValue r w1 s)
      else writeCorrection r g (applyValue w1) (stageValue r w1 s)) := by
  by_cases hcheck : (stageValue r w1 s).calCheck r g (applyValue w1) = 0
  · unfold stageValue applyValue at *
    simp only [calApply, hen, ht, hcheck, Bool.not_true, Bool.false_eq_true, if_false, ne_eq, not_true]
    rfl
  · unfold stageValue applyValue at *
    simp only [calApply, hen, ht, hcheck, Bool.not_true, Bool.false_eq_true, if_false, ne_eq, not_false_eq_true, if_true]
    rfl

/-- The same, by what the staging leaves: the target, the check and the head are those of the state before. -/
theorem calApply_eq (hen : s.flag CAL_CTL_EN = true) (ht : s.calTarget r = some g) :
    calApply r w1 s = answerApply r (s.calCheck r g (applyValue w1))
      (if s.calCheck r g (applyValue w1) ≠ 0 then
        calRefused (s.raw (CAL_APPLY_W0_HEAD.of r)) g.item (stageValue r w1 s)
      else writeCorrection r g (applyValue w1) (stageValue r w1 s)) := by
  obtain ⟨-, hg⟩ := calTarget_placed ht
  rw [calApply_staged (g := g) (by rwa [State.flag, stageValue_raw (by decide)]) (by rwa [stageValue_calTarget]),
    stageValue_calCheck hg, stageValue_raw_target (by decide)]

/-! ### The check -/

/-- A value in range goes to an active-set field only inside the quiet window (R351). -/
theorem calCheck_active {v : Int} {f : Fld} (hlo : s.geti (CAL_LIM_LO g.item) ≤ v) (hhi : v ≤ s.geti (CAL_LIM_HI g.item))
    (hstep : (v - (if g.signed then s.geti g.table else s.raw g.table)).natAbs ≤ s.raw (CAL_LIM_STEP_MAX g.item))
    (hf : g.active = some f) (hact : s.calActive r = true) :
    s.calCheck r g v = if s.inv.quiet.toList.getD (s.raw (CAL_APPLY_W0_CH.of r)) false then 0 else 3 := by
  have hrange : ¬ (v < s.geti (CAL_LIM_LO g.item) ∨ s.geti (CAL_LIM_HI g.item) < v) := by omega
  unfold State.calCheck
  dsimp only
  rw [if_neg hrange, if_neg (Nat.not_lt.2 hstep), hf, hact]
  cases s.inv.quiet.toList.getD (s.raw (CAL_APPLY_W0_CH.of r)) false <;> rfl

/-! ### A correction written -/

/-- The active-set field and the table field take one value. -/
theorem writeCorrection_active_eq {v : Int} {f : Fld} (hg : g.Placed) (hf : g.active = some f) (hact : s.calActive r = true) :
    (writeCorrection r g v s).raw f = (writeCorrection r g v s).raw g.table := by
  obtain ⟨hplace, hwidth⟩ := hg.active f hf
  have hne : g.table.key ≠ f.key := Nat.ne_of_gt (Nat.lt_of_lt_of_le hplace hg.table.1)
  unfold writeCorrection
  rw [hf]
  simp only [hact, if_true, State.setI_eq]
  rw [State.raw_set_self, State.raw_set_ne _ _ hne, State.raw_set_self, hwidth]

/-! ### A refusal -/

/-- The first register of PAT. -/
def patKey : Nat := 0x1480000 * 32

/-- A trigger changes no register before those of PAT. -/
theorem patTrig_raw_before {f : Fld} {d : Nat} (hf : f.key < patKey) : (patTrig i d s).raw f = s.raw f := by
  have hpat : patKey ≤ PAT_STAT_LOST.key ∧ patKey ≤ PAT_LOST_COUNT.key := by decide
  exact patTrig_raw_ne (by omega) (by omega)

/-- A refusal leaves what lies before the block of CAL. -/
theorem calRefused_raw {f : Fld} (hf : f.key < 0x780000 * 32) : (calRefused h i s).raw f = s.raw f := by
  have hmask : ∀ b < 15, Nat.testBit 0x80000000020080000000 b = false := by decide
  refine (calRefused_keeps h i s).regs f (hmask _ ?_)
  unfold Fld.blk bankSize
  omega

/-- A refusal is noted: its bit of CAL_STAT and its trigger. -/
def noteRefusal (h i : Nat) (s : State) : State := patTrig 52 (h * 256 + i) (s.on CAL_STAT_APPLY_REFUSED)

/-- An item of a head is held (R352), before its trigger. -/
def holdHead (h i : Nat) (s : State) : State :=
  (((s.set (CAL_LAST_LAST_T h i) (s.calReading h i)).off (CAL_LAST_FAILS h i)).onBit (CAL_HELD_HELD i) h).on CAL_STAT_HELD

theorem noteRefusal_raw {f : Fld} (hpat : f.key < patKey) (hne : f.key ≠ CAL_STAT_APPLY_REFUSED.key) :
    (noteRefusal h i s).raw f = s.raw f := by
  rw [noteRefusal, patTrig_raw_before hpat, State.on_eq, State.raw_set_ne _ _ hne]

/-- The registers of an item of a head. -/
theorem CAL_LAST_LAST_T_key (h i : Nat) : (CAL_LAST_LAST_T h i).key = 0xf81000 * 32 + 0x400 * (h % 20) + 0x80 * (i % 5) := by
  unfold Fld.key CAL_LAST_LAST_T; dsimp only; omega

theorem CAL_LAST_FAILS_key (h i : Nat) : (CAL_LAST_FAILS h i).key = (CAL_LAST_LAST_T h i).key + 27 := rfl

theorem CAL_HELD_HELD_key (i : Nat) : (CAL_HELD_HELD i).key = 0xf80030 * 32 + 0x80 * (i % 5) := by
  unfold Fld.key CAL_HELD_HELD; dsimp only; omega

theorem CAL_STAT_HELD_key : CAL_STAT_HELD.key = 0xf80004 * 32 + 3 := rfl

theorem CAL_STAT_APPLY_REFUSED_key : CAL_STAT_APPLY_REFUSED.key = 0xf80004 * 32 + 1 := rfl

theorem CAL_ITEM_SENSOR_key (i : Nat) : (CAL_ITEM_SENSOR i).key = 0xf80010 * 32 + 0x80 * (i % 5) + 20 := by
  unfold Fld.key CAL_ITEM_SENSOR; dsimp only; omega

theorem THM_SENS_T_key (k : Nat) : (THM_SENS_T k).key = 0xf40040 * 32 + 0x80 * (k % 16) := by
  unfold Fld.key THM_SENS_T; dsimp only; omega

/-- The reading of an item depends on its sensor's registers alone. -/
theorem calReading_congr {t : State}
    (hsame : ∀ f : Fld, f.key < patKey → f.key ≠ CAL_STAT_APPLY_REFUSED.key → t.raw f = s.raw f) (h i : Nat) :
    t.calReading h i = s.calReading h i := by
  have hsensor : t.raw (CAL_ITEM_SENSOR i) = s.raw (CAL_ITEM_SENSOR i) := by
    refine hsame _ ?_ ?_ <;> rw [CAL_ITEM_SENSOR_key] <;> simp only [patKey, CAL_STAT_APPLY_REFUSED_key] <;> omega
  have htemp (k : Nat) : t.raw (THM_SENS_T k) = s.raw (THM_SENS_T k) := by
    refine hsame _ ?_ ?_ <;> rw [THM_SENS_T_key] <;> simp only [patKey, CAL_STAT_APPLY_REFUSED_key] <;> omega
  unfold State.calReading State.get
  simp only [hsensor, htemp, hsame THM_TMAX_TMAX (by decide) (by decide)]

theorem noteRefusal_calReading : (noteRefusal h i s).calReading h i = s.calReading h i :=
  calReading_congr (fun _ => noteRefusal_raw) h i

theorem stageValue_calReading : (stageValue r w1 s).calReading h i = s.calReading h i :=
  calReading_congr (fun _ hf _ => stageValue_raw (Nat.lt_trans hf (by decide))) h i

/-- A reading is as wide as the field that keeps it. -/
theorem calReading_lt : s.calReading h i < 2 ^ 11 := by
  unfold State.calReading
  split
  · exact State.raw_lt _ (THM_SENS_T _)
  · exact State.raw_lt _ THM_TMAX_TMAX
  · exact State.raw_lt _ (THM_SENS_T _)

theorem holdHead_lastT : (holdHead h i s).raw (CAL_LAST_LAST_T h i) = s.calReading h i := by
  have hkeys : (CAL_LAST_LAST_T h i).key ≠ CAL_STAT_HELD.key ∧ (CAL_LAST_LAST_T h i).key ≠ (CAL_HELD_HELD i).key ∧
      (CAL_LAST_LAST_T h i).key ≠ (CAL_LAST_FAILS h i).key := by
    rw [CAL_LAST_FAILS_key, CAL_LAST_LAST_T_key, CAL_HELD_HELD_key, CAL_STAT_HELD_key]; omega
  obtain ⟨hstat, hheld, hfails⟩ := hkeys
  rw [holdHead, State.on_eq, State.raw_set_ne _ _ hstat, State.onBit_eq, State.raw_set_ne _ _ hheld, State.off_eq,
    State.raw_set_ne _ _ hfails, State.raw_set_self]
  exact Nat.mod_eq_of_lt calReading_lt

theorem holdHead_fails : (holdHead h i s).raw (CAL_LAST_FAILS h i) = 0 := by
  have hkeys : (CAL_LAST_FAILS h i).key ≠ CAL_STAT_HELD.key ∧ (CAL_LAST_FAILS h i).key ≠ (CAL_HELD_HELD i).key := by
    rw [CAL_LAST_FAILS_key, CAL_LAST_LAST_T_key, CAL_HELD_HELD_key, CAL_STAT_HELD_key]; omega
  obtain ⟨hstat, hheld⟩ := hkeys
  rw [holdHead, State.on_eq, State.raw_set_ne _ _ hstat, State.onBit_eq, State.raw_set_ne _ _ hheld, State.off_eq,
    State.raw_set_self, Nat.zero_mod]

theorem holdHead_held (hh : h < 20) : (holdHead h i s).bit (CAL_HELD_HELD i) h = true := by
  have hstat : (CAL_HELD_HELD i).key ≠ CAL_STAT_HELD.key := by rw [CAL_HELD_HELD_key, CAL_STAT_HELD_key]; omega
  have hwidth : (CAL_HELD_HELD i).width = 20 := rfl
  rw [State.bit, holdHead, State.on_eq, State.raw_set_ne _ _ hstat, State.onBit_eq, State.raw_set_self, hwidth, bitOf_mod,
    bitOf_setBit, decide_eq_true hh, decide_eq_true rfl]
  rfl

/-- Holding a head leaves what lies past the block of CAL. -/
theorem holdHead_raw_pat {f : Fld} (hf : patKey ≤ f.key) : (holdHead h i s).raw f = s.raw f := by
  have hkeys : CAL_STAT_HELD.key < patKey ∧ (CAL_HELD_HELD i).key < patKey ∧ (CAL_LAST_FAILS h i).key < patKey ∧
      (CAL_LAST_LAST_T h i).key < patKey := by
    rw [CAL_LAST_FAILS_key, CAL_LAST_LAST_T_key, CAL_HELD_HELD_key, CAL_STAT_HELD_key, patKey]; omega
  obtain ⟨hstat, hheld, hfails, hlast⟩ := hkeys
  rw [holdHead, State.on_eq, State.raw_set_ne _ _ (by omega), State.onBit_eq, State.raw_set_ne _ _ (by omega), State.off_eq,
    State.raw_set_ne _ _ (by omega), State.raw_set_ne _ _ (by omega)]

theorem holdHead_pat : (holdHead h i s).pat = s.pat := rfl

/-- The refusal that brings FAILS to MAXFAIL holds the head (R352). -/
theorem calRefused_holds (hmax : s.get CAL_CTL_MAXFAIL ≤ s.raw (CAL_LAST_FAILS h i) + 1) :
    calRefused h i s = patTrig 53 (h * 256 + i) (holdHead h i (noteRefusal h i s)) := by
  have hfails : (noteRefusal h i s).raw (CAL_LAST_FAILS h i) = s.raw (CAL_LAST_FAILS h i) := by
    refine noteRefusal_raw ?_ ?_ <;> rw [CAL_LAST_FAILS_key, CAL_LAST_LAST_T_key] <;>
      simp only [patKey, CAL_STAT_APPLY_REFUSED_key] <;> omega
  have hlimit : (noteRefusal h i s).get CAL_CTL_MAXFAIL = s.get CAL_CTL_MAXFAIL := by
    rw [State.get, noteRefusal_raw (by decide) (by decide), State.get]
  rw [← hfails, ← hlimit] at hmax
  exact if_pos hmax

/-- What the head's registers hold then. -/
theorem calRefused_holds_raw {f : Fld} (hmax : s.get CAL_CTL_MAXFAIL ≤ s.raw (CAL_LAST_FAILS h i) + 1) (hf : f.key < patKey) :
    (calRefused h i s).raw f = (holdHead h i (noteRefusal h i s)).raw f := by
  rw [calRefused_holds hmax, patTrig_raw_before hf]

/-- The refusal that holds a head raises both triggers. -/
theorem calRefused_holds_queue (hmax : s.get CAL_CTL_MAXFAIL ≤ s.raw (CAL_LAST_FAILS h i) + 1)
    (hrefused : s.bit (PAT_TEN_EN 1) 20 = true) (hheld : s.bit (PAT_TEN_EN 1) 21 = true) (hroom : s.pat.queue.length ≤ 14) :
    (calRefused h i s).pat.queue = s.pat.queue ++ [(52, h * 256 + i), (53, h * 256 + i)] := by
  have hnote : (noteRefusal h i s).pat.queue = s.pat.queue ++ [(52, h * 256 + i)] :=
    patTrig_queue (i := 52) (by rwa [State.bit, State.on_eq, State.raw_set_ne _ _ (by decide)])
      (Nat.lt_of_le_of_lt hroom (by decide))
  have hen : (holdHead h i (noteRefusal h i s)).bit (PAT_TEN_EN 1) 21 = true := by
    rw [State.bit, holdHead_raw_pat (by decide), noteRefusal, patTrig_raw_ne (by decide) (by decide), State.on_eq,
      State.raw_set_ne _ _ (by decide)]
    exact hheld
  have hroom' : (holdHead h i (noteRefusal h i s)).pat.queue.length < 16 := by
    rw [holdHead_pat, hnote, List.length_append, List.length_singleton]
    omega
  rw [calRefused_holds hmax, patTrig_queue (i := 53) hen hroom', holdHead_pat, hnote, List.append_assoc]
  rfl

theorem exec_calApply (r : Req) (w1 : Word) (hrun : s.runs) : exec (.calApply r w1) s = .next (calApply r w1.toNat s) :=
  congrArg Host.Outcome.next (live_running _ hrun)

/-! ### An apply, refused and written -/

section
variable (hen : s.flag CAL_CTL_EN = true) (ht : s.calTarget r = some g)
include hen ht

/-- A refused apply answers its RESULT and leaves the old values in use. -/
theorem calApply_refused (hcheck : s.calCheck r g (applyValue w1) ≠ 0) :
    (calApply r w1 s).raw (CAL_APPLY_RESP_RESULT.of r) = s.calCheck r g (applyValue w1) % 8 ∧
      (calApply r w1 s).raw g.table = s.raw g.table ∧ ∀ f, g.active = some f → (calApply r w1 s).raw f = s.raw f := by
  obtain ⟨-, hg⟩ := calTarget_placed ht
  rw [calApply_eq hen ht, if_pos hcheck]
  refine ⟨answerApply_result, ?_, fun f hf => ?_⟩
  · rw [answerApply_raw hg.table.key_lt, calRefused_raw hg.table.2, stageValue_raw hg.table.key_lt]
  · obtain ⟨hplace, -⟩ := hg.active f hf
    rw [answerApply_raw hplace.key_lt, calRefused_raw (Nat.lt_trans hplace (by decide)), stageValue_raw hplace.key_lt]

/-- An apply written while the active set holds the table: both fields take one value. -/
theorem calApply_written {f : Fld} (hcheck : s.calCheck r g (applyValue w1) = 0) (hf : g.active = some f)
    (hact : s.calActive r = true) :
    (calApply r w1 s).raw (CAL_APPLY_RESP_RESULT.of r) = 0 ∧ (calApply r w1 s).raw f = (calApply r w1 s).raw g.table := by
  obtain ⟨-, hg⟩ := calTarget_placed ht
  obtain ⟨hplace, -⟩ := hg.active f hf
  rw [calApply_eq hen ht, hcheck, if_neg (Decidable.not_not.2 rfl)]
  refine ⟨answerApply_result, ?_⟩
  rw [answerApply_raw hplace.key_lt, answerApply_raw hg.table.key_lt,
    writeCorrection_active_eq hg hf (stageValue_calActive.trans hact)]

/-- The refused apply that brings FAILS to MAXFAIL holds the head (R352). -/
theorem calApply_holds (hcheck : s.calCheck r g (applyValue w1) ≠ 0) (hh : h = s.raw (CAL_APPLY_W0_HEAD.of r))
    (hmax : s.get CAL_CTL_MAXFAIL ≤ s.raw (CAL_LAST_FAILS h g.item) + 1) :
    (calApply r w1 s).raw (CAL_LAST_LAST_T h g.item) = s.calReading h g.item ∧
      (calApply r w1 s).raw (CAL_LAST_FAILS h g.item) = 0 ∧ (calApply r w1 s).bit (CAL_HELD_HELD g.item) h = true ∧
      (s.bit (PAT_TEN_EN 1) 20 = true → s.bit (PAT_TEN_EN 1) 21 = true → s.pat.queue.length ≤ 14 →
        (calApply r w1 s).pat.queue.map (·.1) = s.pat.queue.map (·.1) ++ [52, 53]) := by
  obtain ⟨hhead, -⟩ := calTarget_placed ht
  have hkeys : (CAL_LAST_LAST_T h g.item).key < patKey ∧ (CAL_LAST_FAILS h g.item).key < patKey ∧
      (CAL_HELD_HELD g.item).key < patKey := by
    rw [CAL_LAST_FAILS_key, CAL_LAST_LAST_T_key, CAL_HELD_HELD_key, patKey]; omega
  obtain ⟨hlast, hfails, hheld⟩ := hkeys
  have hlow : patKey < bankKey := by decide
  have hmax' : (stageValue r w1 s).get CAL_CTL_MAXFAIL ≤ (stageValue r w1 s).raw (CAL_LAST_FAILS h g.item) + 1 := by
    rwa [State.get, stageValue_raw (by decide), stageValue_raw (Nat.lt_trans hfails hlow)]
  rw [calApply_eq hen ht, if_pos hcheck, ← hh]
  refine ⟨?_, ?_, ?_, fun hrefused hheldEn hroom => ?_⟩
  · rw [answerApply_raw (Nat.lt_trans hlast hlow), calRefused_holds_raw hmax' hlast, holdHead_lastT, noteRefusal_calReading,
      stageValue_calReading]
  · rw [answerApply_raw (Nat.lt_trans hfails hlow), calRefused_holds_raw hmax' hfails, holdHead_fails]
  · rw [State.bit, answerApply_raw (Nat.lt_trans hheld hlow), calRefused_holds_raw hmax' hheld]
    exact holdHead_held (hh ▸ hhead)
  · rw [answerApply_pat, calRefused_holds_queue hmax' (by rwa [State.bit, stageValue_raw (by decide)])
      (by rwa [State.bit, stageValue_raw (by decide)]) hroom, List.map_append]
    rfl

end

end Sys2Proof.Machine

open Sys2Proof Sys2Proof.Machine

/-- Settles O50: the check decides between a refusal, which never reaches the channels' tables, and a write of both fields. -/
theorem calibrationRefusals : Obligations.CalibrationRefusals := by
  unfold Obligations.CalibrationRefusals
  refine ⟨?window, ?hold⟩
  case window =>
    intro r w1 g f s hrun hen ht hlo hhi hstep hf hact
    have hcheck := calCheck_active hlo hhi hstep hf hact
    refine ⟨fun hquiet => ?_, fun hquiet => ?_⟩
    · rw [hquiet, if_neg (by decide)] at hcheck
      obtain ⟨hresult, htable, hactive⟩ := calApply_refused hen ht (w1 := w1.toNat) (by rw [applyValue, hcheck]; decide)
      rw [applyValue, hcheck] at hresult
      exact ⟨_, exec_calApply r w1 hrun, hresult, htable, hactive f hf⟩
    · rw [hquiet, if_pos rfl] at hcheck
      exact ⟨_, exec_calApply r w1 hrun, calApply_written hen ht hcheck hf hact⟩
  case hold =>
    intro r w1 g s hrun hen ht hcheck hmax
    obtain ⟨-, htable, hactive⟩ := calApply_refused hen ht hcheck
    obtain ⟨hlast, hfails, hheld, hqueue⟩ := calApply_holds hen ht hcheck rfl hmax
    exact ⟨_, exec_calApply r w1 hrun, hlast, hfails, hheld, hqueue, htable, hactive⟩
end

section
/-!
PROOFS. Failures of clocks (R331 to R333): what a failure of FRC, SRC or a REFCLK leaves, and that a failure of MXO or of a PLL
coasts while FRC is failed.
-/
namespace Sys2Proof.Machine

variable {s : State} {k : Fin 5} {p : Fin 2} {f g : Fld} {v count mask : Nat}

/-! ### A monitor's verdict -/

/-- A second failing window declares the failure (R331): the source is judged, since MXO runs and no port is in L1.2. -/
theorem monitorWindow_declares (hen : s.flag CLK_CTL_MON_EN = true) (hmxo : s.clk.failed[(0 : Fin 5)] = false)
    (hlink : k.val < 3 ∨ s.hif.l12 = #v[false, false]) (hcount : s.monFails k.val count = true)
    (hbad : s.clk.bad[k] = true) (hnew : s.clk.failed[k] = false) : monitorWindow k count s = sourceFail k s := by
  have hawake : (decide (3 ≤ k.val) && s.hif.l12.toList.getD (k.val - 3) false) = false := by
    rcases hlink with hlow | hno
    · rw [decide_eq_false (Nat.not_le.2 hlow), Bool.false_and]
    · have hclear : ∀ k : Fin 5, (#v[false, false] : Vector Bool 2).toList.getD (k.val - 3) false = false := by decide
      rw [hno, hclear, Bool.and_false]
  have hmxo' : s.clk.failed[0] = false := hmxo
  unfold monitorWindow
  simp only [hen, hmxo', hawake, hcount, hbad, hnew, Bool.not_true, Bool.not_false, Bool.and_false, Bool.or_false, Bool.and_true,
    Bool.false_eq_true, if_false, if_true]

/-! ### A failure outside both policies -/

/-- A source is marked failed: it neither runs nor is stable. -/
def stopSource (k : Fin 5) (s : State) : State :=
  modClk (fun c => { c with failed := c.failed.set k true }) ((s.offBit CLK_SRC_STAT_RUN k.val).offBit CLK_SRC_STAT_STABLE k.val)

/-- The failure of a source is recorded in its flag `f` of CLK_STAT and raises trigger 45. -/
def flagFailure (k : Fin 5) (f : Fld) (v : Nat) (s : State) : State := clkPat 45 ((stopSource k s).set f v)

theorem sourceFail_mxo : sourceFail 0 s = mxoFail (stopSource 0 s) := rfl

theorem sourceFail_frc : sourceFail 1 s = flagFailure 1 CLK_STAT_FRC_FAIL 1 s := rfl

theorem sourceFail_src : sourceFail 2 s = flagFailure 2 CLK_STAT_SRC_FAIL 1 s := rfl

theorem sourceFail_ref (p : Fin 2) : sourceFail (p.addNat 3) s =
    (flagFailure (p.addNat 3) CLK_STAT_REF_FAIL
      (setBit ((stopSource (p.addNat 3) s).raw CLK_STAT_REF_FAIL) p.val) s).off (HIF_PORT_LINK_UP p.val) := rfl


theorem stopSource_raw (hrun : g.key ≠ CLK_SRC_STAT_RUN.key) (hstable : g.key ≠ CLK_SRC_STAT_STABLE.key) :
    (stopSource k s).raw g = s.raw g := by
  rw [stopSource, modClk_raw, State.offBit_eq, State.raw_set_ne _ _ hstable, State.offBit_eq, State.raw_set_ne _ _ hrun]

theorem clkPat_raw_before {i : Nat} (hg : g.key < patKey) : (clkPat i s).raw g = s.raw g := patTrig_raw_before hg

theorem flagFailure_raw_flag (hf : f.key < patKey) : (flagFailure k f v s).raw f = v % 2 ^ f.width := by
  rw [flagFailure, clkPat_raw_before hf, State.raw_set_self]

theorem flagFailure_sameRegsBut :
    sameRegsBut [f, CLK_SRC_STAT_RUN, CLK_SRC_STAT_STABLE, PAT_STAT_LOST, PAT_LOST_COUNT] s (flagFailure k f v s) := by
  intro g hg
  simp only [List.forall_mem_cons] at hg
  obtain ⟨hflag, hrun, hstable, hmark, hcount, -⟩ := hg
  rw [flagFailure, clkPat, patTrig_raw_ne hmark hcount, State.raw_set_ne _ _ hflag, stopSource_raw hrun hstable]

theorem flagFailure_triggers (hf : f.key < patKey) (hen : s.bit (PAT_TEN_EN 1) 13 = true) (hroom : s.pat.queue.length < 16) :
    (flagFailure k f v s).pat.queue.map (·.1) = s.pat.queue.map (·.1) ++ [45] := by
  have hpat : patKey < (PAT_TEN_EN 1).key := by decide
  have hen' : ((stopSource k s).set f v).bit (PAT_TEN_EN 1) 13 = true := by
    rw [State.bit, State.raw_set_ne _ _ (by omega), stopSource_raw (by decide) (by decide)]
    exact hen
  have hqueue : (flagFailure k f v s).pat.queue = s.pat.queue ++ [(45, _)] := patTrig_queue (i := 45) hen' hroom
  rw [hqueue, List.map_append]
  rfl

theorem flagFailure_out : (flagFailure k f v s).out = s.out := (clkPat_keeps 45 _).parts.out rfl

/-- Neither policy acts: every domain keeps its clock, and the references theirs. -/
theorem flagFailure_clk : (flagFailure k f v s).clk = { s.clk with failed := s.clk.failed.set k true } :=
  (clkPat_keeps 45 _).parts.clk rfl

/-- What the failure of a source that neither policy handles leaves (R333): the trigger, every clock where it was, no output, and of
the registers only the sources' flags, the lost links and the count of lost triggers changed. -/
structure HandledByNeither (s t : State) : Prop where
  triggers : s.bit (PAT_TEN_EN 1) 13 = true → s.pat.queue.length < 16 → t.pat.queue.map (·.1) = s.pat.queue.map (·.1) ++ [45]
  cur : t.clk.cur = s.clk.cur
  refFrc : t.clk.refFrc = s.clk.refFrc
  out : t.out = s.out
  regs : sameRegsBut [CLK_STAT_FRC_FAIL, CLK_STAT_SRC_FAIL, CLK_STAT_REF_FAIL, CLK_SRC_STAT_RUN, CLK_SRC_STAT_STABLE,
    HIF_PORT_LINK_UP 0, HIF_PORT_LINK_UP 1, PAT_STAT_LOST, PAT_LOST_COUNT] s t

/-- The flags of CLK_STAT for FRC, SRC and the REFCLKs. -/
def sourceFlags : List Fld := [CLK_STAT_FRC_FAIL, CLK_STAT_SRC_FAIL, CLK_STAT_REF_FAIL]

theorem sourceFlags_before_pat : ∀ f ∈ sourceFlags, f.key < patKey := by decide

theorem flagFailure_neither (hf : f ∈ sourceFlags) : HandledByNeither s (flagFailure k f v s) where
  triggers := flagFailure_triggers (sourceFlags_before_pat f hf)
  cur := by rw [flagFailure_clk]
  refFrc := by rw [flagFailure_clk]
  out := flagFailure_out
  regs g hg := by
    have hwithin : ∀ f ∈ sourceFlags, ∀ w ∈ [f, CLK_SRC_STAT_RUN, CLK_SRC_STAT_STABLE, PAT_STAT_LOST, PAT_LOST_COUNT],
        w ∈ [CLK_STAT_FRC_FAIL, CLK_STAT_SRC_FAIL, CLK_STAT_REF_FAIL, CLK_SRC_STAT_RUN, CLK_SRC_STAT_STABLE,
          HIF_PORT_LINK_UP 0, HIF_PORT_LINK_UP 1, PAT_STAT_LOST, PAT_LOST_COUNT] := by decide
    exact flagFailure_sameRegsBut g fun w hw => hg w (hwithin f hf w hw)

theorem HandledByNeither.linkLost {t : State} (h : HandledByNeither s t) (p : Fin 2) :
    HandledByNeither s (t.off (HIF_PORT_LINK_UP p.val)) where
  triggers := h.triggers
  cur := h.cur
  refFrc := h.refFrc
  out := h.out
  regs g hg := by
    have hlink : g.key ≠ (HIF_PORT_LINK_UP p.val).key := hg _ (by decide +revert)
    rw [State.off_eq, State.raw_set_ne _ _ hlink, h.regs g hg]

/-- The sources other than MXO. -/
theorem source_cases (hk : k.val ≠ 0) : k = 1 ∨ k = 2 ∨ ∃ p : Fin 2, k = p.addNat 3 := by
  decide +revert

theorem sourceFail_neither (hk : k.val ≠ 0) : HandledByNeither s (sourceFail k s) := by
  rcases source_cases hk with rfl | rfl | ⟨p, rfl⟩
  · exact flagFailure_neither (by decide)
  · exact flagFailure_neither (by decide)
  · exact (flagFailure_neither (by decide)).linkLost p

theorem sourceFail_frc_flag : (sourceFail 1 s).flag CLK_STAT_FRC_FAIL = true := by
  rw [sourceFail_frc, State.flag_eq, flagFailure_raw_flag (by decide)]
  rfl

theorem sourceFail_src_flag : (sourceFail 2 s).flag CLK_STAT_SRC_FAIL = true := by
  rw [sourceFail_src, State.flag_eq, flagFailure_raw_flag (by decide)]
  rfl

theorem sourceFail_ref_flag (p : Fin 2) : (sourceFail (p.addNat 3) s).bit CLK_STAT_REF_FAIL p.val = true := by
  have hlink : CLK_STAT_REF_FAIL.key ≠ (HIF_PORT_LINK_UP p.val).key := by decide +revert
  have hwidth : CLK_STAT_REF_FAIL.width = 2 := rfl
  rw [State.bit, sourceFail_ref, State.off_eq, State.raw_set_ne _ _ hlink, flagFailure_raw_flag (by decide), hwidth, bitOf_mod,
    bitOf_setBit, decide_eq_true p.isLt, decide_eq_true rfl]
  rfl

/-- The link of a port whose REFCLK fails is lost. -/
theorem sourceFail_ref_linkLost (p : Fin 2) : (sourceFail (p.addNat 3) s).flag (HIF_PORT_LINK_UP p.val) = false := by
  rw [sourceFail_ref, State.flag_eq, State.off_eq, State.raw_set_self, Nat.zero_mod]
  rfl

/-! ### Coasting -/

/-- A PLL coasts: it is out of lock. -/
def coastPll (p : Nat) (s : State) : State := ((s.on (CLK_PLL_COASTING p)).off (CLK_PLL_LOCK p)).offBit CLK_SRC_STAT_LOCK p

/-- A PLL of a mask coasts when it is enabled. -/
def coastMasked (mask p : Nat) (s : State) : State := if bitOf mask p && s.flag (CLK_PLL_EN p) then coastPll p s else s

theorem coastPlls_eq : coastPlls mask s = (coastMasked mask 1 (coastMasked mask 0 s)).on CLK_STAT_COAST := rfl

theorem coastMasked_sameRegsBut {p : Nat} :
    sameRegsBut [CLK_PLL_COASTING p, CLK_PLL_LOCK p, CLK_SRC_STAT_LOCK] s (coastMasked mask p s) := by
  intro g hg
  simp only [List.forall_mem_cons] at hg
  obtain ⟨hcoasting, hlock, hstat, -⟩ := hg
  unfold coastMasked
  split
  · rw [coastPll, State.offBit_eq, State.raw_set_ne _ _ hstat, State.off_eq, State.raw_set_ne _ _ hlock, State.on_eq,
      State.raw_set_ne _ _ hcoasting]
  · rfl

/-- The bits of one PLL register lie apart. -/
theorem CLK_PLL_COASTING_key_ne (p : Fin 2) : (CLK_PLL_COASTING p.val).key ≠ (CLK_PLL_LOCK p.val).key ∧
    (CLK_PLL_COASTING p.val).key ≠ CLK_SRC_STAT_LOCK.key ∧ (CLK_PLL_COASTING p.val).key ≠ CLK_STAT_COAST.key := by
  decide +revert

theorem coastMasked_coasting (p : Fin 2) (hmask : bitOf mask p.val = true) (hen : s.flag (CLK_PLL_EN p.val) = true) :
    (coastMasked mask p.val s).raw (CLK_PLL_COASTING p.val) = 1 := by
  obtain ⟨hlock, hstat, -⟩ := CLK_PLL_COASTING_key_ne p
  rw [coastMasked, hmask, hen, Bool.and_self, if_pos rfl, coastPll, State.offBit_eq, State.raw_set_ne _ _ hstat, State.off_eq,
    State.raw_set_ne _ _ hlock, State.on_eq, State.raw_set_self]
  rfl

/-- An enabled PLL of the mask coasts; the other one's turn leaves its bits. -/
theorem coastPlls_coasting (p : Fin 2) (hmask : bitOf mask p.val = true) (hen : s.flag (CLK_PLL_EN p.val) = true) :
    (coastPlls mask s).flag (CLK_PLL_COASTING p.val) = true := by
  obtain ⟨-, -, hcoast⟩ := CLK_PLL_COASTING_key_ne p
  have hraw : (coastMasked mask 1 (coastMasked mask 0 s)).raw (CLK_PLL_COASTING p.val) = 1 := by
    match p with
    | 0 => exact (coastMasked_sameRegsBut _ (by decide)).trans (coastMasked_coasting 0 hmask hen)
    | 1 =>
      have hen' : (coastMasked mask 0 s).flag (CLK_PLL_EN 1) = true := by
        rw [State.flag_eq, coastMasked_sameRegsBut _ (by decide)]
        exact hen
      exact coastMasked_coasting 1 hmask hen'
  rw [State.flag_eq, coastPlls_eq, State.on_eq, State.raw_set_ne _ _ hcoast, hraw]
  rfl

theorem coastPlls_coast : (coastPlls mask s).flag CLK_STAT_COAST = true := by
  rw [State.flag_eq, coastPlls_eq, State.on_eq, State.raw_set_self]
  rfl

/-- Coasting changes no other register. -/
theorem coastPlls_raw (hcoast : g.key ≠ CLK_STAT_COAST.key) (hstat : g.key ≠ CLK_SRC_STAT_LOCK.key)
    (hpll : ∀ p : Fin 2, g.key ≠ (CLK_PLL_COASTING p.val).key ∧ g.key ≠ (CLK_PLL_LOCK p.val).key) :
    (coastPlls mask s).raw g = s.raw g := by
  have hone (p : Fin 2) (t : State) : (coastMasked mask p.val t).raw g = t.raw g :=
    coastMasked_sameRegsBut g (by simp [hpll p, hstat])
  rw [coastPlls_eq, State.on_eq, State.raw_set_ne _ _ hcoast]
  exact (hone 1 _).trans (hone 0 _)

theorem coastPlls_clk : (coastPlls mask s).clk = s.clk := (coastPlls_keeps mask s).parts.clk rfl

theorem coastPlls_out : (coastPlls mask s).out = s.out := (coastPlls_keeps mask s).parts.out rfl

/-! ### Failures while FRC is failed -/

theorem coasts_of_frcFailed (hfrc : s.clk.failed[(1 : Fin 5)] = true) (pol : Fld) : s.coasts pol = true := by
  have hfrc' : s.clk.failed[1] = true := hfrc
  rw [State.coasts, hfrc', Bool.or_true]

/-- MXO is failed, and the wall counter goes on from FRC (R58). -/
def wallOnFrc (s : State) : State :=
  modClk (fun c => { c with cur := c.cur.set 3 3 })
    (((s.on CLK_STAT_MXO_FAIL).set (CLK_MUX_SEL 3) 3).on INV_WTMR_STAT_WALL_DEGRADED)

theorem wallOnFrc_raw (hflag : g.key ≠ CLK_STAT_MXO_FAIL.key) (hsel : g.key ≠ (CLK_MUX_SEL 3).key)
    (hwall : g.key ≠ INV_WTMR_STAT_WALL_DEGRADED.key) : (wallOnFrc s).raw g = s.raw g := by
  rw [wallOnFrc, modClk_raw, State.on_eq, State.raw_set_ne _ _ hwall, State.raw_set_ne _ _ hsel, State.on_eq,
    State.raw_set_ne _ _ hflag]

theorem wallOnFrc_flag : (wallOnFrc s).flag CLK_STAT_MXO_FAIL = true := by
  rw [State.flag_eq, wallOnFrc, modClk_raw, State.on_eq, State.raw_set_ne _ _ (by decide), State.raw_set_ne _ _ (by decide),
    State.on_eq, State.raw_set_self]
  rfl

theorem mxoFail_coasts (hfrc : s.clk.failed[(1 : Fin 5)] = true) : mxoFail s = coastPlls 3 (wallOnFrc s) :=
  if_pos (coasts_of_frcFailed (s := wallOnFrc s) hfrc _)

/-- The enable of a PLL is none of the bits that a failure of MXO or of the PLL changes before the PLL coasts. -/
theorem CLK_PLL_EN_apart (p : Fin 2) : ∀ g ∈ [CLK_SRC_STAT_RUN, CLK_SRC_STAT_STABLE, CLK_SRC_STAT_LOCK, CLK_STAT_MXO_FAIL,
    CLK_STAT_PLL_FAIL, CLK_MUX_SEL 3, INV_WTMR_STAT_WALL_DEGRADED, CLK_PLL_LOCK p.val], (CLK_PLL_EN p.val).key ≠ g.key := by
  decide +revert

/-- A PLL out of lock, with its flag. -/
def pllOut (p : Fin 2) (s : State) : State :=
  ((s.off (CLK_PLL_LOCK p.val)).offBit CLK_SRC_STAT_LOCK p.val).on CLK_STAT_PLL_FAIL

theorem pllOut_raw_en : (pllOut p s).raw (CLK_PLL_EN p.val) = s.raw (CLK_PLL_EN p.val) := by
  have hapart := CLK_PLL_EN_apart p
  rw [pllOut, State.on_eq, State.raw_set_ne _ _ (hapart _ (by simp)), State.offBit_eq, State.raw_set_ne _ _ (hapart _ (by simp)),
    State.off_eq, State.raw_set_ne _ _ (hapart _ (by simp))]

theorem pllUnlock_coasts (hfrc : s.clk.failed[(1 : Fin 5)] = true) (hlock : s.flag (CLK_PLL_LOCK p.val) = true) :
    pllUnlock p s = coastPlls (2 ^ p.val) (pllOut p s) :=
  (if_pos hlock).trans (if_pos (coasts_of_frcFailed (s := pllOut p s) hfrc _))

/-- A failure of MXO while FRC is failed (R333): every enabled PLL coasts, and CORE, BUS and the references stay where they are. -/
theorem sourceFail_mxo_coasts (hfrc : s.clk.failed[(1 : Fin 5)] = true) :
    (sourceFail 0 s).flag CLK_STAT_COAST = true ∧ (sourceFail 0 s).flag CLK_STAT_MXO_FAIL = true ∧
      (sourceFail 0 s).clk.refFrc = s.clk.refFrc ∧ (sourceFail 0 s).raw (CLK_MUX_SEL 0) = s.raw (CLK_MUX_SEL 0) ∧
      (sourceFail 0 s).raw (CLK_MUX_SEL 1) = s.raw (CLK_MUX_SEL 1) ∧ (sourceFail 0 s).out = s.out ∧
      ∀ p : Fin 2, s.flag (CLK_PLL_EN p.val) = true → (sourceFail 0 s).flag (CLK_PLL_COASTING p.val) = true := by
  have hfrc' : (stopSource 0 s).clk.failed[(1 : Fin 5)] = true := by
    simpa [stopSource, modClk] using hfrc
  have hsel (d : Fin 2) : (coastPlls 3 (wallOnFrc (stopSource 0 s))).raw (CLK_MUX_SEL d.val) = s.raw (CLK_MUX_SEL d.val) := by
    rw [coastPlls_raw (by decide +revert) (by decide +revert) (by decide +revert),
      wallOnFrc_raw (by decide +revert) (by decide +revert) (by decide +revert),
      stopSource_raw (by decide +revert) (by decide +revert)]
  rw [sourceFail_mxo, mxoFail_coasts hfrc']
  refine ⟨coastPlls_coast, ?flag, ?refs, hsel 0, hsel 1, coastPlls_out, fun p hen => coastPlls_coasting p ?mask ?enabled⟩
  case flag =>
    rw [State.flag_eq, coastPlls_raw (by decide) (by decide) (by decide)]
    exact wallOnFrc_flag
  case refs => rw [coastPlls_clk]; rfl
  case mask => exact (by decide : ∀ p : Fin 2, bitOf 3 p.val = true) p
  case enabled =>
    have hapart := CLK_PLL_EN_apart p
    rw [State.flag_eq, wallOnFrc_raw (hapart _ (by simp)) (hapart _ (by simp)) (hapart _ (by simp)),
      stopSource_raw (hapart _ (by simp)) (hapart _ (by simp))]
    exact hen

/-- A failure of a PLL while FRC is failed (R333): that PLL coasts, and no domain moves. -/
theorem pllUnlock_frcFailed (hfrc : s.clk.failed[(1 : Fin 5)] = true) (hlock : s.flag (CLK_PLL_LOCK p.val) = true)
    (hen : s.flag (CLK_PLL_EN p.val) = true) :
    (pllUnlock p s).flag CLK_STAT_COAST = true ∧ (pllUnlock p s).flag CLK_STAT_PLL_FAIL = true ∧
      (pllUnlock p s).flag (CLK_PLL_COASTING p.val) = true ∧ (pllUnlock p s).clk.cur = s.clk.cur ∧
      (pllUnlock p s).out = s.out := by
  rw [pllUnlock_coasts hfrc hlock]
  refine ⟨coastPlls_coast, ?flag, coastPlls_coasting p ?mask ?enabled, ?cur, coastPlls_out⟩
  case flag =>
    rw [State.flag_eq, coastPlls_raw (by decide) (by decide) (by decide), pllOut, State.on_eq, State.raw_set_self]
    rfl
  case mask => rw [bitOf_eq, Nat.testBit_two_pow_self]
  case enabled =>
    rw [State.flag_eq, pllOut_raw_en]
    exact hen
  case cur => rw [coastPlls_clk]; rfl

/-! ### The commands -/

theorem exec_monitorWindow (k : Fin 5) (count : Nat) (hrun : s.runs) :
    exec (.monitorWindow k count) s = .next (monitorWindow k count s) := congrArg Host.Outcome.next (live_running _ hrun)

theorem exec_pllUnlock (p : Fin 2) (hrun : s.runs) (hen : s.flag CLK_CTL_MON_EN = true) :
    exec (.pllUnlock p) s = .next (pllUnlock p s) :=
  congrArg Host.Outcome.next ((live_running _ hrun).trans (by rw [hen, State.when_true]))

end Sys2Proof.Machine

open Sys2Proof Sys2Proof.Machine

/-- Settles O51: a failure outside the policies is a flag and a trigger; with FRC failed every policy reads as COAST. -/
theorem otherClockFailures : Obligations.OtherClockFailures := by
  unfold Obligations.OtherClockFailures
  refine ⟨?others, ?mxo, ?pll⟩
  case others =>
    intro k count s hrun hen hmxo hnew hlink hcount hbad hk
    obtain ⟨htriggers, hcur, hrefs, hout, hregs⟩ := sourceFail_neither (s := s) hk
    refine ⟨_, exec_monitorWindow k count hrun, ?_⟩
    rw [monitorWindow_declares hen hmxo (.inr hlink) hcount hbad hnew]
    refine ⟨fun hfrc => ?_, fun hsrc => ?_, fun href => ?_, htriggers, hcur, hrefs, hout, hregs⟩
    · obtain rfl : k = 1 := Fin.ext hfrc
      exact sourceFail_frc_flag
    · obtain rfl : k = 2 := Fin.ext hsrc
      exact sourceFail_src_flag
    · obtain ⟨p, rfl⟩ : ∃ p : Fin 2, k = p.addNat 3 :=
        ⟨⟨k.val - 3, by omega⟩, Fin.ext (Nat.sub_add_cancel href).symm⟩
      exact ⟨sourceFail_ref_flag p, sourceFail_ref_linkLost p⟩
  case mxo =>
    intro count s hrun hen hmxo hfrc hcount hbad
    refine ⟨_, exec_monitorWindow 0 count hrun, ?_⟩
    rw [monitorWindow_declares hen hmxo (.inl (by decide)) hcount hbad hmxo]
    exact sourceFail_mxo_coasts hfrc
  case pll =>
    intro p s hrun hen hfrc hlock henabled
    exact ⟨_, exec_pllUnlock p hrun hen, pllUnlock_frcFailed hfrc hlock henabled⟩
end
